-- ==== Sys2Proof/Word.lean ====
section
/-! DEFINITION. The words of the device and the place of a field in a word. -/

namespace Sys2Proof

/-- A 32-bit register word (R4). -/
abbrev Word := BitVec 32

/-- An octet of a frame, a key or a memory bank. -/
abbrev Byte := BitVec 8

/-- A field of a register or table word: the byte offset of the word, the lowest bit and the width. -/
structure Fld where
  addr : Nat
  lo   : Nat
  len  : Nat
  deriving DecidableEq, Repr

end Sys2Proof
end

