-- ==== Sys2Proof/Syntax.lean ====
section
/-! DEFINITION. The commands of the L9640. The device is modelled as a block: it fetches no program, and each row of
the command table is one command, a bus access, an event on a pin or in the air, or a point in time that the spec
names. What the environment decides (the samples of an antenna, the octets of a host read, a comparator's verdict) is
an operand of the command it arrives with (log entry 4). -/

namespace Sys2Proof

/-- Who makes a register access: the host over PCIe, the host over SPI, or a Chaser core (R95, R96). -/
inductive BusSrc where
  | pcie | spi
  | core (c : Fin 16)
  deriving DecidableEq, Repr

/-- The width of a register write (R4). -/
inductive AccWidth where
  | byte | half | word
  deriving DecidableEq, Repr

/-- The part of a register that a read names (R4): the word, or the addressed bytes of it. -/
inductive ReadPart where
  | word
  | half (h : Fin 2)
  | byte (b : Fin 4)
  deriving DecidableEq, Repr

/-- What the environment decides of a bundle's issue (R368 to R371, log entry 35): the cycles that passed since the issue of the
bundle before it, by what the core waited for, in the order of CAUSE 1 to 8 (R397), and how many bank and BAR0 accesses were
outstanding in them. -/
structure Cyc where
  line   : Nat
  bubble : Nat
  entry  : Nat
  acc    : Nat
  fp     : Nat
  mem    : Nat
  bank   : Nat
  bar0   : Nat
  inflight : Nat
  deriving DecidableEq, Repr

/-- What an ANNOUNCE carries (R323), with the sender's address and its last takeover (R335, log entry 22). -/
structure Announce where
  uid      : BitVec 64
  cellid   : BitVec 16
  epoch    : Word
  pubX     : BitVec 256
  pubY     : BitVec 256
  certR    : BitVec 256
  certS    : BitVec 256
  castKey  : Word
  beatGeom : Word
  sfPhase  : Word
  role     : Fin 4
  tvalid   : Bool
  serving  : Bool
  took     : Option Word
  addr     : List Word
  deriving DecidableEq, Repr

/-- What came before a UPL message's payload (R321, R322): its port, its sender's entry, its counter, and whether its MIC
holds. -/
structure UplIn where
  port : Fin 2
  peer : Fin 64
  ctr  : Word
  mic  : Bool
  deriving DecidableEq, Repr

/-- The record that an HO-XFER carries (R328); the keys are wrapped under the pair's key. -/
structure HoRecord where
  eui    : BitVec 64
  dclass : BitVec 3
  router : Bool
  lastRx : BitVec 64
  acc    : Word
  dn     : Word
  join   : Word
  kgen   : Byte
  fwver  : Word
  jkWrap : List Byte
  skWrap : List Byte
  deriving DecidableEq, Repr

/-- What an ALARM carries of a sentinel frame (R336). -/
structure AlarmIn where
  lane    : Fin 4
  tap     : Fin 32
  cellid  : BitVec 16
  recidx  : BitVec 18
  fcnt    : Word
  ts      : BitVec 64
  rssi    : Byte
  again   : Bool
  payload : List Byte
  deriving DecidableEq, Repr

/-- An entry of a MIRROR (R332): record index, bytes 0x00 to 0x3F and 0x60 to 0x7B as words, and the wrapped join and session
keys where they changed. -/
structure MirrorRec where
  idx  : BitVec 18
  lo   : List Word
  hi   : List Word
  keys : Option (List Byte × List Byte)
  deriving DecidableEq, Repr

/-- What a MIRROR carries beside records (R332): wrapped beacon keys with NEXT, the lane beacon counters, and ledger buckets
(band group, entry, second, µs). -/
structure MirrorRest where
  keys    : Option (List Byte × List Byte × Bool)
  beacon  : List Word
  buckets : List (Fin 3 × Fin 17 × Word × Word)
  deriving DecidableEq, Repr

/-- What the correlators of a slice hold at its code epoch (R109, R112): the epoch, the integration sums in tap order, I before
Q, and whether more than 1/16 of the samples were blanked. -/
structure DumpIn where
  epoch   : BitVec 64
  sums    : List Int
  blanked : Bool
  deriving DecidableEq, Repr

/-- What the GNSS program on Q0 takes from Galileo navigation messages under OSNMA (R156): a public key with its Merkle path (the octets
of the leaf, the key's X and Y, and the sibling at each level with whether it stands on the left), a DSM-KROOT with its signature, a
disclosed TESLA key with the octets whose hash it is to equal, a tag over navigation data, and new navigation data of a satellite.
`known` says that the functions that the message names are ones that R156 lists. -/
inductive OsnIn where
  | key (known : Bool) (leaf : List Byte) (x y : BitVec 256) (path : List (Bool × List Byte))
  | root (known : Bool) (msg : List Byte) (r s : BitVec 256)
  | chain (known : Bool) (input hash : List Byte)
  | tag (known : Bool) (svid : BitVec 6) (key msg mac : List Byte)
  | data (svid : BitVec 6)
  deriving DecidableEq, Repr

/-- What the GNSS program on Q0 finds at an epoch (R148 to R150, R152): the slices whose measurements it can use, the position in 0.1 mm
with its 1σ accuracy in mm (in a survey, that of the mean), clock offset, its accuracy and unit, frequency, the RMS of the residuals
against the fixed position in mm, ephemerides (constellation in the order of CONST, satellite, device second to which it is valid),
whether an almanac has become complete, and what it takes from OSNMA. -/
structure SolveIn where
  used   : List (Fin 192)
  pos    : Int × Int × Int
  acc    : Word
  ofs    : Word
  ofsAcc : Byte
  coarse : Bool
  frq    : Word
  rms    : Nat
  eph    : List (Fin 5 × BitVec 6 × Word)
  alm    : Bool
  osn    : List OsnIn
  deriving DecidableEq, Repr

/-- What the PHR of a received frame says (R199): an option that the device does not support, the length of the PSDU with its FCS, the
length of the FCS, and whitening. -/
structure RxPhr where
  unsupported : Bool
  len         : Nat
  fcs4        : Bool
  whiten      : Bool
  deriving DecidableEq, Repr

/-- What the reference monitor measures of one reference in a second (R169): y in 0.001 ppb, against GNSS while that
is healthy and else on one scale for the three, and whether its rate differs from the configured rate by more than 100 ppm. -/
structure RefMeas where
  y     : Int
  rate  : Bool
  deriving DecidableEq, Repr

/-- The commands: one constructor for each row of the command table, in its order: first the rows with operands, then those
without (the compiler takes no constructor with fields beyond number 243). -/
inductive Instr where
  /-- REGISTER_WRITE (R95): A 32-bit write to a register or table word that has no row of its own is judged for
  rejection and otherwise sets the field under its type. -/
  | registerWrite (src : BusSrc) (addr : BitVec 24) (width : AccWidth) (value : Word)
  /-- BEAT_EDGE (R13): The beat generator reaches a beat edge, and the stations take their per-edge actions. -/
  | beatEdge (uplLate : Bool)
  /-- READ_BEATCNT (R20): A read of TIM_BEATCNT returns the count and captures TIM_BEATPOS. -/
  | readBeatcnt (src : BusSrc) (part : ReadPart)
  /-- HOST_BAR2_READ (R34): A host read through BAR2 reaches a bank after the owner check, or completes with
  Completer Abort. -/
  | hostBar2Read (offset : BitVec 26) (len : Fin 65)
  /-- HOST_BAR2_WRITE (R34): A host write through BAR2 reaches a bank after the owner check, or is dropped. -/
  | hostBar2Write (offset : BitVec 26) (data : List Byte)
  /-- CAST_LOAD (R54): A write of 1 to MGT_CASTCTL.LOAD starts staging of a host casting. -/
  | castLoad (src : BusSrc)
  /-- CAST_CANCEL (R64): A write of 1 to MGT_CASTCTL.CANCEL abandons a load that has not reached quiesce. -/
  | castCancel (src : BusSrc)
  /-- CAST_STAGED (R55): Staging of an image completes, and the header, record CRC and order checks run. -/
  | castStaged (image : Option (List Byte))
  /-- ARB_ADVANCE (R51): A write of 1 to MGT_CASTCTL.ARBADV advances the anti-rollback counter to the running
  ARBVER. -/
  | arbAdvance (src : BusSrc)
  /-- FUNCTION_RESET (R60): A write of a reset ID to MGT_FRESET starts the quiesce of that function. -/
  | functionReset (src : BusSrc) (id : Byte)
  /-- QUIESCE_FORCED (R63): A core has not yielded within 4 beats of quiesce start and is reset by force. -/
  | quiesceForced (core : Fin 16)
  /-- DORMANT_REQUEST (R72): A DORMANT request stops planning at the next commit point and begins the entry
  sequence. -/
  | dormantRequest (src : BusSrc)
  /-- ANNEAL_REQUEST (R68): An ANNEAL request restarts the device through a cold or wake start. -/
  | annealRequest (src : BusSrc)
  /-- SURVEY_REQUEST (R69): A SURVEY request enters SURVEY, or is held until the device is ready. -/
  | surveyRequest (src : BusSrc)
  /-- PORST_RELEASE (R73): Release of PORST_N with the rails in range samples CAST_SRC and starts the cold start. -/
  | porstRelease (castSrc : Bool)
  /-- ASSAY_STAGE1_DONE (R76): Assay stage 1 ends, holding the device in ANNEAL on a failure. -/
  | assayStage1Done (fail : BitVec 5)
  /-- CRUCIBLE_INDEX_SCAN_DONE (R412): The index scan judges every ingot copy and lists the valid ingots. -/
  | crucibleIndexScanDone (bad : List (Nat × Nat × Bool))
  /-- ASSAY_STAGE2_DONE (R76): Assay stage 2 ends, and failing functions are held in reset and failing banks fenced. -/
  | assayStage2Done (fail : Word) (banks : List (Fin 192))
  /-- CALIBRATION_DONE (R209): Calibration ends, and the device enters SURVEY if AUTOSURVEY is set. -/
  | calibrationDone (cals : List (Word × Word)) (irr : List (BitVec 16))
  /-- ASSAY_RERUN (R77): A write of 1 to MGT_ASSAYCTL.RUN in ANNEAL runs Assay stage 2 again. -/
  | assayRerun (src : BusSrc)
  /-- WAKE_SOURCE (R74): An enabled wake source fires in DORMANT and starts a wake start. -/
  | wakeSource (fired : BitVec 4)
  /-- COMMIT_REQUEST (R83): A write of 1 to MGT_COMMIT.REQ queues every dirty kept register for the Crucible. -/
  | commitRequest (src : BusSrc)
  /-- INGOT_WRITE_DONE (R411): An ingot copy write and its read-back complete. -/
  | ingotWriteDone (ok : Bool) (maxw : Word) (spare : Byte)
  /-- AGC_LIMIT (R102): A chain gain has held at a range end for 100 ms. -/
  | agcLimit (band : Fin 2) (high : Bool) (left : Bool)
  /-- BLANK_FRACTION_HIGH (R103): The blanked fraction of the last millisecond exceeds 1/16. -/
  | blankFractionHigh (band : Fin 2) (frac : BitVec 16)
  /-- NOTCH_CHANGE (R104): An adaptive notch locks onto or releases a narrowband line. -/
  | notchChange (band : Fin 2) (k : Fin 4) (lock : Bool) (freq : BitVec 12) (depth : Byte)
  /-- LO_UNLOCK (R105): A GNSS chain LO loses lock, and the band enters the no-samples state. -/
  | loUnlock (band : Fin 2)
  /-- INPUT_OVERLOAD (R126): A GNSS chain sees an input overload. -/
  | inputOverload (band : Fin 2)
  /-- DUMP_LATCH (R109): At a slice's code epoch, its integration ends and the dump is latched into the batch. -/
  | dumpLatch (slice : Fin 192) (data : DumpIn)
  /-- SLICE_STATE_WRITE (R110): A write to a slice's words in the slice state window takes effect at the next code
  epoch after the next edge. -/
  | sliceStateWrite (src : BusSrc) (slice : Fin 192) (word : Fin 64) (value : Word)
  /-- ACQ_PUSH (R115): A write of 1 to GNC_ACQCTL.PUSH queues an acquisition request, or refuses it. -/
  | acqPush (src : BusSrc)
  /-- ACQ_POP (R118): A write of 1 to GNC_ACQCTL.POP removes the oldest acquisition result. -/
  | acqPop (src : BusSrc)
  /-- ACQ_CANCEL (R119): A write of 1 to GNC_ACQCTL.CANCEL ends every request with the tag in GNC_ACQW1. -/
  | acqCancel (src : BusSrc)
  /-- ACQ_FLUSH (R119): A write of 1 to GNC_ACQCTL.FLUSH ends every request. -/
  | acqFlush (src : BusSrc)
  /-- ACQ_REQUEST_DONE (R117): The engine finishes a request's hypotheses and writes its result. -/
  | acqRequestDone (pnr : Byte) (ratio : Byte) (codeph : BitVec 18) (dopp : BitVec 17)
  /-- SNAP_START (R121): A write of 1 to GNC_SNAPCTL.START begins a snapshot capture or ends it at once. -/
  | snapStart (src : BusSrc) (value : Word)
  /-- SNAP_ABORT (R125): A write of 1 to GNC_SNAPCTL.ABORT stops the running capture. -/
  | snapAbort (src : BusSrc) (samples : List Byte)
  /-- SNAP_DONE (R122): The capture ends, and the header is written. -/
  | snapDone (samples : List Byte)
  /-- PRED_ARM (R133): A write of ARM into a prediction slot arms it, or discards it as stale or late. -/
  | predArm (src : BusSrc) (slice : Fin 192) (slot : Fin 4) (t : Word)
  /-- TSOL_POST (R151): A write of GNT_TSOL_CTL.POST passes the time solution to TIM and updates the fix state. -/
  | tsolPost (src : BusSrc) (value : Word) (sol : Option SolveIn)
  /-- NAP_WAKE (R155): A write of 1 to GNT_NAPCTL.WAKE ends the nap. -/
  | napWake (src : BusSrc)
  /-- READ_NOW (R190): A read of TIM_NOW0 returns the time and latches the other time words. -/
  | readNow (src : BusSrc) (part : ReadPart)
  /-- SET_SECOND (R190): A write of TIM_SETSEC in SURVEY labels the current device second. -/
  | setSecond (src : BusSrc) (sec : Word)
  /-- LEAP_TABLE_WRITE (R164): A word write to the leap-second table is checked and stored. -/
  | leapTableWrite (src : BusSrc) (entry : Fin 256) (word : Fin 4) (value : Word)
  /-- REF_MONITOR_SECOND (R170): Each second, the monitor measures every frequency reference and moves its state. -/
  | refMonitorSecond (xo : RefMeas) (refa : RefMeas) (refb : RefMeas)
  /-- REF_ABSENT (R170): A frequency reference has had no edge for 1 ms. -/
  | refAbsent (ref : Fin 3)
  /-- REF_EDGES_RETURN (R170): Edges return on an absent reference, which enters qualifying. -/
  | refEdgesReturn (ref : Fin 3)
  /-- PPS_IN_EDGE (R173): An edge on PPS_IN is timestamped and judged for PPS health. -/
  | ppsInEdge (ps : Nat)
  /-- TP_ARM (R184): A time pulse is armed 10 ms before emission, with its delay frozen. -/
  | tpArm (n : Fin 2) (t : BitVec 64)
  /-- TP_EMIT (R183): A time pulse rises at its emission instant when both comparators match. -/
  | tpEmit (n : Fin 2) (agree : Bool)
  /-- TP_PULSE_END (R186): WIDTH elapses, and the pulse falls. -/
  | tpPulseEnd (n : Fin 2)
  /-- TP_DLYA_WRITE (R185): A write of TIM_TPnDLYA stages a new delay. -/
  | tpDlyaWrite (src : BusSrc) (n : Fin 2) (value : Word)
  /-- TP_DLYB_COMMIT (R185): A write of TIM_TPnDLYB commits the delay pair, or faults the output. -/
  | tpDlybCommit (src : BusSrc) (n : Fin 2) (value : Word)
  /-- TP_COPY_DISAGREE (R185): The stored delay copies disagree, and every pulse of the output is suppressed. -/
  | tpCopyDisagree (n : Fin 2)
  /-- TIC_ARM (R187): A write of 1 to TIM_TICCTL.ARM arms the time-interval counter. -/
  | ticArm (src : BusSrc)
  /-- TIC_DISARM (R187): A write of 1 to TIM_TICCTL.DISARM disarms the counter. -/
  | ticDisarm (src : BusSrc)
  /-- TIC_POP (R188): A write of 1 to TIM_TICCTL.POP removes the oldest result. -/
  | ticPop (src : BusSrc)
  /-- TIC_EDGE (R187): An edge on a start or stop source is timestamped and may complete a pair. -/
  | ticEdge (input : Fin 2) (ps : Nat)
  /-- RX_WINDOW_START (R201): A receive ticket's window opens, and its tap starts searching. -/
  | rxWindowStart (entry : Fin 2048)
  /-- SFD_DETECT (R201): A tap detects an SFD in its window and receives the frame. -/
  | sfdDetect (lane : Fin 4) (tap : Fin 32) (ts : BitVec 64)
  /-- FRAME_RECEIVED (R202): A frame's last symbol ends, and the tap checks it and hands it to MAC or to the express
  engine. -/
  | frameReceived (lane : Fin 4) (tap : Fin 32) (phr : RxPhr) (psdu : List Byte) (rssi : Byte) (cfo : Int)
  /-- RX_WINDOW_END (R201): A receive window closes, and the ticket's outcome is delivered. -/
  | rxWindowEnd (entry : Fin 2048)
  /-- TX_RETUNE_START (R203): The transmit synthesiser starts a retune before a transmission on a new channel. -/
  | txRetuneStart (entry : Fin 2048)
  /-- SYNTH_SETTLED (R207): A synthesiser retune settles, and an unseeded result is written to the temper table. -/
  | synthSettled (lane : Fin 4) (tx : Bool) (seeds : Word) (iq : Word)
  /-- TX_BLANK_START (R211): Blanking of the band group starts before a transmission. -/
  | txBlankStart (entry : Fin 2048)
  /-- TX_ANTSEL (R203): ANTSEL takes the ticket's antenna ANTLEAD before PAEN. -/
  | txAntsel (entry : Fin 2048)
  /-- TX_PAEN_RISE (R203): PAEN rises and LNAEN falls PALEAD before the ramp-up. -/
  | txPaenRise (entry : Fin 2048)
  /-- TX_RAMP_UP (R203): The ramp-up starts if the synthesiser has settled, and the ticket retires NOTREADY
  otherwise. -/
  | txRampUp (entry : Fin 2048)
  /-- TX_RAMP_DOWN (R203): The airtime ends, and the ramp-down starts. -/
  | txRampDown (entry : Fin 2048)
  /-- TX_PAEN_FALL (R203): The ramp-down ends, PAEN falls and the transmit outcome is delivered. -/
  | txPaenFall (entry : Fin 2048) (ts : BitVec 64)
  /-- TX_BLANK_END (R211): Blanking ends 2 µs after PAEN falls, and idle taps resume. -/
  | txBlankEnd (lane : Fin 4)
  /-- LANE_AGC_FAST_ATTACK (R195): More than 1 % of samples clip within 10 µs, and the lane gain drops by 6 dB. -/
  | laneAgcFastAttack (lane : Fin 4)
  /-- PAFLT_ACTIVE (R212): PAFLT becomes active, PAEN falls and the transmitter is fenced. -/
  | pafltActive (lane : Fin 4) (level : Bool) (ts : BitVec 64)
  /-- TX_FENCE_CLEAR (R212): A write of 1 to RFLn_CTL.TXCLR lifts the PAFLT fence if PAFLT is inactive. -/
  | txFenceClear (src : BusSrc) (lane : Fin 4)
  /-- TRIM_DUE (R209): The lane temperature moves more than 10 °C from the last trim. -/
  | trimDue (lane : Fin 4) (temp : Byte)
  /-- TRIM_REQUEST (R209): A write of 1 to RFLn_CTL.TRIMREQ requests an image trim. -/
  | trimRequest (src : BusSrc) (lane : Fin 4)
  /-- TRIM_DONE (R209): The image trim completes, and RFLn_IQ is updated. -/
  | trimDone (lane : Fin 4) (irr : BitVec 16)
  /-- SYNTH_UNLOCK (R217): A lane synthesiser loses lock outside a retune. -/
  | synthUnlock (lane : Fin 4) (tx : Bool)
  /-- TEMPER_TABLE_WRITE (R208): A host write to a temper table, accepted only in ANNEAL. -/
  | temperTableWrite (src : BusSrc) (lane : Fin 4) (entry : Fin 512) (word : Fin 8) (value : Word)
  /-- FMB_WRITE (R213): RFL0_FMBXFER.GO with READ = 0 starts a verified FMB write. -/
  | fmbWrite (src : BusSrc) (addr : BitVec 7) (reg : Byte) (val : Byte)
  /-- FMB_READ (R213): RFL0_FMBXFER.GO with READ = 1 starts an FMB read. -/
  | fmbRead (src : BusSrc) (addr : BitVec 7) (reg : Byte)
  /-- FMB_TRANSACTION_DONE (R214): An FMB transaction ends with data, or with a bus failure or fence. -/
  | fmbTransactionDone (data : Option Byte)
  /-- NODE_RECORD_WRITE (R229): A write to a node record word is judged against the state rules and stored. -/
  | nodeRecordWrite (src : BusSrc) (index : Fin 8192) (word : Fin 32) (value : Word)
  /-- OUTCOME_DELIVERED (R257): A ticket outcome reaches SCH, which checks dependants' predictions and squashes. -/
  | outcomeDelivered (entry : Fin 2048)
  /-- BLACKLIST_WRITE (R257): A write to SCH_BLKLOn or SCH_BLKHIn that sets bits squashes tickets on those channels. -/
  | blacklistWrite (src : BusSrc) (lane : Fin 4) (high : Bool) (value : Word)
  /-- SCH_CANCEL (R265): A write of SCH_CANCEL.GO cancels the named request's tickets. -/
  | schCancel (src : BusSrc)
  /-- MEQ_POP (R271): A write of 1 to FWD_MEQCTL.POP removes the oldest mesh egress descriptor. -/
  | meqPop (src : BusSrc)
  /-- FILTER_CLEAR_DONE (R281): The background clear of a length-filter bit ends, and waiting insertions proceed. -/
  | filterClearDone (slot : Fin 16)
  /-- FWD_LOCK_REQUEST (R287): A write of FWD_LOCK.REQ stops background updates of a table. -/
  | fwdLockRequest (src : BusSrc) (req : BitVec 4)
  /-- FWD_LOCKED (R287): In-flight updates finish, and LOCKED rises. -/
  | fwdLocked (table : Fin 4)
  /-- FWD_TABLE_WRITE (R288): A direct write to a locked forwarding table, committed at the VALID word. -/
  | fwdTableWrite (src : BusSrc) (ofs : BitVec 20) (value : Word)
  /-- SHADOW_CHUNK_COMPARE (R289): A shadow chunk's DMA read completes and is compared with the live entries. -/
  | shadowChunkCompare (data : Option (List Byte))
  /-- SHADOW_RECHECK (R290): One beat later a mismatch is compared again, reported and optionally repaired. -/
  | shadowRecheck (data : Option (List Byte))
  /-- KEY_PROVISION (R305): KEYCMD op PROVISION unwraps a join key into a node record. -/
  | keyProvision (src : BusSrc)
  /-- BKEY_GEN (R302): KEYCMD op BKEYGEN draws a beacon key into slot 2 or 3. -/
  | bkeyGen (src : BusSrc)
  /-- BKEY_IMPORT (R302): KEYCMD op BKEYIMPORT loads a wrapped beacon key into slot 2 or 3. -/
  | bkeyImport (src : BusSrc)
  /-- ERASE_SLOT (R302): KEYCMD op ERASE slot erases a key-store slot. -/
  | eraseSlot (src : BusSrc)
  /-- ERASE_RECORD_KEYS (R304): KEYCMD op ERASE record keys erases a node record's keys. -/
  | eraseRecordKeys (src : BusSrc)
  /-- JOIN_COMMAND (R306): A write of SEC_JOINCMD.GO derives a session key and submits a JOINRESP. -/
  | joinCommand (src : BusSrc) (idx : BitVec 18)
  /-- TRNG_RETEST (R308): A write of 1 to SEC_TRNGSTAT.RETEST runs the start-up test. -/
  | trngRetest (src : BusSrc)
  /-- TRNG_READ (R308): A read of SEC_TRNG returns fresh random bits, or 0 while unhealthy. -/
  | trngRead (src : BusSrc) (part : ReadPart)
  /-- JOB_SHA256 (R293): A PUSH of a SHA-256 job queues it for the hash engine. -/
  | jobSha256 (src : BusSrc)
  /-- JOB_HMAC_SHA256 (R293): A PUSH of an HMAC-SHA-256 job queues it for the hash engine. -/
  | jobHmacSha256 (src : BusSrc)
  /-- JOB_ECDSA_VERIFY (R293): A PUSH of an ECDSA-VERIFY job queues it for the ECC engine. -/
  | jobEcdsaVerify (src : BusSrc)
  /-- JOB_ECDH_TM (R293): A PUSH of an ECDH-TM job queues a key derivation into a key slot. -/
  | jobEcdhTm (src : BusSrc)
  /-- JOB_POP (R293): A write of 1 to SEC_JOBCTL.POP removes the oldest job result. -/
  | jobPop (src : BusSrc)
  /-- IMAGE_LOAD (R310): A write of SEC_IMGiCFG.LOAD starts verification of an image slot. -/
  | imageLoad (src : BusSrc) (slot : Fin 4)
  /-- IMAGE_VERIFY_DONE (R310): Image verification ends with the slot VALID or REJECTED. -/
  | imageVerifyDone (slot : Fin 4)
  /-- IMAGE_DROP (R310): A write of SEC_IMGiCFG.DROP empties an image slot. -/
  | imageDrop (src : BusSrc) (slot : Fin 4)
  /-- CAMP_PREPARE (R311): PREPARE draws a campaign ID and key, resets the counter and starts the RaptorQ
  computation. -/
  | campPrepare (src : BusSrc) (camp : Fin 4)
  /-- CAMP_PREPARE_DONE (R311): The intermediate symbols are computed, and the campaign becomes READY. -/
  | campPrepareDone (camp : Fin 4)
  /-- CAMP_START (R313): START makes a READY or PAUSED campaign ACTIVE. -/
  | campStart (src : BusSrc) (camp : Fin 4)
  /-- CAMP_PAUSE (R313): PAUSE makes an ACTIVE campaign PAUSED and cancels its planned tickets. -/
  | campPause (src : BusSrc) (camp : Fin 4)
  /-- CAMP_END (R313): END returns a campaign to IDLE and erases its key. -/
  | campEnd (src : BusSrc) (camp : Fin 4)
  /-- ANNOUNCE_RECEIVED (R324): An ANNOUNCE is received, and the peer entry is created or advanced. -/
  | announceReceived (port : Fin 2) (a : Announce)
  /-- PEER_KEYING_DONE (R324): The ECDH of a KEYING peer completes, and the peer becomes KEYED or MISMATCH. -/
  | peerKeyingDone (peer : Fin 64)
  /-- PEER_AGE_OUT (R324): A peer is heard on neither port for 3 s and becomes FREE. -/
  | peerAgeOut (peer : Fin 64)
  /-- PEER_REJECT_EXPIRY (R324): The 60 s for which a REJECTED peer's announcements are ignored ends. -/
  | peerRejectExpiry (peer : Fin 64)
  /-- HELLO_RECEIVED (R333): A HELLO is received and refreshes the peer and the partner's serving state. -/
  | helloReceived (u : UplIn) (serving : Bool) (role : Fin 4) (tvalid : Bool)
  /-- PTP_MESSAGE (R319): A PTP message is received or sent with a hardware timestamp and may update offset and
  lock. -/
  | ptpMessage (port : Fin 2) (st : Fin 7) (offset : Option Int) (freq : Option Int)
  /-- PTP_OFFSET_TIMEOUT (R320): 2 s pass without a PTP offset, and the port unlocks. -/
  | ptpOffsetTimeout (port : Fin 2)
  /-- ETH_LINK_CHANGE (R318): A peer port's link goes up or down. -/
  | ethLinkChange (port : Fin 2) (up : Bool) (speed : Fin 4)
  /-- HO_PULL (R327): PLK_HOCMD.GO with op PULL checks the target and sends an HO-REQ. -/
  | hoPull (src : BusSrc) (peer : Fin 64)
  /-- HO_REQ_RECEIVED (R328): A source receives an HO-REQ and answers HO-NAK, or snapshots, frees and sends HO-XFER. -/
  | hoReqReceived (u : UplIn) (eui : BitVec 64)
  /-- HO_XFER_RECEIVED (R329): A target receives HO-XFER, installs the record and sends HO-ACK. -/
  | hoXferReceived (u : UplIn) (r : HoRecord)
  /-- HO_ACK_RECEIVED (R329): A source receives HO-ACK and frees the snapshot. -/
  | hoAckReceived (u : UplIn)
  /-- HO_NAK_RECEIVED (R330): An HO-NAK ends the target's command, or schedules the source's restore. -/
  | hoNakReceived (u : UplIn) (status : Fin 16)
  /-- UPL_RETRANSMIT (R322): A reliable message unanswered for 10 ms is sent again with a new CTR. -/
  | uplRetransmit (peer : Fin 64) (ty : Fin 256)
  /-- UPL_TIMEOUT (R322): A reliable message is unanswered after its fourth sending. -/
  | uplTimeout (peer : Fin 64) (ty : Fin 256)
  /-- MIRROR_RECEIVED (R332): The standby writes mirrored entries into its records and answers MIRROR-ACK. -/
  | mirrorReceived (u : UplIn) (recs : List MirrorRec) (rest : MirrorRest)
  /-- MIRROR_ACK_RECEIVED (R332): A MIRROR-ACK acknowledges a MIRROR message. -/
  | mirrorAckReceived (u : UplIn)
  /-- ALARM_RECEIVED (R336): An ALARM is received, deduplicated and posted on the express path as foreign. -/
  | alarmReceived (u : UplIn) (a : AlarmIn)
  /-- DATA_RECEIVED (R326): A DATA message is received and handed to FWD as ingress. -/
  | dataReceived (u : UplIn) (rep : Bool) (body : List Byte)
  /-- BUNDLE_ISSUE (R345): A core issues a bundle, whose syllables read, compute and push in unit order, or traps. -/
  | bundleIssue (core : Fin 16) (cyc : Cyc)
  /-- INTERRUPT_ENTRY (R379): A permitted pending interrupt is taken at a bundle boundary, through the shadow set or
  a frame. -/
  | interruptEntry (core : Fin 16) (lat : Nat)
  /-- EVENT_TO_CORE (R382): A routed event enters a core's event FIFO, or is dropped when the FIFO is full. -/
  | eventToCore (core : Fin 16) (id : Fin 512) (data : Word)
  /-- DOORBELL_RING (R382): A write of CHB_CnDOORBELL.RING makes DOORBELL pending. -/
  | doorbellRing (src : BusSrc) (core : Fin 16) (data : BitVec 16)
  /-- CORE_OFFER (R272): A write of CHB_CnOFFER1.GO offers a frame from a core's bank to FWD. -/
  | coreOffer (src : BusSrc) (core : Fin 16) (len : BitVec 11)
  /-- OFFER_COPY_DONE (R272): FWD's copy of an offered frame completes with its status. -/
  | offerCopyDone (core : Fin 16)
  /-- PMU_COUNTER_READ (R391): A read of PMU_CNTk_LO returns the low word and captures the high word. -/
  | pmuCounterRead (src : BusSrc) (part : ReadPart) (core : Fin 16) (k : Fin 48) (idle : Nat)
  /-- PMU_COUNTER_WRITE (R391): A supervisor write loads a counter, and that cycle's increment is lost. -/
  | pmuCounterWrite (src : BusSrc) (core : Fin 16) (k : Fin 48) (high : Bool) (value : Word)
  /-- PMU_SNAP (R395): A write of 1 to PMU_CTL.SNAP copies all counters into the snapshot registers. -/
  | pmuSnap (src : BusSrc) (core : Fin 16) (idle : Nat)
  /-- PMU_SAMPLE_RESET (R397): A write of 1 to PMU_CTL.SRESET empties the sample buffer. -/
  | pmuSampleReset (src : BusSrc) (core : Fin 16)
  /-- BANK_HANDOVER (R403): A write of a new owner to MEM_BANKn_OWN starts a handover, or is rejected. -/
  | bankHandover (src : BusSrc) (bank : Fin 192) (value : Word)
  /-- HANDOVER_COMPLETE (R404): The old owner's last access drains, and OWNER takes the new code. -/
  | handoverComplete (bank : Fin 192)
  /-- SQ_DOORBELL (R421): A write of HST_QnSQTAIL announces new commands for fetch. -/
  | sqDoorbell (src : BusSrc) (q : Fin 8) (ptr : Byte)
  /-- CQ_DOORBELL (R421): A write of HST_QnCQHEAD frees completion entries and lets held completions post. -/
  | cqDoorbell (src : BusSrc) (q : Fin 8) (ptr : Byte)
  /-- COMMAND_FETCHED (R423): A command arrives from a submission queue and is checked for duplicates and bad
  fields. -/
  | commandFetched (q : Fin 8) (words : List Word)
  /-- ADMIN_NOP (R424): The ADMIN NOP command completes at once with OK. -/
  | adminNop (q : Fin 8) (tag : BitVec 16)
  /-- ADMIN_ABORT (R424): The ADMIN ABORT command cancels a request's tag. -/
  | adminAbort (q : Fin 8) (tag : BitVec 16)
  /-- MESH_DOWNLINK (R425): A DOWNLINK command is checked and submitted to SCH as a request. -/
  | meshDownlink (q : Fin 8) (tag : BitVec 16)
  /-- MESH_BROADCAST (R425): A BROADCAST command requests NSYM campaign symbols. -/
  | meshBroadcast (q : Fin 8) (tag : BitVec 16)
  /-- FWD_OFFER (R426): An OFFER command copies a frame into FWD's input queue. -/
  | fwdOffer (q : Fin 8) (tag : BitVec 16)
  /-- COMMAND_TIMEOUT (R430): A command's timeout expires, and its request is cancelled. -/
  | commandTimeout (q : Fin 8) (tag : BitVec 16)
  /-- COMPLETION_WRITE (R427): A completion entry is written and the queue vector is signalled. -/
  | completionWrite (q : Fin 8)
  /-- EVENT_RECORD_DROP (R435): An event record meets a full on-chip buffer and is dropped. -/
  | eventRecordDrop (id : Fin 256) (data : Word)
  /-- VECTOR_HOLDOFF_EXPIRY (R433): A vector's HOLDOFF ends, and one message is sent if it is pending. -/
  | vectorHoldoffExpiry (v : Fin 32)
  /-- MSIX_UNMASK (R433): A masked vector with its pending bit set is unmasked and sends. -/
  | msixUnmask (src : BusSrc) (v : Fin 32)
  /-- PCIE_LINK_UP (R420): The link comes up again, and HST_STAT.DOWNS counts it. -/
  | pcieLinkUp (speed : Fin 3) (width : Fin 4) (bme : Bool)
  /-- SPI_READ32 (R436): SPI opcode 0x0B reads BAR0 words. -/
  | spiRead32 (addr : BitVec 24) (n : Fin 65)
  /-- SPI_WRITE32 (R436): SPI opcode 0x02 writes BAR0 words. -/
  | spiWrite32 (addr : BitVec 24) (words : List Word)
  /-- SPI_READB2 (R436): SPI opcode 0x1B reads BAR2 words. -/
  | spiReadb2 (offset : BitVec 32) (n : Fin 65)
  /-- SPI_WRITEB2 (R436): SPI opcode 0x12 writes BAR2 words. -/
  | spiWriteb2 (offset : BitVec 32) (words : List Word)
  /-- SPI_STAGE (R436): SPI opcode 0x22 writes words into the casting staging area. -/
  | spiStage (offset : BitVec 24) (words : List Word)
  /-- SPI_SUBMIT (R436): SPI opcode 0x41 queues a command to queue 7. -/
  | spiSubmit (words : List Word)
  /-- BROWNOUT_WARNING (R446): PFAIL_N or a rail threshold starts the brown-out warning and a priority commit. -/
  | brownoutWarning (source : Fin 3)
  /-- RTC_DATE_WRITE (R452): A write of BKP_DATE is held until the next BKP_TIME write. -/
  | rtcDateWrite (src : BusSrc) (value : Word)
  /-- RTC_TIME_WRITE (R452): A write of BKP_TIME sets the time and any held date and resets the prescaler. -/
  | rtcTimeWrite (src : BusSrc) (value : Word)
  /-- RTC_TIME_READ (R452): A read of BKP_TIME captures BKP_DATE. -/
  | rtcTimeRead (src : BusSrc) (part : ReadPart)
  /-- RTC_RESYNC (R456): Every SYNCH hours in SERVICE, the RTC is measured against UTC and rewritten. -/
  | rtcResync (ofs : Int)
  /-- DIPS_CLEAR (R455): A write of 1 to BKP_CTL.DIPCLR clears DIPS. -/
  | dipsClear (src : BusSrc)
  /-- LO_LOCK (R105): A GNSS chain LO regains lock, the band's samples resume and the first dump of each slice
  carries NOSAMPLES. -/
  | loLock (band : Fin 2)
  /-- CYCLE_COUNTER_WRAP (R391): A performance counter that counts cycles without a bundle issuing, such as CYCLES
  or WAITCYC while the core is in WAIT or halted, passes 2^48 − 1, wraps and sets OVF. -/
  | cycleCounterWrap (core : Fin 16) (k : Fin 48)
  /-- COMMIT_POINT (R253): At 150 µs before an edge, SCH applies pending squashes, commits the beat, builds fixed
  tickets and submits transmissions to the ledgers. -/
  | commitPoint
  /-- APPLY_CUTOFF (R134): At 100 µs before an edge, GNT freezes the armed slot or the scalar words of each slice. -/
  | applyCutoff
  /-- CHASER_DEADLINE (R28): The cast deadline passes, and every core whose beat program has not yielded overruns. -/
  | chaserDeadline
  /-- CAST_HOST_TIMEOUT (R52): No LOAD arrives within 10 s with CAST_SRC high, so the loader tries the safe slot. -/
  | castHostTimeout
  /-- CAST_CHECKED (R55): Signature, rollback and semantic checks complete; a full casting is applied, or quiesce of
  the target starts for a partial one. -/
  | castChecked
  /-- QUIESCE_COMPLETE (R60): The target's quiesce condition is met, and reset, load, restore and release follow. -/
  | quiesceComplete
  /-- DORMANT_POWER_DOWN (R72): Once tickets have retired, cores have quiesced and the commit has ended, the domains
  not kept for DORMANT power down. -/
  | dormantPowerDown
  /-- PORST_ASSERT (R467): A falling edge of PORST_N drops the outputs and holds the device in reset. -/
  | porstAssert
  /-- FABRIC_SYNTH_LOCK (R480): The fabric synthesiser locks, and TS64 starts from 0. -/
  | fabricSynthLock
  /-- WAKE_TIMER_EXPIRY (R68): The DORMANT timer of MGT_WAKECFG.DURATION expires and wakes the device. -/
  | wakeTimerExpiry
  /-- SURVEY_TIMEOUT (R71): SURVEY has lasted longer than SURVEYMAX × 10 s. -/
  | surveyTimeout
  /-- COMMIT_PASS_DONE (R85): A commit pass ends, with any merged pass, and COMMIT-DONE is raised. -/
  | commitPassDone
  /-- LEASE_COMMITTED (R415): A lease ingot commits, and the counter update waiting on it takes effect. -/
  | leaseCommitted
  /-- NODE_CHECKPOINT (R414): The paced background checkpoint writes a node-record ingot that has changed. -/
  | nodeCheckpoint
  /-- LEDGER_CHECKPOINT (R409): Every LEDGERP seconds the duty-cycle ledger ingots are queued. -/
  | ledgerCheckpoint
  /-- ACQ_BLOCKS_COMPLETE (R116): The last block of a request's frozen set completes, and its search begins. -/
  | acqBlocksComplete
  /-- SNAP_FIRST_SAMPLE (R122): After settling, the capture takes its first sample at the millisecond or beat edge. -/
  | snapFirstSample
  /-- GNT_BATCH_PROCESS (R127): GNT takes a batch, updating every slice's loops and gating residuals. -/
  | gntBatchProcess
  /-- MEAS_BLOCK_POST (R146): A measurement block, and any RTCM block, is written to the host ring or dropped. -/
  | measBlockPost
  /-- FIX_TIMEOUT (R151): 2 s pass after a valid POST with no further POST, and the fix is lost. -/
  | fixTimeout
  /-- NAP_TIMER_EXPIRY (R155): NAPLEN elapses, and the nap ends. -/
  | napTimerExpiry
  /-- NAP_SETTLE_DONE (R155): The chains settle 2 ms after nap end, and tracking resumes as a hot start. -/
  | napSettleDone
  /-- NAP_FAIL_TIMEOUT (R155): No valid POST follows within 5 s of NAP-END. -/
  | napFailTimeout
  /-- LEAP_PENDING (R165): The time comes within 24 h of the next leap entry, and the RTC leap is armed. -/
  | leapPending
  /-- LEAP_DONE (R165): The EFFSEC of a leap entry begins. -/
  | leapDone
  /-- FREF_SWITCH_DONE (R168): A phase-continuous switch of frequency reference completes, and held updates apply. -/
  | frefSwitchDone
  /-- PPS_TIMEOUT (R173): No PPS_IN edge arrives within 1.5 s, and PPS_IN is lost. -/
  | ppsTimeout
  /-- DEGRADED_CLEAR (R177): |x| has stayed at or below 100 ns for 10 s, and DEGRADED clears. -/
  | degradedClear
  /-- MODEL_STATE_CHANGE (R178): An oscillator model's learned time reaches 1 h or 24 h. -/
  | modelStateChange
  /-- TIC_TIMEOUT (R187): The second edge does not follow within TMO, and a TIMEOUT result is made. -/
  | ticTimeout
  /-- FMB_SCL_TIMEOUT (R214): A target holds SCL low for 25 ms, and the bus fails. -/
  | fmbSclTimeout
  /-- UPLINK_RECEIVED (R237): MAC takes an authenticated UPLINK and applies the foreign, replay and counter rules. -/
  | uplinkReceived
  /-- JOINREQ_RECEIVED (R230): A JOINREQ heard in a join cell is looked up, authenticated and delivered to Q1. -/
  | joinreqReceived
  /-- NODEACK_RECEIVED (R255): A NODEACK is processed, and the ACKED outcome of its downlink is delivered. -/
  | nodeackReceived
  /-- SENTINEL_RECEIVED (R236): The express engine authenticates a SENTINEL frame and posts it outside beat
  batching. -/
  | sentinelReceived
  /-- RX_AUTH_DONE (R300): A receive CCM* job completes and passes or fails the frame. -/
  | rxAuthDone
  /-- DEVICE_SECOND (R233): A new device second opens a ledger bucket, and buckets leave the window. -/
  | deviceSecond
  /-- FWD_LOOKUP (R282): FWD takes a frame from its input queue and resolves it to an egress. -/
  | fwdLookup
  /-- FWD_SEARCH (R286): The SEARCH command finds an entry by key. -/
  | fwdSearch
  /-- FWD_NEXT (R286): The NEXT command returns the next VALID entry. -/
  | fwdNext
  /-- FWD_INSERT (R286): The INSERT command writes or replaces an entry and updates indexes and filter. -/
  | fwdInsert
  /-- FWD_DELETE (R286): The DELETE command removes an entry. -/
  | fwdDelete
  /-- FWD_FLUSH_BY_PORT (R286): The FLUSH-BY-PORT command starts a background removal of entries with a given
  egress. -/
  | fwdFlushByPort
  /-- FWD_FLUSH_DONE (R286): The background flush completes, and the command ends. -/
  | fwdFlushDone
  /-- SWEEP_VISIT (R283): The sweeper visits one entry and clears HIT, sets AGED, or removes it. -/
  | sweepVisit
  /-- GRACE_EXPIRY (R307): After the third superframe start, GRACE clears and the pending entry frees. -/
  | graceExpiry
  /-- TRNG_HEALTH_FAIL (R308): A TRNG health test fails, and HEALTHY clears. -/
  | trngHealthFail
  /-- TRNG_RECOVER (R308): 1,024 consecutive samples pass, and HEALTHY returns. -/
  | trngRecover
  /-- JOB_DONE (R293): A SEC job completes, and its result enters the result FIFO. -/
  | jobDone
  /-- ANNOUNCE_SEND (R323): At the superframe start plus 100 ms, each linked port multicasts an ANNOUNCE. -/
  | announceSend
  /-- HELLO_SEND (R326): At the superframe start plus 500 ms, HELLOs go to every keyed peer. -/
  | helloSend
  /-- MIRROR_LAG (R332): A MIRROR stays unacknowledged for 50 ms, and LAG is set. -/
  | mirrorLag
  /-- PARTNER_SILENCE (R333): No partner HELLO arrives for SILENCE, and takeover is due at the next superframe
  start. -/
  | partnerSilence
  /-- ALARM_RESEND (R336): 1 ms after the first ALARM copy, the second is sent. -/
  | alarmResend
  /-- SCRUB_VISIT (R401): The scrubber reads a word, corrects it, and counts the pass when it completes. -/
  | scrubVisit
  /-- EVENT_RECORD_WRITE (R432): A held event record is written to the host event ring, and its vector is signalled. -/
  | eventRecordWrite
  /-- EXPRESS_RECORD_WRITE (R434): An express record is written to the express ring, and its vector is signalled. -/
  | expressRecordWrite
  /-- PCIE_LINK_DOWN (R420): The link goes down, is hot-reset or enters D3hot, and posting stops. -/
  | pcieLinkDown
  /-- PCIE_FLR (R420): A Function Level Reset resets the command queues and the ring and vector registers. -/
  | pcieFlr
  /-- SPI_ID (R436): SPI opcode 0x9F returns MGT_DEVID. -/
  | spiId
  /-- SPI_STATUS (R436): SPI opcode 0x05 returns the status byte. -/
  | spiStatus
  /-- SPI_EVTPOP (R436): SPI opcode 0x31 returns and removes the oldest held event record. -/
  | spiEvtpop
  /-- SPI_XPOP (R436): SPI opcode 0x32 returns and removes the oldest held express record. -/
  | spiXpop
  /-- SPI_CPLPOP (R436): SPI opcode 0x42 returns and removes the oldest completion of queue 7. -/
  | spiCplpop
  /-- SPI_UNKNOWN_OPCODE (R436): An unknown SPI opcode is ignored and raises SPI-ERROR. -/
  | spiUnknownOpcode
  /-- TAP_BYPASS (R437): The TAP instruction BYPASS. -/
  | tapBypass
  /-- TAP_IDCODE (R437): The TAP instruction IDCODE selects the identification register. -/
  | tapIdcode
  /-- TAP_SAMPLE_PRELOAD (R437): The TAP instruction SAMPLE/PRELOAD. -/
  | tapSamplePreload
  /-- TAP_EXTEST (R437): The TAP instruction EXTEST, acting as BYPASS with PORST_N high. -/
  | tapExtest
  /-- TAP_CLAMP (R437): The TAP instruction CLAMP, acting as BYPASS with PORST_N high. -/
  | tapClamp
  /-- TAP_HIGHZ (R437): The TAP instruction HIGHZ, acting as BYPASS with PORST_N high. -/
  | tapHighz
  /-- BROWNOUT_END (R446): The rails stay in range for 10 ms, and the warning ends. -/
  | brownoutEnd
  /-- MAIN_RAIL_FAIL (R447): The main rails fail, the backup interface locks and the device enters BACKUP. -/
  | mainRailFail
  /-- BKP_WRITE_TRANSFER_DONE (R452): A write reaches the backup domain, and BUSY clears. -/
  | bkpWriteTransferDone
  /-- RTC_SECOND (R451): The RTC advances one second, applying leap, rollover and alarm matches. -/
  | rtcSecond
  /-- VBAT_LOW (R455): VBAT falls below 1.05 V while supplying the domain, and LOWV is set. -/
  | vbatLow
  /-- XT32_STOP (R455): The 32.768 kHz oscillator stops for 4 ms, and LOWV is set. -/
  | xt32Stop
  /-- CHARGER_TARGET_REACHED (R458): VBAT reaches TARGET, and the trickle charger stops. -/
  | chargerTargetReached
  /-- CHARGER_RESUME (R458): VBAT falls 50 mV below TARGET, and charging resumes. -/
  | chargerResume
  /-- GNSS_HEALTH_EXPIRY (R173): 2 s pass after the last POST that met the ACCMAX condition, and GNSS ceases to be a
  healthy time reference even though valid POSTs continue. -/
  | gnssHealthExpiry
  /-- BACKUP_DOMAIN_POWER_ON (R450): The backup domain starts from no supply, every backup field takes its Cold
  value, the RTC reads 2000-01-01 and LOWV is set. -/
  | backupDomainPowerOn
  deriving DecidableEq, Repr

end Sys2Proof
end

