-- ==== Sys2Proof/Decode.lean ====
section
/-! DEFINITION. The command a word of the command table spells. The table gives no row any bits (every row's field list
is empty: a command of this block is no bit pattern), so no word spells a command. -/

namespace Sys2Proof

/-- The command that a word of n bits spells by the table's bits: none, as the table gives no row any bits. -/
def decodeTableWord (_nbits _w : Nat) : Option Instr := none

end Sys2Proof
end

