-- ==== Sys2Proof/Machine/Fields.lean ====
section
/-! DEFINITION. The named fields of every register of spec/21 (R476), one constant for each field,
written from the register tables of spec/00 to spec/18. A field is the BAR0 byte offset of its word, its
lowest bit and its width. A register that a chapter gives for several units (a lane, a core, a bank, a slot)
has a field that takes the unit's number: the offset adds the stride that the chapter's heading gives.
A name is the register's name, with the unit's letter left out, and the field's name (`RFL_CTL_TXCLR n` is
RFLn_CTL.TXCLR; `GNF_CTL_ENABLE 0` is GNF_L1CTL.ENABLE and `GNF_CTL_ENABLE 1` is GNF_L5CTL.ENABLE). -/

namespace Sys2Proof.Fields

/-! Station MGT (spec/00, 01, 02, 03, 16, 18). -/

/-- MGT_DEVID, spec/00. -/
def MGT_DEVID : Nat := 0x0
def MGT_DEVID_VENDOR : Fld := ⟨MGT_DEVID, 20, 12⟩
def MGT_DEVID_FAMILY : Fld := ⟨MGT_DEVID, 16, 4⟩
def MGT_DEVID_PART : Fld := ⟨MGT_DEVID, 0, 16⟩
/-- MGT_REVID, spec/00. -/
def MGT_REVID : Nat := 0x4
def MGT_REVID_FUSEMAP : Fld := ⟨MGT_REVID, 16, 8⟩
def MGT_REVID_ROMVER : Fld := ⟨MGT_REVID, 8, 8⟩
def MGT_REVID_BASE : Fld := ⟨MGT_REVID, 4, 4⟩
def MGT_REVID_METAL : Fld := ⟨MGT_REVID, 0, 4⟩
/-- MGT_UID_LO, spec/00. -/
def MGT_UID_LO : Nat := 0x8
def MGT_UID_LO_UID_LO : Fld := ⟨MGT_UID_LO, 0, 32⟩
/-- MGT_UID_HI, spec/00. -/
def MGT_UID_HI : Nat := 0xC
def MGT_UID_HI_UID_HI : Fld := ⟨MGT_UID_HI, 0, 32⟩
/-- MGT_MODE, spec/03. -/
def MGT_MODE : Nat := 0x10
def MGT_MODE_CAUSE : Fld := ⟨MGT_MODE, 8, 8⟩
def MGT_MODE_PENDING : Fld := ⟨MGT_MODE, 4, 3⟩
def MGT_MODE_WAIT : Fld := ⟨MGT_MODE, 3, 1⟩
def MGT_MODE_MODE : Fld := ⟨MGT_MODE, 0, 3⟩
/-- MGT_MODEREQ, spec/03. -/
def MGT_MODEREQ : Nat := 0x14
def MGT_MODEREQ_REQ : Fld := ⟨MGT_MODEREQ, 0, 3⟩
/-- MGT_WAKECFG, spec/03. -/
def MGT_WAKECFG : Nat := 0x18
def MGT_WAKECFG_DURATION : Fld := ⟨MGT_WAKECFG, 16, 16⟩
def MGT_WAKECFG_TIMER : Fld := ⟨MGT_WAKECFG, 4, 1⟩
def MGT_WAKECFG_PPSIN : Fld := ⟨MGT_WAKECFG, 3, 1⟩
def MGT_WAKECFG_WAKEPIN : Fld := ⟨MGT_WAKECFG, 2, 1⟩
def MGT_WAKECFG_RTCA1 : Fld := ⟨MGT_WAKECFG, 1, 1⟩
def MGT_WAKECFG_RTCA0 : Fld := ⟨MGT_WAKECFG, 0, 1⟩
/-- MGT_WAKESRC, spec/03. -/
def MGT_WAKESRC : Nat := 0x1C
def MGT_WAKESRC_SRC : Fld := ⟨MGT_WAKESRC, 0, 3⟩
/-- MGT_REJ_ADDR, spec/03. -/
def MGT_REJ_ADDR : Nat := 0x20
def MGT_REJ_ADDR_ADDR : Fld := ⟨MGT_REJ_ADDR, 0, 24⟩
/-- MGT_REJ_INFO, spec/03. -/
def MGT_REJ_INFO : Nat := 0x24
def MGT_REJ_INFO_PEND : Fld := ⟨MGT_REJ_INFO, 31, 1⟩
def MGT_REJ_INFO_SOURCE : Fld := ⟨MGT_REJ_INFO, 24, 4⟩
def MGT_REJ_INFO_CORE : Fld := ⟨MGT_REJ_INFO, 20, 4⟩
def MGT_REJ_INFO_COUNT : Fld := ⟨MGT_REJ_INFO, 8, 8⟩
def MGT_REJ_INFO_CAUSE : Fld := ⟨MGT_REJ_INFO, 0, 8⟩
/-- MGT_OVRSTAT, spec/01. -/
def MGT_OVRSTAT : Nat := 0x40
def MGT_OVRSTAT_CORE : Fld := ⟨MGT_OVRSTAT, 16, 16⟩
def MGT_OVRSTAT_PLK : Fld := ⟨MGT_OVRSTAT, 10, 1⟩
def MGT_OVRSTAT_SEC : Fld := ⟨MGT_OVRSTAT, 9, 1⟩
def MGT_OVRSTAT_FWD : Fld := ⟨MGT_OVRSTAT, 8, 1⟩
def MGT_OVRSTAT_SCH : Fld := ⟨MGT_OVRSTAT, 7, 1⟩
def MGT_OVRSTAT_MAC : Fld := ⟨MGT_OVRSTAT, 6, 1⟩
def MGT_OVRSTAT_RFL : Fld := ⟨MGT_OVRSTAT, 2, 4⟩
def MGT_OVRSTAT_GNT : Fld := ⟨MGT_OVRSTAT, 1, 1⟩
def MGT_OVRSTAT_GNC : Fld := ⟨MGT_OVRSTAT, 0, 1⟩
/-- MGT_OVRBEAT, spec/01. -/
def MGT_OVRBEAT : Nat := 0x44
def MGT_OVRBEAT_BEAT : Fld := ⟨MGT_OVRBEAT, 0, 32⟩
/-- MGT_COMMIT, spec/03. -/
def MGT_COMMIT : Nat := 0x60
def MGT_COMMIT_DIRTY : Fld := ⟨MGT_COMMIT, 16, 16⟩
def MGT_COMMIT_QUEUE : Fld := ⟨MGT_COMMIT, 4, 10⟩
def MGT_COMMIT_LASTTRIG : Fld := ⟨MGT_COMMIT, 2, 2⟩
def MGT_COMMIT_BUSY : Fld := ⟨MGT_COMMIT, 1, 1⟩
def MGT_COMMIT_REQ : Fld := ⟨MGT_COMMIT, 0, 1⟩
/-- MGT_RESTSTAT, spec/03. -/
def MGT_RESTSTAT : Nat := 0x64
def MGT_RESTSTAT_BOTHBAD : Fld := ⟨MGT_RESTSTAT, 24, 8⟩
def MGT_RESTSTAT_SKIPPED : Fld := ⟨MGT_RESTSTAT, 16, 8⟩
def MGT_RESTSTAT_RESTORED : Fld := ⟨MGT_RESTSTAT, 0, 16⟩
/-- MGT_CRU_STAT, spec/16. -/
def MGT_CRU_STAT : Nat := 0x68
def MGT_CRU_STAT_SPARE : Fld := ⟨MGT_CRU_STAT, 24, 8⟩
def MGT_CRU_STAT_LOST : Fld := ⟨MGT_CRU_STAT, 16, 8⟩
def MGT_CRU_STAT_COPYBAD : Fld := ⟨MGT_CRU_STAT, 0, 16⟩
/-- MGT_CRU_WEAR, spec/16. -/
def MGT_CRU_WEAR : Nat := 0x6C
def MGT_CRU_WEAR_MAXW : Fld := ⟨MGT_CRU_WEAR, 0, 32⟩
/-- MGT_CRU_CFG, spec/16. -/
def MGT_CRU_CFG : Nat := 0x70
def MGT_CRU_CFG_LEDGERP : Fld := ⟨MGT_CRU_CFG, 16, 16⟩
def MGT_CRU_CFG_NRPERIOD : Fld := ⟨MGT_CRU_CFG, 0, 16⟩
/-- MGT_CRU_LEASE, spec/16. -/
def MGT_CRU_LEASE : Nat := 0x74
def MGT_CRU_LEASE_WAITS : Fld := ⟨MGT_CRU_LEASE, 0, 32⟩
/-- MGT_CRU_HWMC, spec/16. -/
def MGT_CRU_HWMC : Nat := 0x78
def MGT_CRU_HWMC_HWM : Fld := ⟨MGT_CRU_HWMC, 0, 32⟩
/-- MGT_CRU_HWMN, spec/16. -/
def MGT_CRU_HWMN : Nat := 0x7C
def MGT_CRU_HWMN_HWM : Fld := ⟨MGT_CRU_HWMN, 0, 32⟩
/-- MGT_ASSAY, spec/03. -/
def MGT_ASSAY : Nat := 0x80
def MGT_ASSAY_CORE : Fld := ⟨MGT_ASSAY, 16, 16⟩
def MGT_ASSAY_SHORT : Fld := ⟨MGT_ASSAY, 15, 1⟩
def MGT_ASSAY_PLK : Fld := ⟨MGT_ASSAY, 14, 1⟩
def MGT_ASSAY_MESH : Fld := ⟨MGT_ASSAY, 13, 1⟩
def MGT_ASSAY_RFL : Fld := ⟨MGT_ASSAY, 9, 4⟩
def MGT_ASSAY_GNT : Fld := ⟨MGT_ASSAY, 8, 1⟩
def MGT_ASSAY_GNC : Fld := ⟨MGT_ASSAY, 7, 1⟩
def MGT_ASSAY_GNF : Fld := ⟨MGT_ASSAY, 6, 1⟩
def MGT_ASSAY_BANKS : Fld := ⟨MGT_ASSAY, 5, 1⟩
def MGT_ASSAY_CRUCIBLE : Fld := ⟨MGT_ASSAY, 4, 1⟩
def MGT_ASSAY_TRNG : Fld := ⟨MGT_ASSAY, 3, 1⟩
def MGT_ASSAY_SECKAT : Fld := ⟨MGT_ASSAY, 2, 1⟩
def MGT_ASSAY_BOOTBANKS : Fld := ⟨MGT_ASSAY, 1, 1⟩
def MGT_ASSAY_ROM : Fld := ⟨MGT_ASSAY, 0, 1⟩
/-- MGT_ASSAYCTL, spec/03. -/
def MGT_ASSAYCTL : Nat := 0x84
def MGT_ASSAYCTL_RUN : Fld := ⟨MGT_ASSAYCTL, 31, 1⟩
def MGT_ASSAYCTL_SURVEYMAX : Fld := ⟨MGT_ASSAYCTL, 8, 8⟩
def MGT_ASSAYCTL_AUTOSURVEY : Fld := ⟨MGT_ASSAYCTL, 0, 1⟩
/-- MGT_CASTCTL, spec/02. -/
def MGT_CASTCTL : Nat := 0x100
def MGT_CASTCTL_ARBADV : Fld := ⟨MGT_CASTCTL, 2, 1⟩
def MGT_CASTCTL_CANCEL : Fld := ⟨MGT_CASTCTL, 1, 1⟩
def MGT_CASTCTL_LOAD : Fld := ⟨MGT_CASTCTL, 0, 1⟩
/-- MGT_CASTADDR_LO, spec/02. -/
def MGT_CASTADDR_LO : Nat := 0x104
def MGT_CASTADDR_LO_ADDR : Fld := ⟨MGT_CASTADDR_LO, 3, 29⟩
/-- MGT_CASTADDR_HI, spec/02. -/
def MGT_CASTADDR_HI : Nat := 0x108
def MGT_CASTADDR_HI_ADDR : Fld := ⟨MGT_CASTADDR_HI, 0, 32⟩
/-- MGT_CASTLEN, spec/02. -/
def MGT_CASTLEN : Nat := 0x10C
def MGT_CASTLEN_LEN : Fld := ⟨MGT_CASTLEN, 0, 24⟩
/-- MGT_CASTSTAT, spec/02. -/
def MGT_CASTSTAT : Nat := 0x110
def MGT_CASTSTAT_PTARGET : Fld := ⟨MGT_CASTSTAT, 16, 8⟩
def MGT_CASTSTAT_SAFE : Fld := ⟨MGT_CASTSTAT, 15, 1⟩
def MGT_CASTSTAT_SOURCE : Fld := ⟨MGT_CASTSTAT, 12, 3⟩
def MGT_CASTSTAT_STATE : Fld := ⟨MGT_CASTSTAT, 0, 4⟩
/-- MGT_CASTERR, spec/02. -/
def MGT_CASTERR : Nat := 0x114
def MGT_CASTERR_RECIDX : Fld := ⟨MGT_CASTERR, 8, 16⟩
def MGT_CASTERR_CAUSE : Fld := ⟨MGT_CASTERR, 0, 8⟩
/-- MGT_CASTID, spec/02. -/
def MGT_CASTID : Nat := 0x118
def MGT_CASTID_CASTID : Fld := ⟨MGT_CASTID, 0, 32⟩
/-- MGT_CASTVER, spec/02. -/
def MGT_CASTVER : Nat := 0x11C
def MGT_CASTVER_ARBVER : Fld := ⟨MGT_CASTVER, 0, 32⟩
/-- MGT_ARBCNT, spec/02. -/
def MGT_ARBCNT : Nat := 0x120
def MGT_ARBCNT_COUNT : Fld := ⟨MGT_ARBCNT, 0, 32⟩
/-- MGT_CASTKEY, spec/02. -/
def MGT_CASTKEY : Nat := 0x124
def MGT_CASTKEY_KEYID : Fld := ⟨MGT_CASTKEY, 0, 32⟩
/-- MGT_FRESET, spec/02. -/
def MGT_FRESET : Nat := 0x128
def MGT_FRESET_ID : Fld := ⟨MGT_FRESET, 0, 8⟩
/-- MGT_CLKCORE, spec/18. -/
def MGT_CLKCORE : Nat := 0x200
def MGT_CLKCORE_STEP : Fld := ⟨MGT_CLKCORE, 0, 32⟩
/-- MGT_CLKSTAT, spec/18. -/
def MGT_CLKSTAT : Nat := 0x204
def MGT_CLKSTAT_XT32 : Fld := ⟨MGT_CLKSTAT, 7, 1⟩
def MGT_CLKSTAT_ETH1 : Fld := ⟨MGT_CLKSTAT, 6, 1⟩
def MGT_CLKSTAT_ETH0 : Fld := ⟨MGT_CLKSTAT, 5, 1⟩
def MGT_CLKSTAT_PCIE : Fld := ⟨MGT_CLKSTAT, 4, 1⟩
def MGT_CLKSTAT_CORES : Fld := ⟨MGT_CLKSTAT, 3, 1⟩
def MGT_CLKSTAT_L5LO : Fld := ⟨MGT_CLKSTAT, 2, 1⟩
def MGT_CLKSTAT_L1LO : Fld := ⟨MGT_CLKSTAT, 1, 1⟩
def MGT_CLKSTAT_FABRIC : Fld := ⟨MGT_CLKSTAT, 0, 1⟩
/-- MGT_PWRSTAT, spec/18. -/
def MGT_PWRSTAT : Nat := 0x208
def MGT_PWRSTAT_BOCNT : Fld := ⟨MGT_PWRSTAT, 16, 16⟩
def MGT_PWRSTAT_INRANGE : Fld := ⟨MGT_PWRSTAT, 8, 7⟩
def MGT_PWRSTAT_BOWARN : Fld := ⟨MGT_PWRSTAT, 1, 1⟩
def MGT_PWRSTAT_PFAIL : Fld := ⟨MGT_PWRSTAT, 0, 1⟩
/-- MGT_PWRCFG, spec/18. -/
def MGT_PWRCFG : Nat := 0x20C
def MGT_PWRCFG_PFAILEN : Fld := ⟨MGT_PWRCFG, 0, 1⟩

/-! Station TIM (spec/01, 06). -/

/-- TIM_NOW0, spec/06. -/
def TIM_NOW0 : Nat := 0x10000
def TIM_NOW0_NS : Fld := ⟨TIM_NOW0, 0, 32⟩
/-- TIM_NOW1, spec/06. -/
def TIM_NOW1 : Nat := 0x10004
def TIM_NOW1_SECLO : Fld := ⟨TIM_NOW1, 16, 16⟩
def TIM_NOW1_FRAC : Fld := ⟨TIM_NOW1, 0, 16⟩
/-- TIM_NOW2, spec/06. -/
def TIM_NOW2 : Nat := 0x10008
def TIM_NOW2_SECHI : Fld := ⟨TIM_NOW2, 0, 32⟩
/-- TIM_TSLO, spec/06. -/
def TIM_TSLO : Nat := 0x1000C
def TIM_TSLO_TS : Fld := ⟨TIM_TSLO, 0, 32⟩
/-- TIM_TSHI, spec/06. -/
def TIM_TSHI : Nat := 0x10010
def TIM_TSHI_TS : Fld := ⟨TIM_TSHI, 0, 32⟩
/-- TIM_SETSEC, spec/06. -/
def TIM_SETSEC : Nat := 0x10014
def TIM_SETSEC_SEC : Fld := ⟨TIM_SETSEC, 0, 32⟩
/-- TIM_STAT, spec/06. -/
def TIM_STAT : Nat := 0x10018
def TIM_STAT_TVALID : Fld := ⟨TIM_STAT, 31, 1⟩
def TIM_STAT_DEGRADED : Fld := ⟨TIM_STAT, 30, 1⟩
def TIM_STAT_MONBLIND : Fld := ⟨TIM_STAT, 29, 1⟩
def TIM_STAT_NAPHOLD : Fld := ⟨TIM_STAT, 28, 1⟩
def TIM_STAT_SLEWING : Fld := ⟨TIM_STAT, 27, 1⟩
def TIM_STAT_TREF : Fld := ⟨TIM_STAT, 22, 2⟩
def TIM_STAT_FREF : Fld := ⟨TIM_STAT, 20, 2⟩
/-- TIM_TREFCFG, spec/06. -/
def TIM_TREFCFG : Nat := 0x10020
def TIM_TREFCFG_ACCMAX : Fld := ⟨TIM_TREFCFG, 24, 8⟩
def TIM_TREFCFG_TJUMP : Fld := ⟨TIM_TREFCFG, 16, 8⟩
def TIM_TREFCFG_PTPPORT : Fld := ⟨TIM_TREFCFG, 8, 1⟩
def TIM_TREFCFG_PRI2 : Fld := ⟨TIM_TREFCFG, 4, 2⟩
def TIM_TREFCFG_PRI1 : Fld := ⟨TIM_TREFCFG, 2, 2⟩
def TIM_TREFCFG_PRI0 : Fld := ⟨TIM_TREFCFG, 0, 2⟩
/-- TIM_FREFCFG, spec/06. -/
def TIM_FREFCFG : Nat := 0x10024
def TIM_FREFCFG_REVERT : Fld := ⟨TIM_FREFCFG, 8, 1⟩
def TIM_FREFCFG_REFBRATE : Fld := ⟨TIM_FREFCFG, 7, 1⟩
def TIM_FREFCFG_REFARATE : Fld := ⟨TIM_FREFCFG, 6, 1⟩
def TIM_FREFCFG_PRI2 : Fld := ⟨TIM_FREFCFG, 4, 2⟩
def TIM_FREFCFG_PRI1 : Fld := ⟨TIM_FREFCFG, 2, 2⟩
def TIM_FREFCFG_PRI0 : Fld := ⟨TIM_FREFCFG, 0, 2⟩
/-- TIM_MONCFG, spec/06. -/
def TIM_MONCFG : Nat := 0x10028
def TIM_MONCFG_QUALTIME : Fld := ⟨TIM_MONCFG, 24, 8⟩
def TIM_MONCFG_HYST : Fld := ⟨TIM_MONCFG, 16, 8⟩
def TIM_MONCFG_SLOPEWIN : Fld := ⟨TIM_MONCFG, 8, 8⟩
def TIM_MONCFG_ABSWIN : Fld := ⟨TIM_MONCFG, 0, 8⟩
/-- TIM_REFSTAT, spec/06. -/
def TIM_REFSTAT : Nat := 0x1002C
def TIM_REFSTAT_PPS : Fld := ⟨TIM_REFSTAT, 20, 3⟩
def TIM_REFSTAT_PTP : Fld := ⟨TIM_REFSTAT, 16, 3⟩
def TIM_REFSTAT_GNSS : Fld := ⟨TIM_REFSTAT, 12, 3⟩
def TIM_REFSTAT_REFB : Fld := ⟨TIM_REFSTAT, 8, 3⟩
def TIM_REFSTAT_REFA : Fld := ⟨TIM_REFSTAT, 4, 3⟩
def TIM_REFSTAT_XO : Fld := ⟨TIM_REFSTAT, 0, 3⟩
/-- TIM_REFY, spec/06. -/
def TIM_REFY (i : Nat) : Nat := 0x10030 + 0x4 * i
def TIM_REFY_Y (i : Nat) : Fld := ⟨TIM_REFY i, 0, 32⟩
/-- TIM_BEATGEOM, spec/01. -/
def TIM_BEATGEOM : Nat := 0x10040
def TIM_BEATGEOM_SLOTBEATS : Fld := ⟨TIM_BEATGEOM, 4, 6⟩
def TIM_BEATGEOM_BEATLEN : Fld := ⟨TIM_BEATGEOM, 0, 2⟩
/-- TIM_SFPHASE, spec/01. -/
def TIM_SFPHASE : Nat := 0x10044
def TIM_SFPHASE_PHASE : Fld := ⟨TIM_SFPHASE, 0, 16⟩
/-- TIM_BEATCNT, spec/01. -/
def TIM_BEATCNT : Nat := 0x10048
def TIM_BEATCNT_COUNT : Fld := ⟨TIM_BEATCNT, 0, 32⟩
/-- TIM_BEATPOS, spec/01. -/
def TIM_BEATPOS : Nat := 0x1004C
def TIM_BEATPOS_VALID : Fld := ⟨TIM_BEATPOS, 31, 1⟩
def TIM_BEATPOS_SLOT : Fld := ⟨TIM_BEATPOS, 12, 9⟩
def TIM_BEATPOS_BEAT : Fld := ⟨TIM_BEATPOS, 0, 11⟩
/-- TIM_DISCCFG, spec/06. -/
def TIM_DISCCFG : Nat := 0x10050
def TIM_DISCCFG_SLEW : Fld := ⟨TIM_DISCCFG, 16, 8⟩
def TIM_DISCCFG_BW : Fld := ⟨TIM_DISCCFG, 0, 16⟩
/-- TIM_ANTDLY, spec/06. -/
def TIM_ANTDLY : Nat := 0x10054
def TIM_ANTDLY_DLY : Fld := ⟨TIM_ANTDLY, 0, 32⟩
/-- TIM_OFS, spec/06. -/
def TIM_OFS : Nat := 0x10058
def TIM_OFS_X : Fld := ⟨TIM_OFS, 0, 32⟩
/-- TIM_FRQ, spec/06. -/
def TIM_FRQ : Nat := 0x1005C
def TIM_FRQ_Y : Fld := ⟨TIM_FRQ, 0, 32⟩
/-- TIM_MODEL, spec/06. -/
def TIM_MODEL : Nat := 0x10060
def TIM_MODEL_STATE : Fld := ⟨TIM_MODEL, 30, 2⟩
def TIM_MODEL_FREF : Fld := ⟨TIM_MODEL, 28, 2⟩
def TIM_MODEL_HOURS : Fld := ⟨TIM_MODEL, 0, 16⟩
/-- TIM_HOLDERR, spec/06. -/
def TIM_HOLDERR : Nat := 0x10064
def TIM_HOLDERR_ERR : Fld := ⟨TIM_HOLDERR, 0, 32⟩
/-- TIM_HOLDCFG, spec/06. -/
def TIM_HOLDCFG : Nat := 0x10068
def TIM_HOLDCFG_ERRLIM : Fld := ⟨TIM_HOLDCFG, 16, 16⟩
def TIM_HOLDCFG_NAPERR : Fld := ⟨TIM_HOLDCFG, 0, 16⟩
/-- TIM_LEAP, spec/06. -/
def TIM_LEAP : Nat := 0x10070
def TIM_LEAP_NENT : Fld := ⟨TIM_LEAP, 24, 8⟩
def TIM_LEAP_PENDING : Fld := ⟨TIM_LEAP, 23, 1⟩
def TIM_LEAP_NEG : Fld := ⟨TIM_LEAP, 22, 1⟩
def TIM_LEAP_DAT : Fld := ⟨TIM_LEAP, 0, 16⟩
/-- TIM_PPSCFG, spec/06. -/
def TIM_PPSCFG : Nat := 0x10078
def TIM_PPSCFG_PPSWIN : Fld := ⟨TIM_PPSCFG, 8, 8⟩
def TIM_PPSCFG_EDGE : Fld := ⟨TIM_PPSCFG, 0, 1⟩
/-- TIM_TPCFG, spec/06. -/
def TIM_TPCFG (i : Nat) : Nat := 0x10100 + 0x20 * i
def TIM_TPCFG_WIDTH (i : Nat) : Fld := ⟨TIM_TPCFG i, 8, 20⟩
def TIM_TPCFG_PERIOD (i : Nat) : Fld := ⟨TIM_TPCFG i, 1, 3⟩
def TIM_TPCFG_EN (i : Nat) : Fld := ⟨TIM_TPCFG i, 0, 1⟩
/-- TIM_TPDLYA, spec/06. -/
def TIM_TPDLYA (i : Nat) : Nat := 0x10104 + 0x20 * i
def TIM_TPDLYA_DLY (i : Nat) : Fld := ⟨TIM_TPDLYA i, 0, 32⟩
/-- TIM_TPDLYB, spec/06. -/
def TIM_TPDLYB (i : Nat) : Nat := 0x10108 + 0x20 * i
def TIM_TPDLYB_NDLY (i : Nat) : Fld := ⟨TIM_TPDLYB i, 0, 32⟩
/-- TIM_TPSTAT, spec/06. -/
def TIM_TPSTAT (i : Nat) : Nat := 0x1010C + 0x20 * i
def TIM_TPSTAT_SKIPPED (i : Nat) : Fld := ⟨TIM_TPSTAT i, 16, 16⟩
def TIM_TPSTAT_CAUSE (i : Nat) : Fld := ⟨TIM_TPSTAT i, 2, 2⟩
def TIM_TPSTAT_FAULT (i : Nat) : Fld := ⟨TIM_TPSTAT i, 1, 1⟩
def TIM_TPSTAT_ACTIVE (i : Nat) : Fld := ⟨TIM_TPSTAT i, 0, 1⟩
/-- TIM_TICCFG, spec/06. -/
def TIM_TICCFG : Nat := 0x10200
def TIM_TICCFG_TMO : Fld := ⟨TIM_TICCFG, 16, 12⟩
def TIM_TICCFG_STOPSRC : Fld := ⟨TIM_TICCFG, 8, 3⟩
def TIM_TICCFG_STARTSRC : Fld := ⟨TIM_TICCFG, 4, 3⟩
def TIM_TICCFG_CONT : Fld := ⟨TIM_TICCFG, 0, 1⟩
/-- TIM_TICCTL, spec/06. -/
def TIM_TICCTL : Nat := 0x10204
def TIM_TICCTL_POP : Fld := ⟨TIM_TICCTL, 2, 1⟩
def TIM_TICCTL_DISARM : Fld := ⟨TIM_TICCTL, 1, 1⟩
def TIM_TICCTL_ARM : Fld := ⟨TIM_TICCTL, 0, 1⟩
/-- TIM_TICRES0, spec/06. -/
def TIM_TICRES0 : Nat := 0x10208
def TIM_TICRES0_IVLO : Fld := ⟨TIM_TICRES0, 0, 32⟩
/-- TIM_TICRES1, spec/06. -/
def TIM_TICRES1 : Nat := 0x1020C
def TIM_TICRES1_VALID : Fld := ⟨TIM_TICRES1, 31, 1⟩
def TIM_TICRES1_ORDER : Fld := ⟨TIM_TICRES1, 30, 1⟩
def TIM_TICRES1_UNRESOLVED : Fld := ⟨TIM_TICRES1, 29, 1⟩
def TIM_TICRES1_TIMEOUT : Fld := ⟨TIM_TICRES1, 28, 1⟩
def TIM_TICRES1_OVF : Fld := ⟨TIM_TICRES1, 27, 1⟩
def TIM_TICRES1_WHICH : Fld := ⟨TIM_TICRES1, 26, 1⟩
def TIM_TICRES1_IVHI : Fld := ⟨TIM_TICRES1, 0, 16⟩
/-- TIM_TICRES2, spec/06. -/
def TIM_TICRES2 : Nat := 0x10210
def TIM_TICRES2_TS : Fld := ⟨TIM_TICRES2, 0, 32⟩
/-- TIM_TICRES3, spec/06. -/
def TIM_TICRES3 : Nat := 0x10214
def TIM_TICRES3_TS : Fld := ⟨TIM_TICRES3, 0, 32⟩
/-- TIM_TICSTAT, spec/06. -/
def TIM_TICSTAT : Nat := 0x10218
def TIM_TICSTAT_DROPS : Fld := ⟨TIM_TICSTAT, 16, 16⟩
def TIM_TICSTAT_HALF : Fld := ⟨TIM_TICSTAT, 6, 1⟩
def TIM_TICSTAT_ARMED : Fld := ⟨TIM_TICSTAT, 5, 1⟩
def TIM_TICSTAT_RESULTS : Fld := ⟨TIM_TICSTAT, 0, 5⟩

/-! Station GNF (spec/04). -/

/-- GNF_CTL, spec/04. -/
def GNF_CTL (i : Nat) : Nat := 0x20000 + 0x80 * i
def GNF_CTL_AGCMODE (i : Nat) : Fld := ⟨GNF_CTL i, 4, 2⟩
def GNF_CTL_BLANKEN (i : Nat) : Fld := ⟨GNF_CTL i, 2, 1⟩
def GNF_CTL_NOTCHEN (i : Nat) : Fld := ⟨GNF_CTL i, 1, 1⟩
def GNF_CTL_ENABLE (i : Nat) : Fld := ⟨GNF_CTL i, 0, 1⟩
/-- GNF_AGC, spec/04. -/
def GNF_AGC (i : Nat) : Nat := 0x20004 + 0x80 * i
def GNF_AGC_GAIN (i : Nat) : Fld := ⟨GNF_AGC i, 16, 8⟩
def GNF_AGC_MANGAIN (i : Nat) : Fld := ⟨GNF_AGC i, 8, 8⟩
def GNF_AGC_TARGET (i : Nat) : Fld := ⟨GNF_AGC i, 0, 8⟩
/-- GNF_BLANK, spec/04. -/
def GNF_BLANK (i : Nat) : Nat := 0x20008 + 0x80 * i
def GNF_BLANK_HOLD (i : Nat) : Fld := ⟨GNF_BLANK i, 8, 8⟩
def GNF_BLANK_THRESH (i : Nat) : Fld := ⟨GNF_BLANK i, 0, 8⟩
/-- GNF_STAT, spec/04. -/
def GNF_STAT (i : Nat) : Nat := 0x2000C + 0x80 * i
def GNF_STAT_OVERLOAD (i : Nat) : Fld := ⟨GNF_STAT i, 25, 1⟩
def GNF_STAT_LOLOCK (i : Nat) : Fld := ⟨GNF_STAT i, 24, 1⟩
def GNF_STAT_SATFRAC (i : Nat) : Fld := ⟨GNF_STAT i, 16, 8⟩
def GNF_STAT_BLANKFRAC (i : Nat) : Fld := ⟨GNF_STAT i, 0, 16⟩
/-- GNF_NOTCH, spec/04. -/
def GNF_NOTCH (i : Nat) (j : Nat) : Nat := 0x20010 + 0x80 * i + 0x4 * j
def GNF_NOTCH_FREQ (i : Nat) (j : Nat) : Fld := ⟨GNF_NOTCH i j, 16, 12⟩
def GNF_NOTCH_DEPTH (i : Nat) (j : Nat) : Fld := ⟨GNF_NOTCH i j, 4, 8⟩
def GNF_NOTCH_LOCKED (i : Nat) (j : Nat) : Fld := ⟨GNF_NOTCH i j, 2, 1⟩
def GNF_NOTCH_MODE (i : Nat) (j : Nat) : Fld := ⟨GNF_NOTCH i j, 0, 2⟩

/-! Station GNC (spec/04). -/

/-- GNC_PLAN, spec/04. -/
def GNC_PLAN : Nat := 0x30000
def GNC_PLAN_ACQBLOCKS : Fld := ⟨GNC_PLAN, 8, 8⟩
def GNC_PLAN_NSLICES : Fld := ⟨GNC_PLAN, 0, 8⟩
/-- GNC_BATCH, spec/04. -/
def GNC_BATCH : Nat := 0x30004
def GNC_BATCH_BEAT : Fld := ⟨GNC_BATCH, 0, 32⟩
/-- GNC_BATCHLOST, spec/04. -/
def GNC_BATCHLOST : Nat := 0x30008
def GNC_BATCHLOST_LOST : Fld := ⟨GNC_BATCHLOST, 0, 16⟩
/-- GNC_ACQW0, spec/04. -/
def GNC_ACQW0 : Nat := 0x30040
def GNC_ACQW0_FRESH : Fld := ⟨GNC_ACQW0, 21, 1⟩
def GNC_ACQW0_NCOH : Fld := ⟨GNC_ACQW0, 16, 5⟩
def GNC_ACQW0_SVID : Fld := ⟨GNC_ACQW0, 8, 6⟩
def GNC_ACQW0_SIGNAL : Fld := ⟨GNC_ACQW0, 0, 8⟩
/-- GNC_ACQW1, spec/04. -/
def GNC_ACQW1 : Nat := 0x30044
def GNC_ACQW1_THRESH : Fld := ⟨GNC_ACQW1, 16, 8⟩
def GNC_ACQW1_TAG : Fld := ⟨GNC_ACQW1, 0, 16⟩
/-- GNC_ACQW2, spec/04. -/
def GNC_ACQW2 : Nat := 0x30048
def GNC_ACQW2_DHALF : Fld := ⟨GNC_ACQW2, 20, 4⟩
def GNC_ACQW2_DCENTRE : Fld := ⟨GNC_ACQW2, 0, 17⟩
/-- GNC_ACQCTL, spec/04. -/
def GNC_ACQCTL : Nat := 0x3004C
def GNC_ACQCTL_FLUSH : Fld := ⟨GNC_ACQCTL, 3, 1⟩
def GNC_ACQCTL_CANCEL : Fld := ⟨GNC_ACQCTL, 2, 1⟩
def GNC_ACQCTL_POP : Fld := ⟨GNC_ACQCTL, 1, 1⟩
def GNC_ACQCTL_PUSH : Fld := ⟨GNC_ACQCTL, 0, 1⟩
/-- GNC_ACQSTAT, spec/04. -/
def GNC_ACQSTAT : Nat := 0x30050
def GNC_ACQSTAT_REFUSED : Fld := ⟨GNC_ACQSTAT, 24, 8⟩
def GNC_ACQSTAT_BUSY : Fld := ⟨GNC_ACQSTAT, 16, 1⟩
def GNC_ACQSTAT_RESULTS : Fld := ⟨GNC_ACQSTAT, 8, 7⟩
def GNC_ACQSTAT_QUEUED : Fld := ⟨GNC_ACQSTAT, 0, 7⟩
/-- GNC_ACQRES0, spec/04. -/
def GNC_ACQRES0 : Nat := 0x30060
def GNC_ACQRES0_PNR : Fld := ⟨GNC_ACQRES0, 24, 8⟩
def GNC_ACQRES0_STATUS : Fld := ⟨GNC_ACQRES0, 16, 4⟩
def GNC_ACQRES0_TAG : Fld := ⟨GNC_ACQRES0, 0, 16⟩
/-- GNC_ACQRES1, spec/04. -/
def GNC_ACQRES1 : Nat := 0x30064
def GNC_ACQRES1_RATIO : Fld := ⟨GNC_ACQRES1, 24, 8⟩
def GNC_ACQRES1_CODEPH : Fld := ⟨GNC_ACQRES1, 0, 18⟩
/-- GNC_ACQRES2, spec/04. -/
def GNC_ACQRES2 : Nat := 0x30068
def GNC_ACQRES2_DOPP : Fld := ⟨GNC_ACQRES2, 0, 17⟩
/-- GNC_ACQRES3, spec/04. -/
def GNC_ACQRES3 : Nat := 0x3006C
def GNC_ACQRES3_REFMS : Fld := ⟨GNC_ACQRES3, 0, 32⟩
/-- GNC_SNAPCTL, spec/04. -/
def GNC_SNAPCTL : Nat := 0x30080
def GNC_SNAPCTL_START : Fld := ⟨GNC_SNAPCTL, 31, 1⟩
def GNC_SNAPCTL_ABORT : Fld := ⟨GNC_SNAPCTL, 30, 1⟩
def GNC_SNAPCTL_ALIGN : Fld := ⟨GNC_SNAPCTL, 16, 1⟩
def GNC_SNAPCTL_BANDS : Fld := ⟨GNC_SNAPCTL, 14, 2⟩
def GNC_SNAPCTL_MS : Fld := ⟨GNC_SNAPCTL, 8, 6⟩
def GNC_SNAPCTL_BANK : Fld := ⟨GNC_SNAPCTL, 0, 8⟩
/-- GNC_SNAPSTAT, spec/04. -/
def GNC_SNAPSTAT : Nat := 0x30084
def GNC_SNAPSTAT_WRITTEN : Fld := ⟨GNC_SNAPSTAT, 8, 24⟩
def GNC_SNAPSTAT_RESULT : Fld := ⟨GNC_SNAPSTAT, 4, 4⟩
def GNC_SNAPSTAT_STATE : Fld := ⟨GNC_SNAPSTAT, 0, 4⟩

/-! Station GNT (spec/05). -/

/-- GNT_EPOCHCFG, spec/05. -/
def GNT_EPOCHCFG : Nat := 0x40000
def GNT_EPOCHCFG_RINGEN : Fld := ⟨GNT_EPOCHCFG, 4, 1⟩
def GNT_EPOCHCFG_IFEN : Fld := ⟨GNT_EPOCHCFG, 3, 1⟩
def GNT_EPOCHCFG_RATE : Fld := ⟨GNT_EPOCHCFG, 0, 3⟩
/-- GNT_EPOCHCNT, spec/05. -/
def GNT_EPOCHCNT : Nat := 0x40004
def GNT_EPOCHCNT_COUNT : Fld := ⟨GNT_EPOCHCNT, 0, 32⟩
/-- GNT_L5DLY, spec/05. -/
def GNT_L5DLY : Nat := 0x40008
def GNT_L5DLY_DLY : Fld := ⟨GNT_L5DLY, 0, 16⟩
/-- GNT_SQCNT, spec/05. -/
def GNT_SQCNT : Nat := 0x4000C
def GNT_SQCNT_LATE : Fld := ⟨GNT_SQCNT, 24, 8⟩
def GNT_SQCNT_STALE : Fld := ⟨GNT_SQCNT, 16, 8⟩
def GNT_SQCNT_SQUASH : Fld := ⟨GNT_SQCNT, 0, 16⟩
/-- GNT_MRBASE_LO, spec/05. -/
def GNT_MRBASE_LO : Nat := 0x40010
def GNT_MRBASE_LO_ADDR : Fld := ⟨GNT_MRBASE_LO, 12, 20⟩
/-- GNT_MRBASE_HI, spec/05. -/
def GNT_MRBASE_HI : Nat := 0x40014
def GNT_MRBASE_HI_ADDR : Fld := ⟨GNT_MRBASE_HI, 0, 32⟩
/-- GNT_MRSIZE, spec/05. -/
def GNT_MRSIZE : Nat := 0x40018
def GNT_MRSIZE_LOG2 : Fld := ⟨GNT_MRSIZE, 0, 5⟩
/-- GNT_MRHEAD, spec/05. -/
def GNT_MRHEAD : Nat := 0x4001C
def GNT_MRHEAD_HEAD : Fld := ⟨GNT_MRHEAD, 0, 32⟩
/-- GNT_MRTAIL, spec/05. -/
def GNT_MRTAIL : Nat := 0x40020
def GNT_MRTAIL_TAIL : Fld := ⟨GNT_MRTAIL, 0, 32⟩
/-- GNT_MRDROP, spec/05. -/
def GNT_MRDROP : Nat := 0x40024
def GNT_MRDROP_DROP : Fld := ⟨GNT_MRDROP, 0, 32⟩
/-- GNT_RTCMCFG, spec/05. -/
def GNT_RTCMCFG : Nat := 0x40030
def GNT_RTCMCFG_CONST : Fld := ⟨GNT_RTCMCFG, 16, 5⟩
def GNT_RTCMCFG_STAID : Fld := ⟨GNT_RTCMCFG, 4, 12⟩
def GNT_RTCMCFG_EN : Fld := ⟨GNT_RTCMCFG, 0, 1⟩
/-- GNT_TMODE, spec/05. -/
def GNT_TMODE : Nat := 0x40040
def GNT_TMODE_DUALONLY : Fld := ⟨GNT_TMODE, 2, 1⟩
def GNT_TMODE_MODE : Fld := ⟨GNT_TMODE, 0, 2⟩
/-- GNT_SURVEYCFG, spec/05. -/
def GNT_SURVEYCFG : Nat := 0x40044
def GNT_SURVEYCFG_ACCLIM : Fld := ⟨GNT_SURVEYCFG, 16, 16⟩
def GNT_SURVEYCFG_MINDUR : Fld := ⟨GNT_SURVEYCFG, 0, 16⟩
/-- GNT_POSX, spec/05. -/
def GNT_POSX : Nat := 0x40048
def GNT_POSX_X : Fld := ⟨GNT_POSX, 0, 32⟩
/-- GNT_POSY, spec/05. -/
def GNT_POSY : Nat := 0x4004C
def GNT_POSY_Y : Fld := ⟨GNT_POSY, 0, 32⟩
/-- GNT_POSZ, spec/05. -/
def GNT_POSZ : Nat := 0x40050
def GNT_POSZ_Z : Fld := ⟨GNT_POSZ, 0, 32⟩
/-- GNT_POSHP, spec/05. -/
def GNT_POSHP : Nat := 0x40054
def GNT_POSHP_ZHP : Fld := ⟨GNT_POSHP, 16, 8⟩
def GNT_POSHP_YHP : Fld := ⟨GNT_POSHP, 8, 8⟩
def GNT_POSHP_XHP : Fld := ⟨GNT_POSHP, 0, 8⟩
/-- GNT_POSACC, spec/05. -/
def GNT_POSACC : Nat := 0x40058
def GNT_POSACC_ACC : Fld := ⟨GNT_POSACC, 0, 32⟩
/-- GNT_PVTSTAT, spec/05. -/
def GNT_PVTSTAT : Nat := 0x40060
def GNT_PVTSTAT_NSIG : Fld := ⟨GNT_PVTSTAT, 16, 8⟩
def GNT_PVTSTAT_NSAT : Fld := ⟨GNT_PVTSTAT, 8, 8⟩
def GNT_PVTSTAT_FIX : Fld := ⟨GNT_PVTSTAT, 0, 3⟩
/-- GNT_TSOL_OFS, spec/05. -/
def GNT_TSOL_OFS : Nat := 0x40064
def GNT_TSOL_OFS_OFS : Fld := ⟨GNT_TSOL_OFS, 0, 32⟩
/-- GNT_TSOL_FRQ, spec/05. -/
def GNT_TSOL_FRQ : Nat := 0x40068
def GNT_TSOL_FRQ_FRQ : Fld := ⟨GNT_TSOL_FRQ, 0, 32⟩
/-- GNT_TSOL_CTL, spec/05. -/
def GNT_TSOL_CTL : Nat := 0x4006C
def GNT_TSOL_CTL_FIXEDPOS : Fld := ⟨GNT_TSOL_CTL, 17, 1⟩
def GNT_TSOL_CTL_DUAL : Fld := ⟨GNT_TSOL_CTL, 16, 1⟩
def GNT_TSOL_CTL_ACC : Fld := ⟨GNT_TSOL_CTL, 8, 8⟩
def GNT_TSOL_CTL_COARSE : Fld := ⟨GNT_TSOL_CTL, 2, 1⟩
def GNT_TSOL_CTL_VALID : Fld := ⟨GNT_TSOL_CTL, 1, 1⟩
def GNT_TSOL_CTL_POST : Fld := ⟨GNT_TSOL_CTL, 0, 1⟩
/-- GNT_START, spec/05. -/
def GNT_START : Nat := 0x40070
def GNT_START_TTFF : Fld := ⟨GNT_START, 16, 16⟩
def GNT_START_CLASS : Fld := ⟨GNT_START, 4, 3⟩
def GNT_START_FORCE : Fld := ⟨GNT_START, 0, 3⟩
/-- GNT_NAPCTL, spec/05. -/
def GNT_NAPCTL : Nat := 0x40080
def GNT_NAPCTL_WAKE : Fld := ⟨GNT_NAPCTL, 31, 1⟩
def GNT_NAPCTL_AWAKE : Fld := ⟨GNT_NAPCTL, 16, 15⟩
def GNT_NAPCTL_NAPLEN : Fld := ⟨GNT_NAPCTL, 0, 11⟩
/-- GNT_NAPSTAT, spec/05. -/
def GNT_NAPSTAT : Nat := 0x40084
def GNT_NAPSTAT_NAPS : Fld := ⟨GNT_NAPSTAT, 16, 16⟩
def GNT_NAPSTAT_REFUSED : Fld := ⟨GNT_NAPSTAT, 1, 1⟩
def GNT_NAPSTAT_NAPPING : Fld := ⟨GNT_NAPSTAT, 0, 1⟩
/-- GNT_OSNCFG, spec/05. -/
def GNT_OSNCFG : Nat := 0x40090
def GNT_OSNCFG_REQUIRE : Fld := ⟨GNT_OSNCFG, 1, 1⟩
def GNT_OSNCFG_EN : Fld := ⟨GNT_OSNCFG, 0, 1⟩
/-- GNT_OSNSTAT, spec/05. -/
def GNT_OSNSTAT : Nat := 0x40094
def GNT_OSNSTAT_FAILS : Fld := ⟨GNT_OSNSTAT, 16, 16⟩
def GNT_OSNSTAT_NAUTH : Fld := ⟨GNT_OSNSTAT, 8, 8⟩
def GNT_OSNSTAT_STATE : Fld := ⟨GNT_OSNSTAT, 0, 4⟩
/-- GNT_OSNROOT, spec/05. -/
def GNT_OSNROOT (i : Nat) : Nat := 0x400A0 + 0x4 * i
def GNT_OSNROOT_ROOT (i : Nat) : Fld := ⟨GNT_OSNROOT i, 0, 32⟩
/-- PRED_CARFREQ, spec/05. -/
def PRED_CARFREQ (i : Nat) (j : Nat) : Nat := 0x44000 + 0x40 * i + 0x10 * j
def PRED_CARFREQ_F (i : Nat) (j : Nat) : Fld := ⟨PRED_CARFREQ i j, 0, 32⟩
/-- PRED_CODEFREQ, spec/05. -/
def PRED_CODEFREQ (i : Nat) (j : Nat) : Nat := 0x44004 + 0x40 * i + 0x10 * j
def PRED_CODEFREQ_F (i : Nat) (j : Nat) : Fld := ⟨PRED_CODEFREQ i j, 0, 32⟩
/-- PRED_STEP, spec/05. -/
def PRED_STEP (i : Nat) (j : Nat) : Nat := 0x44008 + 0x40 * i + 0x10 * j
def PRED_STEP_CODESTEP (i : Nat) (j : Nat) : Fld := ⟨PRED_STEP i j, 20, 12⟩
def PRED_STEP_CARSTEP (i : Nat) (j : Nat) : Fld := ⟨PRED_STEP i j, 8, 12⟩
def PRED_STEP_GEN (i : Nat) (j : Nat) : Fld := ⟨PRED_STEP i j, 0, 8⟩
/-- PRED_ARM, spec/05. -/
def PRED_ARM (i : Nat) (j : Nat) : Nat := 0x4400C + 0x40 * i + 0x10 * j
def PRED_ARM_T (i : Nat) (j : Nat) : Fld := ⟨PRED_ARM i j, 0, 32⟩

/-! Station RFL (spec/07). -/

/-- RFL_PLAN, spec/07. -/
def RFL_PLAN (i : Nat) : Nat := 0x50000 + 0x10000 * i
def RFL_PLAN_WEIGHT (i : Nat) : Fld := ⟨RFL_PLAN i, 24, 6⟩
def RFL_PLAN_NTAPS (i : Nat) : Fld := ⟨RFL_PLAN i, 16, 6⟩
def RFL_PLAN_SENTTAPS (i : Nat) : Fld := ⟨RFL_PLAN i, 12, 4⟩
def RFL_PLAN_FMBDEP (i : Nat) : Fld := ⟨RFL_PLAN i, 8, 1⟩
def RFL_PLAN_CAPW (i : Nat) : Fld := ⟨RFL_PLAN i, 4, 3⟩
def RFL_PLAN_RATE (i : Nat) : Fld := ⟨RFL_PLAN i, 2, 1⟩
def RFL_PLAN_BANDGRP (i : Nat) : Fld := ⟨RFL_PLAN i, 0, 2⟩
/-- RFL_CAPCTR, spec/07. -/
def RFL_CAPCTR (i : Nat) : Nat := 0x50004 + 0x10000 * i
def RFL_CAPCTR_FREQ (i : Nat) : Fld := ⟨RFL_CAPCTR i, 0, 32⟩
/-- RFL_RXLO, spec/07. -/
def RFL_RXLO (i : Nat) : Nat := 0x50008 + 0x10000 * i
def RFL_RXLO_FREQ (i : Nat) : Fld := ⟨RFL_RXLO i, 0, 32⟩
/-- RFL_TXCFG, spec/07. -/
def RFL_TXCFG (i : Nat) : Nat := 0x50010 + 0x10000 * i
def RFL_TXCFG_RAMP (i : Nat) : Fld := ⟨RFL_TXCFG i, 16, 8⟩
def RFL_TXCFG_PWR (i : Nat) : Fld := ⟨RFL_TXCFG i, 0, 8⟩
/-- RFL_FECTL, spec/07. -/
def RFL_FECTL (i : Nat) : Nat := 0x50014 + 0x10000 * i
def RFL_FECTL_ANTLEAD (i : Nat) : Fld := ⟨RFL_FECTL i, 24, 5⟩
def RFL_FECTL_LNALEAD (i : Nat) : Fld := ⟨RFL_FECTL i, 16, 5⟩
def RFL_FECTL_PALEAD (i : Nat) : Fld := ⟨RFL_FECTL i, 8, 5⟩
def RFL_FECTL_PAFLTPOL (i : Nat) : Fld := ⟨RFL_FECTL i, 3, 1⟩
def RFL_FECTL_LNABLANK (i : Nat) : Fld := ⟨RFL_FECTL i, 2, 1⟩
def RFL_FECTL_EXTLNA (i : Nat) : Fld := ⟨RFL_FECTL i, 1, 1⟩
def RFL_FECTL_EXTPA (i : Nat) : Fld := ⟨RFL_FECTL i, 0, 1⟩
/-- RFL_AGC, spec/07. -/
def RFL_AGC (i : Nat) : Nat := 0x50018 + 0x10000 * i
def RFL_AGC_GAIN (i : Nat) : Fld := ⟨RFL_AGC i, 16, 8⟩
def RFL_AGC_MANGAIN (i : Nat) : Fld := ⟨RFL_AGC i, 8, 8⟩
def RFL_AGC_MODE (i : Nat) : Fld := ⟨RFL_AGC i, 0, 2⟩
/-- RFL_STAT, spec/07. -/
def RFL_STAT (i : Nat) : Nat := 0x50020 + 0x10000 * i
def RFL_STAT_TEMP (i : Nat) : Fld := ⟨RFL_STAT i, 24, 8⟩
def RFL_STAT_FCAUSE (i : Nat) : Fld := ⟨RFL_STAT i, 16, 2⟩
def RFL_STAT_TRIMDUE (i : Nat) : Fld := ⟨RFL_STAT i, 9, 1⟩
def RFL_STAT_TRIMMING (i : Nat) : Fld := ⟨RFL_STAT i, 8, 1⟩
def RFL_STAT_TXFENCE (i : Nat) : Fld := ⟨RFL_STAT i, 3, 1⟩
def RFL_STAT_RXFENCE (i : Nat) : Fld := ⟨RFL_STAT i, 2, 1⟩
def RFL_STAT_TXLOCK (i : Nat) : Fld := ⟨RFL_STAT i, 1, 1⟩
def RFL_STAT_RXLOCK (i : Nat) : Fld := ⟨RFL_STAT i, 0, 1⟩
/-- RFL_CTL, spec/07. -/
def RFL_CTL (i : Nat) : Nat := 0x50024 + 0x10000 * i
def RFL_CTL_TRIMREQ (i : Nat) : Fld := ⟨RFL_CTL i, 2, 1⟩
def RFL_CTL_TXCLR (i : Nat) : Fld := ⟨RFL_CTL i, 0, 1⟩
/-- RFL_IQ, spec/07. -/
def RFL_IQ (i : Nat) : Nat := 0x50028 + 0x10000 * i
def RFL_IQ_TTRIM (i : Nat) : Fld := ⟨RFL_IQ i, 24, 8⟩
def RFL_IQ_IRR (i : Nat) : Fld := ⟨RFL_IQ i, 0, 16⟩
/-- RFL_RXOK, spec/07. -/
def RFL_RXOK (i : Nat) : Nat := 0x50030 + 0x10000 * i
def RFL_RXOK_COUNT (i : Nat) : Fld := ⟨RFL_RXOK i, 0, 32⟩
/-- RFL_RXFCS, spec/07. -/
def RFL_RXFCS (i : Nat) : Nat := 0x50034 + 0x10000 * i
def RFL_RXFCS_COUNT (i : Nat) : Fld := ⟨RFL_RXFCS i, 0, 32⟩
/-- RFL_RXBLANK, spec/07. -/
def RFL_RXBLANK (i : Nat) : Nat := 0x50038 + 0x10000 * i
def RFL_RXBLANK_COUNT (i : Nat) : Fld := ⟨RFL_RXBLANK i, 0, 32⟩
/-- RFL_TXDONE, spec/07. -/
def RFL_TXDONE (i : Nat) : Nat := 0x5003C + 0x10000 * i
def RFL_TXDONE_COUNT (i : Nat) : Fld := ⟨RFL_TXDONE i, 0, 32⟩
/-- RFL_NOTREADY, spec/07. -/
def RFL_NOTREADY (i : Nat) : Nat := 0x50040 + 0x10000 * i
def RFL_NOTREADY_COUNT (i : Nat) : Fld := ⟨RFL_NOTREADY i, 0, 32⟩
/-- RFL_PROF, spec/07. -/
def RFL_PROF (i : Nat) (j : Nat) : Nat := 0x50060 + 0x10000 * i + 0x4 * j
def RFL_PROF_PREAMBLE (i : Nat) (j : Nat) : Fld := ⟨RFL_PROF i j, 24, 8⟩
def RFL_PROF_WHITEN (i : Nat) (j : Nat) : Fld := ⟨RFL_PROF i j, 15, 1⟩
def RFL_PROF_FCS4 (i : Nat) (j : Nat) : Fld := ⟨RFL_PROF i j, 14, 1⟩
def RFL_PROF_RATE (i : Nat) (j : Nat) : Fld := ⟨RFL_PROF i j, 8, 4⟩
def RFL_PROF_INDEX (i : Nat) (j : Nat) : Fld := ⟨RFL_PROF i j, 4, 2⟩
def RFL_PROF_PHY (i : Nat) (j : Nat) : Fld := ⟨RFL_PROF i j, 0, 4⟩
/-- RFL_TAP, spec/07. -/
def RFL_TAP (i : Nat) (j : Nat) : Nat := 0x50080 + 0x10000 * i + 0x4 * j
def RFL_TAP_CAST (i : Nat) (j : Nat) : Fld := ⟨RFL_TAP i j, 7, 1⟩
def RFL_TAP_SENT (i : Nat) (j : Nat) : Fld := ⟨RFL_TAP i j, 6, 1⟩
def RFL_TAP_PROF (i : Nat) (j : Nat) : Fld := ⟨RFL_TAP i j, 0, 3⟩
/-- RFL_CH, spec/07. -/
def RFL_CH (i : Nat) (j : Nat) : Nat := 0x50100 + 0x10000 * i + 0x4 * j
def RFL_CH_VALID (i : Nat) (j : Nat) : Fld := ⟨RFL_CH i j, 31, 1⟩
def RFL_CH_PROF (i : Nat) (j : Nat) : Fld := ⟨RFL_CH i j, 24, 3⟩
def RFL_CH_OFFSET (i : Nat) (j : Nat) : Fld := ⟨RFL_CH i j, 0, 24⟩
/-- RFL_FMB, spec/07. -/
def RFL_FMB (i : Nat) (j : Nat) : Nat := 0x50200 + 0x10000 * i + 0x4 * j
def RFL_FMB_VALUE (i : Nat) (j : Nat) : Fld := ⟨RFL_FMB i j, 16, 8⟩
def RFL_FMB_REG (i : Nat) (j : Nat) : Fld := ⟨RFL_FMB i j, 8, 8⟩
def RFL_FMB_ADDR (i : Nat) (j : Nat) : Fld := ⟨RFL_FMB i j, 0, 7⟩
/-- RFL0_FMBCFG, spec/07. -/
def RFL0_FMBCFG : Nat := 0x50300
def RFL0_FMBCFG_SPEED : Fld := ⟨RFL0_FMBCFG, 0, 2⟩
/-- RFL0_FMBXFER, spec/07. -/
def RFL0_FMBXFER : Nat := 0x50304
def RFL0_FMBXFER_GO : Fld := ⟨RFL0_FMBXFER, 31, 1⟩
def RFL0_FMBXFER_READ : Fld := ⟨RFL0_FMBXFER, 30, 1⟩
def RFL0_FMBXFER_ADDR : Fld := ⟨RFL0_FMBXFER, 16, 7⟩
def RFL0_FMBXFER_REG : Fld := ⟨RFL0_FMBXFER, 8, 8⟩
def RFL0_FMBXFER_DATA : Fld := ⟨RFL0_FMBXFER, 0, 8⟩
/-- RFL0_FMBSTAT, spec/07. -/
def RFL0_FMBSTAT : Nat := 0x50308
def RFL0_FMBSTAT_RDATA : Fld := ⟨RFL0_FMBSTAT, 24, 8⟩
def RFL0_FMBSTAT_RETRIES : Fld := ⟨RFL0_FMBSTAT, 16, 8⟩
def RFL0_FMBSTAT_CAUSE : Fld := ⟨RFL0_FMBSTAT, 8, 2⟩
def RFL0_FMBSTAT_XDONE : Fld := ⟨RFL0_FMBSTAT, 2, 1⟩
def RFL0_FMBSTAT_BUSY : Fld := ⟨RFL0_FMBSTAT, 1, 1⟩
def RFL0_FMBSTAT_FAILED : Fld := ⟨RFL0_FMBSTAT, 0, 1⟩

/-! Station MAC (spec/08). -/

/-- MAC_CELLID, spec/08. -/
def MAC_CELLID : Nat := 0x90000
def MAC_CELLID_CELLID : Fld := ⟨MAC_CELLID, 0, 16⟩
/-- MAC_GUARDCFG, spec/08. -/
def MAC_GUARDCFG : Nat := 0x90004
def MAC_GUARDCFG_HMARGIN : Fld := ⟨MAC_GUARDCFG, 16, 12⟩
def MAC_GUARDCFG_GBASE : Fld := ⟨MAC_GUARDCFG, 0, 12⟩
/-- MAC_LOSSCFG, spec/08. -/
def MAC_LOSSCFG : Nat := 0x90008
def MAC_LOSSCFG_MISSMAX : Fld := ⟨MAC_LOSSCFG, 0, 8⟩
/-- MAC_GEOM, spec/08. -/
def MAC_GEOM : Nat := 0x9000C
def MAC_GEOM_SENTK : Fld := ⟨MAC_GEOM, 24, 4⟩
def MAC_GEOM_ACKEVERY : Fld := ⟨MAC_GEOM, 16, 6⟩
def MAC_GEOM_WIN : Fld := ⟨MAC_GEOM, 0, 12⟩
/-- MAC_LANEGEOM, spec/08. -/
def MAC_LANEGEOM (i : Nat) : Nat := 0x90010 + 0x4 * i
def MAC_LANEGEOM_JRSLOT (i : Nat) : Fld := ⟨MAC_LANEGEOM i, 23, 9⟩
def MAC_LANEGEOM_JOINN (i : Nat) : Fld := ⟨MAC_LANEGEOM i, 16, 5⟩
def MAC_LANEGEOM_JOINCH (i : Nat) : Fld := ⟨MAC_LANEGEOM i, 8, 6⟩
def MAC_LANEGEOM_BCH (i : Nat) : Fld := ⟨MAC_LANEGEOM i, 0, 6⟩
/-- MAC_NRPAGE, spec/08. -/
def MAC_NRPAGE : Nat := 0x90020
def MAC_NRPAGE_PAGE : Fld := ⟨MAC_NRPAGE, 0, 4⟩
/-- MAC_NACTIVE, spec/08. -/
def MAC_NACTIVE : Nat := 0x90024
def MAC_NACTIVE_COUNT : Fld := ⟨MAC_NACTIVE, 0, 18⟩
/-- MAC_NADRIFT, spec/08. -/
def MAC_NADRIFT : Nat := 0x90028
def MAC_NADRIFT_COUNT : Fld := ⟨MAC_NADRIFT, 0, 18⟩
/-- MAC_NLOST, spec/08. -/
def MAC_NLOST : Nat := 0x9002C
def MAC_NLOST_COUNT : Fld := ⟨MAC_NLOST, 0, 18⟩
/-- MAC_FOREIGN, spec/08. -/
def MAC_FOREIGN : Nat := 0x90030
def MAC_FOREIGN_COUNT : Fld := ⟨MAC_FOREIGN, 0, 32⟩
/-- MAC_AUTHFAIL, spec/08. -/
def MAC_AUTHFAIL : Nat := 0x90034
def MAC_AUTHFAIL_COUNT : Fld := ⟨MAC_AUTHFAIL, 0, 32⟩
/-- MAC_REPEAT, spec/08. -/
def MAC_REPEAT : Nat := 0x90038
def MAC_REPEAT_COUNT : Fld := ⟨MAC_REPEAT, 0, 32⟩
/-- MAC_JOINUNK, spec/08. -/
def MAC_JOINUNK : Nat := 0x9003C
def MAC_JOINUNK_COUNT : Fld := ⟨MAC_JOINUNK, 0, 32⟩
/-- MAC_DCREFUSE, spec/08. -/
def MAC_DCREFUSE : Nat := 0x90040
def MAC_DCREFUSE_COUNT : Fld := ⟨MAC_DCREFUSE, 0, 32⟩
/-- MAC_ACKDEFER, spec/08. -/
def MAC_ACKDEFER : Nat := 0x90044
def MAC_ACKDEFER_COUNT : Fld := ⟨MAC_ACKDEFER, 0, 32⟩
/-- MAC_BEACONMISS, spec/08. -/
def MAC_BEACONMISS : Nat := 0x90048
def MAC_BEACONMISS_COUNT : Fld := ⟨MAC_BEACONMISS, 0, 32⟩
/-- MAC_MAPCAP, spec/08. -/
def MAC_MAPCAP : Nat := 0x9004C
def MAC_MAPCAP_MAPCAP : Fld := ⟨MAC_MAPCAP, 0, 6⟩
/-- MAC_DOWN, spec/08. -/
def MAC_DOWN (i : Nat) : Nat := 0x90100 + 0x4 * i
def MAC_DOWN_VALID (i : Nat) : Fld := ⟨MAC_DOWN i, 31, 1⟩
def MAC_DOWN_SLOT (i : Nat) : Fld := ⟨MAC_DOWN i, 0, 9⟩

/-! Station SCH (spec/09). -/

/-- SCH_CFG, spec/09. -/
def SCH_CFG : Nat := 0xA0000
def SCH_CFG_DEPTH : Fld := ⟨SCH_CFG, 0, 4⟩
/-- SCH_STAT, spec/09. -/
def SCH_STAT : Nat := 0xA0004
def SCH_STAT_RUN : Fld := ⟨SCH_STAT, 31, 1⟩
def SCH_STAT_STALLED : Fld := ⟨SCH_STAT, 30, 1⟩
def SCH_STAT_LASTBARE : Fld := ⟨SCH_STAT, 29, 1⟩
def SCH_STAT_FIXUSED : Fld := ⟨SCH_STAT, 16, 8⟩
def SCH_STAT_POOLUSED : Fld := ⟨SCH_STAT, 0, 12⟩
/-- SCH_COMMITBEAT, spec/09. -/
def SCH_COMMITBEAT : Nat := 0xA0008
def SCH_COMMITBEAT_BEAT : Fld := ⟨SCH_COMMITBEAT, 0, 32⟩
/-- SCH_HORIZON, spec/09. -/
def SCH_HORIZON : Nat := 0xA000C
def SCH_HORIZON_BEAT : Fld := ⟨SCH_HORIZON, 0, 32⟩
/-- SCH_PLANNED, spec/09. -/
def SCH_PLANNED : Nat := 0xA0010
def SCH_PLANNED_BEAT : Fld := ⟨SCH_PLANNED, 0, 32⟩
/-- SCH_NSQUASH, spec/09. -/
def SCH_NSQUASH : Nat := 0xA0020
def SCH_NSQUASH_COUNT : Fld := ⟨SCH_NSQUASH, 0, 32⟩
/-- SCH_NSTALE, spec/09. -/
def SCH_NSTALE : Nat := 0xA0024
def SCH_NSTALE_COUNT : Fld := ⟨SCH_NSTALE, 0, 32⟩
/-- SCH_NBARE, spec/09. -/
def SCH_NBARE : Nat := 0xA0028
def SCH_NBARE_COUNT : Fld := ⟨SCH_NBARE, 0, 32⟩
/-- SCH_NBURNED, spec/09. -/
def SCH_NBURNED : Nat := 0xA002C
def SCH_NBURNED_COUNT : Fld := ⟨SCH_NBURNED, 0, 32⟩
/-- SCH_NSTALLS, spec/09. -/
def SCH_NSTALLS : Nat := 0xA0030
def SCH_NSTALLS_COUNT : Fld := ⟨SCH_NSTALLS, 0, 32⟩
/-- SCH_NLATE, spec/09. -/
def SCH_NLATE : Nat := 0xA0034
def SCH_NLATE_COUNT : Fld := ⟨SCH_NLATE, 0, 32⟩
/-- SCH_LASTSQ, spec/09. -/
def SCH_LASTSQ : Nat := 0xA0038
def SCH_LASTSQ_CAUSE : Fld := ⟨SCH_LASTSQ, 24, 4⟩
def SCH_LASTSQ_COUNT : Fld := ⟨SCH_LASTSQ, 0, 11⟩
/-- SCH_LASTSQBEAT, spec/09. -/
def SCH_LASTSQBEAT : Nat := 0xA003C
def SCH_LASTSQBEAT_BEAT : Fld := ⟨SCH_LASTSQBEAT, 0, 32⟩
/-- SCH_BLKLO, spec/09. -/
def SCH_BLKLO (i : Nat) : Nat := 0xA0040 + 0x8 * i
def SCH_BLKLO_CH (i : Nat) : Fld := ⟨SCH_BLKLO i, 0, 32⟩
/-- SCH_BLKHI, spec/09. -/
def SCH_BLKHI (i : Nat) : Nat := 0xA0044 + 0x8 * i
def SCH_BLKHI_CH (i : Nat) : Fld := ⟨SCH_BLKHI i, 0, 32⟩
/-- SCH_CANCEL, spec/09. -/
def SCH_CANCEL : Nat := 0xA0060
def SCH_CANCEL_GO : Fld := ⟨SCH_CANCEL, 31, 1⟩
def SCH_CANCEL_QUEUE : Fld := ⟨SCH_CANCEL, 16, 3⟩
def SCH_CANCEL_TAG : Fld := ⟨SCH_CANCEL, 0, 16⟩

/-! Station FWD (spec/10). -/

/-- FWD_GEOM, spec/10. -/
def FWD_GEOM : Nat := 0xB0000
def FWD_GEOM_SWEEP : Fld := ⟨FWD_GEOM, 16, 12⟩
def FWD_GEOM_NLEN : Fld := ⟨FWD_GEOM, 8, 5⟩
def FWD_GEOM_FIRSTBANK : Fld := ⟨FWD_GEOM, 0, 8⟩
/-- FWD_LEN, spec/10. -/
def FWD_LEN (i : Nat) : Nat := 0xB0010 + 0x4 * i
def FWD_LEN_COUNT (i : Nat) : Fld := ⟨FWD_LEN i, 13, 19⟩
def FWD_LEN_LOG2NB (i : Nat) : Fld := ⟨FWD_LEN i, 8, 4⟩
def FWD_LEN_LEN (i : Nat) : Fld := ⟨FWD_LEN i, 0, 8⟩
/-- FWD_TWSEL, spec/10. -/
def FWD_TWSEL : Nat := 0xB0050
def FWD_TWSEL_TABLE : Fld := ⟨FWD_TWSEL, 4, 2⟩
def FWD_TWSEL_PAGE : Fld := ⟨FWD_TWSEL, 0, 3⟩
/-- FWD_LOCK, spec/10. -/
def FWD_LOCK : Nat := 0xB0054
def FWD_LOCK_LOCKED : Fld := ⟨FWD_LOCK, 16, 4⟩
def FWD_LOCK_REQ : Fld := ⟨FWD_LOCK, 0, 4⟩
/-- FWD_CMD, spec/10. -/
def FWD_CMD : Nat := 0xB0060
def FWD_CMD_GO : Fld := ⟨FWD_CMD, 31, 1⟩
def FWD_CMD_BUSY : Fld := ⟨FWD_CMD, 30, 1⟩
def FWD_CMD_STATUS : Fld := ⟨FWD_CMD, 24, 4⟩
def FWD_CMD_KEYSEL : Fld := ⟨FWD_CMD, 12, 2⟩
def FWD_CMD_TABLE : Fld := ⟨FWD_CMD, 8, 2⟩
def FWD_CMD_OP : Fld := ⟨FWD_CMD, 0, 3⟩
/-- FWD_CIDX, spec/10. -/
def FWD_CIDX : Nat := 0xB0064
def FWD_CIDX_START : Fld := ⟨FWD_CIDX, 31, 1⟩
def FWD_CIDX_INDEX : Fld := ⟨FWD_CIDX, 0, 18⟩
/-- FWD_CK, spec/10. -/
def FWD_CK (i : Nat) : Nat := 0xB0068 + 0x4 * i
def FWD_CK_KEY (i : Nat) : Fld := ⟨FWD_CK i, 0, 32⟩
/-- FWD_CD, spec/10. -/
def FWD_CD (i : Nat) : Nat := 0xB0080 + 0x4 * i
def FWD_CD_DATA (i : Nat) : Fld := ⟨FWD_CD i, 0, 32⟩
/-- FWD_MEQ0, spec/10. -/
def FWD_MEQ0 : Nat := 0xB00A0
def FWD_MEQ0_BANK : Fld := ⟨FWD_MEQ0, 24, 8⟩
def FWD_MEQ0_BOFS : Fld := ⟨FWD_MEQ0, 12, 12⟩
def FWD_MEQ0_LEN : Fld := ⟨FWD_MEQ0, 0, 12⟩
/-- FWD_MEQ1, spec/10. -/
def FWD_MEQ1 : Nat := 0xB00A4
def FWD_MEQ1_NODEV : Fld := ⟨FWD_MEQ1, 18, 1⟩
def FWD_MEQ1_NODE : Fld := ⟨FWD_MEQ1, 0, 18⟩
/-- FWD_MEQ2, spec/10. -/
def FWD_MEQ2 : Nat := 0xB00A8
def FWD_MEQ2_DESTV : Fld := ⟨FWD_MEQ2, 18, 1⟩
def FWD_MEQ2_DEST : Fld := ⟨FWD_MEQ2, 0, 18⟩
/-- FWD_MEQ3, spec/10. -/
def FWD_MEQ3 : Nat := 0xB00AC
def FWD_MEQ3_VALID : Fld := ⟨FWD_MEQ3, 31, 1⟩
def FWD_MEQ3_REPEAT : Fld := ⟨FWD_MEQ3, 30, 1⟩
def FWD_MEQ3_LANE : Fld := ⟨FWD_MEQ3, 0, 2⟩
/-- FWD_MEQCTL, spec/10. -/
def FWD_MEQCTL : Nat := 0xB00B0
def FWD_MEQCTL_POP : Fld := ⟨FWD_MEQCTL, 31, 1⟩
def FWD_MEQCTL_COUNT : Fld := ⟨FWD_MEQCTL, 0, 13⟩
/-- FWD_SHCFG, spec/10. -/
def FWD_SHCFG : Nat := 0xB00C0
def FWD_SHCFG_PERIOD : Fld := ⟨FWD_SHCFG, 16, 16⟩
def FWD_SHCFG_CHUNK : Fld := ⟨FWD_SHCFG, 8, 4⟩
def FWD_SHCFG_TABLES : Fld := ⟨FWD_SHCFG, 4, 4⟩
def FWD_SHCFG_REPAIR : Fld := ⟨FWD_SHCFG, 1, 1⟩
def FWD_SHCFG_EN : Fld := ⟨FWD_SHCFG, 0, 1⟩
/-- FWD_SHBASE_LO, spec/10. -/
def FWD_SHBASE_LO : Nat := 0xB00C4
def FWD_SHBASE_LO_ADDR : Fld := ⟨FWD_SHBASE_LO, 16, 16⟩
/-- FWD_SHBASE_HI, spec/10. -/
def FWD_SHBASE_HI : Nat := 0xB00C8
def FWD_SHBASE_HI_ADDR : Fld := ⟨FWD_SHBASE_HI, 0, 32⟩
/-- FWD_SHSTAT, spec/10. -/
def FWD_SHSTAT : Nat := 0xB00CC
def FWD_SHSTAT_MISSES : Fld := ⟨FWD_SHSTAT, 16, 16⟩
def FWD_SHSTAT_REPFAIL : Fld := ⟨FWD_SHSTAT, 8, 8⟩
def FWD_SHSTAT_STALLED : Fld := ⟨FWD_SHSTAT, 1, 1⟩
def FWD_SHSTAT_ACTIVE : Fld := ⟨FWD_SHSTAT, 0, 1⟩
/-- FWD_SHMISS, spec/10. -/
def FWD_SHMISS : Nat := 0xB00D0
def FWD_SHMISS_TABLE : Fld := ⟨FWD_SHMISS, 30, 2⟩
def FWD_SHMISS_INDEX : Fld := ⟨FWD_SHMISS, 0, 18⟩
/-- FWD_NOROUTE, spec/10. -/
def FWD_NOROUTE : Nat := 0xB00E0
def FWD_NOROUTE_COUNT : Fld := ⟨FWD_NOROUTE, 0, 32⟩
/-- FWD_NOHOP, spec/10. -/
def FWD_NOHOP : Nat := 0xB00E4
def FWD_NOHOP_COUNT : Fld := ⟨FWD_NOHOP, 0, 32⟩
/-- FWD_ACTDROP, spec/10. -/
def FWD_ACTDROP : Nat := 0xB00E8
def FWD_ACTDROP_COUNT : Fld := ⟨FWD_ACTDROP, 0, 32⟩
/-- FWD_QDROP, spec/10. -/
def FWD_QDROP : Nat := 0xB00EC
def FWD_QDROP_COUNT : Fld := ⟨FWD_QDROP, 0, 32⟩
/-- FWD_LEARNDROP, spec/10. -/
def FWD_LEARNDROP : Nat := 0xB00F0
def FWD_LEARNDROP_COUNT : Fld := ⟨FWD_LEARNDROP, 0, 32⟩
/-- FWD_AGED, spec/10. -/
def FWD_AGED : Nat := 0xB00F4
def FWD_AGED_COUNT : Fld := ⟨FWD_AGED, 0, 32⟩
/-- FWD_NBRMOVE, spec/10. -/
def FWD_NBRMOVE : Nat := 0xB00F8
def FWD_NBRMOVE_COUNT : Fld := ⟨FWD_NBRMOVE, 0, 32⟩

/-! Station SEC (spec/11). -/

/-- SEC_STAT, spec/11. -/
def SEC_STAT : Nat := 0xC0000
def SEC_STAT_PENDJ : Fld := ⟨SEC_STAT, 16, 8⟩
def SEC_STAT_EXBUSY : Fld := ⟨SEC_STAT, 15, 1⟩
def SEC_STAT_SLOTS : Fld := ⟨SEC_STAT, 0, 7⟩
/-- SEC_HOLDDROP, spec/11. -/
def SEC_HOLDDROP : Nat := 0xC0004
def SEC_HOLDDROP_COUNT : Fld := ⟨SEC_HOLDDROP, 0, 32⟩
/-- SEC_TMPUB, spec/11. -/
def SEC_TMPUB (i : Nat) : Nat := 0xC0010 + 0x4 * i
def SEC_TMPUB_PUB (i : Nat) : Fld := ⟨SEC_TMPUB i, 0, 32⟩
/-- SEC_TMCERT, spec/11. -/
def SEC_TMCERT (i : Nat) : Nat := 0xC0050 + 0x4 * i
def SEC_TMCERT_SIG (i : Nat) : Fld := ⟨SEC_TMCERT i, 0, 32⟩
/-- SEC_TRNG, spec/11. -/
def SEC_TRNG : Nat := 0xC0090
def SEC_TRNG_RAND : Fld := ⟨SEC_TRNG, 0, 32⟩
/-- SEC_TRNGSTAT, spec/11. -/
def SEC_TRNGSTAT : Nat := 0xC0094
def SEC_TRNGSTAT_FAILS : Fld := ⟨SEC_TRNGSTAT, 16, 16⟩
def SEC_TRNGSTAT_RETEST : Fld := ⟨SEC_TRNGSTAT, 1, 1⟩
def SEC_TRNGSTAT_HEALTHY : Fld := ⟨SEC_TRNGSTAT, 0, 1⟩
/-- SEC_KEYCMD, spec/11. -/
def SEC_KEYCMD : Nat := 0xC00A0
def SEC_KEYCMD_GO : Fld := ⟨SEC_KEYCMD, 31, 1⟩
def SEC_KEYCMD_BUSY : Fld := ⟨SEC_KEYCMD, 30, 1⟩
def SEC_KEYCMD_STATUS : Fld := ⟨SEC_KEYCMD, 24, 4⟩
def SEC_KEYCMD_OP : Fld := ⟨SEC_KEYCMD, 0, 3⟩
/-- SEC_KEYARG, spec/11. -/
def SEC_KEYARG : Nat := 0xC00A4
def SEC_KEYARG_SLOT : Fld := ⟨SEC_KEYARG, 18, 7⟩
def SEC_KEYARG_INDEX : Fld := ⟨SEC_KEYARG, 0, 18⟩
/-- SEC_KEYDATA, spec/11. -/
def SEC_KEYDATA (i : Nat) : Nat := 0xC00A8 + 0x4 * i
def SEC_KEYDATA_WRAP (i : Nat) : Fld := ⟨SEC_KEYDATA i, 0, 32⟩
/-- SEC_JOINCMD, spec/11. -/
def SEC_JOINCMD : Nat := 0xC00C4
def SEC_JOINCMD_GO : Fld := ⟨SEC_JOINCMD, 31, 1⟩
def SEC_JOINCMD_BUSY : Fld := ⟨SEC_JOINCMD, 30, 1⟩
def SEC_JOINCMD_STATUS : Fld := ⟨SEC_JOINCMD, 24, 3⟩
def SEC_JOINCMD_INDEX : Fld := ⟨SEC_JOINCMD, 0, 18⟩
/-- SEC_JOINARG, spec/11. -/
def SEC_JOINARG : Nat := 0xC00C8
def SEC_JOINARG_BANK : Fld := ⟨SEC_JOINARG, 24, 8⟩
def SEC_JOINARG_BOFS : Fld := ⟨SEC_JOINARG, 9, 15⟩
def SEC_JOINARG_LEN : Fld := ⟨SEC_JOINARG, 0, 9⟩
/-- SEC_BKEY, spec/11. -/
def SEC_BKEY : Nat := 0xC00D0
def SEC_BKEY_NEXT : Fld := ⟨SEC_BKEY, 1, 1⟩
def SEC_BKEY_CUR : Fld := ⟨SEC_BKEY, 0, 1⟩
/-- SEC_JOBD0, spec/11. -/
def SEC_JOBD0 : Nat := 0xC0100
def SEC_JOBD0_TAG : Fld := ⟨SEC_JOBD0, 16, 16⟩
def SEC_JOBD0_KEYSLOT : Fld := ⟨SEC_JOBD0, 9, 7⟩
def SEC_JOBD0_MBOX : Fld := ⟨SEC_JOBD0, 4, 4⟩
def SEC_JOBD0_OP : Fld := ⟨SEC_JOBD0, 0, 4⟩
/-- SEC_JOBD1, spec/11. -/
def SEC_JOBD1 : Nat := 0xC0104
def SEC_JOBD1_LEN : Fld := ⟨SEC_JOBD1, 0, 8⟩
/-- SEC_JOBCTL, spec/11. -/
def SEC_JOBCTL : Nat := 0xC0108
def SEC_JOBCTL_POP : Fld := ⟨SEC_JOBCTL, 1, 1⟩
def SEC_JOBCTL_PUSH : Fld := ⟨SEC_JOBCTL, 0, 1⟩
/-- SEC_JOBRES, spec/11. -/
def SEC_JOBRES : Nat := 0xC010C
def SEC_JOBRES_TAG : Fld := ⟨SEC_JOBRES, 16, 16⟩
def SEC_JOBRES_VALID : Fld := ⟨SEC_JOBRES, 15, 1⟩
def SEC_JOBRES_STATUS : Fld := ⟨SEC_JOBRES, 0, 4⟩
/-- SEC_JOBSTAT, spec/11. -/
def SEC_JOBSTAT : Nat := 0xC0110
def SEC_JOBSTAT_REFUSED : Fld := ⟨SEC_JOBSTAT, 24, 8⟩
def SEC_JOBSTAT_RESULTS : Fld := ⟨SEC_JOBSTAT, 8, 5⟩
def SEC_JOBSTAT_QUEUED : Fld := ⟨SEC_JOBSTAT, 0, 5⟩
/-- SEC_IMGCFG, spec/11. -/
def SEC_IMGCFG (i : Nat) : Nat := 0xC0200 + 0x10 * i
def SEC_IMGCFG_LOAD (i : Nat) : Fld := ⟨SEC_IMGCFG i, 31, 1⟩
def SEC_IMGCFG_DROP (i : Nat) : Fld := ⟨SEC_IMGCFG i, 30, 1⟩
def SEC_IMGCFG_FIRSTBANK (i : Nat) : Fld := ⟨SEC_IMGCFG i, 0, 8⟩
/-- SEC_IMGSTAT, spec/11. -/
def SEC_IMGSTAT (i : Nat) : Nat := 0xC0204 + 0x10 * i
def SEC_IMGSTAT_CAUSE (i : Nat) : Fld := ⟨SEC_IMGSTAT i, 4, 4⟩
def SEC_IMGSTAT_STATE (i : Nat) : Fld := ⟨SEC_IMGSTAT i, 0, 2⟩
/-- SEC_IMGLEN, spec/11. -/
def SEC_IMGLEN (i : Nat) : Nat := 0xC0208 + 0x10 * i
def SEC_IMGLEN_LEN (i : Nat) : Fld := ⟨SEC_IMGLEN i, 0, 32⟩
/-- SEC_IMGVER, spec/11. -/
def SEC_IMGVER (i : Nat) : Nat := 0xC020C + 0x10 * i
def SEC_IMGVER_FWVER (i : Nat) : Fld := ⟨SEC_IMGVER i, 0, 32⟩
/-- SEC_CAMPCFG, spec/11. -/
def SEC_CAMPCFG (i : Nat) : Nat := 0xC0300 + 0x40 * i
def SEC_CAMPCFG_TDIVHI (i : Nat) : Fld := ⟨SEC_CAMPCFG i, 8, 4⟩
def SEC_CAMPCFG_IMG (i : Nat) : Fld := ⟨SEC_CAMPCFG i, 0, 2⟩
/-- SEC_CAMPTDIV, spec/11. -/
def SEC_CAMPTDIV (i : Nat) : Nat := 0xC0304 + 0x40 * i
def SEC_CAMPTDIV_TDIVLO (i : Nat) : Fld := ⟨SEC_CAMPTDIV i, 0, 6⟩
/-- SEC_CAMPCTL, spec/11. -/
def SEC_CAMPCTL (i : Nat) : Nat := 0xC0308 + 0x40 * i
def SEC_CAMPCTL_END (i : Nat) : Fld := ⟨SEC_CAMPCTL i, 3, 1⟩
def SEC_CAMPCTL_PAUSE (i : Nat) : Fld := ⟨SEC_CAMPCTL i, 2, 1⟩
def SEC_CAMPCTL_START (i : Nat) : Fld := ⟨SEC_CAMPCTL i, 1, 1⟩
def SEC_CAMPCTL_PREPARE (i : Nat) : Fld := ⟨SEC_CAMPCTL i, 0, 1⟩
/-- SEC_CAMPSTAT, spec/11. -/
def SEC_CAMPSTAT (i : Nat) : Nat := 0xC030C + 0x40 * i
def SEC_CAMPSTAT_NEXTESI (i : Nat) : Fld := ⟨SEC_CAMPSTAT i, 8, 24⟩
def SEC_CAMPSTAT_CAUSE (i : Nat) : Fld := ⟨SEC_CAMPSTAT i, 4, 4⟩
def SEC_CAMPSTAT_EXHAUSTED (i : Nat) : Fld := ⟨SEC_CAMPSTAT i, 3, 1⟩
def SEC_CAMPSTAT_STATE (i : Nat) : Fld := ⟨SEC_CAMPSTAT i, 0, 3⟩
/-- SEC_CAMPK, spec/11. -/
def SEC_CAMPK (i : Nat) : Nat := 0xC0310 + 0x40 * i
def SEC_CAMPK_K (i : Nat) : Fld := ⟨SEC_CAMPK i, 0, 16⟩
/-- SEC_CAMPIDLO, spec/11. -/
def SEC_CAMPIDLO (i : Nat) : Nat := 0xC0314 + 0x40 * i
def SEC_CAMPIDLO_ID (i : Nat) : Fld := ⟨SEC_CAMPIDLO i, 0, 32⟩
/-- SEC_CAMPIDHI, spec/11. -/
def SEC_CAMPIDHI (i : Nat) : Nat := 0xC0318 + 0x40 * i
def SEC_CAMPIDHI_ID (i : Nat) : Fld := ⟨SEC_CAMPIDHI i, 0, 32⟩
/-- SEC_CAMPWAIT, spec/11. -/
def SEC_CAMPWAIT (i : Nat) : Nat := 0xC031C + 0x40 * i
def SEC_CAMPWAIT_COUNT (i : Nat) : Fld := ⟨SEC_CAMPWAIT i, 0, 18⟩
/-- SEC_CAMPDONE, spec/11. -/
def SEC_CAMPDONE (i : Nat) : Nat := 0xC0320 + 0x40 * i
def SEC_CAMPDONE_COUNT (i : Nat) : Fld := ⟨SEC_CAMPDONE i, 0, 18⟩
/-- SEC_CAMPFAIL, spec/11. -/
def SEC_CAMPFAIL (i : Nat) : Nat := 0xC0324 + 0x40 * i
def SEC_CAMPFAIL_COUNT (i : Nat) : Fld := ⟨SEC_CAMPFAIL i, 0, 18⟩

/-! Station PLK (spec/12). -/

/-- PLK_PCFG, spec/12. -/
def PLK_PCFG (i : Nat) : Nat := 0xD0000 + 0x40 * i
def PLK_PCFG_DOMAIN (i : Nat) : Fld := ⟨PLK_PCFG i, 16, 8⟩
def PLK_PCFG_DELAY (i : Nat) : Fld := ⟨PLK_PCFG i, 10, 2⟩
def PLK_PCFG_TWOSTEP (i : Nat) : Fld := ⟨PLK_PCFG i, 9, 1⟩
def PLK_PCFG_PTPL2 (i : Nat) : Fld := ⟨PLK_PCFG i, 8, 1⟩
def PLK_PCFG_PTPROLE (i : Nat) : Fld := ⟨PLK_PCFG i, 4, 2⟩
def PLK_PCFG_MODE (i : Nat) : Fld := ⟨PLK_PCFG i, 0, 2⟩
/-- PLK_PSTAT, spec/12. -/
def PLK_PSTAT (i : Nat) : Nat := 0xD0004 + 0x40 * i
def PLK_PSTAT_PTPSTATE (i : Nat) : Fld := ⟨PLK_PSTAT i, 20, 4⟩
def PLK_PSTAT_LOCKED (i : Nat) : Fld := ⟨PLK_PSTAT i, 16, 1⟩
def PLK_PSTAT_SPEED (i : Nat) : Fld := ⟨PLK_PSTAT i, 8, 2⟩
def PLK_PSTAT_LINK (i : Nat) : Fld := ⟨PLK_PSTAT i, 0, 1⟩
/-- PLK_PLAT, spec/12. -/
def PLK_PLAT (i : Nat) : Nat := 0xD0008 + 0x40 * i
def PLK_PLAT_TXLAT (i : Nat) : Fld := ⟨PLK_PLAT i, 16, 16⟩
def PLK_PLAT_RXLAT (i : Nat) : Fld := ⟨PLK_PLAT i, 0, 16⟩
/-- PLK_POFS, spec/12. -/
def PLK_POFS (i : Nat) : Nat := 0xD000C + 0x40 * i
def PLK_POFS_OFS (i : Nat) : Fld := ⟨PLK_POFS i, 0, 32⟩
/-- PLK_PADDR, spec/12. -/
def PLK_PADDR (i : Nat) (j : Nat) : Nat := 0xD0010 + 0x40 * i + 0x4 * j
def PLK_PADDR_ADDR (i : Nat) (j : Nat) : Fld := ⟨PLK_PADDR i j, 0, 32⟩
/-- PLK_PDROP, spec/12. -/
def PLK_PDROP (i : Nat) : Nat := 0xD0020 + 0x40 * i
def PLK_PDROP_COUNT (i : Nat) : Fld := ⟨PLK_PDROP i, 0, 32⟩
/-- PLK_CFG, spec/12. -/
def PLK_CFG : Nat := 0xD0100
def PLK_CFG_SAMEKEY : Fld := ⟨PLK_CFG, 1, 1⟩
def PLK_CFG_UPLEN : Fld := ⟨PLK_CFG, 0, 1⟩
/-- PLK_EPOCH, spec/12. -/
def PLK_EPOCH : Nat := 0xD0104
def PLK_EPOCH_EPOCH : Fld := ⟨PLK_EPOCH, 0, 32⟩
/-- PLK_SBCFG, spec/12. -/
def PLK_SBCFG : Nat := 0xD0108
def PLK_SBCFG_SILENCE : Fld := ⟨PLK_SBCFG, 4, 4⟩
def PLK_SBCFG_FENCE : Fld := ⟨PLK_SBCFG, 2, 1⟩
def PLK_SBCFG_ROLE : Fld := ⟨PLK_SBCFG, 0, 2⟩
/-- PLK_SBSTAT, spec/12. -/
def PLK_SBSTAT : Nat := 0xD010C
def PLK_SBSTAT_LAG : Fld := ⟨PLK_SBSTAT, 3, 1⟩
def PLK_SBSTAT_PARTNERUP : Fld := ⟨PLK_SBSTAT, 2, 1⟩
def PLK_SBSTAT_ROLE : Fld := ⟨PLK_SBSTAT, 0, 2⟩
/-- PLK_SBBEAT, spec/12. -/
def PLK_SBBEAT : Nat := 0xD0110
def PLK_SBBEAT_BEAT : Fld := ⟨PLK_SBBEAT, 0, 32⟩
/-- PLK_HOCMD, spec/12. -/
def PLK_HOCMD : Nat := 0xD0120
def PLK_HOCMD_GO : Fld := ⟨PLK_HOCMD, 31, 1⟩
def PLK_HOCMD_BUSY : Fld := ⟨PLK_HOCMD, 30, 1⟩
def PLK_HOCMD_STATUS : Fld := ⟨PLK_HOCMD, 24, 4⟩
def PLK_HOCMD_PEER : Fld := ⟨PLK_HOCMD, 8, 6⟩
def PLK_HOCMD_OP : Fld := ⟨PLK_HOCMD, 0, 2⟩
/-- PLK_HOIDX, spec/12. -/
def PLK_HOIDX : Nat := 0xD0124
def PLK_HOIDX_INDEX : Fld := ⟨PLK_HOIDX, 0, 18⟩
/-- PLK_HOEUI_LO, spec/12. -/
def PLK_HOEUI_LO : Nat := 0xD0128
def PLK_HOEUI_LO_EUI : Fld := ⟨PLK_HOEUI_LO, 0, 32⟩
/-- PLK_HOEUI_HI, spec/12. -/
def PLK_HOEUI_HI : Nat := 0xD012C
def PLK_HOEUI_HI_EUI : Fld := ⟨PLK_HOEUI_HI, 0, 32⟩
/-- PLK_EXPCFG, spec/12. -/
def PLK_EXPCFG : Nat := 0xD0130
def PLK_EXPCFG_PEER : Fld := ⟨PLK_EXPCFG, 8, 6⟩
def PLK_EXPCFG_TOPEER : Fld := ⟨PLK_EXPCFG, 1, 1⟩
def PLK_EXPCFG_TOPARTNER : Fld := ⟨PLK_EXPCFG, 0, 1⟩
/-- PLK_REPLAY, spec/12. -/
def PLK_REPLAY : Nat := 0xD0140
def PLK_REPLAY_COUNT : Fld := ⟨PLK_REPLAY, 0, 32⟩
/-- PLK_MICFAIL, spec/12. -/
def PLK_MICFAIL : Nat := 0xD0144
def PLK_MICFAIL_COUNT : Fld := ⟨PLK_MICFAIL, 0, 32⟩
/-- PLK_RETX, spec/12. -/
def PLK_RETX : Nat := 0xD0148
def PLK_RETX_COUNT : Fld := ⟨PLK_RETX, 0, 32⟩
/-- PLK_HOFAIL, spec/12. -/
def PLK_HOFAIL : Nat := 0xD014C
def PLK_HOFAIL_COUNT : Fld := ⟨PLK_HOFAIL, 0, 32⟩

/-! Station CHB (spec/01, 14). -/

/-- CHB_STAT, spec/14. -/
def CHB_STAT : Nat := 0xE0000
def CHB_STAT_HALTED : Fld := ⟨CHB_STAT, 16, 16⟩
def CHB_STAT_CAST : Fld := ⟨CHB_STAT, 0, 16⟩
/-- CHB_YIELDED, spec/14. -/
def CHB_YIELDED : Nat := 0xE0004
def CHB_YIELDED_SKIP : Fld := ⟨CHB_YIELDED, 16, 16⟩
def CHB_YIELDED_YIELDED : Fld := ⟨CHB_YIELDED, 0, 16⟩
/-- CHB_BEATDL, spec/01. -/
def CHB_BEATDL : Nat := 0xE0010
def CHB_BEATDL_DEADLINE : Fld := ⟨CHB_BEATDL, 0, 8⟩

/-! Station MEM (spec/16). -/

/-- MEM_CFG, spec/16. -/
def MEM_CFG : Nat := 0xF0000
def MEM_CFG_SCRUBH : Fld := ⟨MEM_CFG, 8, 8⟩
def MEM_CFG_SCRUBEN : Fld := ⟨MEM_CFG, 0, 1⟩
/-- MEM_STAT, spec/16. -/
def MEM_STAT : Nat := 0xF0004
def MEM_STAT_NFENCED : Fld := ⟨MEM_STAT, 16, 8⟩
def MEM_STAT_PASSES : Fld := ⟨MEM_STAT, 0, 16⟩
/-- MEM_CECNT, spec/16. -/
def MEM_CECNT : Nat := 0xF0008
def MEM_CECNT_COUNT : Fld := ⟨MEM_CECNT, 0, 32⟩
/-- MEM_UECNT, spec/16. -/
def MEM_UECNT : Nat := 0xF000C
def MEM_UECNT_COUNT : Fld := ⟨MEM_UECNT, 0, 32⟩
/-- MEM_UEADDR, spec/16. -/
def MEM_UEADDR : Nat := 0xF0010
def MEM_UEADDR_BANK : Fld := ⟨MEM_UEADDR, 24, 8⟩
def MEM_UEADDR_OWNER : Fld := ⟨MEM_UEADDR, 16, 5⟩
def MEM_UEADDR_SCRUB : Fld := ⟨MEM_UEADDR, 15, 1⟩
def MEM_UEADDR_WORD : Fld := ⟨MEM_UEADDR, 0, 15⟩
/-- MEM_NOWN, spec/16. -/
def MEM_NOWN : Nat := 0xF0014
def MEM_NOWN_BANK : Fld := ⟨MEM_NOWN, 24, 8⟩
def MEM_NOWN_WRITE : Fld := ⟨MEM_NOWN, 23, 1⟩
def MEM_NOWN_PEND : Fld := ⟨MEM_NOWN, 22, 1⟩
def MEM_NOWN_REQ : Fld := ⟨MEM_NOWN, 16, 5⟩
def MEM_NOWN_COUNT : Fld := ⟨MEM_NOWN, 0, 16⟩
/-- MEM_NOWNADDR, spec/16. -/
def MEM_NOWNADDR : Nat := 0xF0018
def MEM_NOWNADDR_OFFSET : Fld := ⟨MEM_NOWNADDR, 0, 18⟩
/-- MEM_ECCINJ, spec/16. -/
def MEM_ECCINJ : Nat := 0xF0020
def MEM_ECCINJ_ARM : Fld := ⟨MEM_ECCINJ, 31, 1⟩
def MEM_ECCINJ_BIT1 : Fld := ⟨MEM_ECCINJ, 24, 7⟩
def MEM_ECCINJ_BIT0 : Fld := ⟨MEM_ECCINJ, 16, 7⟩
def MEM_ECCINJ_BANK : Fld := ⟨MEM_ECCINJ, 0, 8⟩
/-- MEM_BANK_OWN, spec/16. -/
def MEM_BANK_OWN (i : Nat) : Nat := 0xF0100 + 0x4 * i
def MEM_BANK_OWN_FENCED (i : Nat) : Fld := ⟨MEM_BANK_OWN i, 31, 1⟩
def MEM_BANK_OWN_PENDING (i : Nat) : Fld := ⟨MEM_BANK_OWN i, 30, 1⟩
def MEM_BANK_OWN_PINNED (i : Nat) : Fld := ⟨MEM_BANK_OWN i, 29, 1⟩
def MEM_BANK_OWN_OWNER (i : Nat) : Fld := ⟨MEM_BANK_OWN i, 0, 5⟩
/-- MEM_BANK_STAT, spec/16. -/
def MEM_BANK_STAT (i : Nat) : Nat := 0xF0400 + 0x4 * i
def MEM_BANK_STAT_REPAIRED (i : Nat) : Fld := ⟨MEM_BANK_STAT i, 24, 4⟩
def MEM_BANK_STAT_UE (i : Nat) : Fld := ⟨MEM_BANK_STAT i, 16, 8⟩
def MEM_BANK_STAT_CE (i : Nat) : Fld := ⟨MEM_BANK_STAT i, 0, 16⟩

/-! Station HST (spec/17). -/

/-- HST_STAT, spec/17. -/
def HST_STAT : Nat := 0x100000
def HST_STAT_DOWNS : Fld := ⟨HST_STAT, 16, 16⟩
def HST_STAT_SPEED : Fld := ⟨HST_STAT, 8, 2⟩
def HST_STAT_WIDTH : Fld := ⟨HST_STAT, 4, 2⟩
def HST_STAT_BME : Fld := ⟨HST_STAT, 1, 1⟩
def HST_STAT_LINKUP : Fld := ⟨HST_STAT, 0, 1⟩
/-- HST_ERBASE_LO, spec/17. -/
def HST_ERBASE_LO : Nat := 0x100010
def HST_ERBASE_LO_ADDR : Fld := ⟨HST_ERBASE_LO, 12, 20⟩
/-- HST_ERBASE_HI, spec/17. -/
def HST_ERBASE_HI : Nat := 0x100014
def HST_ERBASE_HI_ADDR : Fld := ⟨HST_ERBASE_HI, 0, 32⟩
/-- HST_ERSIZE, spec/17. -/
def HST_ERSIZE : Nat := 0x100018
def HST_ERSIZE_LOG2 : Fld := ⟨HST_ERSIZE, 0, 5⟩
/-- HST_ERHEAD, spec/17. -/
def HST_ERHEAD : Nat := 0x10001C
def HST_ERHEAD_PTR : Fld := ⟨HST_ERHEAD, 0, 32⟩
/-- HST_ERTAIL, spec/17. -/
def HST_ERTAIL : Nat := 0x100020
def HST_ERTAIL_PTR : Fld := ⟨HST_ERTAIL, 0, 32⟩
/-- HST_ERCTL, spec/17. -/
def HST_ERCTL : Nat := 0x100024
def HST_ERCTL_EN : Fld := ⟨HST_ERCTL, 0, 1⟩
/-- HST_ERSTAT, spec/17. -/
def HST_ERSTAT : Nat := 0x100028
def HST_ERSTAT_LOST : Fld := ⟨HST_ERSTAT, 16, 16⟩
def HST_ERSTAT_HELD : Fld := ⟨HST_ERSTAT, 0, 12⟩
/-- HST_EVSEQ, spec/17. -/
def HST_EVSEQ : Nat := 0x10002C
def HST_EVSEQ_SEQ : Fld := ⟨HST_EVSEQ, 0, 32⟩
/-- HST_XRBASE_LO, spec/17. -/
def HST_XRBASE_LO : Nat := 0x100030
def HST_XRBASE_LO_ADDR : Fld := ⟨HST_XRBASE_LO, 12, 20⟩
/-- HST_XRBASE_HI, spec/17. -/
def HST_XRBASE_HI : Nat := 0x100034
def HST_XRBASE_HI_ADDR : Fld := ⟨HST_XRBASE_HI, 0, 32⟩
/-- HST_XRSIZE, spec/17. -/
def HST_XRSIZE : Nat := 0x100038
def HST_XRSIZE_LOG2 : Fld := ⟨HST_XRSIZE, 0, 5⟩
/-- HST_XRHEAD, spec/17. -/
def HST_XRHEAD : Nat := 0x10003C
def HST_XRHEAD_PTR : Fld := ⟨HST_XRHEAD, 0, 32⟩
/-- HST_XRTAIL, spec/17. -/
def HST_XRTAIL : Nat := 0x100040
def HST_XRTAIL_PTR : Fld := ⟨HST_XRTAIL, 0, 32⟩
/-- HST_XRCTL, spec/17. -/
def HST_XRCTL : Nat := 0x100044
def HST_XRCTL_EN : Fld := ⟨HST_XRCTL, 31, 1⟩
def HST_XRCTL_VEC : Fld := ⟨HST_XRCTL, 0, 5⟩
/-- HST_XRLOST, spec/17. -/
def HST_XRLOST : Nat := 0x100048
def HST_XRLOST_COUNT : Fld := ⟨HST_XRLOST, 0, 32⟩
/-- HST_VECCFG, spec/17. -/
def HST_VECCFG (i : Nat) : Nat := 0x100080 + 0x4 * i
def HST_VECCFG_HOLDOFF (i : Nat) : Fld := ⟨HST_VECCFG i, 0, 16⟩
/-- HST_QCFG, spec/17. -/
def HST_QCFG (i : Nat) : Nat := 0x100100 + 0x20 * i
def HST_QCFG_EN (i : Nat) : Fld := ⟨HST_QCFG i, 31, 1⟩
def HST_QCFG_LOCAL (i : Nat) : Fld := ⟨HST_QCFG i, 30, 1⟩
def HST_QCFG_OWNER (i : Nat) : Fld := ⟨HST_QCFG i, 24, 5⟩
def HST_QCFG_IEN (i : Nat) : Fld := ⟨HST_QCFG i, 8, 1⟩
def HST_QCFG_VEC (i : Nat) : Fld := ⟨HST_QCFG i, 0, 5⟩
/-- HST_QSQBASE_LO, spec/17. -/
def HST_QSQBASE_LO (i : Nat) : Nat := 0x100104 + 0x20 * i
def HST_QSQBASE_LO_ADDR (i : Nat) : Fld := ⟨HST_QSQBASE_LO i, 12, 20⟩
/-- HST_QSQBASE_HI, spec/17. -/
def HST_QSQBASE_HI (i : Nat) : Nat := 0x100108 + 0x20 * i
def HST_QSQBASE_HI_ADDR (i : Nat) : Fld := ⟨HST_QSQBASE_HI i, 0, 32⟩
/-- HST_QCQBASE_LO, spec/17. -/
def HST_QCQBASE_LO (i : Nat) : Nat := 0x10010C + 0x20 * i
def HST_QCQBASE_LO_ADDR (i : Nat) : Fld := ⟨HST_QCQBASE_LO i, 12, 20⟩
/-- HST_QCQBASE_HI, spec/17. -/
def HST_QCQBASE_HI (i : Nat) : Nat := 0x100110 + 0x20 * i
def HST_QCQBASE_HI_ADDR (i : Nat) : Fld := ⟨HST_QCQBASE_HI i, 0, 32⟩
/-- HST_QSQTAIL, spec/17. -/
def HST_QSQTAIL (i : Nat) : Nat := 0x100114 + 0x20 * i
def HST_QSQTAIL_PTR (i : Nat) : Fld := ⟨HST_QSQTAIL i, 0, 8⟩
/-- HST_QCQHEAD, spec/17. -/
def HST_QCQHEAD (i : Nat) : Nat := 0x100118 + 0x20 * i
def HST_QCQHEAD_PTR (i : Nat) : Fld := ⟨HST_QCQHEAD i, 0, 8⟩
/-- HST_QSTAT, spec/17. -/
def HST_QSTAT (i : Nat) : Nat := 0x10011C + 0x20 * i
def HST_QSTAT_INFLIGHT (i : Nat) : Fld := ⟨HST_QSTAT i, 23, 9⟩
def HST_QSTAT_FULL (i : Nat) : Fld := ⟨HST_QSTAT i, 17, 1⟩
def HST_QSTAT_ERR (i : Nat) : Fld := ⟨HST_QSTAT i, 16, 1⟩
def HST_QSTAT_CQTAIL (i : Nat) : Fld := ⟨HST_QSTAT i, 8, 8⟩
def HST_QSTAT_SQHEAD (i : Nat) : Fld := ⟨HST_QSTAT i, 0, 8⟩

/-! Station BKP (spec/18). -/

/-- BKP_TIME, spec/18. -/
def BKP_TIME : Nat := 0x110000
def BKP_TIME_HOUR : Fld := ⟨BKP_TIME, 16, 6⟩
def BKP_TIME_MIN : Fld := ⟨BKP_TIME, 8, 7⟩
def BKP_TIME_SEC : Fld := ⟨BKP_TIME, 0, 7⟩
/-- BKP_DATE, spec/18. -/
def BKP_DATE : Nat := 0x110004
def BKP_DATE_CENT : Fld := ⟨BKP_DATE, 24, 2⟩
def BKP_DATE_YEAR : Fld := ⟨BKP_DATE, 16, 8⟩
def BKP_DATE_MONTH : Fld := ⟨BKP_DATE, 8, 5⟩
def BKP_DATE_DATE : Fld := ⟨BKP_DATE, 0, 6⟩
/-- BKP_STAT, spec/18. -/
def BKP_STAT : Nat := 0x110008
def BKP_STAT_DIPS : Fld := ⟨BKP_STAT, 24, 8⟩
def BKP_STAT_ONVBAT : Fld := ⟨BKP_STAT, 6, 1⟩
def BKP_STAT_BUSY : Fld := ⟨BKP_STAT, 5, 1⟩
def BKP_STAT_OSCSTOP : Fld := ⟨BKP_STAT, 4, 1⟩
def BKP_STAT_LOWV : Fld := ⟨BKP_STAT, 3, 1⟩
def BKP_STAT_A1F : Fld := ⟨BKP_STAT, 1, 1⟩
def BKP_STAT_A0F : Fld := ⟨BKP_STAT, 0, 1⟩
/-- BKP_CTL, spec/18. -/
def BKP_CTL : Nat := 0x11000C
def BKP_CTL_DIPCLR : Fld := ⟨BKP_CTL, 2, 1⟩
def BKP_CTL_LEAPNEG : Fld := ⟨BKP_CTL, 1, 1⟩
def BKP_CTL_LEAPARM : Fld := ⟨BKP_CTL, 0, 1⟩
/-- BKP_ALMTIME, spec/18. -/
def BKP_ALMTIME (i : Nat) : Nat := 0x110010 + 0x8 * i
def BKP_ALMTIME_EN (i : Nat) : Fld := ⟨BKP_ALMTIME i, 31, 1⟩
def BKP_ALMTIME_MSEC (i : Nat) : Fld := ⟨BKP_ALMTIME i, 24, 1⟩
def BKP_ALMTIME_MHOUR (i : Nat) : Fld := ⟨BKP_ALMTIME i, 23, 1⟩
def BKP_ALMTIME_MMIN (i : Nat) : Fld := ⟨BKP_ALMTIME i, 15, 1⟩
def BKP_ALMTIME_HOUR (i : Nat) : Fld := ⟨BKP_ALMTIME i, 16, 6⟩
def BKP_ALMTIME_MIN (i : Nat) : Fld := ⟨BKP_ALMTIME i, 8, 7⟩
def BKP_ALMTIME_SEC (i : Nat) : Fld := ⟨BKP_ALMTIME i, 0, 7⟩
/-- BKP_ALMDATE, spec/18. -/
def BKP_ALMDATE (i : Nat) : Nat := 0x110014 + 0x8 * i
def BKP_ALMDATE_MYEAR (i : Nat) : Fld := ⟨BKP_ALMDATE i, 31, 1⟩
def BKP_ALMDATE_MMON (i : Nat) : Fld := ⟨BKP_ALMDATE i, 15, 1⟩
def BKP_ALMDATE_MDATE (i : Nat) : Fld := ⟨BKP_ALMDATE i, 7, 1⟩
def BKP_ALMDATE_CENT (i : Nat) : Fld := ⟨BKP_ALMDATE i, 24, 2⟩
def BKP_ALMDATE_YEAR (i : Nat) : Fld := ⟨BKP_ALMDATE i, 16, 8⟩
def BKP_ALMDATE_MONTH (i : Nat) : Fld := ⟨BKP_ALMDATE i, 8, 5⟩
def BKP_ALMDATE_DATE (i : Nat) : Fld := ⟨BKP_ALMDATE i, 0, 6⟩
/-- BKP_SYNC, spec/18. -/
def BKP_SYNC : Nat := 0x110020
def BKP_SYNC_OFS : Fld := ⟨BKP_SYNC, 8, 24⟩
def BKP_SYNC_SYNCH : Fld := ⟨BKP_SYNC, 0, 5⟩
/-- BKP_TRICKLE, spec/18. -/
def BKP_TRICKLE : Nat := 0x110024
def BKP_TRICKLE_CHARGING : Fld := ⟨BKP_TRICKLE, 11, 1⟩
def BKP_TRICKLE_I : Fld := ⟨BKP_TRICKLE, 8, 2⟩
def BKP_TRICKLE_TARGET : Fld := ⟨BKP_TRICKLE, 4, 4⟩
def BKP_TRICKLE_EN : Fld := ⟨BKP_TRICKLE, 0, 1⟩
/-- BKP_VBAT, spec/18. -/
def BKP_VBAT : Nat := 0x110028
def BKP_VBAT_MV : Fld := ⟨BKP_VBAT, 0, 12⟩
/-- BKP_MEM, spec/18. -/
def BKP_MEM (i : Nat) : Nat := 0x110040 + 0x4 * i
def BKP_MEM_DATA (i : Nat) : Fld := ⟨BKP_MEM i, 0, 32⟩

/-! Station CORE (spec/14, 15). -/

/-- CHB_CSTAT, spec/14. -/
def CHB_CSTAT (i : Nat) : Nat := 0x200000 + 0x10000 * i
def CHB_CSTAT_PC (i : Nat) : Fld := ⟨CHB_CSTAT i, 16, 15⟩
def CHB_CSTAT_SKIPNEXT (i : Nat) : Fld := ⟨CHB_CSTAT i, 9, 1⟩
def CHB_CSTAT_WAIT (i : Nat) : Fld := ⟨CHB_CSTAT i, 8, 1⟩
def CHB_CSTAT_SHADOW (i : Nat) : Fld := ⟨CHB_CSTAT i, 7, 1⟩
def CHB_CSTAT_NEST (i : Nat) : Fld := ⟨CHB_CSTAT i, 4, 3⟩
def CHB_CSTAT_INBEAT (i : Nat) : Fld := ⟨CHB_CSTAT i, 2, 1⟩
def CHB_CSTAT_YIELDED (i : Nat) : Fld := ⟨CHB_CSTAT i, 1, 1⟩
def CHB_CSTAT_HALTED (i : Nat) : Fld := ⟨CHB_CSTAT i, 0, 1⟩
/-- CHB_CRESETVEC, spec/14. -/
def CHB_CRESETVEC (i : Nat) : Nat := 0x200004 + 0x10000 * i
def CHB_CRESETVEC_VEC (i : Nat) : Fld := ⟨CHB_CRESETVEC i, 0, 15⟩
/-- CHB_CBEATVEC, spec/14. -/
def CHB_CBEATVEC (i : Nat) : Nat := 0x200008 + 0x10000 * i
def CHB_CBEATVEC_EN (i : Nat) : Fld := ⟨CHB_CBEATVEC i, 15, 1⟩
def CHB_CBEATVEC_VEC (i : Nat) : Fld := ⟨CHB_CBEATVEC i, 0, 15⟩
/-- CHB_CEVTVEC, spec/14. -/
def CHB_CEVTVEC (i : Nat) : Nat := 0x20000C + 0x10000 * i
def CHB_CEVTVEC_VEC (i : Nat) : Fld := ⟨CHB_CEVTVEC i, 0, 15⟩
/-- CHB_CDBVEC, spec/14. -/
def CHB_CDBVEC (i : Nat) : Nat := 0x200010 + 0x10000 * i
def CHB_CDBVEC_VEC (i : Nat) : Fld := ⟨CHB_CDBVEC i, 0, 15⟩
/-- CHB_CINTCFG, spec/14. -/
def CHB_CINTCFG (i : Nat) : Nat := 0x200014 + 0x10000 * i
def CHB_CINTCFG_L2MASK (i : Nat) : Fld := ⟨CHB_CINTCFG i, 16, 15⟩
def CHB_CINTCFG_EVTPRI (i : Nat) : Fld := ⟨CHB_CINTCFG i, 2, 2⟩
def CHB_CINTCFG_DBPRI (i : Nat) : Fld := ⟨CHB_CINTCFG i, 0, 2⟩
/-- CHB_CEVQ, spec/14. -/
def CHB_CEVQ (i : Nat) : Nat := 0x200018 + 0x10000 * i
def CHB_CEVQ_LOST (i : Nat) : Fld := ⟨CHB_CEVQ i, 16, 16⟩
def CHB_CEVQ_COUNT (i : Nat) : Fld := ⟨CHB_CEVQ i, 0, 6⟩
/-- CHB_CDOORBELL, spec/14. -/
def CHB_CDOORBELL (i : Nat) : Nat := 0x20001C + 0x10000 * i
def CHB_CDOORBELL_RING (i : Nat) : Fld := ⟨CHB_CDOORBELL i, 31, 1⟩
def CHB_CDOORBELL_DATA (i : Nat) : Fld := ⟨CHB_CDOORBELL i, 0, 16⟩
/-- CHB_CAPCTL, spec/14. -/
def CHB_CAPCTL (i : Nat) : Nat := 0x200020 + 0x10000 * i
def CHB_CAPCTL_MEM (i : Nat) : Fld := ⟨CHB_CAPCTL i, 16, 2⟩
def CHB_CAPCTL_PAGE (i : Nat) : Fld := ⟨CHB_CAPCTL i, 0, 2⟩
/-- CHB_COFFER0, spec/14. -/
def CHB_COFFER0 (i : Nat) : Nat := 0x200024 + 0x10000 * i
def CHB_COFFER0_BANK (i : Nat) : Fld := ⟨CHB_COFFER0 i, 24, 8⟩
def CHB_COFFER0_BOFS (i : Nat) : Fld := ⟨CHB_COFFER0 i, 8, 15⟩
/-- CHB_COFFER1, spec/14. -/
def CHB_COFFER1 (i : Nat) : Nat := 0x200028 + 0x10000 * i
def CHB_COFFER1_GO (i : Nat) : Fld := ⟨CHB_COFFER1 i, 31, 1⟩
def CHB_COFFER1_BUSY (i : Nat) : Fld := ⟨CHB_COFFER1 i, 30, 1⟩
def CHB_COFFER1_STATUS (i : Nat) : Fld := ⟨CHB_COFFER1 i, 28, 2⟩
def CHB_COFFER1_LEN (i : Nat) : Fld := ⟨CHB_COFFER1 i, 0, 11⟩
/-- CHB_CCTL, spec/14. -/
def CHB_CCTL (i : Nat) : Nat := 0x20002C + 0x10000 * i
def CHB_CCTL_CLRMAX (i : Nat) : Fld := ⟨CHB_CCTL i, 0, 1⟩
/-- CHB_CYIELD, spec/14. -/
def CHB_CYIELD (i : Nat) : Nat := 0x200030 + 0x10000 * i
def CHB_CYIELD_MAX (i : Nat) : Fld := ⟨CHB_CYIELD i, 16, 16⟩
def CHB_CYIELD_LAST (i : Nat) : Fld := ⟨CHB_CYIELD i, 0, 16⟩
/-- CHB_COVR, spec/14. -/
def CHB_COVR (i : Nat) : Nat := 0x200034 + 0x10000 * i
def CHB_COVR_COUNT (i : Nat) : Fld := ⟨CHB_COVR i, 0, 32⟩
/-- PMU_CFG, spec/15. -/
def PMU_CFG (i : Nat) : Nat := 0x201000 + 0x10000 * i
def PMU_CFG_FULLINT (i : Nat) : Fld := ⟨PMU_CFG i, 3, 1⟩
def PMU_CFG_SMODE (i : Nat) : Fld := ⟨PMU_CFG i, 2, 1⟩
def PMU_CFG_SAMPEN (i : Nat) : Fld := ⟨PMU_CFG i, 1, 1⟩
def PMU_CFG_SNAPBEAT (i : Nat) : Fld := ⟨PMU_CFG i, 0, 1⟩
/-- PMU_SAMPCFG, spec/15. -/
def PMU_SAMPCFG (i : Nat) : Nat := 0x201004 + 0x10000 * i
def PMU_SAMPCFG_SEVT (i : Nat) : Fld := ⟨PMU_SAMPCFG i, 24, 6⟩
def PMU_SAMPCFG_JITTER (i : Nat) : Fld := ⟨PMU_SAMPCFG i, 20, 4⟩
def PMU_SAMPCFG_PERIOD (i : Nat) : Fld := ⟨PMU_SAMPCFG i, 0, 20⟩
/-- PMU_SAMPSTAT, spec/15. -/
def PMU_SAMPSTAT (i : Nat) : Nat := 0x201008 + 0x10000 * i
def PMU_SAMPSTAT_NEXT (i : Nat) : Fld := ⟨PMU_SAMPSTAT i, 24, 8⟩
def PMU_SAMPSTAT_FULL (i : Nat) : Fld := ⟨PMU_SAMPSTAT i, 16, 1⟩
def PMU_SAMPSTAT_COUNT (i : Nat) : Fld := ⟨PMU_SAMPSTAT i, 0, 9⟩
/-- PMU_CTL, spec/15. -/
def PMU_CTL (i : Nat) : Nat := 0x20100C + 0x10000 * i
def PMU_CTL_SRESET (i : Nat) : Fld := ⟨PMU_CTL i, 1, 1⟩
def PMU_CTL_SNAP (i : Nat) : Fld := ⟨PMU_CTL i, 0, 1⟩
/-- PMU_OVF_LO, spec/15. -/
def PMU_OVF_LO (i : Nat) : Nat := 0x201010 + 0x10000 * i
def PMU_OVF_LO_OVF (i : Nat) : Fld := ⟨PMU_OVF_LO i, 0, 32⟩
/-- PMU_OVF_HI, spec/15. -/
def PMU_OVF_HI (i : Nat) : Nat := 0x201014 + 0x10000 * i
def PMU_OVF_HI_OVF (i : Nat) : Fld := ⟨PMU_OVF_HI i, 0, 16⟩
/-- PMU_OVFEN_LO, spec/15. -/
def PMU_OVFEN_LO (i : Nat) : Nat := 0x201018 + 0x10000 * i
def PMU_OVFEN_LO_OVFEN (i : Nat) : Fld := ⟨PMU_OVFEN_LO i, 0, 32⟩
/-- PMU_OVFEN_HI, spec/15. -/
def PMU_OVFEN_HI (i : Nat) : Nat := 0x20101C + 0x10000 * i
def PMU_OVFEN_HI_OVFEN (i : Nat) : Fld := ⟨PMU_OVFEN_HI i, 0, 16⟩
/-- PMU_THR, spec/15. -/
def PMU_THR (i : Nat) (j : Nat) : Nat := 0x201020 + 0x10000 * i + 0x4 * j
def PMU_THR_N (i : Nat) (j : Nat) : Fld := ⟨PMU_THR i j, 8, 8⟩
def PMU_THR_OCC (i : Nat) (j : Nat) : Fld := ⟨PMU_THR i j, 0, 4⟩
/-- PMU_CNT_LO, spec/15. -/
def PMU_CNT_LO (i : Nat) (j : Nat) : Nat := 0x201100 + 0x10000 * i + 0x8 * j
def PMU_CNT_LO_CNT (i : Nat) (j : Nat) : Fld := ⟨PMU_CNT_LO i j, 0, 32⟩
/-- PMU_CNT_HI, spec/15. -/
def PMU_CNT_HI (i : Nat) (j : Nat) : Nat := 0x201104 + 0x10000 * i + 0x8 * j
def PMU_CNT_HI_CNT (i : Nat) (j : Nat) : Fld := ⟨PMU_CNT_HI i j, 0, 16⟩

/-! Station SLICE (spec/04, 05). -/

/-- SL_CFG, spec/04. -/
def SL_CFG (i : Nat) : Nat := 0x440000 + 0x100 * i
def SL_CFG_SHIFT (i : Nat) : Fld := ⟨SL_CFG i, 24, 4⟩
def SL_CFG_INTMS (i : Nat) : Fld := ⟨SL_CFG i, 16, 5⟩
def SL_CFG_ENABLE (i : Nat) : Fld := ⟨SL_CFG i, 15, 1⟩
def SL_CFG_SVID (i : Nat) : Fld := ⟨SL_CFG i, 8, 6⟩
def SL_CFG_SIGNAL (i : Nat) : Fld := ⟨SL_CFG i, 0, 8⟩
/-- SL_TAPS, spec/04. -/
def SL_TAPS (i : Nat) : Nat := 0x440004 + 0x100 * i
def SL_TAPS_VHALF (i : Nat) : Fld := ⟨SL_TAPS i, 8, 5⟩
def SL_TAPS_ELHALF (i : Nat) : Fld := ⟨SL_TAPS i, 0, 5⟩
/-- SL_ROVE, spec/04. -/
def SL_ROVE (i : Nat) : Nat := 0x440008 + 0x100 * i
def SL_ROVE_ROVE2 (i : Nat) : Fld := ⟨SL_ROVE i, 16, 8⟩
def SL_ROVE_ROVE1 (i : Nat) : Fld := ⟨SL_ROVE i, 8, 8⟩
def SL_ROVE_ROVE0 (i : Nat) : Fld := ⟨SL_ROVE i, 0, 8⟩
/-- SL_STAT, spec/04. -/
def SL_STAT (i : Nat) : Nat := 0x44000C + 0x100 * i
def SL_STAT_SATCNT (i : Nat) : Fld := ⟨SL_STAT i, 16, 16⟩
def SL_STAT_LOST (i : Nat) : Fld := ⟨SL_STAT i, 1, 1⟩
def SL_STAT_NOSAMPLES (i : Nat) : Fld := ⟨SL_STAT i, 0, 1⟩
/-- SL_LOOPCFG, spec/05. -/
def SL_LOOPCFG (i : Nat) : Nat := 0x440080 + 0x100 * i
def SL_LOOPCFG_DLLBW (i : Nat) : Fld := ⟨SL_LOOPCFG i, 24, 8⟩
def SL_LOOPCFG_FLLBW (i : Nat) : Fld := ⟨SL_LOOPCFG i, 16, 8⟩
def SL_LOOPCFG_PLLBW (i : Nat) : Fld := ⟨SL_LOOPCFG i, 8, 8⟩
def SL_LOOPCFG_VECTOR (i : Nat) : Fld := ⟨SL_LOOPCFG i, 2, 1⟩
def SL_LOOPCFG_CARRIER (i : Nat) : Fld := ⟨SL_LOOPCFG i, 0, 2⟩
/-- SL_GATE, spec/05. -/
def SL_GATE (i : Nat) : Nat := 0x440084 + 0x100 * i
def SL_GATE_LOCKTH (i : Nat) : Fld := ⟨SL_GATE i, 16, 8⟩
def SL_GATE_CODEGATE (i : Nat) : Fld := ⟨SL_GATE i, 8, 8⟩
def SL_GATE_PHGATE (i : Nat) : Fld := ⟨SL_GATE i, 0, 8⟩
/-- SL_ANCHORCNT, spec/05. -/
def SL_ANCHORCNT (i : Nat) : Nat := 0x440088 + 0x100 * i
def SL_ANCHORCNT_CNT (i : Nat) : Fld := ⟨SL_ANCHORCNT i, 0, 32⟩
/-- SL_ANCHORMS, spec/05. -/
def SL_ANCHORMS (i : Nat) : Nat := 0x44008C + 0x100 * i
def SL_ANCHORMS_MS (i : Nat) : Fld := ⟨SL_ANCHORMS i, 0, 32⟩
/-- SL_TRK, spec/05. -/
def SL_TRK (i : Nat) : Nat := 0x440090 + 0x100 * i
def SL_TRK_CN0 (i : Nat) : Fld := ⟨SL_TRK i, 16, 16⟩
def SL_TRK_GEN (i : Nat) : Fld := ⟨SL_TRK i, 8, 8⟩
def SL_TRK_AUTH (i : Nat) : Fld := ⟨SL_TRK i, 7, 1⟩
def SL_TRK_CLAMP (i : Nat) : Fld := ⟨SL_TRK i, 6, 1⟩
def SL_TRK_HALFCYC (i : Nat) : Fld := ⟨SL_TRK i, 5, 1⟩
def SL_TRK_SLIP (i : Nat) : Fld := ⟨SL_TRK i, 4, 1⟩
def SL_TRK_SQUASHED (i : Nat) : Fld := ⟨SL_TRK i, 3, 1⟩
def SL_TRK_SCALAR (i : Nat) : Fld := ⟨SL_TRK i, 2, 1⟩
def SL_TRK_CODELOCK (i : Nat) : Fld := ⟨SL_TRK i, 1, 1⟩
def SL_TRK_LOCK (i : Nat) : Fld := ⟨SL_TRK i, 0, 1⟩
/-- SL_RESID, spec/05. -/
def SL_RESID (i : Nat) : Nat := 0x440094 + 0x100 * i
def SL_RESID_CODERES (i : Nat) : Fld := ⟨SL_RESID i, 16, 16⟩
def SL_RESID_PHRES (i : Nat) : Fld := ⟨SL_RESID i, 0, 16⟩
/-- SL_CARFREQ, spec/05. -/
def SL_CARFREQ (i : Nat) : Nat := 0x440098 + 0x100 * i
def SL_CARFREQ_F (i : Nat) : Fld := ⟨SL_CARFREQ i, 0, 32⟩
/-- SL_CODEFREQ, spec/05. -/
def SL_CODEFREQ (i : Nat) : Nat := 0x44009C + 0x100 * i
def SL_CODEFREQ_F (i : Nat) : Fld := ⟨SL_CODEFREQ i, 0, 32⟩
/-- SL_LOCKMS, spec/05. -/
def SL_LOCKMS (i : Nat) : Nat := 0x4400A0 + 0x100 * i
def SL_LOCKMS_MS (i : Nat) : Fld := ⟨SL_LOCKMS i, 0, 32⟩
/-- SL_DUMP, spec/04. -/
def SL_DUMP (i : Nat) (j : Nat) : Nat := 0x440040 + 0x100 * i + 0x4 * j
def SL_DUMP_W (i : Nat) (j : Nat) : Fld := ⟨SL_DUMP i j, 0, 32⟩
/-- SL_ENTRY, spec/05. -/
def SL_ENTRY (i : Nat) (j : Nat) : Nat := 0x4400C0 + 0x100 * i + 0x4 * j
def SL_ENTRY_W (i : Nat) (j : Nat) : Fld := ⟨SL_ENTRY i j, 0, 32⟩

end Sys2Proof.Fields
end

