-- ==== Sys2Proof/Config.lean ====
section
/-! DEFINITION. What an implementation or one unit fixes, and the free values: constants with no body, so that
no proof can rest on a value of them. A free value that an operation draws afresh is `freeValue` applied to the
counter of the state that the draw advances (log entry 1); what one unit fixes is of log entry 118. -/

namespace Sys2Proof.Config

/-- The values the spec leaves open: the n-th value drawn. -/
opaque freeValue : Nat → BitVec 64

/-- MGT_UID_HI and MGT_UID_LO, fixed for each unit (spec/00). -/
opaque uid : BitVec 64

/-- MGT_REVID.FUSEMAP, fixed for each unit (spec/00). -/
opaque fusemap : BitVec 8

/-- SEC_TMPUBw, the Touchmark public key of the unit (R301). -/
opaque tmpub : Nat → BitVec 32

/-- The private scalar of the Touchmark (R301). -/
opaque touchmark : BitVec 256

/-- The Yaholt root public key held in the boot ROM, X and Y (R49). -/
opaque rootX : BitVec 256
opaque rootY : BitVec 256

/-- SEC_TMCERTw, the root signature over the Touchmark public key (R301). -/
opaque tmcert : Nat → BitVec 32

/-- MEM_BANKn_STAT.REPAIRED, fixed for each unit (R402). -/
opaque repaired : Nat → BitVec 8

/-- Which way a quotient is rounded that is not whole, where the spec does not say (R128, R142, R143). -/
opaque roundsUp : Int → Int → Bool

/-- A figure of an operand for which its formula has no value (R128). -/
opaque openFigure : List Int → Int

/-- The scale of the code discriminator in 2^−15 chip, by SIGNAL and ELHALF (R128). -/
opaque dllScale : Nat → Nat → Nat

/-- The moments estimate of C/N0 in 0.0625 dB-Hz over prompt values with their INTMS (R128). -/
opaque momentsCn0 : List (Int × Int × Nat) → Nat

/-- What a loop-filter update works on (R129, R130): CARRIER, the bandwidths in use as fractions in Hz, INTMS and 2L in ms, the
residuals of phase, frequency and code, and the rate integrator. -/
structure LoopIn where
  carrier : Nat
  pll     : Nat × Nat
  fll     : Nat × Nat
  dll     : Nat × Nat
  ms      : Nat
  lat     : Nat
  phase   : Int
  freq    : Option Int
  code    : Int
  rate    : Int
  deriving DecidableEq, Repr

/-- What it gives: the step of the carrier frequency in 2^−16 Hz, the rate integrator, and the code loop's share of the code Doppler
in 2^−24 chip/s. -/
structure LoopOut where
  car  : Int
  rate : Int
  cod  : Int
  deriving DecidableEq, Repr, Inhabited

/-- A loop-filter update. The spec names each loop's order, bandwidth, interval and latency, and no coefficients (R129, R130). -/
opaque loopFilter : LoopIn → LoopOut

end Sys2Proof.Config
end

