-- ==== Sys2Proof/Machine/RegTable.lean ====
section
/-! DEFINITION. The register tables of spec/00 to spec/18 as data: for every register its offset, its strides
and, for every field that is not reserved, the bits, the type (R5), the Cold value (R6), whether it is Kept (R6)
and the encodings that are not reserved (R94). An offset that no row names is unassigned (R31, R477). Conditions
that relate several fields, or a field and the machine's state, stand in Machine/Judge.lean. -/

namespace Sys2Proof.Machine

/-- The type of a register field (R5). -/
inductive FTy where
  | RW | RO | WO | W1C | W1P | CL
  deriving DecidableEq, Repr

/-- The values of a field that are not reserved encodings (R94). `srng` reads the field as a signed number. -/
inductive Dom where
  | any | rng (lo hi : Nat) | among (vs : List Nat) | srng (lo hi : Int) | resetId
  deriving DecidableEq, Repr

/-- One row of a register table: bits, type, Cold, Kept, legal values. -/
structure FSpec where
  lo   : Nat
  len  : Nat
  ty   : FTy
  cold : Nat
  kept : Bool
  dom  : Dom
  deriving DecidableEq, Repr

/-- One register, or an array of registers with one or two indices: the offset of its first word, the strides
and the counts (a stride of 0 and a count of 1 where there is no such index). -/
structure RSpec where
  name : String
  base : Nat
  s1   : Nat
  n1   : Nat
  s2   : Nat
  n2   : Nat
  flds : List FSpec
  deriving DecidableEq, Repr

/-- Registers of MGT, spec/00, 01, 02, 03, 16, 18. -/
def regsMgtA : List RSpec :=
  [ ⟨"MGT_DEVID", 0x0, 0x0, 1, 0x0, 1, [⟨20, 12, .RO, 1701, false, .any⟩, ⟨16, 4, .RO, 4, false, .any⟩, ⟨0, 16, .RO, 38464, false, .any⟩]⟩,
    ⟨"MGT_REVID", 0x4, 0x0, 1, 0x0, 1, [⟨16, 8, .RO, 0, false, .any⟩, ⟨8, 8, .RO, 3, false, .any⟩, ⟨4, 4, .RO, 2, false, .any⟩, ⟨0, 4, .RO, 1, false, .any⟩]⟩,
    ⟨"MGT_UID_LO", 0x8, 0x0, 1, 0x0, 1, [⟨0, 32, .RO, 0, false, .any⟩]⟩,
    ⟨"MGT_UID_HI", 0xC, 0x0, 1, 0x0, 1, [⟨0, 32, .RO, 0, false, .any⟩]⟩,
    ⟨"MGT_MODE", 0x10, 0x0, 1, 0x0, 1, [⟨8, 8, .RO, 1, false, .any⟩, ⟨4, 3, .RO, 0, false, .any⟩, ⟨3, 1, .RO, 0, false, .any⟩, ⟨0, 3, .RO, 2, false, .any⟩]⟩,
    ⟨"MGT_MODEREQ", 0x14, 0x0, 1, 0x0, 1, [⟨0, 3, .WO, 0, false, .among [1, 2, 3]⟩]⟩,
    ⟨"MGT_WAKECFG", 0x18, 0x0, 1, 0x0, 1, [⟨16, 16, .RW, 0, true, .any⟩, ⟨4, 1, .RW, 0, true, .any⟩, ⟨3, 1, .RW, 0, true, .any⟩, ⟨2, 1, .RW, 1, true, .any⟩, ⟨1, 1, .RW, 0, true, .any⟩, ⟨0, 1, .RW, 0, true, .any⟩]⟩,
    ⟨"MGT_WAKESRC", 0x1C, 0x0, 1, 0x0, 1, [⟨0, 3, .RO, 0, false, .any⟩]⟩,
    ⟨"MGT_REJ_ADDR", 0x20, 0x0, 1, 0x0, 1, [⟨0, 24, .RO, 0, false, .any⟩]⟩,
    ⟨"MGT_REJ_INFO", 0x24, 0x0, 1, 0x0, 1, [⟨31, 1, .W1C, 0, false, .any⟩, ⟨24, 4, .RO, 0, false, .any⟩, ⟨20, 4, .RO, 0, false, .any⟩, ⟨8, 8, .RO, 0, false, .any⟩, ⟨0, 8, .RO, 0, false, .any⟩]⟩,
    ⟨"MGT_OVRSTAT", 0x40, 0x0, 1, 0x0, 1, [⟨16, 16, .W1C, 0, false, .any⟩, ⟨10, 1, .W1C, 0, false, .any⟩, ⟨9, 1, .W1C, 0, false, .any⟩, ⟨8, 1, .W1C, 0, false, .any⟩, ⟨7, 1, .W1C, 0, false, .any⟩, ⟨6, 1, .W1C, 0, false, .any⟩, ⟨2, 4, .W1C, 0, false, .any⟩, ⟨1, 1, .W1C, 0, false, .any⟩, ⟨0, 1, .W1C, 0, false, .any⟩]⟩,
    ⟨"MGT_OVRBEAT", 0x44, 0x0, 1, 0x0, 1, [⟨0, 32, .RO, 0, false, .any⟩]⟩,
    ⟨"MGT_COMMIT", 0x60, 0x0, 1, 0x0, 1, [⟨16, 16, .RO, 0, false, .any⟩, ⟨4, 10, .RO, 0, false, .any⟩, ⟨2, 2, .RO, 0, false, .any⟩, ⟨1, 1, .RO, 0, false, .any⟩, ⟨0, 1, .W1P, 0, false, .any⟩]⟩,
    ⟨"MGT_RESTSTAT", 0x64, 0x0, 1, 0x0, 1, [⟨24, 8, .RO, 0, false, .any⟩, ⟨16, 8, .RO, 0, false, .any⟩, ⟨0, 16, .RO, 0, false, .any⟩]⟩ ]

/-- Registers of MGT, spec/00, 01, 02, 03, 16, 18. -/
def regsMgtB : List RSpec :=
  [ ⟨"MGT_CRU_STAT", 0x68, 0x0, 1, 0x0, 1, [⟨24, 8, .RO, 100, false, .any⟩, ⟨16, 8, .RO, 0, false, .any⟩, ⟨0, 16, .RO, 0, false, .any⟩]⟩,
    ⟨"MGT_CRU_WEAR", 0x6C, 0x0, 1, 0x0, 1, [⟨0, 32, .RO, 0, false, .any⟩]⟩,
    ⟨"MGT_CRU_CFG", 0x70, 0x0, 1, 0x0, 1, [⟨16, 16, .RW, 600, true, .rng 60 3600⟩, ⟨0, 16, .RW, 3600, true, .rng 60 65535⟩]⟩,
    ⟨"MGT_CRU_LEASE", 0x74, 0x0, 1, 0x0, 1, [⟨0, 32, .RO, 0, false, .any⟩]⟩,
    ⟨"MGT_CRU_HWMC", 0x78, 0x0, 1, 0x0, 1, [⟨0, 32, .RO, 0, false, .any⟩]⟩,
    ⟨"MGT_CRU_HWMN", 0x7C, 0x0, 1, 0x0, 1, [⟨0, 32, .RO, 0, false, .any⟩]⟩,
    ⟨"MGT_ASSAY", 0x80, 0x0, 1, 0x0, 1, [⟨16, 16, .RO, 0, false, .any⟩, ⟨15, 1, .RO, 0, false, .any⟩, ⟨14, 1, .RO, 0, false, .any⟩, ⟨13, 1, .RO, 0, false, .any⟩, ⟨9, 4, .RO, 0, false, .any⟩, ⟨8, 1, .RO, 0, false, .any⟩, ⟨7, 1, .RO, 0, false, .any⟩, ⟨6, 1, .RO, 0, false, .any⟩, ⟨5, 1, .RO, 0, false, .any⟩, ⟨4, 1, .RO, 0, false, .any⟩, ⟨3, 1, .RO, 0, false, .any⟩, ⟨2, 1, .RO, 0, false, .any⟩, ⟨1, 1, .RO, 0, false, .any⟩, ⟨0, 1, .RO, 0, false, .any⟩]⟩,
    ⟨"MGT_ASSAYCTL", 0x84, 0x0, 1, 0x0, 1, [⟨31, 1, .W1P, 0, false, .any⟩, ⟨8, 8, .RW, 60, true, .any⟩, ⟨0, 1, .RW, 1, true, .any⟩]⟩,
    ⟨"MGT_CASTCTL", 0x100, 0x0, 1, 0x0, 1, [⟨2, 1, .W1P, 0, false, .any⟩, ⟨1, 1, .W1P, 0, false, .any⟩, ⟨0, 1, .W1P, 0, false, .any⟩]⟩,
    ⟨"MGT_CASTADDR_LO", 0x104, 0x0, 1, 0x0, 1, [⟨3, 29, .RW, 0, false, .any⟩]⟩,
    ⟨"MGT_CASTADDR_HI", 0x108, 0x0, 1, 0x0, 1, [⟨0, 32, .RW, 0, false, .any⟩]⟩,
    ⟨"MGT_CASTLEN", 0x10C, 0x0, 1, 0x0, 1, [⟨0, 24, .RW, 0, false, .any⟩]⟩,
    ⟨"MGT_CASTSTAT", 0x110, 0x0, 1, 0x0, 1, [⟨16, 8, .RO, 0, false, .any⟩, ⟨15, 1, .RO, 0, false, .any⟩, ⟨12, 3, .RO, 0, false, .any⟩, ⟨0, 4, .RO, 0, false, .any⟩]⟩,
    ⟨"MGT_CASTERR", 0x114, 0x0, 1, 0x0, 1, [⟨8, 16, .RO, 0, false, .any⟩, ⟨0, 8, .RO, 0, false, .any⟩]⟩ ]

/-- Registers of MGT, spec/00, 01, 02, 03, 16, 18. -/
def regsMgtC : List RSpec :=
  [ ⟨"MGT_CASTID", 0x118, 0x0, 1, 0x0, 1, [⟨0, 32, .RO, 0, false, .any⟩]⟩,
    ⟨"MGT_CASTVER", 0x11C, 0x0, 1, 0x0, 1, [⟨0, 32, .RO, 0, false, .any⟩]⟩,
    ⟨"MGT_ARBCNT", 0x120, 0x0, 1, 0x0, 1, [⟨0, 32, .RO, 0, false, .any⟩]⟩,
    ⟨"MGT_CASTKEY", 0x124, 0x0, 1, 0x0, 1, [⟨0, 32, .RO, 0, false, .any⟩]⟩,
    ⟨"MGT_FRESET", 0x128, 0x0, 1, 0x0, 1, [⟨0, 8, .WO, 0, false, .resetId⟩]⟩,
    ⟨"MGT_CLKCORE", 0x200, 0x0, 1, 0x0, 1, [⟨0, 32, .CL, 0, false, .any⟩]⟩,
    ⟨"MGT_CLKSTAT", 0x204, 0x0, 1, 0x0, 1, [⟨7, 1, .RO, 0, false, .any⟩, ⟨6, 1, .RO, 0, false, .any⟩, ⟨5, 1, .RO, 0, false, .any⟩, ⟨4, 1, .RO, 0, false, .any⟩, ⟨3, 1, .RO, 0, false, .any⟩, ⟨2, 1, .RO, 0, false, .any⟩, ⟨1, 1, .RO, 0, false, .any⟩, ⟨0, 1, .RO, 0, false, .any⟩]⟩,
    ⟨"MGT_PWRSTAT", 0x208, 0x0, 1, 0x0, 1, [⟨16, 16, .RO, 0, false, .any⟩, ⟨8, 7, .RO, 0, false, .any⟩, ⟨1, 1, .RO, 0, false, .any⟩, ⟨0, 1, .RO, 0, false, .any⟩]⟩,
    ⟨"MGT_PWRCFG", 0x20C, 0x0, 1, 0x0, 1, [⟨0, 1, .RW, 1, true, .any⟩]⟩ ]

/-- Registers of MGT, spec/00, 01, 02, 03, 16, 18. -/
def regsMgt : List RSpec := regsMgtA ++ regsMgtB ++ regsMgtC

/-- Registers of TIM, spec/01, 06. -/
def regsTimA : List RSpec :=
  [ ⟨"TIM_NOW0", 0x10000, 0x0, 1, 0x0, 1, [⟨0, 32, .RO, 0, false, .any⟩]⟩,
    ⟨"TIM_NOW1", 0x10004, 0x0, 1, 0x0, 1, [⟨16, 16, .RO, 0, false, .any⟩, ⟨0, 16, .RO, 0, false, .any⟩]⟩,
    ⟨"TIM_NOW2", 0x10008, 0x0, 1, 0x0, 1, [⟨0, 32, .RO, 0, false, .any⟩]⟩,
    ⟨"TIM_TSLO", 0x1000C, 0x0, 1, 0x0, 1, [⟨0, 32, .RO, 0, false, .any⟩]⟩,
    ⟨"TIM_TSHI", 0x10010, 0x0, 1, 0x0, 1, [⟨0, 32, .RO, 0, false, .any⟩]⟩,
    ⟨"TIM_SETSEC", 0x10014, 0x0, 1, 0x0, 1, [⟨0, 32, .WO, 0, false, .any⟩]⟩,
    ⟨"TIM_STAT", 0x10018, 0x0, 1, 0x0, 1, [⟨31, 1, .RO, 0, false, .any⟩, ⟨30, 1, .RO, 0, false, .any⟩, ⟨29, 1, .RO, 0, false, .any⟩, ⟨28, 1, .RO, 0, false, .any⟩, ⟨27, 1, .RO, 0, false, .any⟩, ⟨22, 2, .RO, 0, false, .any⟩, ⟨20, 2, .RO, 0, false, .any⟩]⟩,
    ⟨"TIM_TREFCFG", 0x10020, 0x0, 1, 0x0, 1, [⟨24, 8, .RW, 200, true, .rng 1 254⟩, ⟨16, 8, .RW, 100, true, .rng 1 255⟩, ⟨8, 1, .RW, 0, true, .any⟩, ⟨4, 2, .RW, 3, true, .any⟩, ⟨2, 2, .RW, 2, true, .any⟩, ⟨0, 2, .RW, 1, true, .any⟩]⟩,
    ⟨"TIM_FREFCFG", 0x10024, 0x0, 1, 0x0, 1, [⟨8, 1, .RW, 1, true, .any⟩, ⟨7, 1, .RW, 0, true, .any⟩, ⟨6, 1, .RW, 0, true, .any⟩, ⟨4, 2, .RW, 0, true, .any⟩, ⟨2, 2, .RW, 2, true, .any⟩, ⟨0, 2, .RW, 1, true, .any⟩]⟩,
    ⟨"TIM_MONCFG", 0x10028, 0x0, 1, 0x0, 1, [⟨24, 8, .RW, 10, true, .rng 1 255⟩, ⟨16, 8, .RW, 10, true, .rng 1 40⟩, ⟨8, 8, .RW, 50, true, .rng 1 255⟩, ⟨0, 8, .RW, 50, true, .rng 1 255⟩]⟩,
    ⟨"TIM_REFSTAT", 0x1002C, 0x0, 1, 0x0, 1, [⟨20, 3, .RO, 0, false, .any⟩, ⟨16, 3, .RO, 0, false, .any⟩, ⟨12, 3, .RO, 0, false, .any⟩, ⟨8, 3, .RO, 0, false, .any⟩, ⟨4, 3, .RO, 0, false, .any⟩, ⟨0, 3, .RO, 0, false, .any⟩]⟩,
    ⟨"TIM_REFY", 0x10030, 0x4, 3, 0x0, 1, [⟨0, 32, .RO, 2147483648, false, .any⟩]⟩,
    ⟨"TIM_BEATGEOM", 0x10040, 0x0, 1, 0x0, 1, [⟨4, 6, .CL, 8, false, .any⟩, ⟨0, 2, .CL, 1, false, .any⟩]⟩,
    ⟨"TIM_SFPHASE", 0x10044, 0x0, 1, 0x0, 1, [⟨0, 16, .CL, 0, false, .any⟩]⟩ ]

/-- Registers of TIM, spec/01, 06. -/
def regsTimB : List RSpec :=
  [ ⟨"TIM_BEATCNT", 0x10048, 0x0, 1, 0x0, 1, [⟨0, 32, .RO, 0, false, .any⟩]⟩,
    ⟨"TIM_BEATPOS", 0x1004C, 0x0, 1, 0x0, 1, [⟨31, 1, .RO, 0, false, .any⟩, ⟨12, 9, .RO, 0, false, .any⟩, ⟨0, 11, .RO, 0, false, .any⟩]⟩,
    ⟨"TIM_DISCCFG", 0x10050, 0x0, 1, 0x0, 1, [⟨16, 8, .RW, 20, true, .rng 1 50⟩, ⟨0, 16, .RW, 200, true, .rng 10 10000⟩]⟩,
    ⟨"TIM_ANTDLY", 0x10054, 0x0, 1, 0x0, 1, [⟨0, 32, .RW, 0, true, .any⟩]⟩,
    ⟨"TIM_OFS", 0x10058, 0x0, 1, 0x0, 1, [⟨0, 32, .RO, 0, false, .any⟩]⟩,
    ⟨"TIM_FRQ", 0x1005C, 0x0, 1, 0x0, 1, [⟨0, 32, .RO, 0, false, .any⟩]⟩,
    ⟨"TIM_MODEL", 0x10060, 0x0, 1, 0x0, 1, [⟨30, 2, .RO, 0, false, .any⟩, ⟨28, 2, .RO, 0, false, .any⟩, ⟨0, 16, .RO, 0, false, .any⟩]⟩,
    ⟨"TIM_HOLDERR", 0x10064, 0x0, 1, 0x0, 1, [⟨0, 32, .RO, 0, false, .any⟩]⟩,
    ⟨"TIM_HOLDCFG", 0x10068, 0x0, 1, 0x0, 1, [⟨16, 16, .RW, 100, true, .rng 1 65535⟩, ⟨0, 16, .RW, 200, true, .rng 1 65535⟩]⟩,
    ⟨"TIM_LEAP", 0x10070, 0x0, 1, 0x0, 1, [⟨24, 8, .RO, 0, false, .any⟩, ⟨23, 1, .RO, 0, false, .any⟩, ⟨22, 1, .RO, 0, false, .any⟩, ⟨0, 16, .RO, 0, false, .any⟩]⟩,
    ⟨"TIM_PPSCFG", 0x10078, 0x0, 1, 0x0, 1, [⟨8, 8, .RW, 20, true, .rng 1 255⟩, ⟨0, 1, .RW, 0, true, .any⟩]⟩,
    ⟨"TIM_TPCFG", 0x10100, 0x20, 2, 0x0, 1, [⟨8, 20, .RW, 100000, true, .any⟩, ⟨1, 3, .RW, 0, true, .rng 0 5⟩, ⟨0, 1, .RW, 0, true, .any⟩]⟩,
    ⟨"TIM_TPDLYA", 0x10104, 0x20, 2, 0x0, 1, [⟨0, 32, .RW, 0, true, .any⟩]⟩,
    ⟨"TIM_TPDLYB", 0x10108, 0x20, 2, 0x0, 1, [⟨0, 32, .RW, 4294967295, true, .any⟩]⟩ ]

/-- Registers of TIM, spec/01, 06. -/
def regsTimC : List RSpec :=
  [ ⟨"TIM_TPSTAT", 0x1010C, 0x20, 2, 0x0, 1, [⟨16, 16, .RO, 0, false, .any⟩, ⟨2, 2, .RO, 0, false, .any⟩, ⟨1, 1, .RO, 0, false, .any⟩, ⟨0, 1, .RO, 0, false, .any⟩]⟩,
    ⟨"TIM_TICCFG", 0x10200, 0x0, 1, 0x0, 1, [⟨16, 12, .RW, 1100, false, .rng 1 4000⟩, ⟨8, 3, .RW, 1, false, .rng 0 5⟩, ⟨4, 3, .RW, 0, false, .rng 0 5⟩, ⟨0, 1, .RW, 0, false, .any⟩]⟩,
    ⟨"TIM_TICCTL", 0x10204, 0x0, 1, 0x0, 1, [⟨2, 1, .W1P, 0, false, .any⟩, ⟨1, 1, .W1P, 0, false, .any⟩, ⟨0, 1, .W1P, 0, false, .any⟩]⟩,
    ⟨"TIM_TICRES0", 0x10208, 0x0, 1, 0x0, 1, [⟨0, 32, .RO, 0, false, .any⟩]⟩,
    ⟨"TIM_TICRES1", 0x1020C, 0x0, 1, 0x0, 1, [⟨31, 1, .RO, 0, false, .any⟩, ⟨30, 1, .RO, 0, false, .any⟩, ⟨29, 1, .RO, 0, false, .any⟩, ⟨28, 1, .RO, 0, false, .any⟩, ⟨27, 1, .RO, 0, false, .any⟩, ⟨26, 1, .RO, 0, false, .any⟩, ⟨0, 16, .RO, 0, false, .any⟩]⟩,
    ⟨"TIM_TICRES2", 0x10210, 0x0, 1, 0x0, 1, [⟨0, 32, .RO, 0, false, .any⟩]⟩,
    ⟨"TIM_TICRES3", 0x10214, 0x0, 1, 0x0, 1, [⟨0, 32, .RO, 0, false, .any⟩]⟩,
    ⟨"TIM_TICSTAT", 0x10218, 0x0, 1, 0x0, 1, [⟨16, 16, .RO, 0, false, .any⟩, ⟨6, 1, .RO, 0, false, .any⟩, ⟨5, 1, .RO, 0, false, .any⟩, ⟨0, 5, .RO, 0, false, .any⟩]⟩ ]

/-- Registers of TIM, spec/01, 06. -/
def regsTim : List RSpec := regsTimA ++ regsTimB ++ regsTimC

/-- Registers of GNF, spec/04. -/
def regsGnf : List RSpec :=
  [ ⟨"GNF_CTL", 0x20000, 0x80, 2, 0x0, 1, [⟨4, 2, .RW, 0, true, .rng 0 2⟩, ⟨2, 1, .RW, 1, true, .any⟩, ⟨1, 1, .RW, 1, true, .any⟩, ⟨0, 1, .RW, 1, true, .any⟩]⟩,
    ⟨"GNF_AGC", 0x20004, 0x80, 2, 0x0, 1, [⟨16, 8, .RO, 0, false, .any⟩, ⟨8, 8, .RW, 80, true, .rng 0 120⟩, ⟨0, 8, .RW, 48, true, .rng 16 96⟩]⟩,
    ⟨"GNF_BLANK", 0x20008, 0x80, 2, 0x0, 1, [⟨8, 8, .RW, 16, true, .any⟩, ⟨0, 8, .RW, 16, true, .rng 8 255⟩]⟩,
    ⟨"GNF_STAT", 0x2000C, 0x80, 2, 0x0, 1, [⟨25, 1, .W1C, 0, false, .any⟩, ⟨24, 1, .RO, 0, false, .any⟩, ⟨16, 8, .RO, 0, false, .any⟩, ⟨0, 16, .RO, 0, false, .any⟩]⟩,
    ⟨"GNF_NOTCH", 0x20010, 0x80, 2, 0x4, 4, [⟨16, 12, .RW, 0, true, .any⟩, ⟨4, 8, .RO, 0, false, .any⟩, ⟨2, 1, .RO, 0, false, .any⟩, ⟨0, 2, .RW, 1, true, .rng 0 2⟩]⟩ ]

/-- Registers of GNC, spec/04. -/
def regsGnc : List RSpec :=
  [ ⟨"GNC_PLAN", 0x30000, 0x0, 1, 0x0, 1, [⟨8, 8, .CL, 0, false, .any⟩, ⟨0, 8, .CL, 0, false, .any⟩]⟩,
    ⟨"GNC_BATCH", 0x30004, 0x0, 1, 0x0, 1, [⟨0, 32, .RO, 0, false, .any⟩]⟩,
    ⟨"GNC_BATCHLOST", 0x30008, 0x0, 1, 0x0, 1, [⟨0, 16, .RO, 0, false, .any⟩]⟩,
    ⟨"GNC_ACQW0", 0x30040, 0x0, 1, 0x0, 1, [⟨21, 1, .RW, 1, false, .any⟩, ⟨16, 5, .RW, 1, false, .rng 1 12⟩, ⟨8, 6, .RW, 1, false, .any⟩, ⟨0, 8, .RW, 1, false, .any⟩]⟩,
    ⟨"GNC_ACQW1", 0x30044, 0x0, 1, 0x0, 1, [⟨16, 8, .RW, 56, false, .any⟩, ⟨0, 16, .RW, 0, false, .any⟩]⟩,
    ⟨"GNC_ACQW2", 0x30048, 0x0, 1, 0x0, 1, [⟨20, 4, .RW, 12, false, .rng 1 12⟩, ⟨0, 17, .RW, 0, false, .srng (-50000) 50000⟩]⟩,
    ⟨"GNC_ACQCTL", 0x3004C, 0x0, 1, 0x0, 1, [⟨3, 1, .W1P, 0, false, .any⟩, ⟨2, 1, .W1P, 0, false, .any⟩, ⟨1, 1, .W1P, 0, false, .any⟩, ⟨0, 1, .W1P, 0, false, .any⟩]⟩,
    ⟨"GNC_ACQSTAT", 0x30050, 0x0, 1, 0x0, 1, [⟨24, 8, .RO, 0, false, .any⟩, ⟨16, 1, .RO, 0, false, .any⟩, ⟨8, 7, .RO, 0, false, .any⟩, ⟨0, 7, .RO, 0, false, .any⟩]⟩,
    ⟨"GNC_ACQRES0", 0x30060, 0x0, 1, 0x0, 1, [⟨24, 8, .RO, 0, false, .any⟩, ⟨16, 4, .RO, 0, false, .any⟩, ⟨0, 16, .RO, 0, false, .any⟩]⟩,
    ⟨"GNC_ACQRES1", 0x30064, 0x0, 1, 0x0, 1, [⟨24, 8, .RO, 0, false, .any⟩, ⟨0, 18, .RO, 0, false, .any⟩]⟩,
    ⟨"GNC_ACQRES2", 0x30068, 0x0, 1, 0x0, 1, [⟨0, 17, .RO, 0, false, .any⟩]⟩,
    ⟨"GNC_ACQRES3", 0x3006C, 0x0, 1, 0x0, 1, [⟨0, 32, .RO, 0, false, .any⟩]⟩,
    ⟨"GNC_SNAPCTL", 0x30080, 0x0, 1, 0x0, 1, [⟨31, 1, .W1P, 0, false, .any⟩, ⟨30, 1, .W1P, 0, false, .any⟩, ⟨16, 1, .RW, 0, false, .any⟩, ⟨14, 2, .RW, 3, false, .among [1, 2, 3]⟩, ⟨8, 6, .RW, 32, false, .rng 1 32⟩, ⟨0, 8, .RW, 0, false, .rng 0 191⟩]⟩,
    ⟨"GNC_SNAPSTAT", 0x30084, 0x0, 1, 0x0, 1, [⟨8, 24, .RO, 0, false, .any⟩, ⟨4, 4, .RO, 0, false, .any⟩, ⟨0, 4, .RO, 0, false, .any⟩]⟩ ]

/-- Registers of GNT, spec/05. -/
def regsGntA : List RSpec :=
  [ ⟨"GNT_EPOCHCFG", 0x40000, 0x0, 1, 0x0, 1, [⟨4, 1, .RW, 0, true, .any⟩, ⟨3, 1, .RW, 1, true, .any⟩, ⟨0, 3, .RW, 0, true, .rng 0 5⟩]⟩,
    ⟨"GNT_EPOCHCNT", 0x40004, 0x0, 1, 0x0, 1, [⟨0, 32, .RO, 0, false, .any⟩]⟩,
    ⟨"GNT_L5DLY", 0x40008, 0x0, 1, 0x0, 1, [⟨0, 16, .RW, 0, true, .any⟩]⟩,
    ⟨"GNT_SQCNT", 0x4000C, 0x0, 1, 0x0, 1, [⟨24, 8, .RO, 0, false, .any⟩, ⟨16, 8, .RO, 0, false, .any⟩, ⟨0, 16, .RO, 0, false, .any⟩]⟩,
    ⟨"GNT_MRBASE_LO", 0x40010, 0x0, 1, 0x0, 1, [⟨12, 20, .RW, 0, false, .any⟩]⟩,
    ⟨"GNT_MRBASE_HI", 0x40014, 0x0, 1, 0x0, 1, [⟨0, 32, .RW, 0, false, .any⟩]⟩,
    ⟨"GNT_MRSIZE", 0x40018, 0x0, 1, 0x0, 1, [⟨0, 5, .RW, 16, false, .rng 16 24⟩]⟩,
    ⟨"GNT_MRHEAD", 0x4001C, 0x0, 1, 0x0, 1, [⟨0, 32, .RO, 0, false, .any⟩]⟩,
    ⟨"GNT_MRTAIL", 0x40020, 0x0, 1, 0x0, 1, [⟨0, 32, .RW, 0, false, .any⟩]⟩,
    ⟨"GNT_MRDROP", 0x40024, 0x0, 1, 0x0, 1, [⟨0, 32, .RO, 0, false, .any⟩]⟩,
    ⟨"GNT_RTCMCFG", 0x40030, 0x0, 1, 0x0, 1, [⟨16, 5, .RW, 31, true, .any⟩, ⟨4, 12, .RW, 0, true, .any⟩, ⟨0, 1, .RW, 0, true, .any⟩]⟩,
    ⟨"GNT_TMODE", 0x40040, 0x0, 1, 0x0, 1, [⟨2, 1, .RW, 1, true, .any⟩, ⟨0, 2, .RW, 1, true, .rng 0 2⟩]⟩,
    ⟨"GNT_SURVEYCFG", 0x40044, 0x0, 1, 0x0, 1, [⟨16, 16, .RW, 1000, true, .rng 10 65535⟩, ⟨0, 16, .RW, 3600, true, .rng 60 65535⟩]⟩,
    ⟨"GNT_POSX", 0x40048, 0x0, 1, 0x0, 1, [⟨0, 32, .RW, 0, true, .any⟩]⟩ ]

/-- Registers of GNT, spec/05. -/
def regsGntB : List RSpec :=
  [ ⟨"GNT_POSY", 0x4004C, 0x0, 1, 0x0, 1, [⟨0, 32, .RW, 0, true, .any⟩]⟩,
    ⟨"GNT_POSZ", 0x40050, 0x0, 1, 0x0, 1, [⟨0, 32, .RW, 0, true, .any⟩]⟩,
    ⟨"GNT_POSHP", 0x40054, 0x0, 1, 0x0, 1, [⟨16, 8, .RW, 0, true, .srng (-99) 99⟩, ⟨8, 8, .RW, 0, true, .srng (-99) 99⟩, ⟨0, 8, .RW, 0, true, .srng (-99) 99⟩]⟩,
    ⟨"GNT_POSACC", 0x40058, 0x0, 1, 0x0, 1, [⟨0, 32, .RW, 4294967295, true, .any⟩]⟩,
    ⟨"GNT_PVTSTAT", 0x40060, 0x0, 1, 0x0, 1, [⟨16, 8, .RW, 0, false, .any⟩, ⟨8, 8, .RW, 0, false, .any⟩, ⟨0, 3, .RW, 0, false, .rng 0 3⟩]⟩,
    ⟨"GNT_TSOL_OFS", 0x40064, 0x0, 1, 0x0, 1, [⟨0, 32, .RW, 0, false, .any⟩]⟩,
    ⟨"GNT_TSOL_FRQ", 0x40068, 0x0, 1, 0x0, 1, [⟨0, 32, .RW, 0, false, .any⟩]⟩,
    ⟨"GNT_TSOL_CTL", 0x4006C, 0x0, 1, 0x0, 1, [⟨17, 1, .RW, 0, false, .any⟩, ⟨16, 1, .RW, 0, false, .any⟩, ⟨8, 8, .RW, 255, false, .any⟩, ⟨2, 1, .RW, 0, false, .any⟩, ⟨1, 1, .RW, 0, false, .any⟩, ⟨0, 1, .W1P, 0, false, .any⟩]⟩,
    ⟨"GNT_START", 0x40070, 0x0, 1, 0x0, 1, [⟨16, 16, .RO, 0, false, .any⟩, ⟨4, 3, .RO, 0, false, .any⟩, ⟨0, 3, .RW, 0, false, .among [0, 2, 3, 4]⟩]⟩,
    ⟨"GNT_NAPCTL", 0x40080, 0x0, 1, 0x0, 1, [⟨31, 1, .W1P, 0, false, .any⟩, ⟨16, 15, .RW, 600, true, .rng 30 32767⟩, ⟨0, 11, .RW, 0, true, .rng 0 1800⟩]⟩,
    ⟨"GNT_NAPSTAT", 0x40084, 0x0, 1, 0x0, 1, [⟨16, 16, .RO, 0, false, .any⟩, ⟨1, 1, .RO, 0, false, .any⟩, ⟨0, 1, .RO, 0, false, .any⟩]⟩,
    ⟨"GNT_OSNCFG", 0x40090, 0x0, 1, 0x0, 1, [⟨1, 1, .RW, 0, true, .any⟩, ⟨0, 1, .RW, 0, true, .any⟩]⟩,
    ⟨"GNT_OSNSTAT", 0x40094, 0x0, 1, 0x0, 1, [⟨16, 16, .RO, 0, false, .any⟩, ⟨8, 8, .RO, 0, false, .any⟩, ⟨0, 4, .RO, 0, false, .any⟩]⟩,
    ⟨"GNT_OSNROOT", 0x400A0, 0x4, 8, 0x0, 1, [⟨0, 32, .RW, 0, true, .any⟩]⟩ ]

/-- Registers of GNT, spec/05. -/
def regsGntC : List RSpec :=
  [ ⟨"PRED_CARFREQ", 0x44000, 0x40, 192, 0x10, 4, [⟨0, 32, .RW, 0, false, .any⟩]⟩,
    ⟨"PRED_CODEFREQ", 0x44004, 0x40, 192, 0x10, 4, [⟨0, 32, .RW, 0, false, .any⟩]⟩,
    ⟨"PRED_STEP", 0x44008, 0x40, 192, 0x10, 4, [⟨20, 12, .RW, 0, false, .any⟩, ⟨8, 12, .RW, 0, false, .any⟩, ⟨0, 8, .RW, 0, false, .any⟩]⟩,
    ⟨"PRED_ARM", 0x4400C, 0x40, 192, 0x10, 4, [⟨0, 32, .WO, 0, false, .any⟩]⟩ ]

/-- Registers of GNT, spec/05. -/
def regsGnt : List RSpec := regsGntA ++ regsGntB ++ regsGntC

/-- Registers of RFL, spec/07. -/
def regsRflA : List RSpec :=
  [ ⟨"RFL_PLAN", 0x50000, 0x10000, 4, 0x0, 1, [⟨24, 6, .CL, 0, false, .any⟩, ⟨16, 6, .CL, 0, false, .any⟩, ⟨12, 4, .CL, 0, false, .any⟩, ⟨8, 1, .CL, 0, false, .any⟩, ⟨4, 3, .CL, 0, false, .any⟩, ⟨2, 1, .CL, 0, false, .any⟩, ⟨0, 2, .CL, 0, false, .any⟩]⟩,
    ⟨"RFL_CAPCTR", 0x50004, 0x10000, 4, 0x0, 1, [⟨0, 32, .CL, 0, false, .any⟩]⟩,
    ⟨"RFL_RXLO", 0x50008, 0x10000, 4, 0x0, 1, [⟨0, 32, .RO, 0, false, .any⟩]⟩,
    ⟨"RFL_TXCFG", 0x50010, 0x10000, 4, 0x0, 1, [⟨16, 8, .RW, 8, true, .rng 2 32⟩, ⟨0, 8, .RW, 20, true, .any⟩]⟩,
    ⟨"RFL_FECTL", 0x50014, 0x10000, 4, 0x0, 1, [⟨24, 5, .RW, 1, true, .any⟩, ⟨16, 5, .RW, 2, true, .any⟩, ⟨8, 5, .RW, 2, true, .any⟩, ⟨3, 1, .RW, 0, true, .any⟩, ⟨2, 1, .RW, 1, true, .any⟩, ⟨1, 1, .RW, 0, true, .any⟩, ⟨0, 1, .RW, 0, true, .any⟩]⟩,
    ⟨"RFL_AGC", 0x50018, 0x10000, 4, 0x0, 1, [⟨16, 8, .RO, 0, false, .any⟩, ⟨8, 8, .RW, 80, true, .rng 0 132⟩, ⟨0, 2, .RW, 0, true, .rng 0 2⟩]⟩,
    ⟨"RFL_STAT", 0x50020, 0x10000, 4, 0x0, 1, [⟨24, 8, .RO, 0, false, .any⟩, ⟨16, 2, .RO, 0, false, .any⟩, ⟨9, 1, .RO, 0, false, .any⟩, ⟨8, 1, .RO, 0, false, .any⟩, ⟨3, 1, .RO, 0, false, .any⟩, ⟨2, 1, .RO, 0, false, .any⟩, ⟨1, 1, .RO, 0, false, .any⟩, ⟨0, 1, .RO, 0, false, .any⟩]⟩,
    ⟨"RFL_CTL", 0x50024, 0x10000, 4, 0x0, 1, [⟨2, 1, .W1P, 0, false, .any⟩, ⟨0, 1, .W1P, 0, false, .any⟩]⟩,
    ⟨"RFL_IQ", 0x50028, 0x10000, 4, 0x0, 1, [⟨24, 8, .RO, 0, false, .any⟩, ⟨0, 16, .RO, 0, false, .any⟩]⟩,
    ⟨"RFL_RXOK", 0x50030, 0x10000, 4, 0x0, 1, [⟨0, 32, .RO, 0, false, .any⟩]⟩,
    ⟨"RFL_RXFCS", 0x50034, 0x10000, 4, 0x0, 1, [⟨0, 32, .RO, 0, false, .any⟩]⟩,
    ⟨"RFL_RXBLANK", 0x50038, 0x10000, 4, 0x0, 1, [⟨0, 32, .RO, 0, false, .any⟩]⟩,
    ⟨"RFL_TXDONE", 0x5003C, 0x10000, 4, 0x0, 1, [⟨0, 32, .RO, 0, false, .any⟩]⟩,
    ⟨"RFL_NOTREADY", 0x50040, 0x10000, 4, 0x0, 1, [⟨0, 32, .RO, 0, false, .any⟩]⟩ ]

/-- Registers of RFL, spec/07. -/
def regsRflB : List RSpec :=
  [ ⟨"RFL_PROF", 0x50060, 0x10000, 4, 0x4, 8, [⟨24, 8, .CL, 0, false, .any⟩, ⟨15, 1, .CL, 0, false, .any⟩, ⟨14, 1, .CL, 0, false, .any⟩, ⟨8, 4, .CL, 0, false, .any⟩, ⟨4, 2, .CL, 0, false, .any⟩, ⟨0, 4, .CL, 0, false, .any⟩]⟩,
    ⟨"RFL_TAP", 0x50080, 0x10000, 4, 0x4, 32, [⟨7, 1, .CL, 0, false, .any⟩, ⟨6, 1, .CL, 0, false, .any⟩, ⟨0, 3, .CL, 0, false, .any⟩]⟩,
    ⟨"RFL_CH", 0x50100, 0x10000, 4, 0x4, 64, [⟨31, 1, .CL, 0, false, .any⟩, ⟨24, 3, .CL, 0, false, .any⟩, ⟨0, 24, .CL, 0, false, .any⟩]⟩,
    ⟨"RFL_FMB", 0x50200, 0x10000, 4, 0x4, 32, [⟨16, 8, .CL, 0, false, .any⟩, ⟨8, 8, .CL, 0, false, .any⟩, ⟨0, 7, .CL, 0, false, .any⟩]⟩,
    ⟨"RFL0_FMBCFG", 0x50300, 0x0, 1, 0x0, 1, [⟨0, 2, .RW, 1, true, .rng 0 1⟩]⟩,
    ⟨"RFL0_FMBXFER", 0x50304, 0x0, 1, 0x0, 1, [⟨31, 1, .W1P, 0, false, .any⟩, ⟨30, 1, .RW, 0, false, .any⟩, ⟨16, 7, .RW, 0, false, .any⟩, ⟨8, 8, .RW, 0, false, .any⟩, ⟨0, 8, .RW, 0, false, .any⟩]⟩,
    ⟨"RFL0_FMBSTAT", 0x50308, 0x0, 1, 0x0, 1, [⟨24, 8, .RO, 0, false, .any⟩, ⟨16, 8, .RO, 0, false, .any⟩, ⟨8, 2, .RO, 0, false, .any⟩, ⟨2, 1, .W1C, 0, false, .any⟩, ⟨1, 1, .RO, 0, false, .any⟩, ⟨0, 1, .RO, 0, false, .any⟩]⟩ ]

/-- Registers of RFL, spec/07. -/
def regsRfl : List RSpec := regsRflA ++ regsRflB

/-- Registers of MAC, spec/08. -/
def regsMacA : List RSpec :=
  [ ⟨"MAC_CELLID", 0x90000, 0x0, 1, 0x0, 1, [⟨0, 16, .RW, 0, true, .rng 0 65534⟩]⟩,
    ⟨"MAC_GUARDCFG", 0x90004, 0x0, 1, 0x0, 1, [⟨16, 12, .RW, 100, true, .rng 0 2000⟩, ⟨0, 12, .RW, 200, true, .rng 50 1000⟩]⟩,
    ⟨"MAC_LOSSCFG", 0x90008, 0x0, 1, 0x0, 1, [⟨0, 8, .RW, 8, true, .rng 1 255⟩]⟩,
    ⟨"MAC_GEOM", 0x9000C, 0x0, 1, 0x0, 1, [⟨24, 4, .CL, 0, false, .any⟩, ⟨16, 6, .CL, 0, false, .any⟩, ⟨0, 12, .CL, 0, false, .any⟩]⟩,
    ⟨"MAC_LANEGEOM", 0x90010, 0x4, 4, 0x0, 1, [⟨23, 9, .CL, 0, false, .any⟩, ⟨16, 5, .CL, 0, false, .any⟩, ⟨8, 6, .CL, 0, false, .any⟩, ⟨0, 6, .CL, 0, false, .any⟩]⟩,
    ⟨"MAC_NRPAGE", 0x90020, 0x0, 1, 0x0, 1, [⟨0, 4, .RW, 0, false, .any⟩]⟩,
    ⟨"MAC_NACTIVE", 0x90024, 0x0, 1, 0x0, 1, [⟨0, 18, .RO, 0, false, .any⟩]⟩,
    ⟨"MAC_NADRIFT", 0x90028, 0x0, 1, 0x0, 1, [⟨0, 18, .RO, 0, false, .any⟩]⟩,
    ⟨"MAC_NLOST", 0x9002C, 0x0, 1, 0x0, 1, [⟨0, 18, .RO, 0, false, .any⟩]⟩,
    ⟨"MAC_FOREIGN", 0x90030, 0x0, 1, 0x0, 1, [⟨0, 32, .RO, 0, false, .any⟩]⟩,
    ⟨"MAC_AUTHFAIL", 0x90034, 0x0, 1, 0x0, 1, [⟨0, 32, .RO, 0, false, .any⟩]⟩,
    ⟨"MAC_REPEAT", 0x90038, 0x0, 1, 0x0, 1, [⟨0, 32, .RO, 0, false, .any⟩]⟩,
    ⟨"MAC_JOINUNK", 0x9003C, 0x0, 1, 0x0, 1, [⟨0, 32, .RO, 0, false, .any⟩]⟩,
    ⟨"MAC_DCREFUSE", 0x90040, 0x0, 1, 0x0, 1, [⟨0, 32, .RO, 0, false, .any⟩]⟩ ]

/-- Registers of MAC, spec/08. -/
def regsMacB : List RSpec :=
  [ ⟨"MAC_ACKDEFER", 0x90044, 0x0, 1, 0x0, 1, [⟨0, 32, .RO, 0, false, .any⟩]⟩,
    ⟨"MAC_BEACONMISS", 0x90048, 0x0, 1, 0x0, 1, [⟨0, 32, .RO, 0, false, .any⟩]⟩,
    ⟨"MAC_MAPCAP", 0x9004C, 0x0, 1, 0x0, 1, [⟨0, 6, .CL, 0, false, .any⟩]⟩,
    ⟨"MAC_DOWN", 0x90100, 0x4, 48, 0x0, 1, [⟨31, 1, .CL, 0, false, .any⟩, ⟨0, 9, .CL, 0, false, .any⟩]⟩ ]

/-- Registers of MAC, spec/08. -/
def regsMac : List RSpec := regsMacA ++ regsMacB

/-- Registers of SCH, spec/09. -/
def regsSchA : List RSpec :=
  [ ⟨"SCH_CFG", 0xA0000, 0x0, 1, 0x0, 1, [⟨0, 4, .CL, 8, false, .any⟩]⟩,
    ⟨"SCH_STAT", 0xA0004, 0x0, 1, 0x0, 1, [⟨31, 1, .RO, 0, false, .any⟩, ⟨30, 1, .RO, 0, false, .any⟩, ⟨29, 1, .RO, 0, false, .any⟩, ⟨16, 8, .RO, 0, false, .any⟩, ⟨0, 12, .RO, 0, false, .any⟩]⟩,
    ⟨"SCH_COMMITBEAT", 0xA0008, 0x0, 1, 0x0, 1, [⟨0, 32, .RO, 0, false, .any⟩]⟩,
    ⟨"SCH_HORIZON", 0xA000C, 0x0, 1, 0x0, 1, [⟨0, 32, .RO, 0, false, .any⟩]⟩,
    ⟨"SCH_PLANNED", 0xA0010, 0x0, 1, 0x0, 1, [⟨0, 32, .RO, 0, false, .any⟩]⟩,
    ⟨"SCH_NSQUASH", 0xA0020, 0x0, 1, 0x0, 1, [⟨0, 32, .RO, 0, false, .any⟩]⟩,
    ⟨"SCH_NSTALE", 0xA0024, 0x0, 1, 0x0, 1, [⟨0, 32, .RO, 0, false, .any⟩]⟩,
    ⟨"SCH_NBARE", 0xA0028, 0x0, 1, 0x0, 1, [⟨0, 32, .RO, 0, false, .any⟩]⟩,
    ⟨"SCH_NBURNED", 0xA002C, 0x0, 1, 0x0, 1, [⟨0, 32, .RO, 0, false, .any⟩]⟩,
    ⟨"SCH_NSTALLS", 0xA0030, 0x0, 1, 0x0, 1, [⟨0, 32, .RO, 0, false, .any⟩]⟩,
    ⟨"SCH_NLATE", 0xA0034, 0x0, 1, 0x0, 1, [⟨0, 32, .RO, 0, false, .any⟩]⟩,
    ⟨"SCH_LASTSQ", 0xA0038, 0x0, 1, 0x0, 1, [⟨24, 4, .RO, 0, false, .any⟩, ⟨0, 11, .RO, 0, false, .any⟩]⟩,
    ⟨"SCH_LASTSQBEAT", 0xA003C, 0x0, 1, 0x0, 1, [⟨0, 32, .RO, 0, false, .any⟩]⟩,
    ⟨"SCH_BLKLO", 0xA0040, 0x8, 4, 0x0, 1, [⟨0, 32, .RW, 0, true, .any⟩]⟩ ]

/-- Registers of SCH, spec/09. -/
def regsSchB : List RSpec :=
  [ ⟨"SCH_BLKHI", 0xA0044, 0x8, 4, 0x0, 1, [⟨0, 32, .RW, 0, true, .any⟩]⟩,
    ⟨"SCH_CANCEL", 0xA0060, 0x0, 1, 0x0, 1, [⟨31, 1, .W1P, 0, false, .any⟩, ⟨16, 3, .RW, 0, false, .any⟩, ⟨0, 16, .RW, 0, false, .any⟩]⟩ ]

/-- Registers of SCH, spec/09. -/
def regsSch : List RSpec := regsSchA ++ regsSchB

/-- Registers of FWD, spec/10. -/
def regsFwdA : List RSpec :=
  [ ⟨"FWD_GEOM", 0xB0000, 0x0, 1, 0x0, 1, [⟨16, 12, .CL, 0, false, .any⟩, ⟨8, 5, .CL, 0, false, .any⟩, ⟨0, 8, .CL, 0, false, .any⟩]⟩,
    ⟨"FWD_LEN", 0xB0010, 0x4, 16, 0x0, 1, [⟨13, 19, .RO, 0, false, .any⟩, ⟨8, 4, .CL, 0, false, .any⟩, ⟨0, 8, .CL, 0, false, .any⟩]⟩,
    ⟨"FWD_TWSEL", 0xB0050, 0x0, 1, 0x0, 1, [⟨4, 2, .RW, 0, false, .any⟩, ⟨0, 3, .RW, 0, false, .any⟩]⟩,
    ⟨"FWD_LOCK", 0xB0054, 0x0, 1, 0x0, 1, [⟨16, 4, .RO, 0, false, .any⟩, ⟨0, 4, .RW, 0, false, .any⟩]⟩,
    ⟨"FWD_CMD", 0xB0060, 0x0, 1, 0x0, 1, [⟨31, 1, .W1P, 0, false, .any⟩, ⟨30, 1, .RO, 0, false, .any⟩, ⟨24, 4, .RO, 0, false, .any⟩, ⟨12, 2, .RW, 0, false, .rng 0 2⟩, ⟨8, 2, .RW, 0, false, .rng 0 2⟩, ⟨0, 3, .RW, 0, false, .any⟩]⟩,
    ⟨"FWD_CIDX", 0xB0064, 0x0, 1, 0x0, 1, [⟨31, 1, .RW, 0, false, .any⟩, ⟨0, 18, .RW, 0, false, .any⟩]⟩,
    ⟨"FWD_CK", 0xB0068, 0x4, 5, 0x0, 1, [⟨0, 32, .RW, 0, false, .any⟩]⟩,
    ⟨"FWD_CD", 0xB0080, 0x4, 8, 0x0, 1, [⟨0, 32, .RW, 0, false, .any⟩]⟩,
    ⟨"FWD_MEQ0", 0xB00A0, 0x0, 1, 0x0, 1, [⟨24, 8, .RO, 0, false, .any⟩, ⟨12, 12, .RO, 0, false, .any⟩, ⟨0, 12, .RO, 0, false, .any⟩]⟩,
    ⟨"FWD_MEQ1", 0xB00A4, 0x0, 1, 0x0, 1, [⟨18, 1, .RO, 0, false, .any⟩, ⟨0, 18, .RO, 0, false, .any⟩]⟩,
    ⟨"FWD_MEQ2", 0xB00A8, 0x0, 1, 0x0, 1, [⟨18, 1, .RO, 0, false, .any⟩, ⟨0, 18, .RO, 0, false, .any⟩]⟩,
    ⟨"FWD_MEQ3", 0xB00AC, 0x0, 1, 0x0, 1, [⟨31, 1, .RO, 0, false, .any⟩, ⟨30, 1, .RO, 0, false, .any⟩, ⟨0, 2, .RO, 0, false, .any⟩]⟩,
    ⟨"FWD_MEQCTL", 0xB00B0, 0x0, 1, 0x0, 1, [⟨31, 1, .W1P, 0, false, .any⟩, ⟨0, 13, .RO, 0, false, .any⟩]⟩,
    ⟨"FWD_SHCFG", 0xB00C0, 0x0, 1, 0x0, 1, [⟨16, 16, .RW, 60, true, .rng 10 65535⟩, ⟨8, 4, .RW, 12, true, .rng 9 16⟩, ⟨4, 4, .RW, 15, true, .any⟩, ⟨1, 1, .RW, 0, true, .any⟩, ⟨0, 1, .RW, 0, true, .any⟩]⟩ ]

/-- Registers of FWD, spec/10. -/
def regsFwdB : List RSpec :=
  [ ⟨"FWD_SHBASE_LO", 0xB00C4, 0x0, 1, 0x0, 1, [⟨16, 16, .RW, 0, true, .any⟩]⟩,
    ⟨"FWD_SHBASE_HI", 0xB00C8, 0x0, 1, 0x0, 1, [⟨0, 32, .RW, 0, true, .any⟩]⟩,
    ⟨"FWD_SHSTAT", 0xB00CC, 0x0, 1, 0x0, 1, [⟨16, 16, .RO, 0, false, .any⟩, ⟨8, 8, .RO, 0, false, .any⟩, ⟨1, 1, .RO, 0, false, .any⟩, ⟨0, 1, .RO, 0, false, .any⟩]⟩,
    ⟨"FWD_SHMISS", 0xB00D0, 0x0, 1, 0x0, 1, [⟨30, 2, .RO, 0, false, .any⟩, ⟨0, 18, .RO, 0, false, .any⟩]⟩,
    ⟨"FWD_NOROUTE", 0xB00E0, 0x0, 1, 0x0, 1, [⟨0, 32, .RO, 0, false, .any⟩]⟩,
    ⟨"FWD_NOHOP", 0xB00E4, 0x0, 1, 0x0, 1, [⟨0, 32, .RO, 0, false, .any⟩]⟩,
    ⟨"FWD_ACTDROP", 0xB00E8, 0x0, 1, 0x0, 1, [⟨0, 32, .RO, 0, false, .any⟩]⟩,
    ⟨"FWD_QDROP", 0xB00EC, 0x0, 1, 0x0, 1, [⟨0, 32, .RO, 0, false, .any⟩]⟩,
    ⟨"FWD_LEARNDROP", 0xB00F0, 0x0, 1, 0x0, 1, [⟨0, 32, .RO, 0, false, .any⟩]⟩,
    ⟨"FWD_AGED", 0xB00F4, 0x0, 1, 0x0, 1, [⟨0, 32, .RO, 0, false, .any⟩]⟩,
    ⟨"FWD_NBRMOVE", 0xB00F8, 0x0, 1, 0x0, 1, [⟨0, 32, .RO, 0, false, .any⟩]⟩ ]

/-- Registers of FWD, spec/10. -/
def regsFwd : List RSpec := regsFwdA ++ regsFwdB

/-- Registers of SEC, spec/11. -/
def regsSecA : List RSpec :=
  [ ⟨"SEC_STAT", 0xC0000, 0x0, 1, 0x0, 1, [⟨16, 8, .RO, 0, false, .any⟩, ⟨15, 1, .RO, 0, false, .any⟩, ⟨0, 7, .RO, 0, false, .any⟩]⟩,
    ⟨"SEC_HOLDDROP", 0xC0004, 0x0, 1, 0x0, 1, [⟨0, 32, .RO, 0, false, .any⟩]⟩,
    ⟨"SEC_TMPUB", 0xC0010, 0x4, 16, 0x0, 1, [⟨0, 32, .RO, 0, false, .any⟩]⟩,
    ⟨"SEC_TMCERT", 0xC0050, 0x4, 16, 0x0, 1, [⟨0, 32, .RO, 0, false, .any⟩]⟩,
    ⟨"SEC_TRNG", 0xC0090, 0x0, 1, 0x0, 1, [⟨0, 32, .RO, 0, false, .any⟩]⟩,
    ⟨"SEC_TRNGSTAT", 0xC0094, 0x0, 1, 0x0, 1, [⟨16, 16, .RO, 0, false, .any⟩, ⟨1, 1, .W1P, 0, false, .any⟩, ⟨0, 1, .RO, 0, false, .any⟩]⟩,
    ⟨"SEC_KEYCMD", 0xC00A0, 0x0, 1, 0x0, 1, [⟨31, 1, .W1P, 0, false, .any⟩, ⟨30, 1, .RO, 0, false, .any⟩, ⟨24, 4, .RO, 0, false, .any⟩, ⟨0, 3, .RW, 0, false, .among [1, 2, 3, 4, 5]⟩]⟩,
    ⟨"SEC_KEYARG", 0xC00A4, 0x0, 1, 0x0, 1, [⟨18, 7, .RW, 0, false, .any⟩, ⟨0, 18, .RW, 0, false, .any⟩]⟩,
    ⟨"SEC_KEYDATA", 0xC00A8, 0x4, 6, 0x0, 1, [⟨0, 32, .WO, 0, false, .any⟩]⟩,
    ⟨"SEC_JOINCMD", 0xC00C4, 0x0, 1, 0x0, 1, [⟨31, 1, .W1P, 0, false, .any⟩, ⟨30, 1, .RO, 0, false, .any⟩, ⟨24, 3, .RO, 0, false, .any⟩, ⟨0, 18, .RW, 0, false, .any⟩]⟩,
    ⟨"SEC_JOINARG", 0xC00C8, 0x0, 1, 0x0, 1, [⟨24, 8, .RW, 0, false, .any⟩, ⟨9, 15, .RW, 0, false, .any⟩, ⟨0, 9, .RW, 0, false, .rng 0 256⟩]⟩,
    ⟨"SEC_BKEY", 0xC00D0, 0x0, 1, 0x0, 1, [⟨1, 1, .RW, 0, true, .any⟩, ⟨0, 1, .RO, 0, false, .any⟩]⟩,
    ⟨"SEC_JOBD0", 0xC0100, 0x0, 1, 0x0, 1, [⟨16, 16, .RW, 0, false, .any⟩, ⟨9, 7, .RW, 0, false, .any⟩, ⟨4, 4, .RW, 0, false, .any⟩, ⟨0, 4, .RW, 0, false, .among [1, 2, 3, 4]⟩]⟩,
    ⟨"SEC_JOBD1", 0xC0104, 0x0, 1, 0x0, 1, [⟨0, 8, .RW, 0, false, .any⟩]⟩ ]

/-- Registers of SEC, spec/11. -/
def regsSecB : List RSpec :=
  [ ⟨"SEC_JOBCTL", 0xC0108, 0x0, 1, 0x0, 1, [⟨1, 1, .W1P, 0, false, .any⟩, ⟨0, 1, .W1P, 0, false, .any⟩]⟩,
    ⟨"SEC_JOBRES", 0xC010C, 0x0, 1, 0x0, 1, [⟨16, 16, .RO, 0, false, .any⟩, ⟨15, 1, .RO, 0, false, .any⟩, ⟨0, 4, .RO, 0, false, .any⟩]⟩,
    ⟨"SEC_JOBSTAT", 0xC0110, 0x0, 1, 0x0, 1, [⟨24, 8, .RO, 0, false, .any⟩, ⟨8, 5, .RO, 0, false, .any⟩, ⟨0, 5, .RO, 0, false, .any⟩]⟩,
    ⟨"SEC_IMGCFG", 0xC0200, 0x10, 4, 0x0, 1, [⟨31, 1, .W1P, 0, false, .any⟩, ⟨30, 1, .W1P, 0, false, .any⟩, ⟨0, 8, .RW, 0, false, .rng 0 183⟩]⟩,
    ⟨"SEC_IMGSTAT", 0xC0204, 0x10, 4, 0x0, 1, [⟨4, 4, .RO, 0, false, .any⟩, ⟨0, 2, .RO, 0, false, .any⟩]⟩,
    ⟨"SEC_IMGLEN", 0xC0208, 0x10, 4, 0x0, 1, [⟨0, 32, .RO, 0, false, .any⟩]⟩,
    ⟨"SEC_IMGVER", 0xC020C, 0x10, 4, 0x0, 1, [⟨0, 32, .RO, 0, false, .any⟩]⟩,
    ⟨"SEC_CAMPCFG", 0xC0300, 0x40, 4, 0x0, 1, [⟨8, 4, .RW, 0, false, .any⟩, ⟨0, 2, .RW, 0, false, .any⟩]⟩,
    ⟨"SEC_CAMPTDIV", 0xC0304, 0x40, 4, 0x0, 1, [⟨0, 6, .RW, 8, false, .any⟩]⟩,
    ⟨"SEC_CAMPCTL", 0xC0308, 0x40, 4, 0x0, 1, [⟨3, 1, .W1P, 0, false, .any⟩, ⟨2, 1, .W1P, 0, false, .any⟩, ⟨1, 1, .W1P, 0, false, .any⟩, ⟨0, 1, .W1P, 0, false, .any⟩]⟩,
    ⟨"SEC_CAMPSTAT", 0xC030C, 0x40, 4, 0x0, 1, [⟨8, 24, .RO, 0, false, .any⟩, ⟨4, 4, .RO, 0, false, .any⟩, ⟨3, 1, .RO, 0, false, .any⟩, ⟨0, 3, .RO, 0, false, .any⟩]⟩,
    ⟨"SEC_CAMPK", 0xC0310, 0x40, 4, 0x0, 1, [⟨0, 16, .RO, 0, false, .any⟩]⟩,
    ⟨"SEC_CAMPIDLO", 0xC0314, 0x40, 4, 0x0, 1, [⟨0, 32, .RO, 0, false, .any⟩]⟩,
    ⟨"SEC_CAMPIDHI", 0xC0318, 0x40, 4, 0x0, 1, [⟨0, 32, .RO, 0, false, .any⟩]⟩ ]

/-- Registers of SEC, spec/11. -/
def regsSecC : List RSpec :=
  [ ⟨"SEC_CAMPWAIT", 0xC031C, 0x40, 4, 0x0, 1, [⟨0, 18, .RO, 0, false, .any⟩]⟩,
    ⟨"SEC_CAMPDONE", 0xC0320, 0x40, 4, 0x0, 1, [⟨0, 18, .RO, 0, false, .any⟩]⟩,
    ⟨"SEC_CAMPFAIL", 0xC0324, 0x40, 4, 0x0, 1, [⟨0, 18, .RO, 0, false, .any⟩]⟩ ]

/-- Registers of SEC, spec/11. -/
def regsSec : List RSpec := regsSecA ++ regsSecB ++ regsSecC

/-- Registers of PLK, spec/12. -/
def regsPlkA : List RSpec :=
  [ ⟨"PLK_PCFG", 0xD0000, 0x40, 2, 0x0, 1, [⟨16, 8, .RW, 0, true, .rng 0 127⟩, ⟨10, 2, .RW, 0, true, .rng 0 1⟩, ⟨9, 1, .RW, 1, true, .any⟩, ⟨8, 1, .RW, 0, true, .any⟩, ⟨4, 2, .RW, 0, true, .any⟩, ⟨0, 2, .RW, 0, true, .rng 0 2⟩]⟩,
    ⟨"PLK_PSTAT", 0xD0004, 0x40, 2, 0x0, 1, [⟨20, 4, .RO, 0, false, .any⟩, ⟨16, 1, .RO, 0, false, .any⟩, ⟨8, 2, .RO, 0, false, .any⟩, ⟨0, 1, .RO, 0, false, .any⟩]⟩,
    ⟨"PLK_PLAT", 0xD0008, 0x40, 2, 0x0, 1, [⟨16, 16, .RW, 0, true, .any⟩, ⟨0, 16, .RW, 0, true, .any⟩]⟩,
    ⟨"PLK_POFS", 0xD000C, 0x40, 2, 0x0, 1, [⟨0, 32, .RO, 0, false, .any⟩]⟩,
    ⟨"PLK_PADDR", 0xD0010, 0x40, 2, 0x4, 4, [⟨0, 32, .RW, 0, true, .any⟩]⟩,
    ⟨"PLK_PDROP", 0xD0020, 0x40, 2, 0x0, 1, [⟨0, 32, .RO, 0, false, .any⟩]⟩,
    ⟨"PLK_CFG", 0xD0100, 0x0, 1, 0x0, 1, [⟨1, 1, .RW, 1, true, .any⟩, ⟨0, 1, .RW, 1, true, .any⟩]⟩,
    ⟨"PLK_EPOCH", 0xD0104, 0x0, 1, 0x0, 1, [⟨0, 32, .RO, 0, false, .any⟩]⟩,
    ⟨"PLK_SBCFG", 0xD0108, 0x0, 1, 0x0, 1, [⟨4, 4, .RW, 4, true, .rng 2 4⟩, ⟨2, 1, .RW, 1, true, .any⟩, ⟨0, 2, .RW, 0, true, .rng 0 2⟩]⟩,
    ⟨"PLK_SBSTAT", 0xD010C, 0x0, 1, 0x0, 1, [⟨3, 1, .RO, 0, false, .any⟩, ⟨2, 1, .RO, 0, false, .any⟩, ⟨0, 2, .RO, 0, false, .any⟩]⟩,
    ⟨"PLK_SBBEAT", 0xD0110, 0x0, 1, 0x0, 1, [⟨0, 32, .RO, 0, false, .any⟩]⟩,
    ⟨"PLK_HOCMD", 0xD0120, 0x0, 1, 0x0, 1, [⟨31, 1, .W1P, 0, false, .any⟩, ⟨30, 1, .RO, 0, false, .any⟩, ⟨24, 4, .RO, 0, false, .any⟩, ⟨8, 6, .RW, 0, false, .any⟩, ⟨0, 2, .RW, 0, false, .among [1]⟩]⟩,
    ⟨"PLK_HOIDX", 0xD0124, 0x0, 1, 0x0, 1, [⟨0, 18, .RW, 0, false, .any⟩]⟩,
    ⟨"PLK_HOEUI_LO", 0xD0128, 0x0, 1, 0x0, 1, [⟨0, 32, .RW, 0, false, .any⟩]⟩ ]

/-- Registers of PLK, spec/12. -/
def regsPlkB : List RSpec :=
  [ ⟨"PLK_HOEUI_HI", 0xD012C, 0x0, 1, 0x0, 1, [⟨0, 32, .RW, 0, false, .any⟩]⟩,
    ⟨"PLK_EXPCFG", 0xD0130, 0x0, 1, 0x0, 1, [⟨8, 6, .RW, 0, true, .any⟩, ⟨1, 1, .RW, 0, true, .any⟩, ⟨0, 1, .RW, 1, true, .any⟩]⟩,
    ⟨"PLK_REPLAY", 0xD0140, 0x0, 1, 0x0, 1, [⟨0, 32, .RO, 0, false, .any⟩]⟩,
    ⟨"PLK_MICFAIL", 0xD0144, 0x0, 1, 0x0, 1, [⟨0, 32, .RO, 0, false, .any⟩]⟩,
    ⟨"PLK_RETX", 0xD0148, 0x0, 1, 0x0, 1, [⟨0, 32, .RO, 0, false, .any⟩]⟩,
    ⟨"PLK_HOFAIL", 0xD014C, 0x0, 1, 0x0, 1, [⟨0, 32, .RO, 0, false, .any⟩]⟩ ]

/-- Registers of PLK, spec/12. -/
def regsPlk : List RSpec := regsPlkA ++ regsPlkB

/-- Registers of CHB, spec/01, 14. -/
def regsChb : List RSpec :=
  [ ⟨"CHB_STAT", 0xE0000, 0x0, 1, 0x0, 1, [⟨16, 16, .RO, 0, false, .any⟩, ⟨0, 16, .RO, 0, false, .any⟩]⟩,
    ⟨"CHB_YIELDED", 0xE0004, 0x0, 1, 0x0, 1, [⟨16, 16, .RO, 0, false, .any⟩, ⟨0, 16, .RO, 0, false, .any⟩]⟩,
    ⟨"CHB_BEATDL", 0xE0010, 0x0, 1, 0x0, 1, [⟨0, 8, .CL, 85, false, .any⟩]⟩ ]

/-- Registers of MEM, spec/16. -/
def regsMem : List RSpec :=
  [ ⟨"MEM_CFG", 0xF0000, 0x0, 1, 0x0, 1, [⟨8, 8, .RW, 24, true, .rng 1 168⟩, ⟨0, 1, .RW, 1, true, .any⟩]⟩,
    ⟨"MEM_STAT", 0xF0004, 0x0, 1, 0x0, 1, [⟨16, 8, .RO, 0, false, .any⟩, ⟨0, 16, .RO, 0, false, .any⟩]⟩,
    ⟨"MEM_CECNT", 0xF0008, 0x0, 1, 0x0, 1, [⟨0, 32, .RO, 0, false, .any⟩]⟩,
    ⟨"MEM_UECNT", 0xF000C, 0x0, 1, 0x0, 1, [⟨0, 32, .RO, 0, false, .any⟩]⟩,
    ⟨"MEM_UEADDR", 0xF0010, 0x0, 1, 0x0, 1, [⟨24, 8, .RO, 0, false, .any⟩, ⟨16, 5, .RO, 0, false, .any⟩, ⟨15, 1, .RO, 0, false, .any⟩, ⟨0, 15, .RO, 0, false, .any⟩]⟩,
    ⟨"MEM_NOWN", 0xF0014, 0x0, 1, 0x0, 1, [⟨24, 8, .RO, 0, false, .any⟩, ⟨23, 1, .RO, 0, false, .any⟩, ⟨22, 1, .W1C, 0, false, .any⟩, ⟨16, 5, .RO, 0, false, .any⟩, ⟨0, 16, .RO, 0, false, .any⟩]⟩,
    ⟨"MEM_NOWNADDR", 0xF0018, 0x0, 1, 0x0, 1, [⟨0, 18, .RO, 0, false, .any⟩]⟩,
    ⟨"MEM_ECCINJ", 0xF0020, 0x0, 1, 0x0, 1, [⟨31, 1, .RW, 0, false, .any⟩, ⟨24, 7, .RW, 127, false, .among ((List.range 72) ++ [127])⟩, ⟨16, 7, .RW, 127, false, .among ((List.range 72) ++ [127])⟩, ⟨0, 8, .RW, 0, false, .rng 0 191⟩]⟩,
    ⟨"MEM_BANK_OWN", 0xF0100, 0x4, 192, 0x0, 1, [⟨31, 1, .RO, 0, false, .any⟩, ⟨30, 1, .RO, 0, false, .any⟩, ⟨29, 1, .RO, 0, false, .any⟩, ⟨0, 5, .RW, 0, false, .among ((List.range 9) ++ (List.range 16).map (· + 16))⟩]⟩,
    ⟨"MEM_BANK_STAT", 0xF0400, 0x4, 192, 0x0, 1, [⟨24, 4, .RO, 0, false, .any⟩, ⟨16, 8, .RO, 0, false, .any⟩, ⟨0, 16, .RO, 0, false, .any⟩]⟩ ]

/-- Registers of HST, spec/17. -/
def regsHstA : List RSpec :=
  [ ⟨"HST_STAT", 0x100000, 0x0, 1, 0x0, 1, [⟨16, 16, .RO, 0, false, .any⟩, ⟨8, 2, .RO, 0, false, .any⟩, ⟨4, 2, .RO, 0, false, .any⟩, ⟨1, 1, .RO, 0, false, .any⟩, ⟨0, 1, .RO, 0, false, .any⟩]⟩,
    ⟨"HST_ERBASE_LO", 0x100010, 0x0, 1, 0x0, 1, [⟨12, 20, .RW, 0, false, .any⟩]⟩,
    ⟨"HST_ERBASE_HI", 0x100014, 0x0, 1, 0x0, 1, [⟨0, 32, .RW, 0, false, .any⟩]⟩,
    ⟨"HST_ERSIZE", 0x100018, 0x0, 1, 0x0, 1, [⟨0, 5, .RW, 16, false, .rng 12 24⟩]⟩,
    ⟨"HST_ERHEAD", 0x10001C, 0x0, 1, 0x0, 1, [⟨0, 32, .RO, 0, false, .any⟩]⟩,
    ⟨"HST_ERTAIL", 0x100020, 0x0, 1, 0x0, 1, [⟨0, 32, .RW, 0, false, .any⟩]⟩,
    ⟨"HST_ERCTL", 0x100024, 0x0, 1, 0x0, 1, [⟨0, 1, .RW, 0, false, .any⟩]⟩,
    ⟨"HST_ERSTAT", 0x100028, 0x0, 1, 0x0, 1, [⟨16, 16, .RO, 0, false, .any⟩, ⟨0, 12, .RO, 0, false, .any⟩]⟩,
    ⟨"HST_EVSEQ", 0x10002C, 0x0, 1, 0x0, 1, [⟨0, 32, .RO, 0, false, .any⟩]⟩,
    ⟨"HST_XRBASE_LO", 0x100030, 0x0, 1, 0x0, 1, [⟨12, 20, .RW, 0, false, .any⟩]⟩,
    ⟨"HST_XRBASE_HI", 0x100034, 0x0, 1, 0x0, 1, [⟨0, 32, .RW, 0, false, .any⟩]⟩,
    ⟨"HST_XRSIZE", 0x100038, 0x0, 1, 0x0, 1, [⟨0, 5, .RW, 12, false, .rng 12 20⟩]⟩,
    ⟨"HST_XRHEAD", 0x10003C, 0x0, 1, 0x0, 1, [⟨0, 32, .RO, 0, false, .any⟩]⟩,
    ⟨"HST_XRTAIL", 0x100040, 0x0, 1, 0x0, 1, [⟨0, 32, .RW, 0, false, .any⟩]⟩ ]

/-- Registers of HST, spec/17. -/
def regsHstB : List RSpec :=
  [ ⟨"HST_XRCTL", 0x100044, 0x0, 1, 0x0, 1, [⟨31, 1, .RW, 0, false, .any⟩, ⟨0, 5, .RW, 0, false, .any⟩]⟩,
    ⟨"HST_XRLOST", 0x100048, 0x0, 1, 0x0, 1, [⟨0, 32, .RO, 0, false, .any⟩]⟩,
    ⟨"HST_VECCFG", 0x100080, 0x4, 32, 0x0, 1, [⟨0, 16, .RW, 0, false, .any⟩]⟩,
    ⟨"HST_QCFG", 0x100100, 0x20, 8, 0x0, 1, [⟨31, 1, .RW, 0, false, .any⟩, ⟨30, 1, .RW, 0, false, .any⟩, ⟨24, 5, .RW, 0, false, .any⟩, ⟨8, 1, .RW, 0, false, .any⟩, ⟨0, 5, .RW, 0, false, .any⟩]⟩,
    ⟨"HST_QSQBASE_LO", 0x100104, 0x20, 8, 0x0, 1, [⟨12, 20, .RW, 0, false, .any⟩]⟩,
    ⟨"HST_QSQBASE_HI", 0x100108, 0x20, 8, 0x0, 1, [⟨0, 32, .RW, 0, false, .any⟩]⟩,
    ⟨"HST_QCQBASE_LO", 0x10010C, 0x20, 8, 0x0, 1, [⟨12, 20, .RW, 0, false, .any⟩]⟩,
    ⟨"HST_QCQBASE_HI", 0x100110, 0x20, 8, 0x0, 1, [⟨0, 32, .RW, 0, false, .any⟩]⟩,
    ⟨"HST_QSQTAIL", 0x100114, 0x20, 8, 0x0, 1, [⟨0, 8, .RW, 0, false, .any⟩]⟩,
    ⟨"HST_QCQHEAD", 0x100118, 0x20, 8, 0x0, 1, [⟨0, 8, .RW, 0, false, .any⟩]⟩,
    ⟨"HST_QSTAT", 0x10011C, 0x20, 8, 0x0, 1, [⟨23, 9, .RO, 0, false, .any⟩, ⟨17, 1, .RO, 0, false, .any⟩, ⟨16, 1, .RO, 0, false, .any⟩, ⟨8, 8, .RO, 0, false, .any⟩, ⟨0, 8, .RO, 0, false, .any⟩]⟩ ]

/-- Registers of HST, spec/17. -/
def regsHst : List RSpec := regsHstA ++ regsHstB

/-- Registers of BKP, spec/18. -/
def regsBkp : List RSpec :=
  [ ⟨"BKP_TIME", 0x110000, 0x0, 1, 0x0, 1, [⟨16, 6, .RW, 0, false, .any⟩, ⟨8, 7, .RW, 0, false, .any⟩, ⟨0, 7, .RW, 0, false, .any⟩]⟩,
    ⟨"BKP_DATE", 0x110004, 0x0, 1, 0x0, 1, [⟨24, 2, .RW, 0, false, .any⟩, ⟨16, 8, .RW, 0, false, .any⟩, ⟨8, 5, .RW, 1, false, .any⟩, ⟨0, 6, .RW, 1, false, .any⟩]⟩,
    ⟨"BKP_STAT", 0x110008, 0x0, 1, 0x0, 1, [⟨24, 8, .RO, 0, false, .any⟩, ⟨6, 1, .RO, 0, false, .any⟩, ⟨5, 1, .RO, 0, false, .any⟩, ⟨4, 1, .W1C, 0, false, .any⟩, ⟨3, 1, .W1C, 1, false, .any⟩, ⟨1, 1, .W1C, 0, false, .any⟩, ⟨0, 1, .W1C, 0, false, .any⟩]⟩,
    ⟨"BKP_CTL", 0x11000C, 0x0, 1, 0x0, 1, [⟨2, 1, .W1P, 0, false, .any⟩, ⟨1, 1, .RW, 0, false, .any⟩, ⟨0, 1, .RW, 0, false, .any⟩]⟩,
    ⟨"BKP_ALMTIME", 0x110010, 0x8, 2, 0x0, 1, [⟨31, 1, .RW, 0, false, .any⟩, ⟨24, 1, .RW, 0, false, .any⟩, ⟨23, 1, .RW, 0, false, .any⟩, ⟨15, 1, .RW, 0, false, .any⟩, ⟨16, 6, .RW, 0, false, .any⟩, ⟨8, 7, .RW, 0, false, .any⟩, ⟨0, 7, .RW, 0, false, .rng 0 89⟩]⟩,
    ⟨"BKP_ALMDATE", 0x110014, 0x8, 2, 0x0, 1, [⟨31, 1, .RW, 1, false, .any⟩, ⟨15, 1, .RW, 1, false, .any⟩, ⟨7, 1, .RW, 1, false, .any⟩, ⟨24, 2, .RW, 0, false, .any⟩, ⟨16, 8, .RW, 0, false, .any⟩, ⟨8, 5, .RW, 1, false, .any⟩, ⟨0, 6, .RW, 1, false, .any⟩]⟩,
    ⟨"BKP_SYNC", 0x110020, 0x0, 1, 0x0, 1, [⟨8, 24, .RO, 0, false, .any⟩, ⟨0, 5, .RW, 1, false, .rng 1 24⟩]⟩,
    ⟨"BKP_TRICKLE", 0x110024, 0x0, 1, 0x0, 1, [⟨11, 1, .RO, 0, false, .any⟩, ⟨8, 2, .RW, 0, false, .rng 0 2⟩, ⟨4, 4, .RW, 0, false, .rng 0 12⟩, ⟨0, 1, .RW, 0, false, .any⟩]⟩,
    ⟨"BKP_VBAT", 0x110028, 0x0, 1, 0x0, 1, [⟨0, 12, .RO, 0, false, .any⟩]⟩,
    ⟨"BKP_MEM", 0x110040, 0x4, 16, 0x0, 1, [⟨0, 32, .RW, 0, false, .any⟩]⟩ ]

/-- Registers of CORE, spec/14, 15. -/
def regsCoreA : List RSpec :=
  [ ⟨"CHB_CSTAT", 0x200000, 0x10000, 16, 0x0, 1, [⟨16, 15, .RO, 0, false, .any⟩, ⟨9, 1, .RO, 0, false, .any⟩, ⟨8, 1, .RO, 0, false, .any⟩, ⟨7, 1, .RO, 0, false, .any⟩, ⟨4, 3, .RO, 0, false, .any⟩, ⟨2, 1, .RO, 0, false, .any⟩, ⟨1, 1, .RO, 0, false, .any⟩, ⟨0, 1, .RO, 0, false, .any⟩]⟩,
    ⟨"CHB_CRESETVEC", 0x200004, 0x10000, 16, 0x0, 1, [⟨0, 15, .RW, 0, false, .any⟩]⟩,
    ⟨"CHB_CBEATVEC", 0x200008, 0x10000, 16, 0x0, 1, [⟨15, 1, .RW, 0, false, .any⟩, ⟨0, 15, .RW, 0, false, .any⟩]⟩,
    ⟨"CHB_CEVTVEC", 0x20000C, 0x10000, 16, 0x0, 1, [⟨0, 15, .RW, 0, false, .any⟩]⟩,
    ⟨"CHB_CDBVEC", 0x200010, 0x10000, 16, 0x0, 1, [⟨0, 15, .RW, 0, false, .any⟩]⟩,
    ⟨"CHB_CINTCFG", 0x200014, 0x10000, 16, 0x0, 1, [⟨16, 15, .RW, 16384, false, .any⟩, ⟨2, 2, .RW, 0, false, .rng 0 2⟩, ⟨0, 2, .RW, 0, false, .rng 0 2⟩]⟩,
    ⟨"CHB_CEVQ", 0x200018, 0x10000, 16, 0x0, 1, [⟨16, 16, .RO, 0, false, .any⟩, ⟨0, 6, .RO, 0, false, .any⟩]⟩,
    ⟨"CHB_CDOORBELL", 0x20001C, 0x10000, 16, 0x0, 1, [⟨31, 1, .W1P, 0, false, .any⟩, ⟨0, 16, .RW, 0, false, .any⟩]⟩,
    ⟨"CHB_CAPCTL", 0x200020, 0x10000, 16, 0x0, 1, [⟨16, 2, .RW, 0, false, .rng 0 2⟩, ⟨0, 2, .RW, 0, false, .any⟩]⟩,
    ⟨"CHB_COFFER0", 0x200024, 0x10000, 16, 0x0, 1, [⟨24, 8, .RW, 0, false, .rng 0 191⟩, ⟨8, 15, .RW, 0, false, .any⟩]⟩,
    ⟨"CHB_COFFER1", 0x200028, 0x10000, 16, 0x0, 1, [⟨31, 1, .W1P, 0, false, .any⟩, ⟨30, 1, .RO, 0, false, .any⟩, ⟨28, 2, .RO, 0, false, .any⟩, ⟨0, 11, .RW, 0, false, .rng 1 1500⟩]⟩,
    ⟨"CHB_CCTL", 0x20002C, 0x10000, 16, 0x0, 1, [⟨0, 1, .W1P, 0, false, .any⟩]⟩,
    ⟨"CHB_CYIELD", 0x200030, 0x10000, 16, 0x0, 1, [⟨16, 16, .RO, 0, false, .any⟩, ⟨0, 16, .RO, 0, false, .any⟩]⟩,
    ⟨"CHB_COVR", 0x200034, 0x10000, 16, 0x0, 1, [⟨0, 32, .RO, 0, false, .any⟩]⟩ ]

/-- Registers of CORE, spec/14, 15. -/
def regsCoreB : List RSpec :=
  [ ⟨"PMU_CFG", 0x201000, 0x10000, 16, 0x0, 1, [⟨3, 1, .RW, 0, false, .any⟩, ⟨2, 1, .RW, 0, false, .any⟩, ⟨1, 1, .RW, 0, false, .any⟩, ⟨0, 1, .RW, 0, false, .any⟩]⟩,
    ⟨"PMU_SAMPCFG", 0x201004, 0x10000, 16, 0x0, 1, [⟨24, 6, .RW, 3, false, .any⟩, ⟨20, 4, .RW, 0, false, .rng 0 8⟩, ⟨0, 20, .RW, 1024, false, .rng 16 1048575⟩]⟩,
    ⟨"PMU_SAMPSTAT", 0x201008, 0x10000, 16, 0x0, 1, [⟨24, 8, .RO, 0, false, .any⟩, ⟨16, 1, .RO, 0, false, .any⟩, ⟨0, 9, .RO, 0, false, .any⟩]⟩,
    ⟨"PMU_CTL", 0x20100C, 0x10000, 16, 0x0, 1, [⟨1, 1, .W1P, 0, false, .any⟩, ⟨0, 1, .W1P, 0, false, .any⟩]⟩,
    ⟨"PMU_OVF_LO", 0x201010, 0x10000, 16, 0x0, 1, [⟨0, 32, .W1C, 0, false, .any⟩]⟩,
    ⟨"PMU_OVF_HI", 0x201014, 0x10000, 16, 0x0, 1, [⟨0, 16, .W1C, 0, false, .any⟩]⟩,
    ⟨"PMU_OVFEN_LO", 0x201018, 0x10000, 16, 0x0, 1, [⟨0, 32, .RW, 0, false, .any⟩]⟩,
    ⟨"PMU_OVFEN_HI", 0x20101C, 0x10000, 16, 0x0, 1, [⟨0, 16, .RW, 0, false, .any⟩]⟩,
    ⟨"PMU_THR", 0x201020, 0x10000, 16, 0x4, 4, [⟨8, 8, .RW, 0, false, .any⟩, ⟨0, 4, .RW, 0, false, .any⟩]⟩,
    ⟨"PMU_CNT_LO", 0x201100, 0x10000, 16, 0x8, 48, [⟨0, 32, .RW, 0, false, .any⟩]⟩,
    ⟨"PMU_CNT_HI", 0x201104, 0x10000, 16, 0x8, 48, [⟨0, 16, .RW, 0, false, .any⟩]⟩ ]

/-- Registers of CORE, spec/14, 15. -/
def regsCore : List RSpec := regsCoreA ++ regsCoreB

/-- Registers of SLICE, spec/04, 05. -/
def regsSliceA : List RSpec :=
  [ ⟨"SL_CFG", 0x440000, 0x100, 192, 0x0, 1, [⟨24, 4, .RW, 4, false, .rng 0 8⟩, ⟨16, 5, .RW, 1, false, .rng 1 20⟩, ⟨15, 1, .RW, 0, false, .any⟩, ⟨8, 6, .RW, 0, false, .any⟩, ⟨0, 8, .CL, 0, false, .any⟩]⟩,
    ⟨"SL_TAPS", 0x440004, 0x100, 192, 0x0, 1, [⟨8, 5, .RW, 16, false, .rng 2 31⟩, ⟨0, 5, .RW, 4, false, .rng 1 16⟩]⟩,
    ⟨"SL_ROVE", 0x440008, 0x100, 192, 0x0, 1, [⟨16, 8, .RW, 0, false, .any⟩, ⟨8, 8, .RW, 0, false, .any⟩, ⟨0, 8, .RW, 0, false, .any⟩]⟩,
    ⟨"SL_STAT", 0x44000C, 0x100, 192, 0x0, 1, [⟨16, 16, .RO, 0, false, .any⟩, ⟨1, 1, .W1C, 0, false, .any⟩, ⟨0, 1, .RO, 0, false, .any⟩]⟩,
    ⟨"SL_LOOPCFG", 0x440080, 0x100, 192, 0x0, 1, [⟨24, 8, .RW, 25, false, .rng 1 250⟩, ⟨16, 8, .RW, 40, false, .rng 4 80⟩, ⟨8, 8, .RW, 60, false, .rng 4 200⟩, ⟨2, 1, .RW, 0, false, .any⟩, ⟨0, 2, .RW, 2, false, .any⟩]⟩,
    ⟨"SL_GATE", 0x440084, 0x100, 192, 0x0, 1, [⟨16, 8, .RW, 128, false, .rng 1 255⟩, ⟨8, 8, .RW, 32, false, .rng 1 127⟩, ⟨0, 8, .RW, 48, false, .rng 1 127⟩]⟩,
    ⟨"SL_ANCHORCNT", 0x440088, 0x100, 192, 0x0, 1, [⟨0, 32, .RW, 0, false, .any⟩]⟩,
    ⟨"SL_ANCHORMS", 0x44008C, 0x100, 192, 0x0, 1, [⟨0, 32, .RW, 4294967295, false, .any⟩]⟩,
    ⟨"SL_TRK", 0x440090, 0x100, 192, 0x0, 1, [⟨16, 16, .RO, 0, false, .any⟩, ⟨8, 8, .RO, 0, false, .any⟩, ⟨7, 1, .RO, 0, false, .any⟩, ⟨6, 1, .RO, 0, false, .any⟩, ⟨5, 1, .W1C, 0, false, .any⟩, ⟨4, 1, .W1C, 0, false, .any⟩, ⟨3, 1, .W1C, 0, false, .any⟩, ⟨2, 1, .RO, 0, false, .any⟩, ⟨1, 1, .RO, 0, false, .any⟩, ⟨0, 1, .RO, 0, false, .any⟩]⟩,
    ⟨"SL_RESID", 0x440094, 0x100, 192, 0x0, 1, [⟨16, 16, .RO, 0, false, .any⟩, ⟨0, 16, .RO, 0, false, .any⟩]⟩,
    ⟨"SL_CARFREQ", 0x440098, 0x100, 192, 0x0, 1, [⟨0, 32, .RO, 0, false, .any⟩]⟩,
    ⟨"SL_CODEFREQ", 0x44009C, 0x100, 192, 0x0, 1, [⟨0, 32, .RO, 0, false, .any⟩]⟩,
    ⟨"SL_LOCKMS", 0x4400A0, 0x100, 192, 0x0, 1, [⟨0, 32, .RO, 0, false, .any⟩]⟩,
    ⟨"SL_DUMP", 0x440040, 0x100, 192, 0x4, 16, [⟨0, 32, .RO, 0, false, .any⟩]⟩ ]

/-- Registers of SLICE, spec/04, 05. -/
def regsSliceB : List RSpec :=
  [ ⟨"SL_ENTRY", 0x4400C0, 0x100, 192, 0x4, 8, [⟨0, 32, .RO, 0, false, .any⟩]⟩ ]

/-- Registers of SLICE, spec/04, 05. -/
def regsSlice : List RSpec := regsSliceA ++ regsSliceB

/-- The registers of the station window or core window in which an offset lies (R11, R30). -/
def regsOf (a : Nat) : List RSpec :=
  if 0x200000 ≤ a ∧ a < 0x300000 then regsCore
  else match a / 0x10000 with
    | 0 => regsMgt
    | 1 => regsTim
    | 2 => regsGnf
    | 3 => regsGnc
    | 4 => regsGnt
    | 5 => regsRfl
    | 6 => regsRfl
    | 7 => regsRfl
    | 8 => regsRfl
    | 9 => regsMac
    | 10 => regsSch
    | 11 => regsFwd
    | 12 => regsSec
    | 13 => regsPlk
    | 14 => regsChb
    | 15 => regsMem
    | 16 => regsHst
    | 17 => regsBkp
    | 0x44 => regsSlice
    | _ => []

/-- The indices under which an offset is a word of a register array, where it is one. -/
def RSpec.index (r : RSpec) (a : Nat) : Option (Nat × Nat) :=
  if a < r.base then none
  else
    let d := a - r.base
    let i := if r.s1 = 0 then 0 else d / r.s1
    let e := if r.s1 = 0 then d else d % r.s1
    let j := if r.s2 = 0 then 0 else e / r.s2
    let z := if r.s2 = 0 then e else e % r.s2
    if z = 0 ∧ i < r.n1 ∧ j < r.n2 then some (i, j) else none

/-- The register at an offset (R476); none where the offset is unassigned (R31, R477). -/
def regAt (a : Nat) : Option RSpec := (regsOf a).find? (fun r => (r.index a).isSome)

/-- The Cold value of a field, with the values that are fixed for each unit and the one field whose Cold value
differs between TP0 and TP1 (spec/06, TIM_TPnCFG.EN). -/
def coldField (r : RSpec) (f : FSpec) (a : Nat) : Nat :=
  if a = 0x4 ∧ f.lo = 16 then Config.fusemap.toNat
  else if a = 0x8 ∨ a = 0xC then
    (if a = 0x8 then Config.uid.toNat % 2 ^ 32 else Config.uid.toNat / 2 ^ 32)
  else if r.base = 0xC0010 then (Config.tmpub ((a - 0xC0010) / 4)).toNat
  else if r.base = 0xC0050 then (Config.tmcert ((a - 0xC0050) / 4)).toNat
  else if r.base = 0xF0400 ∧ f.lo = 24 then (Config.repaired ((a - 0xF0400) / 4)).toNat % 5
  else if a = 0x10100 ∧ f.lo = 0 then 1
  else f.cold

/-- The word that a register of the index holds when every field has its Cold value (R6). A vector of the MSI-X table is masked
(log entry 42). -/
def coldReg (a : Nat) : BitVec 32 :=
  if 0x101000 ≤ a ∧ a < 0x101200 ∧ a % 16 = 12 then 1
  else match regAt a with
  | none   => 0
  | some r => r.flds.foldl (fun w f => w ||| BitVec.ofNat 32 (coldField r f a * 2 ^ f.lo)) 0

end Sys2Proof.Machine
end

