-- ==== Sys2Proof/Machine/Sparse.lean ====
section
/-! DEFINITION. Sparse tables as plain data: a list of (key, value) pairs with rising keys, in which a key that is
not listed holds a value that the table's reader names. Every word table, record table and bank memory of the state
is kept in this form. -/

namespace Sys2Proof.Machine

/-- What a table holds at a key; `d` where the key is not listed. -/
def tabGet {β : Type} (d : β) : List (Nat × β) → Nat → β
  | [], _ => d
  | (k, v) :: r, a => if a = k then v else tabGet d r a

/-- The table without a key. -/
def tabErase {β : Type} (a : Nat) : List (Nat × β) → List (Nat × β)
  | [] => []
  | (k, v) :: r => if k = a then tabErase a r else (k, v) :: tabErase a r

/-- The table with a pair put before the first greater key. -/
def tabInsert {β : Type} (a : Nat) (v : β) : List (Nat × β) → List (Nat × β)
  | [] => [(a, v)]
  | (k, w) :: r => if a < k then (a, v) :: (k, w) :: r else (k, w) :: tabInsert a v r

/-- The table with a value at a key. A value equal to what an unlisted key holds leaves the key unlisted. -/
def tabSet {β : Type} [DecidableEq β] (d : β) (a : Nat) (v : β) (m : List (Nat × β)) : List (Nat × β) :=
  if v = d then tabErase a m else tabInsert a v (tabErase a m)

/-- The keys rise strictly, from a bound on. -/
def tabSorted {β : Type} : Nat → List (Nat × β) → Bool
  | _, [] => true
  | n, (k, _) :: r => decide (n ≤ k) && tabSorted (k + 1) r

/-- No listed value equals what an unlisted key holds, where that is one value for all keys. -/
def tabNoDefault {β : Type} [DecidableEq β] (d : β) (m : List (Nat × β)) : Bool :=
  m.all (fun p => !decide (p.2 = d))

/-- The canonical form of a table whose unlisted keys hold `d`. -/
def tabWf {β : Type} [DecidableEq β] (d : β) (m : List (Nat × β)) : Bool :=
  tabSorted 0 m && tabNoDefault d m

end Sys2Proof.Machine
end

