-- ==== Sys2Proof/Machine/State.lean ====
section
/-! DEFINITION. The state of the L9640 as plain data, with the value that reset leaves in every field.

Registers and the table words that a window maps directly stand in one sparse table, `regs`, keyed by BAR0 byte
offset; an offset that is not listed holds its Cold value (R6, Machine/RegTable.lean). Units of which there are several (cores, lanes,
slices) stand in tables keyed by their number, in which an unlisted unit is in its reset state. Everything that the spec gives
the machine and no register shows stands in the structures below, one for each station. A register field that only
shows the length of a store or a derived figure is computed when it is read (Machine/View.lean). -/

namespace Sys2Proof.Machine

/-- Why the machine stops with a fault. No command of this device stops it: a rejected write is captured (R96), a
refused bank access is answered and captured (R406), a core's trap is a next state (R359). Safe. -/
inductive Fault where
  /-- Raised by no meaning: kept because the interface names a type of faults. Safe. -/
  | none
  deriving DecidableEq, Repr

/-- Why a command has no meaning. -/
inductive Refusal where
  /-- Raised by an arm of `exec` whose command has no meaning yet; it names the command. Safe. -/
  | notModelled (mnemonic : String)
  deriving DecidableEq, Repr

/-- What a transmission puts on air (R198, R199, R205): PHY, RATE, INDEX and PREAMBLE of its profile, the length of its FCS, whether the
PSDU is whitened, the power at the ball in 0.5 dBm, and the PSDU with its FCS before whitening. -/
structure AirTx where
  phy      : Nat
  rate     : Nat
  index    : Nat
  preamble : Nat
  fcs4     : Bool
  whiten   : Bool
  pwr      : Int
  psdu     : List Byte
  deriving DecidableEq, Repr

/-- What leaves the device: replies on a bus, writes to host memory, messages and pins (log entry 3). -/
inductive Out where
  /-- A 32-bit read reply on the bus of `src`. -/
  | word (src : BusSrc) (w : Word)
  /-- Octets answered to a BAR2 read or an SPI transaction. -/
  | octets (src : BusSrc) (bs : List Byte)
  /-- Completer Abort status (R34). -/
  | completerAbort
  /-- Completion with poisoned data (R400). -/
  | poisoned
  /-- A read of host memory: address and length. -/
  | hostRead (addr len : Nat)
  /-- A read of the QSPI flash: command, address and length (R53). -/
  | flash (cmd addr len : Nat)
  /-- A posted write to host memory. -/
  | hostWrite (addr : Nat) (bs : List Byte)
  /-- An MSI-X message. -/
  | msix (vec : Nat)
  /-- A frame that a lane has sent: channel, instant of the first preamble symbol, the transmission, and whether it was sent whole. -/
  | air (lane chan start : Nat) (f : AirTx) (whole : Bool)
  /-- A UPL message on a peer port: port, peer (64 in a multicast), the header's type, cells, counter and beat (R321), and the values
  of its payload (log entry 22). -/
  | upl (port peer ty src dst ctr beat : Nat) (ws : List Nat)
  /-- A PTP message of a port that is MASTER: port, clockClass, TS64 of its timestamp with TXLAT, and the port's settings (R319). -/
  | ptp (port cls ts lat : Nat) (cfg : Word)
  /-- An FMB transaction: read flag, target, register, value. -/
  | fmb (read : Bool) (addr reg value : Nat)
  /-- A join request handed to the program that serves Q1: record, REPEAT and payload (R230, log entry 25). -/
  | toQ1 (rec : Nat) (rep : Bool) (payload : List Byte)
  /-- A frame whose egress is the host, with its REPEAT flag (R269, R271). -/
  | toHost (rep : Bool) (bs : List Byte)
  /-- A word shifted out of the TAP. -/
  | tdo (w : Word)
  deriving DecidableEq, Repr

/-! ### MGT: power, modes, start, loader (spec/02, spec/03) -/

/-- What powers the device (R66, R68). -/
inductive Power where
  /-- Main rails in range and PORST_N high. -/
  | on
  /-- PORST_N low: held in reset. -/
  | inReset
  /-- Main rails failed: BACKUP. -/
  | backup
  deriving DecidableEq, Repr

/-- The phase of a start (R73). -/
inductive Phase where
  | assay1 | assay1Failed | scan | load | awaitHost | assay2 | calibrate | ready | running
  /-- Assay stage 2 runs again, from ready or from the wait for a host casting (R77). -/
  | rerun (ready : Bool)
  deriving DecidableEq, Repr

/-- A mode transition in progress (R68, R72). -/
inductive Trans where
  | none
  /-- A SURVEY request waits for the next commit point. -/
  | survey
  /-- Entering DORMANT: planning is to stop at the next commit point (0), it has stopped (1), the commit has begun (2). -/
  | dormant (step : Nat)
  deriving DecidableEq, Repr

/-- One record of a casting: type, target, payload words (R40). -/
structure CRec where
  ty    : Nat
  tgt   : Nat
  words : List Nat
  deriving DecidableEq, Repr

/-- A casting read from its image: header and Hallmark fields and records (R39, R40, R48). -/
structure Casting where
  partialC : Bool
  autoAdv  : Bool
  castId   : Nat
  target   : Nat
  arbVer   : Nat
  keyId    : Nat
  recs     : List CRec
  deriving DecidableEq, Repr

/-- Where a full casting is taken from (R52, MGT_CASTSTAT.SOURCE). -/
inductive CastFrom where
  | none | flashMain | flashSafe | hostPcie | hostSpi
  deriving DecidableEq, Repr

/-- The loader's job: a load, or a function reset (R55, R60). -/
structure LoadJob where
  /-- A function reset requested through MGT_FRESET. -/
  freset : Bool
  from_  : CastFrom
  /-- Reset ID of the target of a partial casting or function reset. -/
  target : Nat
  /-- Staged octets. -/
  image  : List Byte
  /-- Judged casting, between the checks and its application. -/
  cast   : Option Casting
  /-- TS64 and the beat count at the start of quiesce. -/
  since  : Nat
  beat   : Nat
  deriving DecidableEq, Repr

/-- Hidden state of MGT. -/
structure Sys where
  power      : Power
  phase      : Phase
  /-- The start follows DORMANT (R74). -/
  wake       : Bool
  /-- The timebase has run on with a time known to within 1 ms (R74, R152). -/
  ranOn      : Bool
  /-- CAST_SRC as sampled (R52). -/
  castSrc    : Bool
  trans      : Trans
  /-- A DORMANT (1) or SURVEY (3) request held until the release of a partial casting or function reset (R70). -/
  heldReq    : Option Nat
  /-- Wake sources held during the entry to DORMANT, as codes of MGT_WAKESRC (R72). -/
  heldWake   : List Nat
  /-- SURVEY-TIMEOUT has been raised in this stay in SURVEY (R71). -/
  surveyLate : Bool
  /-- TS64 at the last entry to SERVICE or end of a nap (R153). -/
  awakeFrom  : Nat
  /-- The running casting's AUTOADV has not yet acted (R51). -/
  autoAdv    : Bool
  job        : Option LoadJob
  /-- A LOAD written before its turn, by the host over SPI (true) or PCIe (R52). -/
  heldLoad   : Option Bool
  /-- A Function Level Reset's reset of the command queues waits for the loader (R420). -/
  flr        : Bool
  /-- Reset IDs of the cast functions (R47). -/
  cast       : List Nat
  /-- Functions from quiesce start to release (R60, R61). -/
  held       : List Nat
  /-- Records of the running structure, INIT, KEEPMASK and EVENTROUTE copies among them (R57). -/
  recs       : List CRec
  /-- Offsets of dirty kept registers, rising (R85). -/
  dirty      : List Nat
  /-- A commit request made while a pass runs (R85). -/
  merged     : Bool
  /-- TS64 of the last raise of each event that is limited to once per second. -/
  lastRaise  : List (Nat × Nat)
  deriving DecidableEq, Repr

/-! ### MEM and the Crucible (spec/16) -/

/-- Hidden state of MEM. -/
structure Mem where
  /-- Octets of the 192 banks, keyed by bank × 256 KiB + offset; unlisted octets read 0 (log entry 2). -/
  cells   : List Host.Cell
  /-- Inverted bits of stored 72-bit words, keyed by 64-bit word number; unlisted words have none. -/
  ecc     : List (Nat × Nat)
  /-- Pending handovers: bank and new owner (R404). -/
  handover : List (Nat × Nat)
  /-- The next word the scrubber visits. -/
  scrub   : Nat
  deriving DecidableEq, Repr

/-- One copy of an ingot (R410): sequence number, payload words, and whether its CRC holds. -/
structure Copy where
  seq  : Nat
  data : List Nat
  good : Bool
  deriving DecidableEq, Repr

/-- An ingot in its two copies (R411). -/
structure Ingot where
  cls : Nat
  idx : Nat
  a   : Option Copy
  b   : Option Copy
  deriving DecidableEq, Repr

/-- A leased counter (R415). -/
inductive LeaseKey where
  | acc (node : Nat) | dn (node : Nat) | join (node : Nat) | beacon (lane : Nat) | camp (k : Nat)
  deriving DecidableEq, Repr

/-- An ingot on its way to be written (R85, R86): its payload, once it has entered the write queue and been captured, and for a lease
its counter and new base. -/
structure QIngot where
  cls   : Nat
  idx   : Nat
  data  : Option (List Nat)
  lease : Option (LeaseKey × Nat)
  deriving DecidableEq, Repr

/-- Hidden state of the Crucible controller. -/
structure Cru where
  ingots  : List Ingot
  /-- Ingots to write, first in front. The first 512 stand in the write queue; those behind wait for space (R86). -/
  queue   : List QIngot
  /-- Updates that wait for their lease, oldest first: counter and value (R415). -/
  waiting : List (LeaseKey × Nat)
  /-- Lease ingots that have been written and whose update has still to take effect. -/
  written : List (LeaseKey × Nat)
  /-- Committed lease base of each counter that has one (R415). -/
  leases  : List (LeaseKey × Nat)
  /-- Node records changed since their last ingot, rising (R414). -/
  changed : List Nat
  /-- CRU-WEAR has been raised for MAXW, and for SPARE (R413). -/
  wearMax : Bool
  wearLow : Bool
  deriving DecidableEq, Repr

/-! ### HST (spec/17) -/

/-- An event record held on chip (R432). -/
structure EvRec where
  id   : Nat
  loss : Bool
  seq  : Nat
  data : Nat
  ts   : Nat
  beat : Nat
  deriving DecidableEq, Repr

/-- An express record held on chip (R434). -/
structure XRec where
  lane    : Nat
  tap     : Nat
  foreign : Bool
  cellid  : Nat
  seq     : Nat
  recidx  : Nat
  fcnt    : Nat
  rxTs    : Nat
  postTs  : Nat
  rssi    : Nat
  again   : Bool
  payload : List Byte
  deriving DecidableEq, Repr

/-- A completion entry (R427). `dup` and `late` are its flags. -/
structure Cpl where
  tag    : Nat
  queue  : Nat
  dup    : Bool
  late   : Bool
  status : Nat
  detail : Nat
  tries  : Nat
  words  : List Nat
  deriving DecidableEq, Repr

/-- A fetched command that has not completed: its 16 words (R423). -/
structure HCmd where
  tag   : Nat
  words : List Nat
  /-- Its operation has begun. -/
  started : Bool
  deriving DecidableEq, Repr

/-- One command queue pair's hidden state (R421, R429). -/
structure HQueue where
  inflight : List HCmd
  /-- Completions held on chip, oldest first. -/
  held     : List Cpl
  /-- The last 256 completed commands' entries, newest first. -/
  memory   : List Cpl
  /-- Tags whose completion is written once more with DUP (R429). -/
  dups     : List Nat
  /-- Phase bit of the next completion entry. -/
  phase    : Bool
  /-- Queue 7 holds a command over SPI (R436). -/
  spiCmd   : Bool
  deriving DecidableEq, Repr

/-- Hidden state of HST. -/
structure Hst where
  evBuf    : List EvRec
  /-- Records dropped since the last LOSS record (R435). -/
  evLost   : Nat
  /-- EVENT-LOSS has been raised in this filling (R435). -/
  evFull   : Bool
  xBuf     : List XRec
  xSeq     : Nat
  /-- A link-down has not yet been counted in HST_STAT.DOWNS (R420). -/
  wentDown : Bool
  /-- Vectors within HOLDOFF of their last message (R433). -/
  holdoff  : List Nat
  queues   : List (Nat × HQueue)
  /-- The queue after the one that a command was last fetched from (R421). -/
  turn     : Nat
  /-- TAP instruction register (R437). -/
  tapIr    : Nat
  deriving DecidableEq, Repr

/-! ### TIM (spec/01, spec/06) -/

/-- A time update from a time reference (R176): 1 GNSS, 2 PTP, 3 PPS_IN; the offset in ps and the frequency in
0.001 ppb where the reference gives one. -/
structure TimeUpd where
  ref : Nat
  x   : Int
  frq : Option Int
  deriving DecidableEq, Repr

/-- Hidden state of one time-pulse generator (R184, R185). -/
structure Tp where
  /-- The delay pair in force. -/
  dlya    : BitVec 32
  dlyb    : BitVec 32
  /-- The armed pulse: nominal instant in fabric ticks and the frozen delay. -/
  armed   : Option (Nat × BitVec 32)
  /-- Nominal instants before this one are not emitted. -/
  next    : Nat
  /-- Emission instant of the last pulse, in units of 25/192 ps, where there was one. -/
  lastOut : Option Int
  level   : Bool
  deriving DecidableEq, Repr

/-- A result of the time-interval counter (R187). -/
structure TicRes where
  iv         : Int
  order      : Bool
  unresolved : Bool
  timeout    : Bool
  ovf        : Bool
  which      : Bool
  ts         : Nat
  deriving DecidableEq, Repr

/-- Hidden state of the time-interval counter. `half` is the edge held: stop or start, its instant in ps. -/
structure Tic where
  half   : Option (Bool × Nat)
  fifo   : List TicRes
  ovf    : Bool
  lastA  : Option Nat
  lastB  : Option Nat
  deriving DecidableEq, Repr

/-- A frequency reference in the monitor (R170, R178). -/
structure FRef where
  /-- Seconds that u has stayed below 0.8 while qualifying. -/
  qual    : Nat
  /-- Learned time of its oscillator model in seconds. -/
  learned : Nat
  /-- Its model: frequency in 0.001 ppb, linear drift in 0.001 ppb per day, offset in ps, and the TS64 at which it last learned. -/
  freq    : Int
  drift   : Int
  ofs     : Int
  mark    : Nat
  /-- y of the last 60 s, the last one in front: none where it could not be measured, and whether GNSS was the measure (R169). -/
  ys      : List (Option (Int × Bool))
  deriving DecidableEq, Repr

/-- Hidden state of TIM. -/
structure Tim where
  /-- TS64, in fabric ticks (R162). -/
  ts        : Nat
  /-- The fabric synthesiser has locked and TS64 runs (R480). -/
  run       : Bool
  /-- The kept oscillator models have been taken from the Crucible since the reset of the timebase (R480). -/
  kept      : Bool
  /-- The instant of the pending edge and of the last edge. -/
  edge      : Nat
  last      : Nat
  /-- Count of consecutive updates with |x| ≤ 1 µs (R175). -/
  good      : Nat
  /-- The newly healthy time references whose first offset is still to come (R175). -/
  newRefs   : List Nat
  /-- Phase correction still to be slewed, in ps (R176). -/
  slew      : Int
  /-- The device second is known (R173). -/
  secKnown  : Bool
  /-- |x| is judged against TJUMP at the next update (R177). -/
  judgeJump : Bool
  /-- DEGRADED holds for a jump (R177), and for a faulted reference (R172). -/
  degJump   : Bool
  degFault  : Bool
  /-- A frequency-reference switch in progress, to this reference (R168). -/
  switchTo  : Option Nat
  heldUpd   : List TimeUpd
  frefs     : List (Nat × FRef)
  /-- PPS_IN: instant of the last edge in ps, intervals inside and outside the window in a row (R173). -/
  ppsLast   : Option Nat
  ppsGood   : Nat
  ppsBad    : Nat
  /-- HOLD-ERRLIM has been raised in this holdover or nap (R179). -/
  errLim    : Bool
  tps       : List (Nat × Tp)
  tic       : Tic
  deriving DecidableEq, Repr

/-! ### GNF, GNC, GNT (spec/04, spec/05) -/

/-- An acquisition request (R115): the words of GNC_ACQW0 to GNC_ACQW2 at its PUSH. -/
structure AcqReq where
  w0 : Word
  w1 : Word
  w2 : Word
  deriving DecidableEq, Repr

/-- An acquisition result (R117, R118). -/
structure AcqRes where
  tag    : Nat
  status : Nat
  pnr    : Nat
  ratio  : Nat
  codeph : Nat
  dopp   : Nat
  refms  : Nat
  deriving DecidableEq, Repr

/-- What the request in progress does (R116). -/
inductive AcqPhase where
  | idle | filling | searching | stalled
  deriving DecidableEq, Repr

/-- A dump in a batch (R112): its slice, whether its whole integration ran under applied predictions, its INTMS and ELHALF and its
16 words. -/
structure Dump where
  slice  : Nat
  vector : Bool
  ms     : Nat
  elhalf : Nat
  words  : List Word
  deriving DecidableEq, Repr

/-- A batch of dumps (R111): the beat and its dumps in epoch order. -/
structure Batch where
  beat  : Nat
  dumps : List Dump
  deriving DecidableEq, Repr

/-- A write of SLCFG, SLTAPS or SLROVE that waits (R110): its word, whether an edge has passed since, so that the next epoch takes it,
and whether an epoch has. -/
structure PendW where
  word : Word
  due  : Bool
  seen : Bool
  deriving DecidableEq, Repr

/-- An accepted prediction (R133): its edge, and the carrier word, code word and step word that its slot held at the write of ARM. -/
structure Pred where
  edge : Nat
  car  : Word
  cod  : Word
  step : Word
  deriving DecidableEq, Repr

/-- Hidden state of a slice beside its words (R110, R112, R128, R131, R134, R138, R139). -/
structure Slice where
  /-- SLCFG, SLTAPS and SLROVE in effect, and the writes that wait, the oldest first. -/
  cfg     : Word
  taps    : Word
  rove    : Word
  pendC   : List PendW
  pendT   : List PendW
  pendR   : List PendW
  seq     : Nat
  newSv   : Bool
  /-- The next dump is the first after a no-samples state. -/
  resumed : Bool
  /-- What the four prediction slots are armed with. -/
  armed   : List (Option Pred)
  /-- Words frozen for the pending edge: whether they come from a slot, the carrier and code frequency, the steps. -/
  frozen  : Option (Bool × Word × Word × Word)
  /-- Scalar words of the newest finished batch. -/
  scalCar : Word
  scalCod : Word
  /-- The integration in progress has run under applied predictions throughout. -/
  vector  : Bool
  /-- SLIP, and a BLANKED dump, since the previous epoch. -/
  lli     : Bool
  blanked : Bool
  /-- Milliseconds that the C/N0 estimate has stayed at or above 12 dB-Hz, and below it. -/
  cnHi    : Nat
  cnLo    : Nat
  /-- The carrier NCO's phase since ENABLE in 1/(2^16 × 491,520,000) cycle and the code NCO's phase since the last code epoch in
  1/(2^24 × 491,520,000) chip, both at TS64 = ncoAt, and the code periods since ENABLE (R112). -/
  carAcc  : Int
  codAcc  : Int
  ncoAt   : Nat
  codeCnt : Nat
  /-- The prompt values of the last second of processed dumps, newest first: epoch, I, Q and INTMS (R128). -/
  prompts : List (Nat × Int × Int × Nat)
  /-- The rate integrator of the carrier loop (R129), in a unit of the loop filter's own. -/
  rate    : Int
  /-- The whole cycles that the RTCM phase range of the slice is offset by, since its last slip (R147). -/
  rtcmN   : Option Int
  /-- ELHALF of the last dump. -/
  elLast  : Nat
  deriving DecidableEq, Repr

/-- A running snapshot (R121 to R125): its settings, the instant from which the alignment is counted, whether it captures, whether a
chain is powered for it during a nap, whether it began in SURVEY, whether a bank of it has changed owner, the times at which a band
came to have no samples or samples again, and bytes 0x08 to 0x1F of its header. -/
structure Snap where
  ctl     : Word
  start   : Nat
  first   : Bool
  powered : Bool
  prov    : Bool
  lost    : Bool
  /-- Band, tick since the first sample, and whether the band is without samples from there on; newest first. -/
  cuts    : List (Nat × Nat × Bool)
  head    : List Byte
  deriving DecidableEq, Repr

/-- GNSS hot-start data that class 6 ingots keep beside the oscillator models (R79, R152, R156): valid ephemerides (constellation,
satellite, device second to which they are valid), the device second of the almanac, the last position as GNT_POSX to GNT_POSACC, and
the OSNMA public key that was accepted. -/
structure Hot where
  eph : List (Nat × Nat × Nat)
  alm : Option Nat
  pos : List Nat
  key : List Byte
  deriving DecidableEq, Repr

/-- What the GNSS program on Q0 keeps from epoch to epoch (R149, R150, R156): the sums of the survey's positions in 0.1 mm with their
number and the seconds that they span in 1/20 s, consecutive epochs of large residuals, whether the fixed position is suspect, and
the TESLA root that has been verified. -/
structure Prog where
  sum     : Int × Int × Int
  num     : Nat
  span    : Nat
  bad     : Nat
  suspect : Bool
  root    : Bool
  deriving DecidableEq, Repr

/-- Hidden state of the GNSS stations. -/
structure Gnss where
  /-- The range end at which the AGC-limit event of each chain was raised, while the gain stays there (R102). -/
  atEnd    : List (Option Bool)
  /-- Chains without samples (R105). -/
  noSamp   : List Bool
  slices   : List (Nat × Slice)
  /-- The open batch and the closed ones not yet consumed, oldest first. -/
  openB    : Batch
  closed   : List Batch
  /-- The apply cutoff of the pending edge has passed (R133). -/
  cut      : Bool
  /-- Dumps latched at or after the pending edge, which belong to the next batch (R22). -/
  early    : List (Nat × DumpIn)
  /-- SLIP has been raised since the last batch was handed over (R139). -/
  slipSaid : Bool
  acqQ     : List AcqReq
  acqRes   : List AcqRes
  acqPhase : AcqPhase
  /-- Finished results that wait for a place in the FIFO (R118), with whether the request is the one in progress. -/
  acqWait  : List (Bool × AcqRes)
  /-- Frozen set of each band: blocks and first millisecond (R116). -/
  frozen   : List (Option (Nat × Nat))
  /-- The request in progress is to restart with FRESH as 1 (R120). -/
  acqFresh : Bool
  snap     : Option Snap
  /-- The fix is valid (R151). -/
  fix      : Bool
  /-- TS64 of the last POST, where there is one. -/
  lastPost : Option Nat
  /-- The last POST met the condition of R173. -/
  postGood : Bool
  /-- Chains settle after a nap; a valid POST is awaited after a nap (R155). -/
  settling : Bool
  napAwait : Bool
  /-- TS64 of the start whose first fix is awaited (R152). -/
  ttffFrom : Option Nat
  /-- RATE in force (R141), and the measurement block that waits to be posted, with the RTCM block behind it (R144, R147). -/
  rate     : Nat
  measDue  : Option (List Byte × Option (List Byte))
  /-- GNT_TSOL_OFS in ps as last posted with VALID (R144). -/
  bias     : Option Int
  hot      : Hot
  prog     : Prog
  deriving DecidableEq, Repr

/-! ### BKP and pins (spec/18, spec/20) -/

/-- Hidden state of the backup domain and MGT's supply monitor. -/
structure Bkp where
  /-- A held date (R452). -/
  heldDate : Option Word
  /-- A write in transfer: offset and value (R452). -/
  xfer     : Option (Nat × Word)
  /-- VDD_IO is present. -/
  vddIo    : Bool
  /-- Flags set while the main domain was unpowered, as event IDs (R459). -/
  latched  : List Nat
  /-- Rails below their recommended range, as bits of MGT_PWRSTAT.INRANGE less 8 (R446). -/
  low      : List Nat
  deriving DecidableEq, Repr

/-- Output balls (R87, R467), lane balls by lane, and the input balls that are sampled. -/
structure Pins where
  /-- The outputs are high-impedance, and the board's pull-downs hold them low (R87, R88); the levels below stand while they are not. -/
  hiZ     : Bool
  paen    : List Bool
  lnaen   : List Bool
  antsel  : List Nat
  paflt   : List Bool
  pfailN  : Bool
  deriving DecidableEq, Repr

/-! ### RFL (spec/07) -/

/-- A tap of a lane (R201). -/
structure TapSt where
  /-- The receive ticket that holds the tap. -/
  entry  : Option Nat
  /-- Receive timestamp of the frame in progress. -/
  frame  : Option Nat
  /-- The window has ended while a frame goes on. -/
  closed : Bool
  deriving DecidableEq, Repr

/-- A synthesiser retune in progress (R207): target in Hz, whether it is seeded, and the temper entry that an
unseeded result goes to. -/
structure Retune where
  freq   : Nat
  seeded : Bool
  slot   : Nat
  deriving DecidableEq, Repr

/-- Hidden state of a lane. -/
structure Lane where
  taps   : List (Nat × TapSt)
  /-- Channel last used by the transmit synthesiser (R207). -/
  lastCh : Option Nat
  txTune : Option Retune
  rxTune : Option Retune
  /-- Transmit tickets whose blanking window is open, and those whose PAEN window is, the oldest in front (R203, R211). -/
  win    : List Nat
  pa     : List Nat
  /-- The ticket on air, the instant of its ramp-up, and what it sends; its ramp-down has begun; a cut by PAFLT. -/
  tx     : Option Nat
  rampUp : Option Nat
  air    : Option AirTx
  rampDn : Bool
  abort  : Bool
  /-- The antenna that a transmit ticket holds, and the tick of the last fast attack (R195, R210). -/
  txAnt  : Option Nat
  gainAt : Option Nat
  /-- Front-end writes of the cast list (R196). -/
  nfmb   : Nat
  deriving DecidableEq, Repr

/-- A transaction on the FMB (R213): the lane whose write list it serves, or none for the host. -/
structure FmbOp where
  lane  : Option Nat
  read  : Bool
  addr  : Nat
  reg   : Nat
  val   : Nat
  tries : Nat
  deriving DecidableEq, Repr

/-- The FMB controller: the transaction in progress and the list entries that wait (lane, index). -/
structure Fmb where
  cur  : Option FmbOp
  todo : List (Nat × Nat)
  deriving DecidableEq, Repr

/-- A frame on its way from a tap (R202). -/
structure RxFrame where
  lane   : Nat
  tap    : Nat
  ch     : Nat
  entry  : Nat
  tid    : Nat
  psdu   : List Byte
  ts     : Nat
  rssi   : Nat
  cfo    : Int
  fcs4   : Bool
  whiten : Bool
  /-- The beat in which it ended. -/
  beat   : Nat
  /-- Sending record, where it has been resolved, the decrypted payload, and the OLDKEY flag (R307). -/
  node   : Option Nat
  body   : List Byte
  oldKey : Bool
  /-- The verdict of the counter rule, where it has been taken: REPEAT or not (R237). -/
  rep    : Option Bool
  deriving DecidableEq, Repr

/-! ### SCH (spec/09) -/

/-- The causes of NOTREADY, in the order in which the first one is reported (R200). -/
inductive NrCause where
  | plan | fence | synth | tapBusy
  deriving DecidableEq, Repr

/-- What a ticket is for. -/
inductive Purpose where
  | free | uplink | sentinel | join | beacon | ackBeacon | downlink | nodeAck | joinResp | broadcast
  deriving DecidableEq, Repr

/-- A predecessor of a ticket (R244): its entry, the expected outcome, and the TID that the entry held. -/
structure Dep where
  entry : Nat
  exp   : Nat
  tid   : Nat
  deriving DecidableEq, Repr

/-- A ticket (R244), with what SCH and the lane remember of it beside the entry's words. -/
structure Ticket where
  state  : Nat
  tx     : Bool
  fixed  : Bool
  listen : Bool
  sent   : Bool
  stale  : Bool
  cause  : Nat
  result : Nat
  /-- The cause of NOTREADY that the outcome reports. -/
  why    : Option NrCause
  lane   : Nat
  ch     : Nat
  tap    : Nat
  ant    : Nat
  beat   : Nat
  offset : Nat
  guardUs : Nat
  len    : Nat
  node   : Option Nat
  dest   : Option Nat
  fcnt   : Nat
  bank   : Nat
  bofs   : Nat
  /-- TAG and QUEUE of the request. -/
  tag    : Option (Nat × Nat)
  try_   : Nat
  origin : Nat
  dep0   : Option Dep
  dep1   : Option Dep
  tid    : Nat
  endBeat : Nat
  nframes : Nat
  purpose : Purpose
  /-- The request and its attempt. -/
  req    : Option (Nat × Nat)
  /-- Window or radiation: first and last instant in TS64. -/
  lo     : Nat
  hi     : Nat
  /-- Global slot number of the cell (R228), for the maps. -/
  slot   : Nat
  /-- Instant of the edge of BEAT. -/
  edge   : Nat
  /-- Built octets of a beacon, and the key captured at commit. -/
  frame  : List Byte
  key    : List Byte
  /-- Charged airtime T in µs, the ledgers that admitted it, and the charge at retirement. -/
  air    : Nat
  admitted : List Nat
  charge : Nat
  /-- The lane has started it; a frame of it failed its check; a frame of it was blanked. -/
  started : Bool
  bad    : Bool
  blk    : Bool
  /-- Its result is final on the lane. -/
  final  : Bool
  /-- Frames delivered and not yet processed by MAC and SEC. -/
  open_  : Nat
  /-- Accepted frames: record, receive timestamp, and whether it is a JOINREQ; records whose frames passed authentication; the awaited
  NODEACK has passed; an UPLINK or SENTINEL frame has passed. -/
  accepted : List (Nat × Nat × Bool)
  heard  : List Nat
  acked  : Bool
  mapBit : Bool
  /-- The request ended while the ticket was committed (R430). -/
  late   : Bool
  /-- Slots whose maps a beacon frame carries: the first one and the one after the last. -/
  maps   : Option (Nat × Nat)
  deriving DecidableEq, Repr

/-- What a request asks for. -/
inductive ReqKind where
  | downlink | joinResp | broadcast
  deriving DecidableEq, Repr

/-- Where a request stands: it waits for a place, it has tickets, it has succeeded, it has ended. -/
inductive ReqState where
  | pending | placed | succeeded | ended
  deriving DecidableEq, Repr

/-- A request (R248, R425). -/
structure Request where
  id     : Nat
  kind   : ReqKind
  /-- Record index, or campaign. -/
  target : Nat
  lanes  : List Nat
  bank   : Nat
  bofs   : Nat
  len    : Nat
  ackReq : Bool
  retries : Nat
  earliest : Option Nat
  tag    : Nat
  queue  : Nat
  hasTag : Bool
  origin : Nat
  /-- Insertion: kind, campaign, offset (R299, R425). -/
  insKind : Nat
  insCamp : Nat
  insOfs  : Nat
  /-- Octets SEC puts before the buffer's, in a JOINRESP. -/
  pre    : List Byte
  /-- A JOINRESP waits for a superframe after this second. -/
  after  : Nat
  /-- Symbols still to place and symbols retired, of a BROADCAST. -/
  left   : Nat
  done   : Nat
  state  : ReqState
  replan : Bool
  attempt : Nat
  try_   : Nat
  tries  : Nat
  tx     : Option Nat
  rx     : Option Nat
  final  : Option Nat
  deriving DecidableEq, Repr

/-- Hidden state of SCH. -/
structure Sch where
  tickets : List (Nat × Ticket)
  reqs    : List Request
  nextReq : Nat
  tid     : Nat
  /-- Beats whose planned flag is set. -/
  planned : List Nat
  /-- Beats are open for planning. -/
  isOpen  : Bool
  /-- Planning stops at the next commit point (R69, R72). -/
  stopping : Bool
  /-- Resets whose squash waits for the next commit point. -/
  resets  : List Nat
  /-- SCH has been released and planning waits for a commit point. -/
  resume  : Bool
  /-- Lanes that want a trim beat, and those chosen. -/
  trimWant : List Nat
  trim    : List (Nat × Nat)
  /-- Cells already placed or passed over: record and global slot. -/
  granted : List (Nat × Nat)
  /-- Keys for which FCNT-EXHAUSTED has been raised. -/
  exhausted : List Nat
  /-- Beats in which SQUASH, and STALE-EXEC, were last raised. -/
  sqBeat  : Option Nat
  stBeat  : Option Nat
  /-- The tick of the last squash, and the tickets that the triggers of that tick have reached (R260). -/
  sqTick  : Nat
  sqSet   : List (Nat × Nat)
  /-- Work waits to be planned in a later tick than that of an outcome or a cancellation. -/
  owed    : Bool
  deriving DecidableEq, Repr

/-! ### MAC (spec/08) -/

/-- A duty-cycle ledger's buckets by second, and whether DC-WARN stands (R233, R235). -/
structure Ledger where
  buckets : List (Nat × Nat)
  warned  : Bool
  deriving DecidableEq, Repr

/-- Hidden state of MAC. -/
structure Mac where
  /-- Frames delivered by the lanes, frames in SEC's receive slots passed, and frames for the express engine. -/
  input   : List RxFrame
  passed  : List RxFrame
  express : List RxFrame
  /-- Ledger 17 g + e is entry e of group g. -/
  ledgers : List (Nat × Ledger)
  /-- TVALID has been 1 since the start (R235). -/
  tvSeen  : Bool
  /-- Maps by 4 × global slot + lane, and the oldest slot not yet carried of each lane (R226). -/
  maps    : List (Nat × Nat)
  carry   : List (Nat × Nat)
  /-- CELLID in force (R240). -/
  cellid  : Nat
  deriving DecidableEq, Repr

/-! ### SEC (spec/11) -/

/-- A pending-join entry (R307): the new key until it is switched to, its JOINRESP request and FCNT, and the previous key in
grace with the superframe starts left. -/
structure PendJoin where
  node  : Nat
  sk    : Option (List Byte)
  req   : Nat
  fcnt  : Nat
  prev  : Option (List Byte)
  left  : Nat
  deriving DecidableEq, Repr

/-- A queued job (R293). -/
structure Job where
  op   : Nat
  tag  : Nat
  mbox : Nat
  slot : Nat
  len  : Nat
  deriving DecidableEq, Repr

/-- Hidden state of SEC. -/
structure Sec where
  /-- Key-store slots that are filled. -/
  keys    : List (Nat × List Byte)
  /-- Next beacon counter of each lane. -/
  beacon  : List (Nat × Nat)
  pendJ   : List PendJoin
  /-- Records for which a JOINREQ has been recorded since the start, with the second of its superframe (R230, R306). -/
  joinReqs : List (Nat × Nat)
  jobs    : List Job
  results : List (Nat × Nat)
  /-- Record of a campaign whose key is exhausted. -/
  campOut : List Nat
  deriving DecidableEq, Repr

/-! ### FWD (spec/10) -/

/-- A frame in FWD's input queue (R269, R272): octets of the payload, how many of them are the originator's address,
the REPEAT flag, and the beat in which it came. -/
structure FwdFrame where
  body : List Byte
  skip : Nat
  rep  : Bool
  beat : Nat
  deriving DecidableEq, Repr

/-- A descriptor of the mesh egress queue (R271) with its frame. -/
structure MeqDesc where
  lane : Nat
  node : Nat
  dest : Option Nat
  rep  : Bool
  bank : Nat
  bofs : Nat
  body : List Byte
  deriving DecidableEq, Repr

/-- A command that waits for FWD or runs in it (R285, R426): its queue and tag, none for the command block. -/
structure FwdCmd where
  queue  : Option (Nat × Nat)
  op     : Nat
  table  : Nat
  keysel : Nat
  start  : Bool
  cidx   : Nat
  ck     : List Nat
  cd     : List Nat
  deriving DecidableEq, Repr

/-- Hidden state of FWD. -/
structure Fwd where
  input  : List FwdFrame
  meq    : List MeqDesc
  cmds   : List FwdCmd
  /-- The flush in front runs; the insertion in front waits for a filter clear. -/
  flushing : Bool
  waiting  : Bool
  /-- Length slots whose filter bit is being cleared (R281). -/
  clearing : List Nat
  /-- The next entry the sweeper looks at: neighbours, then routes. -/
  sweep  : Nat
  /-- Shadow pass: table and offset of the next chunk; entries that mismatched and wait for their second check, with
  the live image seen. -/
  shTab  : Nat
  shOfs  : Nat
  shMis  : List (Nat × Nat × Nat)
  deriving DecidableEq, Repr

/-! ### PLK (spec/12) -/

/-- A peer (R324, R325): the words of its entry, and what keying and the counters need. -/
structure Peer where
  st      : Nat
  uid     : Nat
  cellid  : Nat
  role    : Nat
  serving : Bool
  /-- TS64 at which it was last heard on port 0, and on port 1. -/
  heard0  : Option Nat
  heard1  : Option Nat
  addr    : List Nat
  /-- Beat count of its last ANNOUNCE or HELLO. -/
  lastHeard : Nat
  epoch   : Nat
  /-- Touchmark public key. -/
  pubX    : Nat
  pubY    : Nat
  /-- Its geometry equals ours. -/
  geom    : Bool
  /-- Our next CTR, and the last CTR accepted. -/
  txCtr   : Nat
  rxCtr   : Nat
  /-- TS64 of its last HELLO, and of its rejection. -/
  hello   : Option Nat
  since   : Nat
  /-- Its announced last takeover (R335). -/
  took    : Option Nat
  deriving DecidableEq, Repr

/-- A reliable message that waits for its answer (R322): type, words, sendings and TS64 of the last one. -/
structure Rel where
  peer  : Nat
  ty    : Nat
  ws    : List Nat
  sent  : Nat
  ts    : Nat
  port  : Nat
  deriving DecidableEq, Repr

/-- The transfer record of a handover (R328). -/
structure Snapshot where
  peer   : Nat
  idx    : Nat
  eui    : Nat
  dclass : Nat
  router : Bool
  lastRx : Nat
  acc    : Nat
  dn     : Nat
  join   : Nat
  kgen   : Nat
  fwver  : Nat
  jk     : List Byte
  sk     : List Byte
  deriving DecidableEq, Repr

/-- An ALARM: lane, tap, sending record's short address, FCNT, receive timestamp, RSSI, payload and cell. -/
structure Alarm where
  lane    : Nat
  tap     : Nat
  cellid  : Nat
  recidx  : Nat
  fcnt    : Nat
  ts      : Nat
  rssi    : Nat
  again   : Bool
  payload : List Byte
  deriving DecidableEq, Repr

/-- PTP on a port (R320): offsets within the limit in a row, and TS64 of the last offset. -/
structure PtpPort where
  good  : Nat
  last  : Option Nat
  deriving DecidableEq, Repr

/-- Hidden state of PLK. -/
structure Plk where
  peers    : List (Nat × Peer)
  /-- Devices refused at a full table: UID and TS64 (R324). -/
  refused  : List (Nat × Nat)
  rel      : List Rel
  /-- A handover as target: peer, record index, EUI. -/
  pull     : Option (Nat × Nat × Nat)
  /-- The last handover as target that ended OK: peer and EUI. -/
  pulled   : Option (Nat × Nat)
  /-- Handover requests that wait at the source: peer and EUI. -/
  hoQueue  : List (Nat × Nat)
  /-- The transfer in progress at the source, and those to restore at the next superframe start. -/
  transfer : Option Snapshot
  restores : List Snapshot
  /-- Records to mirror, rising, and those whose keys changed (R332). -/
  changed  : List Nat
  rekeyed  : List Nat
  /-- The beacon keys and NEXT as they were mirrored last. -/
  mirrored : Option (List Byte × List Byte × Nat)
  /-- Beat of the last accepted MIRROR. -/
  lastMirror : Option Nat
  /-- Beat count of the last takeover, where there was one. -/
  tookOver : Option Nat
  /-- A takeover is due at the next superframe start. -/
  due      : Bool
  /-- ALARMs to send again: peer and message; and those accepted, by peer, record and FCNT. -/
  alarms   : List (Nat × Alarm)
  seen     : List (Nat × Nat × Nat)
  ptp      : List PtpPort
  /-- TS64 at which a UPL message was last due. -/
  dueAt    : Option Nat
  deriving DecidableEq, Repr

/-! ### CHB cores (spec/13, spec/14, spec/15) -/

/-- A hardware loop (R339, R353): count, start and end index. -/
structure Loop where
  cnt   : Word
  start : BitVec 15
  stop  : BitVec 15
  deriving DecidableEq, Repr

/-- What the shadow set exchanges (R380): the four stacks, top first; pointers, bases and lengths by number; the loops; the
trap registers; SR fields T, FRM, FLAGS, SATF, U and IE. -/
structure CoreSet where
  x      : List Word
  y      : List Word
  a      : List (BitVec 40)
  f      : List (BitVec 64)
  p      : List (Nat × Word)
  b      : List (Nat × Word)
  l      : List (Nat × Word)
  loop0  : Loop
  loop1  : Loop
  tpc    : BitVec 15
  tcause : Word
  tval   : Word
  t      : Bool
  frm    : BitVec 2
  flags  : BitVec 5
  satf   : Bool
  u      : Bool
  ie     : Bool
  deriving DecidableEq, Repr

/-- An interrupt source (R379). -/
inductive IntSrc where
  | beat | event | doorbell
  deriving DecidableEq, Repr

/-- The counters of a core (spec/15): counters and snapshots by number, the sample buffer, and the occurrences left until the
next sample, where the interval has been drawn. -/
structure Pmu where
  cnt     : List (Nat × BitVec 48)
  snap    : List (Nat × BitVec 48)
  samples : List (Nat × List Word)
  next    : Nat
  full    : Bool
  count   : Nat
  seq     : Nat
  left    : Option Nat
  deriving DecidableEq, Repr

/-- A Chaser core's hidden state. -/
structure Core where
  /-- The event FIFO: ID and data (R382). -/
  evq      : List (Nat × Nat)
  /-- The state in use, and the shadow set. -/
  set      : CoreSet
  shadow   : CoreSet
  /-- Syllable index of the bundle that issues next. A value from 0x8000 on lies beyond program memory (log entry 34). -/
  pc       : BitVec 16
  /-- The bundle that the entry from level −1 interrupted. -/
  retPc    : BitVec 16
  th       : Bool
  pu       : Bool
  pie      : Bool
  rsp      : Word
  rsb      : Word
  rsl      : Word
  tvec     : BitVec 15
  treport  : Word
  /-- Running handlers, innermost first: source and priority. -/
  levels   : List (IntSrc × Nat)
  /-- Beat count of a pending BEAT; DOORBELL is pending. -/
  beatPend : Option Nat
  dbPend   : Bool
  wait     : Bool
  halted   : Bool
  /-- The next beat entry is skipped; the core has yielded in the current beat. -/
  skip     : Bool
  yielded  : Bool
  /-- A beat entry has been given and not yielded; it was given at the last edge. -/
  owed     : Bool
  due      : Bool
  /-- Octets of X, Y and program memory at their addresses of R350. -/
  mem      : List Host.Cell
  /-- Decode table and micro-op store (R361). -/
  decode   : List (Nat × Word × Word)
  uops     : List (Nat × Word)
  /-- Loop body in the loop cache (R370): its first and last index. -/
  cache    : Option (Nat × Nat)
  /-- Syllable index of the last bundle retired. -/
  lastPc   : BitVec 15
  pmu      : Pmu
  /-- The frame being copied to FWD: bank, offset, octets (R272). -/
  offer    : Option (Nat × Nat × Nat)
  deriving DecidableEq, Repr

/-! ### The fabric tick -/

/-- A configuration reject of the tick: its source's place in the order of R96, byte address and cause. -/
structure RejIn where
  rank  : Nat
  addr  : Nat
  cause : Nat
  deriving DecidableEq, Repr

/-- A non-owner access of the tick (R406): bank, direction, requester and offset. -/
structure NownIn where
  bank  : Nat
  write : Bool
  req   : Nat
  ofs   : Nat
  deriving DecidableEq, Repr

/-- What the device has noted in one fabric tick (log entry 56), for the rules that speak of one tick (R5, R96, R260, R406). -/
structure Tick where
  /-- TS64 of the tick, where the timebase runs. -/
  ts      : Option Nat
  /-- W1C bits set in it, by register. -/
  flags   : List (Nat × Word)
  /-- Its rejects, and whether MGT_REJ_INFO captured one of them. -/
  rejects : List RejIn
  rejNew  : Bool
  /-- Its non-owner accesses, and whether MEM_NOWN captured one of them. -/
  nowns   : List NownIn
  nownNew : Bool
  deriving DecidableEq, Repr

/-! ### The whole device -/

/-- The state. -/
structure State where
  /-- Commands that wait, first in first out. -/
  pending  : List Instr
  /-- What has left the device, oldest first (log entry 3). -/
  out      : List Out
  /-- How many free values have been drawn (log entry 1). -/
  free     : Nat
  /-- Register and directly mapped table words by BAR0 offset. -/
  regs     : List (Nat × Word)
  /-- Captures that the next read of an offset consumes (R20, R190, R391). -/
  captures : List (Nat × Word)
  /-- Node record words: record × 32 + word (R227, R304). -/
  nodes    : List (Nat × Word)
  sys      : Sys
  mem      : Mem
  cru      : Cru
  hst      : Hst
  tim      : Tim
  gnss     : Gnss
  bkp      : Bkp
  pins     : Pins
  lanes    : List (Nat × Lane)
  fmb      : Fmb
  sch      : Sch
  mac      : Mac
  sec      : Sec
  fwd      : Fwd
  plk      : Plk
  cores    : List (Nat × Core)
  tick     : Tick
  deriving DecidableEq, Repr

/-- A tick in which nothing has happened yet. -/
def Tick.start (ts : Option Nat) : Tick := ⟨ts, [], [], false, [], false⟩

def HQueue.cold : HQueue := ⟨[], [], [], [], true, false⟩
def Tp.cold : Tp := ⟨0, 0xFFFFFFFF, none, 0, none, false⟩
def FRef.cold : FRef := ⟨0, 0, 0, 0, 0, 0, []⟩
def Slice.cold : Slice :=
  ⟨0x04010000, 0x1004, 0, [], [], [], 0, false, false, [none, none, none, none], none, 0, 0, false, false, false, 0, 0, 0, 0, 0, 0, [], 0,
    none, 4⟩
def TapSt.cold : TapSt := ⟨none, none, false⟩
def Lane.cold : Lane := ⟨[], none, none, none, [], [], none, none, none, false, false, none, none, 0⟩
def Ledger.cold : Ledger := ⟨[], false⟩
def Peer.cold : Peer := ⟨0, 0, 0, 0, false, none, none, [0, 0, 0, 0], 0, 0, 0, 0, false, 1, 0, none, 0, none⟩

def Loop.cold : Loop := ⟨0, 0, 0⟩

/-- Stacks empty and every register 0 (R339). -/
def CoreSet.cold : CoreSet where
  x := []
  y := []
  a := []
  f := []
  p := []
  b := []
  l := []
  loop0 := Loop.cold
  loop1 := Loop.cold
  tpc := 0
  tcause := 0
  tval := 0
  t := false
  frm := 0
  flags := 0
  satf := false
  u := false
  ie := false

def Pmu.cold : Pmu := ⟨[], [], [], 0, false, 0, 0, none⟩

/-- A core in reset. -/
def Core.cold : Core where
  evq := []
  set := CoreSet.cold
  shadow := CoreSet.cold
  pc := 0
  retPc := 0
  th := false
  pu := false
  pie := false
  rsp := 0
  rsb := 0
  rsl := 0
  tvec := 0
  treport := 0
  levels := []
  beatPend := none
  dbPend := false
  wait := false
  halted := false
  skip := false
  yielded := false
  owed := false
  due := false
  mem := []
  decode := []
  uops := []
  cache := none
  lastPc := 0
  pmu := Pmu.cold
  offer := none


/-- An entry that was never allocated. -/
def Ticket.cold : Ticket where
  state := 0
  tx := false
  fixed := false
  listen := false
  sent := false
  stale := false
  cause := 0
  result := 0
  why := none
  lane := 0
  ch := 0
  tap := 0
  ant := 0
  beat := 0
  offset := 0
  guardUs := 0
  len := 0
  node := none
  dest := none
  fcnt := 0
  bank := 0
  bofs := 0
  tag := none
  try_ := 0
  origin := 0
  dep0 := none
  dep1 := none
  tid := 0
  endBeat := 0
  nframes := 0
  purpose := .free
  req := none
  lo := 0
  hi := 0
  slot := 0
  edge := 0
  frame := []
  key := []
  air := 0
  admitted := []
  charge := 0
  started := false
  bad := false
  blk := false
  final := false
  open_ := 0
  accepted := []
  heard := []
  acked := false
  mapBit := false
  late := false
  maps := none

def Sch.reset : Sch where
  tickets := []
  reqs := []
  nextReq := 0
  tid := 0
  planned := []
  isOpen := false
  stopping := false
  resets := []
  resume := false
  trimWant := []
  trim := []
  granted := []
  exhausted := []
  sqBeat := none
  stBeat := none
  sqTick := 0
  sqSet := []
  owed := false

def Plk.reset : Plk where
  peers := []
  refused := []
  rel := []
  pull := none
  pulled := none
  hoQueue := []
  transfer := none
  restores := []
  changed := []
  rekeyed := []
  mirrored := none
  lastMirror := none
  tookOver := none
  due := false
  alarms := []
  seen := []
  ptp := [⟨0, none⟩, ⟨0, none⟩]
  dueAt := none

/-- MGT at the release of PORST_N in a cold start (log entries 5 and 6). -/
def Sys.reset : Sys where
  power := .on
  phase := .assay1
  wake := false
  ranOn := false
  castSrc := false
  trans := .none
  heldReq := none
  heldWake := []
  surveyLate := false
  awakeFrom := 0
  autoAdv := false
  job := none
  heldLoad := none
  flr := false
  cast := []
  held := []
  recs := []
  dirty := []
  merged := false
  lastRaise := []

def Tim.reset : Tim where
  ts := 0
  run := false
  kept := false
  edge := 0
  last := 0
  good := 0
  newRefs := []
  slew := 0
  secKnown := false
  judgeJump := false
  degJump := false
  degFault := false
  switchTo := none
  heldUpd := []
  frefs := []
  ppsLast := none
  ppsGood := 0
  ppsBad := 0
  errLim := false
  tps := []
  tic := ⟨none, [], false, none, none⟩

def Gnss.reset : Gnss where
  atEnd := [none, none]
  noSamp := [true, true]
  slices := []
  openB := ⟨0, []⟩
  closed := []
  cut := false
  early := []
  slipSaid := false
  acqQ := []
  acqRes := []
  acqPhase := .idle
  acqWait := []
  frozen := [none, none]
  acqFresh := false
  snap := none
  fix := false
  lastPost := none
  postGood := false
  settling := false
  napAwait := false
  ttffFrom := none
  rate := 0
  measDue := none
  bias := none
  hot := ⟨[], none, [], []⟩
  prog := ⟨(0, 0, 0), 0, 0, 0, false, false⟩

/-- The machine after reset: every register at its Cold value (R6), every store empty, the start of R73 before its
first stage. -/
def State.reset : State where
  pending := []
  out := []
  free := 0
  regs := []
  captures := []
  nodes := []
  sys := Sys.reset
  mem := ⟨[], [], [], 0⟩
  cru := ⟨[], [], [], [], [], [], false, false⟩
  hst := ⟨[], 0, false, [], 0, false, [], [], 0, 0⟩
  tim := Tim.reset
  gnss := Gnss.reset
  bkp := ⟨none, none, true, [], []⟩
  pins := ⟨false, [false, false, false, false], [false, false, false, false], [0, 0, 0, 0], [false, false, false, false],
    true⟩
  lanes := []
  fmb := ⟨none, []⟩
  sch := Sch.reset
  mac := ⟨[], [], [], [], false, [], [], 0⟩
  sec := ⟨[], [], [], [], [], [], []⟩
  fwd := ⟨[], [], [], false, false, [], 0, 0, 0, []⟩
  plk := Plk.reset
  cores := []
  tick := Tick.start none

end Sys2Proof.Machine
end

