-- ==== Sys2Proof/Machine/Ops.lean ====
section
/-! DEFINITION. The named operations over the registers, the tables of units and the outputs. Every meaning reads and
writes the state through these. -/

namespace Sys2Proof.Machine

open Sys2Proof.Fields

/-! ### Fields of words -/

/-- Bits [lo+len−1:lo] of a word as a mask. -/
def fldMask (lo len : Nat) : Word := (BitVec.allOnes 32 >>> (32 - len)) <<< lo

/-- The value of a field of a word. -/
def getFld (w : Word) (f : Fld) : Nat := (w.extractLsb' f.lo f.len).toNat

/-- A word with a field set to the low bits of a value; its other bits stay. -/
def putFld (w : Word) (f : Fld) (v : Nat) : Word :=
  (w &&& ~~~(fldMask f.lo f.len)) ||| ((BitVec.ofNat 32 v <<< f.lo) &&& fldMask f.lo f.len)

/-- A word with several fields set. -/
def putAll (w : Word) (l : List (Fld × Nat)) : Word := l.foldl (fun w p => putFld w p.1 p.2) w

/-- The bits of a under a mask, and those of b elsewhere. -/
def mixWord (mask a b : Word) : Word := (a &&& mask) ||| (b &&& ~~~mask)

/-- A number as a signed value of n bits. -/
def toSigned (n v : Nat) : Int := if v % 2 ^ n < 2 ^ (n - 1) then (v % 2 ^ n : Nat) else (v % 2 ^ n : Nat) - (2 ^ n : Nat)

/-- The n-bit two's-complement encoding of an integer. -/
def ofSigned (n : Nat) (i : Int) : Nat := (i % (2 ^ n : Nat)).toNat

/-- An integer held at the ends of the signed n-bit range. -/
def satSigned (n : Nat) (i : Int) : Int :=
  if i < -(2 ^ (n - 1) : Nat) then -(2 ^ (n - 1) : Nat)
  else if i > (2 ^ (n - 1) : Nat) - 1 then (2 ^ (n - 1) : Nat) - 1 else i

/-! ### Register and table words -/

/-- The word held at a BAR0 offset. -/
def State.get (s : State) (a : Nat) : Word := tabGet (coldReg a) s.regs a

/-- The state with a word at a BAR0 offset. -/
def State.put (s : State) (a : Nat) (w : Word) : State := { s with regs := tabSet (coldReg a) a w s.regs }

/-- The value of a register field. -/
def State.fld (s : State) (f : Fld) : Nat := getFld (s.get f.addr) f

/-- Whether a register field is not zero. -/
def State.isSet (s : State) (f : Fld) : Bool := s.fld f != 0

/-- The value of a signed register field. -/
def State.fldInt (s : State) (f : Fld) : Int := toSigned f.len (s.fld f)

/-- The state with a register field set. -/
def State.setFld (s : State) (f : Fld) (v : Nat) : State := s.put f.addr (putFld (s.get f.addr) f v)

/-- The state with a one-bit field set as a Boolean says. -/
def State.setBit (s : State) (f : Fld) (b : Bool) : State := s.setFld f (if b then 1 else 0)

/-- The state with a signed field set. -/
def State.setInt (s : State) (f : Fld) (i : Int) : State := s.setFld f (ofSigned f.len i)

/-- The field raised by n and held at its greatest value. -/
def State.addSat (s : State) (f : Fld) (n : Nat) : State :=
  s.setFld f (min (s.fld f + n) (2 ^ f.len - 1))

/-- A saturating counter counts once. -/
def State.count (s : State) (f : Fld) : State := s.addSat f 1

/-- Every register and table word of a range of offsets returns to its Cold value. -/
def State.coldRange (s : State) (lo hi : Nat) : State :=
  { s with regs := s.regs.filter (fun p => !(decide (lo ≤ p.1) && decide (p.1 < hi))) }

/-! ### Captures (R20, R190, R391, R452) -/

/-- The next read of an offset returns a word. -/
def State.capture (s : State) (a : Nat) (w : Word) : State :=
  { s with captures := tabInsert a w (tabErase a s.captures) }

/-- The word captured for an offset, where one is pending. -/
def State.captured (s : State) (a : Nat) : Option Word := (s.captures.find? (fun p => p.1 == a)).map (·.2)

/-- The capture of an offset is consumed. -/
def State.release (s : State) (a : Nat) : State := { s with captures := tabErase a s.captures }

/-! ### Free values and outputs -/

/-- A value that nothing constrains, drawn by the state's counter (log entry 1). -/
def State.fresh (s : State) : Nat × State := ((Config.freeValue s.free).toNat, { s with free := s.free + 1 })

/-- Something leaves the device. -/
def State.emit (s : State) (o : Out) : State := { s with out := s.out ++ [o] }

/-! ### Units -/

def State.core (s : State) (c : Nat) : Core := tabGet Core.cold s.cores c
def State.setCore (s : State) (c : Nat) (x : Core) : State := { s with cores := tabSet Core.cold c x s.cores }
def State.lane (s : State) (n : Nat) : Lane := tabGet Lane.cold s.lanes n
def State.setLane (s : State) (n : Nat) (x : Lane) : State := { s with lanes := tabSet Lane.cold n x s.lanes }
def Lane.tap (l : Lane) (k : Nat) : TapSt := tabGet TapSt.cold l.taps k
def Lane.setTap (l : Lane) (k : Nat) (x : TapSt) : Lane := { l with taps := tabSet TapSt.cold k x l.taps }
def State.ticket (s : State) (i : Nat) : Ticket := tabGet Ticket.cold s.sch.tickets i
def State.setTicket (s : State) (i : Nat) (x : Ticket) : State :=
  { s with sch := { s.sch with tickets := tabSet Ticket.cold i x s.sch.tickets } }
def State.ledger (s : State) (n : Nat) : Ledger := tabGet Ledger.cold s.mac.ledgers n
def State.setLedger (s : State) (n : Nat) (x : Ledger) : State :=
  { s with mac := { s.mac with ledgers := tabSet Ledger.cold n x s.mac.ledgers } }
def State.slice (s : State) (n : Nat) : Slice := tabGet Slice.cold s.gnss.slices n
def State.setSlice (s : State) (n : Nat) (x : Slice) : State :=
  { s with gnss := { s.gnss with slices := tabSet Slice.cold n x s.gnss.slices } }
def State.tp (s : State) (n : Nat) : Tp := tabGet Tp.cold s.tim.tps n
def State.setTp (s : State) (n : Nat) (x : Tp) : State :=
  { s with tim := { s.tim with tps := tabSet Tp.cold n x s.tim.tps } }
def State.queue (s : State) (n : Nat) : HQueue := tabGet HQueue.cold s.hst.queues n
def State.setQueue (s : State) (n : Nat) (x : HQueue) : State :=
  { s with hst := { s.hst with queues := tabSet HQueue.cold n x s.hst.queues } }

/-! ### The device's condition -/

/-- The current mode, encoded as MGT_MODE.MODE (R66). -/
def State.mode (s : State) : Nat := s.fld MGT_MODE_MODE

/-- The beat count (R17). -/
def State.beat (s : State) : Nat := s.fld TIM_BEATCNT_COUNT

/-- Bits of a mode set: DORMANT 1, ANNEAL 2, SURVEY 3, SERVICE 4, HOLDOVER 5. -/
def modeDormant : Nat := 1
def modeAnneal : Nat := 2
def modeSurvey : Nat := 3
def modeService : Nat := 4
def modeHoldover : Nat := 5

/-- SURVEY, SERVICE or HOLDOVER: the modes in which beat edges run (R19). -/
def State.beating (s : State) : Bool := 3 ≤ s.mode && s.mode ≤ 5

/-- SERVICE or HOLDOVER. -/
def State.serving (s : State) : Bool := s.mode == modeService || s.mode == modeHoldover

/-- Planning has stopped on the way to DORMANT: no beat entry is given and no command fetched (R72). -/
def State.closing (s : State) : Bool :=
  match s.sys.trans with
  | .dormant n => n != 0
  | _ => false

/-- A function is cast (R47). -/
def State.isCast (s : State) (id : Nat) : Bool := s.sys.cast.contains id

/-- A function is held, from the start of its quiesce to its release (R60, R61). -/
def State.isHeld (s : State) (id : Nat) : Bool := s.sys.held.contains id

/-- A function is cast and not held. -/
def State.live (s : State) (id : Nat) : Bool := s.isCast id && !s.isHeld id

/-- MGT_CASTSTAT.STATE. -/
def csIdle : Nat := 0
def csStaging : Nat := 1
def csChecking : Nat := 2
def csQuiesce : Nat := 3
def csReset : Nat := 4
def csLoad : Nat := 5
def csRestore : Nat := 6
def csDone : Nat := 7
def csFailed : Nat := 8

/-- The quiesce of a function that goes on: the beat count at its start (R60). -/
def State.quiescing (s : State) (id : Nat) : Option Nat :=
  match s.sys.job with
  | some j => if j.target = id ∧ s.fld MGT_CASTSTAT_STATE = csQuiesce then some j.beat else none
  | none => none

/-- A function works: it is live, or it completes in its quiesce what it had accepted (R60, R63). -/
def State.works (s : State) (id : Nat) : Bool := s.isCast id && (!s.isHeld id || (s.quiescing id).isSome)

/-- A beat count lies before another one, modulo 2^32. -/
def beatBefore (a b : Nat) : Bool := a != b && decide ((b + 2 ^ 32 - a % 2 ^ 32) % 2 ^ 32 < 2 ^ 31)

/-- A function works on what came in a beat: it is live, or that beat lay before its quiesce (R60, R63). -/
def State.worksOn (s : State) (id b : Nat) : Bool :=
  s.isCast id && (!s.isHeld id || match s.quiescing id with
    | some b0 => beatBefore b b0
    | none => false)

/-! ### Octets and words -/

/-- The little-endian octets of a number. -/
def leBytes : Nat → Nat → List Byte
  | 0, _ => []
  | n + 1, v => BitVec.ofNat 8 v :: leBytes n (v / 256)

/-- The number that octets spell, the first octet least significant. -/
def ofLeBytes : List Byte → Nat
  | [] => 0
  | b :: r => b.toNat + 256 * ofLeBytes r

/-- The octets of a list of words, each little-endian. -/
def wordsBytes (ws : List Nat) : List Byte := ws.flatMap (leBytes 4)

/-- Octets as little-endian words; a last part word is filled with zeros. -/
def bytesWords : Nat → List Byte → List Nat
  | 0, _ => []
  | n + 1, bs => ofLeBytes (bs.take 4) :: bytesWords n (bs.drop 4)

end Sys2Proof.Machine
end

