-- ==== Sys2Proof/Machine/Flags.lean ====
section
/-! DEFINITION. Status bits and counters: the rules that several stations share for bits that latch until they are
cleared (R5), counters that saturate, captures that a pending bit guards, and events that are raised at most once a
second. -/

namespace Sys2Proof.Machine

open Sys2Proof.Fields

/-- Every W1C bit that a written word names is cleared in a register word; `mask` is the W1C bits of the word (R5). -/
def clearW1C (old written mask : Word) : Word := old &&& ~~~(written &&& mask)

/-! ### The fabric tick (R5, R96, R260, R406) -/

/-- The current fabric tick, while the timebase runs.
DEDUCED (log entry 56): commands between which TS64 stands still are of one tick; while the timebase is stopped each is of a tick of
its own. -/
def State.tickNow (s : State) : Option Nat := if s.tim.run then some s.tim.ts else none

/-- What the device has done in the current tick. -/
def State.now (s : State) : Tick :=
  if s.tim.run && s.tick.ts == s.tickNow then s.tick else Tick.start s.tickNow

/-- A latched bit is set, and the tick in which it was noted: a write of 1 in that tick leaves it set (R5). -/
def State.latch (s : State) (f : Fld) : State :=
  let t := s.now
  { s.setFld f 1 with tick := { t with flags := tabSet 0 f.addr (tabGet 0 t.flags f.addr ||| fldMask f.lo f.len) t.flags } }

/-- The bits of a register that the device has set in the current tick. -/
def State.setNow (s : State) (a : Nat) : Word := tabGet 0 s.now.flags a

/-- The reject that is captured of those of a tick: PCIe before SPI, SPI before the cores in ascending number (R96). -/
def firstReject : List RejIn → Option RejIn
  | [] => none
  | r :: rest => match firstReject rest with
    | some q => some (if q.rank < r.rank then q else r)
    | none => some r

/-- MGT_REJ_INFO and MGT_REJ_ADDR capture the first of the tick's rejects, n in number. -/
def State.captureReject (s : State) (l : List RejIn) (n : Nat) : State :=
  match firstReject l with
  | none => s
  | some r => (s.setFld MGT_REJ_ADDR_ADDR r.addr).put MGT_REJ_INFO (putAll 0 [(MGT_REJ_INFO_PEND, 1),
      (MGT_REJ_INFO_SOURCE, min r.rank 2), (MGT_REJ_INFO_CORE, r.rank - 2), (MGT_REJ_INFO_COUNT, min n 255),
      (MGT_REJ_INFO_CAUSE, r.cause)])

/-- MEM_NOWN and MEM_NOWNADDR capture the first of a tick's non-owner accesses, n in number. -/
def State.captureNown (s : State) (l : List NownIn) (n : Nat) : State :=
  match l with
  | [] => s
  | r :: _ =>
    let s := s.setFld MEM_NOWN_BANK r.bank
    let s := s.setBit MEM_NOWN_WRITE r.write
    let s := s.setFld MEM_NOWN_REQ r.req
    let s := s.setFld MEM_NOWN_PEND 1
    (s.setFld MEM_NOWN_COUNT (min n (2 ^ MEM_NOWN_COUNT.len - 1))).setFld MEM_NOWNADDR_OFFSET r.ofs

/-- One overrun bit of MGT_OVRSTAT is set, with the current beat (R27, R29). -/
def State.overrunBit (s : State) (n : Nat) : State :=
  (s.latch ⟨MGT_OVRSTAT, n, 1⟩).setFld MGT_OVRBEAT_BEAT s.beat

/-- TS64 at the last raise of an event that is raised at most once per second. -/
def State.lastRaised (s : State) (key : Nat) : Option Nat :=
  (s.sys.lastRaise.find? (fun p => p.1 == key)).map (·.2)

/-- A second of fabric ticks. -/
def ticksPerSecond : Nat := 491520000

/-- A second has passed since the last raise under a key, or there was none (log entry 8). -/
def State.mayRaise (s : State) (key : Nat) : Bool :=
  match s.lastRaised key with
  | none => true
  | some t => t + ticksPerSecond ≤ s.tim.ts

/-- The raise under a key is noted. -/
def State.noteRaise (s : State) (key : Nat) : State :=
  { s with sys := { s.sys with lastRaise := tabInsert key s.tim.ts (tabErase key s.sys.lastRaise) } }

end Sys2Proof.Machine
end

