-- ==== Sys2Proof/Machine/Events.lean ====
section
/-! DEFINITION. Events, event records and vectors (spec/17 R431 to R435, spec/14 R382). -/

namespace Sys2Proof.Machine

open Sys2Proof.Fields

/-! ### Vectors (R433) -/

/-- Word w of entry v of the MSI-X table, and the pending array (R419). -/
def msixEntry (v w : Nat) : Nat := 0x101000 + 16 * v + 4 * w
def msixPending : Nat := 0x101800

def State.linkUp (s : State) : Bool := s.isSet HST_STAT_LINKUP

/-- The mask bit of a vector. -/
def State.vecMasked (s : State) (v : Nat) : Bool := (s.get (msixEntry v 3)).getLsbD 0

/-- The pending bit of a vector. -/
def State.vecPending (s : State) (v : Nat) : Bool := (s.get msixPending).getLsbD v
def State.setPending (s : State) (v : Nat) (b : Bool) : State := s.setBit ⟨msixPending, v, 1⟩ b

/-- A message of a vector leaves, and its HOLDOFF begins where it has one. -/
def State.sendVector (s : State) (v : Nat) : State :=
  let s := (s.setPending v false).emit (.msix v)
  if s.fld (HST_VECCFG_HOLDOFF v) = 0 then s
  else { s with hst := { s.hst with holdoff := v :: s.hst.holdoff } }

/-- A vector is signalled. Within its HOLDOFF, while it is masked and while the link is down it only becomes
pending (R433, log entry 9). -/
def State.signalVector (s : State) (v : Nat) : State :=
  if s.hst.holdoff.contains v || s.vecMasked v || !s.linkUp then s.setPending v true else s.sendVector v

/-- The express vector is signalled with no holdoff (R434). -/
def State.signalExpress (s : State) (v : Nat) : State :=
  if s.vecMasked v || !s.linkUp then s.setPending v true else (s.setPending v false).emit (.msix v)

/-- A pending vector that may send does so. -/
def State.flushVector (s : State) (v : Nat) : State :=
  if s.vecPending v && !s.hst.holdoff.contains v && !s.vecMasked v && s.linkUp then s.sendVector v else s

/-! ### Core event FIFOs (R382, R431) -/

/-- An entry enters a core's event FIFO of 32 entries, or is dropped and counted. A core that is not out of reset
takes nothing (R431). -/
def State.toCore (s : State) (c id data : Nat) : State :=
  if !s.isCast (0x20 + c) then s
  else if (s.core c).evq.length < 32 then
    s.setCore c { s.core c with evq := (s.core c).evq ++ [(id, data)] }
  else s.count (CHB_CEVQ_LOST c)

/-! ### Events (R431, R432, R435) -/

/-- The routing word of an event ID, and the place of its occurrence count. -/
def routeAddr (id : Nat) : Nat := 0x450000 + 8 * id
def State.route (s : State) (id : Nat) : Word := s.get (routeAddr id)
def routeCount (id : Nat) : Fld := ⟨0x450004 + 8 * id, 0, 32⟩

/-- The cores that a routing word names take the event. -/
def State.routeCores (s : State) (w : Word) (id data : Nat) : State :=
  (List.range 16).foldl (fun s c => if w.getLsbD (16 + c) then s.toCore c id data else s) s

/-- An event is counted and given to the cores its word names. -/
def State.countEvent (s : State) (id data : Nat) : State :=
  (s.count (routeCount id)).routeCores (s.route id) id data

/-- The vector of an event is signalled where its word has VEN. -/
def State.eventVector (s : State) (id : Nat) : State :=
  if (s.route id).getLsbD 5 then s.signalVector (getFld (s.route id) ⟨0, 0, 5⟩) else s

/-- The next SEQ is taken (R432). -/
def State.takeSeq (s : State) : Nat × State :=
  (s.fld HST_EVSEQ_SEQ, s.setFld HST_EVSEQ_SEQ (s.fld HST_EVSEQ_SEQ + 1))

/-- An event record is dropped at a full buffer: it is counted, EVENT-LOSS is raised once in a filling, and the
vector, which no record will follow, is signalled (R432, R435). -/
def State.dropRecord (s : State) (id : Nat) : State :=
  let first := !s.hst.evFull
  let s := s.count HST_ERSTAT_LOST
  let s := { s with hst := { s.hst with evLost := s.hst.evLost + 1, evFull := true } }
  let s := if first then s.countEvent 246 0 else s
  s.eventVector id

/-- The records from one on, each moved one SEQ place back: the last takes the SEQ `n`. -/
def renumber (n : Nat) : List EvRec → List EvRec
  | [] => []
  | [r] => [{ r with seq := n }]
  | r :: q :: rest => { r with seq := q.seq } :: renumber n (q :: rest)

/-- No record in the list stands between two ticks: all are of the tick `ts`, and none is a LOSS record. -/
def sameTick (ts : Nat) (l : List EvRec) : Bool := l.all fun r => r.ts = ts && !r.loss

/-- A record takes its place among the held records: after all of them, but that the records of its own fabric tick
stand in ascending ID order and take the SEQs in that order (R432).
DEDUCED (log entry 48): occurrences of one TS64 are of one fabric tick. -/
def insertRecord (x : EvRec) : List EvRec → List EvRec
  | [] => [x]
  | r :: rest =>
    if sameTick x.ts (r :: rest) ∧ x.id < r.id then { x with seq := r.seq } :: renumber x.seq (r :: rest)
    else r :: insertRecord x rest

/-- A record is generated for an event whose word has RING (R432). -/
def State.generateRecord (s : State) (id data : Nat) : State :=
  let (n, s) := s.takeSeq
  let x : EvRec := ⟨id, false, n, data % 2 ^ 32, s.tim.ts, s.beat⟩
  if s.hst.evBuf.length < 2048 then
    { s with hst := { s.hst with evBuf := if s.tim.run then insertRecord x s.hst.evBuf else s.hst.evBuf ++ [x] } }
  else s.dropRecord id

/-- An event is raised with its data (R431, R432). Event 246 has no record of its own. -/
def State.raise (s : State) (id : Nat) (data : Nat := 0) : State :=
  let s := s.countEvent id data
  if id = 246 then s
  else if (s.route id).getLsbD 6 then s.generateRecord id data
  else s.eventVector id

/-- An event that is raised at most once per second, under a key of its own. -/
def State.raiseLimited (s : State) (key id : Nat) (data : Nat := 0) : State :=
  if s.mayRaise key then (s.noteRaise key).raise id data else s

/-- A place has come free in the record buffer: the LOSS record takes it (R432, R435, R438). -/
def State.queueLoss (s : State) : State :=
  if s.hst.evLost = 0 then { s with hst := { s.hst with evFull := false } }
  else
    let (n, s) := s.takeSeq
    { s with hst := { s.hst with
        evBuf := s.hst.evBuf ++ [⟨246, true, n, s.hst.evLost, s.tim.ts, s.beat⟩], evLost := 0, evFull := false } }

/-- The 32 octets of an event record (R432). -/
def EvRec.octets (r : EvRec) : List Byte :=
  leBytes 4 (r.id + (if r.loss then 256 else 0)) ++ leBytes 4 r.seq ++ leBytes 8 r.data ++ leBytes 8 r.ts
    ++ leBytes 4 r.beat ++ leBytes 4 0

/-- The vector that follows a written record. -/
def State.recordVector (s : State) (r : EvRec) : State := s.eventVector r.id

/-- The event ring's address, its size in bytes, and whether a record can be written (R432, R435). -/
def State.erBase (s : State) : Nat := s.fld HST_ERBASE_HI_ADDR * 2 ^ 32 + s.fld HST_ERBASE_LO_ADDR * 2 ^ 12
def State.erSize (s : State) : Nat := 2 ^ s.fld HST_ERSIZE_LOG2
def State.erReady (s : State) : Bool :=
  s.linkUp && s.isSet HST_ERCTL_EN && (s.fld HST_ERHEAD_PTR + 32) % s.erSize != s.fld HST_ERTAIL_PTR

/-! ### Express records (R434, R435) -/

/-- The 128 octets of an express record (R434). -/
def XRec.octets (r : XRec) : List Byte :=
  leBytes 4 (r.lane + r.tap * 4 + (if r.foreign then 128 else 0) + r.payload.length * 256 + r.cellid * 65536)
    ++ leBytes 4 r.seq ++ leBytes 4 r.recidx ++ leBytes 4 r.fcnt ++ leBytes 8 r.rxTs ++ leBytes 8 r.postTs
    ++ leBytes 4 (r.rssi + if r.again then 256 else 0) ++ List.replicate 28 0
    ++ (r.payload ++ List.replicate 64 0).take 64

/-- An express record is generated: it takes the next SEQ and is held, or dropped at a full buffer of 16. Event 124
is raised by its sender. -/
def State.postExpress (s : State) (r : XRec) : State :=
  let r := { r with seq := s.hst.xSeq, postTs := s.tim.ts }
  let s := { s with hst := { s.hst with xSeq := (s.hst.xSeq + 1) % 2 ^ 32 } }
  if s.hst.xBuf.length < 16 then { s with hst := { s.hst with xBuf := s.hst.xBuf ++ [r] } }
  else (s.count HST_XRLOST_COUNT).raise 247

def State.xrBase (s : State) : Nat := s.fld HST_XRBASE_HI_ADDR * 2 ^ 32 + s.fld HST_XRBASE_LO_ADDR * 2 ^ 12
def State.xrSize (s : State) : Nat := 2 ^ s.fld HST_XRSIZE_LOG2
def State.xrReady (s : State) : Bool :=
  s.linkUp && s.isSet HST_XRCTL_EN && (s.fld HST_XRHEAD_PTR + 128) % s.xrSize != s.fld HST_XRTAIL_PTR

end Sys2Proof.Machine
end

