-- ==== Sys2Proof/Machine/Banks.lean ====
section
/-! DEFINITION. The memory banks: octets, SECDED, ownership, non-owner accesses and the scrubber (spec/16 R399 to R408,
spec/01 R34). An address is bank × 256 KiB + offset. -/

namespace Sys2Proof.Machine

open Sys2Proof.Fields

def bankSize : Nat := 0x40000
def bankCount : Nat := 192

/-- The owner codes of GNC, FWD, SEC and HST (R35). -/
def ownGnc : Nat := 1
def ownFwd : Nat := 5
def ownSec : Nat := 6
def ownHst : Nat := 8

/-! ### Octets -/

/-- The octet at an address. An octet that nothing has written reads 0 (log entry 2). -/
def State.cell (s : State) (a : Nat) : Byte := tabGet 0#8 s.mem.cells a

/-- Octets from an address on, whatever their owner. -/
def State.cells (s : State) (a n : Nat) : List Byte := (List.range n).map (fun i => s.cell (a + i))

/-- Octets from an address on as cells, without those that are zero. -/
def blockCells : Nat → List Byte → List Host.Cell
  | _, [] => []
  | a, b :: r => if b = 0#8 then blockCells (a + 1) r else (a, b) :: blockCells (a + 1) r

/-- The memory with a block of octets in place of what stood there. -/
def putBlock (m : List Host.Cell) (a : Nat) (bs : List Byte) : List Host.Cell :=
  m.filter (fun c => decide (c.1 < a)) ++ blockCells a bs ++ m.filter (fun c => decide (a + bs.length ≤ c.1))

/-- The state with a block of octets stored. -/
def State.storeBlock (s : State) (a : Nat) (bs : List Byte) : State :=
  { s with mem := { s.mem with cells := putBlock s.mem.cells a bs } }

/-! ### SECDED (R399, R400) -/

/-- The inverted bits of a stored 64-bit word, data bits 0 to 63 and check bits 64 to 71. -/
def State.eccMask (s : State) (w : Nat) : Nat := tabGet 0 s.mem.ecc w
def State.setEcc (s : State) (w m : Nat) : State := { s with mem := { s.mem with ecc := tabSet 0 w m s.mem.ecc } }

/-- How many of the 72 bits are inverted. -/
def eccWeight (m : Nat) : Nat := ((List.range 72).filter (fun i => m.testBit i)).length

/-- A corrected error is counted; ECC-CORR at most once per second (R400, R418). -/
def State.countCe (s : State) (w : Nat) : State :=
  ((s.count MEM_CECNT_COUNT).count (MEM_BANK_STAT_CE (w / 32768))).raiseLimited 233 233

/-- An uncorrectable error is counted and captured, and ECC-UNCORR raised (R400). -/
def State.countUe (s : State) (w owner : Nat) (scrub : Bool) : State :=
  let s := (s.count MEM_UECNT_COUNT).count (MEM_BANK_STAT_UE (w / 32768))
  let s := s.setFld MEM_UEADDR_BANK (w / 32768)
  let s := s.setFld MEM_UEADDR_OWNER owner
  let s := s.setBit MEM_UEADDR_SCRUB scrub
  (s.setFld MEM_UEADDR_WORD (w % 32768)).raise 234

/-- A read of one stored word: whether it can be corrected, with what the read counts. -/
def State.readWord (s : State) (owner : Nat) (scrub : Bool) (w : Nat) : Bool × State :=
  match eccWeight (s.eccMask w) with
  | 0 => (true, s)
  | 1 => (true, s.countCe w)
  | _ => (false, s.countUe w owner scrub)

/-- The 64-bit words that n octets from an address touch. -/
def wordsOf (a n : Nat) : List Nat := if n = 0 then [] else (List.range ((a + n - 1) / 8 - a / 8 + 1)).map (· + a / 8)

/-- Words are read in order; false where one of them cannot be corrected. -/
def State.readWords (s : State) (owner : Nat) : List Nat → Bool × State
  | [] => (true, s)
  | w :: r =>
    let (ok, s) := s.readWord owner false w
    let (ok', s) := s.readWords owner r
    (ok && ok', s)

/-- The stored words of n octets from an address that hold inverted bits, rising. -/
def State.badWords (s : State) (a n : Nat) : List Nat :=
  (s.mem.ecc.map (·.1)).filter (fun w => decide (a / 8 ≤ w) && decide (8 * w < a + n))

/-- A station reads a long run of octets: whether every word can be corrected, with what the read counts (R400). -/
def State.readSpan (s : State) (owner a n : Nat) : Bool × State := s.readWords owner (s.badWords a n)

/-- A word of n octets from an address cannot be corrected. -/
def State.spoiled (s : State) (a n : Nat) : Bool := (s.badWords a n).any (fun w => decide (2 ≤ eccWeight (s.eccMask w)))

/-- The injection of MEM_ECCINJ meets a 64-bit write to its bank: the word is stored with the named bits inverted. -/
def State.inject (s : State) (w : Nat) : State :=
  if s.isSet MEM_ECCINJ_ARM && s.fld MEM_ECCINJ_BANK == w / 32768 then
    let bit n := if n < 72 then 2 ^ n else 0
    (s.setEcc w (bit (s.fld MEM_ECCINJ_BIT0) ||| bit (s.fld MEM_ECCINJ_BIT1))).setFld MEM_ECCINJ_ARM 0
  else s

/-- A write reaches one stored word. A whole word clears its error; a part of a word merges with the corrected old
word, or is dropped where the old word cannot be corrected (R400). -/
def State.writeWord (s : State) (owner : Nat) (a : Nat) (bs : List Byte) (w : Nat) : State :=
  let lo := max a (8 * w)
  let hi := min (a + bs.length) (8 * w + 8)
  let part := (bs.drop (lo - a)).take (hi - lo)
  if hi - lo = 8 then ((s.storeBlock lo part).setEcc w 0).inject w
  else
    let (ok, s) := s.readWord owner false w
    if ok then (s.storeBlock lo part).setEcc w 0 else s

/-! ### Ownership (R403, R404, R406) -/

def State.owner (s : State) (b : Nat) : Nat := s.fld (MEM_BANK_OWN_OWNER b)
def State.fenced (s : State) (b : Nat) : Bool := s.isSet (MEM_BANK_OWN_FENCED b)

/-- The new owner of a bank whose handover is pending. -/
def State.newOwner (s : State) (b : Nat) : Option Nat := (s.mem.handover.find? (fun p => p.1 == b)).map (·.2)

/-- An owner may access a bank. While a handover is pending the old owner may not, and the new owner's accesses wait
and are served (R404). -/
def State.mayAccess (s : State) (owner b : Nat) : Bool :=
  decide (b < bankCount) && !s.fenced b &&
    (match s.newOwner b with
     | some o => owner == o
     | none => owner == s.owner b)

/-- A non-owner access is captured and counted, and NONOWNER raised (R406). -/
def State.nonOwner (s : State) (owner b off : Nat) (write : Bool) : State :=
  let x : NownIn := ⟨b, write, owner, off⟩
  let t := s.now
  let pend := s.isSet MEM_NOWN_PEND
  let s := if pend then s.count MEM_NOWN_COUNT else s.captureNown [x] 1
  { s with tick := { t with nowns := t.nowns ++ [x], nownNew := t.nownNew || !pend } }.raise 232

/-- A write of 1 to MEM_NOWN.PEND: COUNT starts anew, and accesses of the same tick are captured afresh (R5, R406). -/
def State.clearNown (s : State) : State :=
  let t := s.now
  let s := (s.setFld MEM_NOWN_PEND 0).setFld MEM_NOWN_COUNT 0
  if t.nowns = [] then s else { s.captureNown t.nowns t.nowns.length with tick := { t with nownNew := true } }

/-- The banks that n octets from an address touch. -/
def banksOf (a n : Nat) : List Nat :=
  if n = 0 then [] else (List.range ((a + n - 1) / bankSize - a / bankSize + 1)).map (· + a / bankSize)

/-- The first bank of an access that refuses it. -/
def State.firstRefused (s : State) (owner a n : Nat) : Option Nat :=
  (banksOf a n).find? (fun b => !s.mayAccess owner b)

/-- How a bank access ends. -/
inductive BankRes where
  | ok (bs : List Byte)
  | refused
  | uncorrectable
  deriving DecidableEq, Repr

/-- A read of n octets by an owner (R34, R400, R406). -/
def State.bankRead (s : State) (owner a n : Nat) : BankRes × State :=
  match s.firstRefused owner a n with
  | some b => (.refused, s.nonOwner owner b (if b * bankSize ≤ a then a % bankSize else 0) false)
  | none =>
    let (ok, s) := s.readWords owner (wordsOf a n)
    (if ok then .ok (s.cells a n) else .uncorrectable, s)

/-- A write of octets by an owner: whether the owner check let it pass (R34, R400, R406). -/
def State.bankWrite (s : State) (owner a : Nat) (bs : List Byte) : Bool × State :=
  match s.firstRefused owner a bs.length with
  | some b => (false, s.nonOwner owner b (if b * bankSize ≤ a then a % bankSize else 0) true)
  | none => (true, (wordsOf a bs.length).foldl (fun s w => s.writeWord owner a bs w) s)

/-- The octets of a successful read. -/
def BankRes.bytes? : BankRes → Option (List Byte)
  | .ok bs => some bs
  | _ => none

/-! ### Handover, fencing, scrubbing -/

/-- A handover of a bank starts (R404). -/
def State.startHandover (s : State) (b o : Nat) : State :=
  let s := s.setFld (MEM_BANK_OWN_PENDING b) 1
  { s with mem := { s.mem with handover := tabInsert b o (tabErase b s.mem.handover) } }

/-- A pending handover of a bank ends (R404). -/
def State.endHandover (s : State) (b : Nat) : State :=
  match s.newOwner b with
  | none => s
  | some o =>
    let s := { s with mem := { s.mem with handover := tabErase b s.mem.handover } }
    ((s.setFld (MEM_BANK_OWN_PENDING b) 0).setFld (MEM_BANK_OWN_OWNER b) o).raise 235 b

/-- A bank is fenced (R402). -/
def State.fence (s : State) (b : Nat) : State := (s.setFld (MEM_BANK_OWN_FENCED b) 1).raise 236

/-- The first word from a position on that lies in no fenced bank, over at most n banks. -/
def State.nextScrub (s : State) : Nat → Nat → Option Nat
  | 0, _ => none
  | n + 1, p =>
    if p ≥ bankCount * 32768 then none
    else if s.fenced (p / 32768) then s.nextScrub n ((p / 32768 + 1) * 32768) else some p

/-- One visit of the scrubber (R401): a word is read, repaired, and the pass counted when it ends. -/
def State.scrubVisit (s : State) : State :=
  match s.nextScrub 193 s.mem.scrub with
  | none => { s with mem := { s.mem with scrub := 0 } }
  | some w =>
    let (ok, s) := s.readWord 0x1F true w
    let s := if ok then s.setEcc w 0 else s
    match s.nextScrub 193 (w + 1) with
    | some p => { s with mem := { s.mem with scrub := p } }
    | none => ({ s with mem := { s.mem with scrub := 0 } }.count MEM_STAT_PASSES).raise 237

/-! ### Copies between units -/

/-- A frame buffer: bank, offset in units of 8 octets. -/
def bufAddr (bank bofs : Nat) : Nat := bank * bankSize + 8 * bofs

end Sys2Proof.Machine
end

