-- ==== Sys2Proof/Machine/Crypto.lean ====
section
/-! DEFINITION. The check sums, hashes, ciphers and curve arithmetic that the spec names by their standards: the CRC-32
of R41, SHA-256 and HMAC (FIPS 180, RFC 2104), AES-128 (FIPS 197) with the key wrap of RFC 3394 and the CCM* of IEEE
802.15.4, and ECDSA and ECDH over P-256 (FIPS 186). The standards are not part of the spec (log entry 7). -/

namespace Sys2Proof.Machine

/-! ### CRC-32 (R41) -/

/-- One bit of the reflected division. -/
def crcBit (c : Nat) : Nat := if c % 2 = 1 then (c / 2) ^^^ 0xEDB88320 else c / 2

/-- One octet. -/
def crcByte (c : Nat) (b : Byte) : Nat :=
  crcBit (crcBit (crcBit (crcBit (crcBit (crcBit (crcBit (crcBit (c ^^^ b.toNat))))))))

/-- The CRC-32 of a string of octets (R41). -/
def crc32 (bs : List Byte) : Nat := bs.foldl crcByte 0xFFFFFFFF ^^^ 0xFFFFFFFF

/-! ### SHA-256 -/

def m32 (n : Nat) : Nat := n % 4294967296
def rotr32 (x n : Nat) : Nat := (x >>> n) ||| m32 (x <<< (32 - n))

/-- The round constants. -/
def shaK : List Nat :=
  [0x428a2f98, 0x71374491, 0xb5c0fbcf, 0xe9b5dba5, 0x3956c25b, 0x59f111f1, 0x923f82a4, 0xab1c5ed5] ++
  [0xd807aa98, 0x12835b01, 0x243185be, 0x550c7dc3, 0x72be5d74, 0x80deb1fe, 0x9bdc06a7, 0xc19bf174] ++
  [0xe49b69c1, 0xefbe4786, 0x0fc19dc6, 0x240ca1cc, 0x2de92c6f, 0x4a7484aa, 0x5cb0a9dc, 0x76f988da] ++
  [0x983e5152, 0xa831c66d, 0xb00327c8, 0xbf597fc7, 0xc6e00bf3, 0xd5a79147, 0x06ca6351, 0x14292967] ++
  [0x27b70a85, 0x2e1b2138, 0x4d2c6dfc, 0x53380d13, 0x650a7354, 0x766a0abb, 0x81c2c92e, 0x92722c85] ++
  [0xa2bfe8a1, 0xa81a664b, 0xc24b8b70, 0xc76c51a3, 0xd192e819, 0xd6990624, 0xf40e3585, 0x106aa070] ++
  [0x19a4c116, 0x1e376c08, 0x2748774c, 0x34b0bcb5, 0x391c0cb3, 0x4ed8aa4a, 0x5b9cca4f, 0x682e6ff3] ++
  [0x748f82ee, 0x78a5636f, 0x84c87814, 0x8cc70208, 0x90befffa, 0xa4506ceb, 0xbef9a3f7, 0xc67178f2]

/-- The number that octets spell, the first octet most significant. -/
def beNat (bs : List Byte) : Nat := bs.foldl (fun a b => a * 256 + b.toNat) 0

/-- The low n octets of a number, the most significant first. -/
def beBytes (n v : Nat) : List Byte := (leBytes n v).reverse

/-- The padded message. -/
def shaPad (m : List Byte) : List Byte :=
  m ++ [0x80#8] ++ List.replicate ((119 - m.length % 64) % 64) 0#8 ++ beBytes 8 (8 * m.length)

/-- The 48 further words of the message schedule, newest first. -/
def shaExtend : Nat → List Nat → List Nat
  | 0, w => w
  | n + 1, w =>
    let a := w.getD 14 0
    let b := w.getD 1 0
    let s0 := rotr32 a 7 ^^^ rotr32 a 18 ^^^ (a >>> 3)
    let s1 := rotr32 b 17 ^^^ rotr32 b 19 ^^^ (b >>> 10)
    shaExtend n (m32 (w.getD 15 0 + s0 + w.getD 6 0 + s1) :: w)

/-- One round on the eight working words. -/
def shaRound (h : List Nat) (kw : Nat × Nat) : List Nat :=
  match h with
  | [a, b, c, d, e, f, g, x] =>
    let t1 := x + (rotr32 e 6 ^^^ rotr32 e 11 ^^^ rotr32 e 25) + ((e &&& f) ^^^ ((0xFFFFFFFF ^^^ e) &&& g)) + kw.1 + kw.2
    let t2 := (rotr32 a 2 ^^^ rotr32 a 13 ^^^ rotr32 a 22) + ((a &&& b) ^^^ (a &&& c) ^^^ (b &&& c))
    [m32 (t1 + t2), a, b, c, m32 (d + t1), e, f, g]
  | _ => h

/-- A block of 64 octets is taken into the hash. -/
def shaBlock (h : List Nat) (blk : List Byte) : List Nat :=
  let w := (List.range 16).map (fun i => beNat ((blk.drop (4 * i)).take 4))
  let ws := (shaExtend 48 w.reverse).reverse
  List.zipWith (fun a b => m32 (a + b)) h ((shaK.zip ws).foldl shaRound h)

def shaBlocks : Nat → List Nat → List Byte → List Nat
  | 0, h, _ => h
  | n + 1, h, bs => shaBlocks n (shaBlock h (bs.take 64)) (bs.drop 64)

def shaInit : List Nat :=
  [0x6a09e667, 0xbb67ae85, 0x3c6ef372, 0xa54ff53a, 0x510e527f, 0x9b05688c, 0x1f83d9ab, 0x5be0cd19]

/-- SHA-256: 32 octets. -/
def sha256 (m : List Byte) : List Byte :=
  let p := shaPad m
  (shaBlocks (p.length / 64) shaInit p).flatMap (beBytes 4)

/-- HMAC-SHA-256. -/
def hmacSha256 (key m : List Byte) : List Byte :=
  let k := if key.length > 64 then sha256 key else key
  let k := k ++ List.replicate (64 - k.length) 0#8
  sha256 (k.map (· ^^^ 0x5C#8) ++ sha256 (k.map (· ^^^ 0x36#8) ++ m))

/-- The octets of an ASCII label. -/
def ascii (t : String) : List Byte := t.toList.map (fun c => BitVec.ofNat 8 c.toNat)

/-! ### AES-128 -/

/-- The S-box and its inverse, entry x in bits [8x+7:8x]. -/
def aesSbox : Nat :=
  0x16bb54b00f2d99416842e6bf0d89a18cdf2855cee9871e9b948ed9691198f8e19e1dc186b95735610ef6034866b53e708a8bbd4b1f74dde8c6b4a61c2e2578ba08ae7a65eaf4566ca94ed58d6d37c8e779e4959162acd3c25c2406490a3a32e0db0b5ede14b8ee4688902a22dc4f816073195d643d7ea7c41744975fec130ccdd2f3ff1021dab6bcf5389d928f40a351a89f3c507f02f94585334d43fbaaefd0cf584c4a39becb6a5bb1fc20ed00d153842fe329b3d63b52a05a6e1b1a2c830975b227ebe28012079a059618c323c7041531d871f1e5a534ccf73f362693fdb7c072a49cafa2d4adf04759fa7dc982ca76abd7fe2b670130c56f6bf27b777c63
def aesInvSbox : Nat :=
  0x7d0c2155631469e126d677ba7e042b17619953833cbbebc8b0f52aae4d3be0a0ef9cc9939f7ae52d0d4ab519a97f51605fec8027591012b131c7078833a8dd1ff45acd78fec0db9a2079d2c64b3e56fc1bbe18aa0e62b76f89c5291d711af1476edf751ce837f9e28535ade72274ac9673e6b4f0cecff297eadc674f4111913a6b8a130103bdafc1020f3fca8f1e2cd00645b3b80558e4f70ad3bc8c00abd890849d8da75746155edab9edfd5048706c92b6655dcc5ca4d41698688664f6f87225d18b6d49a25b76b224d92866a12e084ec3fa420b954cee3d23c2a632947b54cbe9dec444438e3487ff2f9b8239e37cfbd7f3819ea340bf38a53630d56a0952

def aesSub (t : Nat) (x : Byte) : Byte := BitVec.ofNat 8 (t >>> (8 * x.toNat))

/-- Doubling in the AES field. -/
def xtime (x : Byte) : Byte := (x <<< 1) ^^^ (if x.getLsbD 7 then 0x1B#8 else 0#8)

/-- The product with a small constant. -/
def aesMul (c : Nat) (x : Byte) : Byte :=
  let x2 := xtime x
  let x4 := xtime x2
  let x8 := xtime x4
  (if c % 2 = 1 then x else 0) ^^^ (if c / 2 % 2 = 1 then x2 else 0) ^^^ (if c / 4 % 2 = 1 then x4 else 0)
    ^^^ (if c / 8 % 2 = 1 then x8 else 0)

def xorBytes (a b : List Byte) : List Byte := List.zipWith (· ^^^ ·) a b

/-- The next round key from a round key of 16 octets. -/
def aesNextKey (k : List Byte) (rcon : Byte) : List Byte :=
  let g i := k.getD i 0#8
  let t := [aesSub aesSbox (g 13) ^^^ rcon, aesSub aesSbox (g 14), aesSub aesSbox (g 15), aesSub aesSbox (g 12)]
  let w0 := xorBytes (k.take 4) t
  let w1 := xorBytes ((k.drop 4).take 4) w0
  let w2 := xorBytes ((k.drop 8).take 4) w1
  let w3 := xorBytes ((k.drop 12).take 4) w2
  w0 ++ w1 ++ w2 ++ w3

def aesKeys : Nat → Byte → List Byte → List (List Byte)
  | 0, _, k => [k]
  | n + 1, r, k => k :: aesKeys n (xtime r) (aesNextKey k r)

/-- The eleven round keys. -/
def aesSchedule (key : List Byte) : List (List Byte) := aesKeys 10 1#8 key

def shiftRows (s : List Byte) : List Byte := (List.range 16).map (fun i => s.getD ((i + 4 * (i % 4)) % 16) 0#8)
def invShiftRows (s : List Byte) : List Byte := (List.range 16).map (fun i => s.getD ((i + 12 * (i % 4)) % 16) 0#8)

/-- One column times a circulant matrix of four constants. -/
def mixCol (c0 c1 c2 c3 : Nat) (s : List Byte) : List Byte :=
  (List.range 16).map (fun i =>
    let g k := s.getD (4 * (i / 4) + (i + k) % 4) 0#8
    aesMul c0 (g 0) ^^^ aesMul c1 (g 1) ^^^ aesMul c2 (g 2) ^^^ aesMul c3 (g 3))

/-- AES-128 encryption of a block. -/
def aesEnc (key blk : List Byte) : List Byte :=
  match aesSchedule key with
  | k0 :: ks =>
    let s := xorBytes blk k0
    let s := (ks.take 9).foldl (fun s k => xorBytes (mixCol 2 3 1 1 (shiftRows (s.map (aesSub aesSbox)))) k) s
    xorBytes (shiftRows (s.map (aesSub aesSbox))) (ks.getD 9 [])
  | [] => blk

/-- AES-128 decryption of a block. -/
def aesDec (key blk : List Byte) : List Byte :=
  match (aesSchedule key).reverse with
  | k10 :: ks =>
    let s := (invShiftRows (xorBytes blk k10)).map (aesSub aesInvSbox)
    let s := (ks.take 9).foldl (fun s k =>
      (invShiftRows (mixCol 14 11 13 9 (xorBytes s k))).map (aesSub aesInvSbox)) s
    xorBytes s (ks.getD 9 [])
  | [] => blk

/-! ### Key wrap (RFC 3394) of a 16-octet key -/

def wrapIv : List Byte := List.replicate 8 0xA6#8

/-- One step of wrapping, t from 1 to 12, on the check value and the two halves. -/
def wrapStep (kek : List Byte) (x : List Byte × List Byte × List Byte) (t : Nat) : List Byte × List Byte × List Byte :=
  let (a, r1, r2) := x
  let b := aesEnc kek (a ++ if t % 2 = 1 then r1 else r2)
  let a := xorBytes (b.take 8) (beBytes 8 t)
  if t % 2 = 1 then (a, b.drop 8, r2) else (a, r1, b.drop 8)

def unwrapStep (kek : List Byte) (x : List Byte × List Byte × List Byte) (t : Nat) : List Byte × List Byte × List Byte :=
  let (a, r1, r2) := x
  let b := aesDec kek (xorBytes a (beBytes 8 t) ++ if t % 2 = 1 then r1 else r2)
  if t % 2 = 1 then (b.take 8, b.drop 8, r2) else (b.take 8, r1, b.drop 8)

def wrapTimes : List Nat := [1, 2, 3, 4, 5, 6, 7, 8, 9, 10, 11, 12]

/-- 24 octets for a 16-octet key. -/
def keyWrap (kek key : List Byte) : List Byte :=
  let (a, r1, r2) := wrapTimes.foldl (wrapStep kek) (wrapIv, key.take 8, key.drop 8)
  a ++ r1 ++ r2

/-- The key, where the integrity check passes. -/
def keyUnwrap (kek w : List Byte) : Option (List Byte) :=
  let (a, r1, r2) := wrapTimes.reverse.foldl (unwrapStep kek) (w.take 8, (w.drop 8).take 8, (w.drop 16).take 8)
  if a = wrapIv then some (r1 ++ r2) else none

/-! ### CCM* with a 2-octet length field and an 8-octet MIC (R296) -/

def zeroPad16 (m : List Byte) : List Byte := m ++ List.replicate ((16 - m.length % 16) % 16) 0#8

def cbcMac (key : List Byte) : Nat → List Byte → List Byte → List Byte
  | 0, x, _ => x
  | n + 1, x, m => cbcMac key n (aesEnc key (xorBytes x (m.take 16))) (m.drop 16)

/-- A text encrypted, or decrypted, in counter mode, from block number i. -/
def ccmCtr (key nonce : List Byte) : Nat → Nat → List Byte → List Byte
  | 0, _, _ => []
  | n + 1, i, m =>
    xorBytes (m.take 16) (aesEnc key ([1#8] ++ nonce ++ beBytes 2 i)) ++ ccmCtr key nonce n (i + 1) (m.drop 16)

/-- A whole text, encrypted or decrypted (CTR mode is its own inverse). -/
def ccmCrypt (key nonce m : List Byte) : List Byte := ccmCtr key nonce ((m.length + 15) / 16) 1 m

/-- The 8-octet MIC over authenticated octets and a plaintext. -/
def ccmMic (key nonce aad pt : List Byte) : List Byte :=
  let b0 := [if aad.length = 0 then 0x19#8 else 0x59#8] ++ nonce ++ beBytes 2 pt.length
  let a := if aad.length = 0 then [] else zeroPad16 (beBytes 2 aad.length ++ aad)
  let m := b0 ++ a ++ zeroPad16 pt
  let t := cbcMac key (m.length / 16) (List.replicate 16 0#8) m
  xorBytes (t.take 8) (aesEnc key ([1#8] ++ nonce ++ [0#8, 0#8]))

/-! ### P-256 -/

def p256p : Nat := 0xFFFFFFFF00000001000000000000000000000000FFFFFFFFFFFFFFFFFFFFFFFF
def p256n : Nat := 0xFFFFFFFF00000000FFFFFFFFFFFFFFFFBCE6FAADA7179E84F3B9CAC2FC632551
def p256b : Nat := 0x5AC635D8AA3A93E7B3EBBD55769886BC651D06B0CC53B0F63BCE3C3E27D2604B
def p256gx : Nat := 0x6B17D1F2E12C4247F8BCE6E563A440F277037D812DEB33A0F4A13945D898C296
def p256gy : Nat := 0x4FE342E2FE1A7F9B8EE7EB4A7C0F9E162BCE33576B315ECECBB6406837BF51F5

/-- b to the power e modulo m, over the lowest n bits of e. -/
def powMod (m : Nat) : Nat → Nat → Nat → Nat
  | 0, _, _ => 1
  | n + 1, b, e => (if e % 2 = 1 then b else 1) * powMod m n (b * b % m) (e / 2) % m

def invMod (m a : Nat) : Nat := powMod m 256 (a % m) (m - 2)

/-- A point of the curve; none is the point at infinity. -/
abbrev EcPoint := Option (Nat × Nat)

def onCurve (x y : Nat) : Bool :=
  decide (x < p256p) && decide (y < p256p) &&
    decide (y * y % p256p = (x * x * x + (p256p - 3) * x + p256b) % p256p)

/-- The sum of two points of the curve. -/
def ecAdd (p q : EcPoint) : EcPoint :=
  match p, q with
  | none, q => q
  | p, none => p
  | some (x1, y1), some (x2, y2) =>
    if x1 = x2 ∧ (y1 + y2) % p256p = 0 then none
    else
      let l := if x1 = x2 then (3 * x1 * x1 + (p256p - 3)) * invMod p256p (2 * y1) % p256p
        else (y2 + (p256p - y1)) * invMod p256p (x2 + (p256p - x1)) % p256p
      let x := (l * l + (p256p - x1) + (p256p - x2)) % p256p
      some (x, (l * (x1 + (p256p - x)) + (p256p - y1)) % p256p)

/-- k times a point, over the lowest n bits of k. -/
def ecMul : Nat → Nat → EcPoint → EcPoint
  | 0, _, _ => none
  | n + 1, k, p => ecAdd (if k % 2 = 1 then p else none) (ecMul n (k / 2) (ecAdd p p))

/-- ECDSA verification of a 32-octet digest under a public key; r, s, X and Y big-endian. -/
def ecdsaVerify (x y r s : Nat) (digest : List Byte) : Bool :=
  if r = 0 ∨ r ≥ p256n ∨ s = 0 ∨ s ≥ p256n ∨ !onCurve x y then false
  else
    let w := invMod p256n s
    match ecAdd (ecMul 256 (beNat digest * w % p256n) (some (p256gx, p256gy)))
        (ecMul 256 (r * w % p256n) (some (x, y))) with
    | none => false
    | some (v, _) => v % p256n = r

/-- The X coordinate of k times a point, 32 octets. -/
def ecdhX (k x y : Nat) : List Byte :=
  match ecMul 256 k (some (x, y)) with
  | none => List.replicate 32 0#8
  | some (v, _) => beBytes 32 v

end Sys2Proof.Machine
end

