-- ==== Sys2Proof/Machine/Nodes.lean ====
section
/-! DEFINITION. Node records (spec/08 R227, spec/11 R304): their fields, and reads and writes of them. -/

namespace Sys2Proof.Machine

open Sys2Proof.Fields

/-! ### Fields; the address is the byte within the record -/

def NR_EUI_LO : Fld := ⟨0x00, 0, 32⟩
def NR_EUI_HI : Fld := ⟨0x04, 0, 32⟩
def NR_SHORT : Fld := ⟨0x08, 0, 16⟩
def NR_STATE : Fld := ⟨0x08, 16, 3⟩
def NR_ROUTER : Fld := ⟨0x08, 24, 1⟩
def NR_SENTNODE : Fld := ⟨0x08, 25, 1⟩
def NR_DCLASS : Fld := ⟨0x0C, 0, 3⟩
def NR_MISSCNT : Fld := ⟨0x0C, 8, 8⟩
def NR_ADRIFTSF : Fld := ⟨0x0C, 16, 2⟩
def NR_LASTRX_LO : Fld := ⟨0x10, 0, 32⟩
def NR_LASTRX_HI : Fld := ⟨0x14, 0, 32⟩
def NR_ACCCTR : Fld := ⟨0x18, 0, 32⟩
def NR_PENDCTR : Fld := ⟨0x1C, 0, 32⟩
def NR_UPPER : Fld := ⟨0x20, 0, 16⟩
def NR_UPPHASE : Fld := ⟨0x20, 16, 16⟩
def NR_LANE : Fld := ⟨0x24, 0, 2⟩
def NR_CH : Fld := ⟨0x24, 2, 6⟩
def NR_TAP : Fld := ⟨0x24, 8, 5⟩
def NR_PARENT : Fld := ⟨0x24, 16, 16⟩
def NR_STAP : Fld := ⟨0x28, 0, 5⟩
def NR_SPER : Fld := ⟨0x28, 8, 8⟩
def NR_SPHASE : Fld := ⟨0x28, 16, 8⟩
def NR_HOPS : Fld := ⟨0x2C, 0, 3⟩
def NR_DNCTR : Fld := ⟨0x60, 0, 32⟩
def NR_JOINCTR : Fld := ⟨0x64, 0, 32⟩
def NR_JKV : Fld := ⟨0x68, 0, 1⟩
def NR_SKV : Fld := ⟨0x68, 1, 1⟩
def NR_PEND : Fld := ⟨0x68, 2, 1⟩
def NR_GRACE : Fld := ⟨0x68, 3, 1⟩
def NR_JRREP : Fld := ⟨0x68, 4, 1⟩
def NR_JRUSED : Fld := ⟨0x68, 5, 1⟩
def NR_KGEN : Fld := ⟨0x68, 8, 8⟩
def NR_NNONCE : Fld := ⟨0x6C, 0, 32⟩
def NR_PSTATE : Fld := ⟨0x70, 0, 3⟩
def NR_CAMP : Fld := ⟨0x70, 4, 2⟩
def NR_RXSYM : Fld := ⟨0x74, 0, 24⟩
def NR_FWVER : Fld := ⟨0x78, 0, 32⟩

/-! ### States of a node (R227) -/

def nodeFree : Nat := 0
def nodeProvisioned : Nat := 1
def nodeActive : Nat := 2
def nodeAdrift : Nat := 3
def nodeLost : Nat := 4

/-! ### Access -/

/-- A number put into a rising list without repeats. -/
def insertNat (n : Nat) : List Nat → List Nat
  | [] => [n]
  | k :: r => if n < k then n :: k :: r else if n = k then k :: r else k :: insertNat n r

def State.nodeWord (s : State) (i w : Nat) : Word := tabGet 0 s.nodes (i * 32 + w)

/-- A word of a record changes, and the record is due for an ingot (R414). -/
def State.setNodeWord (s : State) (i w : Nat) (v : Word) : State :=
  { s with nodes := tabSet 0 (i * 32 + w) v s.nodes
           cru := { s.cru with changed := insertNat i s.cru.changed } }

def State.nr (s : State) (i : Nat) (f : Fld) : Nat := getFld (s.nodeWord i (f.addr / 4)) f
def State.setNr (s : State) (i : Nat) (f : Fld) (v : Nat) : State :=
  s.setNodeWord i (f.addr / 4) (putFld (s.nodeWord i (f.addr / 4)) f v)

def State.nodeState (s : State) (i : Nat) : Nat := s.nr i NR_STATE

/-- EUI-64 and LASTRX. -/
def State.eui (s : State) (i : Nat) : Nat := s.nr i NR_EUI_HI * 2 ^ 32 + s.nr i NR_EUI_LO
def State.lastRx (s : State) (i : Nat) : Nat := s.nr i NR_LASTRX_HI * 2 ^ 32 + s.nr i NR_LASTRX_LO
def State.setLastRx (s : State) (i t : Nat) : State :=
  (s.setNr i NR_LASTRX_LO t).setNr i NR_LASTRX_HI (t / 2 ^ 32)

/-- The 16 octets of the join key (word 16) and of the session key (word 20) of a record (R304). An active device of a
standby pair mirrors a changed key (R332). -/
def State.nodeKey (s : State) (i w : Nat) : List Byte :=
  (List.range 4).flatMap (fun k => leBytes 4 (s.nodeWord i (w + k)).toNat)
def State.setNodeKey (s : State) (i w : Nat) (key : List Byte) : State :=
  let s := if s.fld PLK_SBSTAT_ROLE = 1 then { s with plk := { s.plk with rekeyed := insertNat i s.plk.rekeyed } } else s
  (List.range 4).foldl (fun s k => s.setNodeWord i (w + k) (BitVec.ofNat 32 (ofLeBytes ((key.drop (4 * k)).take 4)))) s
def State.joinKey (s : State) (i : Nat) : List Byte := s.nodeKey i 16
def State.sessKey (s : State) (i : Nat) : List Byte := s.nodeKey i 20

/-- A record is due for the next MIRROR of the active device of a standby pair (R332). -/
def State.noteMirror (s : State) (i : Nat) : State :=
  if s.fld PLK_SBSTAT_ROLE = 1 then { s with plk := { s.plk with changed := insertNat i s.plk.changed } } else s

/-- Numbers of a list with repeats next to each other removed. -/
def dedupAdj : List Nat → List Nat
  | [] => []
  | [a] => [a]
  | a :: b :: r => if a = b then dedupAdj (b :: r) else a :: dedupAdj (b :: r)

/-- The records that hold a word other than 0, in ascending order. -/
def State.records (s : State) : List Nat := dedupAdj (s.nodes.map (fun p => p.1 / 32))

/-- How many records are in a state (MAC_NACTIVE, MAC_NADRIFT, MAC_NLOST). -/
def State.countState (s : State) (st : Nat) : Nat := (s.records.filter (fun i => s.nodeState i == st)).length

/-- How many records have a campaign and one of some progress states (R315). -/
def State.countProgress (s : State) (k : Nat) (ps : List Nat) : Nat :=
  (s.records.filter (fun i => s.nr i NR_CAMP == k && ps.contains (s.nr i NR_PSTATE))).length

/-- The record of a short address among records that are not FREE. -/
def State.byShort (s : State) (a : Nat) : Option Nat :=
  s.records.find? (fun i => s.nodeState i != nodeFree && s.nr i NR_SHORT == a)

/-- A read of a record word: the key octets read 0 (R304). -/
def State.readNodeWord (s : State) (i w : Nat) : Word := if 16 ≤ w ∧ w < 24 then 0 else s.nodeWord i w

/-! ### The coordinator's serial and its octets -/

/-- MGT_UID, UID_HI then UID_LO, the most significant octet first (log entry 7). -/
def uidBytes : List Byte := beBytes 8 Config.uid.toNat

/-- Slot 0 of the key store: the Crucible wrap key (R302). -/
def wrapKey : List Byte := (hmacSha256 (beBytes 32 Config.touchmark.toNat) (ascii "CRUCWRAP" ++ uidBytes)).take 16

end Sys2Proof.Machine
end

