-- ==== Sys2Proof/Machine/Clock.lean ====
section
/-! DEFINITION. Times: fabric ticks, the beat grid, slots and superframes (spec/01 R12 to R20, spec/06 R161, R162), and
the device's conversions of them. -/

namespace Sys2Proof.Machine

open Sys2Proof.Fields

/-! ### Fabric ticks (R162) -/

/-- Fabric ticks in n µs, rounded up. -/
def usTicks (n : Nat) : Nat := (n * 49152 + 99) / 100

/-- Whole microseconds that cover n fabric ticks. -/
def ticksUs (n : Nat) : Nat := (n * 100 + 49151) / 49152

/-- Device second, nanoseconds and the 2^−16 ns fraction of a TS64 (R162). -/
def dtSec (ts : Nat) : Nat := ts / ticksPerSecond
def dtNs (ts : Nat) : Nat := ts % ticksPerSecond * 3125 / 1536
def dtFrac (ts : Nat) : Nat := ts % ticksPerSecond * 3125 % 1536 * 65536 / 1536

/-- The device second now. -/
def State.second (s : State) : Nat := dtSec s.tim.ts

/-! ### Geometry of the beat (R12 to R15) -/

/-- L in fabric ticks, B, S and φ in fabric ticks. -/
def State.beatTicks (s : State) : Nat := 245760 * 2 ^ s.fld TIM_BEATGEOM_BEATLEN
def State.beatsPerSec (s : State) : Nat := 2000 / 2 ^ s.fld TIM_BEATGEOM_BEATLEN
def State.slotBeats (s : State) : Nat := s.fld TIM_BEATGEOM_SLOTBEATS
def State.phaseTicks (s : State) : Nat := s.fld TIM_SFPHASE_PHASE * 12288

/-- Slots per superframe. -/
def State.slotsPerSec (s : State) : Nat := s.beatsPerSec / s.slotBeats

/-- The second whose superframe contains an instant, and the beat number within it (R13). -/
def State.sfSecond (s : State) (t : Nat) : Nat := (t + ticksPerSecond - s.phaseTicks) / ticksPerSecond - 1
def State.sfBeat (s : State) (t : Nat) : Nat := (t + ticksPerSecond - s.phaseTicks) % ticksPerSecond / s.beatTicks

/-- The first edge of the grid of R13 at or after an instant. -/
def State.gridAfter (s : State) (t : Nat) : Nat :=
  let d := (t + ticksPerSecond - s.phaseTicks) % s.beatTicks
  if d = 0 then t else t + s.beatTicks - d

/-- The difference of two beat counts, signed (R18). -/
def beatDiff (a b : Nat) : Int := toSigned 32 (a + 2 ^ 32 - b % 2 ^ 32)

/-- A beat count moved by n. -/
def beatAdd (b n : Nat) : Nat := (b + n) % 2 ^ 32

/-- The instant of the edge at which the count takes a value. -/
def State.beatInstant (s : State) (b : Nat) : Nat :=
  (s.tim.last + beatDiff b s.beat * (s.beatTicks : Int)).toNat

/-- Where a beat lies: its superframe's second, its slot, and its place in the slot. -/
def State.beatPos (s : State) (b : Nat) : Nat × Nat × Nat :=
  let t := s.beatInstant b
  let k := s.sfBeat t
  (s.sfSecond t, k / s.slotBeats, k % s.slotBeats)

/-- The beat that contains an instant, and the offset in it. -/
def State.beatAt (s : State) (t : Nat) : Nat × Nat :=
  let d : Int := (t : Int) - (s.tim.last : Int)
  let n := d / (s.beatTicks : Int)
  (((s.beat : Int) + n).toNat % 2 ^ 32 |> fun b => if (s.beat : Int) + n < 0 then
      ((s.beat : Int) + n + 2 ^ 32).toNat % 2 ^ 32 else b, (d % (s.beatTicks : Int)).toNat)

/-- The global number of a slot (R228). -/
def State.globalSlot (s : State) (sec j : Nat) : Nat := sec * s.slotsPerSec + j

/-- TIM_BEATPOS as it stands (R19). DESIGN CHOICE (log entry 65): while no edge has run since the start, BEAT and SLOT show the place of
the last instant that TIM holds for an edge. -/
def State.beatPosWord (s : State) : Word :=
  let k := s.sfBeat s.tim.last
  let w := putFld (putFld 0 TIM_BEATPOS_BEAT k) TIM_BEATPOS_SLOT (k / s.slotBeats)
  if s.isSet TIM_BEATPOS_VALID then putFld w TIM_BEATPOS_VALID 1 else w

/-- The time of a tick passes; TS64 never goes back (log entry 10). -/
def State.timeTo (s : State) (t : Nat) : State :=
  if s.tim.ts < t then { s with tim := { s.tim with ts := t } } else s

end Sys2Proof.Machine
end

