-- ==== Sys2Proof/Machine/Acquire.lean ====
section
/-! DEFINITION. The acquisition engine: requests, frozen sets, results (spec/04 R114 to R120), and the signals it and the
slices search (R99). -/

namespace Sys2Proof.Machine

open Sys2Proof.Fields

/-! ### Signals (R99) -/

/-- A signal's chips, chip rate in units of 1.023 Mcps, code period in ms, whether it lies in the L5 band, whether it has a
pilot, and its greatest SVID. -/
structure Signal where
  chips  : Nat
  rate   : Nat
  period : Nat
  l5     : Bool
  pilot  : Bool
  svMax  : Nat
  deriving DecidableEq, Repr

def signalOf : Nat → Option Signal
  | 0x01 => some ⟨1023, 1, 1, false, false, 32⟩
  | 0x02 => some ⟨10230, 1, 10, false, true, 63⟩
  | 0x03 => some ⟨10230, 10, 1, true, true, 32⟩
  | 0x04 => some ⟨4092, 1, 4, false, true, 50⟩
  | 0x05 => some ⟨10230, 10, 1, true, true, 50⟩
  | 0x06 => some ⟨10230, 1, 10, false, true, 63⟩
  | 0x07 => some ⟨10230, 10, 1, true, true, 63⟩
  | 0x08 => some ⟨1023, 1, 1, false, false, 10⟩
  | 0x09 => some ⟨10230, 1, 10, false, true, 10⟩
  | 0x0A => some ⟨10230, 10, 1, true, true, 10⟩
  | 0x0B => some ⟨1023, 1, 1, false, false, 39⟩
  | 0x0C => some ⟨10230, 10, 1, true, true, 39⟩
  | _ => none

/-- A SIGNAL with an SVID of its range. -/
def signalOk (sig sv : Nat) : Bool :=
  match signalOf sig with
  | some g => decide (1 ≤ sv) && decide (sv ≤ g.svMax)
  | none => false

/-- The band of a signal: 0 for L1, 1 for L5. -/
def bandOf (sig : Nat) : Nat := match signalOf sig with
  | some g => if g.l5 then 1 else 0
  | none => 0

/-! ### The engine -/

def acqDetected : Nat := 0
def acqNotFound : Nat := 1
def acqCancelled : Nat := 2
def acqNoSamples : Nat := 3
def acqTooLong : Nat := 4

def AcqReq.signal (r : AcqReq) : Nat := getFld r.w0 GNC_ACQW0_SIGNAL
def AcqReq.ncoh (r : AcqReq) : Nat := getFld r.w0 GNC_ACQW0_NCOH
def AcqReq.isFresh (r : AcqReq) : Bool := getFld r.w0 GNC_ACQW0_FRESH != 0
def AcqReq.tag (r : AcqReq) : Nat := getFld r.w1 GNC_ACQW1_TAG
def AcqReq.band (r : AcqReq) : Nat := bandOf r.signal

/-- Requests queued: the one in progress, those behind it, and those that have ended but whose result still waits (R115, R118). -/
def State.acqQueued (s : State) : Nat := s.gnss.acqQ.length + (s.gnss.acqWait.filter (fun r => !r.1)).length

/-- Whole milliseconds of the timebase that have passed, and the next one. -/
def State.passedMs (s : State) : Nat := s.tim.ts * 1000 / ticksPerSecond
def State.nextMs (s : State) : Nat := s.passedMs + 1

def State.frozenSet (s : State) (b : Nat) : Option (Nat × Nat) := s.gnss.frozen.getD b none
def State.setFrozen (s : State) (b : Nat) (x : Option (Nat × Nat)) : State :=
  { s with gnss := { s.gnss with frozen := s.gnss.frozen.set b x } }
def State.setPhase (s : State) (p : AcqPhase) : State := { s with gnss := { s.gnss with acqPhase := p } }

/-- A result of a request that the engine did not search to its end; the spec states no measures for it: they are free. -/
def State.bareResult (s : State) (r : AcqReq) (status : Nat) : AcqRes × State :=
  let (a, s) := s.fresh
  let (b, s) := s.fresh
  let (c, s) := s.fresh
  let (d, s) := s.fresh
  let (e, s) := s.fresh
  (⟨r.tag, status, a % 256, b % 256, c % 2 ^ 18, d % 2 ^ 17, e % 2 ^ 32⟩, s)

/-- Results move into the FIFO while it has a place; with its result the request in progress leaves the queue (R118). -/
def State.acqDrain (s : State) : State :=
  let room := 64 - s.gnss.acqRes.length
  let moved := s.gnss.acqWait.take room
  let was := s.gnss.acqRes.isEmpty
  let s := { s with gnss := { s.gnss with acqRes := s.gnss.acqRes ++ moved.map (·.2), acqWait := s.gnss.acqWait.drop room } }
  let s := if moved.any (·.1) then
    { s with gnss := { s.gnss with acqQ := s.gnss.acqQ.drop 1, acqPhase := .idle, acqFresh := false } } else s
  if moved.isEmpty then s
  else
    let s := if was then s.raise 49 else s
    if s.acqQueued = 0 then s.raise 51 else s

/-- The request in progress has its result: it stalls until the FIFO has a place for it (R117, R118). -/
def State.acqFinish (s : State) (r : AcqRes) : State :=
  { s with gnss := { s.gnss with acqWait := s.gnss.acqWait ++ [(true, r)], acqPhase := .stalled } }.acqDrain

/-- The engine takes the request at the head where it may, over at most n requests that end at once (R116). -/
def State.acqStart : Nat → State → State
  | 0, s => s
  | n + 1, s =>
    if !(s.live 6 && s.live 7) || s.gnss.acqPhase != .idle || !s.gnss.acqWait.isEmpty then s
    else
      match s.gnss.acqQ with
      | [] => s
      | r :: _ =>
        if s.fld GNC_PLAN_ACQBLOCKS / 2 < r.ncoh then
          let (x, s) := s.bareResult r acqTooLong
          State.acqStart n (s.acqFinish x)
        else
          let reuse := !r.isFresh && !s.gnss.acqFresh &&
            (match s.frozenSet r.band with
             | some p => decide (r.ncoh ≤ p.1)
             | none => false)
          if reuse then s.setPhase .searching
          else ((s.setFrozen r.band (some (r.ncoh, s.nextMs))).setPhase .filling)

/-- The engine goes on. -/
def State.acqGo (s : State) : State := State.acqStart (s.gnss.acqQ.length + 1) s

/-- The request that fills its set, and the millisecond at which the set begins. -/
def State.acqFilling (s : State) : Option (AcqReq × Nat) :=
  match s.gnss.acqPhase, s.gnss.acqQ with
  | .filling, r :: _ => some (r, match s.frozenSet r.band with
      | some p => p.2
      | none => 0)
  | _, _ => none

/-- The request that fills its set ends NOSAMPLES, and the set is discarded (R120). -/
def State.acqNone (s : State) (r : AcqReq) : State :=
  let (x, s) := (s.setFrozen r.band none).bareResult r acqNoSamples
  (s.acqFinish x).acqGo

/-- A block of the set that fills is due, and its band has no samples (R120). -/
def State.acqDue (s : State) : State :=
  match s.acqFilling with
  | some (r, m) => if s.gnss.noSamp.getD r.band true && decide (m ≤ s.passedMs) then s.acqNone r else s
  | none => s

/-- A band loses its samples while its set is filling (R120): a set of which no block has begun waits for its first one. -/
def State.acqLost (s : State) (b : Nat) : State :=
  match s.acqFilling with
  | some (r, _) => if r.band = b then s.acqDue else s
  | none => s

/-- The last block of the set completes, and the search begins (R116). -/
def State.acqFilled (s : State) : State :=
  match s.acqFilling with
  | some (r, _) => if s.gnss.noSamp.getD r.band true then s.acqNone r else s.setPhase .searching
  | none => s

/-- The search of the request in progress ends (R117). -/
def State.acqDone (s : State) (pnr ratio codeph dopp : Nat) : State :=
  match s.gnss.acqPhase, s.gnss.acqQ with
  | .searching, r :: _ =>
    let st := if getFld r.w1 GNC_ACQW1_THRESH ≤ pnr then acqDetected else acqNotFound
    let first := match s.frozenSet r.band with
      | some p => p.2
      | none => 0
    (s.acqFinish ⟨r.tag, st, pnr, ratio, codeph, dopp, first % 2 ^ 32⟩).acqGo
  | _, _ => s

/-- A filling request stops: its band keeps the blocks of the set that are complete. -/
def State.acqCut (s : State) : State :=
  match s.acqFilling with
  | some (r, m) =>
    let n := min r.ncoh (s.passedMs - m)
    s.setFrozen r.band (if n = 0 then none else some (n, m))
  | none => s

/-- The request in progress stops as one that is to end, with its result where that waits. -/
def State.acqStop (s : State) : State :=
  let s := s.acqCut
  { s with gnss := { s.gnss with acqWait := s.gnss.acqWait.filter (fun r => !r.1), acqPhase := .idle, acqFresh := false } }

/-- Requests end CANCELLED, in queue order (R119); one of them may be the request in progress. -/
def State.acqCancel (s : State) (p : AcqReq → Bool) : State :=
  let gone := s.gnss.acqQ.filter p
  let head := match s.gnss.acqQ with
    | r :: _ => p r
    | [] => false
  let s := if head then s.acqStop else s
  let (rs, s) := gone.foldl (fun (x : List (Bool × AcqRes) × State) r =>
    let (a, s) := x.2.bareResult r acqCancelled
    (x.1 ++ [(false, a)], s)) ([], s)
  let s := { s with gnss := { s.gnss with acqQ := s.gnss.acqQ.filter (fun r => !p r), acqWait := s.gnss.acqWait ++ rs } }
  s.acqDrain.acqGo

/-- The oldest result is removed, and a result that waited takes its place (R118). -/
def State.acqPop (s : State) : State :=
  { s with gnss := { s.gnss with acqRes := s.gnss.acqRes.drop 1 } }.acqDrain.acqGo

/-- The request that GNC_ACQW0 to GNC_ACQW2 describe is queued, or refused (R115). -/
def State.acqPush (s : State) : State :=
  if 64 ≤ s.acqQueued then (s.count GNC_ACQSTAT_REFUSED).raise 50
  else
    let r : AcqReq := ⟨s.get GNC_ACQW0, s.get GNC_ACQW1, s.get GNC_ACQW2⟩
    { s with gnss := { s.gnss with acqQ := s.gnss.acqQ ++ [r] } }.acqGo

/-- A write of GNC_ACQCTL: requests that it ends make room before it queues one. -/
def State.acqCtl (s : State) (w : Word) : State :=
  let s := if getFld w GNC_ACQCTL_FLUSH = 1 then s.acqCancel (fun _ => true) else s
  let s := if getFld w GNC_ACQCTL_CANCEL = 1 then s.acqCancel (fun r => r.tag == s.fld GNC_ACQW1_TAG) else s
  let s := if getFld w GNC_ACQCTL_POP = 1 then s.acqPop else s
  if getFld w GNC_ACQCTL_PUSH = 1 then s.acqPush else s

/-- The engine or the slice fabric quiesces: both sets are released, and the request in progress is to restart (R120). -/
def State.acqReset (s : State) : State :=
  let busy := s.gnss.acqPhase != .idle
  { s with gnss := { s.gnss with
      frozen := [none, none], acqWait := s.gnss.acqWait.filter (fun r => !r.1), acqPhase := .idle, acqFresh := busy || s.gnss.acqFresh } }

/-- Queue, FIFO and sets are discarded without results (R120). -/
def State.acqDiscard (s : State) : State :=
  { s with gnss := { s.gnss with
      acqQ := [], acqRes := [], acqWait := [], frozen := [none, none], acqPhase := .idle, acqFresh := false } }

end Sys2Proof.Machine

namespace Sys2Proof.Machine

/-- ACQ_BLOCKS_COMPLETE (R116). -/
def execAcqBlocksComplete (s : State) : Host.Outcome State Fault Refusal := .next s.acqFilled

/-- ACQ_REQUEST_DONE (R117). -/
def execAcqRequestDone (pnr ratio : Byte) (codeph : BitVec 18) (dopp : BitVec 17) (s : State) :
    Host.Outcome State Fault Refusal :=
  .next (s.acqDone pnr.toNat ratio.toNat codeph.toNat dopp.toNat)

end Sys2Proof.Machine
end

