-- ==== Sys2Proof/Machine/Crucible.lean ====
section
/-! DEFINITION. The Crucible: ingots in two copies, the write queue, counter leases, commits and what a start restores
(spec/16 R409 to R417, spec/03 R79 to R86). -/

namespace Sys2Proof.Machine

open Sys2Proof.Fields

/-! ### Ingots (R410 to R412) -/

/-- The copy a is newer than the copy b. -/
def Copy.newer (a b : Copy) : Bool := a.seq != b.seq && (a.seq + 2 ^ 32 - b.seq) % 2 ^ 32 < 2 ^ 31

def State.ingot (s : State) (cls idx : Nat) : Ingot :=
  (s.cru.ingots.find? (fun g => g.cls == cls && g.idx == idx)).getD ⟨cls, idx, none, none⟩

def State.setIngot (s : State) (g : Ingot) : State :=
  { s with cru := { s.cru with
      ingots := g :: s.cru.ingots.filter (fun h => !(h.cls == g.cls && h.idx == g.idx)) } }

/-- The copy that serves: of two that pass, the newer one, and the first at equal SEQ (R412). -/
def Ingot.serving (g : Ingot) : Option Copy :=
  match g.a, g.b with
  | some a, some b => if a.good && b.good then (if b.newer a then some b else some a)
      else if a.good then some a else if b.good then some b else none
  | some a, none => if a.good then some a else none
  | none, some b => if b.good then some b else none
  | none, none => none

/-- Both copies have been written and both fail. -/
def Ingot.bothBad (g : Ingot) : Bool :=
  match g.a, g.b with
  | some a, some b => !a.good && !b.good
  | some a, none => !a.good
  | none, some b => !b.good
  | none, none => false

/-- A copy has been written and fails while the other one serves. -/
def Ingot.oneBad (g : Ingot) : Bool :=
  match g.a, g.b with
  | some a, some b => a.good != b.good
  | _, _ => false

/-- Both copies pass with different sequence numbers, and neither needs writing. -/
def Ingot.sound (g : Ingot) : Bool :=
  match g.a, g.b with
  | some a, some b => a.good && b.good && a.seq != b.seq
  | _, _ => false

/-- The copy that fails, was never written, or has the first one's sequence number is written from the serving one. DEDUCED (log entry
78): that is a write of the ingot, so the copy takes the next sequence number (R411, R412). -/
def Ingot.mend (g : Ingot) : Ingot :=
  match (if g.sound then none else g.serving) with
  | none => g
  | some c =>
    if g.a = some c then { g with b := some ⟨(c.seq + 1) % 2 ^ 32, c.data, true⟩ }
    else { g with a := some ⟨(c.seq + 1) % 2 ^ 32, c.data, true⟩ }

/-- One copy write of an ingot (R411), and whether it completes the ingot's write. -/
def Ingot.write (g : Ingot) (data : List Nat) : Bool × Ingot :=
  match g.a, g.b with
  | none, none => (false, { g with a := some ⟨1, data, true⟩ })
  | some a, none => (true, { g with b := some ⟨(a.seq + 1) % 2 ^ 32, data, true⟩ })
  | none, some b => (true, { g with a := some ⟨(b.seq + 1) % 2 ^ 32, data, true⟩ })
  | some a, some b =>
    if b.newer a then (true, { g with a := some ⟨(b.seq + 1) % 2 ^ 32, data, true⟩ })
    else (true, { g with b := some ⟨(a.seq + 1) % 2 ^ 32, data, true⟩ })

/-! ### Leased counters (R415, R416) -/

/-- The held value of a counter. -/
def State.held (s : State) : LeaseKey → Nat
  | .acc i => s.nr i NR_ACCCTR
  | .dn i => s.nr i NR_DNCTR
  | .join i => s.nr i NR_JOINCTR
  | .beacon n => tabGet 0 s.sec.beacon n
  | .camp k => s.fld (SEC_CAMPSTAT_NEXTESI k)

def State.setHeld (s : State) (k : LeaseKey) (v : Nat) : State :=
  match k with
  | .acc i => (s.setNr i NR_ACCCTR v).noteMirror i
  | .dn i => (s.setNr i NR_DNCTR v).noteMirror i
  | .join i => (s.setNr i NR_JOINCTR v).noteMirror i
  | .beacon n => { s with sec := { s.sec with beacon := tabSet 0 n (v % 2 ^ 32) s.sec.beacon } }
  | .camp c => s.setFld (SEC_CAMPSTAT_NEXTESI c) v

/-- The committed lease base of a counter. -/
def State.leaseBase (s : State) (k : LeaseKey) : Nat := ((s.cru.leases.find? (fun p => p.1 == k)).map (·.2)).getD 0

def State.setLeaseBase (s : State) (k : LeaseKey) (l : Nat) : State :=
  { s with cru := { s.cru with leases := (k, l) :: s.cru.leases.filter (fun p => !(p.1 == k)) } }

/-- The value that a counter has given out last, updates that wait included. -/
def State.nextValue (s : State) (k : LeaseKey) : Nat :=
  match (s.cru.waiting.filter (fun p => p.1 == k)).getLast? with
  | some p => p.2
  | none => s.held k

/-- The lease base that any other write of the ingot records (R415). -/
def State.recordedBase (s : State) (k : LeaseKey) : Nat := max (s.leaseBase k) (s.held k - 1)

/-! ### Payloads (R409) -/

/-- A key at rest: its wrap under slot 0 as six words; zeros where there is no key (R303). -/
def wrapWords (key : List Byte) : List Nat := bytesWords 6 (keyWrap wrapKey key)

/-- Where the payload of an ingot holds lease bases: the word, and the counter. In a node record's ingot the base stands
in the counter's own place (log entry 50). -/
def leaseWords (cls idx : Nat) : List (Nat × LeaseKey) :=
  match cls with
  | 2 => if idx < 4 then [(0, .beacon idx)] else if idx < 8 then [(0, .camp (idx - 4))] else []
  | 8 => [(6, .acc idx), (12, .dn idx), (13, .join idx)]
  | _ => []

/-- The words of an ingot of GNSS hot-start data beside the oscillator models (R79, R409): ephemerides, almanac date and position, the
OSNMA key. -/
def State.hotWords (s : State) (idx : Nat) : List Nat :=
  let h := s.gnss.hot
  if idx = 3 then h.eph.flatMap (fun e => [e.1 + 256 * e.2.1, e.2.2])
  else if idx = 4 then (match h.alm with
    | some a => [1, a]
    | none => [0, 0]) ++ h.pos
  else bytesWords (h.key.length / 4) h.key

/-- The payload of an ingot as it would be captured now. -/
def State.payload (s : State) (cls idx : Nat) : List Nat :=
  match cls with
  | 1 => [s.fld MGT_ARBCNT_COUNT]
  | 2 => if idx < 4 then [s.recordedBase (.beacon idx), 0]
         else if idx < 8 then [s.recordedBase (.camp (idx - 4)), 0]
         else if idx = 8 then [s.fld MGT_CRU_HWMC_HWM, 0] else [s.fld MGT_CRU_HWMN_HWM, 0]
  | 3 => [(s.get (4 * idx)).toNat]
  | 4 => match s.sec.keys.find? (fun p => p.1 == idx) with
         | some p => wrapWords p.2
         | none => List.replicate 6 0
  | 5 => (List.range 4096).map (fun w => (s.get (0x420000 + 0x4000 * idx + 4 * w)).toNat)
  | 6 => if idx < 3 then (let f := tabGet FRef.cold s.tim.frefs idx; [f.learned, ofSigned 32 f.freq, ofSigned 32 f.drift, ofSigned 32 f.ofs]) else s.hotWords idx
  | 7 => if idx = 0 then (List.range 1024).map (fun w => (s.get (0x460000 + 4 * w)).toNat)
         else (s.ledger (idx - 1)).buckets.flatMap (fun p => [p.1, p.2])
  | 8 => (((List.range 12).map (fun w => (s.nodeWord idx w).toNat)).set 6 (s.recordedBase (.acc idx)))
         ++ [s.recordedBase (.dn idx), s.recordedBase (.join idx)]
         ++ (List.range 5).map (fun w => (s.nodeWord idx (26 + w)).toNat)
         ++ wrapWords (s.joinKey idx) ++ wrapWords (s.sessKey idx) ++ [0]
  | _ => []

/-! ### The write queue (R86, R415) -/

/-- Ingots that the write queue holds. -/
def queueDepth : Nat := 512

/-- The order in which a brown-out warning writes what is queued (R86). -/
def QIngot.rank (q : QIngot) : Nat :=
  if q.cls = 1 then 1 else if q.cls = 2 ∨ q.lease.isSome then 2 else if q.cls = 3 ∨ q.cls = 4 then 3
  else if q.cls = 6 then 4 else if q.cls = 7 then 5 else if q.cls = 5 then 6 else 7

/-- Ingots in the order of R86: by class, and within a class in the order in which they stand. -/
def ranked (l : List QIngot) : List QIngot := [1, 2, 3, 4, 5, 6, 7].flatMap (fun n => l.filter (fun q => q.rank == n))

/-- Ingots that have a place in the write queue are captured: a register is no longer dirty, and a record no longer changed (R85,
R414). Under a brown-out warning all stand in the order of R86. -/
def State.fillQueue (s : State) : State :=
  let l := if s.isSet MGT_PWRSTAT_BOWARN then ranked s.cru.queue else s.cru.queue
  let new (c i : Nat) : Bool := (l.take queueDepth).any (fun q => q.cls == c && q.idx == i && q.data.isNone)
  { s with
    cru := { s.cru with
      queue := (l.take queueDepth).map (fun q => { q with data := some (q.data.getD (s.payload q.cls q.idx)) }) ++ l.drop queueDepth
      changed := s.cru.changed.filter (fun i => !new 8 i) }
    sys := { s.sys with dirty := s.sys.dirty.filter (fun a => !new 3 (a / 4)) } }

/-- Ingots are queued: each enters the write queue, and is captured, as soon as there is space (R85, R86). -/
def State.queueAll (s : State) (l : List (Nat × Nat)) : State :=
  let q : List QIngot := l.map (fun p => ⟨p.1, p.2, none, none⟩)
  { s with cru := { s.cru with queue := s.cru.queue ++ q } }.fillQueue

def State.queueIngot (s : State) (cls idx : Nat) : State := s.queueAll [(cls, idx)]

/-- The copy that serves does not hold the payload of an ingot. -/
def State.ingotDiffers (s : State) (cls idx : Nat) : Bool :=
  match (s.ingot cls idx).serving with
  | some c => c.data != s.payload cls idx
  | none => !(s.payload cls idx).all (· == 0)

/-- Ingots of a class are queued where the copy that serves does not hold their payload. -/
def State.changedOf (s : State) (cls : Nat) (l : List Nat) : List (Nat × Nat) := (l.filter (s.ingotDiffers cls)).map (fun i => (cls, i))

/-- Whether a queued ingot goes ahead of every other one: the anti-rollback counter and leases (R415). -/
def QIngot.first (q : QIngot) : Bool := q.cls == 1 || q.lease.isSome

/-- Where the lease ingot of a counter is held. -/
def LeaseKey.place : LeaseKey → Nat × Nat
  | .acc i => (8, i)
  | .dn i => (8, i)
  | .join i => (8, i)
  | .beacon n => (2, n)
  | .camp k => (2, 4 + k)

/-- A lease is queued behind the ingots that go first and ahead of all others (R415). -/
def State.queueLease (s : State) (k : LeaseKey) (l : Nat) : State :=
  let (cls, idx) := k.place
  let q : QIngot := ⟨cls, idx, none, some (k, l)⟩
  { s with cru := { s.cru with
      queue := s.cru.queue.takeWhile QIngot.first ++ [q] ++ s.cru.queue.dropWhile QIngot.first } }.fillQueue

/-- An update raises a counter's held value to v, at once or once its lease is committed (R415). -/
def State.raiseCounter (s : State) (k : LeaseKey) (v : Nat) : State :=
  if s.cru.waiting.any (fun p => p.1 == k) then
    { s.count MGT_CRU_LEASE_WAITS with cru := { s.cru with waiting := s.cru.waiting ++ [(k, v)] } }
  else if v ≤ s.leaseBase k + 256 then s.setHeld k v
  else
    let s := (s.count MGT_CRU_LEASE_WAITS).queueLease k (v - 1)
    { s with cru := { s.cru with waiting := s.cru.waiting ++ [(k, v)] } }

/-- The first waiting update of a counter takes effect, and those behind it that its lease covers. -/
def State.applyWaiting (s : State) (k : LeaseKey) : Nat → State
  | 0 => s
  | n + 1 =>
    match s.cru.waiting.find? (fun p => p.1 == k) with
    | none => s
    | some p =>
      if p.2 ≤ s.leaseBase k + 256 then
        let s := { s with cru := { s.cru with waiting := s.cru.waiting.erase p } }
        (s.setHeld k p.2).applyWaiting k n
      else s

/-- A high-water mark never falls (R415). -/
def State.raiseMark (s : State) (f : Fld) (v : Nat) : State := s.setFld f (max (s.fld f) v)

/-- A whole write of an ingot that another commit carries with it. -/
def Ingot.commit (g : Ingot) (data : List Nat) : Ingot :=
  let (done, g) := g.write data
  if done then g else (g.write data).2

/-- A lease above its mark raises the mark, register and ingot, in the same commit (R415). -/
def State.leaseMark (s : State) (k : LeaseKey) (l : Nat) : State :=
  match k with
  | .acc _ =>
    if s.fld MGT_CRU_HWMN_HWM < l then
      (s.raiseMark MGT_CRU_HWMN_HWM l).setIngot ((s.ingot 2 9).commit [l, 0]) else s
  | _ =>
    if s.fld MGT_CRU_HWMC_HWM < l then
      (s.raiseMark MGT_CRU_HWMC_HWM l).setIngot ((s.ingot 2 8).commit [l, 0]) else s

/-- A lease has committed: its base and mark rise, and the update that waited takes effect (R415). -/
def State.leaseCommitted (s : State) : State :=
  match s.cru.written with
  | [] => s
  | (k, l) :: r =>
    let s := { s with cru := { s.cru with written := r } }
    let s := s.setLeaseBase k (max (s.leaseBase k) l)
    let s := s.leaseMark k l
    let s := s.applyWaiting k (s.cru.waiting.length)
    match s.cru.waiting.find? (fun p => p.1 == k) with
    | some p => s.queueLease k (p.2 - 1)
    | none => s

/-! ### Which registers are kept (R78, R79) -/

/-- The first offset of the window that a function's KEEPMASK covers (R78). -/
def keepBase (tgt : Nat) : Nat :=
  if tgt = 0 then 0
  else if tgt ≤ 3 then 0x10000 else if tgt ≤ 5 then 0x20000 else if tgt ≤ 7 then 0x30000
  else if tgt = 8 then 0x40000 else if tgt ≤ 0xC then 0x50000 + (tgt - 9) * 0x10000
  else if tgt = 0xD then 0x90000 else if tgt = 0xE then 0xA0000 else if tgt = 0xF then 0xB0000
  else if tgt = 0x10 then 0xC0000 else if tgt ≤ 0x12 then 0xD0000 else if tgt = 0x13 then 0x100000
  else 0x200000 + (tgt - 0x20) * 0x10000

/-- The length in bytes of a KEEPMASK payload (R78). -/
def keepBytes (tgt : Nat) : Nat := if tgt = 0 then 36864 else if tgt < 0x20 then 2048 else 1024

/-- A KEEPMASK record's bit for a register word. -/
def CRec.keepBit (r : CRec) (a : Nat) : Bool :=
  let b := keepBase r.tgt
  if a < b ∨ b + keepBytes r.tgt * 32 ≤ a then false
  else let n := (a - b) / 4; (r.words.getD (n / 32) 0).testBit (n % 32)

/-- The function whose register an offset is, as a reset ID; none where the register belongs to no function with a
reset ID (R36, R37). -/
def funcOf (a : Nat) : Option Nat :=
  if 0x10100 ≤ a ∧ a < 0x10120 then some 1
  else if 0x10120 ≤ a ∧ a < 0x10140 then some 2
  else if 0x10200 ≤ a ∧ a < 0x10220 then some 3
  else if 0x20000 ≤ a ∧ a < 0x20080 then some 4
  else if 0x20080 ≤ a ∧ a < 0x20100 then some 5
  else if 0x30040 ≤ a ∧ a < 0x30070 then some 6
  else if 0x30000 ≤ a ∧ a < 0x40000 then some 7
  else if 0x40000 ≤ a ∧ a < 0x50000 then some 8
  else if 0x50000 ≤ a ∧ a < 0x90000 then some (9 + (a - 0x50000) / 0x10000)
  else if 0x90000 ≤ a ∧ a < 0xA0000 then some 0xD
  else if 0xA0000 ≤ a ∧ a < 0xB0000 then some 0xE
  else if 0xB0000 ≤ a ∧ a < 0xC0000 then some 0xF
  else if 0xC0000 ≤ a ∧ a < 0xD0000 then some 0x10
  else if 0xD0000 ≤ a ∧ a < 0xD0040 then some 0x11
  else if 0xD0040 ≤ a ∧ a < 0xD0080 then some 0x12
  else if 0x100100 ≤ a ∧ a < 0x100200 then some 0x13
  else if 0x200000 ≤ a ∧ a < 0x300000 then some (0x20 + (a - 0x200000) / 0x10000)
  else if 0x400000 ≤ a ∧ a < 0x420000 then some 0xE
  else if 0x420000 ≤ a ∧ a < 0x430000 then some (9 + (a - 0x420000) / 0x4000)
  else if 0x430000 ≤ a ∧ a < 0x440000 then some 0xD
  else if 0x440000 ≤ a ∧ a < 0x450000 then (if (a - 0x440000) % 256 < 0x80 then some 7 else some 8)
  else if 0x500000 ≤ a ∧ a < 0x600000 then some 0xD
  else if 0x600000 ≤ a ∧ a < 0x700000 then some 0xF
  else none

/-- The running KEEPMASK's bit for a register word: the record of the word's function where one stands, else the
record of target 0x00 (R57, R78). -/
def State.keepBit (s : State) (a : Nat) : Bool :=
  let own := s.sys.recs.find? (fun r => r.ty == 0x0B && some r.tgt == funcOf a && r.tgt != 0)
  match own with
  | some r => r.keepBit a
  | none =>
    match s.sys.recs.find? (fun r => r.ty == 0x0B && r.tgt == 0) with
    | some r => r.keepBit a
    | none => false

/-- The bits of a register word that are marked Kept "yes". -/
def keptMask (a : Nat) : Word :=
  match regAt a with
  | none => 0
  | some r => r.flds.foldl (fun w f => if f.kept then w ||| fldMask f.lo f.len else w) 0

/-- A register is kept by the running structure. -/
def State.isKept (s : State) (a : Nat) : Bool := keptMask a != 0 && s.keepBit a

/-- A register has been written: a kept one becomes dirty (R85). -/
def State.markDirty (s : State) (a : Nat) : State :=
  if s.isKept a then { s with sys := { s.sys with dirty := insertNat a s.sys.dirty } } else s

/-! ### Commits (R83 to R86) -/

/-- Ingots of class 0x6. -/
def hotCount : Nat := 6

/-- What a commit pass writes: the dirty kept registers, the keys, temper tables, models and hot-start data, leap table and ledgers that
have changed (R83, R409). -/
def State.commitList (s : State) : List (Nat × Nat) :=
  s.sys.dirty.map (fun a => (3, a / 4)) ++ s.changedOf 4 ((List.range 71).map (· + 1)) ++ s.changedOf 5 (List.range 4)
    ++ s.changedOf 6 (List.range hotCount) ++ s.changedOf 7 (List.range 52)

/-- Every record changed since its last ingot is queued (R414). -/
def State.queueNodes (s : State) : State := s.queueAll (s.cru.changed.map (fun i => (8, i)))

/-- A commit pass begins, or is merged into the one that runs (R85). -/
def State.startCommit (s : State) (trigger : Nat) : State :=
  let s := s.setFld MGT_COMMIT_LASTTRIG trigger
  if s.isSet MGT_COMMIT_BUSY then { s with sys := { s.sys with merged := true } }
  else (s.setFld MGT_COMMIT_BUSY 1).queueAll s.commitList

/-- A commit pass has written everything it queued (R85). -/
def State.passEnded (s : State) : Bool := s.isSet MGT_COMMIT_BUSY && s.cru.queue.isEmpty

/-- The pass ends; a merged one follows, and COMMIT-DONE is raised once at the end of all (R85). -/
def State.endPass (s : State) : State :=
  if !s.passEnded then s
  else if s.sys.merged then { s with sys := { s.sys with merged := false } }.queueAll s.commitList
  else (s.setFld MGT_COMMIT_BUSY 0).raise 9

/-- What is written for a queued ingot: the contents captured when it was queued, with every lease base at the greatest
of the captured one, the committed one, and the one that the write leases (R415). -/
def State.writtenData (s : State) (q : QIngot) : List Nat :=
  (leaseWords q.cls q.idx).foldl (fun d p =>
    let l := match q.lease with
      | some (k, l) => if k == p.2 then l else 0
      | none => 0
    d.set p.1 (max (d.getD p.1 0) (max (s.leaseBase p.2) l))) (q.data.getD (s.payload q.cls q.idx))

/-- A written ingot holds the bases of its counters. That of the counter it leases follows at LEASE_COMMITTED. -/
def State.noteBases (s : State) (q : QIngot) (d : List Nat) : State :=
  (leaseWords q.cls q.idx).foldl (fun s p =>
    if q.lease.map (·.1) == some p.2 then s else s.setLeaseBase p.2 (d.getD p.1 0)) s

/-- One copy write and its read-back end (R411, R413). -/
def State.ingotWritten (s : State) (ok : Bool) (maxw spare : Nat) : State :=
  let worn := decide (s.fld MGT_CRU_WEAR_MAXW ≤ 80000) && decide (maxw > 80000) && !s.cru.wearMax
  let lowS := decide (spare < 10) && !s.cru.wearLow
  match s.cru.queue with
  | [] => s
  | q :: r =>
    let s := (s.setFld MGT_CRU_WEAR_MAXW maxw).setFld MGT_CRU_STAT_SPARE spare
    let s := { s with cru := { s.cru with wearMax := s.cru.wearMax || worn, wearLow := s.cru.wearLow || lowS } }
    let s := if worn then s.raise 15 else s
    let s := if lowS then s.raise 15 else s
    if !ok then s
    else
      let d := s.writtenData q
      let (done, g) := (s.ingot q.cls q.idx).write d
      let s := s.setIngot g
      if !done then s
      else
        let s := s.noteBases q d
        let s := { s with cru := { s.cru with queue := r } }
        let s := match q.lease with
          | some kl => { s with cru := { s.cru with written := s.cru.written ++ [kl] } }
          | none => s
        let s := if q.cls = 1 then s.setFld MGT_ARBCNT_COUNT (max (s.fld MGT_ARBCNT_COUNT) (d.headD 0)) else s
        s.fillQueue

/-! ### The index scan and what a start restores (R412, R416, R417) -/

/-- The scan of one ingot of a class other than 0x3: a failed copy is counted and mended, a lost ingot reported. -/
def State.scanIngot (s : State) (g : Ingot) : State :=
  if g.cls = 3 then s
  else if g.bothBad then
    ((s.count MGT_CRU_STAT_LOST).raise 14 (if g.cls = 8 then g.idx else g.cls * 2 ^ 24 + g.idx))
  else
    let s := if g.oneBad then (s.count MGT_CRU_STAT_COPYBAD).raiseLimited 13 13 else s
    s.setIngot g.mend

/-- A copy of an ingot is found corrupt by the scan. -/
def Ingot.spoil (g : Ingot) (first : Bool) : Ingot :=
  if first then { g with a := g.a.map (fun c => { c with good := false }) }
  else { g with b := g.b.map (fun c => { c with good := false }) }

/-- A leased counter's value at a start: L + 256, held at the greatest value (R416). -/
def restoredCounter (l : Nat) : Nat := min (l + 256) 0xFFFFFFFF

/-- A node record as its ingot holds it (R409, R416), or as R417 leaves it where both copies fail. A key whose wrap
fails counts as a corrupt ingot (R303). -/
def State.restoreNode (s : State) (i : Nat) (d : List Nat) : State :=
  let w k := d.getD k 0
  let key k := keyUnwrap wrapKey (((d.drop k).take 6).flatMap (leBytes 4))
  let s := (List.range 12).foldl (fun s k => s.setNodeWord i k (BitVec.ofNat 32 (w k))) s
  let s := (List.range 7).foldl (fun s k => s.setNodeWord i (24 + k) (BitVec.ofNat 32 (w (12 + k)))) s
  let s := s.setNodeKey i 16 ((key 19).getD (List.replicate 16 0#8))
  let s := s.setNodeKey i 20 ((key 25).getD (List.replicate 16 0#8))
  let s := ((s.setLeaseBase (.acc i) (w 6)).setLeaseBase (.dn i) (w 12)).setLeaseBase (.join i) (w 13)
  let s := (s.setNr i NR_ACCCTR (restoredCounter (w 6))).setNr i NR_PENDCTR (restoredCounter (w 6))
  let s := (s.setNr i NR_DNCTR (restoredCounter (w 12))).setNr i NR_JOINCTR (restoredCounter (w 13))
  (s.setNr i NR_PEND 0).setNr i NR_GRACE 0

def State.restoreLostNode (s : State) (i : Nat) : State :=
  let s := (List.range 32).foldl (fun s k => s.setNodeWord i k 0) s
  let c := restoredCounter (s.fld MGT_CRU_HWMC_HWM)
  let n := restoredCounter (s.fld MGT_CRU_HWMN_HWM)
  ((s.setNr i NR_DNCTR c).setNr i NR_JOINCTR c |>.setNr i NR_ACCCTR n).setNr i NR_PENDCTR n

/-- GNSS hot-start data comes back (R409). -/
def State.restoreHot (s : State) (idx : Nat) (ws : List Nat) : State :=
  let h := s.gnss.hot
  let h : Hot := if idx = 3 then
      { h with eph := (List.range (ws.length / 2)).map (fun k =>
          (ws.getD (2 * k) 0 % 256, ws.getD (2 * k) 0 / 256, ws.getD (2 * k + 1) 0)) }
    else if idx = 4 then { h with alm := if ws.getD 0 0 = 1 then some (ws.getD 1 0) else none, pos := ws.drop 2 }
    else { h with key := if ws.length = 16 then ws.flatMap (leBytes 4) else [] }
  { s with gnss := { s.gnss with hot := h } }

/-- The contents of an ingot of a class other than 0x3 come back at a start. -/
def State.restoreIngot (s : State) (g : Ingot) : State :=
  match g.serving with
  | none =>
    if g.cls = 8 ∧ g.bothBad then s.restoreLostNode g.idx
    else if g.cls = 1 ∧ g.bothBad then
      s.setFld MGT_ARBCNT_COUNT (max ((g.a.map (fun c => c.data.headD 0)).getD 0) ((g.b.map (fun c => c.data.headD 0)).getD 0))
    else s
  | some c =>
    let v := c.data.headD 0
    match g.cls with
    | 1 => s.setFld MGT_ARBCNT_COUNT v
    | 2 => if g.idx < 4 then (s.setLeaseBase (.beacon g.idx) v).setHeld (.beacon g.idx) (restoredCounter v)
           else if g.idx < 8 then (s.setLeaseBase (.camp (g.idx - 4)) v).setHeld (.camp (g.idx - 4)) (restoredCounter v)
           else if g.idx = 8 then s.raiseMark MGT_CRU_HWMC_HWM v else s.raiseMark MGT_CRU_HWMN_HWM v
    | 4 => match keyUnwrap wrapKey (c.data.flatMap (leBytes 4)) with
           | some k => { s with sec := { s.sec with keys := tabInsert g.idx k (tabErase g.idx s.sec.keys) } }
           | none => s
    | 5 => (List.range 4096).foldl (fun s w => s.put (0x420000 + 0x4000 * g.idx + 4 * w) (BitVec.ofNat 32 (c.data.getD w 0))) s
    | 6 =>
      if 3 ≤ g.idx then s.restoreHot g.idx c.data
      else if s.tim.kept then s
      else
        let fs := tabSet FRef.cold g.idx ⟨0, v, toSigned 32 (c.data.getD 1 0), toSigned 32 (c.data.getD 2 0),
          toSigned 32 (c.data.getD 3 0), 0, []⟩ s.tim.frefs
        { s with tim := { s.tim with frefs := fs } }
    | 7 => if g.idx = 0 then (List.range 1024).foldl (fun s w => s.put (0x460000 + 4 * w) (BitVec.ofNat 32 (c.data.getD w 0))) s
           else s.setLedger (g.idx - 1)
             ⟨(List.range (c.data.length / 2)).map (fun k => (c.data.getD (2 * k) 0, c.data.getD (2 * k + 1) 0)), false⟩
    | 8 => s.restoreNode g.idx c.data
    | _ => s

/-- The counters that have given out values and whose ingot has never been written. DEDUCED (log entry 79): their lease base is 0, so
a start restores them at 256 like any other, and gives no value out again (R416). -/
def State.unwritten (s : State) : List (LeaseKey × Nat) :=
  let ks : List LeaseKey := (List.range 4).map LeaseKey.beacon ++ (List.range 4).map LeaseKey.camp
    ++ (s.nodes.filter (fun p => [6, 24, 25].contains (p.1 % 32) && p.2 != 0)).map (fun p =>
        if p.1 % 32 = 6 then .acc (p.1 / 32) else if p.1 % 32 = 24 then .dn (p.1 / 32) else .join (p.1 / 32))
  (ks.filter (fun k => s.held k != 0 && (s.ingot k.place.1 k.place.2) == ⟨k.place.1, k.place.2, none, none⟩)).map (fun k => (k, 0))

/-- The order of a restore: the marks of class 0x2 come before the records that may need them. -/
def State.restoreAll (s : State) : State :=
  let gs := s.cru.ingots
  let s := s.cru.leases.foldl (fun s p => s.setHeld p.1 (restoredCounter p.2)) s
  let s := (gs.filter (fun g => g.cls != 8)).foldl (fun s g => s.restoreIngot g) s
  (gs.filter (fun g => g.cls == 8)).foldl (fun s g => s.restoreIngot g) s

/-- The index scan (R412): the copies named corrupt fail, every ingot is judged, and everything but kept registers is
restored. -/
def State.indexScan (s : State) (bad : List (Nat × Nat × Bool)) : State :=
  let s := bad.foldl (fun s b => s.setIngot ((s.ingot b.1 b.2.1).spoil b.2.2)) s
  let s := s.cru.ingots.foldl (fun s g => s.scanIngot g) s
  let s := s.restoreAll
  { s with cru := { s.cru with changed := [] } }

end Sys2Proof.Machine
end

