-- ==== Sys2Proof/Machine/Loops.lean ====
section
/-! DEFINITION. The figures of the tracking loops (spec/05 R128 to R131): discriminators, lock indicator, bandwidths and the NCOs. What
the rules state is computed; where they name a method without its numbers (the loop filters, the moments estimate, the scale of the
code discriminator) a function of Config without a body stands for it, and so for the rounding of a quotient (log entry 70). -/

namespace Sys2Proof.Machine

/-- A quotient, rounded as the implementation rounds it. -/
def openDiv (n d : Int) : Int := if n % d = 0 then n / d else n / d + (if Config.roundsUp n d then 1 else 0)

/-- The greatest number of k bits beyond r whose square does not exceed n. -/
def sqrtBits : Nat → Nat → Nat → Nat
  | 0, _, r => r
  | k + 1, n, r => if (r + 2 ^ k) * (r + 2 ^ k) ≤ n then sqrtBits k n (r + 2 ^ k) else sqrtBits k n r

/-! ### Angles -/

/-- The arc tangents of 1, 1/2, 1/4 and so on, in 2^−48 turn. -/
def arcTable : List Int :=
  [35184372088832, 20770547670515, 10974586953444, 5570871696862, 2796246208089, 1399486241028, 699913886760, 349978300884,
    174991820497, 87496244017, 43748163730, 21874087080, 10937044192, 5468522177, 2734261099, 1367130551,
    683565276, 341782638, 170891319, 85445659, 42722830, 21361415, 10680707, 5340354,
    2670177, 1335088, 667544, 333772, 166886, 83443, 41722, 20861,
    10430, 5215, 2608, 1304]

/-- The angle of a vector with x ≥ 0, by rotations through the table from step i on. -/
def rotate : List Int → Nat → Int → Int → Int → Int
  | [], _, _, _, z => z
  | t :: r, i, x, y, z =>
    if 0 ≤ y then rotate r (i + 1) (x + y / 2 ^ i) (y - x / 2 ^ i) (z + t)
    else rotate r (i + 1) (x - y / 2 ^ i) (y + x / 2 ^ i) (z - t)

/-- The angle of (x, y) in 2^−48 turn, from −1/2 to +1/2 turn; that of the origin is open. -/
def turns (y x : Int) : Int :=
  let a (y x : Int) : Int := rotate arcTable 0 (x * 2 ^ 40) (y * 2 ^ 40) 0
  if x = 0 ∧ y = 0 then Config.openFigure []
  else if 0 ≤ x then a y x
  else if 0 ≤ y then a (-y) (-x) + 2 ^ 47
  else a (-y) (-x) - 2 ^ 47

/-- The angle of the line through (x, y), from −1/4 to +1/4 turn. -/
def halfTurns (y x : Int) : Int := if x < 0 then turns (-y) (-x) else turns y x

/-! ### Discriminators (R128) -/

/-- Correlator k of a dump's words: I and Q. -/
def tapIQ (ws : List Word) (k : Nat) : Int × Int :=
  let w := (ws.getD (4 + k) 0).toNat
  (toSigned 16 (w % 65536), toSigned 16 (w / 65536))

/-- The carrier phase in 2^−15 cycle. -/
def phaseDisc (pilot : Bool) (ws : List Word) : Int :=
  let (i, q) := tapIQ ws 2
  openDiv (if pilot then turns q i else halfTurns q i) (2 ^ 33)

/-- The magnitude of a correlator in units of 2^−16. -/
def tapAbs (ws : List Word) (k : Nat) : Int :=
  let (i, q) := tapIQ ws k
  sqrtBits 33 ((i * i + q * q).toNat * 2 ^ 32) 0

/-- The code phase in 2^−15 chip: (|E| − |L|)/(|E| + |L|), scaled for ELHALF. -/
def codeDisc (sig elhalf : Nat) (ws : List Word) : Int :=
  let e := tapAbs ws 1
  let l := tapAbs ws 3
  if e + l = 0 then Config.openFigure [0] else openDiv ((e - l) * Config.dllScale sig elhalf) (e + l)

/-- The frequency in 2^−16 Hz, from a prompt value and the one before it. -/
def freqDisc (pilot : Bool) (ms : Nat) (i q i0 q0 : Int) : Int :=
  let dot := i0 * i + q0 * q
  let cross := i0 * q - q0 * i
  openDiv ((if pilot then turns cross dot else halfTurns cross dot) * 1000) (2 ^ 32 * ms)

/-- (I² − Q²)/(I² + Q²) of a prompt value in 2^−32. -/
def lockTerm (i q : Int) : Int :=
  if i = 0 ∧ q = 0 then Config.openFigure [1] else openDiv ((i * i - q * q) * 2 ^ 32) (i * i + q * q)

/-- The lock indicator, averaged over prompt values, is at or above a threshold in 1/256. -/
def lockOn (th : Nat) (ps : List (Int × Int)) : Bool :=
  decide ((th : Int) * 2 ^ 24 * ps.length ≤ (ps.map (fun p => lockTerm p.1 p.2)).sum)

/-! ### Loop filters (R129 to R131) -/

/-- A bandwidth of b units of which a second holds u, limited for t = INTMS + 2L in ms (R130): a fraction in Hz. -/
def bandUsed (b u t : Nat) : Nat × Nat := if 250 * u < b * t then (250, t) else (b, u)

/-- The code Doppler in 2^−24 chip/s that goes with a carrier frequency in 2^−16 Hz: the ratio of chip rate to carrier frequency, both
in units of 1.023 MHz (R129). -/
def codeAid (l5 : Bool) (rate : Nat) (car : Int) : Int := openDiv (car * 256 * rate) (if l5 then 1150 else 1540)

/-! ### NCOs (R112, R134) -/

/-- Units of the carrier accumulator in a cycle, and of the code accumulator in a chip. -/
def carUnit : Int := 65536 * ticksPerSecond
def codUnit : Int := 16777216 * ticksPerSecond

/-- The carrier phase in 2^−32 cycle, and the whole cycles modulo 2^32. -/
def carFrac (a : Int) : Nat := ((a % carUnit) * 65536 / ticksPerSecond).toNat
def carWhole (a : Int) : Nat := (a / carUnit % 2 ^ 32).toNat

end Sys2Proof.Machine
end

