-- ==== Sys2Proof/Machine/Rtcm.lean ====
section
/-! DEFINITION. RTCM 3 frames (spec/05 R147): message 1005 and the MSM7 messages. The rule names the messages of RTCM 10403.3 and what
fills them; the places of their fields, the signal codes and the epoch times are that standard's (PRESUMED, log entry 72). -/

namespace Sys2Proof.Machine

/-! ### Bits and frames -/

/-- The n low bits of a number, the most significant first. -/
def msbBits (n v : Nat) : List Bool := (List.range n).map (fun k => v.testBit (n - 1 - k))

/-- A signed number in n bits. -/
def msbInt (n : Nat) (i : Int) : List Bool := msbBits n (ofSigned n i)

/-- Bits as octets, the last one filled with zeros; k is at least the number of octets. -/
def packBits : Nat → List Bool → List Byte
  | 0, _ => []
  | k + 1, bs =>
    if bs.isEmpty then []
    else BitVec.ofNat 8 ((bs.take 8 ++ List.replicate 8 false).take 8 |>.foldl (fun v b => 2 * v + (if b then 1 else 0)) 0)
      :: packBits k (bs.drop 8)

/-- CRC-24Q of octets. -/
def crc24q (bs : List Byte) : Nat :=
  (bs.flatMap (fun b => msbBits 8 b.toNat)).foldl (fun c b =>
    let c := c ^^^ (if b then 2 ^ 23 else 0)
    (if c.testBit 23 then (2 * c) ^^^ 0x1864CFB else 2 * c) % 2 ^ 24) 0

/-- A message in its frame: preamble, length, CRC-24Q. -/
def rtcmFrame (bits : List Bool) : List Byte :=
  let p := packBits (bits.length / 8 + 1) bits
  let h := packBits 3 (msbBits 8 0xD3 ++ msbBits 6 0 ++ msbBits 10 p.length) ++ p
  h ++ packBits 3 (msbBits 24 (crc24q h))

/-! ### Cells -/

/-- One cell of an MSM7 message: satellite and signal number of the standard, whether it is in the L5 band, the range in 2^−12 m, the
phase in 2^−24 cycle with the whole cycles added to it where the phase is valid, the Doppler in 2^−12 Hz where it is valid, LOCKMS,
HALFCYC and C/N0. -/
structure Cell where
  sat  : Nat
  sig  : Nat
  l5   : Bool
  pr   : Nat
  cp   : Option (Int × Int)
  dop  : Option Int
  lock : Nat
  half : Bool
  cn0  : Nat
  deriving DecidableEq, Repr

def lightSpeed : Int := 299792458

/-- Carrier frequency of a band in Hz. -/
def bandHz (l5 : Bool) : Int := if l5 then 1176450000 else 1575420000

/-- A range in 2^−12 m as time in units of 2^−n ms. -/
def rangeMs (n : Nat) (pr : Int) : Int := openDiv (pr * 1000 * 2 ^ n) (4096 * lightSpeed)

/-- The rough range of a satellite in 2^−10 ms, from its first cell. -/
def roughRange (pr : Int) : Int := rangeMs 10 pr

/-- Whole cycles that bring a phase near a range. -/
def phaseCycles (l5 : Bool) (pr : Nat) (cp : Int) : Int :=
  (2 * ((pr : Int) * bandHz l5 * 2 ^ 24 + cp * 4096 * lightSpeed) / (4096 * lightSpeed * 2 ^ 24) + 1) / 2

/-- The phase range of a cell in 2^−31 ms: it grows with the range. -/
def phaseMs (c : Cell) : Option Int :=
  c.cp.map (fun p => openDiv ((p.2 * 2 ^ 24 - p.1) * 128000) (bandHz c.l5))

/-- The phase-range rate of a cell in 0.0001 m/s. -/
def phaseRate (c : Cell) : Option Int := c.dop.map (fun d => openDiv (-d * lightSpeed * 10000) (4096 * bandHz c.l5))

/-- The lock time indicator of a lock time in ms (DF407). -/
def lockIndicator (t : Nat) : Nat :=
  if t < 64 then t
  else
    match (List.range 21).find? (fun k => decide (t < 2 ^ (k + 6))) with
    | some k => t / 2 ^ k + 32 * k
    | none => 704

/-- A signed field of n bits, or the standard's invalid value. -/
def fieldOr (n : Nat) : Option Int → List Bool
  | some v => if v.natAbs < 2 ^ (n - 1) then msbInt n v else msbInt n (-2 ^ (n - 1))
  | none => msbInt n (-2 ^ (n - 1))

/-! ### MSM7 -/

/-- The satellites of cells, each once, in order. -/
def cellSats (cs : List Cell) : List Nat := (List.range 64).filter (fun v => cs.any (fun c => c.sat == v + 1)) |>.map (· + 1)
def cellSigs (cs : List Cell) : List Nat := (List.range 32).filter (fun v => cs.any (fun c => c.sig == v + 1)) |>.map (· + 1)

/-- A satellite's rough phase-range rate in m/s, from its first cell that has one. -/
def roughRate (cs : List Cell) (v : Nat) : Option Int :=
  ((cs.filter (fun c => c.sat == v)).findSome? phaseRate).map (fun r => (r + 5000) / 10000)

/-- The rough range of a satellite in 2^−10 ms. -/
def satRough (cs : List Cell) (v : Nat) : Int :=
  match cs.find? (fun c => c.sat == v) with
  | some c => roughRange c.pr
  | none => 0

/-- The whole milliseconds of a rough range, or the standard's invalid value. -/
def roughWhole (r : Int) : Nat := if r < 261120 then r.toNat / 1024 else 255

/-- An MSM7 message over cells that its masks can hold: number, station, epoch time, multiple-message bit, and the 11 bits of the header
that the rule leaves to the device. -/
def msm7 (num sta epoch free : Nat) (multi : Bool) (cs : List Cell) : List Bool :=
  let vs := cellSats cs
  let gs := cellSigs cs
  let cells := vs.flatMap (fun v => gs.filterMap (fun g => cs.find? (fun c => c.sat == v && c.sig == g)))
  msbBits 12 num ++ msbBits 12 sta ++ msbBits 30 epoch ++ [multi] ++ msbBits 3 free ++ msbBits 7 0 ++ msbBits 8 (free / 8)
    ++ (List.range 64).map (fun v => vs.contains (v + 1)) ++ (List.range 32).map (fun g => gs.contains (g + 1))
    ++ vs.flatMap (fun v => gs.map (fun g => cs.any (fun c => c.sat == v && c.sig == g)))
    ++ vs.flatMap (fun v => msbBits 8 (roughWhole (satRough cs v)))
    ++ vs.flatMap (fun _ => msbBits 4 0)
    ++ vs.flatMap (fun v => msbBits 10 ((satRough cs v).toNat % 1024))
    ++ vs.flatMap (fun v => fieldOr 14 (roughRate cs v))
    ++ cells.flatMap (fun c => fieldOr 20 (some (rangeMs 29 c.pr - satRough cs c.sat * 2 ^ 19)))
    ++ cells.flatMap (fun c => fieldOr 24 ((phaseMs c).map (fun p => p - satRough cs c.sat * 2 ^ 21)))
    ++ cells.flatMap (fun c => msbBits 10 (lockIndicator c.lock))
    ++ cells.map (·.half)
    ++ cells.flatMap (fun c => msbBits 10 (min c.cn0 1023))
    ++ cells.flatMap (fun c => fieldOr 15 (match phaseRate c, roughRate cs c.sat with
        | some r, some q => some (r - q * 10000)
        | _, _ => none))

/-- Cells in parts that a message holds: at most 64 places of satellites by signals. -/
def splitCells (cs : List Cell) : List (List Cell) :=
  let vs := cellSats cs
  let n := 64 / max 1 (cellSigs cs).length
  ((List.range ((vs.length + n - 1) / n)).map (fun k => (vs.drop (k * n)).take n)).map (fun p => cs.filter (fun c => p.contains c.sat))

/-- Constellations in the order of their messages: number, the bit of CONST, and the milliseconds by which the system's own time lies
behind that of GPS. -/
def rtcmSystems : List (Nat × Nat × Nat) := [(1077, 0, 0), (1097, 1, 0), (1107, 4, 0), (1117, 3, 0), (1127, 2, 14000)]

/-- The constellation of a SIGNAL, in the order of the bits of CONST, and the standard's signal number: C/A for one component, else the
combined code of the band. -/
def rtcmSignal : Nat → Option (Nat × Nat)
  | 0x01 => some (0, 2)
  | 0x02 => some (0, 32)
  | 0x03 => some (0, 24)
  | 0x04 => some (1, 5)
  | 0x05 => some (1, 24)
  | 0x06 => some (2, 32)
  | 0x07 => some (2, 24)
  | 0x08 => some (3, 2)
  | 0x09 => some (3, 32)
  | 0x0A => some (3, 24)
  | 0x0B => some (4, 2)
  | 0x0C => some (4, 24)
  | _ => none

/-- The MSM7 messages of an epoch as numbers, epoch times and cells; `tow` is the time of week in ms. -/
def rtcmParts (consts tow : Nat) (cells : List (Nat × Cell)) : List (Nat × Nat × List Cell) :=
  (rtcmSystems.filter (fun y => consts.testBit y.2.1)).flatMap (fun y =>
    (splitCells ((cells.filter (fun c => c.1 == y.2.1)).map (·.2))).map (fun p => (y.1, (tow + 604800000 - y.2.2) % 604800000, p)))

/-- The MSM7 frames of an epoch: the multiple-message bit is 1 on all but the last. -/
def msmFrames (sta free : Nat) : List (Nat × Nat × List Cell) → List Byte
  | [] => []
  | p :: r => rtcmFrame (msm7 p.1 sta p.2.1 free (!r.isEmpty) p.2.2) ++ msmFrames sta free r

/-- Message 1005: station, systems, and the antenna reference point in 0.0001 m. -/
def msg1005 (sta itrf : Nat) (gps gal : Bool) (x y z : Int) : List Byte :=
  rtcmFrame (msbBits 12 1005 ++ msbBits 12 sta ++ msbBits 6 itrf ++ [gps, false, gal, false] ++ msbInt 38 x ++ [true, false]
    ++ msbInt 38 y ++ msbBits 2 0 ++ msbInt 38 z)

end Sys2Proof.Machine
end

