-- ==== Sys2Proof/Machine/Chains.lean ====
section
/-! DEFINITION. The two RF chains and GNSS naps (spec/04 R100 to R105, spec/05 R153 to R155). -/

namespace Sys2Proof.Machine

open Sys2Proof.Fields

/-- A nap is in progress. -/
def State.napping (s : State) : Bool := s.isSet GNT_NAPSTAT_NAPPING

/-- A chain would sample if no nap kept it off. -/
def State.chainUp (s : State) (b : Nat) : Bool := s.isSet (GNF_CTL_ENABLE b) && s.live (4 + b) && s.isSet (GNF_STAT_LOLOCK b)

/-- A band has samples (R105). -/
def State.hasSamples (s : State) (b : Nat) : Bool := s.chainUp b && !s.napping && !s.gnss.settling

/-- A band has no samples for a snapshot: a chain that is powered for it samples during the nap (R122, R123). -/
def State.snapAbsent (s : State) (p : Snap) (b : Nat) : Bool :=
  if p.powered then !s.chainUp b else s.gnss.noSamp.getD b true

/-- The band was without samples when the snapshot last looked. -/
def Snap.gone (p : Snap) (b : Nat) : Bool :=
  match p.cuts.find? (fun c => c.1 == b) with
  | some c => c.2.2
  | none => false

/-- A snapshot that captures notes that a band has lost its samples, or has them again (R123). -/
def State.snapNote (s : State) (b : Nat) : State :=
  match s.gnss.snap with
  | none => s
  | some p =>
    let a := s.snapAbsent p b
    if !p.first || p.gone b == a then s
    else { s with gnss := { s.gnss with snap := some { p with cuts := (b, s.tim.ts - p.start, a) :: p.cuts } } }

/-- The allocated slices, and those of a band that correlate. -/
def State.allSlices (s : State) : List Nat := List.range (s.fld GNC_PLAN_NSLICES)
def State.sliceOn (s : State) (i : Nat) : Bool := getFld (s.slice i).cfg ⟨0, 15, 1⟩ != 0
def State.bandSlices (s : State) (b : Nat) : List Nat :=
  s.allSlices.filter (fun i => s.sliceOn i && bandOf (getFld (s.slice i).cfg ⟨0, 0, 8⟩) == b)

/-- A band enters the no-samples state (R105). -/
def State.bandLost (s : State) (b : Nat) : State :=
  let s := { s with gnss := { s.gnss with noSamp := s.gnss.noSamp.set b true } }
  let s := (s.bandSlices b).foldl (fun s i => s.setFld (SL_STAT_NOSAMPLES i) 1) s
  (s.raise 54).acqLost b

/-- A band's samples resume (R105): NOSAMPLES of every slice of the band falls, and the next dump of each enabled one carries it. A set
of blocks that should have begun meanwhile has none (R120). -/
def State.bandBack (s : State) (b : Nat) : State :=
  let s := s.acqDue
  let s := { s with gnss := { s.gnss with noSamp := s.gnss.noSamp.set b false } }
  let s := (s.allSlices.filter (fun i => bandOf (getFld (s.slice i).cfg ⟨0, 0, 8⟩) == b)).foldl (fun s i =>
    s.setFld (SL_STAT_NOSAMPLES i) 0) s
  (s.bandSlices b).foldl (fun s i => s.setSlice i { s.slice i with resumed := true }) s

/-- What a change of a chain's conditions does to its band. -/
def State.refreshBand (s : State) (b : Nat) : State :=
  (match s.gnss.noSamp.getD b true, s.hasSamples b with
  | false, false => s.bandLost b
  | true, true => s.bandBack b
  | _, _ => s).snapNote b

def State.refreshBands (s : State) : State := (s.refreshBand 0).refreshBand 1

/-- A nap starts (R153, R154). -/
def State.napStart (s : State) : State :=
  let s := (s.setFld GNT_NAPSTAT_NAPPING 1).setFld GNT_NAPSTAT_REFUSED 0
  let s := (s.count GNT_NAPSTAT_NAPS).raise 75
  let s := (s.setFld TIM_STAT_NAPHOLD 1).setFld TIM_HOLDERR_ERR 0
  { s with tim := { s.tim with errLim := false } }.refreshBands

/-- A nap ends (R155): the chains are powered and settle for 2 ms. -/
def State.napEnd (s : State) : State :=
  if s.napping then
    let s := (s.setFld GNT_NAPSTAT_NAPPING 0).setFld TIM_STAT_NAPHOLD 0
    let s := if s.mode = modeHoldover then s else s.setFld TIM_HOLDERR_ERR 0
    { s.raise 76 with gnss := { s.gnss with settling := true, napAwait := true },
                      sys := { s.sys with awakeFrom := s.tim.ts } }
  else s

/-- The chains have settled, and tracking resumes as a hot start (R155). -/
def State.napSettled (s : State) : State :=
  if s.gnss.settling then
    ({ s with gnss := { s.gnss with settling := false, ttffFrom := some s.tim.ts } }.setFld GNT_START_CLASS 1).refreshBands
  else s

/-! ### Chains (R102 to R105, R126) -/

/-- An end of the range of a chain's gain in 0.5 dB. -/
def gainEnd (high : Bool) : Nat := if high then 120 else 0

/-- The gain of a chain that does not follow the signal: frozen, or set by hand. -/
def State.setGain (s : State) (b : Nat) : Option Nat :=
  match s.fld (GNF_CTL_AGCMODE b) with
  | 0 => none
  | 1 => some (s.fld (GNF_AGC_GAIN b))
  | _ => some (s.fld (GNF_AGC_MANGAIN b))

def State.setAtEnd (s : State) (b : Nat) (x : Option Bool) : State := { s with gnss := { s.gnss with atEnd := s.gnss.atEnd.set b x } }

/-- A gain that a register sets has left the end at which the event was raised. -/
def State.leaveEnd (s : State) (b : Nat) : State :=
  match s.setGain b, s.gnss.atEnd.getD b none with
  | some g, some high => if g = gainEnd high then s else s.setAtEnd b none
  | _, _ => s

/-- AGC_LIMIT (R102): the gain has held at an end for 100 ms. The event is raised once, and again only after the gain has left that end;
whether a gain that follows the signal left it since then is the operand `left`. -/
def execAgcLimit (band : Fin 2) (high left : Bool) (s : State) : Host.Outcome State Fault Refusal :=
  let b := band.val
  let held : Bool := match s.setGain b with
    | none => true
    | some g => g == gainEnd high
  let again : Bool := s.gnss.atEnd.getD b none != some high || (left && (s.setGain b).isNone)
  if held && again then
    let s := if (s.setGain b).isNone then s.setFld (GNF_AGC_GAIN b) (gainEnd high) else s
    .next ((s.setAtEnd b (some high)).raise (42 + b))
  else .next s

/-- BLANK_FRACTION_HIGH (R103): the fraction in units of 2^−16; above 1/16 the event is raised, at most once per second. -/
def execBlankFractionHigh (band : Fin 2) (frac : BitVec 16) (s : State) : Host.Outcome State Fault Refusal :=
  let b := band.val
  if !s.isSet (GNF_CTL_BLANKEN b) then .next s
  else
    let s := s.setFld (GNF_STAT_BLANKFRAC b) frac.toNat
    .next (if 4096 < frac.toNat then s.raiseLimited (44 + b) (44 + b) else s)

/-- Another adaptive notch of the chain has locked within 60 kHz of a frequency. -/
def State.notchNear (s : State) (b k : Nat) (freq : BitVec 12) : Bool :=
  (List.range 4).any (fun j => j != k && s.isSet (GNF_NOTCH_LOCKED b j) &&
    decide ((s.fldInt (GNF_NOTCH_FREQ b j) - freq.toInt).natAbs < 8))

/-- A notch filter works: it is not off, and the chain's notches are on. -/
def State.notchOn (s : State) (b k : Nat) : Bool := s.fld (GNF_NOTCH_MODE b k) != 0 && s.isSet (GNF_CTL_NOTCHEN b)

/-- A notch filter takes up its settings: one that is no longer adaptive releases its line, one that is off has no depth, and the depth
of a fixed one is free (log entry 68). -/
def State.notchSet (s : State) (b k : Nat) : State :=
  let s := if s.isSet (GNF_NOTCH_LOCKED b k) && !(s.notchOn b k && s.fld (GNF_NOTCH_MODE b k) == 1) then
    (s.setFld (GNF_NOTCH_LOCKED b k) 0).raise 46 else s
  if !s.notchOn b k then s.setFld (GNF_NOTCH_DEPTH b k) 0
  else if s.fld (GNF_NOTCH_MODE b k) = 2 then
    let (d, s) := s.fresh
    s.setFld (GNF_NOTCH_DEPTH b k) (d % 256)
  else s

/-- NOTCH_CHANGE (R104): an adaptive notch locks onto a line, or releases it. A lock that the notch already holds has moved: the notch
tracks it, and nothing is raised. -/
def execNotchChange (band : Fin 2) (k : Fin 4) (lock : Bool) (freq : BitVec 12) (depth : Byte) (s : State) :
    Host.Outcome State Fault Refusal :=
  let b := band.val
  let j := k.val
  let was := s.isSet (GNF_NOTCH_LOCKED b j)
  if s.fld (GNF_NOTCH_MODE b j) = 1 && s.isSet (GNF_CTL_NOTCHEN b) && (was || lock) && !(lock && !was && s.notchNear b j freq) then
    let s := ((s.setBit (GNF_NOTCH_LOCKED b j) lock).setFld (GNF_NOTCH_FREQ b j) freq.toNat).setFld (GNF_NOTCH_DEPTH b j) depth.toNat
    .next (if was == lock then s else s.raise 46)
  else .next s

/-- LO_UNLOCK (R105). -/
def execLoUnlock (band : Fin 2) (s : State) : Host.Outcome State Fault Refusal :=
  let b := band.val
  if s.isSet (GNF_STAT_LOLOCK b) then .next (((s.setFld (GNF_STAT_LOLOCK b) 0).raise (40 + b)).refreshBand b)
  else .next s

/-- LO_LOCK (R105). -/
def execLoLock (band : Fin 2) (s : State) : Host.Outcome State Fault Refusal :=
  .next ((s.setFld (GNF_STAT_LOLOCK band.val) 1).refreshBand band.val)

/-- INPUT_OVERLOAD (R126): the event is raised when OVERLOAD becomes set. -/
def execInputOverload (band : Fin 2) (s : State) : Host.Outcome State Fault Refusal :=
  let b := band.val
  let u := s.latch (GNF_STAT_OVERLOAD b)
  .next (if s.isSet (GNF_STAT_OVERLOAD b) then u else u.raise 47)

/-! ### Naps -/

/-- NAP_TIMER_EXPIRY (R155). -/
def execNapTimerExpiry (s : State) : Host.Outcome State Fault Refusal := .next s.napEnd

/-- NAP_SETTLE_DONE (R155). -/
def execNapSettleDone (s : State) : Host.Outcome State Fault Refusal := .next s.napSettled

end Sys2Proof.Machine
end

