-- ==== Sys2Proof/Machine/Time.lean ====
section
/-! DEFINITION. The timebase: time references and their health, the discipline, the reference monitor, frequency
references, oscillator models, leap seconds and the current time (spec/06 R160 to R181, R190). -/

namespace Sys2Proof.Machine

open Sys2Proof.Fields

/-! ### Reference states (TIM_REFSTAT) -/

/-- The state field of a frequency reference (0 XO, 1 REFA, 2 REFB) and of a time reference (1 GNSS, 2 PTP, 3 PPS_IN). -/
def frefFld (r : Nat) : Fld := ⟨TIM_REFSTAT, 4 * r, 3⟩
def trefFld (r : Nat) : Fld := ⟨TIM_REFSTAT, 8 + 4 * r, 3⟩

def stAbsent : Nat := 1
def stQualifying : Nat := 2
def stHealthy : Nat := 3
def stWarning : Nat := 4
def stFault : Nat := 5
def stSuspect : Nat := 6

def State.frefState (s : State) (r : Nat) : Nat := s.fld (frefFld r)
def State.trefHealthy (s : State) (r : Nat) : Bool := s.fld (trefFld r) == stHealthy
def State.frefPresent (s : State) (r : Nat) : Bool := s.frefState r != 0 && s.frefState r != stAbsent
def State.fref (s : State) (r : Nat) : FRef := tabGet FRef.cold s.tim.frefs r
def State.setFref (s : State) (r : Nat) (x : FRef) : State :=
  { s with tim := { s.tim with frefs := tabSet FRef.cold r x s.tim.frefs } }

/-- The selected frequency reference. -/
def State.selFref (s : State) : Nat := s.fld TIM_STAT_FREF

/-- The references of a priority list, first in front, without "none". -/
def State.trefList (s : State) : List Nat :=
  [s.fld TIM_TREFCFG_PRI0, s.fld TIM_TREFCFG_PRI1, s.fld TIM_TREFCFG_PRI2].filter (· != 0)
def State.frefList (s : State) : List Nat :=
  [s.fld TIM_FREFCFG_PRI0, s.fld TIM_FREFCFG_PRI1, s.fld TIM_FREFCFG_PRI2].filter (· != 3)

/-! ### DEGRADED (R177) -/

/-- DEGRADED follows its three grounds, and each change is raised. -/
def State.refreshDegraded (s : State) : State :=
  let d := s.tim.degJump || s.tim.degFault || s.mode == modeHoldover
  if s.isSet TIM_STAT_DEGRADED = d then s else (s.setBit TIM_STAT_DEGRADED d).raise 20

/-! ### Leap seconds (R163 to R165) -/

def leapAddr (e w : Nat) : Nat := 0x460000 + 16 * e + 4 * w
def State.leapValid (s : State) (e : Nat) : Bool := (s.get (leapAddr e 2)).getLsbD 16
def State.leapSec (s : State) (e : Nat) : Nat := (s.get (leapAddr e 0)).toNat + 2 ^ 32 * ((s.get (leapAddr e 1)).toNat % 2 ^ 16)
def State.leapDat (s : State) (e : Nat) : Int := toSigned 16 (s.get (leapAddr e 2)).toNat

/-- How many entries are in use. -/
def State.leapCount (s : State) : Nat := ((List.range 256).filter s.leapValid).length

/-- The rules of R164 hold of the entries in use. -/
def State.leapOk (s : State) : Bool :=
  let n := s.leapCount
  (List.range n).all s.leapValid &&
    (List.range (n - 1)).all (fun e => decide (s.leapSec e < s.leapSec (e + 1)) &&
      (s.leapDat (e + 1) - s.leapDat e).natAbs == 1)

/-- The second before an entry's EFFSEC lies less than 2 s in the future. -/
def State.leapNear (s : State) (e : Nat) : Bool :=
  decide (s.leapSec e * ticksPerSecond < s.tim.ts + 3 * ticksPerSecond)

/-- Why a write of a word of the table is rejected, if it is (R164, R181). -/
def State.leapReject (s : State) (e w : Nat) (v : Word) : Option Nat :=
  let t := s.put (leapAddr e w) v
  if s.leapValid e && s.leapNear e then some 4
  else if !t.leapOk then some 1
  else if t.leapValid e && t.leapNear e && decide (t.second < t.leapSec e) then some 4
  else none

/-- The entry in force, and the next one. -/
def State.leapNow (s : State) : Option Nat := ((List.range s.leapCount).filter (fun e => s.leapSec e ≤ s.second)).getLast?
def State.leapNext (s : State) : Option Nat := (List.range s.leapCount).find? (fun e => s.second < s.leapSec e)

/-- ΔAT in force; 0 while no entry applies. -/
def State.deltaAt (s : State) : Int := match s.leapNow with
  | some e => s.leapDat e
  | none => 0

/-- The next entry, where its EFFSEC lies within 24 h. -/
def State.leapSoon (s : State) : Option Nat := s.leapNext.filter (fun e => decide (s.leapSec e ≤ s.second + 86400))

/-- PENDING is 1 for an entry; where it rises, the RTC's leap is armed (R165, R453). -/
def State.leapRaise (s : State) (e : Nat) : State :=
  let neg := decide (0 < e) && decide (s.leapDat e < s.leapDat (e - 1))
  if s.isSet TIM_LEAP_PENDING then s.setBit TIM_LEAP_NEG neg
  else
    let s := ((s.setFld TIM_LEAP_PENDING 1).setBit TIM_LEAP_NEG neg).raise 32
    (s.setFld BKP_CTL_LEAPARM 1).setBit BKP_CTL_LEAPNEG neg

/-- PENDING is judged anew, where the table or the time has changed otherwise than by its running (R165). -/
def State.leapJudge (s : State) : State :=
  match s.leapSoon with
  | some e => s.leapRaise e
  | none => (s.setFld TIM_LEAP_PENDING 0).setFld TIM_LEAP_NEG 0

/-- The next entry comes within 24 h (R165). -/
def State.leapPend (s : State) : State :=
  match s.leapNext with
  | none => s
  | some e => (s.timeTo ((s.leapSec e - 86400) * ticksPerSecond)).leapRaise e

/-- The EFFSEC of the pending entry begins, or the time has reached it already (R165). -/
def State.leapBegin (s : State) : State :=
  if s.isSet TIM_LEAP_PENDING then
    let s := match s.leapSoon with
      | some e => s.timeTo (s.leapSec e * ticksPerSecond)
      | none => s
    ((s.setFld TIM_LEAP_PENDING 0).setFld TIM_LEAP_NEG 0).raise 33
  else s

/-! ### Time updates (R16, R174 to R177) -/

/-- TVALID takes a value, and each change is raised. -/
def State.setTvalid (s : State) (v : Bool) : State :=
  if s.isSet TIM_STAT_TVALID = v then s
  else
    let s := (s.setBit TIM_STAT_TVALID v).raise (if v then 16 else 17)
    if v then { s with mac := { s.mac with tvSeen := true } } else s

/-- TS64 and the beat grid move by a number of ticks. -/
def State.stepTime (s : State) (d : Int) : State :=
  let mv (t : Nat) : Nat := ((t : Int) + d).toNat
  { s with
    tim := { s.tim with ts := mv s.tim.ts, edge := mv s.tim.edge, last := mv s.tim.last }
    gnss := { s.gnss with
      slices := s.gnss.slices.map (fun p => (p.1, { p.2 with ncoAt := mv p.2.ncoAt }))
      snap := s.gnss.snap.map (fun p => { p with start := mv p.start }) } }

/-- The step of R175: time moves by −x ps, and the pending edge is the first edge of the grid at least L/2 later. -/
def State.surveyStep (s : State) (x : Int) : State :=
  let s := s.stepTime (-(x * 49152 / 100000000))
  let e := s.gridAfter (s.tim.ts + s.beatTicks / 2)
  ({ s with tim := { s.tim with edge := e, last := e - s.beatTicks, slew := 0 } }.setFld TIM_STAT_SLEWING 0).leapJudge

/-- A phase correction is to be slewed (R16, R176). -/
def State.setSlew (s : State) (x : Int) : State :=
  { s with tim := { s.tim with slew := x } }.setBit TIM_STAT_SLEWING (x != 0)

/-- The beat's share of the phase correction is applied (R176). -/
def State.slewBeat (s : State) : State :=
  let n : Int := s.fld TIM_DISCCFG_SLEW * 1000
  let x := s.tim.slew
  s.setSlew (if x.natAbs ≤ n.natAbs then 0 else if x < 0 then x + n else x - n)

/-- The count of consecutive updates within 1 µs, and what it does in SURVEY (R175). -/
def State.surveyCount (s : State) (x : Int) : State :=
  let n := if x.natAbs ≤ 1000000 then s.tim.good + 1 else 0
  let s := { s with tim := { s.tim with good := n } }
  if 3 ≤ n then s.setTvalid true else s

/-- |x| is judged against TJUMP (R177). -/
def State.judgeJump (s : State) (x : Int) : State :=
  if !s.tim.judgeJump then s
  else
    let s := { s with tim := { s.tim with judgeJump := false } }
    if s.fld TIM_TREFCFG_TJUMP * 10000 < x.natAbs then
      { s.raise 19 with tim := { (s.raise 19).tim with degJump := true } }.refreshDegraded
    else s

/-- A frequency correction within the synthesiser's pull range of ±100 ppm (R172), in 0.001 ppb. -/
def pullRange (x : Int) : Int := max (-100000000) (min x 100000000)

/-- The first offset of a newly healthy reference has come, in a mode with beats (R175). -/
def State.seenRef (s : State) (r : Nat) : State :=
  if s.beating then { s with tim := { s.tim with newRefs := s.tim.newRefs.filter (· != r) } } else s

/-- A time update of the selected reference is applied (R175 to R177). The applied frequency correction comes from the
loop, whose numbers the spec does not give: within the pull range it is free. -/
def State.applyUpdate (s : State) (u : TimeUpd) : State :=
  let first := s.tim.newRefs.contains u.ref
  let s := s.seenRef u.ref
  if s.fld TIM_STAT_TREF ≠ u.ref then s
  else
    let s := s.setInt TIM_OFS_X (satSigned 32 u.x)
    let (f, s) := s.fresh
    let s := (s.setInt TIM_FRQ_Y (pullRange (toSigned 32 f))).judgeJump u.x
    if s.mode = modeSurvey then
      if first && decide (1000000 < u.x.natAbs) then { s with tim := { s.tim with good := 0 } }.surveyStep u.x
      else (s.setSlew u.x).surveyCount u.x
    else s.setSlew u.x

/-- A time update arrives; during a switch of frequency reference it is held (R168). -/
def State.timeUpdate (s : State) (u : TimeUpd) : State :=
  if s.tim.switchTo.isSome then { s with tim := { s.tim with heldUpd := s.tim.heldUpd ++ [u] } }
  else s.applyUpdate u

/-- TVALID after a change of the time references' health (R175). -/
def State.judgeTvalid (s : State) : State :=
  let any := [1, 2, 3].any s.trefHealthy
  if s.serving then s.setTvalid any
  else if s.mode = modeSurvey && !any then { s with tim := { s.tim with good := 0 } }.setTvalid false
  else s

/-- The selected time reference is the first healthy one of the list (R174). -/
def State.selectTref (s : State) : State :=
  let r := (s.trefList.find? s.trefHealthy).getD 0
  if s.fld TIM_STAT_TREF = r then s
  else
    let s := (s.setFld TIM_STAT_TREF r).raise 18
    { s with tim := { s.tim with judgeJump := (r != 0 && s.mode == modeService) || s.tim.judgeJump } }

/-- A time reference becomes healthy, or is lost (R173). -/
def State.setTref (s : State) (r : Nat) (ok : Bool) : State :=
  if s.trefHealthy r = ok then s
  else
    let s := s.setFld (trefFld r) (if ok then stHealthy else stAbsent)
    let s := if r = 3 then s.raise (if ok then 26 else 27) else s
    let s := { s with tim := { s.tim with
      secKnown := s.tim.secKnown || (ok && r != 3)
      newRefs := if ok then insertNat r s.tim.newRefs else s.tim.newRefs.filter (· != r) } }
    s.selectTref.judgeTvalid

/-- SURVEY is entered: TVALID falls and the count of R175 restarts. -/
def State.surveyTime (s : State) : State :=
  { s with tim := { s.tim with good := 0 } }.setTvalid false

/-! ### Holdover and naps (R179) -/

/-- TIM asks GNSS to wake. -/
def State.wakeRequest (s : State) : State := if s.napping then (s.raise 31).napEnd else s

/-- The frequency of a model at an instant. -/
def FRef.freqAt (x : FRef) (t : Nat) : Int := x.freq + x.drift * ((t - x.mark : Nat) : Int) / (86400 * (ticksPerSecond : Int))

/-- In HOLDOVER and during a nap the timebase steers from the model of the selected reference where that is valid or mature, and else
stays at the last frequency (R178, R179). -/
def State.modelSteer (s : State) : State :=
  let x := s.fref s.selFref
  if (s.mode == modeHoldover || s.napping) && decide (3600 ≤ x.learned) then s.setInt TIM_FRQ_Y (pullRange (x.freqAt s.tim.ts)) else s

/-- The estimate of the time error starts from 0 (R179). -/
def State.holdStart (s : State) : State :=
  { s with tim := { s.tim with errLim := false } }.setFld TIM_HOLDERR_ERR 0

/-- A second of holdover or nap: the estimate is free, and its limits are judged (R179). -/
def State.holdSecond (s : State) : State :=
  if s.mode != modeHoldover && !s.napping then s
  else
    let (e, s) := s.modelSteer.fresh
    let s := s.setFld TIM_HOLDERR_ERR e
    let s :=
      if s.fld TIM_HOLDCFG_ERRLIM * 10 < s.fld TIM_HOLDERR_ERR && !s.tim.errLim then
        { s with tim := { s.tim with errLim := true } }.raise 30
      else s
    if s.fld TIM_HOLDCFG_NAPERR < s.fld TIM_HOLDERR_ERR then s.wakeRequest else s

/-! ### Frequency references (R167, R168, R170 to R172) -/

/-- The reference that the rules select now (R167, R171, R172). -/
def State.wantFref (s : State) : Nat :=
  let cur := s.selFref
  let keep := s.frefState cur == stHealthy || s.frefState cur == stWarning || s.frefState cur == stSuspect
  let healthy (r : Nat) : Bool := s.frefState r == stHealthy
  if keep then
    if s.isSet TIM_FREFCFG_REVERT then ((s.frefList.takeWhile (· != cur)).find? healthy).getD cur else cur
  else (s.frefList.find? healthy).getD cur

/-- A faulted selected reference with no healthy one beside it degrades the time (R172). -/
def State.judgeFref (s : State) : State :=
  let d := s.frefState s.selFref == stFault && !s.frefList.any (fun r => s.frefState r == stHealthy)
  { s with tim := { s.tim with degFault := d } }.refreshDegraded

/-- A switch of frequency reference starts where the rules select another one (R167, R168, R179). -/
def State.selectFref (s : State) : State :=
  let s := s.judgeFref
  if s.tim.switchTo.isSome || s.wantFref = s.selFref then s
  else { s with tim := { s.tim with switchTo := some s.wantFref } }.wakeRequest

/-- A switch ends: the updates held during it are applied, and the selection is judged again (R168). -/
def State.switchDone (s : State) : State :=
  match s.tim.switchTo with
  | none => s
  | some r =>
    let us := s.tim.heldUpd
    let s := (s.setFld TIM_STAT_FREF r).raise 21
    let s := { s with tim := { s.tim with switchTo := none, heldUpd := [] } }
    (us.foldl (fun s u => s.applyUpdate u) s.modelSteer).selectFref

/-- A frequency reference enters a state, with the event of R170 and the model of R178. -/
def State.setFrefState (s : State) (r st : Nat) : State :=
  if s.frefState r = st then s
  else
    let s := s.setFld (frefFld r) st
    let s := if st = stFault ∨ st = stAbsent then
      s.setFref r { s.fref r with learned := 0, freq := 0, drift := 0, ofs := 0, ys := if st = stAbsent then [] else (s.fref r).ys }
      else s
    let s := if st = stQualifying then s.setFref r { s.fref r with qual := 0 } else s
    let s := if st = stWarning then s.raise 22 else if st = stFault then s.raise 23
      else if st = stAbsent then s.raise 24 else s
    if r = s.selFref ∧ (st = stWarning ∨ st = stFault ∨ st = stAbsent) then s.wakeRequest else s

/-- The least-squares slope of points (seconds ago, y), per second, as a numerator and a denominator that is 0 where fewer than two
points determine it (R169). -/
def lsSlope (ps : List (Nat × Int)) : Int × Nat :=
  let n := ps.length
  let st := (ps.map (·.1)).sum
  let stt := (ps.map (fun p => p.1 * p.1)).sum
  let sy := (ps.map (·.2)).sum
  let sty := (ps.map (fun p => (p.1 : Int) * p.2)).sum
  ((st : Int) * sy - (n : Int) * sty, n * stt - st * st)

/-- A measurement: y, and its slope. -/
structure Drift where
  y     : Int
  slope : Int × Nat
  deriving DecidableEq, Repr

/-- The measurement of a reference against GNSS, or of reference a against b, over the last 60 s. DESIGN CHOICE (log entry 76): seconds
without a measurement are left out of the slope, and with fewer than two it is no ground for anything. -/
def State.drift (s : State) (r : Nat) : Drift :=
  let ps := (s.fref r).ys.zipIdx.filterMap (fun p => match p.1 with
    | some (y, true) => some (p.2, y)
    | _ => none)
  ⟨(ps.head?.map (·.2)).getD 0, lsSlope ps⟩
def State.driftBetween (s : State) (a b : Nat) : Drift :=
  let ps := ((s.fref a).ys.zip (s.fref b).ys).zipIdx.filterMap (fun p => match p.1 with
    | (some (y, _), some (z, _)) => some (p.2, y - z)
    | _ => none)
  ⟨(ps.head?.map (·.2)).getD 0, lsSlope ps⟩

/-- The history of a reference takes a second's measurement. -/
def State.pushY (s : State) (r : Nat) (y : Option (Int × Bool)) : State :=
  s.setFref r { s.fref r with ys := y :: (s.fref r).ys.take 59 }

/-- u is at least p/100 (R170). -/
def State.uAtLeast (s : State) (p : Nat) (d : Drift) : Bool :=
  decide (p * (s.fld TIM_MONCFG_ABSWIN * 10000) ≤ 100 * d.y.natAbs) ||
    (decide (0 < d.slope.2) && decide (p * (s.fld TIM_MONCFG_SLOPEWIN * 100) * d.slope.2 ≤ 6000 * d.slope.1.natAbs))

/-- The state of a reference after a measurement (R170). -/
def State.moveFref (s : State) (r : Nat) (d : Drift) : State :=
  let out := s.uAtLeast 100 d
  let high := s.uAtLeast 80 d
  let h := s.fld TIM_MONCFG_HYST
  let st := s.frefState r
  if st = stFault then
    if s.uAtLeast (100 - h) d then s else s.setFrefState r stQualifying
  else if out then s.setFrefState r stFault
  else if st = stQualifying then
    if high then s.setFref r { s.fref r with qual := 0 }
    else if s.fld TIM_MONCFG_QUALTIME ≤ (s.fref r).qual + 1 then s.setFrefState r stHealthy
    else s.setFref r { s.fref r with qual := (s.fref r).qual + 1 }
  else if st = stHealthy then (if high then s.setFrefState r stWarning else s)
  else if st = stWarning then (if s.uAtLeast (80 - h) d then s else s.setFrefState r stHealthy)
  else if high then s.setFrefState r stWarning
  else s.setFrefState r stHealthy

/-- Two present references disagree: they are outside the window against each other (R171). -/
def State.disagree (s : State) (a b : Nat) : Bool := s.uAtLeast 100 (s.driftBetween a b)

/-- A reference becomes suspect (R171). -/
def State.setSuspect (s : State) (rs : List Nat) : State :=
  let fresh := rs.any (fun r => s.frefState r != stSuspect)
  let s := rs.foldl (fun s r => s.setFrefState r stSuspect) s
  if fresh then s.raise 25 else s

/-- A reference is assessed on its comparison with another one; a suspect stays suspect until blame is assigned. -/
def State.moveAgainst (s : State) (blame : Bool) (r o : Nat) : State :=
  if s.frefState r == stSuspect && !blame then s else s.moveFref r (s.driftBetween r o)

/-- A second of the monitor without a healthy GNSS reference (R171). -/
def State.compareFrefs (s : State) : State :=
  match [0, 1, 2].filter s.frefPresent with
  | [a, b] =>
    if s.disagree a b then s.setSuspect [a, b]
    else (s.moveAgainst false a b).moveAgainst false b a
  | [a, b, c] =>
    let ab := s.disagree a b
    let ac := s.disagree a c
    let bc := s.disagree b c
    if ab && ac && bc then s.setSuspect [a, b, c]
    else if ab && ac then ((s.moveAgainst true a b).moveAgainst true b c).moveAgainst true c b
    else if ab && bc then ((s.moveAgainst true b a).moveAgainst true a c).moveAgainst true c a
    else if ac && bc then ((s.moveAgainst true c a).moveAgainst true a b).moveAgainst true b a
    else
      let near (o p : Nat) (out : Bool) : Nat := if out then p else o
      ((s.moveAgainst false a (near b c ab)).moveAgainst false b (near a c ab)).moveAgainst false c (near a b ac)
  | _ => s

/-- A reference is measured against GNSS (R169, R170). -/
def State.measureFref (s : State) (m : Nat → RefMeas) (r : Nat) : State :=
  if !s.frefPresent r then s.setFld (TIM_REFY_Y r) 0x80000000
  else (s.setInt (TIM_REFY_Y r) (satSigned 32 (m r).y)).moveFref r (s.drift r)

/-- A reference with a rate error is faulted at once (R169). -/
def State.faultRates (s : State) (m : Nat → RefMeas) : State :=
  [0, 1, 2].foldl (fun s r => if s.frefPresent r && (m r).rate then s.setFrefState r stFault else s) s

/-- A model that learns for a second more; the command MODEL_STATE_CHANGE passes the marks of 1 h and 24 h (R178). -/
def State.learnSecond (s : State) : State :=
  let r := s.selFref
  if s.mode = modeService && s.isSet TIM_STAT_TVALID && !s.napping then
    let x := s.fref r
    let (f, s) := s.fresh
    let (d, s) := s.fresh
    let (o, s) := s.fresh
    let n := x.learned + 1
    s.setFref r { x with learned := if n = 3600 ∨ n = 86400 then x.learned else n, freq := toSigned 32 f, drift := toSigned 32 d,
                         ofs := toSigned 32 o, mark := s.tim.ts }
  else s

/-- A second of the reference monitor (R169 to R172, R178, R179). -/
def State.monitorSecond (s : State) (m : Nat → RefMeas) : State :=
  let n := ([0, 1, 2].filter s.frefPresent).length
  let gnss := s.trefHealthy 1
  let blind := !gnss && n == 1
  let s := s.setBit TIM_STAT_MONBLIND blind
  let s := [0, 1, 2].foldl (fun s r => s.pushY r (if s.frefPresent r && !blind then some ((m r).y, gnss) else none)) s
  let s :=
    if gnss then ([0, 1, 2].foldl (fun s r => s.measureFref m r) s).faultRates m
    else
      let s := [0, 1, 2].foldl (fun s r => s.setFld (TIM_REFY_Y r) 0x80000000) s
      if blind then s else s.compareFrefs.faultRates m
  s.selectFref.learnSecond.holdSecond

/-- A model's learned time reaches 1 h or 24 h (R178). -/
def State.modelMark (s : State) : State :=
  let r := s.selFref
  let x := s.fref r
  if s.mode = modeService && s.isSet TIM_STAT_TVALID then
    if x.learned < 3600 then (s.setFref r { x with learned := 3600 }).raise 28
    else if x.learned < 86400 then (s.setFref r { x with learned := 86400 }).raise 29
    else s
  else s

/-- STATE of TIM_MODEL (R178). -/
def State.modelState (s : State) : Nat :=
  let n := (s.fref s.selFref).learned
  if n = 0 then 0 else if n < 3600 then 1 else if n < 86400 then 2 else 3

/-- The oscillator model is valid, for R153. -/
def State.modelValid (s : State) : Bool := 2 ≤ s.modelState

/-! ### The current time (R161, R162, R190) -/

/-- The words of the current time: TIM_NOW0, and the four that its read captures. -/
def State.now0 (s : State) : Word := BitVec.ofNat 32 (dtNs s.tim.ts)
def State.nowWords (s : State) : List (Nat × Word) :=
  let t := s.tim.ts
  [ (TIM_NOW1, BitVec.ofNat 32 (dtSec t % 2 ^ 16 * 2 ^ 16 + dtFrac t)), (TIM_NOW2, BitVec.ofNat 32 (dtSec t / 2 ^ 16)),
    (TIM_TSLO, BitVec.ofNat 32 t), (TIM_TSHI, BitVec.ofNat 32 (t / 2 ^ 32)) ]

/-- A read of TIM_NOW0 latches the other words. -/
def State.latchNow (s : State) : State := s.nowWords.foldl (fun (s : State) (p : Nat × Word) => s.capture p.1 p.2) s

/-- The 12 octets of a time (R161). -/
def dt96 (t : Nat) : List Byte := leBytes 4 (dtNs t) ++ leBytes 2 (dtFrac t) ++ leBytes 6 (dtSec t)

/-- The current device second takes a label (TIM_SETSEC): time and grid move by whole seconds. -/
def State.labelSecond (s : State) (sec : Nat) : State :=
  let s := s.stepTime (((sec : Int) - (s.second : Int)) * (ticksPerSecond : Int))
  { s with tim := { s.tim with secKnown := true } }.leapJudge

/-! ### PTP and PPS_IN (R173, R320) -/

def State.ptpPort (s : State) (p : Nat) : PtpPort := s.plk.ptp.getD p ⟨0, none⟩
def State.setPtpPort (s : State) (p : Nat) (x : PtpPort) : State := { s with plk := { s.plk with ptp := s.plk.ptp.set p x } }

/-- A port's client is locked, or unlocked; the port that TIM_TREFCFG names carries it to TIM (R173, R320). -/
def State.ptpLock (s : State) (p : Nat) (ok : Bool) : State :=
  let s := if s.isSet (PLK_PSTAT_LOCKED p) = ok then s else (s.setBit (PLK_PSTAT_LOCKED p) ok).raise (if ok then 189 else 190)
  if s.fld TIM_TREFCFG_PTPPORT = p then s.setTref 2 ok else s

/-- The client of the port that TIM_TREFCFG names is PTP's (R173). -/
def State.ptpFollow (s : State) : State := s.setTref 2 (s.isSet (PLK_PSTAT_LOCKED (s.fld TIM_TREFCFG_PTPPORT)))

/-- PTP of a port stops: it leaves SLAVE (R63, R320). -/
def State.ptpStop (s : State) (p : Nat) : State :=
  ((s.setPtpPort p ⟨0, none⟩).setFld (PLK_PSTAT_PTPSTATE p) 0).ptpLock p false

/-- The clockClass that a port announces as MASTER (R319). -/
def State.clockClass (s : State) : Nat :=
  if s.mode = modeService ∧ s.isSet TIM_STAT_TVALID then 6 else if s.mode = modeHoldover then 7 else 248

/-- A PTP message of a MASTER port leaves. -/
def State.ptpSend (s : State) (p : Nat) : State :=
  if s.fld (PLK_PSTAT_PTPSTATE p) = 2 then s.emit (.ptp p s.clockClass s.tim.ts (s.fld (PLK_PLAT_TXLAT p)) (s.get (PLK_PCFG p))) else s

/-- A PTP message moves the port's state and, in SLAVE, may bring an offset in ps (R319, R320). -/
def State.ptpMessage (s : State) (p st : Nat) (ofs frq : Option Int) : State :=
  if !(s.live (0x11 + p) && s.isSet (PLK_PSTAT_LINK p)) || s.fld (PLK_PCFG_PTPROLE p) = 0 then s
  else
    let role := s.fld (PLK_PCFG_PTPROLE p)
    let st := if role = 1 then 2 else if role = 2 ∧ st = 2 then 1 else st
    let s := s.setFld (PLK_PSTAT_PTPSTATE p) st
    if st ≠ 4 then ((s.setPtpPort p ⟨0, none⟩).ptpLock p false).ptpSend p
    else
      match ofs with
      | none => s
      | some x =>
        let n := if x.natAbs ≤ 1000000 then (s.ptpPort p).good + 1 else 0
        let s := (s.setInt (PLK_POFS_OFS p) (satSigned 32 x)).setPtpPort p ⟨n, some s.tim.ts⟩
        let s := if 4 ≤ n then s.ptpLock p true else s
        if s.fld TIM_TREFCFG_PTPPORT = p then s.timeUpdate ⟨2, x, frq⟩ else s

/-- 2 s pass without an offset (R320). -/
def State.ptpSilent (s : State) (p : Nat) : State := (s.setPtpPort p ⟨0, none⟩).ptpLock p false

/-- The offset of a PPS_IN edge from the nearest second, in ps. -/
def ppsOffset (ps : Nat) : Int :=
  let r := ps % 1000000000000
  if r < 500000000000 then (r : Int) else (r : Int) - 1000000000000

/-- An edge on PPS_IN at an instant of the timebase in ps (R173). -/
def State.ppsEdge (s : State) (ps : Nat) : State :=
  let ps := ps / 50 * 50
  let win := s.fld TIM_PPSCFG_PPSWIN * 50000
  let near : Bool := match s.tim.ppsLast with
    | some t => decide (((ps : Int) - (t : Int) - 1000000000000).natAbs ≤ win)
    | none => false
  let first := s.tim.ppsLast.isNone
  let s := { s with tim := { s.tim with
    ppsLast := some ps, ppsGood := if near then s.tim.ppsGood + 1 else 0,
    ppsBad := if near || first then 0 else s.tim.ppsBad + 1 } }
  let s :=
    if s.trefHealthy 3 then (if 2 ≤ s.tim.ppsBad then s.setTref 3 false else s)
    else if 3 ≤ s.tim.ppsGood && s.tim.secKnown then s.setTref 3 true
    else s
  if s.trefHealthy 3 then s.timeUpdate ⟨3, ppsOffset ps, none⟩ else s

/-- No edge within 1.5 s of the last (R173). -/
def State.ppsSilent (s : State) : State :=
  { s with tim := { s.tim with ppsLast := none, ppsGood := 0, ppsBad := 0 } }.setTref 3 false

/-! ### GNSS as a time reference (R173, R176) -/

/-- The offset that a POST passes on, in ps. -/
def State.gnssOffset (s : State) : Int :=
  let o := s.fldInt GNT_TSOL_OFS_OFS
  (if s.isSet GNT_TSOL_CTL_COARSE then o * 1000000 else o) - s.fldInt TIM_ANTDLY_DLY * 25

/-- GNSS ceases to be a healthy reference (R173); a nap is no loss, nor are the 5 s after it where the last POST before it
was good. -/
def State.gnssExpire (s : State) : State :=
  if s.gnss.postGood && (s.napping || s.gnss.napAwait) then s else s.setTref 1 false

/-! ### Commands -/

/-- PTP_MESSAGE (R320). -/
def execPtpMessage (port : Fin 2) (st : Fin 7) (offset freq : Option Int) (s : State) : Host.Outcome State Fault Refusal :=
  .next (s.ptpMessage port.val st.val offset freq)

/-- PTP_OFFSET_TIMEOUT (R320). -/
def execPtpOffsetTimeout (port : Fin 2) (s : State) : Host.Outcome State Fault Refusal := .next (s.ptpSilent port.val)

/-- LEAP_PENDING (R165). -/
def execLeapPending (s : State) : Host.Outcome State Fault Refusal := .next s.leapPend

/-- LEAP_DONE (R165). -/
def execLeapDone (s : State) : Host.Outcome State Fault Refusal := .next s.leapBegin

/-- REF_MONITOR_SECOND (R169 to R172). -/
def execRefMonitorSecond (xo refa refb : RefMeas) (s : State) : Host.Outcome State Fault Refusal :=
  .next (s.monitorSecond (fun r => if r = 0 then xo else if r = 1 then refa else refb))

/-- REF_ABSENT (R169, R170). -/
def execRefAbsent (ref : Fin 3) (s : State) : Host.Outcome State Fault Refusal :=
  .next (if s.frefPresent ref.val then (s.setFrefState ref.val stAbsent).selectFref else s)

/-- REF_EDGES_RETURN (R170). -/
def execRefEdgesReturn (ref : Fin 3) (s : State) : Host.Outcome State Fault Refusal :=
  .next (if s.frefPresent ref.val then s else (s.setFrefState ref.val stQualifying).selectFref)

/-- FREF_SWITCH_DONE (R168). -/
def execFrefSwitchDone (s : State) : Host.Outcome State Fault Refusal := .next s.switchDone

/-- PPS_TIMEOUT (R173). -/
def execPpsTimeout (s : State) : Host.Outcome State Fault Refusal := .next s.ppsSilent

/-- DEGRADED_CLEAR (R177): |x| has stayed at or below 100 ns for 10 s. -/
def execDegradedClear (s : State) : Host.Outcome State Fault Refusal :=
  .next (if (s.fldInt TIM_OFS_X).natAbs ≤ 100000 then
    { s with tim := { s.tim with degJump := false } }.refreshDegraded else s)

/-- MODEL_STATE_CHANGE (R178). -/
def execModelStateChange (s : State) : Host.Outcome State Fault Refusal := .next s.modelMark

/-- GNSS_HEALTH_EXPIRY (R173). -/
def execGnssHealthExpiry (s : State) : Host.Outcome State Fault Refusal := .next s.gnssExpire

end Sys2Proof.Machine
end

