-- ==== Sys2Proof/Machine/Pulses.lean ====
section
/-! DEFINITION. The time-pulse generators and the time-interval counter (spec/06 R182 to R188). -/

namespace Sys2Proof.Machine

open Sys2Proof.Fields

/-! ### The time-interval counter (R187, R188) -/

/-- TS64 of an instant in ps. -/
def psTicks (ps : Nat) : Nat := ps * 49152 / 100000000

/-- A result enters the FIFO of 16, or is dropped (R188). -/
def State.ticPush (s : State) (r : TicRes) : State :=
  let t := s.tim.tic
  if t.fifo.length < 16 then
    let s' := { s with tim := { s.tim with tic := { t with fifo := t.fifo ++ [{ r with ovf := t.ovf }], ovf := false } } }
    if t.fifo.isEmpty then s'.raise 37 else s'
  else ({ s with tim := { s.tim with tic := { t with ovf := true } } }.count TIM_TICSTAT_DROPS).raise 38

/-- A measurement has its result: the counter is armed again in CONT mode. -/
def State.ticEnd (s : State) (r : TicRes) : State :=
  let s := { s with tim := { s.tim with tic := { s.tim.tic with half := none } } }.setFld TIM_TICSTAT_HALF 0
  (if s.isSet TIM_TICCFG_CONT then s else s.setFld TIM_TICSTAT_ARMED 0).ticPush r

/-- The result of a pair of edges (R187). -/
def ticPair (start stop : Nat) : TicRes :=
  let d : Int := (stop : Int) - (start : Int)
  if d.natAbs < 50 then ⟨0, false, true, false, false, false, psTicks start⟩
  else ⟨d, decide (d ≤ -50), false, false, false, false, psTicks start⟩

/-- An edge on a start or stop input at an instant in ps; inputs are resolved to 50 ps (R187). -/
def State.ticEdge (s : State) (stop : Bool) (ps : Nat) : State :=
  let ps := ps / 50 * 50
  let prev := if stop then s.tim.tic.lastB else s.tim.tic.lastA
  let t := s.tim.tic
  let s := { s with tim := { s.tim with
    tic := if stop then { t with lastB := some ps } else { t with lastA := some ps } } }
  let soon := match prev with
    | some p => decide (ps < p + 100000)
    | none => false
  if soon || !s.live 3 || !s.isSet TIM_TICSTAT_ARMED then s
  else
    match s.tim.tic.half with
    | none => { s with tim := { s.tim with tic := { s.tim.tic with half := some (stop, ps) } } }.setFld TIM_TICSTAT_HALF 1
    | some (k, p) =>
      if k = stop then s else s.ticEnd (if stop then ticPair p ps else ticPair ps p)

/-- An edge of a source of TIM_TICCFG at an instant in ps: the inputs that have chosen the source see it (R187). -/
def State.ticSource (s : State) (src ps : Nat) : State :=
  let s := if s.fld TIM_TICCFG_STARTSRC = src then s.ticEdge false ps else s
  if s.fld TIM_TICCFG_STOPSRC = src then s.ticEdge true ps else s

/-- The instant of a fabric tick in ps. -/
def tickPs (t : Nat) : Nat := t * 100000000 / 49152

/-- The second edge has not followed within TMO: the interval is not stated and is free (R187). -/
def State.ticTimeout (s : State) : State :=
  match s.tim.tic.half with
  | none => s
  | some (k, p) =>
    let (v, s) := s.fresh
    s.ticEnd ⟨toSigned 48 v, false, false, true, false, k, psTicks p⟩

/-- A write of TIM_TICCTL (R187, R188). -/
def State.ticCtl (s : State) (w : Word) : State :=
  let s := if getFld w TIM_TICCTL_POP = 1 then
      { s with tim := { s.tim with tic := { s.tim.tic with fifo := s.tim.tic.fifo.drop 1 } } } else s
  let s := if getFld w TIM_TICCTL_DISARM = 1 then
      ({ s with tim := { s.tim with tic := { s.tim.tic with half := none } } }.setFld TIM_TICSTAT_HALF 0).setFld TIM_TICSTAT_ARMED 0
    else s
  if getFld w TIM_TICCTL_ARM = 1 then s.setFld TIM_TICSTAT_ARMED 1 else s

/-- The counter is reset: measurements in progress are dropped (R63). -/
def State.ticReset (s : State) : State := { s with tim := { s.tim with tic := ⟨none, [], false, none, none⟩ } }

/-! ### Nominal instants (R182) -/

/-- Period of an output's nominal instants in fabric ticks, and their phase in it. -/
def State.tpPeriod (s : State) (n : Nat) : Nat × Nat :=
  match s.fld (TIM_TPCFG_PERIOD n) with
  | 0 => (491520000, 0)
  | 1 => (49152000, 0)
  | 2 => (4915200, 0)
  | 3 => (491520, 0)
  | 4 => (s.beatTicks, s.phaseTicks % s.beatTicks)
  | _ => (491520000, s.phaseTicks)

/-- An instant is a nominal instant of an output. -/
def State.tpNominal (s : State) (n t : Nat) : Bool :=
  let (p, o) := s.tpPeriod n
  decide (o ≤ t) && (t - o) % p == 0

/-- How many nominal instants lie from a on and before b. -/
def State.tpCount (s : State) (n a b : Nat) : Nat :=
  let (p, o) := s.tpPeriod n
  let upTo (x : Nat) : Nat := (x - o + p - 1) / p
  upTo b - upTo a

/-- The emission instant of a pulse in units of 25/192 ps: T − DELAY × 25 ps (R183). -/
def tpInstant (t : Nat) (dly : Word) : Int := (t : Int) * 15625 - dly.toInt * 192

/-! ### Arming, emission and faults (R184, R185) -/

/-- An output's pulses may be armed (R182, R185). -/
def State.tpRuns (s : State) (n : Nat) : Bool :=
  s.live (1 + n) && s.serving && s.isSet (TIM_TPCFG_EN n) && !s.isSet (TIM_TPSTAT_FAULT n)

/-- Instants are skipped under a new delay (R184). -/
def State.tpSkip (s : State) (n k : Nat) : State :=
  if k = 0 then s else (s.addSat (TIM_TPSTAT_SKIPPED n) k).raise 36

/-- The first tick whose emission instant under a delay is not before an instant. -/
def tpFirst (x : Int) (dly : Word) : Nat := ((x + dly.toInt * 192 + 15624) / 15625).toNat

/-- The emission instant of the last pulse that has been armed or emitted. -/
def Tp.lastAt (g : Tp) : Option Int :=
  match g.armed with
  | some (t, d) => some (tpInstant t d)
  | none => g.lastOut

/-- The pulse of a nominal instant is armed, its delay frozen; one that would not come later than the last pulse is skipped (R184). -/
def State.tpArm (s : State) (n t : Nat) : State :=
  let g := s.tp n
  if !s.tpRuns n || g.armed.isSome || !s.tpNominal n t || decide (t < g.next) then s
  else
    let late := match g.lastOut with
      | some e => decide (tpInstant t g.dlya ≤ e)
      | none => false
    if late then (s.setTp n { g with next := t + 1 }).tpSkip n 1
    else s.setTp n { g with next := t + 1, armed := some (t, g.dlya) }

/-- Every pulse of an output is suppressed (R185). A pulse that was armed before a mismatched pair is committed still goes out, as the
worked example of spec/06 has it. -/
def State.tpFault (s : State) (n cause : Nat) : State :=
  let s := if cause = 3 then s else s.setTp n { s.tp n with armed := none, level := false }
  ((s.setFld (TIM_TPSTAT_FAULT n) 1).setFld (TIM_TPSTAT_CAUSE n) cause).raise (34 + n)

/-- The armed pulse's emission instant comes (R183, R185); it leaves only in SERVICE and HOLDOVER (R87). -/
def State.tpEmit (s : State) (n : Nat) (agree : Bool) : State :=
  let g := s.tp n
  match g.armed with
  | none => s
  | some (t, d) =>
    if !agree then s.tpFault n 2
    else if s.serving && s.isCast (1 + n) then
      s.setTp n { g with armed := none, lastOut := some (tpInstant t d), level := true }
    else s.setTp n { g with armed := none }

/-- WIDTH elapses (R186). -/
def State.tpFall (s : State) (n : Nat) : State := s.setTp n { s.tp n with level := false }

/-- The pair in the registers comes into force (R185): one that is not complementary faults the output. -/
def State.tpLoad (s : State) (n : Nat) : State :=
  let a := s.get (TIM_TPDLYA n)
  let b := s.get (TIM_TPDLYB n)
  let s := s.setTp n { s.tp n with dlya := a, dlyb := b }
  if b = ~~~a then (s.setFld (TIM_TPSTAT_FAULT n) 0).setFld (TIM_TPSTAT_CAUSE n) 0 else s.tpFault n 3

/-- The delay pair is committed (R184, R185): of the nominal instants whose pulse was still to be armed under the old delay, those are
skipped whose emission instant under the new one lies less than 10 ms ahead, or not after the last pulse. -/
def State.tpCommit (s : State) (n : Nat) : State :=
  let old := s.tp n
  let s := s.tpLoad n
  if !s.tpRuns n then s
  else
    let g := s.tp n
    let soon : Int := ((s.tim.ts + 4915200 : Nat) : Int) * 15625
    let a := max old.next (tpFirst soon old.dlya)
    let b := max (tpFirst soon g.dlya) ((old.lastAt.map (fun e => tpFirst (e + 1) g.dlya)).getD 0)
    if b ≤ a then s else (s.setTp n { g with next := b }).tpSkip n (s.tpCount n a b)

/-- An output is reset; at its release the next pulse is for the next whole second (R63, R182). -/
def State.tpReset (s : State) (n : Nat) : State :=
  s.setTp n { Tp.cold with next := (s.tim.ts / ticksPerSecond + 1) * ticksPerSecond }

/-! ### Commands -/

/-- TP_ARM (R184). -/
def execTpArm (n : Fin 2) (t : BitVec 64) (s : State) : Host.Outcome State Fault Refusal := .next (s.tpArm n.val t.toNat)

/-- The instant in ps at which an armed pulse goes out. -/
def Tp.emitPs (g : Tp) : Nat :=
  match g.armed with
  | some (t, d) => (tpInstant t d * 25 / 192).toNat
  | none => 0

/-- TP_EMIT (R183): the comparators agree, or not. A pulse that rises is an edge for the counter (R187). -/
def execTpEmit (n : Fin 2) (agree : Bool) (s : State) : Host.Outcome State Fault Refusal :=
  let t := s.tpEmit n.val agree
  .next (if (t.tp n.val).lastOut = (s.tp n.val).lastOut then t else t.ticSource (3 + n.val) (s.tp n.val).emitPs)

/-- TP_PULSE_END (R186). -/
def execTpPulseEnd (n : Fin 2) (s : State) : Host.Outcome State Fault Refusal := .next (s.tpFall n.val)

/-- TP_COPY_DISAGREE (R185). -/
def execTpCopyDisagree (n : Fin 2) (s : State) : Host.Outcome State Fault Refusal := .next (s.tpFault n.val 1)

/-- TIC_EDGE (R187): an edge on TICA (0) or TICB (1). -/
def execTicEdge (input : Fin 2) (ps : Nat) (s : State) : Host.Outcome State Fault Refusal := .next (s.ticSource input.val ps)

/-- TIC_TIMEOUT (R187). -/
def execTicTimeout (s : State) : Host.Outcome State Fault Refusal := .next s.ticTimeout

end Sys2Proof.Machine
end

