-- ==== Sys2Proof/Machine/Slices.lean ====
section
/-! DEFINITION. The slice fabric and the tracking loops: settings, NCOs, dumps, batches, predictions, squashes and slips (spec/04 R106
to R113, spec/05 R127 to R140). -/

namespace Sys2Proof.Machine

open Sys2Proof.Fields

/-! ### Fields of a slice's words -/

def cfgShift (w : Word) : Nat := getFld w (SL_CFG_SHIFT 0)
def cfgIntms (w : Word) : Nat := getFld w (SL_CFG_INTMS 0)
def cfgEnable (w : Word) : Bool := getFld w (SL_CFG_ENABLE 0) != 0
def cfgSvid (w : Word) : Nat := getFld w (SL_CFG_SVID 0)
def cfgSignal (w : Word) : Nat := getFld w (SL_CFG_SIGNAL 0)

/-- A slice's signal, and whether it has one component (R99, R108). -/
def State.sliceSignal (s : State) (i : Nat) : Option Signal := signalOf (cfgSignal (s.slice i).cfg)
def State.oneComponent (s : State) (i : Nat) : Bool :=
  match s.sliceSignal i with
  | some g => !g.pilot
  | none => false

/-- The carrier loop of a slice has a valid phase (R129). -/
def State.phaseLoop (s : State) (i : Nat) : Bool := s.fld (SL_LOOPCFG_CARRIER i) != 3

/-- INTMS + 2L of a slice in ms. -/
def State.loopSpan (s : State) (ms : Nat) : Nat := ms + 2 ^ s.fld TIM_BEATGEOM_BEATLEN

/-- A bandwidth of a slice is clamped (R130). -/
def State.clamped (s : State) (i : Nat) : Bool :=
  let t := s.loopSpan (cfgIntms (s.slice i).cfg)
  let c := s.fld (SL_LOOPCFG_CARRIER i)
  (c != 3 && decide (1000 < s.fld (SL_LOOPCFG_PLLBW i) * t)) || (2 ≤ c && decide (1000 < s.fld (SL_LOOPCFG_FLLBW i) * t))
    || decide (12500 < s.fld (SL_LOOPCFG_DLLBW i) * t)
def State.refreshClamp (s : State) (i : Nat) : State := s.setBit (SL_TRK_CLAMP i) (s.clamped i)

/-! ### Slips and squashes (R135, R136, R139, R140) -/

/-- A slip: SLIP, LOCKMS, the next entry's LLI, and HALFCYC on a signal with one component. -/
def State.slip (s : State) (i : Nat) : State :=
  let s := (s.latch (SL_TRK_SLIP i)).setFld (SL_LOCKMS_MS i) 0
  let s := s.setSlice i { s.slice i with lli := true, rtcmN := none }
  if s.oneComponent i then s.latch (SL_TRK_HALFCYC i) else s

/-- SLIP is raised, once for a batch (R139). -/
def State.raiseSlip (s : State) : State :=
  if s.gnss.slipSaid then s else { s with gnss := { s.gnss with slipSaid := true } }.raise 67

/-- A slice is squashed: its armed slots that are not frozen are disarmed and its generation advances. -/
def State.squashSlice (s : State) (slip : Bool) (i : Nat) : State :=
  let s := s.setSlice i { s.slice i with armed := [none, none, none, none] }
  let s := (s.setFld (SL_TRK_GEN i) (s.fld (SL_TRK_GEN i) + 1)).latch (SL_TRK_SQUASHED i)
  if slip then s.slip i else s

/-- Slices are squashed together; PRED-SQUASH, and SLIP where it is set, are raised once. -/
def State.squashSlices (s : State) (slip : Bool) (is : List Nat) : State :=
  if is.isEmpty then s
  else
    let s := (is.foldl (fun s i => s.squashSlice slip i) s).raise 65
    if slip then s.raiseSlip else s

/-- Every slice is squashed at an entry to ANNEAL or DORMANT and at a SURVEY request: nothing is raised (R136). -/
def State.squashQuiet (s : State) : State := s.allSlices.foldl (fun s i => s.squashSlice true i) s

/-! ### NCOs (R108, R112, R134) -/

/-- The NCOs of a slice run on to an instant with the words applied at the last edge. -/
def State.ncoTo (s : State) (i t : Nat) : State :=
  let x := s.slice i
  let d : Int := (t : Int) - (x.ncoAt : Int)
  let rate := match s.sliceSignal i with
    | some g => g.rate
    | none => 0
  s.setSlice i { x with
    carAcc := x.carAcc + s.fldInt (SL_CARFREQ_F i) * d,
    codAcc := x.codAcc + ((rate * 1023000 * 2 ^ 24 : Nat) + s.fldInt (SL_CODEFREQ_F i)) * d, ncoAt := t }

/-- ENABLE starts the counts of a slice; where its NCOs stand in a cycle and in a code period is free (log entry 71). -/
def State.ncoStart (s : State) (i : Nat) : State :=
  let (p, s) := s.fresh
  let (q, s) := s.fresh
  let chips := match s.sliceSignal i with
    | some g => g.chips
    | none => 1
  s.setSlice i { s.slice i with
    carAcc := (p % 2 ^ 32 : Nat) * 7500, codAcc := (q % (chips * 2 ^ 24) : Nat) * ticksPerSecond, ncoAt := s.tim.ts, codeCnt := 0 }

/-! ### Settings (R110) -/

/-- SLCFG takes effect. -/
def State.applyCfg (s : State) (i : Nat) (w : Word) : State :=
  let old := (s.slice i).cfg
  let rise := cfgEnable w && !cfgEnable old
  let moved := cfgSvid w != cfgSvid old
  let x := s.slice i
  let s := s.setSlice i { x with cfg := w, seq := if rise then 0 else x.seq, resumed := x.resumed && !rise,
                                 prompts := if rise || moved then [] else x.prompts,
                                 newSv := x.newSv || (moved && cfgEnable w && cfgEnable old) }
  let s := if rise then (s.setFld (SL_STAT_SATCNT i) 0).ncoStart i else s
  let s := if rise then s.setBit (SL_STAT_NOSAMPLES i) (s.gnss.noSamp.getD (bandOf (cfgSignal w)) true) else s
  let s := if moved then s.setFld (SL_TRK_AUTH i) 0 else s
  let s := if rise || moved then (s.setFld (SL_ANCHORMS_MS i) 0xFFFFFFFF).squashSlices true [i] else s
  s.refreshClamp i

/-- A word waits beside those that wait already. An earlier one that no edge, or no epoch, has passed since would take effect at the same
epoch or falls between the same two epochs: the later one holds. -/
def pendPush (l : List PendW) (w : Word) (due : Bool) : List PendW := l.filter (fun p => p.due && p.seen) ++ [⟨w, due, false⟩]

/-- The word that an epoch takes, and what still waits after it. -/
def pendDue (l : List PendW) : Option Word := ((l.filter (·.due)).getLast?).map (·.word)
def pendRest (l : List PendW) : List PendW := (l.filter (fun p => !p.due)).map (fun p => { p with seen := true })

/-- An edge passes for what waits. -/
def pendEdge (l : List PendW) : List PendW := l.map (fun p => { p with due := true })

/-- The writes that are due take effect at an epoch. -/
def State.applySettings (s : State) (i : Nat) : State :=
  let x := s.slice i
  let s := s.setSlice i { x with taps := (pendDue x.pendT).getD x.taps, rove := (pendDue x.pendR).getD x.rove,
                                 pendC := pendRest x.pendC, pendT := pendRest x.pendT, pendR := pendRest x.pendR }
  match pendDue x.pendC with
  | some w => s.applyCfg i w
  | none => s

/-- A slice that does not correlate ends no integration: what is due takes effect at once (log entry 32). -/
def State.idleSettings (s : State) (i : Nat) : State := if s.sliceOn i then s else s.applySettings i

/-- A beat edge passes for the writes that wait. -/
def State.edgeSettings (s : State) (i : Nat) : State :=
  let x := s.slice i
  (s.setSlice i { x with pendC := pendEdge x.pendC, pendT := pendEdge x.pendT, pendR := pendEdge x.pendR }).idleSettings i

/-- What a write of a slice's word does beside storing it (R110, R130, R136): `old` is the word before. -/
def State.sliceWritten (s : State) (i w : Nat) (old : Word) : State :=
  let v := s.get (0x440000 + 0x100 * i + 4 * w)
  let x := s.slice i
  let now := !s.beating
  if w = 0 then (s.setSlice i { x with pendC := pendPush x.pendC v now }).idleSettings i
  else if w = 1 then (s.setSlice i { x with pendT := pendPush x.pendT v now }).idleSettings i
  else if w = 2 then (s.setSlice i { x with pendR := pendPush x.pendR v now }).idleSettings i
  else if w = 0x20 then
    let s := s.refreshClamp i
    if getFld old (SL_LOOPCFG_VECTOR 0) = 1 ∧ getFld v (SL_LOOPCFG_VECTOR 0) = 0 then s.squashSlices false [i] else s
  else s

/-! ### Dumps (R109, R111, R112) -/

/-- A sum divided by 2^k, rounded to nearest with ties away from zero. -/
def roundShift (k : Nat) (x : Int) : Int :=
  let d : Int := 2 ^ k
  if 0 ≤ x then (2 * x + d) / (2 * d) else -((-2 * x + d) / (2 * d))

/-- A correlator value, and whether it is saturated. -/
def corrValue (k : Nat) (x : Int) : Int × Bool :=
  let v := roundShift k x
  (satSigned 16 v, satSigned 16 v != v)

/-- Greatest number of dumps of a slice in a batch (R111). -/
def State.maxDumps (s : State) : Nat := s.fld TIM_BEATGEOM_BEATLEN + 1

/-- The 16 words of a dump (R112). -/
def State.dumpWords (s : State) (i : Nat) (d : DumpIn) : List Word :=
  let x := s.slice i
  let vs := (List.range 16).map (fun j => (corrValue (cfgShift x.cfg) (d.sums.getD j 0)).1)
  let c := (List.range 8).map (fun j =>
    BitVec.ofNat 32 (ofSigned 16 (vs.getD (2 * j) 0) + 65536 * ofSigned 16 (vs.getD (2 * j + 1) 0)))
  [ BitVec.ofNat 32 x.seq,
    BitVec.ofNat 32 (cfgSvid x.cfg + (if x.newSv then 0x100 else 0) + (if x.resumed then 0x200 else 0)
      + (if d.blanked then 0x400 else 0) + cfgShift x.cfg * 0x10000),
    BitVec.ofNat 32 d.epoch.toNat, BitVec.ofNat 32 (d.epoch.toNat / 2 ^ 32) ] ++ c ++
  [ BitVec.ofNat 32 (carFrac x.carAcc), BitVec.ofNat 32 (carWhole x.carAcc), BitVec.ofNat 32 x.codeCnt,
    BitVec.ofNat 32 s.gnss.openB.beat ]

/-- A dump enters the open batch and the window. -/
def State.latchDump (s : State) (i : Nat) (d : DumpIn) : State :=
  let x := s.slice i
  let ws := s.dumpWords i d
  let sat := ((List.range 16).filter (fun j => (corrValue (cfgShift x.cfg) (d.sums.getD j 0)).2)).length
  let s := s.addSat (SL_STAT_SATCNT i) sat
  let s := (List.range 16).foldl (fun (s : State) j => s.put (SL_DUMP i j) (ws.getD j 0)) s
  let e : Dump := ⟨i, x.vector, cfgIntms x.cfg, getFld x.taps (SL_TAPS_ELHALF 0), ws⟩
  let s := { s with gnss := { s.gnss with openB := { s.gnss.openB with dumps := s.gnss.openB.dumps ++ [e] } } }
  let s := s.setSlice i { x with
    seq := (x.seq + 1) % 2 ^ 32, elLast := e.elhalf, newSv := false, resumed := false, blanked := x.blanked || d.blanked,
    vector := !s.isSet (SL_TRK_SCALAR i) }
  if x.resumed then (s.slip i).raiseSlip else s

/-- The NCOs stand at a code epoch: the integration's code periods are over, and the code phase starts anew. -/
def State.codeEpoch (s : State) (i t : Nat) : State :=
  let s := s.ncoTo i t
  let x := s.slice i
  let n := match s.sliceSignal i with
    | some g => cfgIntms x.cfg / g.period
    | none => 0
  s.setSlice i { x with codAcc := 0, codeCnt := (x.codeCnt + n) % 2 ^ 32 }

/-- A code epoch of a slice: its integration ends (R109, R110). -/
def State.dumpNow (s : State) (i : Nat) (d : DumpIn) : State :=
  if !(s.live 7 && s.live 8 && s.sliceOn i && decide (i < s.fld GNC_PLAN_NSLICES)) then s
  else
    let s := s.codeEpoch i d.epoch.toNat
    let off := match pendDue (s.slice i).pendC with
      | some w => !cfgEnable w
      | none => false
    let full := decide (s.maxDumps ≤ (s.gnss.openB.dumps.filter (fun e => e.slice == i)).length)
    let none_ := s.gnss.noSamp.getD (bandOf (cfgSignal (s.slice i).cfg)) true
    (if off || full || none_ then s else s.latchDump i d).applySettings i

/-- DUMP_LATCH: a dump whose epoch falls at or after the pending edge belongs to the batch that the edge opens (R22). -/
def State.dumpLatch (s : State) (i : Nat) (d : DumpIn) : State :=
  if s.beating && decide (s.tim.edge ≤ d.epoch.toNat) then { s with gnss := { s.gnss with early := s.gnss.early ++ [(i, d)] } }
  else s.dumpNow i d

/-- The dumps that waited for an edge follow it. -/
def State.earlyDumps (s : State) : State :=
  let l := s.gnss.early
  l.foldl (fun s p => s.dumpLatch p.1 p.2) { s with gnss := { s.gnss with early := [] } }

/-! ### Batches (R22, R23, R27) -/

/-- The oldest unconsumed batch is overwritten (R27). -/
def State.batchLost (s : State) : State :=
  match s.gnss.closed with
  | b :: r =>
    let s := { s with gnss := { s.gnss with closed := r } }
    let s := ((s.count GNC_BATCHLOST_LOST).overrunBit 0).raise 48
    let is := (b.dumps.map (fun e => e.slice)).foldl (fun l x => insertNat x l) []
    let s := is.foldl (fun (s : State) i => (s.latch (SL_STAT_LOST i)).slip i) s
    if is.isEmpty then s else s.raiseSlip
  | [] => s

/-- The batch of the beat that ends is closed and handed over; the batch of the beat `n` is opened. While tracking is held nothing waits for
it. -/
def State.handBatch (s : State) (n : Nat) : State :=
  let b := s.gnss.openB
  let s := if 2 ≤ s.gnss.closed.length then s.batchLost else s
  { s with gnss := { s.gnss with
      closed := if s.works 8 then s.gnss.closed ++ [b] else [], openB := ⟨n, []⟩, slipSaid := false } }.setFld GNC_BATCH_BEAT b.beat

/-! ### The loop engine (R127 to R131, R138) -/

/-- The estimate of C/N0 and the code lock that follows from its history (R138). -/
def State.codeLock (s : State) (i ms cn0 : Nat) : State :=
  let x := s.slice i
  let high := decide (192 ≤ cn0)
  let x := { x with cnHi := if high then min 1000 (x.cnHi + ms) else 0, cnLo := if high then 0 else min 1000 (x.cnLo + ms) }
  let s := (s.setSlice i x).setFld (SL_TRK_CN0 i) cn0
  if 1000 ≤ x.cnHi then s.setFld (SL_TRK_CODELOCK i) 1
  else if 1000 ≤ x.cnLo ∧ s.isSet (SL_TRK_CODELOCK i) then (s.setFld (SL_TRK_CODELOCK i) 0).raise 68
  else s

/-- LOCK from the lock indicator (R138); its fall is a slip (R139). The answer says whether it slipped. -/
def State.carLock (s : State) (i : Nat) (on : Bool) : Bool × State :=
  let was := s.isSet (SL_TRK_LOCK i)
  let s := s.setBit (SL_TRK_LOCK i) on
  if was && !on then (true, (s.raise 68).slip i) else (false, s)

/-- A residual above its gate (R135). -/
def State.gated (s : State) (i : Nat) : Bool :=
  (s.phaseLoop i && decide (s.fld (SL_GATE_PHGATE i) * 128 < (s.fldInt (SL_RESID_PHRES i)).natAbs))
    || decide (s.fld (SL_GATE_CODEGATE i) * 128 < (s.fldInt (SL_RESID_CODERES i)).natAbs)

/-- The residuals of a dump (R128): phase in 2^−15 cycle, code in 2^−15 chip. -/
def State.residuals (s : State) (i elhalf : Nat) (ws : List Word) : Int × Int :=
  (phaseDisc (!s.oneComponent i) ws, codeDisc (cfgSignal (s.slice i).cfg) elhalf ws)

/-- What the loop filters of a slice work on (R129, R130). -/
def State.loopIn (s : State) (i ms : Nat) (ph co : Int) (fr : Option Int) : Config.LoopIn where
  carrier := s.fld (SL_LOOPCFG_CARRIER i)
  pll := bandUsed (s.fld (SL_LOOPCFG_PLLBW i)) 4 (s.loopSpan ms)
  fll := bandUsed (s.fld (SL_LOOPCFG_FLLBW i)) 4 (s.loopSpan ms)
  dll := bandUsed (s.fld (SL_LOOPCFG_DLLBW i)) 50 (s.loopSpan ms)
  ms := ms
  lat := 2 ^ s.fld TIM_BEATGEOM_BEATLEN
  phase := ph
  freq := fr
  code := co
  rate := (s.slice i).rate

/-- One loop-filter update (R129, R131): the carrier word goes on from the word before, and the code word follows it. -/
def State.loopUpdate (s : State) (i : Nat) (x : Config.LoopIn) : State :=
  let o := Config.loopFilter x
  let v := s.slice i
  let car := v.scalCar.toInt + o.car
  let (l5, rate) := match s.sliceSignal i with
    | some g => (g.l5, g.rate)
    | none => (false, 0)
  s.setSlice i { v with scalCar := BitVec.ofInt 32 car, scalCod := BitVec.ofInt 32 (codeAid l5 rate car + o.cod), rate := o.rate }

/-- Prompt values of the last n ms before an epoch, it included. -/
def lastPrompts (n t : Nat) (ps : List (Nat × Int × Int × Nat)) : List (Nat × Int × Int × Nat) :=
  ps.filter (fun p => decide (t < p.1 + n * (ticksPerSecond / 1000)))

/-- A dump is processed (R127, R128): whether it squashed its slice, and whether it slipped. -/
def State.processDump (s : State) (e : Dump) : Bool × Bool × State :=
  let i := e.slice
  if !s.sliceOn i || s.gnss.noSamp.getD (bandOf (cfgSignal (s.slice i).cfg)) true then (false, false, s)
  else
    let (ph, co) := s.residuals i e.elhalf e.words
    let s := (s.setInt (SL_RESID_PHRES i) ph).setInt (SL_RESID_CODERES i) co
    let t := (e.words.getD 2 0).toNat + 2 ^ 32 * (e.words.getD 3 0).toNat
    let (p, q) := tapIQ e.words 2
    let old := lastPrompts 1000 t (s.slice i).prompts
    let fr := match old with
      | x :: _ => some (freqDisc (!s.oneComponent i) e.ms p q x.2.1 x.2.2.1)
      | [] => none
    let s := s.loopUpdate i (s.loopIn i e.ms ph co fr)
    let ps := (t, p, q, e.ms) :: old
    let s := s.setSlice i { s.slice i with prompts := ps }
    let s := s.codeLock i e.ms (Config.momentsCn0 (ps.map (fun x => (x.2.1, x.2.2.1, x.2.2.2))) % 65536)
    let s := s.addSat (SL_LOCKMS_MS i) e.ms
    let (fell, s) := s.carLock i (lockOn (s.fld (SL_GATE_LOCKTH i)) ((lastPrompts 100 t ps).map (fun x => (x.2.1, x.2.2.1))))
    if e.vector && s.gated i then (true, true, (s.squashSlice true i).count GNT_SQCNT_SQUASH)
    else (false, fell, s)

/-- The oldest unconsumed batch is processed (R127, R135, R139). -/
def State.processBatch (s : State) : State :=
  match s.gnss.closed with
  | [] => s
  | b :: r =>
    let s := { s with gnss := { s.gnss with closed := r } }
    let (sq, sl, s) := b.dumps.foldl (fun (x : Bool × Bool × State) e =>
      let (q, l, s) := x.2.2.processDump e
      (x.1 || q, x.2.1 || l, s)) (false, false, s)
    let s := if sq then s.raise 65 else s
    if sl then s.raiseSlip else s

/-! ### Predictions (R132 to R134, R137) -/

/-- The earliest edge whose apply cutoff has not passed. -/
def State.nextCutoff (s : State) : Nat := beatAdd s.beat (if s.gnss.cut then 2 else 1)

/-- A slice's slot is armed for an edge, or the prediction is discarded (R133). -/
def State.predArm (s : State) (i k t : Nat) : State :=
  let w := beatDiff t s.nextCutoff
  if !s.sliceOn i || !s.isSet (SL_LOOPCFG_VECTOR i) then s.raise 66
  else if s.fld (PRED_STEP_GEN i k) ≠ s.fld (SL_TRK_GEN i) then (s.count GNT_SQCNT_STALE).raise 66
  else if w < 0 ∨ 3 < w then (s.count GNT_SQCNT_LATE).raise 66
  else
    let p : Pred := ⟨t, s.get (PRED_CARFREQ i k), s.get (PRED_CODEFREQ i k), s.get (PRED_STEP i k)⟩
    s.setSlice i { s.slice i with armed := (s.slice i).armed.set k (some p) }

/-- What a slice's slot for an edge is armed with. -/
def Slice.armedFor (x : Slice) (t : Nat) : Option Pred :=
  match x.armed.getD (t % 4) none with
  | some p => if p.edge = t then some p else none
  | none => none

/-- The words of a slice are frozen for an edge (R134). -/
def State.freezeSlice (s : State) (t i : Nat) : State :=
  let x := s.slice i
  s.setSlice i { x with frozen := match x.armedFor t with
    | some p => some (true, p.car, p.cod, p.step)
    | none => some (false, x.scalCar, x.scalCod, 0) }

/-- The frozen words of a slice are applied at the edge `t`: the NCOs have run to it with the words before, and take the steps of a
prediction; its slot is disarmed, and the scalar loop goes on from the words applied (R131, R134, R139). The answer says whether the
slice slipped. -/
def State.applySlice (s : State) (t i : Nat) : Bool × State :=
  match (s.slice i).frozen with
  | none => (false, s)
  | some (slot, car, cod, st) =>
    let s := s.ncoTo i s.tim.last
    let s := ((s.put (SL_CARFREQ i) car).put (SL_CODEFREQ i) cod).setBit (SL_TRK_SCALAR i) (!slot)
    let x := s.slice i
    let cs := toSigned 12 (getFld st (PRED_STEP_CARSTEP 0 0))
    let ks := toSigned 12 (getFld st (PRED_STEP_CODESTEP 0 0))
    let s := s.setSlice i { x with
      frozen := none, vector := x.vector && slot,
      carAcc := x.carAcc + cs * (carUnit / 4096), codAcc := x.codAcc + ks * (codUnit / 4096),
      scalCar := if slot then car else x.scalCar, scalCod := if slot then cod else x.scalCod,
      armed := if slot && (x.armedFor t).isSome then x.armed.set (t % 4) none else x.armed }
    if 1024 < cs.natAbs then (true, s.slip i) else (false, s)

/-- The frozen words of every slice are applied at the edge `t`. -/
def State.applySlices (s : State) (t : Nat) : State :=
  let (slipped, s) := s.allSlices.foldl (fun (x : Bool × State) i =>
    let (l, s) := x.2.applySlice t i
    (x.1 || l, s)) (false, s)
  if slipped then s.raiseSlip else s

/-- The apply cutoff of the pending edge (R134, R27). -/
def State.applyCutoff (s : State) : State :=
  let t := beatAdd s.beat 1
  let s := s.timeTo (s.tim.edge - 49152)
  let s := if s.gnss.closed.any (fun b => beatDiff t b.beat == 2) then (s.overrunBit 1).raise 64 else s
  let s := if s.works 7 && s.works 8 then s.allSlices.foldl (fun s i => s.freezeSlice t i) s else s
  { s with gnss := { s.gnss with cut := true } }

/-- What the GNSS stations do at the edge that begins the beat `n`; `counted` says that R17 set the count at it. -/
def State.sliceEdge (s : State) (n : Nat) (counted : Bool) : State :=
  let s := if s.isCast 7 && s.isCast 8 then (s.handBatch n).applySlices n else s
  let s := s.allSlices.foldl (fun s i => s.edgeSettings i) s
  let s := if counted then s.squashSlices false s.allSlices else s
  { s with gnss := { s.gnss with cut := false } }.acqDue.earlyDumps

/-- A slice's hidden state, its window and its slots are reset; GEN advances by one more (R137). -/
def State.resetSlice (s : State) (fabric : Bool) (i : Nat) : State :=
  let g := s.fld (SL_TRK_GEN i)
  let sig := s.fld (SL_CFG_SIGNAL i)
  let b := 0x440000 + 0x100 * i
  let s := if fabric then s.coldRange b (b + 0x80) else s
  let s := (s.coldRange (b + 0x80) (b + 0x100)).coldRange (0x44000 + 0x40 * i) (0x44040 + 0x40 * i)
  let s := (s.setFld (SL_TRK_GEN i) (g + 1)).setFld (SL_CFG_SIGNAL i) sig
  let x := s.slice i
  (if fabric then s.setSlice i { Slice.cold with cfg := s.get (SL_CFG i) }
   else s.setSlice i { x with armed := [none, none, none, none], frozen := none, scalCar := 0, scalCod := 0, vector := false,
                              lli := false, blanked := false, cnHi := 0, cnLo := 0, prompts := [], rate := 0, rtcmN := none }).refreshClamp i

/-! ### Commands -/

/-- DUMP_LATCH (R109). -/
def execDumpLatch (slice : Fin 192) (data : DumpIn) (s : State) : Host.Outcome State Fault Refusal :=
  .next (s.dumpLatch slice.val data)

/-- GNT_BATCH_PROCESS (R127). -/
def execGntBatchProcess (s : State) : Host.Outcome State Fault Refusal := .next (if s.live 8 then s.processBatch else s)

/-- APPLY_CUTOFF (R134). -/
def execApplyCutoff (s : State) : Host.Outcome State Fault Refusal := .next (if s.beating then s.applyCutoff else s)

end Sys2Proof.Machine
end

