-- ==== Sys2Proof/Machine/Measure.lean ====
section
/-! DEFINITION. Measurement epochs, records and ring, the time solution and the fix, start classes and the start of naps
(spec/05 R141 to R155). -/

namespace Sys2Proof.Machine

open Sys2Proof.Fields

/-! ### Epochs (R141) -/

/-- RATE in Hz. -/
def rateHz : Nat → Nat
  | 0 => 1
  | 1 => 2
  | 2 => 4
  | 3 => 5
  | 4 => 10
  | _ => 20

/-- The last edge is an epoch. -/
def State.atEpoch (s : State) : Bool :=
  (s.tim.last + ticksPerSecond - s.phaseTicks) % (ticksPerSecond / rateHz s.gnss.rate) == 0

/-! ### Entries (R142, R143, R145) -/

/-- A measurement of a slice: its flags, ρ in 2^−12 m, Φ in 2^−24 cycle, D in 2^−12 Hz, C/N0, and LOCKMS. -/
structure Meas where
  slice : Nat
  sig   : Nat
  sv    : Nat
  flags : Nat
  pr    : Nat
  cp    : Int
  dop   : Int
  cn0   : Nat
  lock  : Nat
  deriving DecidableEq, Repr

def Meas.has (m : Meas) (b : Nat) : Bool := m.flags.testBit b

/-- LOCK of an entry. -/
def Meas.lockField (m : Meas) : Nat := min 65535 (m.lock / 64)

def flagWord (bs : List Bool) : Nat := (bs.zipIdx.map (fun p => if p.1 then 2 ^ p.2 else 0)).sum

/-- The residuals of a slice's most recent dump. -/
def State.lastResiduals (s : State) (i : Nat) : Int × Int :=
  s.residuals i (s.slice i).elLast ((List.range 16).map (fun j => s.get (SL_DUMP i j)))

/-- Units of a second for a signal: the code accumulator's unit over the chip rate. -/
def secUnits (rate : Nat) : Int := codUnit * (rate * 1023000 : Nat)

/-- The travel time of a slice's signal at the last edge in units of `secUnits` (R142): modulo one week, or modulo one code period where
no anchor is set. The NCOs stand at the edge. -/
def State.travel (s : State) (i : Nat) (g : Signal) (coderes : Int) : Int :=
  let d := secUnits g.rate
  let x := s.slice i
  let period := d / 1000 * g.period
  let part := x.codAcc - coderes * (codUnit / 32768)
  let tm : Int := (s.tim.last : Int) * (d / ticksPerSecond)
  if s.fld (SL_ANCHORMS_MS i) = 0xFFFFFFFF then (tm - part) % period
  else
    let n := toSigned 32 ((x.codeCnt + 2 ^ 32 - s.fld (SL_ANCHORCNT_CNT i)) % 2 ^ 32)
    (tm - (s.fld (SL_ANCHORMS_MS i) * (d / 1000) + n * period + part)) % (604800 * d)

/-- ρ in 2^−12 m (R142): the inter-band delay comes off the ranges of L5 signals. -/
def State.pseudorange (s : State) (i : Nat) (g : Signal) (coderes : Int) : Nat :=
  let d := secUnits g.rate
  let dly := if g.l5 then s.fldInt GNT_L5DLY_DLY else 0
  ofSigned 64 (openDiv (lightSpeed * 4096 * (s.travel i g coderes * 10 ^ 11 - dly * d)) (d * 10 ^ 11))

/-- Φ in 2^−24 cycle (R142): it grows as the range shortens. -/
def State.carrierPhase (s : State) (i : Nat) (phres : Int) : Int :=
  let a := (s.slice i).carAcc
  (carWhole a : Int) * 2 ^ 24 + openDiv (carFrac a) 256 + phres * 512

/-- The signal entry of a slice (R142). -/
def State.measure (s : State) (i : Nat) : Meas :=
  let x := s.slice i
  let anchored := s.fld (SL_ANCHORMS_MS i) != 0xFFFFFFFF
  let code := s.isSet (SL_TRK_CODELOCK i)
  let flags := flagWord [code && anchored, s.isSet (SL_TRK_LOCK i) && s.phaseLoop i, code, x.lli, s.isSet (SL_TRK_HALFCYC i),
    !anchored, s.isSet (SL_TRK_SCALAR i), s.isSet (SL_TRK_AUTH i), x.blanked]
  let (ph, co) := s.lastResiduals i
  let pr := match s.sliceSignal i with
    | some g => s.pseudorange i g co
    | none => 0
  ⟨i, cfgSignal x.cfg, cfgSvid x.cfg, flags, pr, s.carrierPhase i ph, openDiv (s.fldInt (SL_CARFREQ_F i)) 16, s.fld (SL_TRK_CN0 i),
    s.fld (SL_LOCKMS_MS i)⟩

/-- The eight words of a signal entry. -/
def Meas.words (m : Meas) : List Nat :=
  let cp := ofSigned 64 m.cp
  [m.sig + m.sv * 0x100 + m.slice * 0x10000, m.flags, m.pr % 2 ^ 32, m.pr / 2 ^ 32, cp % 2 ^ 32, cp / 2 ^ 32, ofSigned 32 m.dop,
    m.cn0 + m.lockField * 0x10000]

/-- The signal entries of all enabled slices, in slice order, from the NCOs at the edge; each is also put into its slice's window. -/
def State.measureAll (s : State) : List Meas × State :=
  (s.allSlices.filter s.sliceOn).foldl (fun (x : List Meas × State) i =>
    let s := x.2.ncoTo i x.2.tim.last
    let m := s.measure i
    let s := (List.range 8).foldl (fun (s : State) j => s.put (SL_ENTRY i j) (BitVec.ofNat 32 (m.words.getD j 0))) s
    (x.1 ++ [m], s.setSlice i { s.slice i with lli := false, blanked := false })) ([], s)

/-- L1 members in order of preference, and the L5 member, of each constellation (R143). -/
def ifPairs : List (List Nat × Nat) := [([0x02, 0x01], 0x03), ([0x04], 0x05), ([0x06], 0x07), ([0x09, 0x08], 0x0A), ([0x0B], 0x0C)]

/-- The entry of a satellite's signal with a valid pseudorange, from the lowest slice. -/
def measOf (ms : List Meas) (sv sig : Nat) : Option Meas := ms.find? (fun m => m.sig == sig && m.sv == sv && m.has 0)

/-- The two members of a satellite's ionosphere-free entry. -/
def ifMembers (ms : List Meas) (p : List Nat × Nat) (sv : Nat) : Option (Meas × Meas) :=
  match p.1.findSome? (measOf ms sv), measOf ms sv p.2 with
  | some a, some b => some (a, b)
  | _, _ => none

/-- All pairs, in satellite order: constellations in the order of R143, then SVIDs. -/
def ifAll (ms : List Meas) : List (Meas × Meas) := ifPairs.flatMap (fun p => (List.range 64).filterMap (ifMembers ms p))

/-- ρ_IF in 2^−12 m, with f1² = 23,716 and f2² = 13,225 in units of (10.23 MHz)² (R143). -/
def ifRange (r1 r5 : Int) : Int := openDiv (23716 * r1 - 13225 * r5) 10491

/-- Φ_IF in 2^−24 m, with λ = c/f (R143, log entry 73). -/
def ifPhase (p1 p5 : Int) : Int :=
  openDiv (lightSpeed * (23716 * 115 * p1 - 13225 * 154 * p5)) (10491 * 154 * 115 * 10230000)

/-- The L1 slant ionospheric delay in 2^−12 m (R143). -/
def ifDelay (r1 r5 : Int) : Int := openDiv (13225 * (r5 - r1)) 10491

/-- The eight words of an ionosphere-free entry. -/
def ifEntry (a b : Meas) : List Nat :=
  let either (k : Nat) : Bool := a.has k || b.has k
  let both (k : Nat) : Bool := a.has k && b.has k
  let flags := flagWord [both 0, both 1 && !either 3, both 2, either 3, either 4, either 5, either 6, both 7, either 8]
  let pr := ofSigned 64 (ifRange a.pr b.pr)
  let cp := ofSigned 64 (ifPhase a.cp b.cp)
  [a.sig + a.sv * 0x100 + 0x8000 + b.sig * 0x10000, flags, pr % 2 ^ 32, pr / 2 ^ 32, cp % 2 ^ 32, cp / 2 ^ 32,
    ofSigned 32 (ifDelay a.pr b.pr), min a.cn0 b.cn0 + min a.lockField b.lockField * 0x10000]

/-! ### Blocks (R144) -/

/-- A block without its CRC and its last word. -/
def State.blockHead (s : State) (nent : Nat) : List Byte :=
  leBytes 4 0x524D4E47 ++ leBytes 4 (32 + 32 * nent + 8)
    ++ leBytes 4 (nent + rateHz s.gnss.rate * 0x10000 + (if s.mode = modeSurvey then 0x1000000 else 0)
        + (if s.mode = modeHoldover then 0x2000000 else 0) + (if s.napping then 0x4000000 else 0))
    ++ leBytes 4 (s.fld GNT_EPOCHCNT_COUNT) ++ dt96 s.tim.last
    ++ leBytes 4 (match s.gnss.bias with
        | some x => ofSigned 32 (satSigned 32 x)
        | none => 0x80000000)

/-- The block of an epoch. -/
def State.block (s : State) (es : List (List Nat)) : List Byte :=
  let b := s.blockHead es.length ++ es.flatMap wordsBytes
  b ++ leBytes 4 (crc32 b) ++ leBytes 4 0

/-! ### RTCM (R147) -/

/-- A measurement as a cell, with its constellation; one without PRVALID is omitted. A phase is brought near its range by whole cycles
that stay until the next slip. -/
def State.cellOf (s : State) (m : Meas) : Option (Nat × Cell) × State :=
  match rtcmSignal m.sig, m.has 0, s.sliceSignal m.slice with
  | some (y, g), true, some q =>
    let n := ((s.slice m.slice).rtcmN).getD (phaseCycles q.l5 m.pr m.cp)
    let s := if m.has 1 then s.setSlice m.slice { s.slice m.slice with rtcmN := some n } else s
    (some (y, ⟨m.sv, g, q.l5, m.pr, if m.has 1 then some (m.cp, n) else none, if m.has 2 then some m.dop else none, m.lock, m.has 4,
      m.cn0⟩), s)
  | _, _, _ => (none, s)

def State.cellsOf (s : State) : List Meas → List (Nat × Cell) × State
  | [] => ([], s)
  | m :: r =>
    let (c, s) := s.cellOf m
    let (cs, s) := s.cellsOf r
    (c.toList ++ cs, s)

/-- The antenna reference point in 0.1 mm: X, Y, Z with their high-precision parts. -/
def State.posFixed (s : State) : Int × Int × Int :=
  (s.fldInt GNT_POSX_X * 100 + s.fldInt GNT_POSHP_XHP, s.fldInt GNT_POSY_Y * 100 + s.fldInt GNT_POSHP_YHP,
    s.fldInt GNT_POSZ_Z * 100 + s.fldInt GNT_POSHP_ZHP)

/-- The frames of an epoch: message 1005 at the first epoch of a superframe while MODE is fixed, then the MSM7 messages. -/
def State.rtcmFrames (s : State) (first : Bool) (ms : List Meas) : List Byte × State :=
  let (cs, s) := s.cellsOf ms
  let (f, s) := s.fresh
  let (y, s) := s.fresh
  let sta := s.fld GNT_RTCMCFG_STAID
  let k := s.fld GNT_RTCMCFG_CONST
  let (px, py, pz) := s.posFixed
  let head := if first && s.fld GNT_TMODE_MODE == 2 then msg1005 sta (y % 64) (k.testBit 0) (k.testBit 1) px py pz else []
  (head ++ msmFrames sta (f % 2048) (rtcmParts k (s.tim.last * 1000 / ticksPerSecond % 604800000) cs), s)

/-- The RTCM block of an epoch. -/
def rtcmBlock (epoch : Nat) (frames : List Byte) : List Byte :=
  let p := frames ++ List.replicate ((8 - frames.length % 8) % 8) 0#8
  leBytes 4 0x54524E47 ++ leBytes 4 (16 + p.length) ++ leBytes 4 (frames.length % 65536) ++ leBytes 4 epoch ++ p

/-- The measurements of an epoch are formed; during a nap there are none (R142, R154). `first` says that the edge starts a superframe. -/
def State.formBlock (s : State) (first : Bool) : State :=
  if !(s.isCast 7 && s.isCast 8) then s
  else if s.napping then { s with gnss := { s.gnss with measDue := some (s.block [], none) } }
  else
    let (ms, s) := s.measureAll
    let fs := if s.isSet GNT_EPOCHCFG_IFEN then (ifAll ms).map (fun p => ifEntry p.1 p.2) else []
    let b := s.block (ms.map Meas.words ++ fs)
    if s.isSet GNT_RTCMCFG_EN then
      let (f, s) := s.rtcmFrames first ms
      { s with gnss := { s.gnss with measDue := some (b, some (rtcmBlock (s.fld GNT_EPOCHCNT_COUNT) f)) } }
    else { s with gnss := { s.gnss with measDue := some (b, none) } }

/-! ### The ring (R146) -/

def State.mrBase (s : State) : Nat := s.fld GNT_MRBASE_HI_ADDR * 2 ^ 32 + s.fld GNT_MRBASE_LO_ADDR * 2 ^ 12
def State.mrSize (s : State) : Nat := 2 ^ s.fld GNT_MRSIZE_LOG2

/-- n bytes may be written at HEAD: HEAD does not come to equal TAIL. -/
def State.mrRoom (s : State) (n : Nat) : Bool :=
  let used := (s.fld GNT_MRHEAD_HEAD + s.mrSize - s.fld GNT_MRTAIL_TAIL % s.mrSize) % s.mrSize
  decide (used + n < s.mrSize)

def State.mrAdvance (s : State) (n : Nat) : State := s.setFld GNT_MRHEAD_HEAD ((s.fld GNT_MRHEAD_HEAD + n) % s.mrSize)

/-- A block is dropped whole. -/
def State.mrDrop (s : State) : State := (s.count GNT_MRDROP_DROP).raiseLimited 70 70

/-- A block is written at HEAD, or dropped; the answer says whether it was written. -/
def State.mrWrite (s : State) (bs : List Byte) : Bool × State :=
  if s.mrRoom bs.length then
    (true, (s.emit (.hostWrite (s.mrBase + s.fld GNT_MRHEAD_HEAD) bs)).mrAdvance bs.length)
  else (false, s.mrDrop)

/-- A block is posted: a pad block fills the ring's end where the block does not fit before it. -/
def State.mrPost (s : State) (bs : List Byte) : Bool × State :=
  let pad := s.mrSize - s.fld GNT_MRHEAD_HEAD
  if !s.linkUp then (false, s.mrDrop)
  else if bs.length ≤ pad then s.mrWrite bs
  else if s.mrRoom pad then
    let s := s.emit (.hostWrite (s.mrBase + s.fld GNT_MRHEAD_HEAD) (leBytes 4 0x44504E47 ++ leBytes 4 pad))
    (s.mrAdvance pad).mrWrite bs
  else (false, s.mrDrop)

/-- The block that waits is posted, and the RTCM block behind it. -/
def State.measPost (s : State) : State :=
  match s.gnss.measDue with
  | none => s
  | some (b, r) =>
    let s := { s with gnss := { s.gnss with measDue := none } }
    if !s.isSet GNT_EPOCHCFG_RINGEN then s
    else
      let (ok, s) := s.mrPost b
      let s := if ok then s.raise 69 else s
      match r with
      | some x => (s.mrPost x).2
      | none => s

/-! ### Starts (R152) -/

/-- The classes in the order of R152's table. -/
def classOrder : List Nat := [1, 3, 2, 4]

/-- The 1σ accuracy in mm to which the position is known: that of the position registers, or that of the kept position. -/
def State.posKnown (s : State) : Nat := min (s.fld GNT_POSACC_ACC) (s.gnss.hot.pos.getD 4 0xFFFFFFFF)

/-- Satellites with a kept ephemeris that is valid now. -/
def State.ephValid (s : State) : Nat :=
  (((s.gnss.hot.eph.filter (fun e => decide (s.second ≤ e.2.2))).map (fun e => 64 * e.1 + e.2.1)).foldl
    (fun l x => insertNat x l) []).length

/-- Approximate time within 2 s stands in the RTC (R75). -/
def State.rtcTrusted (s : State) : Bool := !s.isSet BKP_STAT_LOWV

/-- The first class of the table whose conditions are met. `ranOn`: the timebase has run on with its time. Whether a position is known
to within a distance is judged by its 1σ accuracy (DEDUCED, log entry 33). -/
def State.classMet (s : State) (ranOn : Bool) : Nat :=
  let near (mm : Nat) : Bool := decide (s.posKnown ≤ mm)
  let eph := decide (5 ≤ s.ephValid)
  let alm : Bool := match s.gnss.hot.alm with
    | some a => decide (s.second ≤ a + 90 * 86400)
    | none => false
  if ranOn && near 10000000 && eph then 0
  else if s.rtcTrusted && near 10000000 && eph then 1
  else if (ranOn || s.rtcTrusted) && near 100000000 && alm then 2
  else 3

/-- A start class is chosen (R152): the first one met, or the later one that FORCE names. -/
def State.startClass (s : State) (ranOn : Bool) : State :=
  let met := s.classMet (ranOn && s.tim.secKnown)
  let forced := classOrder.idxOf (s.fld GNT_START_FORCE)
  let k := if forced < 4 then max met forced else met
  { s.setFld GNT_START_CLASS (classOrder.getD k 4) with gnss := { s.gnss with ttffFrom := some s.tim.ts } }

/-! ### The fix (R151) -/

/-- FIX-LOST. -/
def State.fixLost (s : State) : State :=
  let s := if s.gnss.fix then { s with gnss := { s.gnss with fix := false } }.raise 72 else s
  s.setTref 1 false

/-- The first fix of a start (R152). -/
def State.firstFix (s : State) : State :=
  match s.gnss.ttffFrom with
  | none => s
  | some t =>
    { s.setFld GNT_START_TTFF (min 65535 ((s.tim.ts - t) * 100 / ticksPerSecond)) with gnss := { s.gnss with ttffFrom := none } }

/-- A valid POST. -/
def State.validPost (s : State) : State :=
  let good := decide (s.fld GNT_TSOL_CTL_ACC ≤ s.fld TIM_TREFCFG_ACCMAX)
  let o := s.fldInt GNT_TSOL_OFS_OFS
  let s := { s with gnss := { s.gnss with
    napAwait := false, lastPost := some s.tim.ts, postGood := good,
    bias := some (if s.isSet GNT_TSOL_CTL_COARSE then o * 1000000 else o) } }
  let s := if s.gnss.fix then s else { s with gnss := { s.gnss with fix := true } }.raise 71
  let s := s.firstFix
  let s := if good then s.setTref 1 true else s
  if s.trefHealthy 1 then s.timeUpdate ⟨1, s.gnssOffset, some (s.fldInt GNT_TSOL_FRQ_FRQ)⟩ else s

/-- A POST (R151); none is taken during a nap (R154). -/
def State.post (s : State) : State :=
  if s.napping then s
  else if s.isSet GNT_TSOL_CTL_VALID then s.validPost
  else { s with gnss := { s.gnss with lastPost := some s.tim.ts, postGood := false, bias := none } }.fixLost

/-- 2 s of silence after a valid POST (R151). -/
def State.fixTimeout (s : State) : State :=
  if !s.gnss.fix || s.napping || s.gnss.napAwait then s else s.fixLost

/-- No valid POST within 5 s of NAP-END (R155). -/
def State.napFail (s : State) : State :=
  if s.gnss.napAwait then ({ s with gnss := { s.gnss with napAwait := false } }.raise 77).fixLost else s

/-! ### The start of a nap (R153) -/

/-- A partial casting or function reset of a GNSS function is in progress, from its staging on (R59, R153). The target of an image that
is not yet checked is not known: it holds off a nap. -/
def State.gnssJob (s : State) : Bool :=
  [4, 5, 7, 8].any s.isHeld || (match s.sys.job with
    | some j => [4, 5, 7, 8].contains j.target || (!j.freset && [csStaging, csChecking].contains (s.fld MGT_CASTSTAT_STATE))
    | none => false)

/-- The conditions of R153 but for the oscillator model. -/
def State.napDue (s : State) : Bool :=
  s.fld GNT_NAPCTL_NAPLEN != 0 && s.mode == modeService && s.fld GNT_TMODE_MODE == 2 && s.gnss.snap.isNone
    && !s.gnssJob && !s.napping && s.live 7 && s.live 8
    && decide (s.sys.awakeFrom + s.fld GNT_NAPCTL_AWAKE * ticksPerSecond ≤ s.tim.ts)

def State.tryNap (s : State) : State :=
  if !s.napDue then s
  else if s.modelValid then s.napStart
  else s.setFld GNT_NAPSTAT_REFUSED 1

/-- What the measurement builder does at an edge; `first` says that the edge starts a superframe (R141, R142). -/
def State.measureEdge (s : State) (first : Bool) : State :=
  let s := if first then { s with gnss := { s.gnss with rate := s.fld GNT_EPOCHCFG_RATE } } else s
  if s.atEpoch then ((s.setFld GNT_EPOCHCNT_COUNT (s.fld GNT_EPOCHCNT_COUNT + 1)).formBlock first).tryNap else s

/-! ### Commands -/

/-- MEAS_BLOCK_POST (R146). -/
def execMeasBlockPost (s : State) : Host.Outcome State Fault Refusal := .next s.measPost

/-- FIX_TIMEOUT (R151). -/
def execFixTimeout (s : State) : Host.Outcome State Fault Refusal := .next s.fixTimeout

/-- NAP_FAIL_TIMEOUT (R155). -/
def execNapFailTimeout (s : State) : Host.Outcome State Fault Refusal := .next s.napFail

end Sys2Proof.Machine
end

