-- ==== Sys2Proof/Machine/Backup.lean ====
section
/-! DEFINITION. The backup domain and the supply monitor: RTC, alarms, trust, resynchronisation, charger, brown-out (spec/18 R446
to R459). The BKP window of `regs` is the mirror; the domain behind it differs only by the write in transfer. -/

namespace Sys2Proof.Machine

open Sys2Proof.Fields

/-! ### BCD and the calendar (R451) -/

/-- A two-digit BCD number: its value, where both digits are decimal. -/
def bcdVal (v : Nat) : Option Nat := if v % 16 < 10 ∧ v / 16 < 10 then some (v / 16 * 10 + v % 16) else none
def bcdOf (n : Nat) : Nat := n / 10 * 16 + n % 10

/-- A date: years since 2000, month, day of the month. -/
structure Date where
  year  : Nat
  month : Nat
  day   : Nat
  deriving DecidableEq, Repr

def leapYear (y : Nat) : Bool := y % 4 == 0 && (y % 100 != 0 || y == 0)

def monthDays (y m : Nat) : Nat :=
  if m = 2 then (if leapYear y then 29 else 28) else if m = 4 ∨ m = 6 ∨ m = 9 ∨ m = 11 then 30 else 31

/-- The day after a date, and whether the calendar rolls over. -/
def nextDay (d : Date) : Bool × Date :=
  if d.day < monthDays d.year d.month then (false, { d with day := d.day + 1 })
  else if d.month < 12 then (false, ⟨d.year, d.month + 1, 1⟩)
  else if d.year < 399 then (false, ⟨d.year + 1, 1, 1⟩)
  else (true, ⟨0, 1, 1⟩)

/-- The date in a BKP_DATE word; none where it is not valid BCD or does not exist. -/
def dateOf (w : Word) : Option Date :=
  match bcdVal (getFld w BKP_DATE_YEAR), bcdVal (getFld w BKP_DATE_MONTH), bcdVal (getFld w BKP_DATE_DATE) with
  | some y, some m, some d =>
    let y := getFld w BKP_DATE_CENT * 100 + y
    if 1 ≤ m ∧ m ≤ 12 ∧ 1 ≤ d ∧ d ≤ monthDays y m then some ⟨y, m, d⟩ else none
  | _, _, _ => none

def dateWord (d : Date) : Word :=
  BitVec.ofNat 32 (d.year / 100 * 0x1000000 + bcdOf (d.year % 100) * 0x10000 + bcdOf d.month * 0x100 + bcdOf d.day)

/-- The second of the day in a BKP_TIME word, the leap second 23:59:60 as 86,400; none where it is not valid. -/
def timeOf (w : Word) : Option Nat :=
  match bcdVal (getFld w BKP_TIME_HOUR), bcdVal (getFld w BKP_TIME_MIN), bcdVal (getFld w BKP_TIME_SEC) with
  | some h, some m, some x =>
    if h < 24 ∧ m < 60 ∧ (x < 60 ∨ (x = 60 ∧ h = 23 ∧ m = 59)) then some (h * 3600 + m * 60 + x) else none
  | _, _, _ => none

def timeWord (t : Nat) : Word :=
  if t = 86400 then 0x235960#32
  else BitVec.ofNat 32 (bcdOf (t / 3600) * 0x10000 + bcdOf (t / 60 % 60) * 0x100 + bcdOf (t % 60))

/-- The date of a number of days since 2000-01-01, over at most n years. -/
def dateOfDays : Nat → Nat → Nat → Date
  | 0, y, _ => ⟨y, 1, 1⟩
  | n + 1, y, d =>
    let len := if leapYear y then 366 else 365
    if len ≤ d then dateOfDays n (y + 1) (d - len)
    else (List.range d).foldl (fun x _ => (nextDay x).2) ⟨y, 1, 1⟩

/-! ### Flags and events (R454, R455, R459) -/

/-- An event of the backup domain; with the main domain unpowered it is raised after the next start. -/
def State.bkpEvent (s : State) (id : Nat) (data : Nat := 0) : State :=
  if s.sys.power = .on then s.raise id data
  else { s with bkp := { s.bkp with latched := s.bkp.latched ++ [id] } }

/-- LOWV is set. -/
def State.setLowv (s : State) : State :=
  let u := s.latch BKP_STAT_LOWV
  if s.isSet BKP_STAT_LOWV then u else u.bkpEvent 255

/-- An alarm flag is set. -/
def State.setAlarm (s : State) (n : Nat) : State :=
  let u := s.latch ⟨BKP_STAT, n, 1⟩
  if s.isSet ⟨BKP_STAT, n, 1⟩ then u else u.bkpEvent (252 + n)

/-- An alarm's unmasked date fields equal a date, and its unmasked time fields a second of the day. -/
def State.alarmDay (s : State) (n : Nat) (d : Date) : Bool :=
  let w := dateWord d
  (s.isSet (BKP_ALMDATE_MDATE n) || s.fld (BKP_ALMDATE_DATE n) == getFld w BKP_DATE_DATE)
    && (s.isSet (BKP_ALMDATE_MMON n) || s.fld (BKP_ALMDATE_MONTH n) == getFld w BKP_DATE_MONTH)
    && (s.isSet (BKP_ALMDATE_MYEAR n) || (s.fld (BKP_ALMDATE_YEAR n) == getFld w BKP_DATE_YEAR
          && s.fld (BKP_ALMDATE_CENT n) == getFld w BKP_DATE_CENT))

def State.alarmSecond (s : State) (n t : Nat) : Bool :=
  let w := timeWord t
  t != 86400 && (s.isSet (BKP_ALMTIME_MSEC n) || s.fld (BKP_ALMTIME_SEC n) == getFld w BKP_TIME_SEC)
    && (s.isSet (BKP_ALMTIME_MMIN n) || s.fld (BKP_ALMTIME_MIN n) == getFld w BKP_TIME_MIN)
    && (s.isSet (BKP_ALMTIME_MHOUR n) || s.fld (BKP_ALMTIME_HOUR n) == getFld w BKP_TIME_HOUR)

/-- The RTC's date and second of the day. -/
def State.rtcDate (s : State) : Date := (dateOf (s.get BKP_DATE)).getD ⟨0, 1, 1⟩
def State.rtcTime (s : State) : Nat := (timeOf (s.get BKP_TIME)).getD 0

/-- The second that begins matches an enabled alarm (R454). -/
def State.alarmNow (s : State) (n : Nat) : State :=
  if s.isSet (BKP_ALMTIME_EN n) && s.alarmDay n s.rtcDate && s.alarmSecond n s.rtcTime then s.setAlarm n else s

/-- A second of a day from lo to hi matches an alarm. -/
def State.alarmWithin (s : State) (n lo hi : Nat) : Bool :=
  (List.range 24).any (fun h => decide (h * 3600 ≤ hi) && decide (lo < h * 3600 + 3600) &&
    (List.range 60).any (fun m => decide (h * 3600 + m * 60 ≤ hi) && decide (lo < h * 3600 + m * 60 + 60) &&
      (List.range 60).any (fun x => let t := h * 3600 + m * 60 + x
        decide (lo ≤ t) && decide (t ≤ hi) && s.alarmSecond n t)))

/-- A day from a date on, up to and with another one, has a second that matches an alarm; `t1` bounds the last day. -/
def State.alarmDays (s : State) (n : Nat) (stop : Date) (t1 : Nat) : Nat → Date → Nat → Bool
  | 0, _, _ => false
  | k + 1, d, lo =>
    if d = stop then s.alarmDay n d && s.alarmWithin n lo t1
    else (s.alarmDay n d && s.alarmWithin n lo 86399) || s.alarmDays n stop t1 k (nextDay d).2 0

/-- A date with a second lies before another one. -/
def before (a : Date) (t : Nat) (b : Date) (u : Nat) : Bool :=
  decide (a.year < b.year) || (a.year == b.year && (decide (a.month < b.month) ||
    (a.month == b.month && (decide (a.day < b.day) || (a.day == b.day && decide (t < u))))))

/-- The time has moved forward from a date and second: an enabled alarm that it passed is flagged once (R454). -/
def State.alarmMoved (s : State) (d : Date) (t n : Nat) : State :=
  if s.isSet (BKP_ALMTIME_EN n) && before d t s.rtcDate s.rtcTime && s.alarmDays n s.rtcDate s.rtcTime 146100 d (t + 1) then
    s.setAlarm n
  else s

/-! ### The RTC (R451 to R453) -/

/-- Midnight: the date advances, an armed leap is over, and a rollover sets LOWV. -/
def State.rtcMidnight (s : State) : State :=
  let (rolls, d) := nextDay s.rtcDate
  let s := (s.put BKP_TIME 0).put BKP_DATE (dateWord d)
  if rolls then s.setLowv else s

/-- The RTC advances one second (R451, R453). -/
def State.rtcAdvance (s : State) : State :=
  let t := s.rtcTime
  let arm := s.isSet BKP_CTL_LEAPARM
  let neg := s.isSet BKP_CTL_LEAPNEG
  if t = 86400 ∨ (t = 86398 ∧ arm ∧ neg) then (s.setFld BKP_CTL_LEAPARM 0).rtcMidnight
  else if t = 86399 then (if arm && !neg then s.put BKP_TIME (timeWord 86400) else s.rtcMidnight)
  else s.put BKP_TIME (timeWord (t + 1))

/-- An RTC second: the oscillator runs, alarms are matched, VBAT is measured while VDD_IO is present. -/
def State.rtcSecond (s : State) : State :=
  let s := (s.rtcAdvance.alarmNow 0).alarmNow 1
  if s.bkp.vddIo && s.sys.power == .on then
    let (v, s) := s.fresh
    (s.setFld BKP_VBAT_MV v).setFld MGT_CLKSTAT_XT32 1
  else s

/-- A write of a backup register reaches the domain (R452). -/
def State.bkpApply (s : State) (a : Nat) (v : Word) : State :=
  if a = BKP_DATE then { s with bkp := { s.bkp with heldDate := some v } }
  else if a = BKP_TIME then
    let d := s.rtcDate
    let t := s.rtcTime
    let s := match s.bkp.heldDate with
      | some w => s.put BKP_DATE w
      | none => s
    let s := { s with bkp := { s.bkp with heldDate := none } }.put BKP_TIME v
    (s.alarmMoved d t 0).alarmMoved d t 1
  else if a = BKP_STAT then s.put a (clearW1C (s.get a) (v &&& ~~~s.setNow a) 0x1B)
  else if a = BKP_CTL then
    let s := s.put a (v &&& 3)
    if getFld v BKP_CTL_DIPCLR = 1 then s.setFld BKP_STAT_DIPS 0 else s
  else if a = BKP_SYNC then s.setFld BKP_SYNC_SYNCH v.toNat
  else if a = BKP_TRICKLE then
    let s := s.put a (v &&& 0x3F1)
    s.setBit BKP_TRICKLE_CHARGING (s.isSet BKP_TRICKLE_EN && s.bkp.vddIo)
  else s.put a v

/-- A write of a backup register that has been accepted is in transfer. -/
def State.bkpWrite (s : State) (a : Nat) (v : Word) : State :=
  { s with bkp := { s.bkp with xfer := some (a, v) } }.setFld BKP_STAT_BUSY 1

/-- The write in transfer has reached the domain. -/
def State.bkpDone (s : State) : State :=
  match s.bkp.xfer with
  | none => s
  | some (a, v) =>
    let s := { s with bkp := { s.bkp with xfer := none } }.setFld BKP_STAT_BUSY 0
    s.bkpApply a v

/-- Why a write of a backup register's value is a reserved encoding (R451, R453, R454). -/
def State.bkpReserved (s : State) (a : Nat) (v : Word) : Bool :=
  if a = BKP_TIME then
    match timeOf v with
    | none => true
    | some t => t == 86400 && !(s.isSet BKP_CTL_LEAPARM && !s.isSet BKP_CTL_LEAPNEG)
  else if a = BKP_DATE then (dateOf v).isNone
  else if a = BKP_ALMTIME 0 ∨ a = BKP_ALMTIME 1 then
    (match timeOf (v &&& 0x3F7F7F) with
      | some t => t == 86400
      | none => true)
  else if a = BKP_ALMDATE 0 ∨ a = BKP_ALMDATE 1 then (dateOf (v &&& 0x03FF1F3F)).isNone
  else false

/-! ### Trust and resynchronisation (R455, R456) -/

/-- One of the first two causes of R455. -/
def State.dip (s : State) : State := (s.count BKP_STAT_DIPS).setLowv

/-- UTC now: its date and second of the day; the last second before a positive leap is 23:59:60, the second 86400 of its day (R160,
R163, R165). -/
def State.utc (s : State) : Date × Nat :=
  let u : Int := (s.second : Int) + 19 - s.deltaAt - 7300 * 86400
  let last : Bool := match s.leapNext with
    | some e => s.leapSec e == s.second + 1 && decide (s.deltaAt < s.leapDat e) && decide (0 < e)
    | none => false
  if last then (dateOfDays 400 0 ((u - 1).toNat / 86400), (u - 1).toNat % 86400 + 1)
  else (dateOfDays 400 0 (u.toNat / 86400), u.toNat % 86400)

/-- The RTC is measured against UTC and rewritten, which is a write of BKP_DATE and one of BKP_TIME (R452, R454, R456). -/
def State.resync (s : State) (ofs : Int) : State :=
  let (d, t) := s.utc
  if !(s.mode == modeService && s.isSet TIM_STAT_TVALID && decide (1 ≤ s.leapCount))
      || (s.isSet BKP_CTL_LEAPARM && decide (86340 ≤ t)) then s
  else
    let s := s.setInt BKP_SYNC_OFS (satSigned 24 ofs)
    let (d0, t0) := (s.rtcDate, s.rtcTime)
    let s := (((s.put BKP_TIME (timeWord t)).put BKP_DATE (dateWord d)).alarmMoved d0 t0 0).alarmMoved d0 t0 1
    let s := { s with bkp := { s.bkp with heldDate := none } }.setFld BKP_STAT_LOWV 0
    s.raise 254 (ofSigned 32 (satSigned 24 ofs))

/-! ### Brown-out (R446, R448) -/

/-- The brown-out warning starts, from PFAIL_N (0), VDD_IO (1) or VDD_CORE (2). -/
def State.brownout (s : State) (source : Nat) : State :=
  let s :=
    if source = 0 then { s with pins := { s.pins with pfailN := false } }
    else { s with bkp := { s.bkp with low := insertNat (if source = 1 then 6 else 0) s.bkp.low } }
  if s.isSet MGT_PWRSTAT_BOWARN || (source = 0 && !s.isSet MGT_PWRCFG_PFAILEN) || s.sys.power != .on then s
  else
    let s := ((s.setFld MGT_PWRSTAT_BOWARN 1).count MGT_PWRSTAT_BOCNT).raise 11
    (s.startCommit 3).queueNodes

/-- The warning ends. -/
def State.brownoutEnd (s : State) : State :=
  { s with pins := { s.pins with pfailN := s.pins.pfailN || s.isSet MGT_PWRCFG_PFAILEN },
           bkp := { s.bkp with low := [] } }.setFld MGT_PWRSTAT_BOWARN 0

/-- The backup domain starts from no supply (R450). -/
def State.bkpCold (s : State) : State :=
  let s := s.coldRange 0x110000 0x120000
  { s with bkp := { s.bkp with heldDate := none, xfer := none } }.bkpEvent 255

/-! ### Commands -/

/-- BROWNOUT_WARNING (R446). -/
def execBrownoutWarning (source : Fin 3) (s : State) : Host.Outcome State Fault Refusal := .next (s.brownout source.val)

/-- BROWNOUT_END (R446). -/
def execBrownoutEnd (s : State) : Host.Outcome State Fault Refusal := .next s.brownoutEnd

/-- VBAT_LOW (R455): only while VBAT supplies the domain. -/
def execVbatLow (s : State) : Host.Outcome State Fault Refusal := .next (if s.bkp.vddIo then s else s.dip)

/-- XT32_STOP (R455). -/
def execXt32Stop (s : State) : Host.Outcome State Fault Refusal :=
  .next ((s.latch BKP_STAT_OSCSTOP).setFld MGT_CLKSTAT_XT32 0).dip

/-- RTC_RESYNC (R456): RTC minus UTC in µs. -/
def execRtcResync (ofs : Int) (s : State) : Host.Outcome State Fault Refusal := .next (s.resync ofs)

/-- CHARGER_TARGET_REACHED (R458). -/
def execChargerTargetReached (s : State) : Host.Outcome State Fault Refusal := .next (s.setFld BKP_TRICKLE_CHARGING 0)

/-- CHARGER_RESUME (R458). -/
def execChargerResume (s : State) : Host.Outcome State Fault Refusal :=
  .next (if s.isSet BKP_TRICKLE_EN && s.bkp.vddIo then s.setFld BKP_TRICKLE_CHARGING 1 else s)

/-- BACKUP_DOMAIN_POWER_ON (R450). -/
def execBackupDomainPowerOn (s : State) : Host.Outcome State Fault Refusal := .next s.bkpCold

end Sys2Proof.Machine
end

