-- ==== Sys2Proof/Machine/Float.lean ====
section
/-! DEFINITION. Binary64 arithmetic (spec/14 R377, R378), by exact integers: an operand is a sign, an integer and a power of two;
the exact result is rounded once. Flags are in the order of SR.FLAGS: bit 4 NV, 3 DZ, 2 OF, 1 UF, 0 NX. -/

namespace Sys2Proof.Machine

/-- A binary64 datum. -/
abbrev F64 := BitVec 64

/-- Rounding modes, encoded as SR.FRM. -/
def frmNearest : Nat := 0
def frmZero : Nat := 1
def frmUp : Nat := 2
def frmDown : Nat := 3

def fxNV : Nat := 16
def fxDZ : Nat := 8
def fxOF : Nat := 4
def fxUF : Nat := 2
def fxNX : Nat := 1

/-- Every NaN result (R377). -/
def qNaN : F64 := 0x7FF8000000000000

def fSign (v : F64) : Bool := v.msb
def fExp (v : F64) : Nat := (v.extractLsb' 52 11).toNat
def fFrac (v : F64) : Nat := (v.extractLsb' 0 52).toNat
def fIsNaN (v : F64) : Bool := fExp v == 2047 && fFrac v != 0
def fIsSNaN (v : F64) : Bool := fIsNaN v && !(fFrac v).testBit 51
def fIsInf (v : F64) : Bool := fExp v == 2047 && fFrac v == 0
def fIsZero (v : F64) : Bool := fExp v == 0 && fFrac v == 0

/-- The integer of a finite datum, whose magnitude is `fMant v × 2 ^ fPow v`. -/
def fMant (v : F64) : Nat := if fExp v = 0 then fFrac v else fFrac v + 2 ^ 52
def fPow (v : F64) : Int := (max (fExp v) 1 : Nat) - 1075

def fInf (s : Bool) : F64 := if s then 0xFFF0000000000000 else 0x7FF0000000000000
def fMax (s : Bool) : F64 := if s then 0xFFEFFFFFFFFFFFFF else 0x7FEFFFFFFFFFFFFF
def fZero (s : Bool) : F64 := if s then 0x8000000000000000 else 0

/-- m × 2 ^ e rounded to an integer multiple of 2 ^ q: the multiple, and whether it is inexact. -/
def roundAt (frm : Nat) (sign : Bool) (m : Nat) (e q : Int) : Nat × Bool :=
  if q ≤ e then (m * 2 ^ (e - q).toNat, false)
  else
    let d := 2 ^ (q - e).toNat
    let r := m % d
    let up :=
      if frm = frmNearest then decide (2 * r > d) || (2 * r == d && m / d % 2 == 1)
      else if frm = frmZero then false
      else if frm = frmUp then r != 0 && !sign
      else r != 0 && sign
    (m / d + (if up then 1 else 0), r != 0)

/-- An exact value (−1)^sign × m × 2 ^ e with m > 0, rounded to a datum, with its flags (R377, R378). -/
def roundF (frm : Nat) (sign : Bool) (m : Nat) (e : Int) : F64 × Nat :=
  let top := e + Nat.log2 m
  -- rounded with an unbounded exponent, for overflow and tininess
  let (mu, ix) := roundAt frm sign m e (top - 52)
  let topU := if mu = 2 ^ 53 then top + 1 else top
  if topU > 1023 then
    let toInf := frm == frmNearest || (frm == frmUp && !sign) || (frm == frmDown && sign)
    (if toInf then fInf sign else fMax sign, fxOF + fxNX)
  else
    let q := max (top - 52) (-1074)
    let (mr, inex) := if q = top - 52 then (mu, ix) else roundAt frm sign m e q
    let (mr, q) := if mr = 2 ^ 53 then (2 ^ 52, q + 1) else (mr, q)
    let mag := if mr < 2 ^ 52 then mr else (q + 1074).toNat * 2 ^ 52 + mr
    let w : F64 := BitVec.ofNat 64 (mag + if sign then 2 ^ 63 else 0)
    (w, (if inex then fxNX else 0) + (if inex && decide (topU < -1022) then fxUF else 0))

/-- NV where an operand is a signalling NaN. -/
def snanFlag (vs : List F64) : Nat := if vs.any fIsSNaN then fxNV else 0

/-- The sum of two exact signed values. An exact zero sum of values of unlike sign is −0 toward −∞ and else +0. -/
def addExact (frm : Nat) (s1 : Bool) (m1 : Nat) (e1 : Int) (s2 : Bool) (m2 : Nat) (e2 : Int) : F64 × Nat :=
  let e := min e1 e2
  let v1 : Int := (m1 * 2 ^ (e1 - e).toNat : Nat)
  let v2 : Int := (m2 * 2 ^ (e2 - e).toNat : Nat)
  let v := (if s1 then -v1 else v1) + (if s2 then -v2 else v2)
  if v = 0 then (fZero (if s1 == s2 then s1 else frm == frmDown), 0)
  else roundF frm (decide (v < 0)) v.natAbs e

def fNeg (a : F64) : F64 := a ^^^ 0x8000000000000000
def fAbs (a : F64) : F64 := a &&& 0x7FFFFFFFFFFFFFFF

/-- FADD: a + b. -/
def fAdd (frm : Nat) (a b : F64) : F64 × Nat :=
  if fIsNaN a || fIsNaN b then (qNaN, snanFlag [a, b])
  else if fIsInf a then (if fIsInf b && fSign a != fSign b then (qNaN, fxNV) else (a, 0))
  else if fIsInf b then (b, 0)
  else addExact frm (fSign a) (fMant a) (fPow a) (fSign b) (fMant b) (fPow b)

/-- FSUB: a − b. -/
def fSub (frm : Nat) (a b : F64) : F64 × Nat :=
  if fIsNaN a || fIsNaN b then (qNaN, snanFlag [a, b]) else fAdd frm a (fNeg b)

/-- FMUL: a × b. -/
def fMul (frm : Nat) (a b : F64) : F64 × Nat :=
  let s := fSign a != fSign b
  if fIsNaN a || fIsNaN b then (qNaN, snanFlag [a, b])
  else if fIsInf a || fIsInf b then (if fIsZero a || fIsZero b then (qNaN, fxNV) else (fInf s, 0))
  else if fIsZero a || fIsZero b then (fZero s, 0)
  else roundF frm s (fMant a * fMant b) (fPow a + fPow b)

/-- FDIV: a ÷ b. The quotient is taken to more bits than a result holds, its lowest bit standing for the rest. -/
def fDiv (frm : Nat) (a b : F64) : F64 × Nat :=
  let s := fSign a != fSign b
  if fIsNaN a || fIsNaN b then (qNaN, snanFlag [a, b])
  else if fIsInf a then (if fIsInf b then (qNaN, fxNV) else (fInf s, 0))
  else if fIsInf b then (fZero s, 0)
  else if fIsZero b then (if fIsZero a then (qNaN, fxNV) else (fInf s, fxDZ))
  else if fIsZero a then (fZero s, 0)
  else
    let n := fMant a * 2 ^ 110
    roundF frm s (2 * (n / fMant b) + (if n % fMant b = 0 then 0 else 1)) (fPow a - fPow b - 111)

/-- The integer square root of m by bits: `r` so far, bits below 2 ^ n to try. -/
def isqrt (m : Nat) : Nat → Nat → Nat
  | 0, r => r
  | n + 1, r => isqrt m n (if (r + 2 ^ n) * (r + 2 ^ n) ≤ m then r + 2 ^ n else r)

/-- FSQRT. -/
def fSqrt (frm : Nat) (a : F64) : F64 × Nat :=
  if fIsNaN a then (qNaN, snanFlag [a])
  else if fIsZero a then (a, 0)
  else if fSign a then (qNaN, fxNV)
  else if fIsInf a then (a, 0)
  else
    let e := fPow a - 112 - (fPow a % 2)
    let n := fMant a * 2 ^ (fPow a - e).toNat
    let r := isqrt n 84 0
    roundF frm false (2 * r + (if r * r = n then 0 else 1)) (e / 2 - 1)

/-- FMA: a × b + c with one rounding. NV for 0 × ∞ whatever the addend. -/
def fFma (frm : Nat) (a b c : F64) : F64 × Nat :=
  let s := fSign a != fSign b
  let bad := (fIsInf a && fIsZero b) || (fIsZero a && fIsInf b)
  if bad then (qNaN, fxNV)
  else if fIsNaN a || fIsNaN b || fIsNaN c then (qNaN, snanFlag [a, b, c])
  else if fIsInf a || fIsInf b then
    (if fIsInf c && fSign c != s then (qNaN, fxNV) else (fInf s, 0))
  else if fIsInf c then (c, 0)
  else addExact frm s (fMant a * fMant b) (fPow a + fPow b) (fSign c) (fMant c) (fPow c)

/-- The value of a finite datum in units of 2 ^ −1074. -/
def fUnits (v : F64) : Int :=
  let m : Int := (fMant v * 2 ^ (fPow v + 1074).toNat : Nat)
  if fSign v then -m else m

/-- Order of two data that are not NaN, with −0 equal to +0. -/
def fLt (a b : F64) : Bool :=
  if fIsInf a then fSign a && !(fIsInf b && fSign b)
  else if fIsInf b then !fSign b
  else decide (fUnits a < fUnits b)

def fEq (a b : F64) : Bool := a == b || (fIsZero a && fIsZero b)

/-- FMIN and FMAX: the other operand where one is NaN; −0 below +0. -/
def fMinMax (wantMax : Bool) (a b : F64) : F64 × Nat :=
  let fl := snanFlag [a, b]
  if fIsNaN a then (if fIsNaN b then qNaN else b, fl)
  else if fIsNaN b then (a, fl)
  else
    let less := fLt a b || (fIsZero a && fIsZero b && fSign a && !fSign b)
    (if less == wantMax then b else a, 0)

/-- FCMPEQ, FCMPLT and FCMPLE: T and the flags. An unordered pair gives T = 0. -/
def fCmpEq (a b : F64) : Bool × Nat :=
  if fIsNaN a || fIsNaN b then (false, snanFlag [a, b]) else (fEq a b, 0)
def fCmpLt (a b : F64) : Bool × Nat :=
  if fIsNaN a || fIsNaN b then (false, fxNV) else (fLt a b, 0)
def fCmpLe (a b : F64) : Bool × Nat :=
  if fIsNaN a || fIsNaN b then (false, fxNV) else (fLt a b || fEq a b, 0)

/-- FCVTIF: exact. -/
def fOfInt (i : Int) : F64 := if i = 0 then 0 else (roundF frmNearest (decide (i < 0)) i.natAbs 0).1

/-- FCVTFI: rounded under FRM; NaN and values out of range saturate with NV and no NX. -/
def fToInt (frm : Nat) (a : F64) : BitVec 32 × Nat :=
  if fIsNaN a then (0x7FFFFFFF, fxNV)
  else if fIsInf a then (if fSign a then 0x80000000 else 0x7FFFFFFF, fxNV)
  else
    let (m, inex) := roundAt frm (fSign a) (fMant a) (fPow a) 0
    if fSign a then (if m > 2 ^ 31 then (0x80000000, fxNV) else (BitVec.ofInt 32 (-(m : Int)), if inex then fxNX else 0))
    else (if m ≥ 2 ^ 31 then (0x7FFFFFFF, fxNV) else (BitVec.ofNat 32 m, if inex then fxNX else 0))

end Sys2Proof.Machine
end

