-- ==== Sys2Proof/Machine/Isa.lean ====
section
/-! DEFINITION. The syllables of a Chaser core: their forms, their decoding from a 32-bit word and their encoding (spec/13 R343 to
R351, R363). Every operand of a form is as wide as its field, so every form has an encoding; a reserved field, opcode or
operand value decodes to nothing. -/

namespace Sys2Proof.Machine

/-- M-unit operations on an X and a Y half (R347). -/
inductive MOp where
  | mac | msu | mpy | mpyn
  deriving DecidableEq, Repr

/-- A syllable of M0 or M1. -/
inductive MSyl where
  | bin (op : MOp) (sat hx hy int keepx keepy : Bool)
  | sqac (sat hx int keepx : Bool)
  deriving DecidableEq, Repr

/-- A-unit operations that have no field (R348). -/
inductive AOp where
  | dupx | dropx | swapx | overx | dupy | dropy | swapy | overy | mvxy | mvyx
  | add | sub | adds | subs | neg | and | or | xor | not | min | max | cmpeq | cmplt | cmpltu | tstz
  | aclr | adrop | adup | aswap | xtoa | exp | norm
  | fadd | fsub | fmul | fdiv | fsqrt | fma | fneg | fabs | fmin | fmax | fcmpeq | fcmplt | fcmple
  | fcvtif | fcvtfi | fpack | funpk | fdup | fdrop | fswap
  deriving DecidableEq, Repr

/-- Shifts, with SH. -/
inductive ShOp where
  | shl | shrl | shra | ashl | ashr
  deriving DecidableEq, Repr

/-- Operations with the SAT bit. -/
inductive SatOp where
  | aadd | asub | narw | narh
  deriving DecidableEq, Repr

/-- An A syllable. -/
inductive ASyl where
  | pushi (i : BitVec 20)
  | pushh (i : BitVec 20)
  | plain (op : AOp)
  | shift (op : ShOp) (n : BitVec 5)
  | sat (op : SatOp) (s : Bool)
  /-- Customer instruction 0xE0 + k with bits [19:0]. -/
  | cust (k : BitVec 5) (arg : BitVec 20)
  deriving DecidableEq, Repr

/-- Single accesses of the L unit (R349). -/
inductive LdOp where
  | ldxW | ldxH | ldxHU | ldyW | ldyH | ldyHU | ldfD | stxW | stxH | styW | stfD
  deriving DecidableEq, Repr

/-- An L syllable. -/
inductive LSyl where
  | acc (op : LdOp) (p : BitVec 3) (upd : BitVec 2) (step : BitVec 15)
  | ld2 (pa pb : BitVec 3) (ua ub : BitVec 2)
  | pset (p : BitVec 3)
  | bset (p : BitVec 3)
  | lset (p : BitVec 3)
  | pget (p : BitVec 3)
  | padd (p : BitVec 3) (circ : Bool) (step : BitVec 15)
  deriving DecidableEq, Repr

/-- COND (R351). -/
inductive Cond where
  | always | ifT | ifNotT
  deriving DecidableEq, Repr

/-- The control registers (R342). -/
inductive CReg where
  | sr | rsp | rsb | rsl | tvec | tpc | tcause | tval | treport
  | lc0 | ls0 | le0 | lc1 | ls1 | le1 | xd | yd | ad | fd
  deriving DecidableEq, Repr

/-- A C syllable. -/
inductive CSyl where
  | nop
  | br (c : Cond) (off : BitVec 16)
  | brx (c : Cond)
  | call (mask : BitVec 15)
  | callx (mask : BitVec 15)
  | ret
  | loop (one : Bool) (stop : BitVec 10)
  | loopi (one : Bool) (count stop : BitVec 10)
  | guard (c : Cond)
  | yield
  | trap (code : BitVec 8)
  | reti
  | movtc (r : CReg)
  | movfc (r : CReg)
  deriving DecidableEq, Repr

/-- A syllable, with its unit. `m1` tells M1 from M0. -/
inductive Syl where
  | m (m1 : Bool) (y : MSyl)
  | a (y : ASyl)
  | l (y : LSyl)
  | c (y : CSyl)
  | lit (i : BitVec 15)
  deriving DecidableEq, Repr

/-! ### Opcodes -/

def MOp.code : MOp → Nat
  | .mac => 1 | .msu => 2 | .mpy => 3 | .mpyn => 4

def AOp.code : AOp → Nat
  | .dupx => 0x03 | .dropx => 0x04 | .swapx => 0x05 | .overx => 0x06
  | .dupy => 0x07 | .dropy => 0x08 | .swapy => 0x09 | .overy => 0x0A
  | .mvxy => 0x0B | .mvyx => 0x0C
  | .add => 0x10 | .sub => 0x11 | .adds => 0x12 | .subs => 0x13 | .neg => 0x14
  | .and => 0x15 | .or => 0x16 | .xor => 0x17 | .not => 0x18
  | .min => 0x1C | .max => 0x1D | .cmpeq => 0x1E | .cmplt => 0x1F | .cmpltu => 0x20 | .tstz => 0x21
  | .aclr => 0x30 | .adrop => 0x31 | .adup => 0x32 | .aswap => 0x33
  | .xtoa => 0x38 | .exp => 0x3B | .norm => 0x3C
  | .fadd => 0x40 | .fsub => 0x41 | .fmul => 0x42 | .fdiv => 0x43 | .fsqrt => 0x44 | .fma => 0x45
  | .fneg => 0x46 | .fabs => 0x47 | .fmin => 0x48 | .fmax => 0x49
  | .fcmpeq => 0x4A | .fcmplt => 0x4B | .fcmple => 0x4C
  | .fcvtif => 0x4D | .fcvtfi => 0x4E | .fpack => 0x4F | .funpk => 0x50
  | .fdup => 0x51 | .fdrop => 0x52 | .fswap => 0x53

def ShOp.code : ShOp → Nat
  | .shl => 0x19 | .shrl => 0x1A | .shra => 0x1B | .ashl => 0x36 | .ashr => 0x37

def SatOp.code : SatOp → Nat
  | .aadd => 0x34 | .asub => 0x35 | .narw => 0x39 | .narh => 0x3A

def LdOp.code : LdOp → Nat
  | .ldxW => 0x01 | .ldxH => 0x02 | .ldxHU => 0x03 | .ldyW => 0x04 | .ldyH => 0x05 | .ldyHU => 0x06
  | .ldfD => 0x07 | .stxW => 0x08 | .stxH => 0x09 | .styW => 0x0A | .stfD => 0x0B

def Cond.code : Cond → Nat
  | .always => 0 | .ifT => 1 | .ifNotT => 2

def CReg.code : CReg → Nat
  | .sr => 0x00 | .rsp => 0x01 | .rsb => 0x02 | .rsl => 0x03 | .tvec => 0x04 | .tpc => 0x05 | .tcause => 0x06
  | .tval => 0x07 | .treport => 0x08 | .lc0 => 0x10 | .ls0 => 0x11 | .le0 => 0x12 | .lc1 => 0x13 | .ls1 => 0x14
  | .le1 => 0x15 | .xd => 0x18 | .yd => 0x19 | .ad => 0x1A | .fd => 0x1B

def allMOps : List MOp := [.mac, .msu, .mpy, .mpyn]

def allAOps : List AOp :=
  [.dupx, .dropx, .swapx, .overx, .dupy, .dropy, .swapy, .overy, .mvxy, .mvyx, .add, .sub, .adds, .subs, .neg, .and, .or,
   .xor, .not, .min, .max, .cmpeq, .cmplt, .cmpltu, .tstz, .aclr, .adrop, .adup, .aswap, .xtoa, .exp, .norm, .fadd, .fsub,
   .fmul, .fdiv, .fsqrt, .fma, .fneg, .fabs, .fmin, .fmax, .fcmpeq, .fcmplt, .fcmple, .fcvtif, .fcvtfi, .fpack, .funpk,
   .fdup, .fdrop, .fswap]

def allShOps : List ShOp := [.shl, .shrl, .shra, .ashl, .ashr]
def allSatOps : List SatOp := [.aadd, .asub, .narw, .narh]
def allLdOps : List LdOp := [.ldxW, .ldxH, .ldxHU, .ldyW, .ldyH, .ldyHU, .ldfD, .stxW, .stxH, .styW, .stfD]
def allConds : List Cond := [.always, .ifT, .ifNotT]
def allCRegs : List CReg :=
  [.sr, .rsp, .rsb, .rsl, .tvec, .tpc, .tcause, .tval, .treport, .lc0, .ls0, .le0, .lc1, .ls1, .le1, .xd, .yd, .ad, .fd]

def aOpOf (n : Nat) : Option AOp := allAOps.find? (fun o => o.code == n)
def shOpOf (n : Nat) : Option ShOp := allShOps.find? (fun o => o.code == n)
def satOpOf (n : Nat) : Option SatOp := allSatOps.find? (fun o => o.code == n)
def ldOpOf (n : Nat) : Option LdOp := allLdOps.find? (fun o => o.code == n)
def mOpOf (n : Nat) : Option MOp := allMOps.find? (fun o => o.code == n)
def condOf (n : Nat) : Option Cond := allConds.find? (fun o => o.code == n)
def cRegOf (n : Nat) : Option CReg := allCRegs.find? (fun o => o.code == n)

/-! ### Decoding -/

/-- The low n bits of the fields are 0. -/
def lowZero (n : Nat) (f : BitVec 20) : Bool := f.toNat % 2 ^ n == 0

/-- M syllables (R347). -/
def decodeM (op : Nat) (f : BitVec 20) : Option MSyl :=
  if lowZero 14 f = false then none
  else if op = 5 then
    if f.getLsbD 17 || f.getLsbD 14 then none
    else some (.sqac (f.getLsbD 19) (f.getLsbD 18) (f.getLsbD 16) (f.getLsbD 15))
  else (mOpOf op).map (fun o => .bin o (f.getLsbD 19) (f.getLsbD 18) (f.getLsbD 17) (f.getLsbD 16) (f.getLsbD 15) (f.getLsbD 14))

/-- A syllables (R348), but for customer opcodes. -/
def decodeA (op : Nat) (f : BitVec 20) : Option ASyl :=
  if op = 1 then some (.pushi f)
  else if op = 2 then some (.pushh f)
  else
    match aOpOf op, shOpOf op, satOpOf op with
    | some o, _, _ => if f = 0 then some (.plain o) else none
    | none, some o, _ => if f.toNat < 32 then some (.shift o (f.extractLsb' 0 5)) else none
    | none, none, some o =>
      if f = 0 then some (.sat o false) else if f = 0x40000 then some (.sat o true) else none
    | none, none, none => none

/-- Every A syllable, customer opcodes among them. -/
def decodeACust (op : Nat) (f : BitVec 20) : Option ASyl :=
  if 0xE0 ≤ op ∧ op ≤ 0xFF then some (.cust (BitVec.ofNat 5 (op - 0xE0)) f) else decodeA op f

/-- L syllables (R349). -/
def decodeL (op : Nat) (f : BitVec 20) : Option LSyl :=
  let p := f.extractLsb' 17 3
  let pOnly (y : LSyl) : Option LSyl := if lowZero 17 f then some y else none
  match op with
  | 0x10 => if lowZero 10 f then some (.ld2 p (f.extractLsb' 14 3) (f.extractLsb' 12 2) (f.extractLsb' 10 2)) else none
  | 0x20 => pOnly (.pset p)
  | 0x21 => pOnly (.bset p)
  | 0x22 => pOnly (.lset p)
  | 0x23 => pOnly (.pget p)
  | 0x24 =>
    if f.extractLsb' 15 2 = 0 then some (.padd p false (f.extractLsb' 0 15))
    else if f.extractLsb' 15 2 = 3 then some (.padd p true (f.extractLsb' 0 15))
    else none
  | _ => (ldOpOf op).map (fun o => .acc o p (f.extractLsb' 15 2) (f.extractLsb' 0 15))

/-- C syllables (R351). -/
def decodeC (op : Nat) (f : BitVec 20) : Option CSyl :=
  let cond := condOf (f.extractLsb' 18 2).toNat
  let whole (y : CSyl) : Option CSyl := if f = 0 then some y else none
  let mask (g : BitVec 15 → CSyl) : Option CSyl := if f.toNat < 2 ^ 15 then some (g (f.extractLsb' 0 15)) else none
  let stop (g : BitVec 10 → CSyl) : Option CSyl := if f.toNat < 2 ^ 10 then some (g (f.extractLsb' 0 10)) else none
  let creg (g : CReg → CSyl) : Option CSyl := (cRegOf f.toNat).map g
  match op with
  | 0x01 => whole .nop
  | 0x02 => if f.extractLsb' 16 2 = 0 then cond.map (fun c => .br c (f.extractLsb' 0 16)) else none
  | 0x03 => if lowZero 18 f then cond.map .brx else none
  | 0x04 => mask .call
  | 0x05 => mask .callx
  | 0x06 => whole .ret
  | 0x07 => stop (.loop false)
  | 0x08 => stop (.loop true)
  | 0x09 => some (.loopi false (f.extractLsb' 10 10) (f.extractLsb' 0 10))
  | 0x0A => some (.loopi true (f.extractLsb' 10 10) (f.extractLsb' 0 10))
  | 0x0B => if lowZero 18 f then cond.map .guard else none
  | 0x0C => whole .yield
  | 0x0D => if f.toNat < 2 ^ 8 then some (.trap (f.extractLsb' 0 8)) else none
  | 0x0E => whole .reti
  | 0x0F => creg .movtc
  | 0x10 => creg .movfc
  | _ => none

/-- A syllable from its word (R343). The stop bit is `w.msb`. -/
def decodeSyl (w : Word) : Option Syl :=
  let op := (w.extractLsb' 20 8).toNat
  let f := w.extractLsb' 0 20
  match (w.extractLsb' 28 3).toNat with
  | 0 => (decodeM op f).map (.m false)
  | 1 => (decodeM op f).map (.m true)
  | 2 => (decodeACust op f).map .a
  | 3 => (decodeL op f).map .l
  | 4 => (decodeC op f).map .c
  | 5 => if w.extractLsb' 15 13 = 0 then some (.lit (w.extractLsb' 0 15)) else none
  | _ => none

/-! ### Encoding -/

def bit1 (b : Bool) : BitVec 1 := BitVec.ofBool b

/-- Opcode and fields as 28 bits. -/
def opFields (op : Nat) (f : BitVec 20) : BitVec 28 := BitVec.ofNat 8 op ++ f

def encodeM : MSyl → BitVec 28
  | .bin o sat hx hy int kx ky => opFields o.code (bit1 sat ++ bit1 hx ++ bit1 hy ++ bit1 int ++ bit1 kx ++ bit1 ky ++ 0#14)
  | .sqac sat hx int kx => opFields 5 (bit1 sat ++ bit1 hx ++ 0#1 ++ bit1 int ++ bit1 kx ++ 0#15)

def encodeA : ASyl → BitVec 28
  | .pushi i => opFields 1 i
  | .pushh i => opFields 2 i
  | .plain o => opFields o.code 0
  | .shift o n => opFields o.code (0#15 ++ n)
  | .sat o s => opFields o.code (0#1 ++ bit1 s ++ 0#18)
  | .cust k arg => opFields (0xE0 + k.toNat) arg

def encodeL : LSyl → BitVec 28
  | .acc o p u st => opFields o.code (p ++ u ++ st)
  | .ld2 pa pb ua ub => opFields 0x10 (pa ++ pb ++ ua ++ ub ++ 0#10)
  | .pset p => opFields 0x20 (p ++ 0#17)
  | .bset p => opFields 0x21 (p ++ 0#17)
  | .lset p => opFields 0x22 (p ++ 0#17)
  | .pget p => opFields 0x23 (p ++ 0#17)
  | .padd p c st => opFields 0x24 (p ++ bit1 c ++ bit1 c ++ st)

def Cond.bits (c : Cond) : BitVec 2 := BitVec.ofNat 2 c.code

def encodeC : CSyl → BitVec 28
  | .nop => opFields 1 0
  | .br c off => opFields 2 (c.bits ++ 0#2 ++ off)
  | .brx c => opFields 3 (c.bits ++ 0#18)
  | .call m => opFields 4 (0#5 ++ m)
  | .callx m => opFields 5 (0#5 ++ m)
  | .ret => opFields 6 0
  | .loop one e => opFields (if one then 8 else 7) (0#10 ++ e)
  | .loopi one n e => opFields (if one then 10 else 9) (n ++ e)
  | .guard c => opFields 0x0B (c.bits ++ 0#18)
  | .yield => opFields 0x0C 0
  | .trap k => opFields 0x0D (0#12 ++ k)
  | .reti => opFields 0x0E 0
  | .movtc r => opFields 0x0F (BitVec.ofNat 20 r.code)
  | .movfc r => opFields 0x10 (BitVec.ofNat 20 r.code)

/-- UNIT of a syllable. -/
def Syl.unit : Syl → Nat
  | .m false _ => 0
  | .m true _ => 1
  | .a _ => 2
  | .l _ => 3
  | .c _ => 4
  | .lit _ => 5

/-- The word of a syllable, with its stop bit. -/
def encodeSyl (stop : Bool) (y : Syl) : Word :=
  let rest : BitVec 28 :=
    match y with
    | .m _ y => encodeM y
    | .a y => encodeA y
    | .l y => encodeL y
    | .c y => encodeC y
    | .lit i => 0#13 ++ i
  (bit1 stop ++ BitVec.ofNat 3 y.unit) ++ rest

/-! ### Micro-operations (R363) -/

/-- A micro-operation: an A-unit operation that is no customer opcode, or one of the micro-only ones. -/
inductive UOp where
  | a (y : ASyl)
  | tpush (n : BitVec 2)
  | tpop (n : BitVec 2)
  | pusharg
  deriving DecidableEq, Repr

/-- A micro-op word. -/
def decodeUOp (w : Word) : Option UOp :=
  let op := (w.extractLsb' 20 8).toNat
  let f := w.extractLsb' 0 20
  if w.extractLsb' 28 4 = 0 then
    if op = 0xC0 then (if f.toNat < 4 then some (.tpush (f.extractLsb' 0 2)) else none)
    else if op = 0xC1 then (if f.toNat < 4 then some (.tpop (f.extractLsb' 0 2)) else none)
    else if op = 0xC2 then (if f = 0 then some .pusharg else none)
    else (decodeA op f).map .a
  else none

end Sys2Proof.Machine
end

