-- ==== Sys2Proof/Machine/Alu.lean ====
section
/-! DEFINITION. What the M and A syllables compute: fixed-point arithmetic (spec/14 R372 to R375), the stack effects and results of the
A unit (spec/13 R348) and customer instructions (R362 to R364). A list of stack entries has its top first. -/

namespace Sys2Proof.Machine

/-- An accumulator entry. -/
abbrev Acc := BitVec 40

/-- Entries of the four stacks, top first. -/
structure Stk where
  x : List Word
  y : List Word
  a : List Acc
  f : List F64
  deriving DecidableEq, Repr

def Stk.none : Stk := ⟨[], [], [], []⟩

/-- Numbers of entries of the four stacks. -/
structure Cnt where
  x : Nat
  y : Nat
  a : Nat
  f : Nat
  deriving DecidableEq, Repr

/-- The numbers of entries that stand in a piece of the stacks. -/
def Stk.size (k : Stk) : Cnt := ⟨k.x.length, k.y.length, k.a.length, k.f.length⟩

/-- The capacities (R339). -/
def stackCap : Cnt := ⟨16, 16, 8, 8⟩

def Cnt.add (a b : Cnt) : Cnt := ⟨a.x + b.x, a.y + b.y, a.a + b.a, a.f + b.f⟩
def Cnt.max (a b : Cnt) : Cnt := ⟨Nat.max a.x b.x, Nat.max a.y b.y, Nat.max a.a b.a, Nat.max a.f b.f⟩
def Cnt.le (a b : Cnt) : Bool := decide (a.x ≤ b.x) && decide (a.y ≤ b.y) && decide (a.a ≤ b.a) && decide (a.f ≤ b.f)

def Stk.take (k : Stk) (n : Cnt) : Stk := ⟨k.x.take n.x, k.y.take n.y, k.a.take n.a, k.f.take n.f⟩
def Stk.drop (k : Stk) (n : Cnt) : Stk := ⟨k.x.drop n.x, k.y.drop n.y, k.a.drop n.a, k.f.drop n.f⟩

/-- Entries put on top of the stacks. -/
def Stk.push (top k : Stk) : Stk := ⟨top.x ++ k.x, top.y ++ k.y, top.a ++ k.a, top.f ++ k.f⟩

/-! ### Fixed point -/

/-- An integer clamped to the signed 32-bit range, and whether the clamp changed it (R373). -/
def clamp32 (i : Int) : Int × Bool :=
  if i < -0x80000000 then (-0x80000000, true) else if i > 0x7FFFFFFF then (0x7FFFFFFF, true) else (i, false)

/-- An accumulator result: wrapped modulo 2^40, or clamped (R373). -/
def accResult (sat : Bool) (i : Int) : Acc × Bool :=
  if sat then (BitVec.ofInt 40 (clamp32 i).1, (clamp32 i).2) else (BitVec.ofInt 40 i, false)

/-- The signed half of a word. -/
def halfOf (w : Word) (high : Bool) : Int := (if high then w.extractLsb' 16 16 else w.extractLsb' 0 16).toInt

/-- The product of an M syllable (R372). -/
def mProduct (int : Bool) (a b : Int) : Int := if int then a * b else 2 * (a * b)

/-- The accumulator after an M syllable on x, y (R347). -/
def MSyl.result (m : MSyl) (acc : Acc) (x y : Word) : Acc × Bool :=
  match m with
  | .sqac sat hx int _ => accResult sat (acc.toInt + mProduct int (halfOf x hx) (halfOf x hx))
  | .bin op sat hx hy int _ _ =>
    let p := mProduct int (halfOf x hx) (halfOf y hy)
    accResult sat (match op with
      | .mac => acc.toInt + p
      | .msu => acc.toInt - p
      | .mpy => p
      | .mpyn => -p)

/-- What an M syllable reads, and what it consumes. -/
def MSyl.reads : MSyl → Cnt
  | .bin .. => ⟨1, 1, 0, 0⟩
  | .sqac .. => ⟨1, 0, 0, 0⟩
def MSyl.pops : MSyl → Cnt
  | .bin _ _ _ _ _ kx ky => ⟨if kx then 0 else 1, if ky then 0 else 1, 0, 0⟩
  | .sqac _ _ _ kx => ⟨if kx then 0 else 1, 0, 0, 0⟩

/-- Convergent rounding of an accumulator by 16 bits (R374). -/
def narhRound (a : Int) : Int :=
  let r := a % 0x10000
  a / 0x10000 + (if r > 0x8000 ∨ (r = 0x8000 ∧ a / 0x10000 % 2 = 1) then 1 else 0)

/-- NARW and NARH (R374). -/
def narw (sat : Bool) (a : Acc) : Word × Bool :=
  if sat then (BitVec.ofInt 32 (clamp32 a.toInt).1, (clamp32 a.toInt).2) else (BitVec.ofInt 32 a.toInt, false)
def narh (sat : Bool) (a : Acc) : Word × Bool :=
  let r := narhRound a.toInt
  let c := if r < -32768 then -32768 else if r > 32767 then 32767 else r
  if sat then (BitVec.ofInt 32 c, decide (c ≠ r)) else ((BitVec.ofInt 16 r).signExtend 32, false)

/-- Bits below bit 39 that equal bit 39 (R375). -/
def redundant (a : Acc) : Nat :=
  ((List.range 39).reverse.takeWhile (fun i => a.getLsbD i == a.msb)).length

/-- EXP's e. -/
def accExp (a : Acc) : Int := (redundant a : Int) - 8

/-- NORM's result and n. -/
def accNorm (a : Acc) : Acc × Int :=
  if a = 0 then (0, 0)
  else
    let e := accExp a
    (if e ≥ 0 then a <<< e.toNat else a.sshiftRight (-e).toNat, e)

/-! ### The A unit -/

/-- The entries an A syllable takes and leaves (R348); for a customer opcode its entry declares them (R362). -/
def ASyl.effect : ASyl → Cnt × Cnt
  | .pushi _ => (⟨0, 0, 0, 0⟩, ⟨1, 0, 0, 0⟩)
  | .pushh _ => (⟨1, 0, 0, 0⟩, ⟨1, 0, 0, 0⟩)
  | .shift .ashl _ | .shift .ashr _ => (⟨0, 0, 1, 0⟩, ⟨0, 0, 1, 0⟩)
  | .shift _ _ => (⟨1, 0, 0, 0⟩, ⟨1, 0, 0, 0⟩)
  | .sat .aadd _ | .sat .asub _ => (⟨0, 0, 2, 0⟩, ⟨0, 0, 1, 0⟩)
  | .sat .narw _ | .sat .narh _ => (⟨0, 0, 1, 0⟩, ⟨1, 0, 0, 0⟩)
  | .cust _ _ => (⟨0, 0, 0, 0⟩, ⟨0, 0, 0, 0⟩)
  | .plain o =>
    match o with
    | .dupx => (⟨1, 0, 0, 0⟩, ⟨2, 0, 0, 0⟩)
    | .dropx => (⟨1, 0, 0, 0⟩, ⟨0, 0, 0, 0⟩)
    | .swapx => (⟨2, 0, 0, 0⟩, ⟨2, 0, 0, 0⟩)
    | .overx => (⟨2, 0, 0, 0⟩, ⟨3, 0, 0, 0⟩)
    | .dupy => (⟨0, 1, 0, 0⟩, ⟨0, 2, 0, 0⟩)
    | .dropy => (⟨0, 1, 0, 0⟩, ⟨0, 0, 0, 0⟩)
    | .swapy => (⟨0, 2, 0, 0⟩, ⟨0, 2, 0, 0⟩)
    | .overy => (⟨0, 2, 0, 0⟩, ⟨0, 3, 0, 0⟩)
    | .mvxy => (⟨1, 0, 0, 0⟩, ⟨0, 1, 0, 0⟩)
    | .mvyx => (⟨0, 1, 0, 0⟩, ⟨1, 0, 0, 0⟩)
    | .neg | .not | .tstz => (⟨1, 0, 0, 0⟩, ⟨1, 0, 0, 0⟩)
    | .cmpeq | .cmplt | .cmpltu => (⟨2, 0, 0, 0⟩, ⟨0, 0, 0, 0⟩)
    | .add | .sub | .adds | .subs | .and | .or | .xor | .min | .max => (⟨2, 0, 0, 0⟩, ⟨1, 0, 0, 0⟩)
    | .aclr => (⟨0, 0, 0, 0⟩, ⟨0, 0, 1, 0⟩)
    | .adrop => (⟨0, 0, 1, 0⟩, ⟨0, 0, 0, 0⟩)
    | .adup => (⟨0, 0, 1, 0⟩, ⟨0, 0, 2, 0⟩)
    | .aswap => (⟨0, 0, 2, 0⟩, ⟨0, 0, 2, 0⟩)
    | .xtoa => (⟨1, 0, 0, 0⟩, ⟨0, 0, 1, 0⟩)
    | .exp | .norm => (⟨0, 0, 1, 0⟩, ⟨1, 0, 1, 0⟩)
    | .fadd | .fsub | .fmul | .fdiv | .fmin | .fmax => (⟨0, 0, 0, 2⟩, ⟨0, 0, 0, 1⟩)
    | .fsqrt | .fneg | .fabs => (⟨0, 0, 0, 1⟩, ⟨0, 0, 0, 1⟩)
    | .fma => (⟨0, 0, 0, 3⟩, ⟨0, 0, 0, 1⟩)
    | .fcmpeq | .fcmplt | .fcmple => (⟨0, 0, 0, 2⟩, ⟨0, 0, 0, 0⟩)
    | .fcvtif => (⟨1, 0, 0, 0⟩, ⟨0, 0, 0, 1⟩)
    | .fcvtfi => (⟨0, 0, 0, 1⟩, ⟨1, 0, 0, 0⟩)
    | .fpack => (⟨2, 0, 0, 0⟩, ⟨0, 0, 0, 1⟩)
    | .funpk => (⟨0, 0, 0, 1⟩, ⟨2, 0, 0, 0⟩)
    | .fdup => (⟨0, 0, 0, 1⟩, ⟨0, 0, 0, 2⟩)
    | .fdrop => (⟨0, 0, 0, 1⟩, ⟨0, 0, 0, 0⟩)
    | .fswap => (⟨0, 0, 0, 2⟩, ⟨0, 0, 0, 2⟩)

/-- What an A operation gives: the entries it leaves, T where it sets it, FLAGS that it sets, and whether a clamp changed a
result. -/
structure ARes where
  out   : Stk
  t     : Option Bool
  flags : Nat
  sat   : Bool
  deriving DecidableEq, Repr

def ARes.xs (l : List Word) : ARes := ⟨⟨l, [], [], []⟩, none, 0, false⟩
def ARes.ys (l : List Word) : ARes := ⟨⟨[], l, [], []⟩, none, 0, false⟩
def ARes.accs (l : List Acc) : ARes := ⟨⟨[], [], l, []⟩, none, 0, false⟩
def ARes.fs (l : List F64) : ARes := ⟨⟨[], [], [], l⟩, none, 0, false⟩
def ARes.test (b : Bool) : ARes := ⟨Stk.none, some b, 0, false⟩
def ARes.fp (r : F64 × Nat) : ARes := ⟨⟨[], [], [], [r.1]⟩, none, r.2, false⟩
def ARes.fcmp (r : Bool × Nat) : ARes := ⟨Stk.none, some r.1, r.2, false⟩
def ARes.clamped (r : Word × Bool) : ARes := ⟨⟨[r.1], [], [], []⟩, none, 0, r.2⟩

/-- ADDS and SUBS: clamped to 32 bits (R373). -/
def satWord (i : Int) : ARes := .clamped (BitVec.ofInt 32 (clamp32 i).1, (clamp32 i).2)

/-- An operation without a field on the entries it takes, top first (R348). -/
def AOp.eval (o : AOp) (frm : Nat) (i : Stk) : ARes :=
  -- the stack effect "X: a b" has b on top
  let b := i.x.getD 0 0
  let a := i.x.getD 1 0
  let yb := i.y.getD 0 0
  let ya := i.y.getD 1 0
  let ab := i.a.getD 0 0
  let aa := i.a.getD 1 0
  let fb := i.f.getD 0 0
  let fa := i.f.getD 1 0
  match o with
  | .dupx => .xs [b, b]
  | .dropx => .xs []
  | .swapx => .xs [a, b]
  | .overx => .xs [a, b, a]
  | .dupy => .ys [yb, yb]
  | .dropy => .ys []
  | .swapy => .ys [ya, yb]
  | .overy => .ys [ya, yb, ya]
  | .mvxy => .ys [b]
  | .mvyx => .xs [yb]
  | .add => .xs [a + b]
  | .sub => .xs [a - b]
  | .adds => satWord (a.toInt + b.toInt)
  | .subs => satWord (a.toInt - b.toInt)
  | .neg => .xs [-b]
  | .and => .xs [a &&& b]
  | .or => .xs [a ||| b]
  | .xor => .xs [a ^^^ b]
  | .not => .xs [~~~b]
  | .min => .xs [if a.slt b then a else b]
  | .max => .xs [if a.slt b then b else a]
  | .cmpeq => .test (a == b)
  | .cmplt => .test (a.slt b)
  | .cmpltu => .test (a.ult b)
  | .tstz => { ARes.xs [b] with t := some (b == 0) }
  | .aclr => .accs [0]
  | .adrop => .accs []
  | .adup => .accs [ab, ab]
  | .aswap => .accs [aa, ab]
  | .xtoa => .accs [b.signExtend 40]
  | .exp => ⟨⟨[BitVec.ofInt 32 (accExp ab)], [], [ab], []⟩, none, 0, false⟩
  | .norm => ⟨⟨[BitVec.ofInt 32 (accNorm ab).2], [], [(accNorm ab).1], []⟩, none, 0, false⟩
  | .fadd => .fp (fAdd frm fa fb)
  | .fsub => .fp (fSub frm fa fb)
  | .fmul => .fp (fMul frm fa fb)
  | .fdiv => .fp (fDiv frm fa fb)
  | .fsqrt => .fp (fSqrt frm fb)
  | .fma => .fp (fFma frm (i.f.getD 2 0) fa fb)
  | .fneg => .fs [fNeg fb]
  | .fabs => .fs [fAbs fb]
  | .fmin => .fp (fMinMax false fa fb)
  | .fmax => .fp (fMinMax true fa fb)
  | .fcmpeq => .fcmp (fCmpEq fa fb)
  | .fcmplt => .fcmp (fCmpLt fa fb)
  | .fcmple => .fcmp (fCmpLe fa fb)
  | .fcvtif => .fs [fOfInt b.toInt]
  | .fcvtfi => { ARes.xs [(fToInt frm fb).1] with flags := (fToInt frm fb).2 }
  | .fpack => .fs [b ++ a]
  | .funpk => .xs [fb.extractLsb' 32 32, fb.extractLsb' 0 32]
  | .fdup => .fs [fb, fb]
  | .fdrop => .fs []
  | .fswap => .fs [fa, fb]

/-- An A operation that is no customer opcode. -/
def ASyl.eval (y : ASyl) (frm : Nat) (i : Stk) : ARes :=
  let x := i.x.getD 0 0
  let a := i.a.getD 0 0
  match y with
  | .pushi n => .xs [n.signExtend 32]
  | .pushh n => .xs [n ++ x.extractLsb' 0 12]
  | .plain o => o.eval frm i
  | .shift o n =>
    match o with
    | .shl => .xs [x <<< n.toNat]
    | .shrl => .xs [x >>> n.toNat]
    | .shra => .xs [x.sshiftRight n.toNat]
    | .ashl => .accs [a <<< n.toNat]
    | .ashr => .accs [a.sshiftRight n.toNat]
  | .sat o s =>
    match o with
    | .aadd => let r := accResult s ((i.a.getD 1 0).toInt + a.toInt); ⟨⟨[], [], [r.1], []⟩, none, 0, r.2⟩
    | .asub => let r := accResult s ((i.a.getD 1 0).toInt - a.toInt); ⟨⟨[], [], [r.1], []⟩, none, 0, r.2⟩
    | .narw => .clamped (narw s a)
    | .narh => .clamped (narh s a)
  | .cust _ _ => ⟨Stk.none, none, 0, false⟩

/-- A binary64 operation, for FPOPS (R392): an operation on the F stack that is no stack operation or bit copy. -/
def AOp.isFp (o : AOp) : Bool := decide (0x40 ≤ o.code ∧ o.code ≤ 0x4E)

/-! ### Customer instructions (R362 to R364) -/

/-- A decode entry's fields. -/
structure DecEntry where
  valid : Bool
  user  : Bool
  start : Nat
  len   : Nat
  pops  : Cnt
  pushes : Cnt
  deriving DecidableEq, Repr

/-- A decode entry from its two words (R362). -/
def decEntry (w0 w1 : Word) : DecEntry :=
  let n (k : Nat) := (w1.extractLsb' (4 * k) 4).toNat
  ⟨w0.getLsbD 31, w0.getLsbD 30, (w0.extractLsb' 16 10).toNat, (w0.extractLsb' 0 4).toNat + 1,
    ⟨n 0, n 2, n 4, n 6⟩, ⟨n 1, n 3, n 5, n 7⟩⟩

/-- The working copy of a customer instruction: its stacks from the declared pops up, T0 to T3, and what it has set. -/
structure Work where
  stk   : Stk
  tmp   : List (Nat × Word)
  t     : Option Bool
  flags : Nat
  /-- Results that a clamp changed, and binary64 operations. -/
  sats  : Nat
  fps   : Nat
  deriving DecidableEq, Repr

def tmpOf (w : Work) (n : BitVec 2) : Word := ((w.tmp.find? (fun p => p.1 == n.toNat)).map (·.2)).getD 0

/-- One micro-operation; none where it reaches below the declared pops. -/
def microStep (frm : Nat) (arg : BitVec 20) (w : Work) : UOp → Option Work
  | .tpush n => some { w with stk := { w.stk with x := tmpOf w n :: w.stk.x } }
  | .tpop n =>
    match w.stk.x with
    | [] => none
    | v :: r => some { w with stk := { w.stk with x := r }, tmp := (n.toNat, v) :: w.tmp.filter (fun p => p.1 != n.toNat) }
  | .pusharg => some { w with stk := { w.stk with x := arg.signExtend 32 :: w.stk.x } }
  | .a y =>
    let pops := y.effect.1
    if pops.le w.stk.size then
      let r := y.eval frm (w.stk.take pops)
      let fp := match y with | .plain o => o.isFp | _ => false
      some { w with
        stk := r.out.push (w.stk.drop pops)
        t := r.t.orElse (fun _ => w.t)
        flags := w.flags ||| r.flags
        sats := w.sats + (if r.sat then 1 else 0)
        fps := w.fps + (if fp then 1 else 0) }
    else none

/-- The micro-operations from number k on, n of them, on a working copy: the result, or the offset of the micro-operation at
which it traps. `top` is the height that no micro-operation may pass, `net` the height to end at. -/
def microRun (uop : Nat → Word) (frm : Nat) (arg : BitVec 20) (top net : Cnt) : Nat → Nat → Work → Except Nat Work
  | 0, _, w => .ok w
  | n + 1, k, w =>
    match (decodeUOp (uop k)).bind (microStep frm arg w) with
    | none => .error k
    | some w' =>
      if w'.stk.size.le top then
        if n = 0 then (if w'.stk.size = net then .ok w' else .error k)
        else microRun uop frm arg top net n (k + 1) w'
      else .error k

/-- A customer instruction on the entries that its entry declares (R364): its result, or the offset of the micro-operation
that traps. Its stacks grow no higher than the greater of its declared pops and pushes (log entry 36). -/
def DecEntry.run (e : DecEntry) (uops : Nat → Word) (frm : Nat) (arg : BitVec 20) (i : Stk) : Except Nat Work :=
  microRun (fun k => uops (e.start + k)) frm arg (e.pops.max e.pushes) e.pushes e.len 0 ⟨i, [], none, 0, 0, 0⟩

end Sys2Proof.Machine
end

