-- ==== Sys2Proof/Machine/CoreOps.lean ====
section
/-! DEFINITION. A Chaser core beside its syllables: memory, control registers, return stack, loops, traps and interrupts
(spec/13 R339 to R360, spec/14 R379 to R387). -/

namespace Sys2Proof.Machine

open Sys2Proof.Fields

/-! ### Memory (R350, R481) -/

def yBase : Nat := 0x10000
def progBase : Nat := 0x20000
def progEnd : Nat := 0x40000

/-- Octets of the core's own memories, by address. -/
def Core.bytes (k : Core) (a n : Nat) : List Byte := (List.range n).map (fun i => tabGet 0#8 k.mem (a + i))
def Core.load (k : Core) (a n : Nat) : Nat := ofLeBytes (k.bytes a n)
def Core.store (k : Core) (a : Nat) (bs : List Byte) : Core := { k with mem := putBlock k.mem a bs }

/-- A syllable of program memory. -/
def Core.syl (k : Core) (i : Nat) : Word := BitVec.ofNat 32 (k.load (progBase + 4 * i) 4)

/-- A write to program memory empties the loop cache (R370). -/
def Core.storeAny (k : Core) (a : Nat) (bs : List Byte) : Core :=
  let k := k.store a bs
  if progBase < a + bs.length then { k with cache := none } else k

/-! ### Registers -/

def Core.ptr (k : Core) (n : Nat) : Word := tabGet 0 k.set.p n
def Core.base (k : Core) (n : Nat) : Word := tabGet 0 k.set.b n
def Core.len (k : Core) (n : Nat) : Word := tabGet 0 k.set.l n
def Core.setPtr (k : Core) (n : Nat) (v : Word) : Core := { k with set := { k.set with p := tabSet 0 n v k.set.p } }
def Core.setBase (k : Core) (n : Nat) (v : Word) : Core := { k with set := { k.set with b := tabSet 0 n v k.set.b } }
def Core.setLen (k : Core) (n : Nat) (v : Word) : Core := { k with set := { k.set with l := tabSet 0 n v k.set.l } }
def Core.loop (k : Core) (one : Bool) : Loop := if one then k.set.loop1 else k.set.loop0
def Core.setLoop (k : Core) (one : Bool) (v : Loop) : Core :=
  if one then { k with set := { k.set with loop1 := v } } else { k with set := { k.set with loop0 := v } }

/-- The stacks in use. -/
def Core.stk (k : Core) : Stk := ⟨k.set.x, k.set.y, k.set.a, k.set.f⟩
def Core.setStk (k : Core) (v : Stk) : Core := { k with set := { k.set with x := v.x, y := v.y, a := v.a, f := v.f } }

/-- SR (control register 0x00). -/
def Core.sr (k : Core) : Word :=
  let b (p : Bool) (n : Nat) : Nat := if p then 2 ^ n else 0
  BitVec.ofNat 32 (b k.set.t 0 + b k.set.u 1 + b k.set.ie 2 + b k.th 3 + b k.pu 4 + b k.pie 5 + k.set.frm.toNat * 64
    + k.set.flags.toNat * 256 + b k.set.satf 13)

/-- A control register as MOVFC reads it (R342). -/
def Core.readCr (k : Core) : CReg → Word
  | .sr => k.sr
  | .rsp => k.rsp
  | .rsb => k.rsb
  | .rsl => k.rsl
  | .tvec => k.tvec.setWidth 32
  | .tpc => k.set.tpc.setWidth 32
  | .tcause => k.set.tcause
  | .tval => k.set.tval
  | .treport => k.treport
  | .lc0 => k.set.loop0.cnt
  | .ls0 => k.set.loop0.start.setWidth 32
  | .le0 => k.set.loop0.stop.setWidth 32
  | .lc1 => k.set.loop1.cnt
  | .ls1 => k.set.loop1.start.setWidth 32
  | .le1 => k.set.loop1.stop.setWidth 32
  | .xd => BitVec.ofNat 32 k.set.x.length
  | .yd => BitVec.ofNat 32 k.set.y.length
  | .ad => BitVec.ofNat 32 k.set.a.length
  | .fd => BitVec.ofNat 32 k.set.f.length

/-- The fields of SR that a MOVTC writes: in user mode only T, FRM, FLAGS and SATF (R341). -/
def Core.writeSr (k : Core) (v : Word) : Core :=
  let st := { k.set with
    t := v.getLsbD 0, frm := v.extractLsb' 6 2, flags := v.extractLsb' 8 5, satf := v.getLsbD 13 }
  if k.set.u then { k with set := st }
  else { k with set := { st with ie := v.getLsbD 2 }, pu := v.getLsbD 4, pie := v.getLsbD 5 }

/-- RSP, RSB and RSL are multiples of 4 (R342). -/
def align4 (v : Word) : Word := v &&& 0xFFFFFFFC

/-- MOVTC (R342). A register that holds an index keeps 15 bits of the value, a return-stack register a multiple of 4, and the
depth registers stay (log entry 37). -/
def Core.writeCr (k : Core) (r : CReg) (v : Word) : Core :=
  match r with
  | .sr => k.writeSr v
  | .rsp => { k with rsp := align4 v }
  | .rsb => { k with rsb := align4 v }
  | .rsl => { k with rsl := align4 v }
  | .tvec => { k with tvec := v.setWidth 15 }
  | .tpc => { k with set := { k.set with tpc := v.setWidth 15 } }
  | .tcause => { k with set := { k.set with tcause := v } }
  | .tval => { k with set := { k.set with tval := v } }
  | .treport => { k with treport := v }
  | .lc0 => k.setLoop false { k.set.loop0 with cnt := v }
  | .ls0 => k.setLoop false { k.set.loop0 with start := v.setWidth 15 }
  | .le0 => k.setLoop false { k.set.loop0 with stop := v.setWidth 15 }
  | .lc1 => k.setLoop true { k.set.loop1 with cnt := v }
  | .ls1 => k.setLoop true { k.set.loop1 with start := v.setWidth 15 }
  | .le1 => k.setLoop true { k.set.loop1 with stop := v.setWidth 15 }
  | .xd | .yd | .ad | .fd => k

/-- Whether user mode may read a control register, and write it (R342, log entry 37). -/
def CReg.userRead : CReg → Bool
  | .rsb | .rsl | .tvec | .tpc | .tcause | .tval | .treport => false
  | _ => true
def CReg.userWrite : CReg → Bool
  | .sr | .lc0 | .ls0 | .le0 | .lc1 | .ls1 | .le1 => true
  | _ => false

/-! ### Circular addressing (R349, R376) -/

/-- A pointer moved by a byte step; `circ` wraps it into its circular range, where it has one. -/
def Core.moved (k : Core) (n : Nat) (circ : Bool) (d : Int) : Word :=
  let p := k.ptr n
  let l := k.len n
  if circ && l != 0 then
    k.base n + BitVec.ofInt 32 (((p.toNat : Int) + d - (k.base n).toNat) % (l.toNat : Int))
  else p + BitVec.ofInt 32 d

/-! ### Return stack (R354 to R356, R381) -/

/-- The words that a mask names, in ascending bit order. B and L of a pointer pair stand as B, L, B, L (log entry 38). -/
def Core.frameWords (k : Core) (mask : Nat) : List Word :=
  (List.range 8).flatMap (fun n => if mask.testBit n then [k.ptr n] else [])
    ++ (List.range 4).flatMap (fun g =>
        if mask.testBit (8 + g) then [k.base (2 * g), k.len (2 * g), k.base (2 * g + 1), k.len (2 * g + 1)] else [])
    ++ [false, true].flatMap (fun o =>
        if mask.testBit (if o then 13 else 12) then
          [(k.loop o).cnt, (k.loop o).start.setWidth 32, (k.loop o).stop.setWidth 32]
        else [])
    ++ (if mask.testBit 14 then [k.sr] else [])

/-- How many words a mask names. -/
def maskWords (mask : Nat) : Nat :=
  ((List.range 8).filter mask.testBit).length + 4 * ((List.range 4).filter (fun g => mask.testBit (8 + g))).length
    + (if mask.testBit 12 then 3 else 0) + (if mask.testBit 13 then 3 else 0) + (if mask.testBit 14 then 1 else 0)

/-- The first of RSP, RSB and RSL that lies outside X and Y data memory (R355). -/
def Core.badStack (k : Core) : Option Word := [k.rsp, k.rsb, k.rsl].find? (fun v => decide (progBase ≤ v.toNat))

/-- Trap causes (R358). -/
def tcFetch : Nat := 1
def tcIllegal : Nat := 2
def tcPriv : Nat := 3
def tcXunf : Nat := 4
def tcXovf : Nat := 5
def tcYunf : Nat := 6
def tcYovf : Nat := 7
def tcAunf : Nat := 8
def tcAovf : Nat := 9
def tcFunf : Nat := 10
def tcFovf : Nat := 11
def tcMicro : Nat := 12
def tcRsovf : Nat := 13
def tcRsunf : Nat := 14
def tcMisalign : Nat := 15
def tcBus : Nat := 16
def tcEcc : Nat := 17
def tcSoft : Nat := 18

/-- A fault: its cause and TVAL. -/
abbrev Trap := Nat × Word

/-- A frame of n words would take RSP below RSL (R354). -/
def Core.overflows (k : Core) (n : Nat) : Bool := decide (k.rsp.toNat < k.rsl.toNat + 4 * n)

/-- A frame pushed: its words below RSP in descending addresses, then the link word, to which RSP points. -/
def Core.pushFrame (k : Core) (ws : List Word) (link : Nat) : Core :=
  let a := k.rsp.toNat - 4 * (ws.length + 1)
  let k := k.store a (wordsBytes (link :: ws.reverse.map BitVec.toNat))
  { k with rsp := BitVec.ofNat 32 a }

/-- The link word at RSP. -/
def Core.link (k : Core) : Nat := k.load k.rsp.toNat 4

/-- Words of the frame above the link word, in ascending mask order. -/
def Core.frameAt (k : Core) : List Word :=
  let n := maskWords (k.link / 2 ^ 16)
  ((List.range n).map (fun i => BitVec.ofNat 32 (k.load (k.rsp.toNat + 4 + 4 * i) 4))).reverse

/-- A return faults: an empty stack is RSUNF, a frame outside X and Y data memory BUS. Each cause is checked where it
stands in R358's order. -/
def Core.retUnder (k : Core) : Option Trap := if k.rsb ≤ k.rsp then some (tcRsunf, k.rsp) else none
def Core.retBus (k : Core) : Option Trap :=
  match k.badStack with
  | some v => some (tcBus, v)
  | none =>
    if progBase < k.rsp.toNat + 4 * (maskWords (k.link / 2 ^ 16) + 1) then some (tcBus, BitVec.ofNat 32 progBase) else none

/-- SR from a frame: T and FRM are taken, FLAGS and SATF added (R356). -/
def Core.mergeSr (k : Core) (v : Word) : Core :=
  { k with set := { k.set with
      t := v.getLsbD 0, frm := v.extractLsb' 6 2, flags := k.set.flags ||| v.extractLsb' 8 5,
      satf := k.set.satf || v.getLsbD 13 } }

/-- The words of a frame, in ascending mask order, taken back. -/
def Core.takeBack (k : Core) (mask : Nat) (ws : List Word) : Core :=
  let (k, ws) := (List.range 8).foldl (fun (acc : Core × List Word) n =>
    if mask.testBit n then (acc.1.setPtr n (acc.2.headD 0), acc.2.tail) else acc) (k, ws)
  let (k, ws) := (List.range 4).foldl (fun (acc : Core × List Word) g =>
    if mask.testBit (8 + g) then
      let v (i : Nat) := acc.2.getD i 0
      ((((acc.1.setBase (2 * g) (v 0)).setLen (2 * g) (v 1)).setBase (2 * g + 1) (v 2)).setLen (2 * g + 1) (v 3), acc.2.drop 4)
    else acc) (k, ws)
  let (k, ws) := [false, true].foldl (fun (acc : Core × List Word) o =>
    if mask.testBit (if o then 13 else 12) then
      (acc.1.setLoop o ⟨acc.2.getD 0 0, (acc.2.getD 1 0).setWidth 15, (acc.2.getD 2 0).setWidth 15⟩, acc.2.drop 3)
    else acc) (k, ws)
  if mask.testBit 14 then k.mergeSr (ws.headD 0) else k

/-- The frame that stands at RSP in `old`, the state before the bundle, is popped: its words restored, RSP above it. The return
index stays in the link word (R356). -/
def Core.popFrame (k old : Core) : Core :=
  let mask := old.link / 2 ^ 16
  let k' := k.takeBack mask old.frameAt
  { k' with rsp := old.rsp + BitVec.ofNat 32 (4 * (maskWords mask + 1)) }

/-! ### Traps (R357 to R360) -/

/-- Trap entry at a bundle: a trap in a trap handler halts the core and keeps the first trap's registers. -/
def Core.enterTrap (k : Core) (tr : Trap) (tpc : BitVec 15) : Core :=
  if k.th then { k with halted := true }
  else { k with
    set := { k.set with tpc := tpc, tcause := BitVec.ofNat 32 tr.1, tval := tr.2, u := false, ie := false }
    pu := k.set.u, pie := k.set.ie, th := true, pc := k.tvec.setWidth 16 }

/-- RETI from a trap (R359). -/
def Core.leaveTrap (k : Core) : Core :=
  { k with set := { k.set with u := k.pu, ie := k.pie }, th := false, pc := k.set.tpc.setWidth 16 }

/-! ### Interrupts (R379 to R383) -/

/-- The priority now running; none at level −1. -/
def Core.level (k : Core) : Option Nat := k.levels.head?.map (·.2)

/-- The core is in its beat program. -/
def Core.inBeat (k : Core) : Bool := k.levels.any (fun l => l.1 == .beat)

/-- Pending sources with their priorities, in the order in which equals are taken. -/
def State.intSources (s : State) (c : Nat) : List (IntSrc × Nat) :=
  let k := s.core c
  (if k.beatPend.isSome then [(.beat, 3)] else [])
    ++ (if k.evq.isEmpty then [] else [(.event, s.fld (CHB_CINTCFG_EVTPRI c))])
    ++ (if k.dbPend then [(.doorbell, s.fld (CHB_CINTCFG_DBPRI c))] else [])

/-- The first of the sources of highest priority. -/
def bestSource : List (IntSrc × Nat) → Option (IntSrc × Nat)
  | [] => none
  | p :: r =>
    match bestSource r with
    | some q => if p.2 < q.2 then some q else some p
    | none => some p

/-- The interrupt to be taken at a bundle boundary (R379). -/
def State.intDue (s : State) (c : Nat) : Option (IntSrc × Nat) :=
  let k := s.core c
  if k.set.ie && !k.th then
    (bestSource (s.intSources c)).filter (fun p => match k.level with | none => true | some l => decide (l < p.2))
  else none

/-- The handler's vector. -/
def State.vector (s : State) (c : Nat) : IntSrc → Nat
  | .beat => s.fld (CHB_CBEATVEC_VEC c)
  | .event => s.fld (CHB_CEVTVEC_VEC c)
  | .doorbell => s.fld (CHB_CDBVEC_VEC c)

/-- The items pushed at entry, top first (R382). -/
def State.entryItems (s : State) (c : Nat) : IntSrc → List Word
  | .beat => [BitVec.ofNat 32 ((s.core c).beatPend.getD 0)]
  | .event =>
    match (s.core c).evq.head? with
    | some e => [BitVec.ofNat 32 e.2, BitVec.ofNat 32 e.1]
    | none => []
  | .doorbell => [BitVec.ofNat 32 (s.fld (CHB_CDOORBELL_DATA c))]

/-- The source is taken: it is pending no longer. -/
def Core.takeSource (k : Core) : IntSrc → Core
  | .beat => { k with beatPend := none }
  | .event => { k with evq := k.evq.tail }
  | .doorbell => { k with dbPend := false }

/-- Entry from level −1 through the shadow set (R380). -/
def Core.enterShadow (k : Core) (items : List Word) : Core :=
  let h := { k.shadow with x := items, y := [], a := [], f := [], t := false, frm := 0, u := false, ie := false }
  { k with set := h, shadow := k.set, retPc := k.pc }

/-- The mask of an interrupt frame: L2MASK with SR (R381). -/
def State.l2Mask (s : State) (c : Nat) : Nat := (s.fld (CHB_CINTCFG_L2MASK c)) ||| 0x4000

/-- What keeps an interrupt frame from being pushed: RSOVF under R381, a return stack outside X and Y data memory (R355), or no
room for the entry items (log entry 39). -/
def Core.frameFault (k : Core) (mask : Nat) (items : List Word) : Option Trap :=
  if 16 < k.set.x.length + items.length then some (tcXovf, 0)
  else if k.overflows (maskWords mask + 1) then some (tcRsovf, k.rsp)
  else k.badStack.map (fun v => (tcBus, v))

/-- Entry while a handler runs, through an interrupt frame (R381). -/
def Core.enterFrame (k : Core) (mask : Nat) (items : List Word) : Core :=
  let k := k.pushFrame (k.frameWords mask) (mask * 2 ^ 16 + 0x8000 + k.pc.toNat % 2 ^ 15)
  { k with set := { k.set with x := items ++ k.set.x, t := false, frm := 0, u := false, ie := false } }

/-- The faults of a return from the innermost handler by RETI or YIELD. -/
def Core.retiUnder (k : Core) : Option Trap := if k.th || k.levels.length < 2 then none else k.retUnder
def Core.retiBus (k : Core) : Option Trap := if k.th || k.levels.length < 2 then none else k.retBus

/-- The innermost handler ends (R383): its interrupt frame, as it stood before the bundle, is popped, or the shadow set exchanged
back. -/
def Core.leaveHandler (k old : Core) : Core :=
  match k.levels with
  | [] => k.leaveTrap
  | [_] => { k with set := k.shadow, shadow := k.set, pc := k.retPc, levels := [] }
  | _ :: r =>
    let link := old.link
    let saved := old.frameAt.getLastD 0
    let k := k.popFrame old
    { k with
      set := { k.set with u := saved.getLsbD 1, ie := saved.getLsbD 2 }
      pc := BitVec.ofNat 16 (link % 2 ^ 15), levels := r }

/-- RETI (R383). -/
def Core.reti (k old : Core) : Core := if k.th then k.leaveTrap else k.leaveHandler old

/-! ### Loops (R353, R370) -/

/-- The index after the bundle that holds a syllable: after the first stop bit from there on. -/
def Core.afterBundle (k : Core) : Nat → Nat → Nat
  | 0, i => i
  | n + 1, i => if (k.syl i).msb then i + 1 else k.afterBundle n (i + 1)

/-- How many bundles lie from an index to the end of the bundle that ends before `stop`; at most n are counted. -/
def Core.bundlesTo (k : Core) (stop : Nat) : Nat → Nat → Nat
  | 0, _ => 0
  | n + 1, i => if stop ≤ i then 0 else 1 + k.bundlesTo stop n (k.afterBundle 6 i)

/-- A pass of a loop body ends with the bundle before `stop`: a body of at most 64 bundles stands in the loop cache from then
on, unless a body inside it does (R370). True where it has just been filled. -/
def Core.fillCache (k : Core) (start stop : Nat) : Core × Bool :=
  let holds : Bool := match k.cache with
    | some (a, b) => decide (start ≤ a ∧ b ≤ stop)
    | none => false
  if holds || decide (64 < k.bundlesTo stop 65 start) then (k, false)
  else ({ k with cache := some (start, stop) }, true)

/-- What a loop does after a bundle. -/
structure LoopRes where
  core : Core
  /-- Back edge. -/
  back : Bool
  fills : Nat

/-- Loop n after the bundle [addr, stop): where it closes there, it counts (R353). -/
def Core.closeLoop (k : Core) (one : Bool) (addr stop : Nat) : LoopRes :=
  let l := k.loop one
  if l.cnt != 0 && decide (addr ≤ l.stop.toNat) && decide (l.stop.toNat < stop) then
    let k := k.setLoop one { l with cnt := l.cnt - 1 }
    let (k, filled) := k.fillCache l.start.toNat stop
    ⟨k, l.cnt - 1 != 0, if filled then 1 else 0⟩
  else ⟨k, false, 0⟩

/-- Both loops after a bundle, but for one that the bundle itself has started: loop 1 first, and loop 0 only when loop 1 has
finished or does not close there. The index of a back edge, with how many bodies have filled the cache. -/
def Core.closeLoops (k : Core) (started : Option Bool) (addr stop : Nat) : Core × Option Nat × Nat :=
  let r1 := if started == some true then ⟨k, false, 0⟩ else k.closeLoop true addr stop
  if r1.back then (r1.core, some (r1.core.loop true).start.toNat, r1.fills)
  else
    let r0 := if started == some false then ⟨r1.core, false, 0⟩ else r1.core.closeLoop false addr stop
    (r0.core, if r0.back then some (r0.core.loop false).start.toNat else none, r1.fills + r0.fills)

/-- A taken branch ends each loop whose body its target lies outside (R353). -/
def Core.branchLoops (k : Core) (target : Nat) : Core :=
  [false, true].foldl (fun k o =>
    let l := k.loop o
    if decide (l.start.toNat ≤ target) && decide (target ≤ l.stop.toNat) then k else k.setLoop o { l with cnt := 0 }) k

/-! ### Beat accounting (R28, R386) -/

/-- Whole µs since the last edge. -/
def State.sinceEdge (s : State) : Nat := (s.tim.ts - s.tim.last) * 100 / 49152

/-- The beat program of a core ends with YIELD: its time is recorded (R386). -/
def State.recordYield (s : State) (c : Nat) : State :=
  let t := min s.sinceEdge 65535
  let s := (s.setFld (CHB_CYIELD_LAST c) t).setFld (CHB_CYIELD_MAX c) (max t (s.fld (CHB_CYIELD_MAX c)))
  s.setCore c { s.core c with owed := false, yielded := true }

/-- A core overruns (R28, R386). -/
def State.coreOverrun (s : State) (c : Nat) : State :=
  ((s.count (CHB_COVR_COUNT c)).overrunBit (16 + c)).raise (200 + 2 * c)

/-- A core runs: it is cast, out of reset, and the device has power for it (R387). -/
def State.coreRuns (s : State) (c : Nat) : Bool :=
  s.isCast (0x20 + c) && s.sys.phase == .running && s.mode != modeDormant

/-- The deadline of the beat passes (R28, R386): every core that was given an entry at the last edge and has not yielded
overruns. -/
def State.deadlines (s : State) : State :=
  (List.range 16).foldl (fun s c =>
    let k := s.core c
    if k.due && k.owed && !k.halted && s.isSet (CHB_CBEATVEC_EN c) then
      (s.setCore c { k with skip := true, due := false }).coreOverrun c
    else s) s

end Sys2Proof.Machine
end

