-- ==== Sys2Proof/Machine/Counters.lean ====
section
/-! DEFINITION. The core performance counters (spec/15 R389 to R398). The model has no clock of core cycles: a bundle brings the cycles
that passed before its issue (log entry 35), and a command that reads counters those that passed in WAIT or in a halt. -/

namespace Sys2Proof.Machine

open Sys2Proof.Fields

def cntMax : Nat := 2 ^ 48

def Core.count (k : Core) (n : Nat) : Nat := (tabGet 0 k.pmu.cnt n).toNat
def Core.setCount (k : Core) (n v : Nat) : Core :=
  { k with pmu := { k.pmu with cnt := tabSet 0 n (BitVec.ofNat 48 v) k.pmu.cnt } }

/-- Bit k of a pair of registers of 32 and 16 bits. -/
def pairBit (lo hi k : Nat) : Fld := if k < 32 then ⟨lo, k, 1⟩ else ⟨hi, k - 32, 1⟩

/-- Counter k of core c counts n. A counter that wraps sets its OVF bit, and with OVFEN puts an entry in the core's own FIFO
(R391, R398). -/
def State.pmuAdd (s : State) (c : Nat) (kn : Nat × Nat) : State :=
  let v := (s.core c).count kn.1 + kn.2
  let s := s.setCore c ((s.core c).setCount kn.1 v)
  if v < cntMax then s
  else
    let s := s.latch (pairBit (PMU_OVF_LO c) (PMU_OVF_HI c) kn.1)
    if s.isSet (pairBit (PMU_OVFEN_LO c) (PMU_OVFEN_HI c) kn.1) then s.toCore c (0x100 + kn.1) (s.core c).lastPc.toNat else s

def State.pmuAddAll (s : State) (c : Nat) (l : List (Nat × Nat)) : State := l.foldl (fun s p => s.pmuAdd c p) s

/-- A supervisor write loads half of a counter; a wrap by a write sets no OVF bit (R391, R398). -/
def State.pmuWrite (s : State) (c k : Nat) (high : Bool) (v : Word) : State :=
  let old := (s.core c).count k
  let new := if high then v.toNat % 2 ^ 16 * 2 ^ 32 + old % 2 ^ 32 else old / 2 ^ 32 * 2 ^ 32 + v.toNat
  s.setCore c ((s.core c).setCount k new)

/-- A snapshot copies all counters (R395). -/
def State.pmuSnap (s : State) (c : Nat) : State :=
  s.setCore c { s.core c with pmu := { (s.core c).pmu with snap := (s.core c).pmu.cnt } }

/-- SRESET empties the sample buffer (R397). -/
def State.pmuSampleReset (s : State) (c : Nat) : State :=
  s.setCore c { s.core c with pmu := { (s.core c).pmu with samples := [], next := 0, full := false, count := 0, seq := 0 } }

/-- The beat program of core c runs past its deadline (R392). -/
def State.pastDeadline (s : State) : Bool := decide (s.tim.last * 10 + s.fld CHB_BEATDL_DEADLINE * 49152 ≤ s.tim.ts * 10)

/-- An occupancy (R394). -/
def State.occupancy (s : State) (c inflight : Nat) : Nat → Nat
  | 0 => (s.core c).set.x.length
  | 1 => (s.core c).set.y.length
  | 2 => (s.core c).set.a.length
  | 3 => (s.core c).set.f.length
  | 4 => ((s.core c).rsb - (s.core c).rsp).toNat / 4
  | 5 => (s.core c).evq.length
  | 6 => inflight
  | _ => (s.core c).levels.length

/-- THR0 to THR3 over n active cycles. -/
def State.thrCounts (s : State) (c inflight n : Nat) : List (Nat × Nat) :=
  (List.range 4).map (fun j =>
    (44 + j, if s.fld (PMU_THR_N c j) < s.occupancy c inflight (s.fld (PMU_THR_OCC c j)) then n else 0))

/-- n core cycles pass. -/
def State.cycleCounts (s : State) (c n : Nat) : List (Nat × Nat) :=
  let k := s.core c
  let refused := !(s.intSources c).isEmpty && (!k.set.ie || k.th)
  [(0, n), (36, if refused then n else 0), (40, if k.inBeat then n else 0),
   (41, if k.inBeat && s.pastDeadline then n else 0)]

/-- n cycles pass in which the core waits or is halted; a core that is active counts them with its bundles. -/
def State.pmuIdle (s : State) (c n : Nat) : State :=
  let k := s.core c
  if s.coreRuns c && (k.wait || k.halted) then
    s.pmuAddAll c (s.cycleCounts c n ++ [(2, if k.halted then 0 else n)])
  else s

/-! ### Sampling (R396, R397) -/

/-- The bundle to which an occurrence is attributed. -/
structure Issue where
  pc     : Nat
  pred   : Bool
  user   : Bool
  inBeat : Bool
  cause  : Nat
  lat    : Nat

/-- The next interval: PERIOD, extended by JITTER bits that nothing constrains. -/
def State.drawInterval (s : State) (c : Nat) : Nat × State :=
  let j := s.fld (PMU_SAMPCFG_JITTER c)
  let p := s.fld (PMU_SAMPCFG_PERIOD c)
  if j = 0 then (p, s)
  else let (v, s) := s.fresh; (p + v % 2 ^ j, s)

/-- One record is written. -/
def State.writeSample (s : State) (c : Nat) (i : Issue) : State :=
  let m := (s.core c).pmu
  let b (p : Bool) (n : Nat) : Nat := if p then 2 ^ n else 0
  let tbeat := (s.tim.ts - s.tim.last) * 1000 / 49152
  let ws := [b i.pred 31 + b i.user 30 + b i.inBeat 29 + i.cause * 2 ^ 24 + i.pc % 2 ^ 15,
    tbeat % 2 ^ 16 * 2 ^ 16 + min i.lat 65535, s.beat, m.seq + 1].map (BitVec.ofNat 32)
  let first := m.count = 255
  let s := s.setCore c { s.core c with pmu := { m with
    samples := tabInsert m.next ws (tabErase m.next m.samples), next := (m.next + 1) % 256,
    full := m.full || first, count := min 256 (m.count + 1), seq := (m.seq + 1) % 2 ^ 32 } }
  if first && s.isSet (PMU_CFG_FULLINT c) then s.toCore c 0x130 256 else s

/-- n occurrences of the trigger: a record at each PERIOD-th; in the mode that stops, none once the buffer is full. -/
def State.sampleRun (s : State) (c : Nat) (i : Issue) : Nat → Nat → State
  | 0, _ => s
  | fuel + 1, n =>
    if !s.isSet (PMU_CFG_SMODE c) && (s.core c).pmu.count = 256 then s
    else
      let (left, s) := match (s.core c).pmu.left with
        | some l => (l, s)
        | none => s.drawInterval c
      let note (s : State) (l : Option Nat) : State := s.setCore c { s.core c with pmu := { (s.core c).pmu with left := l } }
      if n < left then note s (some (left - n))
      else (note (s.writeSample c i) none).sampleRun c i fuel (n - left)

/-- The occurrences of a bundle are counted, and sampled. -/
def State.pmuBundle (s : State) (c : Nat) (i : Issue) (counts : List (Nat × Nat)) : State :=
  let s := s.pmuAddAll c counts
  let n := (counts.filter (fun p => p.1 == s.fld (PMU_SAMPCFG_SEVT c))).foldl (fun a p => a + p.2) 0
  if s.isSet (PMU_CFG_SAMPEN c) && n != 0 then s.sampleRun c i (n / 16 + 1) n else s

/-- The largest of the sources of a bundle's stall cycles; ties go to the lower code (R397). -/
def largestCause (l : List (Nat × Nat)) : Nat :=
  (l.foldl (fun (acc : Nat × Nat) p => if acc.2 < p.2 then p else acc) (0, 0)).1

/-! ### Interrupts and offers -/

/-- A trap of core c at a bundle (R359, R360). -/
def State.coreTrap (s : State) (c : Nat) (tr : Trap) (tpc : BitVec 15) : State :=
  let k := s.core c
  let report := k.th || k.treport.getLsbD tr.1
  let s := (s.setCore c (k.enterTrap tr tpc)).pmuAdd c (37, 1)
  if report then s.raise (201 + 2 * c) else s

/-- The pending interrupt of highest priority is taken at the boundary (R379 to R382), after `lat` cycles. -/
def State.takeInterrupt (s : State) (c lat : Nat) : State :=
  if !s.coreRuns c || (s.core c).halted then s
  else
    match s.intDue c with
    | none => s
    | some (src, pri) =>
      let k := s.core c
      let items := s.entryItems c src
      let vec := BitVec.ofNat 16 (s.vector c src)
      let counts := [(match src with | .beat => 32 | .event => 33 | .doorbell => 34, 1), (35, lat)]
      let enter (k : Core) : Core := { k.takeSource src with pc := vec, levels := (src, pri) :: k.levels, wait := false }
      if k.levels.isEmpty then (s.setCore c (enter (k.enterShadow items))).pmuAddAll c counts
      else
        let mask := s.l2Mask c
        match k.frameFault mask items with
        | some tr => s.coreTrap c tr (k.pc.setWidth 15)
        | none => (s.setCore c (enter (k.enterFrame mask items))).pmuAddAll c ((39, maskWords mask + 1) :: counts)

/-- A doorbell is rung: DATA has been written, and the core takes one entry for it (R382). -/
def State.ringDoorbell (s : State) (c : Nat) : State := s.setCore c { s.core c with dbPend := true }

/-- A frame is offered to FWD: the copy begins (spec/14, R272). -/
def State.coreOffer (s : State) (c : Nat) : State :=
  let s := s.setCore c { s.core c with
    offer := some (s.fld (CHB_COFFER0_BANK c), s.fld (CHB_COFFER0_BOFS c), s.fld (CHB_COFFER1_LEN c)) }
  s.setFld (CHB_COFFER1_BUSY c) 1

def execInterruptEntry (core : Fin 16) (lat : Nat) (s : State) : Host.Outcome State Fault Refusal :=
  .next (s.takeInterrupt core lat)

/-- A counter wraps while no bundle issues: the cycles up to the wrap pass (R391). Only a counter that such cycles count
wraps so. -/
def execCycleCounterWrap (core : Fin 16) (k : Fin 48) (s : State) : Host.Outcome State Fault Refusal :=
  let runs := ((s.cycleCounts core 1) ++ [(2, if (s.core core).halted then 0 else 1)]).any (fun p => p.1 == k.val && p.2 == 1)
  .next (if runs then s.pmuIdle core (cntMax - (s.core core).count k) else s)

def execChaserDeadline (s : State) : Host.Outcome State Fault Refusal :=
  let at_ := (s.tim.last * 10 + s.fld CHB_BEATDL_DEADLINE * 49152) / 10
  .next (if s.beating then { s with tim := { s.tim with ts := max s.tim.ts at_ } }.deadlines else s)

end Sys2Proof.Machine
end

