-- ==== Sys2Proof/Machine/Air.lean ====
section
/-! DEFINITION. Channels, profiles, airtimes and the cell geometry (spec/07 R192 to R207, spec/08 R218 to R232). Instants are in fabric
ticks. -/

namespace Sys2Proof.Machine

open Sys2Proof.Fields

/-! ### Profiles and channels (R194, R196, R198) -/

/-- The bit rate of a RATE encoding, in bit/s. -/
def rateOf (r : Nat) : Nat :=
  match r with
  | 0 => 50000
  | 1 => 100000
  | 2 => 150000
  | 3 => 200000
  | 4 => 300000
  | _ => 250000

/-- A function of the mesh runs lane n: it is cast and not held. -/
def State.laneLive (s : State) (n : Nat) : Bool := s.live (9 + n)

/-- The band group of a lane. -/
def State.band (s : State) (n : Nat) : Nat := s.fld (RFL_PLAN_BANDGRP n)

/-- A channel is valid on a lane. -/
def State.chValid (s : State) (n ch : Nat) : Bool := decide (ch < 64) && s.isSet (RFL_CH_VALID n ch)

/-- The profile of a channel. -/
def State.chProf (s : State) (n ch : Nat) : Nat := s.fld (RFL_CH_PROF n ch)

/-- The centre of a channel in Hz. -/
def State.chHz (s : State) (n ch : Nat) : Nat := ((s.fld (RFL_CAPCTR_FREQ n) : Int) + s.fldInt (RFL_CH_OFFSET n ch)).toNat

/-- A tap is cast, and may hold sentinel tickets. -/
def State.tapCast (s : State) (n k : Nat) : Bool := decide (k < 32) && s.isSet (RFL_TAP_CAST n k)
def State.tapSent (s : State) (n k : Nat) : Bool := s.isSet (RFL_TAP_SENT n k)

/-- The ordinary taps of a profile, in ascending order: cast and not SENT. -/
def State.plainTaps (s : State) (n prof : Nat) : List Nat :=
  (List.range 32).filter (fun k => s.tapCast n k && !s.tapSent n k && s.fld (RFL_TAP_PROF n k) == prof)

/-- A profile's PHY is O-QPSK. -/
def State.oqpsk (s : State) (n p : Nat) : Bool := s.fld (RFL_PROF_PHY n p) == 3

/-- Octets of FCS of a profile. -/
def State.fcsLen (s : State) (n p : Nat) : Nat := if s.isSet (RFL_PROF_FCS4 n p) then 4 else 2

/-- A number of bits at a bit rate, in fabric ticks, rounded up. -/
def bitTicks (bits rate : Nat) : Nat := (bits * ticksPerSecond + rate - 1) / rate

/-- From the start instant to the nominal SFD end (R220). -/
def State.sfdTicks (s : State) (n p : Nat) : Nat :=
  if s.oqpsk n p then usTicks 160 else bitTicks (8 * (s.fld (RFL_PROF_PREAMBLE n p) + 2)) (rateOf (s.fld (RFL_PROF_RATE n p)))

/-- The bits of a frame on air, for L PSDU octets with their FCS (R204). -/
def State.airBits (s : State) (n p len : Nat) : Nat :=
  if s.oqpsk n p then 8 * (6 + len) else 8 * (s.fld (RFL_PROF_PREAMBLE n p) + 4 + len)

/-- A frame's time on air, and the charged airtime T in µs (R204). -/
def State.airTicks (s : State) (n p len : Nat) : Nat := bitTicks (s.airBits n p len) (rateOf (s.fld (RFL_PROF_RATE n p)))
def State.chargeUs (s : State) (n p len : Nat) : Nat :=
  let r := rateOf (s.fld (RFL_PROF_RATE n p))
  (s.airBits n p len * 1000000 + r - 1) / r + 2 * s.fld (RFL_TXCFG_RAMP n)

/-- The ramp of a lane. -/
def State.rampTicks (s : State) (n : Nat) : Nat := usTicks (s.fld (RFL_TXCFG_RAMP n))

/-! ### Gain (R195) -/

/-- The gain of a lane in 0.5 dB. In automatic mode it stands still from the SFD of a frame to its end, and in the tick of a fast attack;
else it is free (log entry 41). -/
def State.laneGain (s : State) (n : Nat) : Nat × State :=
  match s.fld (RFL_AGC_MODE n) with
  | 0 =>
    if (s.lane n).taps.any (fun p => p.2.frame.isSome) || (s.lane n).gainAt == some s.tim.ts then (s.fld (RFL_AGC_GAIN n), s)
    else
      let (g, s) := s.fresh
      (g % 133, s)
  | 1 => (s.fld (RFL_AGC_GAIN n), s)
  | _ => (s.fld (RFL_AGC_MANGAIN n), s)

/-! ### Frame check sequences (R199; the standard's, PRESUMED, log entry 7) -/

/-- One octet of the 16-bit FCS of IEEE 802.15.4, least significant bit first. -/
def fcsBit (c : Nat) : Nat := if c % 2 = 1 then (c / 2) ^^^ 0x8408 else c / 2
def fcsByte (c : Nat) (b : Byte) : Nat :=
  fcsBit (fcsBit (fcsBit (fcsBit (fcsBit (fcsBit (fcsBit (fcsBit (c ^^^ b.toNat))))))))

/-- The FCS of a PSDU, of 4 or 2 octets. -/
def fcsOf (four : Bool) (bs : List Byte) : List Byte :=
  if four then leBytes 4 (crc32 (bs ++ List.replicate (4 - bs.length) 0#8)) else leBytes 2 (bs.foldl fcsByte 0)

/-! ### Temper table (R207, R208) -/

def temperAddr (n e w : Nat) : Nat := 0x420000 + 0x4000 * n + 32 * e + 4 * w
def T_FREQ (n e : Nat) : Fld := ⟨temperAddr n e 0, 0, 32⟩
def T_VALID (n e : Nat) : Fld := ⟨temperAddr n e 1, 31, 1⟩
def T_SYN (n e : Nat) : Fld := ⟨temperAddr n e 1, 30, 1⟩
def T_TCAL (n e : Nat) : Fld := ⟨temperAddr n e 1, 16, 8⟩
def T_USES (n e : Nat) : Fld := ⟨temperAddr n e 1, 0, 16⟩
def T_SEEDS (n e : Nat) : Fld := ⟨temperAddr n e 2, 0, 32⟩
def T_IQ (n e : Nat) : Fld := ⟨temperAddr n e 3, 0, 32⟩

/-- The distance of two numbers. -/
def dist (a b : Nat) : Nat := (a - b) + (b - a)

/-- The entries of a synthesiser within 1 MHz of a frequency. -/
def State.temperNear (s : State) (n : Nat) (tx : Bool) (hz : Nat) : List Nat :=
  (List.range 512).filter (fun e => s.isSet (T_VALID n e) && s.isSet (T_SYN n e) == tx
    && decide (dist (s.fld (T_FREQ n e)) hz ≤ 1000000))

/-- The lane's temperature moved less than 10 °C from an entry's calibration. -/
def State.temperWarm (s : State) (n e : Nat) : Bool :=
  decide ((s.fldInt (T_TCAL n e) - s.fldInt (RFL_STAT_TEMP n)).natAbs ≤ 10)

/-- The best of a list by a measure, the first among equals. -/
def leastBy (m : Nat → Nat) : List Nat → Option Nat
  | [] => none
  | a :: r =>
    match leastBy m r with
    | none => some a
    | some b => if m a ≤ m b then some a else some b

/-- The entry that seeds a retune: the nearest in frequency, then in temperature, then the lowest-numbered. -/
def State.seedFor (s : State) (n : Nat) (tx : Bool) (hz : Nat) : Option Nat :=
  leastBy (fun e => dist (s.fld (T_FREQ n e)) hz * 512 + (s.fldInt (T_TCAL n e) - s.fldInt (RFL_STAT_TEMP n)).natAbs)
    ((s.temperNear n tx hz).filter (s.temperWarm n))

/-- A channel of a lane is seeded, as the lane reports it to SCH (R207). -/
def State.chSeeded (s : State) (n ch : Nat) : Bool := (s.seedFor n true (s.chHz n ch)).isSome

/-! ### Slots (R218, R219) -/

/-- The kinds of a slot. -/
inductive SlotKind where
  | beacon | ack | down | up
  deriving DecidableEq, Repr

/-- A slot is in the DOWN list of a band group. -/
def State.inDown (s : State) (g j : Nat) : Bool :=
  (List.range 16).any (fun k => s.isSet (MAC_DOWN_VALID (16 * g + k)) && s.fld (MAC_DOWN_SLOT (16 * g + k)) == j)

/-- The kind of slot j on a lane of band group g (R218). -/
def State.slotKind (s : State) (g j : Nat) : SlotKind :=
  if j = 0 then .beacon
  else if j % s.fld MAC_GEOM_ACKEVERY = 0 then .ack
  else if s.inDown g j then .down
  else .up

/-- The slot carries a sentinel cell (R219). -/
def State.sentSlot (s : State) (j : Nat) : Bool := s.isSet MAC_GEOM_SENTK && (j + 1) % s.fld MAC_GEOM_SENTK == 0

/-- The join slots of a lane: the first JOINN UP slots (R218). -/
def State.joinSlots (s : State) (n : Nat) : List Nat :=
  ((List.range s.slotsPerSec).filter (fun j => s.slotKind (s.band n) j == .up)).take (s.fld (MAC_LANEGEOM_JOINN n))

/-- The tap that listens in join cells (R253). -/
def State.joinTap (s : State) (n : Nat) : Option Nat :=
  let ch := s.fld (MAC_LANEGEOM_JOINCH n)
  if s.chValid n ch then (s.plainTaps n (s.chProf n ch)).head? else none

/-! ### Guard times (R232) -/

/-- Drift rate of a class in ppm. -/
def driftOf (c : Nat) : Nat := [1, 2, 5, 10, 20, 40, 80, 160].getD c 0

/-- HM. -/
def State.holdMargin (s : State) : Nat := if s.mode = modeHoldover then s.fld MAC_GUARDCFG_HMARGIN else 0

/-- G_raw and the cap C in units of 10^−6 tick: GBASE + r × Δt + HM, and S × L/4. -/
def State.guardRaw (s : State) (i t : Nat) : Nat :=
  let d := if s.lastRx i = 0 then 0 else t - s.lastRx i
  (s.fld MAC_GUARDCFG_GBASE + s.holdMargin) * 491520000 + driftOf (s.nr i NR_DCLASS) * d
def State.guardCap (s : State) : Nat := s.slotBeats * s.beatTicks / 4 * 1000000

/-- The half-width G of a window in µs. -/
def State.guardUs (s : State) (i t : Nat) : Nat := (min (s.guardRaw i t) s.guardCap + 491519999) / 491520000

/-- The uncapped guard has reached the cap. A record with no contact is never found adrift (R232). -/
def State.guardOut (s : State) (i t : Nat) : Bool := s.lastRx i != 0 && decide (s.guardCap ≤ s.guardRaw i t)

end Sys2Proof.Machine
end

