-- ==== Sys2Proof/Machine/Ledgers.lean ====
section
/-! DEFINITION. The duty-cycle ledgers (spec/08 R233 to R235, spec/07 R204). Entry e of band group g; 16 is the group's own
ledger. -/

namespace Sys2Proof.Machine

open Sys2Proof.Fields

def ledgerAddr (g e w : Nat) : Nat := 0x430000 + 0x400 * g + 0x20 * e + 4 * w
def L_FLO (g e : Nat) : Fld := ⟨ledgerAddr g e 0, 0, 32⟩
def L_FHI (g e : Nat) : Fld := ⟨ledgerAddr g e 1, 0, 32⟩
def L_VALID (g e : Nat) : Fld := ⟨ledgerAddr g e 2, 31, 1⟩
def L_LIMIT (g e : Nat) : Fld := ⟨ledgerAddr g e 2, 0, 20⟩
def L_PEND (g e : Nat) : Fld := ⟨ledgerAddr g e 5, 0, 32⟩
def L_REFUSALS (g e : Nat) : Fld := ⟨ledgerAddr g e 6, 0, 32⟩

/-- The ledger's number in the state's table and among the ingots of class 0x7. -/
def ledgerNo (g e : Nat) : Nat := 17 * g + e

/-- The budget in µs (R233). -/
def State.budget (s : State) (g e : Nat) : Nat := s.fld (L_LIMIT g e) * s.fld MAC_GEOM_WIN

/-- A bucket counts in the window that ends with a second. No bucket leaves it before TVALID (R233, R235). -/
def State.inWindow (s : State) (t k : Nat) : Bool :=
  !s.mac.tvSeen || decide (k ≤ t) && decide (t < k + s.fld MAC_GEOM_WIN)

/-- USED at a second: the sum of the buckets in the window (R233). -/
def State.used (s : State) (g e t : Nat) : Nat :=
  (((s.ledger (ledgerNo g e)).buckets.filter (fun b => s.inWindow t b.1)).map (·.2)).sum

/-- The bucket of a second. -/
def State.bucket (s : State) (g e t : Nat) : Nat := tabGet 0 (s.ledger (ledgerNo g e)).buckets t

/-- A ledger's data in an event: the band group in [9:8], the entry in [20:16]. -/
def ledgerData (g e : Nat) : Nat := g * 256 + e * 65536

/-- DC-WARN at 90 % of the budget, and again only after the sum has fallen below 80 % (R235). -/
def State.warnLedger (s : State) (g e t : Nat) : State :=
  let x := s.ledger (ledgerNo g e)
  let u := 10 * (s.used g e t + s.fld (L_PEND g e))
  if !x.warned && decide (9 * s.budget g e ≤ u) then (s.setLedger (ledgerNo g e) { x with warned := true }).raise 121 (ledgerData g e)
  else if x.warned && decide (u < 8 * s.budget g e) then s.setLedger (ledgerNo g e) { x with warned := false }
  else s

/-- The sub-band ledgers whose closed range holds a frequency (R233). -/
def State.subBands (s : State) (g hz : Nat) : List Nat :=
  (List.range 16).filter (fun e => s.isSet (L_VALID g e) && decide (s.fld (L_FLO g e) ≤ hz) && decide (hz ≤ s.fld (L_FHI g e)))

/-- The ledgers a transmission fails, in ascending order (R233, R234). -/
def State.failing (s : State) (g hz air t : Nat) : List Nat :=
  match s.subBands g hz with
  | [] => [16]
  | es => (es ++ [16]).filter (fun e => decide (s.budget g e < s.used g e t + s.fld (L_PEND g e) + air))

/-- A transmission's charged airtime is submitted: the ledgers that admit it, or none where it is refused (R234). -/
def State.submitAir (s : State) (n g hz air t : Nat) : List Nat × State :=
  match s.failing g hz air t with
  | [] =>
    let es := s.subBands g hz ++ [16]
    (es, es.foldl (fun s e => (s.setFld (L_PEND g e) (s.fld (L_PEND g e) + air)).warnLedger g e t) s)
  | e :: r =>
    let s := (e :: r).foldl (fun s k => s.count (L_REFUSALS g k)) s
    ([], (s.count MAC_DCREFUSE_COUNT).raise 120 (n + ledgerData g e))

/-- A charge enters a bucket. -/
def State.addBucket (s : State) (g e t us : Nat) : State :=
  let x := s.ledger (ledgerNo g e)
  s.setLedger (ledgerNo g e) { x with buckets := tabSet 0 t (tabGet 0 x.buckets t + us) x.buckets }

/-- The retirement of an admitted transmission (R235): PEND falls by T and the charge enters the bucket of the
ticket's beat. -/
def State.retireAir (s : State) (g air charge t : Nat) (es : List Nat) : State :=
  es.foldl (fun s e =>
    ((s.setFld (L_PEND g e) (s.fld (L_PEND g e) - air)).addBucket g e t charge).warnLedger g e t) s

/-- Buckets that have left every later window are dropped. -/
def State.pruneLedger (s : State) (g e t : Nat) : State :=
  let x := s.ledger (ledgerNo g e)
  if s.mac.tvSeen then
    s.setLedger (ledgerNo g e) { x with buckets := x.buckets.filter (fun b => decide (t < b.1 + s.fld MAC_GEOM_WIN)) }
  else s

/-- All ledgers of the device. -/
def allLedgers : List (Nat × Nat) := [0, 1, 2].flatMap (fun g => (List.range 17).map (fun e => (g, e)))

/-- A new device second opens a bucket in every ledger in use, and buckets leave the window (R233). -/
def State.ledgerSecond (s : State) (t : Nat) : State :=
  allLedgers.foldl (fun s p => if s.isSet (L_VALID p.1 p.2) then (s.pruneLedger p.1 p.2 t).warnLedger p.1 p.2 t else s) s

end Sys2Proof.Machine
end

