-- ==== Sys2Proof/Machine/Tables.lean ====
section
/-! DEFINITION. The forwarding tables in FWD's banks (spec/10 R273 to R284, R286): entries, keys, the length filter, learning
and the sweeper. A table is named as in FWD_TWSEL: 0 node, 1 neighbour, 2 route, 3 filter. -/

namespace Sys2Proof.Machine

open Sys2Proof.Fields

/-! ### Where the tables lie (R274) -/

/-- The address of the n-th FWD bank. -/
def State.fwdBank (s : State) (n : Nat) : Nat := (s.fld FWD_GEOM_FIRSTBANK + n) * bankSize

/-- Where each table starts. The place of the filter in its bank is the model's (log entry 12). -/
def State.tabBase (s : State) (t : Nat) : Nat :=
  match t with
  | 0 => s.fwdBank 0
  | 1 => s.fwdBank 12
  | 2 => s.fwdBank 14
  | _ => s.fwdBank 13

/-- The bytes of an entry. -/
def entryBytes (t : Nat) : Nat := match t with
  | 2 => 32
  | 3 => 2
  | _ => 16

/-- Entries of length slot k (R273). -/
def State.slotSize (s : State) (k : Nat) : Nat := if k < s.fld FWD_GEOM_NLEN then 8 * 2 ^ s.fld (FWD_LEN_LOG2NB k) else 0

/-- The first route index of length slot k (R280). -/
def State.slotBase (s : State) (k : Nat) : Nat := ((List.range k).map s.slotSize).sum

/-- Entries of a table. -/
def State.tabSize (s : State) (t : Nat) : Nat :=
  match t with
  | 0 => 131072
  | 1 => 16384
  | 2 => s.slotBase 16
  | _ => 65536

/-- Octets of a table. -/
def State.tabBytes (s : State) (t : Nat) : Nat := entryBytes t * s.tabSize t

def State.entryAddr (s : State) (t i : Nat) : Nat := s.tabBase t + entryBytes t * i

/-- The words of an entry as they are stored. -/
def State.entry (s : State) (t i : Nat) : List Nat :=
  bytesWords (entryBytes t / 4) (s.cells (s.entryAddr t i) (entryBytes t))

def State.entryWord (s : State) (t i w : Nat) : Nat := ofLeBytes (s.cells (s.entryAddr t i + 4 * w) 4)

/-- An entry's words are written. -/
def State.putEntry (s : State) (t i : Nat) (ws : List Nat) : State :=
  (s.bankWrite ownFwd (s.entryAddr t i) (wordsBytes ws)).2

def State.putEntryWord (s : State) (t i w v : Nat) : State :=
  (s.bankWrite ownFwd (s.entryAddr t i + 4 * w) (leBytes 4 v)).2

/-- The word that holds VALID (R288). -/
def validWord (t : Nat) : Nat := match t with
  | 0 => 2
  | 1 => 0
  | _ => 4

def State.entryValid (s : State) (t i : Nat) : Bool := (s.entryWord t i (validWord t)).testBit 31

/-- The VALID entries of a table in index order: bit 31 of the VALID word is bit 7 of its last octet, so a VALID entry
has a listed octet there. -/
def State.validEntries (s : State) (t : Nat) : List Nat :=
  let b := s.tabBase t
  let n := entryBytes t
  s.mem.cells.filterMap (fun c =>
    if b ≤ c.1 ∧ c.1 < b + s.tabBytes t ∧ (c.1 - b) % n = 4 * validWord t + 3 ∧ c.2.getLsbD 7 then some ((c.1 - b) / n)
    else none)

/-- A table is locked: its bit of FWD_LOCK.REQ stops learning and background updates (R287). -/
def State.tabLocked (s : State) (t : Nat) : Bool := (s.fld FWD_LOCK_REQ).testBit t

/-! ### Node table (R275) -/

/-- EUI, lane and short address of a node entry. -/
def State.nodeKeyOf (s : State) (i : Nat) : Nat × Nat × Nat :=
  let w2 := s.entryWord 0 i 2
  (s.entryWord 0 i 1 * 2 ^ 32 + s.entryWord 0 i 0, w2 / 2 ^ 16 % 4, w2 % 2 ^ 16)

/-- The VALID entry of an EUI, and of a short address on a lane. -/
def State.nodeByEui (s : State) (e : Nat) : Option Nat := (s.validEntries 0).find? (fun i => (s.nodeKeyOf i).1 == e)
def State.nodeByShort (s : State) (lane a : Nat) : Option Nat :=
  (s.validEntries 0).find? (fun i => (s.nodeKeyOf i).2 == (lane, a))

def State.firstHop (s : State) (i : Nat) : Nat := s.entryWord 0 i 3 % 2 ^ 16

/-- What a change of a node entry is judged by (R276): lane, short address and first hop while VALID. -/
def State.nextHopOf (s : State) (i : Nat) : Option (Nat × Nat) :=
  if s.entryValid 0 i then some (s.entryWord 0 i 2 % 2 ^ 18, s.firstHop i) else none

/-- The words of a node entry with its reserved bits cleared. -/
def nodeImage (ws : List Nat) : List Nat :=
  [ws.getD 0 0, ws.getD 1 0, ws.getD 2 0 % 2 ^ 18 + (if (ws.getD 2 0).testBit 31 then 2 ^ 31 else 0), ws.getD 3 0 % 2 ^ 16]

/-- A node image's key belongs to another VALID entry. -/
def State.nodeDup (s : State) (i : Nat) (ws : List Nat) : Bool :=
  (s.validEntries 0).any (fun j => j != i &&
    ((s.nodeKeyOf j).1 == ws.getD 1 0 * 2 ^ 32 + ws.getD 0 0 ||
     (s.nodeKeyOf j).2 == (ws.getD 2 0 / 2 ^ 16 % 4, ws.getD 2 0 % 2 ^ 16)))

/-! ### Neighbour table (R277, R278) -/

/-- Bits of word 0 of a neighbour entry and word 4 of a route entry. -/
def bitDyn : Nat := 28
def bitAged : Nat := 29
def bitHit : Nat := 30

/-- A word with a bit set or cleared. -/
def withBit (w b : Nat) (v : Bool) : Nat := if w.testBit b = v then w else w ^^^ 2 ^ b

/-- A neighbour's key: KIND and ID. -/
def nbrKey (w0 : Nat) : Nat := w0 % 2 ^ 17
def nbrPort (w0 : Nat) : Nat := w0 / 2 ^ 18 % 4

def State.nbrFind (s : State) (key : Nat) : Option Nat := (s.validEntries 1).find? (fun i => nbrKey (s.entryWord 1 i 0) == key)

/-- The first index of a table without VALID (log entry 12). -/
def State.nbrFree (s : State) : Option Nat :=
  let used := s.validEntries 1
  (List.range 16384).find? (fun i => !used.contains i)

/-- The bit that marks an entry hit is set (R277, R282). -/
def State.setHit (s : State) (t i : Nat) : State :=
  s.putEntryWord t i (validWord t) (withBit (s.entryWord t i (validWord t)) bitHit true)

/-- A learning is refused (R277). -/
def State.learnDrop (s : State) : State := (s.count FWD_LEARNDROP_COUNT).raiseLimited 159 159

/-- A neighbour is inserted with DYN set, or refused at a full or locked table (R277, R326). -/
def State.nbrLearn (s : State) (key port rec rssi : Nat) (hit : Bool) : State :=
  if s.tabLocked 1 then s.learnDrop
  else match s.nbrFree with
    | none => s.learnDrop
    | some i => s.putEntry 1 i [key + port * 2 ^ 18 + 2 ^ bitDyn + (if hit then 2 ^ bitHit else 0) + 2 ^ 31, rec, s.beat, rssi % 256]

/-- An accepted frame of a router refreshes its neighbour (R277). -/
def State.nbrRefresh (s : State) (i lane rssi : Nat) : State :=
  if s.tabLocked 1 then s.learnDrop
  else match s.nbrFind (s.nr i NR_SHORT) with
    | none => s.nbrLearn (s.nr i NR_SHORT) lane i rssi true
    | some e =>
      let w0 := s.entryWord 1 e 0
      if nbrPort w0 ≠ lane then (s.count FWD_NBRMOVE_COUNT).raise 156
      else s.putEntry 1 e [withBit w0 bitHit true, s.entryWord 1 e 1, s.beat, rssi % 256]

/-- An entry is removed. -/
def State.nbrRemove (s : State) (e : Nat) : State := s.putEntryWord 1 e 0 (withBit (s.entryWord 1 e 0) 31 false)

/-- MAC reports a node lost: its neighbour goes, unless the table is locked (R278). -/
def State.nbrLost (s : State) (i : Nat) : State :=
  if s.tabLocked 1 then s
  else match s.nbrFind (s.nr i NR_SHORT) with
    | none => s
    | some e => if nbrPort (s.entryWord 1 e 0) = s.nr i NR_LANE then s.nbrRemove e else s

/-! ### Route table and filter (R279 to R282) -/

/-- The eight 16-bit groups of 16 octets in address order. -/
def groups (a : List Byte) : List Nat := (List.range 8).map (fun i => (a.getD (2 * i) 0#8).toNat * 256 + (a.getD (2 * i + 1) 0#8).toNat)

/-- A 16-bit left rotation. -/
def rotl16 (x n : Nat) : Nat := (x * 2 ^ (n % 16)) % 65536 + x / 2 ^ (16 - n % 16)

/-- The filter index of a destination. -/
def foldAddr (a : List Byte) : Nat :=
  let g := groups a
  g.getD 0 0 ^^^ rotl16 (g.getD 1 0) 4 ^^^ rotl16 (g.getD 2 0) 8 ^^^ rotl16 (g.getD 3 0) 12

/-- An address with every bit beyond a length cleared. -/
def maskAddr (len : Nat) (a : List Byte) : List Byte :=
  (List.range 16).map (fun i =>
    let keep := min 8 (len - 8 * i)
    (a.getD i 0#8) &&& BitVec.ofNat 8 (256 - 2 ^ (8 - keep)))

/-- The bucket hash H. -/
def bucketHash (len : Nat) (a : List Byte) : Nat :=
  let g := groups (maskAddr len a)
  (List.range 8).foldl (fun h i => h ^^^ rotl16 (g.getD i 0) (2 * i + 1)) len

/-- The first route index of the bucket of an address in slot k. -/
def State.bucketOf (s : State) (k : Nat) (a : List Byte) : Nat :=
  s.slotBase k + 8 * (bucketHash (s.fld (FWD_LEN_LEN k)) a % 2 ^ s.fld (FWD_LEN_LOG2NB k))

/-- The slot of a cast length, and of a route index. -/
def State.slotOfLen (s : State) (len : Nat) : Option Nat :=
  (List.range (s.fld FWD_GEOM_NLEN)).find? (fun k => s.fld (FWD_LEN_LEN k) == len)
def State.slotOfIdx (s : State) (i : Nat) : Option Nat :=
  (List.range 16).find? (fun k => decide (s.slotBase k ≤ i) && decide (i < s.slotBase k + s.slotSize k))

/-- Prefix and length of a route image. -/
def prefixOf (ws : List Nat) : List Byte := wordsBytes (ws.take 4)
def routeLen (ws : List Nat) : Nat := ws.getD 4 0 % 256

/-- The position of a prefix in its bucket. -/
def State.routeFind (s : State) (k : Nat) (pre : List Byte) : Option Nat :=
  ((List.range 8).map (· + s.bucketOf k pre)).find? (fun i =>
    s.entryValid 2 i && routeLen (s.entry 2 i) == s.fld (FWD_LEN_LEN k) && prefixOf (s.entry 2 i) == pre)

def State.routeFree (s : State) (k : Nat) (pre : List Byte) : Option Nat :=
  ((List.range 8).map (· + s.bucketOf k pre)).find? (fun i => !s.entryValid 2 i)

/-- A bit of the length filter. -/
def State.filterWord (s : State) (h : Nat) : Nat := ofLeBytes (s.cells (s.entryAddr 3 h) 2)
def State.setFilter (s : State) (h k : Nat) : State :=
  (s.bankWrite ownFwd (s.entryAddr 3 h) (leBytes 2 (withBit (s.filterWord h) k true))).2

/-- The VALID entries of a slot change by one; the filter bits of an empty slot are to be cleared (R281). -/
def State.slotUp (s : State) (k : Nat) (pre : List Byte) : State :=
  let s := s.setFld (FWD_LEN_COUNT k) (s.fld (FWD_LEN_COUNT k) + 1)
  if 64 ≤ s.fld (FWD_LEN_LEN k) then s.setFilter (foldAddr pre) k else s
def State.slotDown (s : State) (k : Nat) : State :=
  let n := s.fld (FWD_LEN_COUNT k) - 1
  let s := s.setFld (FWD_LEN_COUNT k) n
  if n = 0 then { s with fwd := { s.fwd with clearing := insertNat k s.fwd.clearing } } else s

/-- A route entry is removed. -/
def State.routeRemove (s : State) (i : Nat) : State :=
  let s := s.putEntryWord 2 i 4 (withBit (s.entryWord 2 i 4) 31 false)
  match s.slotOfIdx i with
  | some k => s.slotDown k
  | none => s

/-- The clear of a filter bit ends in all entries (R281). -/
def State.filterCleared (s : State) (k : Nat) : State :=
  let b := s.tabBase 3
  let ws := dedupAdj ((s.mem.cells.filter (fun c => decide (b ≤ c.1) && decide (c.1 < b + 131072))).map (fun c => (c.1 - b) / 2))
  let s := ws.foldl (fun s h => (s.bankWrite ownFwd (s.entryAddr 3 h) (leBytes 2 (withBit (s.filterWord h) k false))).2) s
  { s with fwd := { s.fwd with clearing := s.fwd.clearing.erase k } }

/-! ### Sweeper (R283, R284) -/

/-- The entries that the sweeper visits, in its order: neighbours, then routes numbered on from 16,384. -/
def State.sweepList (s : State) : List Nat := s.validEntries 1 ++ (s.validEntries 2).map (· + 16384)

/-- One visit: HIT and AGED are cleared, AGED is set, or a learned entry is removed. -/
def State.sweepEntry (s : State) (t i : Nat) : State :=
  let w := s.entryWord t i (validWord t)
  if w.testBit bitHit then s.putEntryWord t i (validWord t) (withBit (withBit w bitHit false) bitAged false)
  else if !w.testBit bitAged then s.putEntryWord t i (validWord t) (withBit w bitAged true)
  else if w.testBit bitDyn then
    let s := if t = 1 then s.nbrRemove i else s.routeRemove i
    (s.count FWD_AGED_COUNT).raiseLimited 157 157
  else s

/-- The sweeper visits the next VALID entry from its place on; a locked table stops it there (R287). -/
def State.sweepVisit (s : State) : State :=
  let l := s.sweepList
  match (l.find? (fun p => decide (s.fwd.sweep ≤ p))).orElse (fun _ => l.head?) with
  | none => s
  | some p =>
    let t := if p < 16384 then 1 else 2
    if s.tabLocked t then { s with fwd := { s.fwd with sweep := p } }
    else { s with fwd := { s.fwd with sweep := p + 1 } }.sweepEntry t (if p < 16384 then p else p - 16384)

end Sys2Proof.Machine
end

