-- ==== Sys2Proof/Machine/Frames.lean ====
section
/-! DEFINITION. Scasor frames: headers, protection, beacons and their maps (spec/08 R221 to R226, spec/11 R296 to R300, R312). -/

namespace Sys2Proof.Machine

open Sys2Proof.Fields

/-! ### Headers (R221, R222) -/

def ftBeacon : Nat := 0
def ftAckBeacon : Nat := 1
def ftUplink : Nat := 2
def ftDownlink : Nat := 3
def ftNodeAck : Nat := 4
def ftJoinReq : Nat := 5
def ftJoinResp : Nat := 6
def ftSentinel : Nat := 7
def ftBroadcast : Nat := 8

/-- The header of a frame that the coordinator sends: short address or EUI-64, and HOPS 0. -/
def mhr (ftype : Nat) (long ackreq : Bool) (cellid addr fcnt : Nat) : List Byte :=
  leBytes 1 (ftype + (if long then 16 else 0) + (if ackreq then 32 else 0) + 64) ++ [0#8] ++ leBytes 2 cellid
    ++ leBytes (if long then 8 else 2) addr ++ leBytes 4 fcnt

/-- A received header. -/
structure Mhr where
  ftype  : Nat
  long   : Bool
  ackreq : Bool
  ver    : Nat
  hops   : Nat
  cellid : Nat
  addr   : Nat
  fcnt   : Nat
  size   : Nat
  deriving DecidableEq, Repr

/-- The header of a PSDU; none where the PSDU is shorter than its header and the MIC (R223). -/
def parseMhr (p : List Byte) : Option Mhr :=
  let b0 := (p.headD 0#8).toNat
  let long := b0.testBit 4
  let n := if long then 16 else 10
  if p.length < n + 8 then none
  else some { ftype := b0 % 16, long := long, ackreq := b0.testBit 5, ver := b0 / 64,
              hops := (p.getD 1 0#8).toNat % 8, cellid := ofLeBytes ((p.drop 2).take 2),
              addr := ofLeBytes ((p.drop 4).take (n - 8)), fcnt := ofLeBytes ((p.drop (n - 4)).take 4), size := n }

/-- The types that only the coordinator sends. -/
def coordSent (ft : Nat) : Bool := [ftBeacon, ftAckBeacon, ftDownlink, ftJoinResp, ftBroadcast].contains ft

/-- MAC drops a frame before authentication (R223). -/
def State.foreign (s : State) (p : List Byte) : Bool :=
  match parseMhr p with
  | none => true
  | some h => h.ver != 1 || decide (9 ≤ h.ftype) || h.cellid != s.mac.cellid || coordSent h.ftype

/-! ### Protection (R296, R297, R300) -/

/-- The nonce. -/
def nonce (src fcnt ftype : Nat) (coord : Bool) (lane : Nat) : List Byte :=
  leBytes 8 src ++ leBytes 4 fcnt ++ leBytes 1 (ftype + (if coord then 16 else 0) + lane * 32)

/-- The payload of a type is encrypted. -/
def encrypted (ftype : Nat) : Bool := [ftUplink, ftDownlink, ftSentinel, ftJoinResp, ftBroadcast].contains ftype

/-- A frame as it goes on air. -/
def protect (key nc hdr pay : List Byte) (enc : Bool) : List Byte :=
  if enc then hdr ++ ccmCrypt key nc pay ++ ccmMic key nc hdr pay
  else hdr ++ pay ++ ccmMic key nc (hdr ++ pay) []

/-- The payload of a received frame, where its MIC holds. -/
def unprotect (key nc : List Byte) (h : Mhr) (p : List Byte) : Option (List Byte) :=
  let hdr := p.take h.size
  let body := (p.drop h.size).take (p.length - h.size - 8)
  let mic := p.drop (p.length - 8)
  if encrypted h.ftype then
    let pt := ccmCrypt key nc body
    if ccmMic key nc hdr pt = mic then some pt else none
  else if ccmMic key nc (hdr ++ body) [] = mic then some body else none

/-! ### Keys (R302) -/

/-- A key of the key store. -/
def State.key (s : State) (k : Nat) : Option (List Byte) :=
  if k = 0 then some wrapKey else (s.sec.keys.find? (fun p => p.1 == k)).map (·.2)
def State.setKey (s : State) (k : Nat) (v : List Byte) : State :=
  { s with sec := { s.sec with keys := tabInsert k v (tabErase k s.sec.keys) } }
def State.eraseKey (s : State) (k : Nat) : State := { s with sec := { s.sec with keys := tabErase k s.sec.keys } }

/-- n free octets (log entry 1). -/
def State.freshBytes (s : State) : Nat → List Byte × State
  | 0 => ([], s)
  | n + 1 =>
    let (v, s) := s.fresh
    let (bs, s) := s.freshBytes n
    (BitVec.ofNat 8 v :: bs, s)

/-- A key of the key store. The spec gives no value to a key whose slot is empty: 16 free octets (log entry 14). -/
def State.keyOrFree (s : State) (k : Nat) : List Byte × State :=
  match s.key k with
  | some v => (v, s)
  | none => s.freshBytes 16

/-! ### Frame counters (R261, R298) -/

/-- A counter gives out its next value; none where the next counter would pass its greatest value (log entry 15). -/
def State.allocCtr (s : State) (k : LeaseKey) : Option Nat × State :=
  let v := s.nextValue k
  let top := match k with
    | .camp _ => 0xFFFFFF
    | _ => 0xFFFFFFFF
  if top ≤ v then (none, s) else (some v, s.raiseCounter k (v + 1))

/-- The number under which an exhausted key is remembered. -/
def LeaseKey.code : LeaseKey → Nat
  | .acc i => 8 * i
  | .dn i => 8 * i + 1
  | .join i => 8 * i + 2
  | .beacon n => 8 * n + 3
  | .camp k => 8 * k + 4

/-- FCNT-EXHAUSTED is raised once for a key (R261); a campaign's counter also sets EXHAUSTED (R312, R314). -/
def State.noteExhausted (s : State) (k : LeaseKey) : State :=
  if s.sch.exhausted.contains k.code then s
  else
    let s := { s with sch := { s.sch with exhausted := k.code :: s.sch.exhausted } }.raise 142
    match k with
    | .camp c => (s.setFld (SEC_CAMPSTAT_EXHAUSTED c) 1).raise 177
    | _ => s

/-! ### Beacons (R224, R226) -/

/-- DEGRADED of TIM_STAT (R172, R177). -/
def State.degraded (s : State) : Bool := s.isSet TIM_STAT_DEGRADED

/-- A receive ticket of a slot of a lane has not retired. -/
def State.slotOpen (s : State) (n q : Nat) : Bool :=
  s.sch.tickets.any (fun p => !p.2.tx && p.2.lane == n && p.2.slot == q && (p.2.state == 2 || p.2.state == 3))

/-- A frame of the slot waits for MAC past its beat's share (R27). -/
def State.slotLate (s : State) (n q : Nat) : Bool :=
  (s.mac.input ++ s.mac.passed).any (fun f => f.lane == n && (s.ticket f.entry).slot == q && decide (2 ≤ beatDiff s.beat f.beat))

/-- The slots that a beacon frame of the slot `own` carries, from the oldest not yet carried: slots before the one
that ends with the frame's own start, up to MAPCAP, and none from the first one with an unretired ticket on. -/
def State.carryRun (s : State) (n own : Nat) : Nat → Nat → List Nat
  | 0, _ => []
  | k + 1, q => if q + 1 < own && !s.slotOpen n q then q :: s.carryRun n own k (q + 1) else []

/-- The oldest slot of a lane whose map has not been carried. -/
def State.carryFrom (s : State) (n own : Nat) : Nat := ((s.mac.carry.find? (fun p => p.1 == n)).map (·.2)).getD own

def State.setCarry (s : State) (n q : Nat) : State :=
  { s with mac := { s.mac with carry := tabInsert n q (tabErase n s.mac.carry) } }

/-- The map of a slot of a lane. -/
def State.slotMap (s : State) (n q : Nat) : Nat := tabGet 0 s.mac.maps (4 * q + n)
def State.setSlotMap (s : State) (n q w : Nat) : State :=
  { s with mac := { s.mac with maps := tabSet 0 (4 * q + n) w s.mac.maps } }

/-- The payload of a beacon frame; `maps` is the first slot and the map words. -/
def State.beaconPayload (s : State) (n : Nat) (beacon : Bool) (sec slot sfd first : Nat) (maps : List Nat) : List Byte :=
  let flags := (if s.mode = modeSurvey then 1 else 0) + (if s.degraded then 2 else 0)
    + (if s.mode = modeHoldover then 4 else 0)
    + (if (s.joinTap n).isSome && s.isSet (MAC_LANEGEOM_JOINN n) then 8 else 0)
  let jr := s.fld (MAC_LANEGEOM_JRSLOT n)
  leBytes 4 sec ++ leBytes 4 (dtNs sfd) ++ leBytes 1 flags ++ leBytes 2 slot
    ++ leBytes 1 (s.slotBeats - 1 + 32 * s.fld TIM_BEATGEOM_BEATLEN) ++ leBytes 2 (first % s.slotsPerSec)
    ++ leBytes 1 maps.length
    ++ (if beacon then leBytes 1 (s.fld (MAC_LANEGEOM_JOINCH n)) ++ leBytes 1 (s.fld (MAC_LANEGEOM_JOINN n) + 128 * (jr / 256))
          ++ leBytes 1 jr else [])
    ++ wordsBytes maps

end Sys2Proof.Machine
end

