-- ==== Sys2Proof/Machine/Queues.lean ====
section
/-! DEFINITION. Completions of queue commands (spec/17 R427 to R430). -/

namespace Sys2Proof.Machine

open Sys2Proof.Fields

/-! ### STATUS values (R428) -/

def stOk : Nat := 0x00
def stNoAck : Nat := 0x01
def stFailed : Nat := 0x02
def stTimeout : Nat := 0x03
def stCancelled : Nat := 0x04
def stNodeLost : Nat := 0x05
def stBadInsert : Nat := 0x06
def stBadBuf : Nat := 0x07
def stBadNode : Nat := 0x08
def stBadCamp : Nat := 0x09
def stBadOp : Nat := 0x0A
def stPaused : Nat := 0x0B
def stMode : Nat := 0x0C
def stBadLen : Nat := 0x0D
def stNotFound : Nat := 0x0E

/-- The command in flight under a tag. -/
def State.inflight (s : State) (q tag : Nat) : Option HCmd := (s.queue q).inflight.find? (fun c => c.tag == tag)

/-- A command has begun to run. -/
def State.markStarted (s : State) (q tag : Nat) : State :=
  let x := s.queue q
  s.setQueue q { x with inflight := x.inflight.map (fun c => if c.tag = tag then { c with started := true } else c) }

/-- The first command of a tag leaves a list. -/
def dropTag (tag : Nat) : List HCmd → List HCmd
  | [] => []
  | c :: r => if c.tag = tag then r else c :: dropTag tag r

/-- A command of a queue completes: its entry is held for writing and remembered, and is held once more with DUP for
every duplicate that was fetched meanwhile (R427, R429). -/
def State.complete (s : State) (q tag status detail : Nat) (tries : Nat := 0) (words : List Nat := []) : State :=
  match s.inflight q tag with
  | none => s
  | some _ =>
    let x := s.queue q
    let c : Cpl := ⟨tag, q, false, false, status, detail % 256, min tries 255, words⟩
    s.setQueue q { x with
      inflight := dropTag tag x.inflight
      held := x.held ++ [c] ++ (x.dups.filter (· == tag)).map (fun _ => { c with dup := true })
      memory := (c :: x.memory).take 256
      dups := x.dups.filter (· != tag) }

/-- A committed ticket of a request that has ended writes one entry with LATE (R430). The rule gives the entry's STATUS
no value: it is a free value (log entry 13). -/
def State.completeLate (s : State) (q tag result tries : Nat) (words : List Nat) : State :=
  let (v, s) := s.fresh
  let x := s.queue q
  s.setQueue q { x with held := x.held ++ [⟨tag, q, false, true, v % 256, result, min tries 255, words⟩] }

/-- CMD-DUP, at most once per second (R429). -/
def State.noteDup (s : State) : State := s.raiseLimited 248 248

/-- The twelve words 0x10 to 0x3C of a completion entry. -/
def Cpl.tail (c : Cpl) : List Nat := (c.words ++ List.replicate 12 0).take 12

/-- The 64 octets of a completion entry as it is written (R427). -/
def Cpl.octets (c : Cpl) (phase : Bool) (sqhead beat : Nat) : List Byte :=
  wordsBytes ([c.tag + c.queue * 65536 + (if phase then 2 ^ 24 else 0) + (if c.dup then 2 ^ 25 else 0)
      + (if c.late then 2 ^ 26 else 0),
    c.status + c.detail * 256 + c.tries * 65536, sqhead, beat] ++ c.tail)

end Sys2Proof.Machine
end

