-- ==== Sys2Proof/Machine/Sched.lean ====
section
/-! DEFINITION. The schedule station (spec/09 R243 to R267): the ticket table, squashes, requests, planning, and what a ticket
leaves behind when it retires (spec/08 R225, R231, R235, R237). -/

namespace Sys2Proof.Machine

open Sys2Proof.Fields

/-! ### Ticket states, results, causes and expectations (R244, R257) -/

def tkPlanned : Nat := 1
def tkCommitted : Nat := 2
def tkResolved : Nat := 3
def tkRetired : Nat := 4
def tkSquashed : Nat := 5
def rsDone : Nat := 1
def rsNoFrame : Nat := 2
def rsFcsFail : Nat := 3
def rsBlanked : Nat := 4
def rsAborted : Nat := 5
def rsRefused : Nat := 6
def rsNotReady : Nat := 7
def cMissAck : Nat := 1
def cFailed : Nat := 2
def cDcRefuse : Nat := 3
def cLost : Nat := 4
def cRoute : Nat := 5
def cReset : Nat := 6
def cCancel : Nat := 7
def cBlacklist : Nat := 8
def cMode : Nat := 9
def cBare : Nat := 10
def expSent : Nat := 1
def expAcked : Nat := 2
def expHeard : Nat := 3

/-- A ticket whose entry is in use (R246). -/
def Ticket.live (t : Ticket) : Bool := 1 ≤ t.state && t.state ≤ 3

/-- A ticket that a trigger can reach: planned, or committed and not resolved (R257, R258). -/
def Ticket.executes (t : Ticket) : Bool := t.state == tkPlanned || t.state == tkCommitted

/-- A ticket past its commit point that has not retired. -/
def Ticket.running (t : Ticket) : Bool := t.state == tkCommitted || t.state == tkResolved

def State.upTicket (s : State) (e : Nat) (f : Ticket → Ticket) : State := s.setTicket e (f (s.ticket e))

/-- The lanes whose planning SCH may do: the lane, MAC, SEC and SCH are cast and not held (R63). -/
def State.laneOk (s : State) (n : Nat) : Bool := s.laneLive n && s.live 0xD && s.live 0xE && s.live 0x10

/-! ### Entries (R243, R245, R262) -/

/-- The lowest-numbered free entry of a range. -/
def State.freeEntry (s : State) (lo n : Nat) : Option Nat :=
  ((List.range n).map (· + lo)).find? (fun e => !(s.ticket e).live)

def State.poolFree (s : State) : Option Nat := s.freeEntry 0 1920

/-- A stall begins. -/
def State.stall (s : State) : State :=
  if s.isSet SCH_STAT_STALLED then s else ((s.setFld SCH_STAT_STALLED 1).count SCH_NSTALLS_COUNT).raise 139

/-- A stall ends in the tick in which an entry becomes free. -/
def State.unstall (s : State) : State :=
  if s.isSet SCH_STAT_STALLED && s.poolFree.isSome then s.setFld SCH_STAT_STALLED 0 else s

/-- The next TID; the counter skips 0. -/
def State.nextTid (s : State) : Nat := if (s.sch.tid + 1) % 2 ^ 32 = 0 then 1 else (s.sch.tid + 1) % 2 ^ 32

/-- A ticket takes an entry. -/
def State.placeTicket (s : State) (e : Nat) (t : Ticket) : State :=
  let s := { s with sch := { s.sch with tid := s.nextTid } }
  s.setTicket e { t with tid := s.sch.tid }

/-- A ticket takes an entry of the pool, and SCH stalls where it was the last free one (R262). -/
def State.placePool (s : State) (e : Nat) (t : Ticket) : State :=
  let s := s.placeTicket e t
  if s.poolFree.isNone then s.stall else s

/-! ### Requests -/

def State.request (s : State) (i : Nat) : Option Request := s.sch.reqs.find? (fun r => r.id == i)
def State.setRequest (s : State) (r : Request) : State :=
  { s with sch := { s.sch with reqs := s.sch.reqs.map (fun x => if x.id = r.id then r else x) } }

/-- The request of a ticket that the ticket's attempt still serves. -/
def State.currentReq (s : State) (t : Ticket) : Option Request :=
  match t.req with
  | none => none
  | some (i, a) =>
    match s.request i with
    | none => none
    | some r => if r.attempt = a ∧ (r.state = .placed ∨ (r.kind = .broadcast ∧ r.state = .pending)) then some r else none

/-- A request that has ended leaves the table once none of its tickets runs. -/
def State.pruneReqs (s : State) : State :=
  { s with sch := { s.sch with
      reqs := s.sch.reqs.filter (fun r => r.state != .ended ||
        s.sch.tickets.any (fun p => p.2.live && (p.2.req.map (·.1)) == some r.id)) } }

/-- FCNT, ENDBEAT and TID of a request's last ticket (R427). -/
def Ticket.info (t : Ticket) : List Nat := [if t.tx then t.fcnt else 0, t.endBeat, t.tid]

/-- A request ends (R430): its command completes, and its committed tickets will write late entries. -/
def State.endReq (s : State) (r : Request) (status : Nat) (last : Option Nat) : State :=
  let e : Option Nat := last.orElse (fun _ => r.rx.orElse (fun _ => r.tx))
  let t : Option Ticket := e.map s.ticket
  let s := s.setRequest { r with state := .ended }
  let s := { s with sch := { s.sch with
    tickets := s.sch.tickets.map (fun (p : Nat × Ticket) =>
      if p.2.state == tkCommitted && (match p.2.req with
        | some q => q.1 == r.id
        | none => false) then (p.1, { p.2 with late := true }) else p) } }
  let s := if r.hasTag then s.complete r.queue r.tag status ((t.map (fun (x : Ticket) => x.result)).getD 0) r.tries ((t.map Ticket.info).getD [0, 0, 0])
    else s
  s.pruneReqs

/-- A request returns to pending and its attempt is over (R259). -/
def State.unplan (s : State) (r : Request) : State :=
  if r.kind = .broadcast then s.setRequest { r with left := r.left + 1 }
  else s.setRequest { r with state := .pending, replan := true, attempt := r.attempt + 1, tx := none, rx := none }

/-- A request's own contradicted outcome uses up a retry, or ends it (R259). A BROADCAST sends another symbol. -/
def State.failReq (s : State) (r : Request) (status e : Nat) : State :=
  if r.kind = .broadcast then s.unplan r
  else if r.try_ < r.retries then s.unplan { r with try_ := r.try_ + 1 }
  else s.endReq r status (some e)

/-! ### Squash (R257 to R260) -/

/-- A planned ticket depends on one of some tickets. -/
def Ticket.dependsOn (t : Ticket) (es : List (Nat × Nat)) : Bool :=
  let hit (d : Option Dep) := match d with
    | some x => es.contains (x.entry, x.tid)
    | none => false
  hit t.dep0 || hit t.dep1

/-- A ticket was squashed, or made stale, by another trigger of this tick (R260). -/
def State.sqNow (s : State) (p : Nat × Ticket) : Bool := s.sch.sqTick == s.tim.ts && s.sch.sqSet.contains (p.1, p.2.tid)

/-- The planned tickets that depend on a set, and on those, and so on. -/
def State.dependants (s : State) : Nat → List (Nat × Nat) → List (Nat × Nat)
  | 0, es => es
  | n + 1, es =>
    let more := (s.sch.tickets.filter (fun p => (p.2.state == tkPlanned || s.sqNow p) && p.2.dependsOn es
      && !es.contains (p.1, p.2.tid))).map (fun p => (p.1, p.2.tid))
    if more.isEmpty then es else s.dependants n (es ++ more)

/-- An event of SCH that is raised at most once per beat; `last` is the beat of its last raise. -/
def State.oncePerBeat (s : State) (last : Option Nat) (id : Nat) : State := if last = some s.beat then s else s.raise id

/-- The earliest of some beats. -/
def earliestBeat : List Nat → Nat
  | [] => 0
  | [a] => a
  | a :: r => let b := earliestBeat r; if beatDiff a b ≤ 0 then a else b

/-- The commit lead of 150 µs, in fabric ticks (R21). -/
def commitLead : Nat := 73728

/-- A trigger of this tick comes with the commit point of the pending edge, or after it, though that has not been taken yet: it counts
as arriving after, and the tickets of that beat execute (R25, R266). -/
def State.pastCommit (s : State) (t : Ticket) : Bool :=
  s.sch.isOpen && decide (s.tim.edge ≤ s.tim.ts + commitLead) && t.state == tkPlanned && t.beat == beatAdd s.beat 1

/-- The cells of a withdrawn uplink or sentinel ticket may be placed again (R248, R259). -/
def State.ungrant (s : State) (t : Ticket) : State :=
  match t.node with
  | some i => if t.purpose == .uplink || t.purpose == .sentinel then
      { s with sch := { s.sch with granted := s.sch.granted.filter (· != (i, t.slot)) } } else s
  | none => s

/-- The records of two triggers of one tick are joined: the lower cause stands (R260). -/
def lowerCause (new old : Nat) : Nat := if old = 0 then new else min new old

/-- A squash with a cause over a scope of entries; `whole` says that the scope is a lane or all tickets, which spares those planned
under R247, and `stays` which planned tickets count as committed already. Two triggers of one tick squash the union of their scopes, and
a ticket in both has the lower cause (R257 to R260). -/
def State.squashWith (s : State) (cause : Nat) (whole : Bool) (stays : Ticket → Bool) (scope : Nat → Ticket → Bool) : State :=
  let same := s.sch.sqTick == s.tim.ts && !s.sch.sqSet.isEmpty
  let hits := (s.sch.tickets.filter (fun p => (p.2.executes || s.sqNow p) && !(whole && p.2.fixed) && scope p.1 p.2)).map
    (fun p => (p.1, p.2.tid))
  if hits.isEmpty then s
  else
    let all := s.dependants s.sch.tickets.length hits
    let inAll (p : Nat × Ticket) := all.contains (p.1, p.2.tid)
    let both := s.sch.tickets.filter (fun p => inAll p && s.sqNow p)
    let gone := s.sch.tickets.filter (fun p => inAll p && p.2.state == tkPlanned && !stays p.2)
    let kept := s.sch.tickets.filter (fun p => inAll p && (p.2.state == tkCommitted || (p.2.state == tkPlanned && stays p.2)))
    let newStale := kept.filter (fun p => !p.2.stale)
    let s := { s with sch := { s.sch with sqTick := s.tim.ts, sqSet := (if same then s.sch.sqSet else []) ++ all } }
    let s := both.foldl (fun s p => s.setTicket p.1 { p.2 with cause := lowerCause cause p.2.cause }) s
    let s := gone.foldl (fun s p =>
      (s.setTicket p.1 { p.2 with state := tkSquashed, cause := cause, endBeat := s.beat }).ungrant p.2) s
    let s := newStale.foldl (fun s p => s.setTicket p.1 { p.2 with stale := true, cause := cause }) s
    let s := if gone.isEmpty then s else
      let s := s.addSat SCH_NSQUASH_COUNT gone.length
      let s := s.addSat SCH_NBURNED_COUNT (gone.filter (fun p => p.2.tx)).length
      let old : Nat := if same then s.fld SCH_LASTSQ_COUNT else 0
      let c := if old = 0 then cause else lowerCause cause (s.fld SCH_LASTSQ_CAUSE)
      let bs := (if old = 0 then [] else [s.fld SCH_LASTSQBEAT_BEAT]) ++ gone.map (fun p => p.2.beat)
      let s := (s.setFld SCH_LASTSQ_CAUSE c).setFld SCH_LASTSQ_COUNT (min (old + gone.length) 2047)
      let s := s.setFld SCH_LASTSQBEAT_BEAT (earliestBeat bs)
      let s := s.oncePerBeat s.sch.sqBeat 137
      { s with sch := { s.sch with sqBeat := some s.beat } }
    let s := if newStale.isEmpty then s else
      let s := s.addSat SCH_NSTALE_COUNT newStale.length
      let s := s.oncePerBeat s.sch.stBeat 138
      { s with sch := { s.sch with stBeat := some s.beat } }
    let wrong := if cause ≤ cDcRefuse then newStale else []
    let s := (gone ++ wrong).foldl (fun s p =>
      match s.currentReq p.2 with
      | some r => s.unplan r
      | none => s) s
    s.unstall

/-- A squash that arrives outside a commit point. -/
def State.squash (s : State) (cause : Nat) (scope : Nat → Ticket → Bool) : State := s.squashWith cause false s.pastCommit scope

/-- A squash that a commit point takes, over a lane or all tickets. -/
def State.squashAll (s : State) (cause : Nat) (scope : Nat → Ticket → Bool) : State :=
  s.squashWith cause true (fun _ => false) scope

/-- Cancellation of an open request (R265): it ends with a status and its tickets are squashed. -/
def State.cancelReq (s : State) (r : Request) (status : Nat) : State :=
  (s.endReq r status none).squash cCancel (fun _ t => t.req.map (·.1) == some r.id)

/-- The open request of a queue and tag (R265, R266). -/
def State.openReq (s : State) (q tag : Nat) : Option Request :=
  s.sch.reqs.find? (fun r => r.hasTag && r.queue == q && r.tag == tag && (r.state == .pending || r.state == .placed))

/-- A node is lost or becomes FREE (R257, R430). -/
def State.squashNode (s : State) (i : Nat) : State :=
  let s := (s.sch.reqs.filter (fun r => r.kind != .broadcast && r.target == i && (r.state == .pending || r.state == .placed))).foldl
    (fun s r => s.endReq r stNodeLost none) s
  s.squash cLost (fun _ t => t.node == some i || t.dest == some i)

/-- A node becomes ADRIFT. -/
def State.squashAdrift (s : State) (i : Nat) : State := s.squash cLost (fun _ t => t.tx && t.node == some i)

/-- FWD reports a changed next hop (R276). -/
def State.routeChange (s : State) (i : Nat) : State := (s.raise 158 i).squash cRoute (fun _ t => t.dest == some i)

/-! ### Node states (R231) -/

/-- A node becomes LOST: the event, the squash, and FWD's neighbour (R231, R278). -/
def State.loseNode (s : State) (i : Nat) : State :=
  (((s.setNr i NR_STATE nodeLost).raise 117 i).nbrLost i).squashNode i

/-- A contact with a node (R231). A LOST or FREE node's record does not change under a stale ticket (R258). -/
def State.contact (s : State) (i ts : Nat) (stale : Bool) : State :=
  let st := s.nodeState i
  if stale && (st == nodeFree || st == nodeLost) then s
  else
    let s := (((s.setLastRx i ts).setNr i NR_MISSCNT 0).setNr i NR_ADRIFTSF 0).noteMirror i
    if st = nodeAdrift then (s.setNr i NR_STATE nodeActive).raise 116 i else s

/-- A missed expected uplink (R231); it may lose the node. The counts run in SERVICE and HOLDOVER. -/
def State.missed (s : State) (i : Nat) : State :=
  if !s.serving || !(s.nodeState i == nodeActive || s.nodeState i == nodeAdrift) then s
  else
    let m := min (s.nr i NR_MISSCNT + 1) 255
    let s := (s.setNr i NR_MISSCNT m).noteMirror i
    if s.fld MAC_LOSSCFG_MISSMAX ≤ m then s.loseNode i else s

/-- The adrift test of one record at a superframe start (R231, R232). -/
def State.adriftTest (s : State) (t i : Nat) : State :=
  if s.nodeState i = nodeActive ∧ s.guardOut i t then
    (((s.setNr i NR_STATE nodeAdrift).setNr i NR_ADRIFTSF 1).raise 115 i).squashAdrift i
  else if s.nodeState i = nodeAdrift then
    let n := s.nr i NR_ADRIFTSF + 1
    let s := s.setNr i NR_ADRIFTSF (min n 3)
    if 3 ≤ n then s.loseNode i else s
  else s

/-! ### Planning: beats (R247, R251, R252) -/

/-- The beats open for planning, in ascending order. -/
def State.openBeats (s : State) : List Nat :=
  if !s.sch.isOpen then []
  else (List.range (beatDiff (s.fld SCH_HORIZON_BEAT) (s.fld SCH_COMMITBEAT_BEAT)).toNat).map
    (fun i => beatAdd (s.fld SCH_COMMITBEAT_BEAT) (i + 1))

def State.beatOpen (s : State) (b : Nat) : Bool := s.openBeats.contains b

/-- The device is the standby of a pair: nothing is planned and no fixed ticket is built (R331). -/
def State.standby (s : State) : Bool := s.fld PLK_SBSTAT_ROLE == 2

/-- SCH plans (SCH_STAT.RUN). -/
def State.planning (s : State) : Bool :=
  s.sch.isOpen && !s.standby && s.serving && s.live 0xD && s.live 0xE && !s.sch.resume && !s.sch.stopping

/-- Where the beat of an edge lies: the second of its superframe, its slot and its place in the slot. -/
def State.posAt (s : State) (t : Nat) : Nat × Nat × Nat :=
  (s.sfSecond t, s.sfBeat t / s.slotBeats, s.sfBeat t % s.slotBeats)

/-- An instant lies in the beat that starts at an edge. -/
def State.inBeat (s : State) (t x : Nat) : Bool := decide (t ≤ x) && decide (x < t + s.beatTicks)

/-- A listening ticket with its window of half-width g around a nominal SFD end, where the window starts in the beat of
the edge t. -/
def State.listening (s : State) (t n ch tap sfd g q : Nat) (node : Option Nat) (p : Purpose) : Option Ticket :=
  let lo := sfd - usTicks g
  if s.inBeat t lo then
    some { Ticket.cold with state := tkCommitted, fixed := true, listen := true, sent := p == .sentinel, lane := n, ch := ch,
                            tap := tap, offset := lo - t, guardUs := g, node := node, origin := 4, purpose := p, slot := q,
                            edge := t, lo := lo, hi := sfd + usTicks g }
  else none

/-- The first edge of the slot that holds the beat of an edge. -/
def State.slotStart (s : State) (t : Nat) : Nat := t - (s.posAt t).2.2 * s.beatTicks

/-- The listening ticket of the join cell whose window starts in the beat of an edge (R220, R253). -/
def State.joinTicket (s : State) (t n : Nat) : Option Ticket :=
  match s.joinTap n with
  | none => none
  | some k =>
    let ch := s.fld (MAC_LANEGEOM_JOINCH n)
    let a := s.slotStart t
    (([a, a + s.slotBeats * s.beatTicks].filter (fun e => (s.joinSlots n).contains (s.posAt e).2.1)).filterMap (fun e =>
      s.listening t n ch k (e + usTicks 250 + s.sfdTicks n (s.chProf n ch)) (s.fld MAC_GUARDCFG_GBASE)
        (s.globalSlot (s.posAt e).1 (s.posAt e).2.1) none .join)).head?

/-- The records whose sentinel cell on a tap has global number z (R228, log entry 18). -/
def State.sentNodes (s : State) (n k z : Nat) : List Nat :=
  s.records.filter (fun i => (s.nodeState i == nodeActive || s.nodeState i == nodeAdrift) && s.nr i NR_SENTNODE == 1
    && s.nr i NR_LANE == n && s.nr i NR_STAP == k && s.nr i NR_SPER != 0 && z % s.nr i NR_SPER == s.nr i NR_SPHASE)

/-- The listening ticket of a SENT tap's sentinel cell whose window starts in the beat of an edge (R219, R228, R236): the
channel of its first node, and the widest guard of its nodes. -/
def State.sentTicket (s : State) (t n k : Nat) : Option Ticket :=
  let c := s.slotStart t + (s.slotBeats - 2) * s.beatTicks
  let (sec, j, _) := s.posAt c
  if !s.serving || !s.sentSlot j || !s.tapCast n k || !s.tapSent n k then none
  else
    let m := s.fld MAC_GEOM_SENTK
    match s.sentNodes n k (sec * (s.slotsPerSec / m) + (j + 1) / m - 1) with
    | [] => none
    | i :: r =>
      let ch := s.nr i NR_CH
      let sfd := c + usTicks 250 + s.sfdTicks n (s.chProf n ch)
      s.listening t n ch k sfd (((i :: r).map (fun x => s.guardUs x sfd)).foldl max 0) (s.globalSlot sec j) (some i) .sentinel

/-- The listening tickets of a lane that start in the beat of an edge. -/
def State.listens (s : State) (t n : Nat) : List Ticket :=
  (List.range 32).filterMap (s.sentTicket t n) ++ (s.joinTicket t n).toList

/-- The kind of beacon frame that a lane sends in the beat of an edge. -/
def State.beaconIn (s : State) (t n : Nat) : Option SlotKind :=
  let (_, j, k) := s.posAt t
  if k ≠ 0 then none
  else match s.slotKind (s.band n) j with
    | .beacon => some .beacon
    | .ack => if s.serving then some .ack else none
    | _ => none

/-- A lane sends a beacon frame in a beat; it listens in a join cell from that beat on; it has a fixed ticket there. -/
def State.fixedIn (s : State) (n b : Nat) : Bool × Bool × Bool :=
  let t := s.beatInstant b
  let tx := (s.beaconIn t n).isSome
  (tx, (s.joinTicket t n).isSome, tx || !(s.listens t n).isEmpty)

/-- The limits of a beat leave room for a transmit ticket of a lane, or for a receive ticket. -/
def State.room (s : State) (n b : Nat) (tx : Bool) : Bool :=
  let l := (s.sch.tickets.map (·.2)).filter (fun t => t.live && t.beat == b)
  if tx then
    !(s.fixedIn n b).1 && !l.any (fun t => t.tx && t.lane == n) && decide ((l.filter (fun t => t.tx)).length < 4)
  else
    decide ((l.filter (fun t => !t.tx && !t.sent)).length
      + ((List.range 4).filter (fun m => s.laneLive m && (s.fixedIn m b).2.1)).length < 128)

/-- Two spans of time meet. -/
def overlap (a b c d : Nat) : Bool := decide (a < d) && decide (c < b)

/-- A transmission from a slot's first beat to an instant reaches a sentinel cell (R219) or a later beacon frame of its
lane (R251). -/
def State.crosses (s : State) (n hi : Nat) (first : Bool) : Nat → Nat → Bool
  | 0, _ => false
  | k + 1, b =>
    let t := s.beatInstant b
    if hi ≤ t then false
    else if !first && (s.fixedIn n b).1 && decide (t + usTicks 250 < hi + s.rampTicks n) then true
    else if s.sentSlot (s.beatPos b).2.1 && decide (t + (s.slotBeats - 2) * s.beatTicks < hi) then true
    else s.crosses n hi false k (beatAdd b s.slotBeats)

/-- A lane's trim beat. -/
def State.isTrim (s : State) (n b : Nat) : Bool := s.sch.trim.contains (n, b)

/-- A span meets the window of a join cell that the lane's tap k is still to listen in (R253). -/
def State.meetsJoin (s : State) (n k lo hi : Nat) : Bool :=
  let g := usTicks (s.fld MAC_GUARDCFG_GBASE)
  let ch := s.fld (MAC_LANEGEOM_JOINCH n)
  let slot := s.slotBeats * s.beatTicks
  let a := s.slotStart (s.beatInstant (s.beatAt (lo - g)).1)
  s.joinTap n == some k && (List.range ((hi + g - a) / slot + 2)).any (fun i =>
    let e := a - slot + i * slot
    let sfd := e + usTicks 250 + s.sfdTicks n (s.chProf n ch)
    (s.joinSlots n).contains (s.posAt e).2.1 && overlap (sfd - g) (sfd + g) lo hi && !s.isTrim n (s.beatAt (sfd - g)).1)

/-- A tap holds no other window in a span (R201). -/
def State.tapFree (s : State) (n k lo hi : Nat) : Bool :=
  !s.sch.tickets.any (fun p => p.2.live && !p.2.tx && p.2.lane == n && p.2.tap == k && overlap p.2.lo p.2.hi lo hi)
    && !s.meetsJoin n k lo hi

/-- The taps of a profile that may hold a window from beat b on: the ordinary ones, and in a slot without a sentinel cell the SENT ones
(R219, R249). -/
def State.tapsIn (s : State) (n prof b : Nat) : List Nat :=
  (List.range 32).filter (fun k => s.tapCast n k && s.fld (RFL_TAP_PROF n k) == prof
    && !(s.tapSent n k && s.sentSlot (s.beatPos b).2.1))

/-- The transmission before an instant on a lane: its end and channel. -/
def State.txBefore (s : State) (n lo : Nat) : Option (Nat × Nat) :=
  (s.sch.tickets.map (·.2)).foldl (fun r t =>
    if t.live && t.tx && t.lane == n && decide (t.hi ≤ lo) then
      match r with
      | some (z, c) => if z < t.hi then some (t.hi, t.ch) else some (z, c)
      | none => some (t.hi, t.ch)
    else r) none

/-- A transmission fits between the lane's others, with the retune it needs (R251). -/
def State.txFits (s : State) (n ch lo hi : Nat) : Bool :=
  !s.sch.tickets.any (fun p => p.2.live && p.2.tx && p.2.lane == n && overlap p.2.lo p.2.hi lo hi) &&
  (match s.txBefore n lo with
   | none => true
   | some (z, c) => c == ch || decide (z + usTicks ((if s.chSeeded n ch then 40 else 180) + 10) ≤ lo))

/-- A channel of a lane is blacklisted. -/
def State.blacklisted (s : State) (n ch : Nat) : Bool :=
  if ch < 32 then (s.fld (SCH_BLKLO_CH n)).testBit ch else (s.fld (SCH_BLKHI_CH n)).testBit (ch - 32)

/-- The NODEACK window of a downlink ticket: G, first and last instant (R220). -/
def State.ackWindow (s : State) (t : Ticket) : Nat × Nat × Nat :=
  let p := s.chProf t.lane t.ch
  let g := s.fld MAC_GUARDCFG_GBASE + s.holdMargin
  let sfd := s.beatInstant t.beat + t.offset + s.airTicks t.lane p t.len + usTicks 1000
  (g, sfd - usTicks g, sfd + usTicks g)

/-- A lane that wants a trim beat takes a beat that has just opened, where the beat allows it (R252). -/
def State.pickTrim (s : State) (b : Nat) : State :=
  let lo := s.beatInstant b
  let hi := lo + s.beatTicks
  s.sch.trimWant.foldl (fun s n =>
    let busy := s.sch.tickets.any (fun p => p.2.live && p.2.lane == n && overlap p.2.lo p.2.hi lo hi)
    if (s.fixedIn n b).2.2 || busy then s
    else { s with sch := { s.sch with trimWant := s.sch.trimWant.erase n, trim := (n, b) :: s.sch.trim } }.raise 141) s

/-- The lanes whose TRIMDUE is set and that have no trim beat want one of the beats that open from now on (R252, R267). -/
def State.rewantTrims (s : State) : State :=
  { s with sch := { s.sch with trimWant := (List.range 4).filter (fun n => s.isSet (RFL_STAT_TRIMDUE n)
      && !s.isSet (RFL_STAT_TRIMMING n) && !s.sch.trim.any (fun x => x.1 == n)) } }

/-- The horizon moves to a beat; the beats it opens may be taken as trim beats. -/
def State.openTo (s : State) (h : Nat) : State :=
  let old := s.fld SCH_HORIZON_BEAT
  let n := (beatDiff h old).toNat
  let s := s.setFld SCH_HORIZON_BEAT h
  (List.range n).foldl (fun s i => s.pickTrim (beatAdd old (i + 1))) s

/-! ### Planning: grants (R228, R248) -/

/-- The receive ticket of an uplink cell. -/
def uplinkTicket (i n ch tap b off g q lo hi : Nat) : Ticket :=
  { Ticket.cold with state := tkPlanned, lane := n, ch := ch, tap := tap, beat := b, edge := lo - off, offset := off,
                     guardUs := g, node := some i, origin := 4, purpose := .uplink, slot := q, lo := lo, hi := hi }

/-- The uplink cell of a record in a slot that starts at beat e is placed where its window starts in beat b. -/
def State.placeGrant (s : State) (b e i : Nat) : State :=
  let (sec, j, _) := s.beatPos e
  let q := s.globalSlot sec j
  let n := s.nr i NR_LANE
  let ch := s.nr i NR_CH
  let tap := s.nr i NR_TAP
  let up := s.nr i NR_UPPER
  if up = 0 ∨ q % up ≠ s.nr i NR_UPPHASE ∨ s.sch.granted.contains (i, q)
      ∨ !(s.nodeState i == nodeActive || s.nodeState i == nodeAdrift) then s
  else if s.slotKind (s.band n) j ≠ .up ∨ (s.tapSent n tap ∧ s.sentSlot j) ∨ !s.chValid n ch then s
  else if !s.laneOk n || s.blacklisted n ch then s
  else
    let sfd := s.beatInstant e + usTicks 250 + s.sfdTicks n (s.chProf n ch)
    let g := s.guardUs i sfd
    let lo := sfd - usTicks g
    let hi := sfd + usTicks g
    let (wb, off) := s.beatAt lo
    if wb ≠ b ∨ s.isTrim n b ∨ !s.room n b false ∨ !s.tapFree n tap lo hi then s
    else match s.poolFree with
      | none => s.stall
      | some k =>
        let s := s.placePool k (uplinkTicket i n ch tap b off g q lo hi)
        { s with sch := { s.sch with granted := (i, q) :: s.sch.granted } }

/-- The grants whose windows start in a beat: cells of its slot, and of the next one where the guard is wide. -/
def State.grants (s : State) (b : Nat) : State :=
  let first := (b + 2 ^ 32 - (s.beatPos b).2.2) % 2 ^ 32
  s.records.foldl (fun s i =>
    [first, beatAdd first s.slotBeats].foldl (fun s e => if s.isSet SCH_STAT_STALLED then s else s.placeGrant b e i) s) s

/-! ### Planning: requests (R249, R261) -/

/-- Octets of a transmission's PSDU with its FCS. -/
def State.psduLen (s : State) (n ch hdr pay : Nat) : Nat := hdr + pay + 8 + s.fcsLen n (s.chProf n ch)

/-- What a request waits for before it can be placed (R249): its node's earlier request on its queue has no last ticket
yet (none), there is no such request, or its last ticket still runs. -/
def State.predecessor (s : State) (r : Request) : Option (Option Dep) :=
  if r.kind ≠ .downlink then some none
  else
    match (s.sch.reqs.filter (fun p => p.kind == .downlink && p.target == r.target && p.queue == r.queue
        && p.hasTag == r.hasTag && decide (p.id < r.id) && p.state != .ended)).getLast? with
    | none => some none
    | some p =>
      match (if p.ackReq then p.rx else p.tx) with
      | none => none
      | some e =>
        let t := s.ticket e
        some (if t.live && t.req == some (p.id, p.attempt) then some ⟨e, if p.ackReq then expAcked else expSent, t.tid⟩ else none)

/-- The pending-join entry of a node changes. -/
def State.upPend (s : State) (i : Nat) (f : PendJoin → PendJoin) : State :=
  { s with sec := { s.sec with pendJ := s.sec.pendJ.map (fun p => if p.node = i then f p else p) } }

/-- The transmit ticket of a request. -/
def reqTicket (r : Request) (n ch b off len fcnt lo hi air : Nat) (node : Option Nat) (dep : Option Dep) (p : Purpose) : Ticket :=
  { Ticket.cold with state := tkPlanned, tx := true, lane := n, ch := ch, beat := b, offset := off, len := len, node := node,
                     dest := node, fcnt := fcnt, bank := r.bank, bofs := r.bofs,
                     tag := if r.hasTag then some (r.tag, r.queue) else none, try_ := min r.try_ 15, origin := r.origin,
                     dep0 := dep, purpose := p, req := some (r.id, r.attempt), lo := lo, hi := hi, air := air }

/-- A transmission of a request in the slot that starts with beat b, where everything allows it. -/
def State.placeTx (s : State) (r : Request) (n ch b hdr pay : Nat) (ctr : LeaseKey) (node : Option Nat) (dep : Option Dep)
    (p : Purpose) : State :=
  let off := usTicks 250
  let len := s.psduLen n ch hdr pay
  let prof := s.chProf n ch
  let ts := s.beatInstant b + off
  let lo := ts - s.rampTicks n
  let hi := ts + s.airTicks n prof len + s.rampTicks n
  if !s.chValid n ch || s.blacklisted n ch || !s.room n b true || s.crosses n hi true 200 b || !s.txFits n ch lo hi then s
  else match s.poolFree with
    | none => s.stall
    | some e =>
      let (c, s) := s.allocCtr ctr
      match c with
      | none => s.noteExhausted ctr
      | some f =>
        let s := s.placePool e
          { reqTicket r n ch b off len f lo hi (s.chargeUs n prof len) node dep p with edge := s.beatInstant b }
        match r.kind with
        | .broadcast => s.setRequest { r with left := r.left - 1, tx := some e }
        | .joinResp => (s.setRequest { r with state := .placed, tx := some e, rx := none }).upPend r.target
            (fun p => if p.req = r.id then { p with fcnt := f } else p)
        | _ => s.setRequest { r with state := .placed, tx := some e, rx := none }

/-- The NODEACK receive ticket of a placed downlink (R249). A window whose beat has committed can hear nothing: the
attempt counts as unacknowledged (log entry 16). -/
def State.placeAck (s : State) (r : Request) (e : Nat) : State :=
  let t := s.ticket e
  let (g, lo, hi) := s.ackWindow t
  let (b, off) := s.beatAt lo
  if t.req ≠ some (r.id, r.attempt) then s.failReq { r with tx := none } stNoAck 2048
  else if beatDiff b (s.fld SCH_COMMITBEAT_BEAT) ≤ 0 then s.failReq r stNoAck e
  else if !s.beatOpen b || !s.laneOk t.lane || s.blacklisted t.lane t.ch || s.isTrim t.lane b || !s.room t.lane b false then s
  else match (s.tapsIn t.lane (s.chProf t.lane t.ch) b).find? (fun k => s.tapFree t.lane k lo hi) with
    | none => s
    | some k =>
      match s.poolFree with
      | none => s.stall
      | some x =>
        let s := s.placePool x
          { Ticket.cold with state := tkPlanned, lane := t.lane, ch := t.ch, tap := k, beat := b, offset := off, edge := lo - off,
                             guardUs := g, node := t.node, dest := t.dest, fcnt := t.fcnt, tag := t.tag, try_ := t.try_,
                             origin := t.origin, dep0 := some ⟨e, expSent, t.tid⟩, purpose := .nodeAck, req := t.req, lo := lo, hi := hi,
                             slot := s.globalSlot (s.beatPos b).1 (s.beatPos b).2.1 }
        s.setRequest { r with rx := some x }

/-- A pending request is tried in a beat. -/
def State.placeReq (s : State) (r : Request) (b : Nat) : State :=
  let (sec, j, k) := s.beatPos b
  if k != 0 || (match r.earliest with | some e => decide (beatDiff b e < 0) | none => false) then s
  else match r.kind with
    | .broadcast =>
      if s.fld (SEC_CAMPSTAT_STATE r.target) ≠ 3 then s
      else
        let sym := 16 * (64 * s.fld (SEC_CAMPCFG_TDIVHI r.target) + s.fld (SEC_CAMPTDIV_TDIVLO r.target))
        r.lanes.foldl (fun s n =>
          match s.request r.id with
          | none => s
          | some r =>
            if r.left = 0 ∨ !s.laneOk n ∨ s.isTrim n b ∨ s.slotKind (s.band n) j ≠ .down then s
            else s.placeTx r n (s.fld (MAC_LANEGEOM_BCH n)) b 10 (5 + sym) (.camp r.target) none none .broadcast) s
    | kind =>
      let i := r.target
      let n := s.nr i NR_LANE
      if s.nodeState i ≠ nodeActive ∨ !s.laneOk n ∨ s.isTrim n b then s
      else match s.predecessor r with
        | none => s
        | some dep =>
          if (match dep with | some d => decide (beatDiff b (s.ticket d.entry).beat ≤ 0) | none => false) then s
          else match kind with
            | .joinResp =>
              if j ≠ s.fld (MAC_LANEGEOM_JRSLOT n) ∨ sec ≤ r.after then s
              else s.placeTx r n (s.fld (MAC_LANEGEOM_JOINCH n)) b 16 (r.pre.length + r.len) (.join i) (some i) none .joinResp
            | _ =>
              if s.slotKind (s.band n) j ≠ .down then s
              else s.placeTx r n (s.nr i NR_CH) b 10 r.len (.dn i) (some i) dep .downlink

/-- One request in one beat. -/
def State.tryReq (s : State) (i b : Nat) : State :=
  match s.request i with
  | none => s
  | some r =>
    let s := if r.state = .pending ∧ !s.isSet SCH_STAT_STALLED then s.placeReq r b else s
    match s.request i with
    | none => s
    | some r =>
      match r.state, r.ackReq, r.tx, r.rx with
      | .placed, true, some e, none => if s.isSet SCH_STAT_STALLED then s else s.placeAck r e
      | _, _, _, _ => s

/-- The order of requests (R249): replanned work oldest first, then by queue and arrival; requests of no queue last. -/
def State.reqOrder (s : State) : List Nat :=
  let l := s.sch.reqs
  (l.filter (fun r => r.replan)).map (·.id)
    ++ (List.range 8).flatMap (fun q => (l.filter (fun r => !r.replan && r.hasTag && r.queue == q)).map (·.id))
    ++ (l.filter (fun r => !r.replan && !r.hasTag)).map (·.id)

/-- One pass over every source for a beat sets its planned flag (R250). -/
def State.planBeat (s : State) (b : Nat) : State :=
  if s.isSet SCH_STAT_STALLED then s
  else
    let s := s.grants b
    let s := s.reqOrder.foldl (fun s i => s.tryReq i b) s
    if s.isSet SCH_STAT_STALLED || s.sch.planned.contains b then s
    else { s with sch := { s.sch with planned := s.sch.planned ++ [b] } }.setFld SCH_PLANNED_BEAT b

/-- SCH plans the open beats in ascending order (R249). -/
def State.plan (s : State) : State :=
  let s := { s with sch := { s.sch with owed := false } }
  if s.planning && !s.isSet SCH_STAT_STALLED then s.openBeats.foldl (fun s b => s.planBeat b) s else s

/-- SCH is to plan anew in a later tick, so that what else arrives in this one is joined with it (R260, R267). -/
def State.planLater (s : State) : State := { s with sch := { s.sch with owed := true } }

/-- A later tick has come. -/
def State.planOwed (s : State) : State := if s.sch.owed then s.plan else s

/-- A request joins the table (R248). -/
def State.pushRequest (s : State) (r : Request) : State :=
  { s with sch := { s.sch with reqs := s.sch.reqs ++ [{ r with id := s.sch.nextReq }], nextReq := s.sch.nextReq + 1 } }

/-- A request arrives, and SCH plans (R248, R249). -/
def State.addRequest (s : State) (r : Request) : State := (s.pushRequest r).plan

/-! ### Outcomes (R255 to R259) -/

/-- The planned or running tickets that expect something of a ticket. -/
def Ticket.expects (t : Ticket) (e tid x : Nat) : Bool :=
  let hit (d : Option Dep) := match d with
    | some y => y.entry == e && y.tid == tid && y.exp == x
    | none => false
  hit t.dep0 || hit t.dep1

def State.squashExp (s : State) (cause e tid x : Nat) : State := s.squash cause (fun _ t => t.expects e tid x)

/-- An outcome of a ticket whose frames have been processed reaches SCH: the ticket is RESOLVED, its request succeeds or
fails, and predictions that it contradicts are squashed (R256 to R259, R266). -/
def State.deliver (s : State) (e : Nat) : State :=
  let t := s.ticket e
  if t.state ≠ tkCommitted ∨ !t.final ∨ t.open_ ≠ 0 then s
  else
    let s := s.setTicket e { t with state := tkResolved }
    if t.tx then
      let s := match s.currentReq t with
        | none => s
        | some r =>
          if t.result ≠ rsDone then s.failReq r stFailed e
          else if r.ackReq || r.kind == .broadcast then s
          else s.setRequest { r with state := .succeeded, final := some e }
      if t.result = rsDone ∨ t.stale then s
      else s.squashExp (if t.result = rsRefused then cDcRefuse else cFailed) e t.tid expSent
    else
      let s := match s.currentReq t with
        | none => s
        | some r => if t.acked then s.setRequest { r with state := .succeeded, final := some e } else s.failReq r stNoAck e
      if t.stale then s
      else
        let s := if t.acked then s else s.squashExp cMissAck e t.tid expAcked
        let heard := match t.node with
          | some i => t.accepted.any (fun p => p.1 == i)
          | none => false
        if heard then s else s.squashExp cFailed e t.tid expHeard

/-! ### Retirement (R225, R231, R235, R237, R256) -/

/-- What a retired beacon frame leaves: its maps are carried, or come again where it was not sent whole; one that was
refused or not ready is missed (R226, R242, log entry 17). -/
def State.retireBeacon (s : State) (t : Ticket) : State :=
  match t.maps with
  | some (a, b) =>
    if t.result = rsDone then
      { s with mac := { s.mac with maps := s.mac.maps.filter (fun p => !(p.1 % 4 == t.lane && decide (p.1 / 4 < b))) } }
    else s.setCarry t.lane (min a (s.carryFrom t.lane a))
  | none => s

def State.missBeacon (s : State) (t : Ticket) : State :=
  if t.result = rsRefused ∨ t.result = rsNotReady then (s.count MAC_BEACONMISS_COUNT).raise 122 else s

/-- ACCCTR takes PENDCTR (R237). -/
def State.retireCounter (s : State) (i : Nat) : State :=
  s.raiseCounter (.acc i) (max (s.nextValue (.acc i)) (s.nr i NR_PENDCTR))

/-- A node's sentinel cell is the one in slot q on a tap of a lane (R228). -/
def State.sentCell (s : State) (i n k q : Nat) : Bool :=
  let m := s.fld MAC_GEOM_SENTK
  let z := q / s.slotsPerSec * (s.slotsPerSec / m) + (q % s.slotsPerSec + 1) / m - 1
  s.nr i NR_SENTNODE == 1 && s.nr i NR_LANE == n && s.nr i NR_STAP == k && s.nr i NR_SPER != 0 && z % s.nr i NR_SPER == s.nr i NR_SPHASE

/-- An accepted frame of a retired ticket: a contact where the ticket held the node's uplink or sentinel cell, or where it is a JOINREQ
in a join cell (R230, R231), and LASTRX alone elsewhere (R227). -/
def State.retireAccepted (s : State) (t : Ticket) (i ts : Nat) (join : Bool) : State :=
  let cell := (t.purpose == .uplink || t.purpose == .sentinel) && t.node == some i || t.purpose == .join && join
    || (t.purpose == .sentinel && s.sentCell i t.lane t.tap t.slot)
  let s :=
    if cell then s.contact i ts t.stale
    else if t.stale && (s.nodeState i == nodeFree || s.nodeState i == nodeLost) then s
    else (s.setLastRx i ts).noteMirror i
  s.retireCounter i

/-- What the frames of a receive ticket leave (R225, R231, R237). -/
def State.retireRx (s : State) (t : Ticket) : State :=
  let s := if t.mapBit then s.setSlotMap t.lane t.slot (s.slotMap t.lane t.slot ||| 2 ^ t.tap) else s
  t.accepted.foldl (fun s p => s.retireAccepted t p.1 p.2.1 p.2.2) s

/-- A retired receive ticket of an uplink cell counts a miss (R231). -/
def Ticket.misses (t : Ticket) : Option Nat :=
  match t.node with
  | some i =>
    if t.purpose = .uplink ∧ (t.result = rsNoFrame ∨ t.result = rsFcsFail ∨ (t.result = rsDone ∧ !t.heard.contains i))
    then some i else none
  | none => none

/-- The join of a node completes: its JOINRESP has retired DONE (R307). -/
def State.keySwitch (s : State) (i id : Nat) : State :=
  match s.sec.pendJ.find? (fun p => p.node == i && p.sk.isSome && p.req == id) with
  | none => s
  | some p =>
    let old := if s.nr i NR_SKV = 1 then some (s.sessKey i) else none
    let s := s.upPend i (fun q => { q with sk := none, prev := old, left := 3 })
    let s := s.setNodeKey i 20 (p.sk.getD [])
    let s := ((s.setNr i NR_SKV 1).setNr i NR_PEND 0).setNr i NR_GRACE 1
    (s.noteMirror i).raise 179 i

/-- What a retired transmit ticket leaves: the ledgers, beacons, key switches and symbols. -/
def State.retireTx (s : State) (t : Ticket) : State :=
  let s := s.retireAir (s.band t.lane) t.air t.charge (dtSec t.edge) t.admitted
  match t.purpose, t.node, t.req with
  | .beacon, _, _ => (s.retireBeacon t).missBeacon t
  | .ackBeacon, _, _ => (s.retireBeacon t).missBeacon t
  | .joinResp, some i, some (id, _) => if t.result = rsDone ∧ !(t.stale && (s.nodeState i == nodeFree || s.nodeState i == nodeLost)) then s.keySwitch i id else s
  | .broadcast, _, some (id, _) =>
    match s.request id with
    | some r =>
      if t.result = rsDone ∧ r.state ≠ .ended then
        let r := { r with done := r.done + 1 }
        let s := s.setRequest r
        if r.left = 0 ∧ !s.sch.tickets.any (fun p => p.2.live && p.2.req.map (·.1) == some id) then s.endReq r stOk r.tx else s
      else s
    | none => s
  | _, _, _ => s

/-- The request of a retired ticket: it completes, or a late entry is written (R265, R266, R430). -/
def State.retireReq (s : State) (e : Nat) (t : Ticket) : State :=
  match t.req with
  | none => s
  | some (id, _) =>
    match s.request id with
    | none => s
    | some r =>
      if r.state = .succeeded ∧ r.final = some e then s.endReq r stOk (some e)
      else if t.late then
        let s := (s.count SCH_NLATE_COUNT).raise 140
        let s := if r.hasTag then s.completeLate r.queue r.tag t.result r.tries t.info else s
        s.pruneReqs
      else s

/-- One ticket retires at the edge that begins a beat. -/
def State.retireOne (s : State) (e : Nat) : State :=
  let t := { s.ticket e with state := tkRetired, endBeat := s.beat }
  let s := s.setTicket e t
  let s := if t.tx then s.retireTx t else s.retireRx t
  s.retireReq e t

/-- Every resolved ticket retires, in entry order; then the misses of nodes that none of them heard (R231, R256). -/
def State.retireAll (s : State) : State :=
  let l := s.sch.tickets.filter (fun p => p.2.state == tkResolved)
  let heard := l.flatMap (fun p => p.2.accepted.map (·.1))
  let s := l.foldl (fun s p => s.retireOne p.1) s
  let s := (l.filterMap (fun p => p.2.misses)).foldl (fun s i => if heard.contains i then s else s.missed i) s
  s.unstall

end Sys2Proof.Machine
end

