-- ==== Sys2Proof/Machine/Commit.lean ====
section
/-! DEFINITION. The commit point (spec/09 R253, R254, R263): squashes that waited, the beat's planned tickets, the fixed
tickets, and the submission to the ledgers. -/

namespace Sys2Proof.Machine

open Sys2Proof.Fields

/-- The apply cutoff of 100 µs, in fabric ticks (R21). -/
def applyLead : Nat := 49152

/-- The beat count that the pending edge will have (R17). -/
def State.countAt (s : State) (t : Nat) : Nat := (s.beatsPerSec * s.sfSecond t + s.sfBeat t) % 2 ^ 32

/-! ### Keys of committed frames (R299) -/

/-- The beacon key in force, and the one in force from the next superframe start (R302). -/
def State.beaconKeySlot (s : State) : Nat := 2 + s.fld SEC_BKEY_CUR
def State.nextKeySlot (s : State) : Nat := 2 + s.fld SEC_BKEY_NEXT

/-- The key that a request's insertion writes into the payload (R299, R425). -/
def State.insertion (s : State) (r : Request) : List Byte × State :=
  match r.insKind with
  | 1 => s.keyOrFree s.nextKeySlot
  | 2 => s.keyOrFree (4 + r.insCamp)
  | _ => ([], s)

/-- The key of a transmit ticket, taken at its commit point. -/
def State.frameKey (s : State) (t : Ticket) : List Byte × State :=
  match t.purpose, t.node with
  | .downlink, some i => (s.sessKey i, s)
  | .joinResp, some i => (s.joinKey i, s)
  | .broadcast, _ =>
    match t.req.bind (fun q => s.request q.1) with
    | some r => s.keyOrFree (4 + r.target)
    | none => ([], s)
  | _, _ => ([], s)

/-- A planned ticket commits. -/
def State.commitTicket (s : State) (e : Nat) : State :=
  let t := s.ticket e
  if !t.tx then s.setTicket e { t with state := tkCommitted }
  else
    let (key, s) := s.frameKey t
    let (ins, s) := match t.req.bind (fun q => s.request q.1) with
      | some r => s.insertion r
      | none => ([], s)
    let s := match t.req.bind (fun q => s.request q.1) with
      | some r => s.setRequest { r with tries := r.tries + 1 }
      | none => s
    s.setTicket e { t with state := tkCommitted, key := key, frame := ins }

/-- The planned tickets of a beat. -/
def State.plannedIn (s : State) (b : Nat) : List Nat :=
  (s.sch.tickets.filter (fun p => p.2.state == tkPlanned && p.2.beat == b)).map (·.1)

/-- Every planned ticket of a beat commits. -/
def State.commitPlanned (s : State) (b : Nat) : State := (s.plannedIn b).foldl (fun s e => s.commitTicket e) s

/-- A bare beat (R263): its planned tickets are squashed, and it is counted. -/
def State.bareBeat (s : State) (b : Nat) : State :=
  let s := s.squashAll cBare (fun _ t => t.state == tkPlanned && t.beat == b)
  ((s.count SCH_NBARE_COUNT).raise 136).overrunBit 7

/-- The planned flag decides how a beat commits in SERVICE and HOLDOVER. The beat whose edge sets the count has only fixed
tickets (R247), and so has a beat after planning has stopped. -/
def State.commitOrBare (s : State) (b : Nat) : State :=
  if !s.serving || s.sch.stopping || s.standby then s
  else
    let bare := !s.sch.planned.contains b || !s.live 0xE || s.sch.resume
    (if bare then s.bareBeat b else s.commitPlanned b).setBit SCH_STAT_LASTBARE bare

/-! ### Fixed tickets (R224, R253) -/

/-- A fixed ticket takes the lowest-numbered free entry of the fixed area. -/
def State.placeFixed (s : State) (b : Nat) (t : Ticket) : State :=
  match s.freeEntry 1920 128 with
  | none => s
  | some e => s.placeTicket e { t with beat := b }

/-- Slots are carried later because a frame of the first of them waits past its beat's share: each slot that the run would have held, and
that nothing else holds back, is counted (R226). -/
def State.ackDefer (s : State) (n own : Nat) (qs : List Nat) : State :=
  let q := match qs.getLast? with
    | some k => k + 1
    | none => s.carryFrom n own
  let back := ((List.range (s.fld MAC_MAPCAP_MAPCAP - qs.length)).map (· + q)).filter (fun k =>
    decide (k + 1 < own) && (!s.slotOpen n k || s.slotLate n k))
  if decide (q + 1 < own) && s.slotOpen n q && s.slotLate n q then back.foldl (fun s _ => (s.count MAC_ACKDEFER_COUNT).raise 123) s else s

/-- The BEACON or ACKBEACON frame of a slot that starts at an edge is built and protected (R224, R226, R296). -/
def State.buildBeacon (s : State) (t b n : Nat) (kind : SlotKind) : State :=
  let (sec, j, _) := s.posAt t
  let own := s.globalSlot sec j
  let ch := s.fld (MAC_LANEGEOM_BCH n)
  let p := s.chProf n ch
  let qs := if s.serving then s.carryRun n own (s.fld MAC_MAPCAP_MAPCAP) (s.carryFrom n own) else []
  let s := if s.serving then s.ackDefer n own qs else s
  let first := qs.headD (s.carryFrom n own)
  let maps := qs.map (s.slotMap n)
  let ts := t + usTicks 250
  let (c, s) := s.allocCtr (.beacon n)
  match c with
  | none => s.noteExhausted (.beacon n)
  | some f =>
    let (key, s) := s.keyOrFree s.beaconKeySlot
    let ft := if kind = .beacon then ftBeacon else ftAckBeacon
    let pay := s.beaconPayload n (kind == .beacon) sec j (ts + s.sfdTicks n p) first maps
    let hdr := mhr ft false false s.mac.cellid (0xFF00 + n) f
    let psdu := protect key (nonce Config.uid.toNat f ft true n) hdr pay false
    let len := psdu.length + s.fcsLen n p
    let s := if qs.isEmpty then s else s.setCarry n (first + qs.length)
    s.placeFixed b
      { Ticket.cold with state := tkCommitted, tx := true, fixed := true, lane := n, ch := ch, offset := usTicks 250, len := len,
                         fcnt := f, origin := 4, purpose := if kind = .beacon then .beacon else .ackBeacon, slot := own,
                         edge := t, lo := ts - s.rampTicks n, hi := ts + s.airTicks n p len + s.rampTicks n,
                         frame := psdu, key := key, air := s.chargeUs n p len,
                         maps := if s.serving then some (first, first + qs.length) else none }

/-- The fixed tickets of a lane in the beat of an edge. A frame that SEC cannot protect while it is held is dropped and
counted (R63). -/
def State.fixedOfLane (s : State) (t b n : Nat) : State :=
  if !s.laneLive n || !s.live 0xD || s.isTrim n b then s
  else
    let s := match s.beaconIn t n with
      | some k =>
        if s.live 0x10 then s.buildBeacon t b n k
        else if s.isHeld 0x10 then s.count SEC_HOLDDROP_COUNT
        else s
      | none => s
    (s.listens t n).foldl (fun s x => s.placeFixed b x) s

/-! ### Submission (R204, R234) -/

/-- The transmit tickets of a beat, in lane order. -/
def State.txIn (s : State) (b : Nat) : List Nat :=
  (List.range 4).flatMap (fun n =>
    (s.sch.tickets.filter (fun p => p.2.state == tkCommitted && p.2.tx && p.2.beat == b && p.2.lane == n && !p.2.final)).map (·.1))

/-- A ticket's charged airtime is judged; a refused one ends at once (R254). -/
def State.submitTicket (s : State) (e : Nat) : State :=
  let t := s.ticket e
  let air := if t.air = 0 then s.chargeUs t.lane (s.chProf t.lane t.ch) t.len else t.air
  let (es, s) := s.submitAir t.lane (s.band t.lane) (s.chHz t.lane t.ch) air (dtSec t.edge)
  if es.isEmpty then (s.setTicket e { t with air := air, result := rsRefused, final := true }).deliver e
  else s.setTicket e { t with air := air, admitted := es }

/-! ### The commit point -/

/-- The squash of resets whose quiesce has begun (R257). -/
def State.squashResets (s : State) : State :=
  let rs := s.sch.resets
  let all := rs.any (fun r => r == 0xD || r == 0xE || r == 0x10)
  let s := { s with sch := { s.sch with resets := [] } }
  if rs.isEmpty then s else s.squashAll cReset (fun _ t => all || rs.contains (9 + t.lane))

/-- Places and passes before a beat are forgotten. -/
def State.forgetPast (s : State) (t : Nat) : State :=
  let q := s.globalSlot (s.posAt t).1 (s.posAt t).2.1
  { s with sch := { s.sch with
      planned := s.sch.planned.filter (fun b => decide (0 < beatDiff b (s.fld SCH_COMMITBEAT_BEAT)))
      granted := s.sch.granted.filter (fun g => decide (q ≤ g.2 + 1))
      trim := s.sch.trim.filter (fun x => decide (0 ≤ beatDiff x.2 s.beat)) } }

/-- The commit of the beat of the pending edge (R253), after the squashes of a mode change. -/
def State.commitBeat (s : State) : State :=
  let t := s.tim.edge
  let b := beatAdd s.beat 1
  let s := s.squashResets
  let s := s.commitOrBare b
  let s := if s.sch.stopping || s.standby then s else (List.range 4).foldl (fun s n => s.fixedOfLane t b n) s
  let s := (s.txIn b).foldl (fun s e => s.submitTicket e) s
  let s := s.setFld SCH_COMMITBEAT_BEAT b
  if s.sch.isOpen then
    let s := if s.sch.resume then { s with sch := { s.sch with resume := false } }.setFld SCH_HORIZON_BEAT b else s
    let s := s.forgetPast t
    (s.openTo (beatAdd b (s.fld SCH_CFG_DEPTH))).plan
  else s

/-- The edge that sets the count opens the run-ahead (R247): its beat is committed, and the next beats open. Maps start
with its slot. -/
def State.openPlan (s : State) : State :=
  let q := s.globalSlot (s.posAt s.tim.last).1 (s.posAt s.tim.last).2.1
  let s := (List.range 4).foldl (fun s n => s.setCarry n q) { s with mac := { s.mac with maps := [] } }
  let s := { s with sch := { s.sch with isOpen := true, planned := [], granted := [], trim := [] } }.rewantTrims
  let s := (s.setFld SCH_COMMITBEAT_BEAT s.beat).setFld SCH_HORIZON_BEAT s.beat
  (s.openTo (beatAdd s.beat (s.fld SCH_CFG_DEPTH))).plan

/-- Every open request ends with status MODE (R430). -/
def State.endAllReqs (s : State) : State :=
  (s.sch.reqs.filter (fun r => r.state == .pending || r.state == .placed)).foldl (fun s r => s.endReq r stMode none) s

/-- Planning ends with SERVICE and HOLDOVER (R247, R257): every planned ticket is squashed with cause MODE. -/
def State.closePlan (s : State) : State :=
  let s := s.endAllReqs.squashAll cMode (fun _ _ => true)
  let s := { s with sch := { s.sch with isOpen := false, planned := [], granted := [], trim := [] } }.rewantTrims
  s.setFld SCH_STAT_STALLED 0

end Sys2Proof.Machine
end

