-- ==== Sys2Proof/Machine/Hallmark.lean ====
section
/-! DEFINITION. The Hallmark (spec/02 R48, R49): its layout and its signatures, for castings and node images. -/

namespace Sys2Proof.Machine

/-- A little-endian 32-bit word of an image. -/
def imgWord (bs : List Byte) (ofs : Nat) : Nat := ofLeBytes ((bs.drop ofs).take 4)

/-- The length of a Hallmark in bytes. -/
def hallmarkLen : Nat := 208

/-- Fields of a Hallmark; the big-endian numbers of the key and of both signatures. -/
structure Hallmark where
  arbVer  : Nat
  keyType : Nat
  keyId   : Nat
  keyX    : Nat
  keyY    : Nat
  endR    : Nat
  endS    : Nat
  sigR    : Nat
  sigS    : Nat
  /-- KEYID ‖ CUSTKEY, which ENDORSE signs. -/
  endorsed : List Byte
  deriving DecidableEq, Repr

/-- 32 octets as a big-endian number. -/
def be32At (bs : List Byte) (ofs : Nat) : Nat := beNat ((bs.drop ofs).take 32)

/-- The fields of a Hallmark as they lie. -/
def readHallmark (h : List Byte) : Hallmark where
  arbVer := imgWord h 0x04
  keyType := imgWord h 0x08
  keyId := imgWord h 0x0C
  keyX := be32At h 0x10
  keyY := be32At h 0x30
  endR := be32At h 0x50
  endS := be32At h 0x70
  sigR := be32At h 0x90
  sigS := be32At h 0xB0
  endorsed := (h.drop 0x0C).take 68

/-- The Hallmark is well formed (R48): MAGIC, a KEYTYPE that is not reserved with its reserved bits zero, and what each
KEYTYPE asks of the key's fields. -/
def hallmarkOk (h : List Byte) : Bool :=
  let m := readHallmark h
  decide (h.length = hallmarkLen) && imgWord h 0 == 0x4B4D4C48 &&
    (if m.keyType = 1 then ((h.drop 0x0C).take 132).all (· == 0#8)
     else m.keyType == 2 && m.keyId != 0)

/-- What a check of the signatures finds. -/
inductive SigCheck where
  | ok | endorse | signature
  deriving DecidableEq, Repr

/-- ENDORSE under the root key, then SIG under the key that KEYTYPE names (R49). -/
def checkHallmark (m : Hallmark) (digest : List Byte) : SigCheck :=
  let rx := Config.rootX.toNat
  let ry := Config.rootY.toNat
  if m.keyType = 1 then (if ecdsaVerify rx ry m.sigR m.sigS digest then .ok else .signature)
  else if !ecdsaVerify rx ry m.endR m.endS (sha256 m.endorsed) then .endorse
  else if ecdsaVerify m.keyX m.keyY m.sigR m.sigS digest then .ok
  else .signature

/-- The digest of an image whose Hallmark starts at an offset (R49). -/
def imageDigest (image : List Byte) (ofs : Nat) : List Byte := sha256 (image.take (ofs + 0x90))

end Sys2Proof.Machine
end

