-- ==== Sys2Proof/Machine/Peer.lean ====
section
/-! DEFINITION. The peer link (spec/12 R318, R321 to R326): peers, their keying, and messages to them. The spec names what a
message carries and not how its payload is laid out: messages come and go as the values they carry (log entry 22). -/

namespace Sys2Proof.Machine

open Sys2Proof.Fields

/-! ### Peer entries (R324, R325) -/

def peerSeen : Nat := 1
def peerKeying : Nat := 2
def peerKeyed : Nat := 3
def peerMismatch : Nat := 4
def peerRejected : Nat := 5

def State.peer (s : State) (p : Nat) : Peer := tabGet Peer.cold s.plk.peers p
def State.setPeer (s : State) (p : Nat) (x : Peer) : State :=
  { s with plk := { s.plk with peers := tabSet Peer.cold p x s.plk.peers } }

/-- A peer has a key. -/
def Peer.keyed (x : Peer) : Bool := x.st == peerKeyed || x.st == peerMismatch

/-- An instant lies within n ticks before now. -/
def State.within (s : State) (t : Option Nat) (n : Nat) : Bool :=
  match t with
  | some a => decide (s.tim.ts < a + n)
  | none => false

/-- A peer has been heard on a port within 3 s. -/
def State.heardOn (s : State) (x : Peer) (q : Nat) : Bool := s.within (if q = 0 then x.heard0 else x.heard1) (3 * ticksPerSecond)

/-- A port carries UPL: its function is out of reset, it has link, and UPL is on. -/
def State.portUp (s : State) (q : Nat) : Bool := s.live (0x11 + q) && s.beating && s.isSet (PLK_PSTAT_LINK q)
def State.uplPort (s : State) (q : Nat) : Bool := s.portUp q && s.isSet PLK_CFG_UPLEN

/-- The entry of a UID. -/
def State.peerOf (s : State) (uid : Nat) : Option Nat := (s.plk.peers.find? (fun p => p.2.st != 0 && p.2.uid == uid)).map (·.1)
def State.peerFree (s : State) : Option Nat := (List.range 64).find? (fun p => (s.peer p).st == 0)

/-- The partner of a standby pair: a KEYED peer of our CELLID (R331). -/
def State.partner (s : State) : Option Nat :=
  (s.plk.peers.find? (fun p => p.2.st == peerKeyed && p.2.cellid == s.fld MAC_CELLID_CELLID)).map (·.1)

/-- The words of a peer entry (R325). -/
def State.peerWord (s : State) (p w : Nat) : Nat :=
  let x := s.peer p
  let bit (b : Bool) (n : Nat) := if b then 2 ^ n else 0
  if x.st = 0 then 0
  else match w with
    | 0 => x.cellid + x.st * 2 ^ 16 + bit (s.heardOn x 0) 20 + bit (s.heardOn x 1) 21 + x.role * 2 ^ 22 + bit x.serving 24
    | 1 => x.uid % 2 ^ 32
    | 2 => x.uid / 2 ^ 32
    | 7 => x.lastHeard
    | n => x.addr.getD (n - 3) 0

/-! ### Sending (R321, R322) -/

def uplAnnounce : Nat := 1
def uplHello : Nat := 2
def uplHoReq : Nat := 3
def uplHoXfer : Nat := 4
def uplHoAck : Nat := 5
def uplHoNak : Nat := 6
def uplMirror : Nat := 7
def uplMirrorAck : Nat := 8
def uplAlarm : Nat := 9
def uplData : Nat := 10

/-- Our EPOCH is drawn; every peer is keyed anew under it (R323). -/
def State.drawEpoch (s : State) : State :=
  let (v, s) := s.fresh
  let s := s.setFld PLK_EPOCH_EPOCH v
  { s with plk := { s.plk with
      peers := s.plk.peers.map (fun (p : Nat × Peer) => if p.2.keyed then (p.1, { p.2 with st := peerKeying }) else p) } }

/-- A UPL message is due now. What leaves is noted in the order in which it leaves: messages that are late leave in the next beat, ahead
of newer ones (R27, log entry 67). -/
def State.uplDue (s : State) : State := { s with plk := { s.plk with dueAt := some s.tim.ts } }

/-- The overrun of PLK: messages due in the beat that ends at this edge have not all been sent (R27). -/
def State.plkOverrun (s : State) (late : Bool) : State :=
  match s.plk.dueAt with
  | some t => if late && decide (s.tim.last - s.beatTicks ≤ t) then (s.raise 184).overrunBit 10 else s
  | none => s

/-- A message to a peer leaves by a port under the peer's next CTR. -/
def State.sendOn (s : State) (q p ty : Nat) (ws : List Nat) : State :=
  let x := s.peer p
  let m : Out := .upl q p ty (s.fld MAC_CELLID_CELLID) x.cellid x.txCtr s.beat ws
  let s := (s.uplDue.setPeer p { x with txCtr := x.txCtr + 1 }).emit m
  if x.txCtr + 1 = 0xF0000000 then s.drawEpoch else s

/-- The port for a peer: one that carries UPL and on which the peer has been heard, the given one where it will do. -/
def State.portFor (s : State) (p : Nat) (first : Nat) : Option Nat :=
  [first, 1 - first].find? (fun q => s.uplPort q && s.heardOn (s.peer p) q)

/-- A message to a keyed peer leaves by the first port that will do. -/
def State.sendUpl (s : State) (p ty : Nat) (ws : List Nat) : State :=
  if !(s.peer p).keyed then s
  else match s.portFor p 0 with
    | some q => s.sendOn q p ty ws
    | none => s

/-- A reliable message: it is sent now where it can be, and waits for its answer (R322). -/
def State.sendRel (s : State) (p ty : Nat) (ws : List Nat) : State :=
  let r : Rel := ⟨p, ty, ws, if (s.peer p).keyed && (s.portFor p 0).isSome then 1 else 0, s.tim.ts, (s.portFor p 0).getD 0⟩
  { s.sendUpl p ty ws with plk := { (s.sendUpl p ty ws).plk with rel := s.plk.rel ++ [r] } }

/-- The first waiting message of a peer and type leaves. -/
def State.dropRel (s : State) (p ty : Nat) : State :=
  match s.plk.rel.find? (fun r => r.peer == p && r.ty == ty) with
  | some r => { s with plk := { s.plk with rel := s.plk.rel.erase r } }
  | none => s

/-- A frame resolved to egress PEER leaves as DATA; false where the peer has no key (R270, R326). -/
def State.sendData (s : State) (p : Nat) (rep : Bool) (body : List Byte) : Bool × State :=
  if (s.peer p).keyed then (true, s.sendUpl p uplData ((if rep then 1 else 0) :: body.map (·.toNat))) else (false, s)

/-! ### Receiving (R321, R322) -/

/-- A received message is accepted: its sender has a key, its MIC holds, and its CTR is new. -/
def State.acceptUpl (s : State) (u : UplIn) : Bool × State :=
  let p := u.peer.val
  let x := s.peer p
  if !s.uplPort u.port.val then (false, s)
  else if !u.mic || !x.keyed then (false, s.count PLK_MICFAIL_COUNT)
  else if u.ctr.toNat ≤ x.rxCtr then (false, (s.count PLK_REPLAY_COUNT).raiseLimited 198 198)
  else (true, s.setPeer p { x with rxCtr := u.ctr.toNat })

/-- A peer has been heard on a port. -/
def State.noteHeard (s : State) (p q : Nat) : State :=
  let x := s.peer p
  s.setPeer p (if q = 0 then { x with heard0 := some s.tim.ts, lastHeard := s.beat }
    else { x with heard1 := some s.tim.ts, lastHeard := s.beat })

/-! ### Discovery and keying (R323, R324) -/

/-- The cell is being served. -/
def State.cellServed (s : State) : Bool := s.serving && !s.standby

/-- What an ANNOUNCE carries: UID and CELLID, EPOCH, the Touchmark public key and certificate, the casting key, geometry and phase, role,
TVALID and whether the cell is served (R323). -/
def State.announceValues (s : State) : List Nat :=
  [Config.uid.toNat, s.fld MAC_CELLID_CELLID, s.fld PLK_EPOCH_EPOCH]
    ++ (List.range 16).map (fun w => s.fld (SEC_TMPUB_PUB w)) ++ (List.range 16).map (fun w => s.fld (SEC_TMCERT_SIG w))
    ++ [s.fld MGT_CASTKEY_KEYID, (s.get TIM_BEATGEOM).toNat, (s.get TIM_SFPHASE).toNat, s.fld PLK_SBSTAT_ROLE, s.fld TIM_STAT_TVALID,
        if s.cellServed then 1 else 0]

/-- ANNOUNCE_SEND: DSTCELL is 0xFFFF, and an ANNOUNCE has no peer's counter (R321). -/
def State.sendAnnounce (s : State) : State :=
  ([0, 1].filter s.uplPort).foldl (fun s q =>
    s.uplDue.emit (.upl q 64 uplAnnounce (s.fld MAC_CELLID_CELLID) 0xFFFF 0 s.beat s.announceValues)) s

/-- HELLO_SEND. -/
def State.sendHellos (s : State) : State :=
  ((List.range 64).filter (fun p => (s.peer p).keyed)).foldl (fun s p =>
    ([0, 1].filter s.uplPort).foldl (fun s q => s.sendOn q p uplHello
      [if s.cellServed then 1 else 0, s.fld PLK_SBSTAT_ROLE, s.fld TIM_STAT_TVALID]) s) s

/-- The root's signature over SHA-256(UID_HI ‖ UID_LO ‖ X ‖ Y) holds (R301, R324). -/
def certOk (a : Announce) : Bool :=
  ecdsaVerify Config.rootX.toNat Config.rootY.toNat a.certR.toNat a.certS.toNat
    (sha256 (beBytes 8 a.uid.toNat ++ beBytes 32 a.pubX.toNat ++ beBytes 32 a.pubY.toNat))

/-- A peer is rejected. -/
def State.rejectPeer (s : State) (p : Nat) : State :=
  (s.setPeer p { s.peer p with st := peerRejected, since := s.tim.ts }).raise 188

/-- What an ANNOUNCE tells of its sender. -/
def State.takeAnnounce (s : State) (p q : Nat) (a : Announce) : State :=
  let x := s.peer p
  (s.setPeer p { x with
    uid := a.uid.toNat, cellid := a.cellid.toNat, role := a.role.val, serving := a.serving, addr := a.addr.map (·.toNat),
    epoch := a.epoch.toNat, pubX := a.pubX.toNat, pubY := a.pubY.toNat, took := a.took.map (·.toNat),
    geom := a.beatGeom == s.get TIM_BEATGEOM && a.sfPhase == s.get TIM_SFPHASE }).noteHeard p q

/-- A first ANNOUNCE: the certificate and the casting key decide whether keying begins. -/
def State.newPeer (s : State) (p q : Nat) (a : Announce) : State :=
  let s := (s.setPeer p { Peer.cold with st := peerSeen }).takeAnnounce p q a
  if !certOk a || (s.isSet PLK_CFG_SAMEKEY && a.castKey.toNat != s.fld MGT_CASTKEY_KEYID) || !s.isSet SEC_TRNGSTAT_HEALTHY then
    s.rejectPeer p
  else s.setPeer p { s.peer p with st := peerKeying }

/-- ANNOUNCE_RECEIVED. -/
def State.announceReceived (s : State) (q : Nat) (a : Announce) : State :=
  if !s.uplPort q || a.uid == Config.uid then s
  else match s.peerOf a.uid.toNat with
    | some p =>
      let x := s.peer p
      if x.st = peerRejected then s
      else
        let s := s.takeAnnounce p q a
        if x.keyed && a.epoch.toNat != x.epoch then s.setPeer p { s.peer p with st := peerKeying } else s
    | none =>
      if s.plk.refused.any (fun r => r.1 == a.uid.toNat && decide (s.tim.ts < r.2 + 60 * ticksPerSecond)) then s
      else match s.peerFree with
        | some p => s.newPeer p q a
        | none =>
          { s with plk := { s.plk with refused := (a.uid.toNat, s.tim.ts) :: s.plk.refused.filter (fun r => r.1 != a.uid.toNat) } }.raise 188

/-- The 8-octet label of a pair: the EPOCH of the lower UID, then that of the higher one. -/
def State.pairLabel (s : State) (x : Peer) : List Byte :=
  if Config.uid.toNat < x.uid then leBytes 4 (s.fld PLK_EPOCH_EPOCH) ++ leBytes 4 x.epoch
  else leBytes 4 x.epoch ++ leBytes 4 (s.fld PLK_EPOCH_EPOCH)

/-- The neighbour (peer, CELLID) enters FWD's table (R326). -/
def State.peerNeighbour (s : State) (p : Nat) : State :=
  let x := s.peer p
  let key := x.cellid + 2 ^ 16
  let port := if s.heardOn x 0 then 0 else 1
  match s.nbrFind key with
  | none => s.nbrLearn key port p 0 false
  | some e =>
    if s.tabLocked 1 then s.learnDrop
    else s.putEntry 1 e [s.entryWord 1 e 0 - nbrPort (s.entryWord 1 e 0) * 2 ^ 18 + port * 2 ^ 18, p, s.beat, s.entryWord 1 e 3]

/-- The neighbour of a peer that has become FREE leaves FWD's table, unless the table is locked. -/
def State.dropPeerNeighbour (s : State) (cellid : Nat) : State :=
  match s.nbrFind (cellid + 2 ^ 16) with
  | some e => if s.tabLocked 1 then s else s.nbrRemove e
  | none => s

/-- PEER_KEYING_DONE: the key of slot 8 + p is made. -/
def State.keyingDone (s : State) (p : Nat) : State :=
  let x := s.peer p
  if x.st ≠ peerKeying then s
  else if !s.isSet SEC_TRNGSTAT_HEALTHY then s.rejectPeer p
  else
    let z := ecdhX Config.touchmark.toNat x.pubX x.pubY
    let s := s.setKey (8 + p) ((sha256 (z ++ s.pairLabel x)).take 16)
    let s := s.setPeer p { x with st := if x.geom then peerKeyed else peerMismatch, txCtr := 1, rxCtr := 0 }
    (s.peerNeighbour p).raise 186

/-- A handover command of the target ends (R330). -/
def State.endPull (s : State) (status : Nat) : State :=
  let s := { s with plk := { s.plk with pull := none } }
  let s := (s.setFld PLK_HOCMD_BUSY 0).setFld PLK_HOCMD_STATUS status
  if status = 0 then s else s.count PLK_HOFAIL_COUNT

/-- The transfer at the source fails: its record is restored at the next superframe start. -/
def State.failTransfer (s : State) : State :=
  match s.plk.transfer with
  | some t => { s with plk := { s.plk with transfer := none, restores := s.plk.restores ++ [t] } }
  | none => s

/-- PEER_AGE_OUT: a peer heard on neither port for 3 s becomes FREE, with what it was part of (R324, R330, R337). -/
def State.peerAgeOut (s : State) (p : Nat) : State :=
  let x := s.peer p
  if x.st = 0 ∨ x.st = peerRejected ∨ s.heardOn x 0 ∨ s.heardOn x 1 then s
  else
    let s := (s.setPeer p Peer.cold).eraseKey (8 + p)
    let s := { s with plk := { s.plk with
      rel := s.plk.rel.filter (fun r => r.peer != p), hoQueue := s.plk.hoQueue.filter (fun r => r.1 != p) } }
    let s := if s.plk.pull.any (fun r => r.1 == p) then s.endPull 9 else s
    let s := if s.plk.transfer.any (fun r => r.peer == p) then s.failTransfer else s
    (s.dropPeerNeighbour x.cellid).raise 187

/-- PEER_REJECT_EXPIRY. -/
def State.rejectExpired (s : State) (p : Nat) : State :=
  if (s.peer p).st = peerRejected then s.setPeer p Peer.cold else s

/-- HELLO_RECEIVED: a partner that does not serve the cell lets its standby take over (R333). -/
def State.helloReceived (s : State) (u : UplIn) (serving : Bool) (role : Nat) : State :=
  let (ok, s) := s.acceptUpl u
  if !ok then s
  else
    let p := u.peer.val
    let s := s.noteHeard p u.port.val
    let s := s.setPeer p { s.peer p with serving := serving, role := role, hello := some s.tim.ts }
    if !serving && s.standby && s.partner == some p then { s with plk := { s.plk with due := true } } else s

/-- ETH_LINK_CHANGE. The ports are down outside the modes with beats (R87). -/
def State.ethLink (s : State) (q : Nat) (up : Bool) (speed : Nat) : State :=
  let up := up && s.beating && s.live (0x11 + q) && s.isSet (PLK_PCFG_MODE q)
  let s' := (s.setBit (PLK_PSTAT_LINK q) up).setFld (PLK_PSTAT_SPEED q) (if up then speed else 0)
  if s.isSet (PLK_PSTAT_LINK q) == up then s' else s'.raise 185

/-! ### The commands -/

def execAnnounceSend (s : State) : Host.Outcome State Fault Refusal := .next s.sendAnnounce
def execAnnounceReceived (port : Fin 2) (a : Announce) (s : State) : Host.Outcome State Fault Refusal :=
  .next (s.announceReceived port.val a)
def execPeerKeyingDone (peer : Fin 64) (s : State) : Host.Outcome State Fault Refusal := .next (s.keyingDone peer.val)
def execPeerAgeOut (peer : Fin 64) (s : State) : Host.Outcome State Fault Refusal := .next (s.peerAgeOut peer.val)
def execPeerRejectExpiry (peer : Fin 64) (s : State) : Host.Outcome State Fault Refusal := .next (s.rejectExpired peer.val)
def execHelloSend (s : State) : Host.Outcome State Fault Refusal := .next s.sendHellos
def execHelloReceived (u : UplIn) (serving : Bool) (role : Fin 4) (_tvalid : Bool) (s : State) :
    Host.Outcome State Fault Refusal := .next (s.helloReceived u serving role.val)
def execEthLinkChange (port : Fin 2) (up : Bool) (speed : Fin 4) (s : State) : Host.Outcome State Fault Refusal :=
  .next (s.ethLink port.val up speed.val)

end Sys2Proof.Machine
end

