-- ==== Sys2Proof/Machine/Forward.lean ====
section
/-! DEFINITION. The forwarding station at work (spec/10 R269 to R292): its input queue, lookups, the mesh egress queue, commands,
locks, direct writes and the shadow compare. -/

namespace Sys2Proof.Machine

open Sys2Proof.Fields

/-! ### Input and egress (R269 to R272) -/

/-- A frame lost at a full queue. -/
def State.queueDrop (s : State) : State := (s.count FWD_QDROP_COUNT).raiseLimited 161 161

/-- A frame enters FWD's input queue. -/
def State.fwdEnqueue (s : State) (f : FwdFrame) : State :=
  if s.fwd.input.length < 1024 then { s with fwd := { s.fwd with input := s.fwd.input ++ [f] } } else s.queueDrop

/-- A frame with no node or neighbour is dropped. -/
def State.noHop (s : State) : State := (s.count FWD_NOHOP_COUNT).raiseLimited 155 155

/-- The packet of a frame: its octets after the originator's address (R269). -/
def FwdFrame.packet (f : FwdFrame) : List Byte := f.body.drop f.skip

/-- A frame for a lane enters the mesh egress queue. A relayed one gets the short address of its destination in front (R270).
The place of its buffer is a free value, and the queue holds its octets (log entry 21). -/
def State.toMesh (s : State) (f : FwdFrame) (lane node : Nat) (dest : Option Nat) : State :=
  if 4096 ≤ s.fwd.meq.length then s.queueDrop
  else
    let head := match dest with
      | some d => if d = node then [] else leBytes 2 (s.entryWord 0 d 2 % 2 ^ 16)
      | none => []
    let (v, s) := s.fresh
    let (w, s) := s.fresh
    let first := s.fwd.meq.isEmpty
    let d : MeqDesc := ⟨lane, node, dest, f.rep, v % 192, w % 4096, head ++ f.packet⟩
    let s := { s with fwd := { s.fwd with meq := s.fwd.meq ++ [d] } }
    if first then s.raise 160 else s

/-! ### Lookup (R270, R280, R282) -/

/-- An entry of a table as a lookup reads it; one with an uncorrectable error is empty (R291). -/
def State.readEntry (s : State) (t i : Nat) : List Nat × State :=
  let (x, s) := s.bankRead ownFwd (s.entryAddr t i) (entryBytes t)
  match x.bytes? with
  | some bs => (bytesWords (entryBytes t / 4) bs, s)
  | none => (List.replicate (entryBytes t / 4) 0, s)

/-- The slots that a lookup probes. -/
def State.probeSlots (s : State) (filter : Nat) : List Nat :=
  (List.range (s.fld FWD_GEOM_NLEN)).filter (fun k =>
    s.isSet (FWD_LEN_COUNT k) && (decide (s.fld (FWD_LEN_LEN k) < 64) || filter.testBit k))

/-- The matching entry of a bucket, read entry by entry. -/
def State.probeBucket (s : State) (len : Nat) (d : List Byte) : List Nat → Option Nat × State
  | [] => (none, s)
  | i :: r =>
    let (ws, s) := s.readEntry 2 i
    if (ws.getD 4 0).testBit 31 && routeLen ws == len && prefixOf ws == maskAddr len d then (some i, s)
    else s.probeBucket len d r

/-- The longest match of a destination. -/
def State.probeAll (s : State) (d : List Byte) : List Nat → Option Nat × State
  | [] => (none, s)
  | k :: r =>
    let (x, s) := s.probeBucket (s.fld (FWD_LEN_LEN k)) d ((List.range 8).map (· + s.bucketOf k d))
    match x with
    | some i => (some i, s)
    | none => s.probeAll d r

/-- The VALID neighbour of a key, which the lookup hits. -/
def State.hitNeighbour (s : State) (key : Nat) : Option (Nat × Nat) × State :=
  match s.nbrFind key with
  | none => (none, s)
  | some e =>
    let (ws, s) := s.readEntry 1 e
    if (ws.getD 0 0).testBit 31 then (some (nbrPort (ws.getD 0 0), ws.getD 1 0), s.setHit 1 e) else (none, s)

/-- A frame goes to a node: directly, or through the router of its first hop. -/
def State.toCell (s : State) (f : FwdFrame) (d : List Byte) : State :=
  let iid := d.drop 8
  let eui := beNat ((iid.headD 0#8 ^^^ 2#8) :: iid.tail)
  match s.nodeByEui eui with
  | none => s.noHop
  | some i =>
    let (ws, s) := s.readEntry 0 i
    if !(ws.getD 2 0).testBit 31 then s.noHop
    else if ws.getD 3 0 % 2 ^ 16 = 0xFFFF then s.toMesh f (ws.getD 2 0 / 2 ^ 16 % 4) i (some i)
    else
      let (n, s) := s.hitNeighbour (ws.getD 3 0 % 2 ^ 16)
      match n with
      | some (lane, rec) => s.toMesh f lane (rec % 2 ^ 18) (some i)
      | none => s.noHop

/-- The action of a route entry (R270). -/
def State.act (s : State) (f : FwdFrame) (d : List Byte) (e : Nat) : State :=
  let w4 := s.entryWord 2 e 4
  let nh := s.entryWord 2 e 5 % 2 ^ 16
  match w4 / 256 % 16 with
  | 0 => s.toCell f d
  | 1 =>
    let (n, s) := s.hitNeighbour nh
    match n with
    | some (lane, rec) => s.toMesh f lane (rec % 2 ^ 18) none
    | none => s.noHop
  | 2 =>
    let (n, s) := s.hitNeighbour (nh + 2 ^ 16)
    match n with
    | some (_, idx) =>
      let (ok, s) := s.sendData (idx % 64) f.rep f.packet
      if ok then s else s.noHop
    | none => s.noHop
  | 3 => s.emit (.toHost f.rep f.body)
  | _ => s.count FWD_ACTDROP_COUNT

/-- The destination of a packet that carries an IPv6 header. Octets that a cut-off header lacks are free values. -/
def State.destOf (s : State) (p : List Byte) : List Byte × State :=
  let d := (p.drop 24).take 16
  let (x, s) := s.freshBytes (16 - d.length)
  (d ++ x, s)

/-- FWD_LOOKUP: the oldest frame of the input queue is resolved. In a quiesce FWD finishes the lookups of the beats before it (R63). -/
def State.fwdLookup (s : State) : State :=
  match s.fwd.input with
  | [] => s
  | f :: r =>
    if !s.worksOn 0xF f.beat then s
    else
      let s := { s with fwd := { s.fwd with input := r } }
      if f.packet.isEmpty || (f.packet.headD 0#8).toNat / 16 != 6 then s.emit (.toHost f.rep f.body)
      else
        let (d, s) := s.destOf f.packet
        let (ws, s) := s.bankRead ownFwd (s.entryAddr 3 (foldAddr d)) 2
        let (x, s) := s.probeAll d (s.probeSlots (((ws.bytes?).map ofLeBytes).getD 0))
        match x with
        | some e => (s.setHit 2 e).act f d e
        | none => (s.count FWD_NOROUTE_COUNT).raiseLimited 154 154

/-- POP of FWD_MEQCTL. -/
def State.meqPop (s : State) : State := { s with fwd := { s.fwd with meq := s.fwd.meq.tail } }

/-! ### Changes of entries with their consequences (R276, R281, R288) -/

/-- The bits of each word of an entry that are not reserved. -/
def entryMasks (t : Nat) : List Nat :=
  match t with
  | 0 => [0xFFFFFFFF, 0xFFFFFFFF, 0x8003FFFF, 0x0000FFFF]
  | 1 => [0xF00DFFFF, 0x0003FFFF, 0xFFFFFFFF, 0x000000FF]
  | 2 => [0xFFFFFFFF, 0xFFFFFFFF, 0xFFFFFFFF, 0xFFFFFFFF, 0xF0000FFF, 0x0000FFFF, 0, 0]
  | _ => [0xFFFFFFFF]

/-- A node entry takes an image, and a changed next hop is reported. -/
def State.putNodeEntry (s : State) (i : Nat) (ws : List Nat) : State :=
  let old := s.nextHopOf i
  let s := s.putEntry 0 i (nodeImage ws)
  if old.isSome && old != s.nextHopOf i then s.routeChange i else s

/-- A word of a node entry is written; word 2 commits the entry. -/
def State.putNodeWord (s : State) (i w v : Nat) : State :=
  let old := s.nextHopOf i
  let s := s.putEntryWord 0 i w (v &&& (entryMasks 0).getD w 0)
  if old.isSome && old != s.nextHopOf i then s.routeChange i else s

/-- A route entry takes an image in a slot; COUNT and the filter follow. -/
def State.putRouteEntry (s : State) (i : Nat) (ws : List Nat) : State :=
  let was := s.entryValid 2 i
  let s := s.putEntry 2 i (List.zipWith (· &&& ·) (ws ++ [0, 0, 0, 0, 0, 0, 0, 0]) (entryMasks 2))
  match s.slotOfIdx i with
  | none => s
  | some k =>
    if !was && s.entryValid 2 i then s.slotUp k (prefixOf ws)
    else if was && !s.entryValid 2 i then s.slotDown k
    else if s.entryValid 2 i && decide (64 ≤ s.fld (FWD_LEN_LEN k)) then s.setFilter (foldAddr (prefixOf ws)) k
    else s

/-- A direct write of one word of a table window to a locked table (R288). -/
def State.fwdDirect (s : State) (t i w v : Nat) : State :=
  match t with
  | 0 => s.putNodeWord i w v
  | 1 => s.putEntryWord 1 i w (v &&& (entryMasks 1).getD w 0)
  | 2 =>
    let ws := s.entry 2 i
    if w = 4 then s.putRouteEntry i (ws.set 4 v) else s.putEntryWord 2 i w (v &&& (entryMasks 2).getD w 0)
  | _ => (s.bankWrite ownFwd (s.tabBase 3 + 2 * i) (leBytes 4 v)).2

/-! ### Commands (R285, R286) -/

def fsOk : Nat := 0
def fsNotFound : Nat := 1
def fsFull : Nat := 2
def fsDupKey : Nat := 3
def fsBadKey : Nat := 4
def fsEnd : Nat := 5
def fsAborted : Nat := 6

/-- The front command ends: its status, and the index and image that it returns. -/
def State.endFwdCmd (s : State) (c : FwdCmd) (status idx : Nat) (img : List Nat) : State :=
  let s := { s with fwd := { s.fwd with cmds := s.fwd.cmds.tail, flushing := false, waiting := false } }
  match c.queue with
  | some (q, tag) => s.complete q tag stOk status 0 ([idx, 0, 0, 0] ++ (img ++ List.replicate 8 0).take 8)
  | none =>
    let s := if img.isEmpty then s else
      ((List.range img.length).foldl (fun s m => s.setFld (FWD_CD_DATA m) (img.getD m 0)) s).setFld FWD_CIDX_INDEX idx
    ((s.setFld FWD_CMD_BUSY 0).setFld FWD_CMD_STATUS status).raise 153

/-- The prefix and length of a route key, where the length is cast and no bit lies beyond it. -/
def State.routeKey (s : State) (ws : List Nat) : Option (Nat × List Byte) :=
  let p := prefixOf ws
  match s.slotOfLen (routeLen ws) with
  | some k => if maskAddr (routeLen ws) p == p then some (k, p) else none
  | none => none

/-- Where a command's key stands: an index, nothing, or a bad key. -/
def State.findKey (s : State) (c : FwdCmd) : Option (Option Nat) :=
  match c.table with
  | 0 =>
    match c.keysel with
    | 0 => some (s.nodeByEui (c.ck.getD 1 0 * 2 ^ 32 + c.ck.getD 0 0))
    | 1 => if 0xFF00 ≤ c.ck.getD 0 0 % 2 ^ 16 then none
           else some (s.nodeByShort (c.ck.getD 0 0 / 2 ^ 16 % 4) (c.ck.getD 0 0 % 2 ^ 16))
    | 2 => some (if s.entryValid 0 c.cidx then some c.cidx else none)
    | _ => none
  | 1 => some (s.nbrFind (nbrKey (c.ck.getD 0 0)))
  | 2 => match s.routeKey c.ck with
    | some (k, p) => some (s.routeFind k p)
    | none => none
  | _ => none

/-- SEARCH. -/
def State.cmdSearch (s : State) (c : FwdCmd) : State :=
  match s.findKey c with
  | none => s.endFwdCmd c fsBadKey c.cidx []
  | some none => s.endFwdCmd c fsNotFound c.cidx []
  | some (some i) => s.endFwdCmd c fsOk i (s.entry c.table i)

/-- NEXT. -/
def State.cmdNext (s : State) (c : FwdCmd) : State :=
  if 3 ≤ c.table then s.endFwdCmd c fsBadKey c.cidx []
  else match (s.validEntries c.table).find? (fun i => c.start || decide (c.cidx < i)) with
    | some i => s.endFwdCmd c fsOk i (s.entry c.table i)
    | none => s.endFwdCmd c fsEnd c.cidx []

/-- A word with VALID set and HIT and AGED cleared. -/
def storedWord (w : Nat) : Nat := withBit (withBit (withBit w 31 true) bitHit false) bitAged false

/-- INSERT into the node table. -/
def State.insertNode (s : State) (c : FwdCmd) : State :=
  let ws := (c.cd.take 2) ++ [withBit (c.cd.getD 2 0) 31 true, c.cd.getD 3 0]
  if 131072 ≤ c.cidx ∨ 0xFF00 ≤ c.cd.getD 2 0 % 2 ^ 16 then s.endFwdCmd c fsBadKey c.cidx []
  else if s.nodeDup c.cidx ws then s.endFwdCmd c fsDupKey c.cidx []
  else (s.putNodeEntry c.cidx ws).endFwdCmd c fsOk c.cidx []

/-- INSERT into the neighbour table. -/
def State.insertNbr (s : State) (c : FwdCmd) : State :=
  let w0 := c.cd.getD 0 0
  let img := List.zipWith (· &&& ·) [storedWord w0, c.cd.getD 1 0, c.cd.getD 2 0, c.cd.getD 3 0] (entryMasks 1)
  if w0.testBit 16 && w0.testBit 19 then s.endFwdCmd c fsBadKey c.cidx []
  else match (s.nbrFind (nbrKey w0)).orElse (fun _ => s.nbrFree) with
    | some i => (s.putEntry 1 i img).endFwdCmd c fsOk c.cidx []
    | none => s.endFwdCmd c fsFull c.cidx []

/-- INSERT into the route table; it waits while the filter bit of its slot is being cleared (R281). -/
def State.insertRoute (s : State) (c : FwdCmd) : State :=
  match s.routeKey c.cd with
  | none => s.endFwdCmd c fsBadKey c.cidx []
  | some (k, p) =>
    if 5 ≤ c.cd.getD 4 0 / 256 % 16 then s.endFwdCmd c fsBadKey c.cidx []
    else if s.fwd.clearing.contains k then { s with fwd := { s.fwd with waiting := true } }
    else match (s.routeFind k p).orElse (fun _ => s.routeFree k p) with
      | some i => (s.putRouteEntry i (c.cd.set 4 (storedWord (c.cd.getD 4 0)))).endFwdCmd c fsOk c.cidx []
      | none => s.endFwdCmd c fsFull c.cidx []

/-- INSERT. -/
def State.cmdInsert (s : State) (c : FwdCmd) : State :=
  match c.table with
  | 0 => s.insertNode c
  | 1 => s.insertNbr c
  | 2 => s.insertRoute c
  | _ => s.endFwdCmd c fsBadKey c.cidx []

/-- An entry is removed from a table. -/
def State.removeEntry (s : State) (t i : Nat) : State :=
  match t with
  | 0 => s.putNodeWord i 2 (s.entryWord 0 i 2 % 2 ^ 31)
  | 1 => s.nbrRemove i
  | _ => s.routeRemove i

/-- DELETE: a node entry by its index, another one by its key. -/
def State.cmdDelete (s : State) (c : FwdCmd) : State :=
  match s.findKey { c with keysel := 2 } with
  | none => s.endFwdCmd c fsBadKey c.cidx []
  | some none => s.endFwdCmd c fsNotFound c.cidx []
  | some (some i) => (s.removeEntry c.table i).endFwdCmd c fsOk c.cidx []

/-- The port of a neighbour entry, numbered as in CK0. -/
def portOfNbr (w0 : Nat) : Nat := if w0.testBit 16 then 4 + nbrPort w0 else nbrPort w0

/-- The port that a route entry's action resolves to directly. -/
def State.portOfRoute (s : State) (i : Nat) : Option Nat :=
  let nh := s.entryWord 2 i 5 % 2 ^ 16
  match s.entryWord 2 i 4 / 256 % 16 with
  | 1 => (s.nbrFind nh).map (fun e => portOfNbr (s.entryWord 1 e 0))
  | 2 => (s.nbrFind (nh + 2 ^ 16)).map (fun e => portOfNbr (s.entryWord 1 e 0))
  | 3 => some 6
  | _ => none

/-- FLUSH-BY-PORT begins. -/
def State.cmdFlush (s : State) (c : FwdCmd) : State :=
  if c.table ≠ 1 ∧ c.table ≠ 2 ∨ c.ck.getD 0 0 % 8 = 7 then s.endFwdCmd c fsBadKey c.cidx []
  else { s with fwd := { s.fwd with flushing := true } }

/-- The entries that a flush removes. -/
def State.flushed (s : State) (c : FwdCmd) (t : Nat) : List Nat :=
  let port := c.ck.getD 0 0 % 8
  let dyn i := !(c.ck.getD 0 0).testBit 8 || (s.entryWord t i (validWord t)).testBit bitDyn
  (s.validEntries t).filter (fun i => dyn i && (if t = 1 then portOfNbr (s.entryWord 1 i 0) == port else s.portOfRoute i == some port))

/-- FWD_FLUSH_DONE. -/
def State.flushDone (s : State) : State :=
  match s.fwd.cmds with
  | [] => s
  | c :: _ =>
    if !s.fwd.flushing then s
    else ((s.flushed c c.table).foldl (fun s i => s.removeEntry c.table i) s).endFwdCmd c fsOk c.cidx []

/-- The command in front runs, where it has the given operation and none runs. -/
def State.runFwd (s : State) (op : Nat) : State :=
  match s.fwd.cmds with
  | [] => s
  | c :: _ =>
    if c.op ≠ op ∨ s.fwd.flushing ∨ s.fwd.waiting ∨ !s.live 0xF then s
    else match op with
      | 0 => s.cmdSearch c
      | 1 => s.cmdNext c
      | 2 => s.cmdInsert c
      | 3 => s.cmdDelete c
      | _ => s.cmdFlush c

/-- FILTER_CLEAR_DONE: the filter bit of a slot is clear, and an insertion that waited for it proceeds (R281). -/
def State.clearDone (s : State) (k : Nat) : State :=
  if !s.fwd.clearing.contains k then s
  else
    let s := s.filterCleared k
    if s.fwd.waiting then ({ s with fwd := { s.fwd with waiting := false } }).runFwd 2 else s

/-- GO of FWD_CMD: the registers' command joins the order of all commands. -/
def State.fwdGo (s : State) : State :=
  let c : FwdCmd :=
    { queue := none, op := s.fld FWD_CMD_OP, table := s.fld FWD_CMD_TABLE, keysel := s.fld FWD_CMD_KEYSEL,
      start := s.isSet FWD_CIDX_START, cidx := s.fld FWD_CIDX_INDEX,
      ck := (List.range 5).map (fun m => s.fld (FWD_CK_KEY m)), cd := (List.range 8).map (fun m => s.fld (FWD_CD_DATA m)) }
  { s with fwd := { s.fwd with cmds := s.fwd.cmds ++ [c] } }.setFld FWD_CMD_BUSY 1

/-! ### Locks (R287) -/

/-- A write of FWD_LOCK.REQ: LOCKED falls with its bit, and rises at FWD_LOCKED. -/
def State.lockRequest (s : State) (req : Nat) : State :=
  (s.setFld FWD_LOCK_REQ req).setFld FWD_LOCK_LOCKED (s.fld FWD_LOCK_LOCKED &&& req)

/-- FWD_LOCKED. -/
def State.tableLocked (s : State) (t : Nat) : State :=
  if s.tabLocked t then s.setFld FWD_LOCK_LOCKED (s.fld FWD_LOCK_LOCKED ||| 2 ^ t) else s

/-! ### Shadow compare (R289, R290) -/

/-- The tables in the order of the shadow. -/
def shadowOrder : List Nat := [0, 1, 3, 2]

/-- A table that the compare looks at now. -/
def State.shadowTable (s : State) (t : Nat) : Bool := (s.fld FWD_SHCFG_TABLES).testBit t && !s.tabLocked t

/-- Bits of each word that the compare looks at. -/
def compareMasks (t : Nat) : List Nat :=
  match t with
  | 1 => [0x900DFFFF, 0x0003FFFF, 0, 0]
  | 2 => [0xFFFFFFFF, 0xFFFFFFFF, 0xFFFFFFFF, 0xFFFFFFFF, 0x90000FFF, 0x0000FFFF, 0, 0]
  | t => entryMasks t

/-- The image of an entry as the shadow holds it: the words of its 16 or 32 bytes, or its 16 filter bits. -/
def imageOf (t : Nat) (bs : List Byte) : List Nat :=
  if t = 3 then [ofLeBytes (bs.take 2)] else bytesWords (entryBytes t / 4) bs

/-- The live entry as the compare finds it; one with an uncorrectable word stands as empty (R291). -/
def State.liveImage (s : State) (t i : Nat) : List Nat :=
  imageOf t (if s.spoiled (s.entryAddr t i) (entryBytes t) then List.replicate (entryBytes t) 0#8
    else s.cells (s.entryAddr t i) (entryBytes t))

/-- A VALID entry learned by hardware. -/
def learned (t : Nat) (ws : List Nat) : Bool :=
  (t == 1 || t == 2) && (ws.getD (validWord t) 0).testBit 31 && (ws.getD (validWord t) 0).testBit bitDyn

/-- A shadow image differs from the live entry in what the compare looks at. -/
def State.mismatch (s : State) (t i : Nat) (sh : List Nat) : Bool :=
  let lv := s.liveImage t i
  if t = 3 then (sh.getD 0 0 &&& (lv.getD 0 0 ^^^ 0xFFFF)) != 0
  else !(learned t sh || learned t lv)
    && List.zipWith (· &&& ·) sh (compareMasks t) != List.zipWith (· &&& ·) lv (compareMasks t)

/-- The table that the pass stands at. -/
def State.shadowAt (s : State) : Nat := shadowOrder.getD s.fwd.shTab 0

/-- The pass goes on to the next table, or a new pass begins. -/
def State.shadowNextTable (s : State) : State :=
  if s.fwd.shTab < 3 then { s with fwd := { s.fwd with shTab := s.fwd.shTab + 1, shOfs := 0 } }
  else { s with fwd := { s.fwd with shTab := 0, shOfs := 0 } }.raise 163

/-- The next place of the pass: the next chunk of the table, or the next table. -/
def State.shadowAdvance (s : State) : State :=
  let ofs := s.fwd.shOfs + 2 ^ s.fld FWD_SHCFG_CHUNK
  if ofs < s.tabBytes s.shadowAt then { s with fwd := { s.fwd with shOfs := ofs } }
  else s.shadowNextTable

/-- Tables that are not compared, or hold nothing, are passed over. -/
def State.shadowSkip (s : State) : Nat → State
  | 0 => s
  | n + 1 => if s.shadowTable s.shadowAt && s.tabSize s.shadowAt != 0 then s else s.shadowNextTable.shadowSkip n

/-- The compare stops, to resume the same chunk later. -/
def State.shadowStall (s : State) : State :=
  if s.isSet FWD_SHSTAT_STALLED then s else (s.setFld FWD_SHSTAT_STALLED 1).raise 164

/-- Where a table's shadow lies in host memory. -/
def State.shadowBase (s : State) (t : Nat) : Nat :=
  2 ^ 32 * s.fld FWD_SHBASE_HI_ADDR + 2 ^ 16 * s.fld FWD_SHBASE_LO_ADDR
    + (match t with
       | 0 => 0
       | 1 => 0x200000
       | 2 => 0x280000
       | _ => 0x240000)

/-- The compare is on. -/
def State.shadowOn (s : State) : Bool := s.isSet FWD_SHCFG_EN && s.live 0xF

/-- A DMA read of octets of a table's shadow, which a link that is down does not take. -/
def State.shadowAsk (s : State) (t ofs len : Nat) : State :=
  if s.linkUp then s.emit (.hostRead (s.shadowBase t + ofs) len) else s.shadowStall

/-- The next chunk's DMA read. -/
def State.shadowFetch (s : State) : State :=
  if !s.shadowOn then s
  else
    let s := s.shadowSkip 4
    let t := s.shadowAt
    if s.shadowTable t then
      s.shadowAsk t s.fwd.shOfs (min (2 ^ s.fld FWD_SHCFG_CHUNK) (s.tabBytes t - s.fwd.shOfs))
    else s

/-- The fresh reads for the mismatches that wait, of those seen in one beat or of all (R290). -/
def State.shadowReread (s : State) (b : Option Nat) : State :=
  if !s.shadowOn then s
  else s.fwd.shMis.foldl (fun s m =>
    if b.all (· == m.2.2) then s.shadowAsk m.1 (entryBytes m.1 * m.2.1) (entryBytes m.1) else s) s

/-- The compare starts, or goes on where it stopped. -/
def State.shadowStart (s : State) : State := s.shadowFetch.shadowReread none

/-- The link has gone or come: the compare stops, or goes on. -/
def State.shadowReach (s : State) : State := if s.linkUp then s.shadowStart else if s.shadowOn then s.shadowStall else s

/-- SHADOW_CHUNK_COMPARE: a chunk's DMA read ends with its octets, or fails. -/
def State.shadowChunk (s : State) (data : Option (List Byte)) : State :=
  let t := s.shadowAt
  if !s.shadowOn then s
  else if !s.shadowTable t then s.shadowFetch
  else match data, s.linkUp with
    | some bs, true =>
      let s := s.setFld FWD_SHSTAT_STALLED 0
      let n := entryBytes t
      let first := s.fwd.shOfs / n
      let count := min (bs.length / n) (s.tabSize t - first)
      let (_, s) := s.readSpan ownFwd (s.entryAddr t first) (count * n)
      let bad := (List.range count).filter (fun j => s.mismatch t (first + j) (imageOf t ((bs.drop (n * j)).take n)))
      ({ s with fwd := { s.fwd with shMis := s.fwd.shMis ++ bad.map (fun j => (t, first + j, s.beat)) } }).shadowAdvance.shadowFetch
    | _, _ => s.shadowStall.shadowFetch

/-- A repair would duplicate a key of another VALID entry. -/
def State.repairDup (s : State) (t i : Nat) (ws : List Nat) : Bool :=
  (ws.getD (validWord t) 0).testBit 31 &&
    (match t with
     | 0 => s.nodeDup i ws
     | 1 => (s.validEntries 1).any (fun j => j != i && nbrKey (s.entryWord 1 j 0) == nbrKey (ws.getD 0 0))
     | _ => false)

/-- The shadow image replaces the live entry. -/
def State.repair (s : State) (t i : Nat) (ws : List Nat) : State :=
  if s.repairDup t i ws then s.count FWD_SHSTAT_REPFAIL
  else match t with
    | 0 => s.putNodeEntry i ws
    | 1 => s.putEntry 1 i (List.zipWith (· &&& ·) ws (entryMasks 1))
    | 2 => s.putRouteEntry i ws
    | _ => (s.bankWrite ownFwd (s.entryAddr 3 i) (leBytes 2 (ws.getD 0 0))).2

/-- SHADOW_RECHECK: one beat later a mismatch is compared again with a fresh read. -/
def State.shadowRecheck (s : State) (data : Option (List Byte)) : State :=
  match s.fwd.shMis with
  | [] => s
  | (t, i, b) :: r =>
    if s.beat = b ∨ !s.shadowOn then s
    else match data, s.linkUp with
      | some bs, true =>
        let s := { s with fwd := { s.fwd with shMis := r } }
        let ws := imageOf t bs
        if !s.shadowTable t || !s.mismatch t i ws then s
        else
          let s := ((s.setFld FWD_SHMISS_TABLE t).setFld FWD_SHMISS_INDEX i).count FWD_SHSTAT_MISSES
          let s := s.raise 162 i
          if s.isSet FWD_SHCFG_REPAIR then s.repair t i ws else s
      | _, _ => s.shadowStall.shadowAsk t (entryBytes t * i) (entryBytes t)

/-! ### Function reset (R63, R291) -/

/-- FWD's function reset: the command in progress ends ABORTED, locks clear, and the sweeper and the shadow pass restart. -/
def State.fwdReset (s : State) : State :=
  let s := match s.fwd.cmds with
    | c :: _ => s.endFwdCmd c fsAborted c.cidx []
    | [] => s
  let s := { s with fwd := { s.fwd with sweep := 0, shTab := 0, shOfs := 0, shMis := [] } }
  s.lockRequest 0

/-! ### The commands -/

def execFwdLookup (s : State) : Host.Outcome State Fault Refusal := .next s.fwdLookup
def execFwdSearch (s : State) : Host.Outcome State Fault Refusal := .next (s.runFwd 0)
def execFwdNext (s : State) : Host.Outcome State Fault Refusal := .next (s.runFwd 1)
def execFwdInsert (s : State) : Host.Outcome State Fault Refusal := .next (s.runFwd 2)
def execFwdDelete (s : State) : Host.Outcome State Fault Refusal := .next (s.runFwd 3)
def execFwdFlushByPort (s : State) : Host.Outcome State Fault Refusal := .next (s.runFwd 4)
def execFwdFlushDone (s : State) : Host.Outcome State Fault Refusal := .next s.flushDone
def execFilterClearDone (slot : Fin 16) (s : State) : Host.Outcome State Fault Refusal := .next (s.clearDone slot.val)
def execSweepVisit (s : State) : Host.Outcome State Fault Refusal := .next (if s.live 0xF then s.sweepVisit else s)
def execFwdLocked (table : Fin 4) (s : State) : Host.Outcome State Fault Refusal := .next (s.tableLocked table.val)
def execShadowChunkCompare (data : Option (List Byte)) (s : State) : Host.Outcome State Fault Refusal :=
  .next (s.shadowChunk data)
def execShadowRecheck (data : Option (List Byte)) (s : State) : Host.Outcome State Fault Refusal :=
  .next (s.shadowRecheck data)
/-- A DATA message hands its frame to FWD as ingress (R326). -/
def execDataReceived (u : UplIn) (rep : Bool) (body : List Byte) (s : State) : Host.Outcome State Fault Refusal :=
  let (ok, s) := s.acceptUpl u
  .next (if ok then s.fwdEnqueue ⟨body, 0, rep, s.beat⟩ else s)

end Sys2Proof.Machine
end

