-- ==== Sys2Proof/Machine/Mesh.lean ====
section
/-! DEFINITION. Received frames in MAC and SEC (spec/08 R223, R225, R230, R236, R237, spec/11 R294, R300, R306): authentication,
counter rules, delivery, and the overruns of frames that wait too long (spec/01 R27). -/

namespace Sys2Proof.Machine

open Sys2Proof.Fields

/-! ### Frames that wait -/

/-- The frame with the earliest receive timestamp, the first among equals. -/
def earliestFrame : List RxFrame → Option RxFrame
  | [] => none
  | f :: r =>
    match earliestFrame r with
    | none => some f
    | some g => if f.ts ≤ g.ts then some f else some g

/-- Of the frames of a list that meet a condition the one received first, and the others (R237, R240). -/
def takeFrame (p : RxFrame → Bool) (l : List RxFrame) : Option (RxFrame × List RxFrame) :=
  (earliestFrame (l.filter p)).map (fun f => (f, l.erase f))

/-- The type of a frame, where it has a header. -/
def RxFrame.ftype (f : RxFrame) : Option Nat := (parseMhr f.psdu).map (·.ftype)

/-- A frame is MAC's work of the current beat: it ended in an earlier one (R23). Join requests go a way of their own. -/
def State.macWork (s : State) (join : Bool) (f : RxFrame) : Bool := f.beat != s.beat && (f.ftype == some ftJoinReq) == join

/-- A frame has been dealt with: its ticket waits for one frame less. -/
def State.frameDone (s : State) (f : RxFrame) : State :=
  if (s.ticket f.entry).tid = f.tid then s.upTicket f.entry (fun t => { t with open_ := t.open_ - 1 }) else s

/-- The ticket of a frame notes something of it. -/
def State.noteTicket (s : State) (f : RxFrame) (g : Ticket → Ticket) : State :=
  if (s.ticket f.entry).tid = f.tid then s.upTicket f.entry g else s

/-! ### Authentication (R223, R300, R307) -/

/-- A frame fails authentication: it is dropped and counted (R223, R242). A frame whose record has not been found has no
index to give as data (log entry 25). -/
def State.authFail (s : State) (node : Option Nat) : State :=
  let s := s.count MAC_AUTHFAIL_COUNT
  match node with
  | some i => s.raiseLimited 118 118 i
  | none => let (v, s) := s.fresh; s.raiseLimited 118 118 v

/-- A frame is dropped before authentication (R223). -/
def State.dropForeign (s : State) (f : RxFrame) : State := (s.count MAC_FOREIGN_COUNT).frameDone f

/-- The previous session key of a record in grace. -/
def State.graceKey (s : State) (i : Nat) : Option (List Byte) :=
  if s.nr i NR_GRACE = 0 then none
  else (s.sec.pendJ.find? (fun p => p.node == i && p.prev.isSome)).bind (·.prev)

/-- A frame of a record under its session key, or under the previous one in grace: the payload and the OLDKEY flag. -/
def State.openFrame (s : State) (i : Nat) (h : Mhr) (psdu : List Byte) : Option (List Byte × Bool) :=
  let nc := nonce (s.eui i) h.fcnt h.ftype false 0
  if s.nr i NR_SKV = 0 then none
  else match unprotect (s.sessKey i) nc h psdu with
    | some b => some (b, false)
    | none => (s.graceKey i).bind (fun k => (unprotect k nc h psdu).map (fun b => (b, true)))

/-- The record of a short address on a lane. -/
def State.sender (s : State) (h : Mhr) (lane : Nat) : Option Nat := if h.long then none else s.nodeByShort lane h.addr

/-- A frame is authenticated: it passes with its record and payload, or it is dropped. -/
def State.authenticate (s : State) (f : RxFrame) (h : Mhr) : Option RxFrame × State :=
  match s.sender h f.lane with
  | none => (none, (s.authFail none).frameDone f)
  | some i =>
    match s.openFrame i h f.psdu with
    | none => (none, (s.authFail (some i)).frameDone f)
    | some (b, old) => (some { f with node := some i, body := b, oldKey := old }, s)

/-- RX_AUTH_DONE: the oldest frame in MAC's input that is no join request passes or fails. A SEC that quiesces still completes what
was MAC's work before (R63). -/
def State.rxAuthDone (s : State) : State :=
  match takeFrame (fun f => s.macWork false f && s.worksOn 0x10 f.beat) s.mac.input with
    | none => s
    | some (f, r) =>
      let s := { s with mac := { s.mac with input := r } }
      if s.foreign f.psdu then s.dropForeign f
      else match parseMhr f.psdu with
        | none => s
        | some h =>
          match s.authenticate f h with
          | (some g, s) => { s with mac := { s.mac with passed := s.mac.passed ++ [g] } }
          | (none, s) => s

/-! ### Counters (R237) -/

/-- The counter rule: whether an authenticated frame is accepted; a repeat is counted. -/
def State.counterRule (s : State) (i fcnt : Nat) : Bool × State :=
  if max (s.nextValue (.acc i)) (s.nr i NR_PENDCTR) < fcnt then (true, s.setNr i NR_PENDCTR fcnt)
  else (false, (s.count MAC_REPEAT_COUNT).raiseLimited 119 119 i)

/-- An authenticated frame of a record meets the counter rule, and its ticket notes it. The counters move under a stale ticket
too (R258, log entry 47). -/
def State.meetRule (s : State) (f : RxFrame) (h : Mhr) (i : Nat) : Bool × State :=
  let (ok, s) := s.counterRule i h.fcnt
  if !ok then (false, s)
  else
    let s := s.noteTicket f (fun t => { t with accepted := (i, f.ts, h.ftype == ftJoinReq) :: t.accepted })
    (true, if h.hops = 0 ∧ s.nr i NR_ROUTER = 1 then s.nbrRefresh i f.lane f.rssi else s)

/-- The counter rule meets the frames of a record that have passed and were received before an instant, in the order of their
timestamps, before it meets a later one (R237, R240). -/
def State.judgeEarlier (s : State) (i ts : Nat) : Nat → State
  | 0 => s
  | n + 1 =>
    match earliestFrame (s.mac.passed.filter (fun f => f.node == some i && f.rep.isNone && decide (f.ts < ts))) with
    | none => s
    | some f =>
      match parseMhr f.psdu with
      | none => s
      | some h =>
        let (ok, s) := s.meetRule f h i
        let s := { s with mac := { s.mac with passed := s.mac.passed.map (fun g => if g = f then { g with rep := some (!ok) } else g) } }
        s.judgeEarlier i ts n

/-- A frame of a record is judged and its ticket notes it: whether it is accepted. -/
def State.judgeFrame (s : State) (f : RxFrame) (h : Mhr) (i : Nat) (bit : Bool) : Bool × State :=
  let s := s.noteTicket f (fun t => { t with heard := i :: t.heard, mapBit := t.mapBit || bit })
  match f.rep with
  | some r => (!r, s)
  | none => (s.judgeEarlier i f.ts s.mac.passed.length).meetRule f h i

/-! ### Delivery -/

/-- The oldest passed frame of a type is taken. -/
def State.takePassed (s : State) (ft : Nat) : Option (RxFrame × Mhr × Nat) × State :=
  match takeFrame (fun f => f.ftype == some ft) s.mac.passed with
  | none => (none, s)
  | some (f, r) =>
    match parseMhr f.psdu, f.node with
    | some h, some i => (some (f, h, i), { s with mac := { s.mac with passed := r } })
    | _, _ => (none, s)

/-- UPLINK_RECEIVED: the payload goes to FWD with its REPEAT flag (R225, R237, R269). -/
def State.uplinkReceived (s : State) : State :=
  if !s.works 0xD then s
  else match s.takePassed ftUplink with
    | (none, s) => s
    | (some (f, h, i), s) =>
      let (ok, s) := s.judgeFrame f h i true
      let s := s.fwdEnqueue ⟨f.body, if h.hops = 0 then 0 else 2, !ok, f.beat⟩
      s.frameDone f

/-- NODEACK_RECEIVED: a NODEACK whose payload is the FCNT of the downlink acknowledges it (R222, R255). -/
def State.nodeackReceived (s : State) : State :=
  if !s.works 0xD then s
  else match s.takePassed ftNodeAck with
    | (none, s) => s
    | (some (f, h, i), s) =>
      let (_, s) := s.judgeFrame f h i false
      let t := s.ticket f.entry
      let s := if t.purpose == .nodeAck && t.node == some i && decide (f.body.length = 4) && ofLeBytes f.body == t.fcnt then
          s.noteTicket f (fun t => { t with acked := true }) else s
      ((s.frameDone f).deliver f.entry).planLater

/-- A JOINREQ's record. -/
def State.joiner (s : State) (h : Mhr) : Option Nat := if h.long then s.nodeByEui h.addr else none

/-- A JOINREQ of no record, or of a FREE one, is dropped and counted. The event's data is the index of the record found, and a free
value where there is none (R230, R242, log entry 25). -/
def State.joinUnknown (s : State) (f : RxFrame) (i : Option Nat) : State :=
  let s := s.count MAC_JOINUNK_COUNT
  match i with
  | some i => (s.raise 114 i).frameDone f
  | none => let (v, s) := s.fresh; (s.raise 114 v).frameDone f

/-- SEC records what an authenticated JOINREQ carries: NNONCE, JRREP and JRUSED, and the superframe in which it came. Octets of NNONCE that a short payload
lacks are free values. -/
def State.recordJoin (s : State) (i ts : Nat) (rep : Bool) (body : List Byte) : State :=
  let (x, s) := s.freshBytes (4 - body.length)
  let s := s.setNr i NR_NNONCE (ofLeBytes (body.take 4 ++ x))
  let s := { s with sec := { s.sec with joinReqs := tabInsert i (s.sfSecond ts) (tabErase i s.sec.joinReqs) } }
  (s.setNr i NR_JRREP (if rep then 1 else 0)).setNr i NR_JRUSED 0

/-- A join request that has a record is authenticated under the join key and delivered to Q1 (R230, R306). -/
def State.joinFrame (s : State) (f : RxFrame) (h : Mhr) (i : Nat) : State :=
  let body := if s.nr i NR_JKV = 0 then none
    else unprotect (s.joinKey i) (nonce (s.eui i) h.fcnt h.ftype false 0) h f.psdu
  match body with
  | none => (s.authFail (some i)).frameDone f
  | some b =>
    let (ok, s) := s.judgeFrame f h i false
    let s := (s.recordJoin i f.ts (!ok) b).noteMirror i
    (s.emit (.toQ1 i (!ok) b)).frameDone f

/-- JOINREQ_RECEIVED. -/
def State.joinreqReceived (s : State) : State :=
  if !s.works 0xD then s
  else match takeFrame (fun f => s.macWork true f && s.worksOn 0x10 f.beat) s.mac.input with
    | none => s
    | some (f, r) =>
      let s := { s with mac := { s.mac with input := r } }
      if s.foreign f.psdu then s.dropForeign f
      else match parseMhr f.psdu with
        | none => s
        | some h =>
          match s.joiner h with
          | some i => if s.nodeState i = nodeFree then s.joinUnknown f (some i) else s.joinFrame f h i
          | none => s.joinUnknown f none

/-! ### Express path (R236, R336) -/

/-- An ALARM as it is sent. -/
def Alarm.values (a : Alarm) : List Nat :=
  [a.lane, a.tap, a.cellid, a.recidx, a.fcnt, a.ts, a.rssi, if a.again then 1 else 0] ++ a.payload.map (·.toNat)

/-- The peers that take alarms: the standby partner, and the named peer where it is another one. -/
def State.alarmPeers (s : State) : List Nat :=
  let l := if s.isSet PLK_EXPCFG_TOPARTNER then s.partner.toList else []
  if s.isSet PLK_EXPCFG_TOPEER && !l.contains (s.fld PLK_EXPCFG_PEER) then l ++ [s.fld PLK_EXPCFG_PEER] else l

/-- An ALARM goes to a peer, and waits for its second sending. -/
def State.sendAlarm (s : State) (a : Alarm) (p : Nat) : State :=
  let s := s.sendUpl p uplAlarm a.values
  { s with plk := { s.plk with alarms := s.plk.alarms ++ [(p, a)] } }

/-- A sentinel frame is posted to the host and sent on to peers. -/
def State.postSentinel (s : State) (f : RxFrame) (h : Mhr) (i : Nat) (rep : Bool) : State :=
  let s := s.postExpress ⟨f.lane, f.tap, false, s.mac.cellid, 0, i, h.fcnt, f.ts, 0, f.rssi, rep, f.body⟩
  let s := s.raise 124 i
  s.alarmPeers.foldl (fun s p => s.sendAlarm ⟨f.lane, f.tap, s.mac.cellid, i, h.fcnt, f.ts, f.rssi, rep, f.body⟩ p) s

/-- A SENTINEL frame that an ordinary ticket has heard is delivered with its batch. DESIGN CHOICE (log entry 77): it is posted as one
that the express engine takes. -/
def State.sentinelBatch (s : State) : State :=
  if !s.works 0xD then s
  else match s.takePassed ftSentinel with
    | (none, s) => s
    | (some (f, h, i), s) =>
      let (ok, s) := s.judgeFrame f h i true
      (s.postSentinel f h i (!ok)).frameDone f

/-- SENTINEL_RECEIVED: the express engine takes the frame that ended first. A frame of another type on a SENT tap goes on as
any received frame does. -/
def State.sentinelReceived (s : State) : State :=
  match s.mac.express with
  | [] => s.sentinelBatch
  | f :: r =>
    if !s.works 0x10 then s
    else
      let s := { s with mac := { s.mac with express := r } }
      if s.foreign f.psdu then s.dropForeign f
      else match parseMhr f.psdu with
        | none => s
        | some h =>
          if h.ftype ≠ ftSentinel then { s with mac := { s.mac with input := s.mac.input ++ [f] } }
          else match s.authenticate f h with
            | (none, s) => s
            | (some g, s) =>
              let i := g.node.getD 0
              let (ok, s) := s.judgeFrame g h i true
              (s.postSentinel g h i (!ok)).frameDone g

/-! ### Outcomes, seconds and overruns (R27, R233, R257) -/

/-- OUTCOME_DELIVERED: a final outcome whose frames have been processed reaches SCH, which plans anew in a later tick. -/
def State.outcomeDelivered (s : State) (e : Nat) : State := (s.deliver e).planLater

/-- DEVICE_SECOND. -/
def State.deviceSecond (s : State) : State := if s.live 0xD then s.ledgerSecond s.second else s

/-- A frame that ended in beat n waits at edge n + 2 or later. -/
def State.overdue (s : State) (b : Nat) : Bool := decide (2 ≤ beatDiff s.beat b)

/-- At an edge with SEC held, the frames that become MAC's work cannot pass SEC: they are dropped and counted (R63). -/
def State.dropHeld (s : State) : State :=
  if !s.isHeld 0x10 then s
  else
    let drop (f : RxFrame) : Bool := f.beat != s.beat && !s.worksOn 0x10 f.beat
    let work := s.mac.input.filter drop
    let s := { s with mac := { s.mac with input := s.mac.input.filter (fun f => !drop f) } }
    work.foldl (fun s f =>
      if s.foreign f.psdu then s.dropForeign f else (s.count SEC_HOLDDROP_COUNT).frameDone f) s

/-- The overruns of MAC, SEC and FWD at an edge (R27, R294). A frame is late once, at edge n + 2. -/
def State.frameOverruns (s : State) : State :=
  let late (b : Nat) := beatDiff s.beat b == 2
  let s := if s.mac.input.any (fun f => late f.beat) then (s.raise 168).overrunBit 9 else s
  let s := if (s.mac.input ++ s.mac.passed).any (fun f => late f.beat) then (s.raise 112).overrunBit 6 else s
  if s.fwd.input.any (fun f => late f.beat) then (s.raise 152).overrunBit 8 else s

/-! ### The commands -/

def execRxAuthDone (s : State) : Host.Outcome State Fault Refusal := .next s.rxAuthDone
def execUplinkReceived (s : State) : Host.Outcome State Fault Refusal := .next s.uplinkReceived
def execNodeackReceived (s : State) : Host.Outcome State Fault Refusal := .next s.nodeackReceived
def execJoinreqReceived (s : State) : Host.Outcome State Fault Refusal := .next s.joinreqReceived
def execSentinelReceived (s : State) : Host.Outcome State Fault Refusal := .next s.sentinelReceived
def execOutcomeDelivered (entry : Fin 2048) (s : State) : Host.Outcome State Fault Refusal := .next (s.outcomeDelivered entry.val)
def execDeviceSecond (s : State) : Host.Outcome State Fault Refusal := .next s.deviceSecond

end Sys2Proof.Machine
end

