-- ==== Sys2Proof/Machine/Security.lean ====
section
/-! DEFINITION. The security station (spec/11 R301 to R316): key commands, joins, the TRNG, jobs, image slots and campaigns. A key
command and a join command run to their end in the write that starts them (log entry 26). -/

namespace Sys2Proof.Machine

open Sys2Proof.Fields

def State.trngOk (s : State) : Bool := s.isSet SEC_TRNGSTAT_HEALTHY

/-! ### Key commands (R302 to R305) -/

def ksOk : Nat := 0
def ksBadWrap : Nat := 1
def ksNoKey : Nat := 2
def ksNoEntropy : Nat := 3
def ksBadSlot : Nat := 4

/-- The wrap in SEC_KEYDATA. -/
def State.keyData (s : State) : List Byte := wordsBytes ((List.range 6).map (fun w => s.fld (SEC_KEYDATA_WRAP w)))

/-- The key in SEC_KEYDATA under slot 1: a status or the key. -/
def State.unwrapped (s : State) : Nat × List Byte :=
  match s.key 1 with
  | none => (ksNoKey, [])
  | some k =>
    match keyUnwrap k s.keyData with
    | none => (ksBadWrap, [])
    | some v => (ksOk, v)

/-- A record exists (spec/08: 131,072 records). -/
def recordCount : Nat := 131072

/-- PROVISION. -/
def State.provision (s : State) (i : Nat) : Nat × State :=
  if recordCount ≤ i then (ksBadSlot, s)
  else
    let (st, k) := s.unwrapped
    if st ≠ ksOk then (st, s) else (ksOk, ((s.setNodeKey i 16 k).setNr i NR_JKV 1).noteMirror i)

/-- BKEYGEN. -/
def State.bkeyGen (s : State) (slot : Nat) : Nat × State :=
  if slot ≠ 2 ∧ slot ≠ 3 then (ksBadSlot, s)
  else if !s.trngOk then (ksNoEntropy, s)
  else let (k, s) := s.freshBytes 16; (ksOk, s.setKey slot k)

/-- BKEYIMPORT. -/
def State.bkeyImport (s : State) (slot : Nat) : Nat × State :=
  if slot ≠ 2 ∧ slot ≠ 3 then (ksBadSlot, s)
  else
    let (st, k) := s.unwrapped
    if st ≠ ksOk then (st, s) else (ksOk, s.setKey slot k)

/-- ERASE slot. -/
def State.eraseSlot (s : State) (slot : Nat) : Nat × State :=
  if slot = 0 ∨ 72 ≤ slot then (ksBadSlot, s) else (ksOk, s.eraseKey slot)

/-- The keys of a record are erased. -/
def State.eraseKeys (s : State) (i : Nat) : State :=
  let z := List.replicate 16 0#8
  ((((s.setNodeKey i 16 z).setNodeKey i 20 z).setNr i NR_JKV 0).setNr i NR_SKV 0).noteMirror i

/-- ERASE record keys. -/
def State.eraseRecord (s : State) (i : Nat) : Nat × State :=
  if recordCount ≤ i then (ksBadSlot, s) else (ksOk, s.eraseKeys i)

/-- GO of SEC_KEYCMD. -/
def State.keyGo (s : State) : State :=
  let slot := s.fld SEC_KEYARG_SLOT
  let i := s.fld SEC_KEYARG_INDEX
  let (st, s) := match s.fld SEC_KEYCMD_OP with
    | 1 => s.provision i
    | 2 => s.bkeyGen slot
    | 3 => s.bkeyImport slot
    | 4 => s.eraseSlot slot
    | _ => s.eraseRecord i
  (s.setFld SEC_KEYCMD_STATUS st).raise 169

/-- A pending-join entry goes, and the request of its JOINRESP with it. -/
def State.dropPend (s : State) (i : Nat) : State :=
  match s.sec.pendJ.find? (fun p => p.node == i) with
  | none => s
  | some p =>
    let s := { s with sec := { s.sec with pendJ := s.sec.pendJ.filter (fun q => q.node != i) } }
    match s.request p.req with
    | some r => if p.sk.isSome && r.kind == .joinResp && (r.state == .pending || r.state == .placed) then s.cancelReq r stCancelled else s
    | none => s

/-- What a FREE write does to the SEC part of a record (R304). -/
def State.freeKeys (s : State) (i : Nat) : State :=
  let s := { s with sec := { s.sec with joinReqs := tabErase i s.sec.joinReqs } }
  ((s.eraseKeys i).setNr i NR_PEND 0 |>.setNr i NR_GRACE 0).dropPend i

/-- A record becomes FREE (R229, R304): its keys go, and SCH squashes its tickets. -/
def State.freeRecord (s : State) (i : Nat) : State :=
  if s.nodeState i = nodeFree then s
  else (((s.setNr i NR_STATE nodeFree).freeKeys i).squashNode i).noteMirror i

/-! ### Joins (R306, R307) -/

/-- The status with which a join command for a record ends. -/
def State.joinStatus (s : State) (i : Nat) : Nat :=
  if !s.sec.joinReqs.any (fun p => p.1 == i) || s.nr i NR_JRUSED == 1 then 1
  else if s.nr i NR_JRREP = 1 then 2
  else if s.nr i NR_JKV = 0 ∨ s.nodeState i = nodeFree then 3
  else if !s.trngOk then 4
  else if !s.sec.pendJ.any (fun p => p.node == i) && decide (16 ≤ s.sec.pendJ.length) then 5
  else 0

/-- SK from the join key and both nonces (R306). -/
def sessionKey (jk : List Byte) (eui nn cn cellid kgen : Nat) : List Byte :=
  (hmacSha256 jk (ascii "SCSK" ++ leBytes 8 eui ++ leBytes 4 nn ++ leBytes 4 cn ++ leBytes 2 cellid ++ leBytes 1 kgen)).take 16

/-- How often a JOINRESP is tried: R316 sets it no limit. -/
def joinRetries : Nat := 2 ^ 32

/-- The JOINRESP request of a join command (R306). -/
def State.joinRequest (s : State) (i cn kgen owner : Nat) : Request where
  id := 0
  kind := .joinResp
  target := i
  lanes := []
  bank := s.fld SEC_JOINARG_BANK
  bofs := s.fld SEC_JOINARG_BOFS
  len := s.fld SEC_JOINARG_LEN
  ackReq := false
  retries := joinRetries
  earliest := none
  tag := 0
  queue := 0
  hasTag := false
  origin := owner
  insKind := 1
  insCamp := 0
  insOfs := 11
  pre := leBytes 2 (s.nr i NR_SHORT) ++ leBytes 4 cn ++ leBytes 4 (s.nr i NR_NNONCE) ++ leBytes 1 kgen ++ List.replicate 16 0#8
  after := ((s.sec.joinReqs.find? (fun p => p.1 == i)).map (·.2)).getD (s.sfSecond s.tim.ts)
  left := 0
  done := 0
  state := .pending
  replan := false
  attempt := 0
  try_ := 0
  tries := 0
  tx := none
  rx := none
  final := none

/-- The pending entry of a join: a new one, or the SK of the one that stands. -/
def State.setPend (s : State) (i req : Nat) (sk : List Byte) : State :=
  if s.sec.pendJ.any (fun p => p.node == i) then s.upPend i (fun p => { p with sk := some sk, req := req, fcnt := 0 })
  else { s with sec := { s.sec with pendJ := s.sec.pendJ ++ [⟨i, some sk, req, 0, none, 0⟩] } }

/-- The earlier JOINRESP request of a record with a join pending is cancelled (R307). -/
def State.cancelJoin (s : State) (i : Nat) : State :=
  match s.sec.pendJ.find? (fun p => p.node == i && p.sk.isSome) with
  | none => s
  | some p =>
    match s.request p.req with
    | some r => if r.state == .pending || r.state == .placed then s.cancelReq r stCancelled else s
    | none => s

/-- A join command that ends OK (R230, R306), before SCH plans. -/
def State.joinOk (s : State) (i owner : Nat) : State :=
  let (cn, s) := s.fresh
  let cn := cn % 2 ^ 32
  let kgen := (s.nr i NR_KGEN + 1) % 256
  let s := s.setNr i NR_KGEN kgen
  let sk := sessionKey (s.joinKey i) (s.eui i) (s.nr i NR_NNONCE) cn s.mac.cellid kgen
  let s := s.cancelJoin i
  let s := ((s.setNr i NR_JRUSED 1).setNr i NR_PEND 1).setNr i NR_STATE nodeActive
  let s := (s.setPend i s.sch.nextReq sk).noteMirror i
  (s.pushRequest (s.joinRequest i cn kgen owner)).raise 113 i

/-- GO of SEC_JOINCMD by an owner. -/
def State.joinGo (s : State) (owner : Nat) : State :=
  let i := s.fld SEC_JOINCMD_INDEX
  let st := s.joinStatus i
  let s := if st = 0 then s.joinOk i owner else s
  (s.setFld SEC_JOINCMD_STATUS st).raise 170 i

/-- A superframe start passes for a previous key; at the third GRACE clears, and an entry with no join pending frees. -/
def State.graceStep (s : State) (p : PendJoin) : State :=
  if p.prev.isNone && p.left == 0 then s
  else if 1 < p.left then s.upPend p.node (fun q => { q with left := q.left - 1 })
  else
    let s := (s.setNr p.node NR_GRACE 0).noteMirror p.node
    if p.sk.isSome then s.upPend p.node (fun q => { q with prev := none, left := 0 })
    else { s with sec := { s.sec with pendJ := s.sec.pendJ.filter (fun q => q.node != p.node) } }

/-- The superframe starts of all previous keys but the last one, which is GRACE_EXPIRY. -/
def State.graceCount (s : State) : State :=
  (s.sec.pendJ.filter (fun p => decide (1 < p.left))).foldl (fun s p => s.graceStep p) s

/-- GRACE_EXPIRY: the previous keys for which two superframe starts have passed end with the third. -/
def State.graceExpiry (s : State) : State :=
  (s.sec.pendJ.filter (fun p => p.left == 1)).foldl (fun s p => s.graceStep p) s

/-- The beacon key of the next superframe comes into force (R302). -/
def State.bkeySwitch (s : State) : State :=
  if s.fld SEC_BKEY_CUR = s.fld SEC_BKEY_NEXT then s else (s.setFld SEC_BKEY_CUR (s.fld SEC_BKEY_NEXT)).raise 180

/-! ### TRNG (R308) -/

/-- A campaign returns to IDLE with a cause, and its key is erased. -/
def State.campToIdle (s : State) (k cause : Nat) : State :=
  (((s.setFld (SEC_CAMPSTAT_STATE k) 0).setFld (SEC_CAMPSTAT_CAUSE k) cause).eraseKey (4 + k)).raise 176

/-- TRNG_HEALTH_FAIL. -/
def State.trngFail (s : State) : State :=
  let s := ((s.setFld SEC_TRNGSTAT_HEALTHY 0).count SEC_TRNGSTAT_FAILS).raise 172
  (List.range 4).foldl (fun s k => if s.fld (SEC_CAMPSTAT_STATE k) = 1 then s.campToIdle k 2 else s) s

/-- RETEST and TRNG_RECOVER: the tests pass. -/
def State.trngHeal (s : State) : State := s.setFld SEC_TRNGSTAT_HEALTHY 1

/-- A read of SEC_TRNG. -/
def State.trngRead (s : State) : Word × State :=
  if s.trngOk then let (v, s) := s.fresh; (BitVec.ofNat 32 v, s) else (0, s)

/-! ### Jobs (R293) -/

/-- Octets of a mailbox. -/
def mailAddr (m ofs : Nat) : Nat := 0xC1000 + 256 * m + ofs
def State.mail (s : State) (m ofs n : Nat) : List Byte :=
  ((List.range (n / 4 + 1)).flatMap (fun w => leBytes 4 (s.get (mailAddr m (ofs + 4 * w))).toNat)).take n
def State.putMail (s : State) (m : Nat) (bs : List Byte) : State :=
  (List.range (bs.length / 4)).foldl (fun s w => s.put (mailAddr m (4 * w)) (BitVec.ofNat 32 (imgWord bs (4 * w)))) s

/-- A mailbox's job is queued or running. -/
def State.mailBusy (s : State) (m : Nat) : Bool := s.sec.jobs.any (fun j => j.mbox == m)

/-- PUSH of SEC_JOBCTL. -/
def State.jobPush (s : State) : State :=
  if 16 ≤ s.sec.jobs.length then s.count SEC_JOBSTAT_REFUSED
  else
    let j : Job := { op := s.fld SEC_JOBD0_OP, tag := s.fld SEC_JOBD0_TAG, mbox := s.fld SEC_JOBD0_MBOX,
                     slot := s.fld SEC_JOBD0_KEYSLOT, len := s.fld SEC_JOBD1_LEN }
    { s with sec := { s.sec with jobs := s.sec.jobs ++ [j] } }

/-- POP of SEC_JOBCTL. -/
def State.jobPop (s : State) : State := { s with sec := { s.sec with results := s.sec.results.tail } }

/-- A job's status, and what it writes. -/
def State.runJob (s : State) (j : Job) : Nat × State :=
  let be ofs := be32At (s.mail j.mbox 0 256) ofs
  match j.op with
  | 1 => if 248 < j.len then (3, s) else (0, s.putMail j.mbox (sha256 (s.mail j.mbox 0 j.len)))
  | 2 => if 216 < j.len then (3, s) else (0, s.putMail j.mbox (hmacSha256 (s.mail j.mbox 0 32) (s.mail j.mbox 32 j.len)))
  | 3 =>
    if !onCurve (be 32) (be 64) then (2, s)
    else if ecdsaVerify (be 32) (be 64) (be 96) (be 128) (s.mail j.mbox 0 32) then (0, s) else (1, s)
  | _ =>
    if !onCurve (be 0) (be 32) then (2, s)
    else if !s.trngOk then (4, s)
    else
      let z := ecdhX Config.touchmark.toNat (be 0) (be 32)
      (0, s.setKey j.slot ((sha256 (z ++ s.mail j.mbox 64 8)).take 16))

/-- JOB_DONE: the oldest job ends and its result enters the FIFO, where it has a place (log entry 27). -/
def State.jobDone (s : State) : State :=
  match s.sec.jobs with
  | [] => s
  | j :: r =>
    if 16 ≤ s.sec.results.length ∨ !s.live 0x10 then s
    else
      let (st, s) := s.runJob j
      let first := s.sec.results.isEmpty
      let s := { s with sec := { s.sec with jobs := r, results := s.sec.results ++ [(j.tag, st)] } }
      if first then s.raise 171 else s

/-! ### Node images (R309, R310) -/

/-- A campaign that is not IDLE uses an image slot. -/
def State.imageUsed (s : State) (i : Nat) : Bool :=
  (List.range 4).any (fun k => s.fld (SEC_CAMPSTAT_STATE k) != 0 && s.fld (SEC_CAMPCFG_IMG k) == i)

/-- A slot is rejected with a cause. -/
def State.imageReject (s : State) (i cause : Nat) : State :=
  ((s.setFld (SEC_IMGSTAT_STATE i) 3).setFld (SEC_IMGSTAT_CAUSE i) cause).raise 174

/-- LOAD of SEC_IMGiCFG. -/
def State.imageLoad (s : State) (i : Nat) : State :=
  if s.imageUsed i then s.imageReject i 6
  else (s.setFld (SEC_IMGSTAT_STATE i) 1).setFld (SEC_IMGSTAT_CAUSE i) 0

/-- The header of an image is well formed. -/
def imageHeaderOk (h : List Byte) : Bool :=
  imgWord h 0 == 0x474D494E && ((h.drop 0x10).take 44).all (· == 0#8) && imgWord h 0x3C == crc32 (h.take 0x3C)

/-- The cause with which an image is rejected; 0 where it is valid. -/
def imageCause (bs : List Byte) : Nat :=
  let len := imgWord bs 4
  if !imageHeaderOk (bs.take 0x40) then 3
  else if len % 8 ≠ 0 ∨ 0x100000 < len ∨ len < 0x40 + hallmarkLen then 2
  else
    let ofs := len - hallmarkLen
    let h := (bs.drop ofs).take hallmarkLen
    if !hallmarkOk h then 3
    else match checkHallmark (readHallmark h) (imageDigest bs ofs) with
      | .ok => 0
      | .endorse => 5
      | .signature => 4

/-- IMAGE_VERIFY_DONE. An uncorrectable word fails like a bank that SEC does not own (R400). -/
def State.imageVerified (s : State) (i : Nat) : State :=
  if s.fld (SEC_IMGSTAT_STATE i) ≠ 1 then s
  else
    let b := s.fld (SEC_IMGCFG_FIRSTBANK i)
    if !(List.range 9).all (fun k => s.mayAccess ownSec (b + k)) then s.imageReject i 1
    else
      let (ok, s) := s.readSpan ownSec (b * bankSize) 0x100000
      let bs := s.cells (b * bankSize) 0x100000
      let c := if ok then imageCause bs else 1
      if c ≠ 0 then s.imageReject i c
      else
        let s := (s.setFld (SEC_IMGLEN_LEN i) (imgWord bs 4)).setFld (SEC_IMGVER_FWVER i) (imgWord bs 8)
        (s.setFld (SEC_IMGSTAT_STATE i) 2).raise 173

/-- DROP of SEC_IMGiCFG. -/
def State.imageDrop (s : State) (i : Nat) : State :=
  let s := (s.setFld (SEC_IMGSTAT_STATE i) 0).setFld (SEC_IMGSTAT_CAUSE i) 0
  (s.setFld (SEC_IMGLEN_LEN i) 0).setFld (SEC_IMGVER_FWVER i) 0

/-! ### Campaigns (R311 to R315) -/

def stIdle : Nat := 0
def campPreparing : Nat := 1
def campReady : Nat := 2
def campActive : Nat := 3
def campPaused : Nat := 4

def State.camp (s : State) (k : Nat) : Nat := s.fld (SEC_CAMPSTAT_STATE k)

/-- A campaign changes its state. -/
def State.setCamp (s : State) (k st : Nat) : State := (s.setFld (SEC_CAMPSTAT_STATE k) st).raise 176

/-- T of a campaign in octets (R311). -/
def State.symbolSize (s : State) (k : Nat) : Nat := 16 * (64 * s.fld (SEC_CAMPCFG_TDIVHI k) + s.fld (SEC_CAMPTDIV_TDIVLO k))

/-- The counter of a campaign returns to 0 under a new identity, and its lease ingot is to be written (R298, R311). -/
def State.resetCampCounter (s : State) (k : Nat) : State :=
  let key : LeaseKey := .camp k
  let s := { s with cru := { s.cru with
    queue := s.cru.queue.filter (fun (q : QIngot) => (q.lease.map (fun (l : LeaseKey × Nat) => l.1)) != some key)
    waiting := s.cru.waiting.filter (fun (p : LeaseKey × Nat) => p.1 != key)
    written := s.cru.written.filter (fun (p : LeaseKey × Nat) => p.1 != key) } }
  let s := { s with sch := { s.sch with exhausted := s.sch.exhausted.erase key.code } }
  let s := (s.setLeaseBase key 0).setHeld key 0
  (s.setFld (SEC_CAMPSTAT_EXHAUSTED k) 0).queueLease key 0

/-- The intermediate symbols take the five banks after an image slot's four (R309, R311). Their code is RFC 6330's, and what the banks
come to hold is free (log entry 19). -/
def State.putSymbols (s : State) (i : Nat) : State :=
  (List.range 5).foldl (fun s k =>
    let b := s.fld (SEC_IMGCFG_FIRSTBANK i) + 4 + k
    if s.mayAccess ownSec b then
      let (v, s) := s.freshBytes bankSize
      (s.bankWrite ownSec (b * bankSize) v).2
    else s) s

/-- PREPARE of a campaign in IDLE. -/
def State.campPrepare (s : State) (k : Nat) : State :=
  let i := s.fld (SEC_CAMPCFG_IMG k)
  let t := s.symbolSize k
  let n := (s.fld (SEC_IMGLEN_LEN i) + t - 1) / t
  if s.fld (SEC_IMGSTAT_STATE i) ≠ 2 then s.setFld (SEC_CAMPSTAT_CAUSE k) 3
  else if 56403 < n then s.setFld (SEC_CAMPSTAT_CAUSE k) 1
  else
    let s := (s.setFld (SEC_CAMPSTAT_CAUSE k) 0).setCamp k campPreparing
    if !s.trngOk then s.campToIdle k 2
    else
      let (lo, s) := s.fresh
      let (hi, s) := s.fresh
      let (key, s) := s.freshBytes 16
      let s := ((s.setFld (SEC_CAMPIDLO_ID k) lo).setFld (SEC_CAMPIDHI_ID k) hi).setKey (4 + k) key
      ((s.resetCampCounter k).setFld (SEC_CAMPK_K k) n).putSymbols i

/-- CAMP_PREPARE_DONE: the intermediate symbols are computed, and the lease ingot has been written. -/
def State.campPrepared (s : State) (k : Nat) : State :=
  let key : LeaseKey := .camp k
  if s.camp k ≠ campPreparing ∨ s.cru.queue.any (fun q => (q.lease.map (fun (l : LeaseKey × Nat) => l.1)) == some key) then s
  else (s.setCamp k campReady).raise 175

/-- The broadcast requests of a campaign that is no longer ACTIVE end, and its planned tickets are squashed. -/
def State.endBroadcasts (s : State) (k cause : Nat) : State :=
  let rs := s.sch.reqs.filter (fun r => r.kind == .broadcast && r.target == k && (r.state == .pending || r.state == .placed))
  let s := rs.foldl (fun s r => s.endReq r stPaused none) s
  let ids := rs.map (·.id)
  s.squash cause (fun _ t => match t.req with
    | some q => ids.contains q.1
    | none => false)

/-- The bits of SEC_CAMPkCTL that a state has an exit for: PREPARE, START, PAUSE, END from bit 0 on (R313). -/
def campExits (st : Nat) : Nat :=
  match st with
  | 0 => 0b1001
  | 2 => 0b1010
  | 3 => 0b1100
  | 4 => 0b1010
  | _ => 0b1000

/-- END. -/
def State.campEnd (s : State) (k : Nat) : State :=
  if s.camp k = stIdle then s.eraseKey (4 + k)
  else ((s.endBroadcasts k cCancel).eraseKey (4 + k)).setCamp k stIdle

/-- PAUSE. -/
def State.campPause (s : State) (k : Nat) : State := (s.setCamp k campPaused).endBroadcasts k cCancel

/-- A write of SEC_CAMPkCTL whose bits all have an exit. END wins over the others (log entry 28). -/
def State.campCtl (s : State) (k w : Nat) : State :=
  if w.testBit 3 then s.campEnd k
  else if w.testBit 2 then s.campPause k
  else if w.testBit 1 then (s.setCamp k campActive).plan
  else if w.testBit 0 then s.campPrepare k
  else s

/-- WAIT, DONE and FAIL of a campaign (R315). -/
def State.campWait (s : State) (k : Nat) : Nat := s.countProgress k [1, 2]
def State.campDone (s : State) (k : Nat) : Nat := s.countProgress k [3, 4]
def State.campFail (s : State) (k : Nat) : Nat := s.countProgress k [5]

/-- A write of PSTATE or CAMP that lets the WAIT count of an ACTIVE campaign fall to 0 (R315). -/
def State.noteComplete (s old : State) : State :=
  (List.range 4).foldl (fun s k =>
    if s.camp k = campActive ∧ old.campWait k ≠ 0 ∧ s.campWait k = 0 then s.raise 178 else s) s

/-! ### Function reset (R63, R314, R316) -/

/-- SEC's function reset beside its registers: pending joins go, and campaigns change as R314 says. -/
def State.secReset (s : State) : State :=
  let s := s.sec.pendJ.foldl (fun s p => ((s.setNr p.node NR_PEND 0).setNr p.node NR_GRACE 0).dropPend p.node) s
  let s := { s with sec := { s.sec with jobs := [], results := [] } }
  (List.range 4).foldl (fun s k =>
    if s.camp k = campPreparing then s.campToIdle k 4
    else if s.camp k = campActive then (s.setCamp k campPaused).endBroadcasts k cReset
    else s) s

/-! ### The commands that are no register write -/

def execGraceExpiry (s : State) : Host.Outcome State Fault Refusal := .next (if s.live 0x10 then s.graceExpiry else s)
def execTrngHealthFail (s : State) : Host.Outcome State Fault Refusal := .next (if s.trngOk then s.trngFail else s)
def execTrngRecover (s : State) : Host.Outcome State Fault Refusal := .next s.trngHeal
def execJobDone (s : State) : Host.Outcome State Fault Refusal := .next s.jobDone
def execImageVerifyDone (slot : Fin 4) (s : State) : Host.Outcome State Fault Refusal := .next (s.imageVerified slot.val)
def execCampPrepareDone (camp : Fin 4) (s : State) : Host.Outcome State Fault Refusal := .next (s.campPrepared camp.val)

end Sys2Proof.Machine
end

