-- ==== Sys2Proof/Machine/Roam.lean ====
section
/-! DEFINITION. Roaming, standby and alarms (spec/12 R322, R327 to R336): handovers, the mirror, takeover and demotion, and express
alarms between peers. -/

namespace Sys2Proof.Machine

open Sys2Proof.Fields

/-! ### Handover: the target (R327, R329, R330) -/

def hoOk : Nat := 0
def hoUnknown : Nat := 1
def hoNotServing : Nat := 2
def hoPendJoin : Nat := 3
def hoNoKey : Nat := 4
def hoBusy : Nat := 5
def hoGeometry : Nat := 6
def hoBadTarget : Nat := 7
def hoTimeout : Nat := 8
def hoPeerDown : Nat := 9

/-- The local record and its node entry are ready for a handover of an EUI. -/
def State.hoReady (s : State) (i eui : Nat) : Bool :=
  s.nodeState i == nodeFree && s.entryValid 0 i && (s.nodeKeyOf i).1 == eui

/-- GO of PLK_HOCMD, op PULL. A peer that is not KEYED ends the command at once (log entry 29). -/
def State.hoPull (s : State) : State :=
  let p := s.fld PLK_HOCMD_PEER
  let i := s.fld PLK_HOIDX_INDEX
  let eui := s.fld PLK_HOEUI_HI_EUI * 2 ^ 32 + s.fld PLK_HOEUI_LO_EUI
  let st := (s.peer p).st
  if st ≠ peerKeyed then s.endPull (if st = peerMismatch then hoGeometry else hoPeerDown)
  else if recordCount ≤ i ∨ !s.hoReady i eui then s.endPull hoBadTarget
  else
    let s := { s with plk := { s.plk with pull := some (p, i, eui) } }
    (s.setFld PLK_HOCMD_BUSY 1).sendRel p uplHoReq [eui % 2 ^ 32, eui / 2 ^ 32]

/-- A counter becomes the greater of its own value and another one. -/
def State.liftCounter (s : State) (k : LeaseKey) (v : Nat) : State :=
  if s.nextValue k < v then s.raiseCounter k (min v 0xFFFFFFFF) else s

/-- The record of an HO-XFER is written with its unwrapped keys (R329). -/
def State.installRecord (s : State) (i : Nat) (r : HoRecord) (jk sk : List Byte) : State :=
  let s := ((s.liftCounter (.acc i) r.acc.toNat).liftCounter (.dn i) r.dn.toNat).liftCounter (.join i) r.join.toNat
  let s := s.setNr i NR_PENDCTR (max (s.nr i NR_PENDCTR) r.acc.toNat)
  let s := ((s.setNodeKey i 16 jk).setNodeKey i 20 sk).setNr i NR_KGEN r.kgen.toNat
  let s := (s.setNr i NR_JKV 1).setNr i NR_SKV 1
  let s := (s.setNr i NR_EUI_LO r.eui.toNat).setNr i NR_EUI_HI (r.eui.toNat / 2 ^ 32)
  let s := ((s.setNr i NR_DCLASS r.dclass.toNat).setNr i NR_ROUTER (if r.router then 1 else 0)).setNr i NR_FWVER r.fwver.toNat
  ((s.setLastRx i r.lastRx.toNat).setNr i NR_STATE nodeActive).noteMirror i

/-- HO_XFER_RECEIVED. A repeat of a transfer that has ended OK is acknowledged again; any other that no command awaits is
answered BADTARGET (log entry 29). -/
def State.hoXfer (s : State) (u : UplIn) (r : HoRecord) : State :=
  let p := u.peer.val
  let (ok, s) := s.acceptUpl u
  if !ok then s
  else match s.plk.pull with
    | some (q, i, eui) =>
      if q ≠ p ∨ eui ≠ r.eui.toNat then s.sendUpl p uplHoNak [hoBadTarget]
      else
        let s := s.dropRel p uplHoReq
        let kek := (s.key (8 + p)).getD []
        match s.hoReady i eui, keyUnwrap kek r.jkWrap, keyUnwrap kek r.skWrap with
        | true, some jk, some sk =>
          let s := s.installRecord i r jk sk
          let s := { s with plk := { s.plk with pulled := some (p, eui) } }
          (((s.sendUpl p uplHoAck []).raise 191 i).endPull hoOk).plan
        | _, _, _ => (s.sendUpl p uplHoNak [hoBadTarget]).endPull hoBadTarget
    | none =>
      if s.plk.pulled = some (p, r.eui.toNat) then s.sendUpl p uplHoAck [] else s.sendUpl p uplHoNak [hoBadTarget]

/-! ### Handover: the source (R328, R330) -/

/-- Why the source refuses a request; 0 where it serves it. -/
def State.hoRefusal (s : State) (p : Nat) : Option Nat → Nat
  | none => hoUnknown
  | some i =>
    if s.nodeState i = nodeFree ∨ s.nodeState i = nodeProvisioned then hoNotServing
    else if s.nr i NR_PEND = 1 then hoPendJoin
    else if s.nr i NR_SKV = 0 then hoNoKey
    else if (s.peer p).st ≠ peerKeyed then hoGeometry
    else 0

/-- The transfer record of a node. -/
def State.snapshot (s : State) (p i : Nat) : Snapshot where
  peer := p
  idx := i
  eui := s.eui i
  dclass := s.nr i NR_DCLASS
  router := s.nr i NR_ROUTER == 1
  lastRx := s.lastRx i
  acc := max (s.nextValue (.acc i)) (s.nr i NR_PENDCTR)
  dn := s.nextValue (.dn i)
  join := s.nextValue (.join i)
  kgen := s.nr i NR_KGEN
  fwver := s.nr i NR_FWVER
  jk := s.joinKey i
  sk := s.sessKey i

/-- The values of an HO-XFER; its keys are wrapped under the pair's key. -/
def Snapshot.values (x : Snapshot) (kek : List Byte) : List Nat :=
  [x.eui, x.dclass, if x.router then 1 else 0, x.lastRx, x.acc, x.dn, x.join, x.kgen, x.fwver]
    ++ (keyWrap kek x.jk).map (·.toNat) ++ (keyWrap kek x.sk).map (·.toNat)

/-- The source serves the oldest request, where no transfer is in progress. -/
def State.hoServe (s : State) : State :=
  match s.plk.transfer, s.plk.hoQueue with
  | none, (p, eui) :: r =>
    let s := { s with plk := { s.plk with hoQueue := r } }
    let n := s.nodeByEui eui
    let c := s.hoRefusal p n
    if c ≠ 0 then s.sendUpl p uplHoNak [c]
    else
      let x := s.snapshot p (n.getD 0)
      let s := s.freeRecord x.idx
      let s := { s with plk := { s.plk with transfer := some x } }
      s.sendRel p uplHoXfer (x.values ((s.key (8 + p)).getD []))
  | _, _ => s

/-- Requests are served until one transfer is in progress. -/
def State.hoServeAll (s : State) : Nat → State
  | 0 => s
  | n + 1 => (s.hoServe).hoServeAll n

/-- HO_REQ_RECEIVED. A repeat of a request that waits or is being served is not queued again (log entry 29). -/
def State.hoReq (s : State) (u : UplIn) (eui : Nat) : State :=
  let p := u.peer.val
  let (ok, s) := s.acceptUpl u
  if !ok then s
  else if s.plk.hoQueue.contains (p, eui) || s.plk.transfer.any (fun x => x.peer == p && x.eui == eui) then s
  else if 16 ≤ s.plk.hoQueue.length then s.sendUpl p uplHoNak [hoBusy]
  else { s with plk := { s.plk with hoQueue := s.plk.hoQueue ++ [(p, eui)] } }.hoServeAll 17

/-- HO_ACK_RECEIVED. -/
def State.hoAck (s : State) (u : UplIn) : State :=
  let p := u.peer.val
  let (ok, s) := s.acceptUpl u
  if !ok || !s.plk.transfer.any (fun x => x.peer == p) then s
  else
    let s := { s with plk := { s.plk with transfer := none } }
    ((s.dropRel p uplHoXfer).raise 192).hoServeAll 16

/-- The transfer at the source fails, and the next request is served. -/
def State.hoFailSource (s : State) (p : Nat) : State :=
  if s.plk.transfer.any (fun x => x.peer == p) then s.failTransfer.hoServeAll 16 else s

/-- HO_NAK_RECEIVED: BADTARGET answers an HO-XFER, every other status an HO-REQ. -/
def State.hoNak (s : State) (u : UplIn) (status : Nat) : State :=
  let p := u.peer.val
  let (ok, s) := s.acceptUpl u
  if !ok then s
  else if status = hoBadTarget then (s.dropRel p uplHoXfer).hoFailSource p
  else if s.plk.pull.any (fun x => x.1 == p) then (s.dropRel p uplHoReq).endPull status
  else s

/-- A snapshot is restored into its record, where that is still FREE with the same EUI (R330). -/
def State.restoreSnapshot (s : State) (x : Snapshot) : State :=
  let i := x.idx
  let s :=
    if s.nodeState i = nodeFree ∧ s.eui i = x.eui then
      let s := ((s.setNodeKey i 16 x.jk).setNodeKey i 20 x.sk).setNr i NR_KGEN x.kgen
      let s := ((s.setNr i NR_JKV 1).setNr i NR_SKV 1).liftCounter (.acc i) x.acc
      ((s.setLastRx i x.lastRx).setNr i NR_STATE nodeAdrift).noteMirror i
    else s
  (s.count PLK_HOFAIL_COUNT).raise 193

/-- The restores of a superframe start. -/
def State.restoreSnapshots (s : State) : State :=
  let l := s.plk.restores
  l.foldl (fun s x => s.restoreSnapshot x) { s with plk := { s.plk with restores := [] } }

/-! ### Reliable messages (R322) -/

/-- UPL_RETRANSMIT: the message goes out again under a new CTR, on the other port where it can. A message to a peer that is
being keyed waits. -/
def State.uplAgain (s : State) (p ty : Nat) : State :=
  match s.plk.rel.find? (fun r => r.peer == p && r.ty == ty && decide (r.sent < 4)) with
  | none => s
  | some r =>
    if !(s.peer p).keyed then s
    else
      let s := match s.portFor p (1 - r.port) with
        | some q => if r.sent = 0 then s.sendOn q p ty r.ws else (s.sendOn q p ty r.ws).count PLK_RETX_COUNT
        | none => s
      let r' : Rel := { r with sent := r.sent + 1, ts := s.tim.ts, port := (s.portFor p (1 - r.port)).getD r.port }
      { s with plk := { s.plk with rel := s.plk.rel.map (fun x => if x = r then r' else x) } }

/-- UPL_TIMEOUT: a message has had no answer after its fourth sending. -/
def State.uplTimeout (s : State) (p ty : Nat) : State :=
  match s.plk.rel.find? (fun r => r.peer == p && r.ty == ty && decide (4 ≤ r.sent)) with
  | none => s
  | some r =>
    let s := { s with plk := { s.plk with rel := s.plk.rel.erase r } }
    if ty = uplHoReq then (if s.plk.pull.any (fun x => x.1 == p) then s.endPull hoTimeout else s)
    else if ty = uplHoXfer then s.hoFailSource p
    else s

/-! ### Mirror (R332) -/

/-- The values of a record's mirror entry. -/
def State.mirrorEntry (s : State) (p i : Nat) : List Nat :=
  let kek := (s.key (8 + p)).getD []
  [i] ++ (List.range 16).map (fun w => (s.nodeWord i w).toNat) ++ (List.range 7).map (fun w => (s.nodeWord i (24 + w)).toNat)
    ++ (if s.plk.rekeyed.contains i then (keyWrap kek (s.joinKey i) ++ keyWrap kek (s.sessKey i)).map (·.toNat) else [])

/-- The beacon keys and NEXT as they are. -/
def State.beaconKeys (s : State) : List Byte × List Byte × Nat := ((s.key 2).getD [], (s.key 3).getD [], s.fld SEC_BKEY_NEXT)

/-- The ledger buckets of a second, as band group, entry, second and µs. -/
def State.bucketValues (s : State) (t : Nat) : List Nat :=
  allLedgers.flatMap (fun x => if s.isSet (L_VALID x.1 x.2) then [x.1, x.2, t, s.bucket x.1 x.2 t] else [])

/-- The MIRROR of a beat: changed records, changed beacon keys, beacon counters, and at a superframe start the buckets of the
last whole second. -/
def State.sendMirror (s : State) (first : Bool) : State :=
  match s.partner with
  | none => s
  | some p =>
    if s.fld PLK_SBSTAT_ROLE ≠ 1 then s
    else
      let kek := (s.key (8 + p)).getD []
      let bk := s.beaconKeys
      let keys := if s.plk.mirrored = some bk then []
        else (keyWrap kek bk.1 ++ keyWrap kek bk.2.1).map (·.toNat) ++ [bk.2.2]
      let ws := s.plk.changed.flatMap (s.mirrorEntry p) ++ keys ++ (List.range 4).map (fun n => s.nextValue (.beacon n))
        ++ (if first then s.bucketValues (s.second - 1) else [])
      let s := { s with plk := { s.plk with changed := [], rekeyed := [], mirrored := some bk } }
      s.sendRel p uplMirror ws

/-- A mirrored entry is written into the standby's record. Counters move under their leases. -/
def State.mirrorWrite (s : State) (p : Nat) (r : MirrorRec) : State :=
  let i := r.idx.toNat
  let kek := (s.key (8 + p)).getD []
  let lo k := (r.lo.getD k 0)
  let hi k := (r.hi.getD k 0)
  let s := ([0, 1, 2, 3, 4, 5, 7, 8, 9, 10, 11, 12, 13, 14, 15]).foldl (fun s k => s.setNodeWord i k (lo k)) s
  let s := ([2, 3, 4, 5, 6]).foldl (fun s k => s.setNodeWord i (24 + k) (hi k)) s
  let s := ((s.liftCounter (.acc i) (lo 6).toNat).liftCounter (.dn i) (hi 0).toNat).liftCounter (.join i) (hi 1).toNat
  match r.keys with
  | none => s
  | some (jw, sw) =>
    match keyUnwrap kek jw, keyUnwrap kek sw with
    | some jk, some sk => (s.setNodeKey i 16 jk).setNodeKey i 20 sk
    | _, _ => s

/-- What a MIRROR carries beside records. -/
def State.mirrorRest (s : State) (p : Nat) (m : MirrorRest) : State :=
  let kek := (s.key (8 + p)).getD []
  let s := match m.keys with
    | none => s
    | some (a, b, nx) =>
      let s := match keyUnwrap kek a with
        | some k => s.setKey 2 k
        | none => s
      let s := match keyUnwrap kek b with
        | some k => s.setKey 3 k
        | none => s
      s.setFld SEC_BKEY_NEXT (if nx then 1 else 0)
  let s := (List.range 4).foldl (fun s n => s.liftCounter (.beacon n) (m.beacon.getD n 0).toNat) s
  m.buckets.foldl (fun s x =>
    let l := s.ledger (ledgerNo x.1.val x.2.1.val)
    s.setLedger (ledgerNo x.1.val x.2.1.val) { l with buckets := tabSet 0 x.2.2.1.toNat x.2.2.2.toNat l.buckets }) s

/-- MIRROR_RECEIVED. -/
def State.mirrorReceived (s : State) (u : UplIn) (recs : List MirrorRec) (rest : MirrorRest) : State :=
  let p := u.peer.val
  let (ok, s) := s.acceptUpl u
  if !ok || !s.standby || s.partner != some p then s
  else
    let s := recs.foldl (fun s r => s.mirrorWrite p r) s
    let s := s.mirrorRest p rest
    let s := { s with plk := { s.plk with lastMirror := some s.beat } }
    s.sendUpl p uplMirrorAck []

/-- MIRROR_ACK_RECEIVED; LAG falls once no MIRROR waits. -/
def State.mirrorAck (s : State) (u : UplIn) : State :=
  let (ok, s) := s.acceptUpl u
  if !ok then s
  else
    let s := s.dropRel u.peer.val uplMirror
    if s.plk.rel.any (fun r => r.ty == uplMirror) then s else s.setFld PLK_SBSTAT_LAG 0

/-- MIRROR_LAG. -/
def State.mirrorLag (s : State) : State :=
  if s.plk.rel.any (fun r => r.ty == uplMirror) && !s.isSet PLK_SBSTAT_LAG then (s.setFld PLK_SBSTAT_LAG 1).raise 196 else s

/-! ### Takeover and demotion (R331, R333 to R335) -/

/-- The role in force follows PLK_SBCFG.ROLE when that is written. -/
def State.setRole (s : State) (r : Nat) : State :=
  let s := if s.standby && r != 2 then { s with sch := { s.sch with resume := s.beating } } else s
  let s := s.setFld PLK_SBSTAT_ROLE r
  if r = 2 then s.squashWith cMode true s.pastCommit (fun _ t => t.state == tkPlanned) else s

/-- With FENCE a port with link that has heard the partner within SILENCE stands against a takeover (R333, log entry 30). -/
def State.silenceFenced (s : State) (p : Nat) : Bool :=
  s.isSet PLK_SBCFG_FENCE && [0, 1].any (fun q =>
    s.portUp q && s.within (if q = 0 then (s.peer p).heard0 else (s.peer p).heard1) (s.fld PLK_SBCFG_SILENCE * (ticksPerSecond / 2)))

/-- PARTNER_SILENCE: a takeover is due at the next superframe start. -/
def State.partnerSilent (s : State) : State :=
  match s.partner with
  | some p => if s.standby && !s.silenceFenced p then { s with plk := { s.plk with due := true } } else s
  | none => s

/-- How far a takeover moves the counters (R334): 4 × b + 512. Where no MIRROR has been accepted the spec gives b no value:
it is a free value (log entry 30). -/
def State.takeoverStep (s : State) : Nat × State :=
  match s.plk.lastMirror with
  | some m => (4 * (beatDiff s.beat m).toNat + 512, s)
  | none => let (v, s) := s.fresh; (4 * v + 512, s)

/-- The takeover of a standby whose partner is silent. -/
def State.takeOver (s : State) : State :=
  let (d, s) := s.takeoverStep
  let s := s.records.foldl (fun s i =>
    let s := (s.liftCounter (.dn i) (s.nextValue (.dn i) + d)).liftCounter (.join i) (s.nextValue (.join i) + d)
    s.liftCounter (.acc i) (max (s.nextValue (.acc i)) (s.nr i NR_PENDCTR) + 256)) s
  let s := (List.range 4).foldl (fun s n => s.liftCounter (.beacon n) (s.nextValue (.beacon n) + d)) s
  let s := (s.setFld PLK_SBSTAT_ROLE 1).setFld PLK_SBBEAT_BEAT s.beat
  let s := { s with plk := { s.plk with due := false, tookOver := some s.beat }, sch := { s.sch with resume := true } }
  s.raise 194

/-- A takeover that happened at beat a is older than one at beat b; a device that has never taken over counts as oldest. -/
def olderTake (a b : Option Nat) (uidA uidB : Nat) : Bool :=
  match a, b with
  | none, none => decide (uidB < uidA)
  | none, some _ => true
  | some _, none => false
  | some x, some y => decide (beatDiff x y < 0)

/-- Both members of the pair announce ACTIVE, and this one yields. -/
def State.mustYield (s : State) : Bool :=
  match s.partner with
  | none => false
  | some p =>
    s.fld PLK_SBSTAT_ROLE == 1 && (s.peer p).role == 1
      && olderTake s.plk.tookOver (s.peer p).took Config.uid.toNat (s.peer p).uid

/-- What a superframe start does to the pair. -/
def State.standbyStep (s : State) : State :=
  if s.standby && s.plk.due && s.serving then s.takeOver
  else if s.mustYield then (s.setRole 2).raise 195
  else s

/-- A controlled departure of the active device: a HELLO with SERVING 0 (R335). -/
def State.sendLeave (s : State) : State :=
  if s.fld PLK_SBSTAT_ROLE ≠ 1 then s
  else match s.partner with
    | some p => ([0, 1].filter s.uplPort).foldl (fun s q => s.sendOn q p uplHello [0, 1, s.fld TIM_STAT_TVALID]) s
    | none => s

/-! ### Alarms (R336) -/

/-- ALARM_RESEND: the oldest alarm leaves for the second time. -/
def State.alarmResend (s : State) : State :=
  match s.plk.alarms with
  | [] => s
  | (p, a) :: r => { s with plk := { s.plk with alarms := r } }.sendUpl p uplAlarm a.values

/-- ALARM_RECEIVED: the first copy is posted as foreign, the second one is dropped. -/
def State.alarmReceived (s : State) (u : UplIn) (a : AlarmIn) : State :=
  let p := u.peer.val
  let (ok, s) := s.acceptUpl u
  let k := (p, a.recidx.toNat, a.fcnt.toNat)
  if !ok then s
  else if s.plk.seen.contains k then { s with plk := { s.plk with seen := s.plk.seen.erase k } }
  else
    let s := { s with plk := { s.plk with seen := k :: s.plk.seen } }
    let s := s.postExpress ⟨a.lane.val, a.tap.val, true, a.cellid.toNat, 0, 0x3FFFF, a.fcnt.toNat, a.ts.toNat, 0,
      a.rssi.toNat, a.again, a.payload⟩
    s.raise 197

/-! ### The commands -/

def execHoReqReceived (u : UplIn) (eui : BitVec 64) (s : State) : Host.Outcome State Fault Refusal := .next (s.hoReq u eui.toNat)
def execHoXferReceived (u : UplIn) (r : HoRecord) (s : State) : Host.Outcome State Fault Refusal := .next (s.hoXfer u r)
def execHoAckReceived (u : UplIn) (s : State) : Host.Outcome State Fault Refusal := .next (s.hoAck u)
def execHoNakReceived (u : UplIn) (status : Fin 16) (s : State) : Host.Outcome State Fault Refusal := .next (s.hoNak u status.val)
def execUplRetransmit (peer : Fin 64) (ty : Fin 256) (s : State) : Host.Outcome State Fault Refusal :=
  .next (s.uplAgain peer.val ty.val)
def execUplTimeout (peer : Fin 64) (ty : Fin 256) (s : State) : Host.Outcome State Fault Refusal :=
  .next (s.uplTimeout peer.val ty.val)
def execMirrorReceived (u : UplIn) (recs : List MirrorRec) (rest : MirrorRest) (s : State) : Host.Outcome State Fault Refusal :=
  .next (s.mirrorReceived u recs rest)
def execMirrorAckReceived (u : UplIn) (s : State) : Host.Outcome State Fault Refusal := .next (s.mirrorAck u)
def execMirrorLag (s : State) : Host.Outcome State Fault Refusal := .next s.mirrorLag
def execPartnerSilence (s : State) : Host.Outcome State Fault Refusal := .next s.partnerSilent
def execAlarmResend (s : State) : Host.Outcome State Fault Refusal := .next s.alarmResend
def execAlarmReceived (u : UplIn) (a : AlarmIn) (s : State) : Host.Outcome State Fault Refusal := .next (s.alarmReceived u a)

end Sys2Proof.Machine
end

