-- ==== Sys2Proof/Machine/Host.lean ====
section
/-! DEFINITION. The host interface (spec/17): commands from the queues and their completions, rings and vectors, the PCIe link, the
SPI target's own opcodes and the TAP. -/

namespace Sys2Proof.Machine

open Sys2Proof.Fields

/-! ### Queues (R421, R422) -/

/-- The submission and completion rings of a queue, as host addresses or, LOCAL, as L-unit addresses. -/
def State.sqBase (s : State) (q : Nat) : Nat := s.fld (HST_QSQBASE_HI_ADDR q) * 2 ^ 32 + s.fld (HST_QSQBASE_LO_ADDR q) * 2 ^ 12
def State.cqBase (s : State) (q : Nat) : Nat := s.fld (HST_QCQBASE_HI_ADDR q) * 2 ^ 32 + s.fld (HST_QCQBASE_LO_ADDR q) * 2 ^ 12

def State.isLocal (s : State) (q : Nat) : Bool := s.isSet (HST_QCFG_LOCAL q)

/-- The owner in whose name a queue's buffers are checked (R425). -/
def State.submitter (s : State) (q : Nat) : Nat := if s.isLocal q then s.fld (HST_QCFG_OWNER q) else ownHst

/-- The next completion write would reach CQHEAD. -/
def State.cqFull (s : State) (q : Nat) : Bool :=
  (s.fld (HST_QSTAT_CQTAIL q) + 1) % 256 == s.fld (HST_QCQHEAD_PTR q)

/-- FULL follows the completion ring. -/
def State.updateFull (s : State) (q : Nat) : State := s.setBit (HST_QSTAT_FULL q) (s.cqFull q)

/-- A queue stops with ERR set (R422). -/
def State.queueError (s : State) (q : Nat) : State :=
  if s.isSet (HST_QSTAT_ERR q) then s else (s.setFld (HST_QSTAT_ERR q) 1).raise 245 q

/-- The bank address that an L-unit address names (R350). -/
def bankOfL (a : Nat) : Option Nat := if 0x10000000 ≤ a ∧ a < 0x13000000 then some (a - 0x10000000) else none

/-- A queue runs: enabled, without ERR, and not stopped with the function. -/
def State.queueRuns (s : State) (q : Nat) : Bool :=
  s.isSet (HST_QCFG_EN q) && !s.isSet (HST_QSTAT_ERR q) && s.isCast 0x13

/-- A command of a queue can be fetched. -/
def State.canFetch (s : State) (q : Nat) : Bool :=
  s.queueRuns q && s.live 0x13 && s.mode != modeDormant && !s.closing && !s.cqFull q
    && s.fld (HST_QSTAT_SQHEAD q) != s.fld (HST_QSQTAIL_PTR q)
    && decide ((s.queue q).inflight.length + (s.queue q).held.length < 256) && (s.isLocal q || s.linkUp)

/-! ### Commands (R423 to R426) -/

/-- The queue whose turn it is: the first in round-robin order from which a command can be fetched (R421). -/
def State.nextQueue (s : State) : Option Nat :=
  ((List.range 8).map (fun k => (s.hst.turn + k) % 8)).find? (fun q => s.canFetch q)

/-- The fields of a command. -/
def HCmd.w (c : HCmd) (i : Nat) : Nat := c.words.getD i 0
def HCmd.op (c : HCmd) : Nat := c.w 0 % 256
def HCmd.cls (c : HCmd) : Nat := c.w 0 / 256 % 16
def HCmd.timeout (c : HCmd) : Nat := c.w 1 % 65536

/-- The bits of each word that a command's layout names; none for a reserved CLASS or OP. -/
def cmdMasks (cls op : Nat) : Option (List Nat) :=
  let a := 0xFFFFFFFF
  match cls, op with
  | 0, 1 => some []
  | 0, 2 => some [0x0007FFFF]
  | 1, 1 => some [0x0003FFFF, 0x007FFFFF, 0x00F107FF, a, 1, 0x0007FF0F]
  | 1, 2 => some [0xF3, 0x00FFFFFF, a, 1]
  | 2, 8 => some [0, 0x007FFFFF, 0x7FF]
  | 2, n => if n ≤ 4 then some ([0x01F3FFFF] ++ List.replicate 13 a) else none
  | _, _ => none

/-- A field of a command holds a value that its layout reserves. -/
def HCmd.reservedValue (c : HCmd) : Bool :=
  match c.cls, c.op with
  | 1, 1 => c.w 7 % 4 == 3
  | 1, 2 => c.w 3 == 0
  | 2, 8 => c.w 4 == 0 || decide (1500 < c.w 4)
  | _, _ => false

/-- A command has a reserved CLASS or OP, or a non-zero reserved field (R423). -/
def HCmd.badOp (c : HCmd) : Bool :=
  match cmdMasks c.cls c.op with
  | none => true
  | some ms =>
    c.w 0 / 4096 % 16 != 0 || c.w 1 / 65536 != 0 || c.reservedValue
      || (List.range 14).any (fun i => c.w (i + 2) &&& ms.getD i 0 != c.w (i + 2))

/-- A queue command of FWD joins the order of all commands (R285, R426). -/
def State.queueFwd (s : State) (q : Nat) (c : HCmd) : State :=
  let x : FwdCmd := { queue := some (q, c.tag), op := c.op, table := c.w 2 / 2 ^ 20 % 4, keysel := c.w 2 / 2 ^ 22 % 4,
                      start := (c.w 2).testBit 24, cidx := c.w 2 % 2 ^ 18, ck := (List.range 5).map (fun i => c.w (3 + i)),
                      cd := (List.range 8).map (fun i => c.w (8 + i)) }
  { s with fwd := { s.fwd with cmds := s.fwd.cmds ++ [x] } }

/-- A fetched command is judged (R423, R429): a duplicate, a bad one, or one that is in flight from now on. -/
def State.takeCommand (s : State) (q : Nat) (ws : List Nat) : State :=
  let c : HCmd := ⟨ws.headD 0 / 65536, ws, false⟩
  let x := s.queue q
  match x.memory.find? (fun m => m.tag == c.tag) with
  | some m => (s.setQueue q { x with held := x.held ++ [{ m with dup := true }] }).noteDup
  | none =>
    if x.inflight.any (fun d => d.tag == c.tag) then (s.setQueue q { x with dups := x.dups ++ [c.tag] }).noteDup
    else
      let s := s.setQueue q { x with inflight := x.inflight ++ [c] }
      if c.badOp then s.complete q c.tag stBadOp 0
      else if c.cls = 2 ∧ c.op ≤ 4 then s.queueFwd q c
      else s

/-- The words of a LOCAL queue's next command; none where the owner check fails or the ring lies in no bank. -/
def State.localCommand (s : State) (q : Nat) : Option (List Nat) × State :=
  match bankOfL (s.sqBase q + 64 * s.fld (HST_QSTAT_SQHEAD q)) with
  | none => (none, s)
  | some a =>
    let (r, s) := s.bankRead (s.fld (HST_QCFG_OWNER q)) a 64
    (r.bytes?.map (bytesWords 16), s)

/-- A command is read: by DMA from host memory, with the words that come, or from a LOCAL ring. -/
def State.readCommand (s : State) (q : Nat) (ws : List Nat) : Option (List Nat) × State :=
  if s.isLocal q then s.localCommand q
  else (some ws, s.emit (.hostRead (s.sqBase q + 64 * s.fld (HST_QSTAT_SQHEAD q)) 64))

/-- COMMAND_FETCHED from the queue whose turn it is. -/
def State.commandFetched (s : State) (q : Nat) (ws : List Nat) : State :=
  if s.nextQueue ≠ some q then s
  else
    let (r, s) := { s with hst := { s.hst with turn := (q + 1) % 8 } }.readCommand q ws
    match r with
    | none => s.queueError q
    | some ws => (s.setFld (HST_QSTAT_SQHEAD q) (s.fld (HST_QSTAT_SQHEAD q) + 1)).takeCommand q ws

/-- A command in flight of a class and operation. -/
def State.flying (s : State) (q tag cls op : Nat) : Option HCmd :=
  match s.inflight q tag with
  | some c => if c.cls = cls ∧ c.op = op ∧ !c.started then some c else none
  | none => none

/-- ADMIN NOP. -/
def State.adminNop (s : State) (q tag : Nat) : State :=
  match s.flying q tag 0 1 with
  | some _ => s.complete q tag stOk 0
  | none => s

/-- ADMIN ABORT (R424, R438). -/
def State.adminAbort (s : State) (q tag : Nat) : State :=
  match s.flying q tag 0 2 with
  | none => s
  | some c =>
    match s.openReq (c.w 2 / 65536 % 8) (c.w 2 % 65536) with
    | some r => ((s.cancelReq r stCancelled).planLater).complete q tag stOk 0
    | none => s.complete q tag stNotFound 0

/-- A GO of SCH_CANCEL (R265). -/
def State.schCancel (s : State) (q tag : Nat) : State :=
  match s.openReq q tag with
  | some r => (s.cancelReq r stCancelled).planLater
  | none => s

/-- The longest PSDU of a profile, its FCS included (R199). -/
def State.psduMax (s : State) (n p : Nat) : Nat := if s.oqpsk n p then 127 else 2047

/-- A request as a command submits it. -/
def HCmd.request (c : HCmd) (q : Nat) (kind : ReqKind) (owner : Nat) : Request where
  id := 0
  kind := kind
  target := if kind = .broadcast then c.w 2 % 4 else c.w 2 % 2 ^ 18
  lanes := (List.range 4).filter (fun n => (c.w 2).testBit (4 + n))
  bank := c.w 3 % 256
  bofs := c.w 3 / 256 % 2 ^ 15
  len := c.w 4 % 2 ^ 11
  ackReq := kind == .downlink && (c.w 4).testBit 16
  retries := c.w 4 / 2 ^ 20 % 16
  earliest := if kind = .broadcast then (if (c.w 5).testBit 0 then some (c.w 4) else none)
    else if (c.w 6).testBit 0 then some (c.w 5) else none
  tag := c.tag
  queue := q
  hasTag := true
  origin := owner
  insKind := if kind = .broadcast then 0 else c.w 7 % 4
  insCamp := c.w 7 / 4 % 4
  insOfs := c.w 7 / 256 % 2 ^ 11
  pre := []
  after := 0
  left := if kind = .broadcast then c.w 3 else 0
  done := 0
  state := .pending
  replan := false
  attempt := 0
  try_ := 0
  tries := 0
  tx := none
  rx := none
  final := none

/-- Why a DOWNLINK is not submitted, before its buffer is checked; 0 where it may be. -/
def State.downlinkStatus (s : State) (r : Request) : Nat :=
  let i := r.target
  let n := s.nr i NR_LANE
  let ch := s.nr i NR_CH
  if !s.beating then stMode
  else if recordCount ≤ i ∨ !(s.nodeState i == nodeActive || s.nodeState i == nodeAdrift) then stBadNode
  else if s.psduMax n (s.chProf n ch) < s.psduLen n ch 10 r.len then stBadLen
  else if r.insKind ≠ 0 ∧ r.len < r.insOfs + 16 then stBadInsert
  else stOk

/-- MESH DOWNLINK. -/
def State.meshDownlink (s : State) (q tag : Nat) : State :=
  match s.flying q tag 1 1 with
  | none => s
  | some c =>
    let r := c.request q .downlink (s.submitter q)
    let st := s.downlinkStatus r
    if st ≠ stOk then s.complete q tag st 0
    else
      let a := bufAddr r.bank r.bofs
      match s.firstRefused r.origin a r.len with
      | some b => (s.nonOwner r.origin b (if b * bankSize ≤ a then a % bankSize else 0) false).complete q tag stBadBuf 0
      | none => (s.markStarted q tag).addRequest r

/-- MESH BROADCAST. -/
def State.meshBroadcast (s : State) (q tag : Nat) : State :=
  match s.flying q tag 1 2 with
  | none => s
  | some c =>
    let r := c.request q .broadcast (s.submitter q)
    if !s.beating then s.complete q tag stMode 0
    else if s.camp r.target ≠ campActive then s.complete q tag stBadCamp 0
    else (s.markStarted q tag).addRequest r

/-- A frame of an owner's bank is copied into FWD's input queue: the STATUS of CHB_CnOFFER1 (R272, R406). -/
def State.offerFrame (s : State) (owner bank bofs len : Nat) : Nat × State :=
  let (x, s) := s.bankRead owner (bufAddr bank bofs) len
  match x with
  | .ok bs =>
    if s.fwd.input.length < 1024 then (0, s.fwdEnqueue ⟨bs, 0, false, s.beat⟩) else (1, s.queueDrop)
  | .refused => (2, s)
  | .uncorrectable => let (v, s) := s.freshBytes len; if s.fwd.input.length < 1024 then (0, s.fwdEnqueue ⟨v, 0, false, s.beat⟩) else (1, s.queueDrop)

/-- FWD OFFER of a queue. -/
def State.queueOffer (s : State) (q tag : Nat) : State :=
  match s.flying q tag 2 8 with
  | none => s
  | some c =>
    let (st, s) := s.offerFrame (s.submitter q) (c.w 3 % 256) (c.w 3 / 256 % 2 ^ 15) (c.w 4)
    s.complete q tag stOk st

/-- COMMAND_TIMEOUT: only MESH commands have one (R430), and one that has succeeded is not cancelled (R266). -/
def State.commandTimeout (s : State) (q tag : Nat) : State :=
  match s.inflight q tag with
  | none => s
  | some c =>
    if c.cls ≠ 1 ∨ c.timeout = 0 then s
    else match s.openReq q tag with
      | some r => (s.cancelReq r stTimeout).planLater
      | none => if c.started then s else s.complete q tag stTimeout 0

/-! ### Completions (R422, R427) -/

/-- The vector of a queue, or the entry in its core's event FIFO. -/
def State.queueSignal (s : State) (q : Nat) : State :=
  if s.isLocal q then s.toCore (s.fld (HST_QCFG_OWNER q) - 0x10) (0x140 + q) (s.fld (HST_QSTAT_CQTAIL q))
  else if s.isSet (HST_QCFG_IEN q) then s.signalVector (s.fld (HST_QCFG_VEC q))
  else s

/-- The ring position after a written completion; the phase turns at the wrap. -/
def State.cqAdvance (s : State) (q : Nat) : State :=
  let x := s.queue q
  let t := s.fld (HST_QSTAT_CQTAIL q)
  let s := s.setQueue q { x with held := x.held.tail, phase := if t = 255 then !x.phase else x.phase }
  (s.setFld (HST_QSTAT_CQTAIL q) (t + 1)).updateFull q

/-- COMPLETION_WRITE. -/
def State.completionWrite (s : State) (q : Nat) : State :=
  let x := s.queue q
  match x.held with
  | [] => s
  | c :: _ =>
    if !s.queueRuns q || s.cqFull q then s.updateFull q
    else
      let bs := c.octets x.phase (s.fld (HST_QSTAT_SQHEAD q)) s.beat
      let a := s.cqBase q + 64 * s.fld (HST_QSTAT_CQTAIL q)
      if s.isLocal q then
        match bankOfL a with
        | none => s.queueError q
        | some b =>
          let (ok, s) := s.bankWrite (s.fld (HST_QCFG_OWNER q)) b bs
          if ok then (s.cqAdvance q).queueSignal q else s.queueError q
      else if !s.linkUp then s
      else ((s.emit (.hostWrite a bs)).cqAdvance q).queueSignal q

/-! ### Rings (R432 to R435) -/

/-- EVENT_RECORD_WRITE. -/
def State.eventWrite (s : State) : State :=
  match s.hst.evBuf with
  | [] => s
  | r :: rest =>
    if !s.erReady then s
    else
      let h := s.fld HST_ERHEAD_PTR
      let s := (s.emit (.hostWrite (s.erBase + h) r.octets)).setFld HST_ERHEAD_PTR ((h + 32) % s.erSize)
      let s := { s with hst := { s.hst with evBuf := rest } }
      s.queueLoss.recordVector r

/-- EXPRESS_RECORD_WRITE. -/
def State.expressWrite (s : State) : State :=
  match s.hst.xBuf with
  | [] => s
  | r :: rest =>
    if !s.xrReady then s
    else
      let h := s.fld HST_XRHEAD_PTR
      let s := (s.emit (.hostWrite (s.xrBase + h) r.octets)).setFld HST_XRHEAD_PTR ((h + 128) % s.xrSize)
      { s with hst := { s.hst with xBuf := rest } }.signalExpress (s.fld HST_XRCTL_VEC)

/-- VECTOR_HOLDOFF_EXPIRY. -/
def State.holdoffEnds (s : State) (v : Nat) : State :=
  { s with hst := { s.hst with holdoff := s.hst.holdoff.erase v } }.flushVector v

/-! ### The link (R420) -/

/-- PCIE_LINK_DOWN. -/
def State.linkDown (s : State) : State :=
  if !s.linkUp then s
  else { (s.setFld HST_STAT_LINKUP 0).setFld HST_STAT_BME 0 with hst := { s.hst with wentDown := true } }.raise 244 |>.shadowReach

/-- PCIE_LINK_UP: posting resumes with the vectors that wait. -/
def State.linkRises (s : State) (speed width : Nat) (bme : Bool) : State :=
  if s.linkUp then s
  else
    let s := if s.hst.wentDown then s.count HST_STAT_DOWNS else s
    let s := { s with hst := { s.hst with wentDown := false } }
    let s := ((s.setFld HST_STAT_LINKUP 1).setFld HST_STAT_SPEED speed).setFld HST_STAT_WIDTH width
    ((List.range 32).foldl (fun s v => s.flushVector v) (s.setBit HST_STAT_BME bme)).raise 244 |>.shadowReach

/-- The ring and vector registers and the MSI-X table return to Cold at a Function Level Reset; the buffers stay. -/
def State.flrRegisters (s : State) : State :=
  let s := ((s.coldRange 0x100010 0x10002C).coldRange 0x100030 0x100048).coldRange 0x100080 0x100100
  let s := s.coldRange 0x101000 0x101808
  { s with hst := { s.hst with holdoff := [] } }

/-- The command queues return to Cold at their function reset: no remembered tags (R63). -/
def State.queuesReset (s : State) : State :=
  let s := { s with hst := { s.hst with queues := [] } }
  s.coldRange 0x100100 0x100200

/-- A queue's ERR clears when EN goes from 0 to 1; a queue that starts anew begins with phase 1. -/
def State.queueEnabled (s : State) (q : Nat) : State := s.setFld (HST_QSTAT_ERR q) 0

/-! ### SPI (R436) -/

/-- SPI_STATUS: link up, event record held, completion of queue 7 held, express record held. -/
def State.spiStatus (s : State) : Nat :=
  (if s.linkUp then 1 else 0) + (if s.hst.evBuf.isEmpty then 0 else 2) + (if (s.queue 7).held.isEmpty then 0 else 4)
    + (if s.hst.xBuf.isEmpty then 0 else 8)

/-- SPI_EVTPOP. -/
def State.spiEvtPop (s : State) : State :=
  match s.hst.evBuf with
  | [] => s.emit (.octets .spi (List.replicate 32 0#8))
  | r :: rest => ({ s with hst := { s.hst with evBuf := rest } }.emit (.octets .spi r.octets)).queueLoss.recordVector r

/-- SPI_XPOP. -/
def State.spiXPop (s : State) : State :=
  match s.hst.xBuf with
  | [] => s.emit (.octets .spi (List.replicate 128 0#8))
  | r :: rest => { s with hst := { s.hst with xBuf := rest } }.emit (.octets .spi r.octets)

/-- SPI_SUBMIT. -/
def State.spiSubmit (s : State) (ws : List Nat) : State :=
  let x := s.queue 7
  if s.isSet (HST_QCFG_EN 7) || x.spiCmd || !s.live 0x13 then s.raise 249
  else (s.setQueue 7 { x with spiCmd := true }).takeCommand 7 ws

/-- SPI_CPLPOP. -/
def State.spiCplPop (s : State) : State :=
  let x := s.queue 7
  match x.held with
  | [] => s.emit (.octets .spi (List.replicate 64 0#8))
  | c :: rest =>
    (s.setQueue 7 { x with held := rest, spiCmd := false }).emit
      (.octets .spi (c.octets x.phase (s.fld (HST_QSTAT_SQHEAD 7)) s.beat))

/-- The bank address of an offset of the staging area (R54, R436): banks 0 to 31 before a casting has been applied, then the
first 1 MiB of MGT's banks. -/
def State.stagingAddr (s : State) (ofs : Nat) : Option Nat :=
  if s.fld MGT_CASTID_CASTID = 0 then (if ofs < 0x800000 then some ofs else none)
  else if 0x100000 ≤ ofs then none
  else (((List.range bankCount).filter (fun b => s.owner b == 0))[ofs / bankSize]?).map (fun b => b * bankSize + ofs % bankSize)

/-- SPI_STAGE: words into the staging area. -/
def State.spiStage (s : State) (ofs : Nat) (ws : List Nat) : State :=
  (List.range ws.length).foldl (fun s k =>
    match s.stagingAddr (ofs + 4 * k) with
    | some a => (s.bankWrite (s.owner (a / bankSize)) a (leBytes 4 (ws.getD k 0))).2
    | none => s) s

/-! ### TAP (R437) -/

/-- The TAP's instructions, as the state names them. -/
def tapBypass : Nat := 0
def tapIdcode : Nat := 1
def tapSample : Nat := 2
def tapExtest : Nat := 3
def tapClamp : Nat := 4
def tapHighz : Nat := 5

/-- An instruction comes into force. With PORST_N high, EXTEST, CLAMP and HIGHZ act as BYPASS. -/
def State.tapSelect (s : State) (i : Nat) : State :=
  let i := if decide (3 ≤ i) && s.sys.power != .inReset then tapBypass else i
  { s with hst := { s.hst with tapIr := i } }

/-! ### The commands that are no register write -/

/-- What the SPI target does takes the main rails, and PORST_N high. -/
def State.whenOn (s : State) (t : State) : State := if s.sys.power = .on then t else s

def execEventToCore (core : Fin 16) (id : Fin 512) (data : Word) (s : State) : Host.Outcome State Fault Refusal :=
  .next (s.toCore core.val id.val data.toNat)
def execCommandFetched (q : Fin 8) (words : List Word) (s : State) : Host.Outcome State Fault Refusal :=
  .next (s.commandFetched q.val (words.map (·.toNat)))
def execAdminNop (q : Fin 8) (tag : BitVec 16) (s : State) : Host.Outcome State Fault Refusal := .next (s.adminNop q.val tag.toNat)
def execAdminAbort (q : Fin 8) (tag : BitVec 16) (s : State) : Host.Outcome State Fault Refusal := .next (s.adminAbort q.val tag.toNat)
def execMeshDownlink (q : Fin 8) (tag : BitVec 16) (s : State) : Host.Outcome State Fault Refusal :=
  .next (s.meshDownlink q.val tag.toNat)
def execMeshBroadcast (q : Fin 8) (tag : BitVec 16) (s : State) : Host.Outcome State Fault Refusal :=
  .next (s.meshBroadcast q.val tag.toNat)
def execFwdOffer (q : Fin 8) (tag : BitVec 16) (s : State) : Host.Outcome State Fault Refusal := .next (s.queueOffer q.val tag.toNat)
def execCommandTimeout (q : Fin 8) (tag : BitVec 16) (s : State) : Host.Outcome State Fault Refusal :=
  .next (s.commandTimeout q.val tag.toNat)
def execEventRecordWrite (s : State) : Host.Outcome State Fault Refusal := .next s.eventWrite
def execEventRecordDrop (id : Fin 256) (data : Word) (s : State) : Host.Outcome State Fault Refusal :=
  .next (if 2048 ≤ s.hst.evBuf.length ∧ (s.route id.val).getLsbD 6 then s.raise id.val data.toNat else s)
def execExpressRecordWrite (s : State) : Host.Outcome State Fault Refusal := .next s.expressWrite
def execVectorHoldoffExpiry (v : Fin 32) (s : State) : Host.Outcome State Fault Refusal := .next (s.holdoffEnds v.val)
def execPcieLinkDown (s : State) : Host.Outcome State Fault Refusal := .next s.linkDown
def execPcieLinkUp (speed : Fin 3) (width : Fin 4) (bme : Bool) (s : State) : Host.Outcome State Fault Refusal :=
  .next (s.linkRises speed.val width.val bme)
def execSpiStatus (s : State) : Host.Outcome State Fault Refusal := .next (s.whenOn (s.emit (.octets .spi (leBytes 1 s.spiStatus))))
def execSpiStage (offset : BitVec 24) (words : List Word) (s : State) : Host.Outcome State Fault Refusal :=
  .next (if s.mode = modeDormant then s else s.whenOn (s.spiStage offset.toNat (words.map (·.toNat))))
def execSpiEvtpop (s : State) : Host.Outcome State Fault Refusal := .next (s.whenOn s.spiEvtPop)
def execSpiXpop (s : State) : Host.Outcome State Fault Refusal := .next (s.whenOn s.spiXPop)
def execSpiSubmit (words : List Word) (s : State) : Host.Outcome State Fault Refusal := .next (s.whenOn (s.spiSubmit (words.map (·.toNat))))
def execSpiCplpop (s : State) : Host.Outcome State Fault Refusal := .next (s.whenOn s.spiCplPop)
def execSpiUnknownOpcode (s : State) : Host.Outcome State Fault Refusal := .next (s.whenOn (s.raise 249))
def execSpiId (s : State) : Host.Outcome State Fault Refusal := .next (s.whenOn (s.emit (.octets .spi (leBytes 4 (s.get MGT_DEVID).toNat))))
def execTapBypass (s : State) : Host.Outcome State Fault Refusal := .next (s.tapSelect tapBypass)
def execTapIdcode (s : State) : Host.Outcome State Fault Refusal := .next ((s.tapSelect tapIdcode).emit (.tdo 0x29640D4B))
def execTapSamplePreload (s : State) : Host.Outcome State Fault Refusal := .next (s.tapSelect tapSample)
def execTapExtest (s : State) : Host.Outcome State Fault Refusal := .next (s.tapSelect tapExtest)
def execTapClamp (s : State) : Host.Outcome State Fault Refusal := .next (s.tapSelect tapClamp)
def execTapHighz (s : State) : Host.Outcome State Fault Refusal := .next (s.tapSelect tapHighz)

end Sys2Proof.Machine
end

