-- ==== Sys2Proof/Machine/Bench.lean ====
section
/-! DEFINITION. The Chaser bench: beat entries, offers of frames to FWD, and a core's reset and release (spec/01 R28, spec/10 R272,
spec/14 R385 to R387, R481, spec/13 R361). -/

namespace Sys2Proof.Machine

open Sys2Proof.Fields

/-- A beat edge at one core (R28, R385): the skip that an overrun has left, or that a program which still runs causes, or a
beat entry. -/
def State.coreEdge (s : State) (n c : Nat) : State :=
  let s := if s.isCast (0x20 + c) && s.isSet (PMU_CFG_SNAPBEAT c) then s.pmuSnap c else s
  let s := s.setCore c { s.core c with yielded := false, due := false }
  let k := s.core c
  if s.live (0x20 + c) && s.isSet (CHB_CBEATVEC_EN c) && !k.halted && !s.closing then
    if k.skip then (s.setCore c { k with skip := false }).pmuAdd c (42, 1)
    else if k.owed then (s.pmuAdd c (42, 1)).coreOverrun c
    else s.setCore c { k with beatPend := some n, owed := true, due := true }
  else s

/-- A beat edge with beat count n at every core. -/
def State.coreEdges (s : State) (n : Nat) : State := (List.range 16).foldl (fun s c => s.coreEdge n c) s

/-- FWD's copy of an offered frame ends: BUSY clears with the status (spec/14, R272). -/
def State.offerDone (s : State) (c : Nat) : State :=
  match (s.core c).offer with
  | none => s
  | some (b, o, n) =>
    let s := s.setCore c { s.core c with offer := none }
    let (st, s) := s.offerFrame (0x10 + c) b o n
    (s.setFld (CHB_COFFER1_BUSY c) 0).setFld (CHB_COFFER1_STATUS c) st

/-! ### Casting of a core (R361, R481) -/

/-- The types of casting records (R40). -/
def ctClock : Nat := 1
def ctBankmap : Nat := 2
def ctLaneplan : Nat := 3
def ctSliceplan : Nat := 4
def ctBeat : Nat := 5
def ctEventroute : Nat := 6
def ctProgram : Nat := 7
def ctDecode : Nat := 8
def ctFwdgeom : Nat := 9
def ctRegulatory : Nat := 10
def ctKeepmask : Nat := 11
def ctInit : Nat := 12

/-- The words that PROGRAM records put at addresses of R350, record by record in image order (R481). -/
def Core.loadProgram (k : Core) (words : List Nat) : Core :=
  let base := match words.headD 0 with
    | 0 => progBase
    | 1 => 0
    | _ => yBase
  k.store (base + words.getD 1 0) (wordsBytes (words.drop 2))

/-- The decode table and the micro-op store from a DECODE record (R361). -/
def Core.loadDecode (k : Core) (words : List Nat) : Core :=
  let w (i : Nat) : Word := BitVec.ofNat 32 (words.getD i 0)
  { k with
    decode := (List.range 32).map (fun i => (i, w (1 + 2 * i), w (2 + 2 * i)))
    uops := (List.range (words.headD 0)).map (fun i => (i, w (65 + i))) }

/-- A core released from reset with the records that stand for it (R387, R481). -/
def State.startCore (s : State) (c : Nat) (recs : List CRec) : State :=
  let mine (ty : Nat) : List CRec := recs.filter (fun r => r.tgt == 0x20 + c && r.ty == ty)
  let k := (mine ctProgram).foldl (fun k r => k.loadProgram r.words) Core.cold
  let k := (mine ctDecode).foldl (fun k r => k.loadDecode r.words) k
  s.setCore c { k with pc := BitVec.ofNat 16 (s.fld (CHB_CRESETVEC_VEC c)) }

def execOfferCopyDone (core : Fin 16) (s : State) : Host.Outcome State Fault Refusal := .next (s.offerDone core)

end Sys2Proof.Machine
end

