-- ==== Sys2Proof/Machine/Snapshot.lean ====
section
/-! DEFINITION. Snapshot capture (spec/04 R121 to R125). The samples come from outside and stand in the operand. -/

namespace Sys2Proof.Machine

open Sys2Proof.Fields

/-- The bands, length, and banks of a capture's settings. -/
def snapBands (w : Word) : List Nat := [0, 1].filter (fun b => (getFld w GNC_SNAPCTL_BANDS).testBit b)
def snapBandLen (w : Word) : Nat := getFld w GNC_SNAPCTL_MS * 30720
def snapBank (w : Word) : Nat := getFld w GNC_SNAPCTL_BANK
def snapBanks (w : Word) : Nat := (64 + (snapBands w).length * snapBandLen w + 262143) / 262144

/-- A capture ends with a result other than DONE before it has begun. -/
def State.snapRefuse (s : State) (result : Nat) : State :=
  ((s.setFld GNC_SNAPSTAT_RESULT result).setFld GNC_SNAPSTAT_WRITTEN 0).raise 53

/-- A START (R121): the write itself has been judged. The alignment is counted from now, or from the end of the 2 ms for which a chain
that naps is powered first (R122). -/
def State.snapStart (s : State) (w : Word) : State :=
  let n := snapBanks w
  if 191 < snapBank w + n - 1 then s.snapRefuse 3
  else if !((List.range n).all (fun k => s.owner (snapBank w + k) == ownGnc)) then s.snapRefuse 2
  else
    let s := ((s.setFld GNC_SNAPSTAT_STATE 1).setFld GNC_SNAPSTAT_RESULT 0).setFld GNC_SNAPSTAT_WRITTEN 0
    let t := if s.napping then s.tim.ts + usTicks 2000 else s.tim.ts
    { s with gnss := { s.gnss with snap := some ⟨w, t, false, s.napping, false, false, [], []⟩ } }

/-- The gain of a chain now: in automatic mode the signal sets it, and it is free (R102). -/
def State.gainNow (s : State) (b : Nat) : Nat × State :=
  match s.setGain b with
  | none =>
    let (v, s) := s.fresh
    (v % 121, s)
  | some g => (g, s)

/-- The instant of a capture's first sample: the next whole millisecond, or the next beat edge (R122). -/
def State.snapInstant (s : State) (p : Snap) : Nat :=
  if getFld p.ctl GNC_SNAPCTL_ALIGN = 1 then s.gridAfter (p.start + 1)
  else (p.start * 1000 / ticksPerSecond + 1) * (ticksPerSecond / 1000)

/-- The first sample is taken at that instant: time moves to it, unless a beat edge comes before it or at it. What the header says of
the instant is noted, and which bands have no samples (R122 to R124). -/
def State.snapFirst (s : State) : State :=
  match s.gnss.snap with
  | some p =>
    let at_ := s.snapInstant p
    if p.first || p.lost || (decide (s.tim.ts < at_) && decide (s.tim.edge ≤ at_)) then s
    else
      let s := s.timeTo at_
      let bands := snapBands p.ctl
      let (g0, s) := if bands.contains 0 then s.gainNow 0 else (0, s)
      let (g1, s) := if bands.contains 1 then s.gainNow 1 else (0, s)
      let beat := if s.isSet TIM_BEATPOS_VALID then s.beat else 0
      let h := dt96 at_ ++ leBytes 1 g0 ++ leBytes 1 g1 ++ leBytes 2 0 ++ leBytes 4 (s.fld TIM_FRQ_Y) ++ leBytes 4 beat
      let cuts := (bands.filter (fun b => s.snapAbsent p b)).map (fun b => (b, 0, true))
      { s with gnss := { s.gnss with
          snap := some { p with start := at_, first := true, prov := s.mode == modeSurvey, cuts := cuts, head := h } } }.setFld
        GNC_SNAPSTAT_STATE 2
  | none => s

/-- A band was without samples in some part of the capture. -/
def Snap.absent (p : Snap) (b : Nat) : Bool := p.cuts.any (fun c => c.1 == b && c.2.2)

/-- The header (R124). -/
def snapHeader (p : Snap) (result : Nat) : List Byte :=
  let w := p.ctl
  let n := snapBandLen w
  let flags := getFld w GNC_SNAPCTL_MS + getFld w GNC_SNAPCTL_BANDS * 0x100 + result * 0x10000
    + (if p.absent 0 then 0x1000000 else 0) + (if p.absent 1 then 0x2000000 else 0) + (if p.prov then 0x4000000 else 0)
  let o0 := if (snapBands w).contains 0 then 0x40 else 0
  let o1 := if (snapBands w).contains 1 then (if (snapBands w).contains 0 then 0x40 + n else 0x40) else 0
  let h := leBytes 4 0x50414E53 ++ leBytes 4 flags ++ (p.head ++ List.replicate 24 0#8).take 24 ++ leBytes 4 o0
    ++ leBytes 4 o1 ++ leBytes 4 n ++ List.replicate 16 0#8
  h ++ leBytes 4 (crc32 h)

/-- Sample octet k of a band falls where the band had no samples; a sample is taken every 16 ticks. -/
def Snap.blank (p : Snap) (b k : Nat) : Bool :=
  match p.cuts.find? (fun c => c.1 == b && decide (c.2.1 ≤ 16 * k)) with
  | some c => c.2.2
  | none => false

/-- The sample octets that a band contributes, of the samples taken so far: as many of each band, L1 in front. Where the band had no
samples they are 0x00 (R123). -/
def snapBand (p : Snap) (samples : List Byte) (j b : Nat) : List Byte :=
  let m := min (samples.length / (snapBands p.ctl).length) (snapBandLen p.ctl)
  (((samples.drop (j * m)).take m).zipIdx).map (fun x => if p.blank b x.2 then 0#8 else x.1)

/-- The bank of a capture that is no longer GNC's. -/
def State.snapLost (s : State) (p : Snap) : Option Nat :=
  ((List.range (snapBanks p.ctl)).map (· + snapBank p.ctl)).find? (fun b => !s.mayAccess ownGnc b)

/-- A capture writes octets from an offset, bank by bank: a bank that is not GNC's takes none, and the access is a non-owner write
(R125, R406). The answer says how many octets were written. -/
def State.snapWrite : Nat → State → Nat → List Byte → Nat × State
  | 0, s, _, _ => (0, s)
  | n + 1, s, a, bs =>
    if bs.isEmpty then (0, s)
    else
      let k := min bs.length (bankSize - a % bankSize)
      let (ok, s) := s.bankWrite ownGnc a (bs.take k)
      let (m, s) := State.snapWrite n s (a + k) (bs.drop k)
      ((if ok then k else 0) + m, s)

/-- A capture ends with the samples taken and a result (R122, R125): each band's octets, and the header last where its bank is still
GNC's. -/
def State.snapEnd (s : State) (p : Snap) (samples : List Byte) (result : Nat) : State :=
  let a := snapBank p.ctl * bankSize
  let result := if p.lost || (s.snapLost p).isSome then 4 else result
  let (n, s) := (snapBands p.ctl).zipIdx.foldl (fun (x : Nat × State) (b : Nat × Nat) =>
    let (m, s) := State.snapWrite 9 x.2 (a + 0x40 + b.2 * snapBandLen p.ctl) (snapBand p samples b.2 b.1)
    (x.1 + m, s)) (0, s)
  let (h, s) := s.bankWrite ownGnc a (snapHeader p result)
  let s := ((s.setFld GNC_SNAPSTAT_STATE 0).setFld GNC_SNAPSTAT_RESULT result).setFld GNC_SNAPSTAT_WRITTEN ((n + if h then 64 else 0) / 64)
  { s with gnss := { s.gnss with snap := none } }.raise (if result = 1 then 52 else 53)

/-- A bank of a capture has changed owner (R125): the capture stops, and its header is to be written. -/
def State.snapWatch (s : State) : State :=
  match s.gnss.snap with
  | some p =>
    if p.lost || (s.snapLost p).isNone then s
    else { s with gnss := { s.gnss with snap := some { p with lost := true } } }.setFld GNC_SNAPSTAT_STATE 3
  | none => s

/-- ABORT (R125), with the samples taken so far. -/
def State.snapAbort (s : State) (samples : List Byte) : State :=
  match s.gnss.snap with
  | some p => s.snapEnd p (if p.first then samples else []) 5
  | none => s

/-- A capture ends (R122): all its samples have been taken, or it has stopped with those taken so far. -/
def State.snapDone (s : State) (samples : List Byte) : State :=
  match s.gnss.snap with
  | some p =>
    if p.lost then s.snapEnd p (if p.first then samples else []) 4
    else if p.first && samples.length == (snapBands p.ctl).length * snapBandLen p.ctl then s.snapEnd p samples 1
    else s
  | none => s

/-- A capture ends without a header: at a reset of the slice fabric with RESULT RESET, at a mode request with none. -/
def State.snapDrop (s : State) (reset : Bool) : State :=
  match s.gnss.snap with
  | some _ =>
    let s := { s with gnss := { s.gnss with snap := none } }.setFld GNC_SNAPSTAT_STATE 0
    if reset then (s.setFld GNC_SNAPSTAT_RESULT 6).raise 53 else s
  | none => s

/-- SNAP_FIRST_SAMPLE (R122). -/
def execSnapFirstSample (s : State) : Host.Outcome State Fault Refusal := .next s.snapFirst

/-- SNAP_DONE (R122), with the samples that the capture has taken: those of L1, then those of L5. -/
def execSnapDone (samples : List Byte) (s : State) : Host.Outcome State Fault Refusal := .next (s.snapDone samples)

end Sys2Proof.Machine
end

