-- ==== Sys2Proof/Machine/View.lean ====
section
/-! DEFINITION. Reads of BAR0 (spec/00 R4, R5, spec/01 R20, R30 to R33). A field that shows a figure of the state beside the
registers is computed here; the others read as they are held. -/

namespace Sys2Proof.Machine

open Sys2Proof.Fields

def flag (b : Bool) : Nat := if b then 1 else 0

/-- Bits from 0 up of a list of truths. -/
def bitsOf (l : List Bool) : Nat := (l.zipIdx.map (fun p => if p.1 then 2 ^ p.2 else 0)).sum

/-- The bits of a register that a read shows: those of no WO and no W1P field (R5). -/
def readMask (a : Nat) : Word :=
  match regAt a with
  | none => 0
  | some r => r.flds.foldl (fun m f => if f.ty = .WO ∨ f.ty = .W1P then m else m ||| fldMask f.lo f.len) 0

/-! ### Pinned banks (R274, R405) -/

/-- The octets of the loader's stored copies. -/
def State.copyOctets (s : State) : Nat :=
  ((s.sys.recs.filter (fun r => [ctInit, ctKeepmask, ctEventroute].contains r.ty)).map
    (fun r => 16 + 4 * r.words.length)).sum

/-- MGT's banks that hold the stored copies: the highest-numbered ones (log entry 40). -/
def State.copyBanks (s : State) : List Nat :=
  (((List.range bankCount).filter (fun b => s.owner b == 0)).reverse).take ((s.copyOctets + bankSize - 1) / bankSize)

/-- FWD's table banks: the first 14 and those of the route region. -/
def State.inFwdTables (s : State) (b : Nat) : Bool :=
  s.isCast 0xF && decide (s.fld FWD_GEOM_FIRSTBANK ≤ b) && decide (b * bankSize < s.tabBase 2 + s.tabBytes 2)

/-- A bank is pinned (R405). -/
def State.pinned (s : State) (b : Nat) : Bool :=
  s.inFwdTables b
    || (s.isCast 0xD && (((List.range bankCount).filter (fun k => s.owner k == 3)).take 3).contains b)
    || s.copyBanks.contains b
    || (List.range 4).any (fun i =>
        decide (1 ≤ s.fld (SEC_IMGSTAT_STATE i)) && decide (s.fld (SEC_IMGSTAT_STATE i) ≤ 2)
          && decide (s.fld (SEC_IMGCFG_FIRSTBANK i) ≤ b) && decide (b < s.fld (SEC_IMGCFG_FIRSTBANK i) + 9))

/-! ### Station registers -/

/-- The low rails, as MGT_PWRSTAT.INRANGE numbers them. -/
def State.railsOk (s : State) : Nat := bitsOf ((List.range 7).map (fun r => !s.bkp.low.contains r))

def State.viewMgt (s : State) (a : Nat) (w : Word) : Word :=
  if a = MGT_COMMIT then
    putAll w [(MGT_COMMIT_DIRTY, min 65535 s.sys.dirty.length), (MGT_COMMIT_QUEUE, min 512 s.cru.queue.length)]
  else if a = MGT_CLKSTAT then
    putAll w [(MGT_CLKSTAT_FABRIC, flag s.tim.run), (MGT_CLKSTAT_L1LO, s.fld (GNF_STAT_LOLOCK 0)),
      (MGT_CLKSTAT_L5LO, s.fld (GNF_STAT_LOLOCK 1)),
      (MGT_CLKSTAT_CORES, flag ((List.range 16).any (fun c => s.isCast (0x20 + c)))),
      (MGT_CLKSTAT_PCIE, flag s.linkUp), (MGT_CLKSTAT_ETH0, s.fld (PLK_PSTAT_LINK 0)),
      (MGT_CLKSTAT_ETH1, s.fld (PLK_PSTAT_LINK 1)), (MGT_CLKSTAT_XT32, flag (!s.isSet BKP_STAT_OSCSTOP))]
  else if a = MGT_PWRSTAT then
    putAll w [(MGT_PWRSTAT_INRANGE, s.railsOk), (MGT_PWRSTAT_PFAIL, flag (!s.pins.pfailN))]
  else w

/-- The oldest result of the time-interval counter (R187, R188). -/
def State.viewTic (s : State) (a : Nat) : Word :=
  match s.tim.tic.fifo.head? with
  | none => 0
  | some r =>
    if a = TIM_TICRES0 then BitVec.ofInt 32 r.iv
    else if a = TIM_TICRES1 then
      putAll 0 [(TIM_TICRES1_VALID, 1), (TIM_TICRES1_ORDER, flag r.order), (TIM_TICRES1_UNRESOLVED, flag r.unresolved),
        (TIM_TICRES1_TIMEOUT, flag r.timeout), (TIM_TICRES1_OVF, flag r.ovf), (TIM_TICRES1_WHICH, flag r.which),
        (TIM_TICRES1_IVHI, (r.iv / 2 ^ 32 % 2 ^ 16).toNat)]
    else if a = TIM_TICRES2 then BitVec.ofNat 32 r.ts
    else BitVec.ofNat 32 (r.ts / 2 ^ 32)

def State.viewTim (s : State) (a : Nat) (w : Word) : Word :=
  if a = TIM_NOW0 then s.now0
  else if a ∈ [TIM_NOW1, TIM_NOW2, TIM_TSLO, TIM_TSHI] then ((s.nowWords.find? (fun p => p.1 == a)).map (·.2)).getD 0
  else if a = TIM_BEATPOS then s.beatPosWord
  else if a = TIM_MODEL then
    putAll w [(TIM_MODEL_STATE, s.modelState), (TIM_MODEL_FREF, s.selFref),
      (TIM_MODEL_HOURS, min 65535 ((s.fref s.selFref).learned / 3600))]
  else if a = TIM_LEAP then
    putAll w [(TIM_LEAP_NENT, min 255 s.leapCount), (TIM_LEAP_DAT, ofSigned 16 s.deltaAt)]
  else if a = TIM_TPSTAT 0 then putFld w (TIM_TPSTAT_ACTIVE 0) (flag (s.tpRuns 0))
  else if a = TIM_TPSTAT 1 then putFld w (TIM_TPSTAT_ACTIVE 1) (flag (s.tpRuns 1))
  else if a ∈ [TIM_TICRES0, TIM_TICRES1, TIM_TICRES2, TIM_TICRES3] then s.viewTic a
  else if a = TIM_TICSTAT then putFld w TIM_TICSTAT_RESULTS s.tim.tic.fifo.length
  else w

/-- The oldest acquisition result (R117). -/
def State.viewGnc (s : State) (a : Nat) (w : Word) : Word :=
  if a = GNC_ACQSTAT then
    putAll w [(GNC_ACQSTAT_BUSY, flag (s.gnss.acqPhase != .idle)), (GNC_ACQSTAT_RESULTS, s.gnss.acqRes.length),
      (GNC_ACQSTAT_QUEUED, s.acqQueued)]
  else match s.gnss.acqRes.head? with
    | none => w
    | some r =>
      if a = GNC_ACQRES0 then
        putAll w [(GNC_ACQRES0_PNR, r.pnr), (GNC_ACQRES0_STATUS, r.status), (GNC_ACQRES0_TAG, r.tag)]
      else if a = GNC_ACQRES1 then putAll w [(GNC_ACQRES1_RATIO, r.ratio), (GNC_ACQRES1_CODEPH, r.codeph)]
      else if a = GNC_ACQRES2 then putFld w GNC_ACQRES2_DOPP r.dopp
      else if a = GNC_ACQRES3 then BitVec.ofNat 32 r.refms
      else w

/-- Entries in use in a range of the ticket table. -/
def State.entriesIn (s : State) (lo n : Nat) : Nat :=
  (s.sch.tickets.filter (fun p => decide (lo ≤ p.1) && decide (p.1 < lo + n) && p.2.live)).length

def State.viewMesh (s : State) (a : Nat) (w : Word) : Word :=
  if a = RFL0_FMBSTAT then putFld w RFL0_FMBSTAT_BUSY (flag s.fmb.cur.isSome)
  else if a = MAC_NACTIVE then putFld w MAC_NACTIVE_COUNT (s.countState nodeActive)
  else if a = MAC_NADRIFT then putFld w MAC_NADRIFT_COUNT (s.countState nodeAdrift)
  else if a = MAC_NLOST then putFld w MAC_NLOST_COUNT (s.countState nodeLost)
  else if a = SCH_STAT then
    putAll w [(SCH_STAT_RUN, flag s.planning), (SCH_STAT_FIXUSED, s.entriesIn 1920 128),
      (SCH_STAT_POOLUSED, s.entriesIn 0 1920)]
  else w

/-- The oldest descriptor of the mesh egress queue (R271). -/
def State.viewFwd (s : State) (a : Nat) (w : Word) : Word :=
  if a = FWD_MEQCTL then putFld w FWD_MEQCTL_COUNT s.fwd.meq.length
  else if a = FWD_SHSTAT then
    putFld w FWD_SHSTAT_ACTIVE (flag (s.live 0xF && s.isSet FWD_SHCFG_EN && !s.isSet FWD_SHSTAT_STALLED))
  else match s.fwd.meq.head? with
    | none => w
    | some d =>
      if a = FWD_MEQ0 then
        putAll w [(FWD_MEQ0_BANK, d.bank), (FWD_MEQ0_BOFS, d.bofs), (FWD_MEQ0_LEN, d.body.length)]
      else if a = FWD_MEQ1 then putAll w [(FWD_MEQ1_NODEV, 1), (FWD_MEQ1_NODE, d.node)]
      else if a = FWD_MEQ2 then putAll w [(FWD_MEQ2_DESTV, flag d.dest.isSome), (FWD_MEQ2_DEST, d.dest.getD 0)]
      else if a = FWD_MEQ3 then
        putAll w [(FWD_MEQ3_VALID, 1), (FWD_MEQ3_REPEAT, flag d.rep), (FWD_MEQ3_LANE, d.lane)]
      else w

def State.viewSec (s : State) (a : Nat) (w : Word) : Word :=
  if a = SEC_STAT then
    putAll w [(SEC_STAT_PENDJ, s.sec.pendJ.length), (SEC_STAT_EXBUSY, flag (!s.mac.express.isEmpty)),
      (SEC_STAT_SLOTS, min 64 s.mac.input.length)]
  else if a = SEC_JOBRES then
    match s.sec.results.head? with
    | none => 0
    | some r => putAll 0 [(SEC_JOBRES_TAG, r.1), (SEC_JOBRES_VALID, 1), (SEC_JOBRES_STATUS, r.2)]
  else if a = SEC_JOBSTAT then
    putAll w [(SEC_JOBSTAT_RESULTS, s.sec.results.length), (SEC_JOBSTAT_QUEUED, s.sec.jobs.length)]
  else if 0xC0300 ≤ a ∧ a < 0xC0400 then
    let k := (a - 0xC0300) / 0x40
    if a = SEC_CAMPWAIT k then BitVec.ofNat 32 (s.countProgress k [1, 2])
    else if a = SEC_CAMPDONE k then BitVec.ofNat 32 (s.countProgress k [3, 4])
    else if a = SEC_CAMPFAIL k then BitVec.ofNat 32 (s.countProgress k [5])
    else w
  else w

def State.viewRest (s : State) (a : Nat) (w : Word) : Word :=
  if a = PLK_SBSTAT then putFld w PLK_SBSTAT_PARTNERUP (flag s.partner.isSome)
  else if a = CHB_STAT then
    putAll w [(CHB_STAT_HALTED, bitsOf ((List.range 16).map (fun c => (s.core c).halted))),
      (CHB_STAT_CAST, bitsOf ((List.range 16).map (fun c => s.live (0x20 + c))))]
  else if a = CHB_YIELDED then
    putAll w [(CHB_YIELDED_SKIP, bitsOf ((List.range 16).map (fun c => (s.core c).skip))),
      (CHB_YIELDED_YIELDED, bitsOf ((List.range 16).map (fun c => (s.core c).yielded)))]
  else if a = MEM_STAT then putFld w MEM_STAT_NFENCED ((List.range bankCount).filter s.fenced).length
  else if 0xF0100 ≤ a ∧ a < 0xF0400 then
    let b := (a - 0xF0100) / 4
    putFld w (MEM_BANK_OWN_PINNED b) (flag (s.pinned b))
  else if a = HST_ERSTAT then putFld w HST_ERSTAT_HELD s.hst.evBuf.length
  else if 0x100100 ≤ a ∧ a < 0x100200 then
    let q := (a - 0x100100) / 0x20
    if a = HST_QSTAT q then putFld w (HST_QSTAT_INFLIGHT q) (s.queue q).inflight.length else w
  else w

/-! ### Core windows (R32, R389) -/

/-- Half of a 48-bit counter at an offset in its array. -/
def halfOfCnt (t : List (Nat × BitVec 48)) (o : Nat) : Word :=
  let v := tabGet 0 t (o / 8)
  if o % 8 = 0 then v.extractLsb' 0 32 else BitVec.ofNat 32 (v.toNat / 2 ^ 32)

/-- The octet address of R350 that the aperture shows at an offset from W. -/
def State.aperture (s : State) (c o : Nat) : Nat :=
  let base := match s.fld (CHB_CAPCTL_MEM c) with
    | 0 => progBase
    | 1 => 0
    | _ => yBase
  base + s.fld (CHB_CAPCTL_PAGE c) * 0x8000 + (o - 0x8000)

def State.viewCore (s : State) (c o : Nat) (w : Word) : Word :=
  let k := s.core c
  if o = 0 then
    putAll w [(CHB_CSTAT_PC c, k.pc.toNat % 2 ^ 15), (CHB_CSTAT_SKIPNEXT c, flag k.skip), (CHB_CSTAT_WAIT c, flag k.wait),
      (CHB_CSTAT_SHADOW c, flag (!k.levels.isEmpty)),
      (CHB_CSTAT_NEST c, k.levels.length), (CHB_CSTAT_INBEAT c, flag k.inBeat), (CHB_CSTAT_YIELDED c, flag k.yielded),
      (CHB_CSTAT_HALTED c, flag k.halted)]
  else if o = 0x18 then putFld w (CHB_CEVQ_COUNT c) k.evq.length
  else if o = 0x1008 then
    putAll w [(PMU_SAMPSTAT_NEXT c, k.pmu.next), (PMU_SAMPSTAT_FULL c, flag k.pmu.full), (PMU_SAMPSTAT_COUNT c, k.pmu.count)]
  else if 0x1100 ≤ o ∧ o < 0x1280 then halfOfCnt k.pmu.cnt (o - 0x1100)
  else if 0x1400 ≤ o ∧ o < 0x1580 then halfOfCnt k.pmu.snap (o - 0x1400)
  else if 0x2000 ≤ o ∧ o < 0x3000 then ((tabGet [] k.pmu.samples ((o - 0x2000) / 16)).getD ((o - 0x2000) % 16 / 4) 0)
  else if 0x8000 ≤ o then BitVec.ofNat 32 (k.load (s.aperture c o) 4)
  else w

/-! ### Table windows (R33) -/

/-- A predecessor in an entry. -/
def depWord : Option Dep → Nat
  | none => 0
  | some d => d.entry + 2 ^ 11 + d.exp * 2 ^ 12

/-- Word w of a ticket entry (R244). -/
def Ticket.word (t : Ticket) (w : Nat) : Nat :=
  match w with
  | 0 => t.state + flag t.tx * 8 + flag t.fixed * 16 + flag t.listen * 32 + flag t.sent * 64 + flag t.stale * 128
      + t.cause * 2 ^ 8 + t.result * 2 ^ 12 + t.lane * 2 ^ 16 + t.ch * 2 ^ 18 + t.tap * 2 ^ 24 + t.ant * 2 ^ 29
  | 1 => t.beat
  | 2 => t.offset
  | 3 => if t.tx then t.len * 2 ^ 16 else t.guardUs
  | 4 => t.node.getD 0 + flag t.node.isSome * 2 ^ 18
  | 5 => t.dest.getD 0 + flag t.dest.isSome * 2 ^ 18
  | 6 => if t.tx then t.fcnt else 0
  | 7 => t.bank + t.bofs * 2 ^ 8
  | 8 => (match t.tag with
      | none => 0
      | some (tag, q) => tag + q * 2 ^ 16 + 2 ^ 19) + t.try_ * 2 ^ 20 + t.origin * 2 ^ 24
  | 9 => depWord t.dep0 + depWord t.dep1 * 2 ^ 16
  | 10 => t.tid
  | 11 => t.endBeat
  | 12 => t.nframes
  | _ => 0

/-- A word of the regulatory window (spec/08). -/
def State.ledgerWord (s : State) (g e w : Nat) : Word :=
  match w with
  | 3 => BitVec.ofNat 32 (s.budget g e)
  | 4 => BitVec.ofNat 32 (s.used g e s.second)
  | 7 => BitVec.ofNat 32 (s.bucket g e s.second)
  | _ => s.get (ledgerAddr g e w)

/-- The table octet that the FWD window shows at an offset: its table and the offset in the table (R274). -/
def State.fwdPage (s : State) (o : Nat) : Nat × Nat := (s.fld FWD_TWSEL_TABLE, s.fld FWD_TWSEL_PAGE * 0x100000 + o)

/-- A word of the forwarding window; 0 beyond the end of the table. -/
def State.fwdWindow (s : State) (o : Nat) : Word :=
  let (t, x) := s.fwdPage o
  if s.isCast 0xF && decide (x + 4 ≤ s.tabBytes t) then BitVec.ofNat 32 (ofLeBytes (s.cells (s.tabBase t + x) 4)) else 0

/-- The record that the node window shows at an offset. -/
def State.nodePage (s : State) (o : Nat) : Nat := s.fld MAC_NRPAGE_PAGE * 8192 + o / 128

def State.viewTable (s : State) (a : Nat) : Word :=
  let o := a % 0x10000
  match a / 0x10000 with
  | 0x40 => BitVec.ofNat 32 ((s.ticket (o / 64)).word (o % 64 / 4))
  | 0x41 => BitVec.ofNat 32 ((s.ticket (1024 + o / 64)).word (o % 64 / 4))
  | 0x42 => if o % 32 < 16 then s.get a else 0
  | 0x43 => if o / 0x400 < 3 ∧ o % 0x400 / 0x20 < 17 then s.ledgerWord (o / 0x400) (o % 0x400 / 0x20) (o % 0x20 / 4) else 0
  | 0x44 => s.get a &&& readMask a
  | 0x45 => if o < 0x800 then s.get a else 0
  | 0x46 => if o < 0x1000 then s.get a else 0
  | n =>
    if 0x50 ≤ n ∧ n < 0x60 then s.readNodeWord (s.nodePage (a - 0x500000)) (a % 128 / 4)
    else if 0x60 ≤ n ∧ n < 0x70 then s.fwdWindow (a - 0x600000)
    else 0

/-! ### A read -/

/-- A word of the window of a lane that is not cast: all its fields read 0 (spec/07, "Registers"). -/
def State.uncastLane (s : State) (a : Nat) : Bool :=
  decide (0x50000 ≤ a) && decide (a < 0x90000) && !s.isCast (9 + (a - 0x50000) / 0x10000)

/-- The word at an offset, without the effects of a read. -/
def State.view (s : State) (a : Nat) : Word :=
  if s.uncastLane a then 0
  else if 0x101000 ≤ a ∧ a < 0x102000 then
    if a < 0x101200 ∨ a = msixPending then s.get a else 0
  else if 0xD1000 ≤ a ∧ a < 0xD1800 then BitVec.ofNat 32 (s.peerWord ((a - 0xD1000) / 32) (a % 32 / 4))
  else if 0xC1000 ≤ a ∧ a < 0xC2000 then s.get a
  else if 0x200000 ≤ a ∧ a < 0x300000 then
    s.viewCore ((a - 0x200000) / 0x10000) (a % 0x10000) (s.get a &&& readMask a)
  else if 0x400000 ≤ a then s.viewTable a
  else
    let w := s.get a &&& readMask a
    match a / 0x10000 with
    | 0 => s.viewMgt a w
    | 1 => s.viewTim a w
    | 3 => s.viewGnc a w
    | 5 => s.viewMesh a w
    | 9 => s.viewMesh a w
    | 10 => s.viewMesh a w
    | 11 => s.viewFwd a w
    | 12 => s.viewSec a w
    | _ => s.viewRest a w

/-- Figures of the environment that a chain's registers show: its gain, its blanked and saturated fractions (R102, R103);
nothing constrains them (log entry 41). -/
def State.viewFree (s : State) (a : Nat) (w : Word) : Word × State :=
  let b := if a / 0x80 % 2 = 0 then 0 else 1
  if a = GNF_AGC b then
    let (g, s) := s.gainNow b
    (putFld w (GNF_AGC_GAIN b) g, s)
  else if a = GNF_STAT b then
    let (f, s) := s.fresh
    let w := if s.isSet (GNF_CTL_BLANKEN b) then putFld w (GNF_STAT_BLANKFRAC b) f else putFld w (GNF_STAT_BLANKFRAC b) 0
    let (g, s) := s.fresh
    (putFld w (GNF_STAT_SATFRAC b) g, s)
  else if s.uncastLane a then (0, s)
  else if 5 ≤ a / 0x10000 ∧ a / 0x10000 < 9 ∧ a % 0x10000 = 0x18 then
    let n := a / 0x10000 - 5
    let (g, s) := s.laneGain n
    (putFld w (RFL_AGC_GAIN n) g, s)
  else (w, s)

/-- The captures that a read makes (R20, R190, R391, R452). -/
def State.readEffects (s : State) (a : Nat) : State :=
  if a = TIM_BEATCNT then s.capture TIM_BEATPOS s.beatPosWord
  else if a = TIM_NOW0 then s.latchNow
  else if a = BKP_TIME then s.capture BKP_DATE (s.get BKP_DATE)
  else if 0x200000 ≤ a ∧ a < 0x300000 ∧ 0x1100 ≤ a % 0x10000 ∧ a % 0x10000 < 0x1280 ∧ a % 8 = 0 then
    s.capture (a + 4) (s.view (a + 4))
  else s

/-- A window that answers in DORMANT (R67). -/
def dormantWindow (a : Nat) : Bool := [0, 1, 0x10, 0x11].contains (a / 0x10000)

/-- The registers that answer while a stage 1 failure is held (R76). -/
def afterStage1 (a : Nat) : Bool :=
  [MGT_DEVID, MGT_REVID, MGT_UID_LO, MGT_UID_HI, MGT_MODE, MGT_ASSAY, MGT_ASSAYCTL].contains a

/-- A read of the word at an offset: what it returns, and what it does. A captured word is returned once (R20). What a
register that does not answer reads as after a stage 1 failure is free (R76, log entry 44). -/
def State.busRead (s : State) (a : Nat) : Word × State :=
  let a := a / 4 * 4
  if s.mode == modeDormant && !dormantWindow a then (0, s)
  else if s.sys.phase == .assay1Failed && !afterStage1 a then
    let (v, s) := s.fresh
    (BitVec.ofNat 32 v, s)
  else if a = SEC_TRNG then s.trngRead
  else
    match s.captured a with
    | some w => (w, s.release a)
    | none =>
      let w := s.view a
      let s := s.readEffects a
      s.viewFree a w

end Sys2Proof.Machine
end

