-- ==== Sys2Proof/Machine/Judge.lean ====
section
/-! DEFINITION. The judgement of a register write (spec/03 R93 to R97, with the conditions of the other chapters), and the
storing of a written word under its field types (spec/00 R5). -/

namespace Sys2Proof.Machine

open Sys2Proof.Fields

/-! ### Causes (R95) -/

def rjReserved : Nat := 1
def rjCl : Nat := 2
def rjNarrow : Nat := 3
def rjRange : Nat := 4
def rjHeld : Nat := 5
def rjMode : Nat := 6
def rjBusy : Nat := 7

/-! ### Where a write may go (R30 to R33) -/

def resetIdOk (v : Nat) : Bool := (decide (1 ≤ v) && decide (v ≤ 0x13)) || (decide (0x20 ≤ v) && decide (v ≤ 0x2F))

/-- A value is no reserved encoding of its field (R94). -/
def Dom.allows (d : Dom) (len v : Nat) : Bool :=
  match d with
  | .any => true
  | .rng lo hi => decide (lo ≤ v) && decide (v ≤ hi)
  | .among vs => vs.contains v
  | .srng lo hi => decide (lo ≤ toSigned len v) && decide (toSigned len v ≤ hi)
  | .resetId => resetIdOk v

/-- A register of the index has a field that a write can act on. -/
def RSpec.writable (r : RSpec) : Bool := r.flds.any (fun f => f.ty != .RO)

/-- The slice of a word in the slice window or among the prediction slots. -/
def sliceOf (a : Nat) : Option Nat :=
  if 0x440000 ≤ a ∧ a < 0x450000 then some ((a - 0x440000) / 256)
  else if 0x44000 ≤ a ∧ a < 0x47000 then some ((a - 0x44000) / 0x40)
  else none

/-- A word of an allocated slice, and in the window one that is not read-only (R113, R158). -/
def State.sliceWord (s : State) (a : Nat) : Bool :=
  match sliceOf a with
  | none => true
  | some i =>
    decide (i < s.fld GNC_PLAN_NSLICES) &&
      (match regAt a with
       | some r => r.writable
       | none => false)

/-- A word of a node record that the host may write (R229, R304). -/
def nodeWritable (w : Nat) : Bool := !(decide (4 ≤ w) && decide (w < 8)) && !(decide (16 ≤ w) && decide (w < 28))

/-- An offset is assigned, and its word is not one of a read-only table. -/
def State.assigned (s : State) (a : Nat) : Bool :=
  let o := a % 0x10000
  if 0xD1000 ≤ a ∧ a < 0xD1800 then false
  else if 0xC1000 ≤ a ∧ a < 0xC2000 then true
  else if 0x101000 ≤ a ∧ a < 0x102000 then decide (a < 0x101200) || a / 8 == msixPending / 8
  else if 0x200000 ≤ a ∧ a < 0x300000 then
    (regAt a).isSome || (decide (0x1400 ≤ o) && decide (o < 0x1580)) || decide (0x8000 ≤ o)
  else if a < 0x120000 then (regAt a).isSome && s.sliceWord a
  else
    match a / 0x10000 with
    | 0x42 => true
    | 0x44 => s.sliceWord a
    | 0x46 => decide (o < 0x1000)
    | n =>
      if 0x50 ≤ n ∧ n < 0x60 then nodeWritable (a % 128 / 4)
      else if 0x60 ≤ n ∧ n < 0x70 then
        let p := s.fwdPage (a - 0x600000)
        decide (p.2 + 4 ≤ s.tabBytes p.1)
      else false

/-- The window is one of R30 that a station, a core or a table has. -/
def windowed (a : Nat) : Bool :=
  decide (a < 0x120000) || (decide (0x200000 ≤ a) && decide (a < 0x300000)) || (decide (0x400000 ≤ a) && decide (a < 0x800000))

/-! ### Mode (R67, R69, R76, R77, R121, R190, R208) -/

/-- A mode request is permitted from the current mode (R69). -/
def State.mayRequest (s : State) (m : Nat) : Bool :=
  if m = modeDormant then s.mode != modeDormant
  else if m = modeAnneal then s.mode != modeAnneal
  else s.mode == modeAnneal || s.serving

def State.modeReject (s : State) (a : Nat) (v : Word) : Bool :=
  (s.mode == modeDormant && windowed a && !dormantWindow a)
    || (s.sys.phase == .assay1Failed && !afterStage1 a)
    || (a == TIM_SETSEC && s.mode != modeSurvey)
    || (a == MGT_ASSAYCTL && getFld v MGT_ASSAYCTL_RUN == 1 && s.mode != modeAnneal)
    || (a == MGT_MODEREQ && [1, 2, 3].contains (getFld v MGT_MODEREQ_REQ) && getFld v MGT_MODEREQ_REQ != s.mode
        && !s.mayRequest (getFld v MGT_MODEREQ_REQ))
    || (a == GNC_SNAPCTL && getFld v GNC_SNAPCTL_START == 1 && !s.beating)
    || (a / 0x10000 == 0x42 && s.mode != modeAnneal)

/-! ### Held functions (R47, R61) -/

def State.heldReject (s : State) (a : Nat) (v : Word) : Bool :=
  (match funcOf a with
   | some f => !s.live f
   | none => false)
    || ((sliceOf a).isSome && !s.live 7)
    || (a == MGT_FRESET && resetIdOk (getFld v MGT_FRESET_ID) && !s.isCast (getFld v MGT_FRESET_ID))
    || (decide (0xF0100 ≤ a) && decide (a < 0xF0400) && s.fenced ((a - 0xF0100) / 4))

/-! ### Commands in progress -/

/-- A write that changes no field of HST_QnCFG but EN. -/
def State.onlyEn (s : State) (a : Nat) (v : Word) : Bool :=
  (s.get a ^^^ v) &&& readMask a &&& 0x7FFFFFFF == 0#32

/-- A start is in progress that has not reached ready and does not wait for the host (R73). -/
def State.starting (s : State) : Bool :=
  s.mode == modeAnneal && !([Phase.ready, Phase.running, Phase.awaitHost].contains s.sys.phase)

/-- What a command in progress rejects. DESIGN CHOICE (log entry 59): a request of the current mode has no effect during a transition
too. -/
def State.busyReject (s : State) (a : Nat) (v : Word) : Bool :=
  if a = MGT_MODEREQ then
    let m := getFld v MGT_MODEREQ_REQ
    m != s.mode && (s.sys.trans != .none || (s.starting && m != modeSurvey))
  else if a = MGT_ASSAYCTL then getFld v MGT_ASSAYCTL_RUN == 1 && (s.starting || s.sys.job.isSome)
  else if a = RFL0_FMBXFER then getFld v RFL0_FMBXFER_GO == 1 && s.fmb.cur.isSome
  else if a = GNC_SNAPCTL then s.gnss.snap.isSome && (getFld v GNC_SNAPCTL_ABORT == 0 || getFld v GNC_SNAPCTL_START == 1)
  else if a = FWD_CMD then getFld v FWD_CMD_GO == 1 && s.isSet FWD_CMD_BUSY
  else if a / 0x100000 = 6 then !(s.fld FWD_LOCK_LOCKED).testBit (s.fld FWD_TWSEL_TABLE)
  else if 0xC1000 ≤ a ∧ a < 0xC2000 then s.mailBusy ((a - 0xC1000) / 256)
  else if 0xC0200 ≤ a ∧ a < 0xC0240 ∧ a % 16 = 0 then
    getFld v (SEC_IMGCFG_DROP 0) == 1 && s.imageUsed ((a - 0xC0200) / 16)
  else if 0xC0300 ≤ a ∧ a < 0xC0400 then
    let k := (a - 0xC0300) / 0x40
    if a = SEC_CAMPCFG k then s.camp k != 0 && getFld v (SEC_CAMPCFG_IMG k) != s.fld (SEC_CAMPCFG_IMG k)
    else if a = SEC_CAMPCTL k then v.toNat % 16 &&& campExits (s.camp k) != v.toNat % 16
    else false
  else if a = PLK_HOCMD then getFld v PLK_HOCMD_GO == 1 && s.isSet PLK_HOCMD_BUSY
  else if 0x100100 ≤ a ∧ a < 0x100200 then
    let q := (a - 0x100100) / 0x20
    let o := a % 0x20
    s.isSet (HST_QCFG_EN q) && decide (o < 0x14) && !(o == 0 && s.onlyEn a v)
  else if 0x110000 ≤ a ∧ a < 0x120000 then s.isSet BKP_STAT_BUSY
  else if 0xF0100 ≤ a ∧ a < 0xF0400 then s.isSet (MEM_BANK_OWN_PENDING ((a - 0xF0100) / 4))
  else if 0x200000 ≤ a ∧ a < 0x300000 then
    let c := (a - 0x200000) / 0x10000
    if a = CHB_COFFER1 c then getFld v (CHB_COFFER1_GO c) == 1 && s.isSet (CHB_COFFER1_BUSY c)
    else decide (0x8000 ≤ a % 0x10000) && s.fld (CHB_CAPCTL_MEM c) == 0 && s.coreRuns c && !(s.core c).halted
  else false

/-! ### Contradictions of the casting (R5, R274, R405) -/

def State.clReject (s : State) (a : Nat) (v : Word) : Bool :=
  (match regAt a with
   | none => false
   | some r => r.flds.any (fun f => f.ty == .CL && getFld v ⟨a, f.lo, f.len⟩ != getFld (s.get a) ⟨a, f.lo, f.len⟩))
    || (decide (0xF0100 ≤ a) && decide (a < 0xF0400) && s.pinned ((a - 0xF0100) / 4))

/-! ### Reserved encodings (R94) -/

/-- Events marked "A" (R392). -/
def attributed (k : Nat) : Bool :=
  [3, 4, 9, 10, 11, 12, 14, 15, 16, 17, 18, 19, 20, 21, 22, 23, 24, 25, 26, 27, 28, 29, 30, 31, 38, 43].contains k

/-- A priority list names a reference twice. -/
def repeats (none a b c : Nat) : Bool :=
  (a != none && (a == b || a == c)) || (b != none && b == c)

/-- Half of the period of a time pulse in µs, doubled: the least reserved width is half of it (R186). -/
def State.tpPeriodUs (s : State) (p : Nat) : Nat :=
  match p with
  | 0 => 1000000
  | 1 => 100000
  | 2 => 10000
  | 3 => 1000
  | 4 => s.beatTicks * 100 / 49152
  | _ => 1000000

/-- A word of a slice's control block (R99, R109, R146). -/
def sliceReserved (a : Nat) (old v : Word) : Bool :=
  match a % 256 with
  | 0 =>
    let sig := cfgSignal old
    let per := match signalOf sig with
      | some g => g.period
      | none => 1
    (cfgSvid v != 0 && !signalOk sig (cfgSvid v)) || (cfgSvid v == 0 && cfgEnable v) || cfgIntms v % per != 0
  | 4 => decide (getFld v (SL_TAPS_VHALF 0) ≤ getFld v (SL_TAPS_ELHALF 0))
  | 0x8C => decide (604800000 ≤ v.toNat) && v != 0xFFFFFFFF
  | _ => false

/-- A word of a node record (R227, R229, R304). -/
def State.nodeReserved (s : State) (i w : Nat) (v : Word) : Bool :=
  match w with
  | 2 =>
    let st := getFld v NR_STATE
    let old := s.nodeState i
    decide (0xFF00 ≤ getFld v NR_SHORT)
      || (st != old && !(st == nodeFree || (st == nodeProvisioned && (old == nodeFree || old == nodeLost))))
  | 8 => getFld v NR_UPPER != 0 && decide (getFld v NR_UPPER ≤ getFld v NR_UPPHASE)
  | 10 => getFld v NR_SPER != 0 && decide (getFld v NR_SPER ≤ getFld v NR_SPHASE)
  | 11 => decide (5 < getFld v NR_HOPS)
  | 28 => decide (5 < getFld v NR_PSTATE)
  | _ => false

/-- A direct write of a reserved short address, peer port or action (R270, R275, R277), or one to the VALID word of an entry
that would repeat a key (R288). -/
def State.fwdDup (s : State) (o : Nat) (v : Word) : Bool :=
  let p := s.fwdPage o
  let i := p.2 / entryBytes p.1
  let w := p.2 % entryBytes p.1 / 4
  let ws := (s.entry p.1 i).set w v.toNat
  if p.1 = 0 ∧ w = 2 ∧ 0xFF00 ≤ v.toNat % 2 ^ 16 then true
  else if p.1 = 1 ∧ w = 0 ∧ v.getLsbD 16 ∧ v.getLsbD 19 then true
  else if p.1 = 2 ∧ w = 4 ∧ 5 ≤ v.toNat / 256 % 16 then true
  else if p.1 < 2 ∧ w = validWord p.1 ∧ v.getLsbD 31 then
    if p.1 = 0 then s.nodeDup i ws
    else (s.nbrFind (nbrKey v.toNat)).any (· != i)
  else false

/-- Encodings that are reserved by the values of several fields, or by the state. -/
def State.crossReserved (s : State) (a : Nat) (v : Word) : Bool :=
  let g (f : Fld) : Nat := getFld v f
  if a = MGT_WAKECFG then g MGT_WAKECFG_TIMER == 1 && g MGT_WAKECFG_DURATION == 0
  else if a = TIM_TREFCFG then repeats 0 (g TIM_TREFCFG_PRI0) (g TIM_TREFCFG_PRI1) (g TIM_TREFCFG_PRI2)
  else if a = TIM_FREFCFG then
    let l := [g TIM_FREFCFG_PRI0, g TIM_FREFCFG_PRI1, g TIM_FREFCFG_PRI2]
    !l.contains 0 || repeats 3 (g TIM_FREFCFG_PRI0) (g TIM_FREFCFG_PRI1) (g TIM_FREFCFG_PRI2)
  else if a = TIM_TPCFG 0 ∨ a = TIM_TPCFG 1 then
    let w := g (TIM_TPCFG_WIDTH 0)
    w == 0 || decide (s.tpPeriodUs (g (TIM_TPCFG_PERIOD 0)) ≤ 2 * w)
  else if a = GNC_ACQW0 then !signalOk (g GNC_ACQW0_SIGNAL) (g GNC_ACQW0_SVID)
  else if a = GNT_MRTAIL then v.toNat % 8 != 0 || decide (s.mrSize ≤ v.toNat)
  else if a = HST_ERTAIL then v.toNat % 32 != 0 || decide (s.erSize ≤ v.toNat)
  else if a = HST_XRTAIL then v.toNat % 128 != 0 || decide (s.xrSize ≤ v.toNat)
  else if 0x440000 ≤ a ∧ a < 0x450000 then sliceReserved a (s.get a) v
  else if 0x44000 ≤ a ∧ a < 0x47000 ∧ a % 16 = 12 then v.toNat % 4 != a / 16 % 4
  else if 0x50000 ≤ a ∧ a < 0x90000 ∧ a % 0x10000 = 0x10 then
    let n := (a - 0x50000) / 0x10000
    let p := toSigned 8 (g (RFL_TXCFG_PWR n))
    decide (p < -20) || decide ((if s.band n = 2 then 20 else 28) < p)
  else if a = FWD_TWSEL then
    let pages := match g FWD_TWSEL_TABLE with
      | 0 => 2
      | 2 => 8
      | _ => 1
    decide (pages ≤ g FWD_TWSEL_PAGE)
  else if a = FWD_CMD then decide (4 < g FWD_CMD_OP) || (g FWD_CMD_OP == 4 && g FWD_CMD_TABLE == 0)
  else if a = SEC_BKEY then (s.key (2 + g SEC_BKEY_NEXT)).isNone
  else if a = SEC_JOBD0 then
    let k := g SEC_JOBD0_KEYSLOT
    g SEC_JOBD0_OP == 4 && k != 1 && !(decide (8 ≤ k) && decide (k ≤ 71))
  else if a = SEC_JOBCTL then g SEC_JOBCTL_PUSH == 1 && s.fld SEC_JOBD0_OP == 0
  else if 0xC0300 ≤ a ∧ a < 0xC0400 then
    let k := (a - 0xC0300) / 0x40
    let hi := if a = SEC_CAMPCFG k then g (SEC_CAMPCFG_TDIVHI k) else s.fld (SEC_CAMPCFG_TDIVHI k)
    let lo := if a = SEC_CAMPTDIV k then g (SEC_CAMPTDIV_TDIVLO k) else s.fld (SEC_CAMPTDIV_TDIVLO k)
    (a == SEC_CAMPCFG k || a == SEC_CAMPTDIV k) && (decide (64 * hi + lo < 2) || decide (64 < 64 * hi + lo))
  else if 0x100100 ≤ a ∧ a < 0x100200 ∧ a % 0x20 = 0 then g (HST_QCFG_LOCAL 0) == 1 && decide (g (HST_QCFG_OWNER 0) < 16)
  else if 0x110000 ≤ a ∧ a < 0x120000 then s.bkpReserved a v
  else if 0x200000 ≤ a ∧ a < 0x300000 then
    let c := (a - 0x200000) / 0x10000
    if a = CHB_CAPCTL c then g (CHB_CAPCTL_MEM c) != 0 && decide (1 < g (CHB_CAPCTL_PAGE c))
    else if a = PMU_SAMPCFG c then !attributed (g (PMU_SAMPCFG_SEVT c))
    else if (List.range 4).any (fun j => a == PMU_THR c j) then decide (7 < g (PMU_THR_OCC c 0))
    else false
  else if 0x460000 ≤ a ∧ a < 0x461000 then s.leapReject ((a - 0x460000) / 16) (a % 16 / 4) v == some rjReserved
  else if 0x500000 ≤ a ∧ a < 0x600000 then s.nodeReserved (s.nodePage (a - 0x500000)) (a % 128 / 4) v
  else if 0x600000 ≤ a ∧ a < 0x700000 then s.fwdDup (a - 0x600000) v
  else false

/-- A field of the written word holds a value outside its encodings. -/
def fieldReserved (a : Nat) (v : Word) : Bool :=
  match regAt a with
  | none => false
  | some r => r.flds.any (fun f => (f.ty == .RW || f.ty == .WO) && !f.dom.allows f.len (getFld v ⟨a, f.lo, f.len⟩))

/-! ### The judgement (R95) -/

/-- The leap-second table's own read-only entries (R164). -/
def State.leapFixed (s : State) (a : Nat) (v : Word) : Bool :=
  decide (0x460000 ≤ a) && decide (a < 0x461000) && s.leapReject ((a - 0x460000) / 16) (a % 16 / 4) v == some rjRange

/-- A write of OWNER that names the current owner has no effect in every case (R403). -/
def State.sameOwner (s : State) (a : Nat) (v : Word) : Bool :=
  decide (0xF0100 ≤ a) && decide (a < 0xF0400) && v.toNat % 32 == s.owner ((a - 0xF0100) / 4)

/-- The cause for which a write is rejected: the first of R95 that applies. -/
def State.judge (s : State) (a : Nat) (width : AccWidth) (v : Word) : Option Nat :=
  if s.modeReject a v then some rjMode
  else if !s.assigned a || s.leapFixed a v then some rjRange
  else if s.sameOwner a v then (if width = .word then none else some rjNarrow)
  else if s.heldReject a v then some rjHeld
  else if s.busyReject a v then some rjBusy
  else if width ≠ .word then some rjNarrow
  else if s.clReject a v then some rjCl
  else if fieldReserved a v || s.crossReserved a v then some rjReserved
  else none

/-! ### Storing (R5, R93) -/

/-- Bits of a table word that a write stores; the others are reserved. -/
def tableMask (a : Nat) : Word :=
  match a / 0x10000 with
  | 0x42 =>
    match a % 32 / 4 with
    | 0 => 0xFFFFFFFF
    | 1 => 0xC0FFFFFF
    | 2 => 0xFFFFFFFF
    | 3 => 0xFFFFFFFF
    | _ => 0
  | 0x46 =>
    match a % 16 / 4 with
    | 0 => 0xFFFFFFFF
    | 1 => 0xFFFF
    | 2 => 0x1FFFF
    | _ => 0
  | 0x0C => 0xFFFFFFFF
  | 0x10 => if a < 0x101200 then (if a % 16 = 12 then 1 else 0xFFFFFFFF) else 0
  | _ => 0

/-- A field of a stored word after a write. -/
def FSpec.store (f : FSpec) (a : Nat) (old v w : Word) : Word :=
  let p : Fld := ⟨a, f.lo, f.len⟩
  match f.ty with
  | .RW => putFld w p (getFld v p)
  | .W1C => putFld w p (getFld old p &&& (2 ^ f.len - 1 - getFld v p))
  | .WO => if 0xC00A8 ≤ a ∧ a < 0xC00C0 then putFld w p (getFld v p) else w
  | _ => w

/-- The word that a register holds after a write of v over `old`. -/
def mergeWord (a : Nat) (old v : Word) : Word :=
  match regAt a with
  | some r => r.flds.foldl (fun w f => f.store a old v w) old
  | none => (old &&& ~~~(tableMask a)) ||| (v &&& tableMask a)

/-- A written word is stored; a W1C bit that the device has set in this tick stays (R5). An adaptive notch keeps its frequency; bit 14 of L2MASK stays 1. -/
def State.storeWord (s : State) (a : Nat) (v : Word) : State :=
  let old := s.get a
  let w := mergeWord a old v ||| (old &&& s.setNow a)
  let w := if 0x20010 ≤ a ∧ a < 0x200A0 ∧ 0x10 ≤ a % 0x80 ∧ a % 0x80 < 0x20 ∧ getFld w (GNF_NOTCH_MODE 0 0) = 1 then
    putFld w (GNF_NOTCH_FREQ 0 0) (getFld old (GNF_NOTCH_FREQ 0 0)) else w
  let w := if 0x200000 ≤ a ∧ a < 0x300000 ∧ a % 0x10000 = 0x14 then w ||| 0x40000000 else w
  s.put a w

end Sys2Proof.Machine
end

