-- ==== Sys2Proof/Machine/Image.lean ====
section
/-! DEFINITION. A casting as an image: its header, records and Hallmark, and the checks of steps 2 and 3 of R55 (spec/02 R39 to
R43, R48, R59). -/

namespace Sys2Proof.Machine

open Sys2Proof.Fields

/-- The causes of MGT_CASTERR. -/
def ceHeader : Nat := 0x01
def ceRecCrc : Nat := 0x02
def ceType : Nat := 0x03
def ceOrder : Nat := 0x04
def ceLength : Nat := 0x05
def ceSignature : Nat := 0x06
def ceEndorse : Nat := 0x07
def ceRollback : Nat := 0x08
def cePart : Nat := 0x09
def ceBaseId : Nat := 0x0A
def ceSemantic : Nat := 0x0B
def ceStructure : Nat := 0x0C
def ceMode : Nat := 0x0D
def ceBusy : Nat := 0x0E
def ceTooBig : Nat := 0x0F
def ceSource : Nat := 0x10
def ceMissing : Nat := 0x11
def ceStaging : Nat := 0x12
def ceTarget : Nat := 0x13

/-- RECIDX for the header and the Hallmark. -/
def noRec : Nat := 0xFFFF

/-- A failure: cause and record index. -/
abbrev CFail := Nat × Nat

/-! ### Records (R40) -/

/-- A record with what its CRC says. -/
structure RawRec where
  body : CRec
  crcOk : Bool

/-- The records in n octets from an index on; a malformed LENGTH fails with the record's index. DESIGN CHOICE (log entry 62): a LENGTH that
is malformed comes before every other check of the records; reserved bits of a record's header and padding are not looked at. -/
def readRecs : Nat → Nat → Nat → List Byte → Except CFail (List RawRec)
  | 0, _, _, _ => .ok []
  | fuel + 1, idx, n, bs =>
    if n = 0 then .ok []
    else
      let head := imgWord bs 0
      let len := imgWord bs 4
      let total := (12 + len + 7) / 8 * 8
      if n < 8 ∨ len < 4 ∨ 0x100000 < len ∨ len % 4 ≠ 0 ∨ n < total then .error (ceLength, idx)
      else
        let body := bs.take (8 + len)
        let r : RawRec := ⟨⟨head % 256, head / 256 % 256, bytesWords (len / 4) (body.drop 8)⟩,
          imgWord bs (8 + len) == crc32 body⟩
        match readRecs fuel (idx + 1) (n - total) (bs.drop total) with
        | .ok rs => .ok (r :: rs)
        | .error e => .error e

/-- Index of the first record of which a condition holds. -/
def firstBad (p : CRec → Bool) (rs : List CRec) : Option Nat := rs.findIdx? p

/-! ### Types and targets (R43, R59) -/

def isLane (t : Nat) : Bool := decide (9 ≤ t) && decide (t ≤ 0xC)
def isCore (t : Nat) : Bool := decide (0x20 ≤ t) && decide (t ≤ 0x2F)

/-- A record's TYPE and TARGET are permitted together. -/
def typeOk (ty t : Nat) : Bool :=
  match ty with
  | 1 => t == 0 || isLane t || isCore t
  | 2 => t == 0
  | 3 => isLane t
  | 4 => t == 7
  | 5 => t == 0
  | 6 => t == 0 || resetIdOk t
  | 7 => isCore t
  | 8 => isCore t
  | 9 => t == 0xF
  | 10 => t == 0xD
  | 11 => t == 0 || resetIdOk t
  | 12 => t == 0 || resetIdOk t
  | _ => false

/-- A pair of neighbouring records is in order, and repeats no pair but PROGRAM and INIT (R42). -/
def ordered (a b : CRec) : Bool :=
  decide (a.ty < b.ty) || (a.ty == b.ty && (decide (a.tgt < b.tgt) || (a.tgt == b.tgt && (a.ty == ctProgram || a.ty == ctInit))))

/-- Index of the first record out of order. -/
def orderFail : Nat → List CRec → Option Nat
  | i, a :: b :: r => if ordered a b then orderFail (i + 1) (b :: r) else some (i + 1)
  | _, _ => none

/-! ### The header (R39) -/

/-- What step 2 of R55 finds wrong with the header of an image; `rev` is MGT_REVID.BASE and `running` MGT_CASTID. DESIGN CHOICE (log
entry 62): bits of words 0x08 and 0x1C that the table gives no field are reserved bytes of R39 too. -/
def headerFail (rev running : Nat) (bs : List Byte) : Option Nat :=
  let w (i : Nat) : Nat := imgWord bs (4 * i)
  let flags := w 1 / 2 ^ 16
  let part := flags.testBit 0
  let tgt := w 7 % 256
  if bs.length < 64 ∨ w 0 ≠ 0x54534143 ∨ w 15 ≠ crc32 (bs.take 0x3C) then some ceHeader
  else if w 1 % 2 ^ 16 ≠ 1 ∨ 3 ≤ flags ∨ w 2 / 2 ^ 20 ≠ 0 ∨ w 7 / 256 ≠ 0 ∨ (List.range 7).any (fun k => w (8 + k) != 0) then
    some ceHeader
  else if w 5 = 0 ∨ w 4 = 0 ∨ (!part && (w 6 != 0 || tgt != 0)) then some ceHeader
  else if w 2 % 2 ^ 16 ≠ 0x9640 ∨ w 2 / 2 ^ 16 % 16 < 2 ∨ rev < w 2 / 2 ^ 16 % 16 then some cePart
  else if (if part then 0x100000 else 0x800000) < w 3 then some ceTooBig
  else if part && w 6 != running then some ceBaseId
  else if part && !resetIdOk tgt then some ceTarget
  else none

/-! ### Steps 2 and 3 (R55) -/

/-- The record rules of a partial casting (R59). -/
def partialRecOk (tgt : Nat) (r : CRec) : Bool := r.tgt == tgt && r.ty != ctBankmap && r.ty != ctBeat

/-- A staged image read as a casting, or the first failure of steps 2 and 3. DESIGN CHOICE (log entry 62): an image that is not as long as
its IMAGELEN fails with LENGTH and RECIDX 0xFFFF; an IMAGELEN that leaves no room for header and Hallmark, or is no multiple of 8, is a
malformed header. -/
def readCasting (rev running : Nat) (bs : List Byte) : Except CFail Casting :=
  match headerFail rev running bs with
  | some c => .error (c, noRec)
  | none =>
    let w (i : Nat) : Nat := imgWord bs (4 * i)
    let n := w 3
    let flags := w 1 / 2 ^ 16
    let part := flags.testBit 0
    if bs.length ≠ n then .error (ceLength, noRec)
    else if n < 64 + hallmarkLen ∨ n % 8 ≠ 0 then .error (ceHeader, noRec)
    else
      match readRecs (n / 16 + 1) 0 (n - 64 - hallmarkLen) (bs.drop 64) with
      | .error e => .error e
      | .ok raw =>
        let rs := raw.map (fun r => r.body)
        let hm := bs.drop (n - hallmarkLen)
        if rs.length ≠ w 4 then .error (ceHeader, noRec)
        else
          match raw.findIdx? (fun r => !r.crcOk),
                firstBad (fun r => !typeOk r.ty r.tgt || (part && !partialRecOk (w 7 % 256) r)) rs, orderFail 0 rs with
          | some i, _, _ => .error (ceRecCrc, i)
          | none, some i, _ => .error (ceType, i)
          | none, none, some i => .error (ceOrder, i)
          | none, none, none =>
            if !hallmarkOk hm then .error (ceHeader, noRec)
            else
              let m := readHallmark hm
              .ok { partialC := part, autoAdv := flags.testBit 1, castId := w 5, target := w 7 % 256, arbVer := m.arbVer,
                    keyId := m.keyId, recs := rs }

/-- Step 4 of R55: the signatures and the anti-rollback counter (R49, R50). -/
def signatureFail (arb : Nat) (bs : List Byte) : Option Nat :=
  let ofs := bs.length - hallmarkLen
  let m := readHallmark (bs.drop ofs)
  match checkHallmark m (imageDigest bs ofs) with
  | .endorse => some ceEndorse
  | .signature => some ceSignature
  | .ok => if m.arbVer < arb then some ceRollback else none

end Sys2Proof.Machine
end

