-- ==== Sys2Proof/Machine/Casting.lean ====
section
/-! DEFINITION. What the records of a casting fix (spec/02 R43 and the payload rules of the other chapters): each record fills the
CL fields, tables and memories that its chapter names, and each record's rules are judged on the structure so filled. -/

namespace Sys2Proof.Machine

open Sys2Proof.Fields

/-- Word i of a payload. -/
def CRec.w (r : CRec) (i : Nat) : Nat := r.words.getD i 0

/-- Bits [hi:lo] of word i. -/
def CRec.f (r : CRec) (i lo len : Nat) : Nat := r.w i / 2 ^ lo % 2 ^ len

/-- Octet k of a payload. -/
def CRec.octet (r : CRec) (k : Nat) : Nat := r.w (k / 4) / 2 ^ (8 * (k % 4)) % 256

/-- A word of a payload in the layout of a register: the register's fields of it. -/
def State.putLayout (s : State) (a v : Nat) : State := s.put a (BitVec.ofNat 32 v &&& readMask a)

/-! ### CLOCK, BANKMAP, BEAT (R441, R403, R479) -/

/-- The STEP that a CLOCK record gives core c; 0b00 where no entry names it. -/
def CRec.coreStep (r : CRec) (c : Nat) : Nat :=
  match r.words.find? (fun w => w % 256 == 36 + c) with
  | some w => w / 256 % 4
  | none => 0

def State.castClock (s : State) (r : CRec) : State :=
  let cs := if r.tgt = 0 then List.range 16 else if isCore r.tgt then [r.tgt - 0x20] else []
  cs.foldl (fun s c => s.setFld ⟨MGT_CLKCORE, 2 * c, 2⟩ (r.coreStep c)) s

def State.castBanks (s : State) (r : CRec) : State :=
  (List.range bankCount).foldl (fun s b => s.setFld (MEM_BANK_OWN_OWNER b) (r.octet b)) s

def State.castBeat (s : State) (r : CRec) : State :=
  (((s.putLayout TIM_BEATGEOM (r.w 0)).putLayout TIM_SFPHASE (r.w 1)).putLayout CHB_BEATDL (r.w 2)).putLayout SCH_CFG (r.w 3)

/-! ### LANEPLAN (R194, R196, R198) -/

/-- Weight of a tap with a profile (R198). -/
def profWeight (phy rate : Nat) : Nat := if phy = 1 ∧ rate ≤ 1 then 1 else 2

/-- Capture width in Hz. -/
def capWidth (c : Nat) : Nat := 1000000 * 2 ^ c

/-- Channeliser window in Hz (R198). -/
def profWindow (fast : Bool) (phy rate : Nat) : Nat :=
  if phy = 3 then 2560000
  else if rate ≤ 1 then (if fast then 320000 else if rate = 0 then 160000 else 320000)
  else 640000

def State.castLane (s : State) (r : CRec) : State :=
  let n := r.tgt - 9
  let s := s.putLayout (RFL_CAPCTR n) (r.w 1)
  let s := s.put (RFL_RXLO n) (BitVec.ofNat 32 (r.w 1 - (capWidth (r.f 0 4 3) / 2 + 1000000)))
  let s := (List.range 8).foldl (fun s p => s.putLayout (RFL_PROF n p) (r.w (2 + p))) s
  let s := (List.range 32).foldl (fun s k => s.putLayout (RFL_TAP n k) (r.w (10 + k))) s
  let s := (List.range 64).foldl (fun s c => s.putLayout (RFL_CH n c) (r.w (42 + c))) s
  let nf := r.f 106 0 6
  let s := (List.range 32).foldl (fun s k => s.putLayout (RFL_FMB n k) (if k < nf then r.w (107 + k) else 0)) s
  let taps := (List.range 32).filter (s.tapCast n)
  let weight := (taps.map (fun k =>
    let p := s.fld (RFL_TAP_PROF n k)
    profWeight (s.fld (RFL_PROF_PHY n p)) (s.fld (RFL_PROF_RATE n p)))).sum
  let s := s.put (RFL_PLAN n) (putAll 0
    [(RFL_PLAN_BANDGRP n, r.f 0 0 2), (RFL_PLAN_RATE n, flag (r.f 0 0 2 == 2)), (RFL_PLAN_CAPW n, r.f 0 4 3),
      (RFL_PLAN_FMBDEP n, r.f 0 8 1), (RFL_PLAN_SENTTAPS n, (taps.filter (s.tapSent n)).length),
      (RFL_PLAN_NTAPS n, taps.length), (RFL_PLAN_WEIGHT n, weight)])
  s.setLane n { s.lane n with nfmb := nf }

/-! ### SLICEPLAN (R106) -/

/-- The signals of the slices in slice order. -/
def CRec.signals (r : CRec) : List Nat :=
  (List.range (r.f 0 0 8)).flatMap (fun i => List.replicate (r.f (1 + i) 8 8) (r.f (1 + i) 0 8))

def State.castSlices (s : State) (r : CRec) : State :=
  let l := r.signals
  let s := s.put GNC_PLAN (putAll 0 [(GNC_PLAN_ACQBLOCKS, r.f 0 8 8), (GNC_PLAN_NSLICES, l.length)])
  (List.range 192).foldl (fun s i =>
    let s := s.setFld (SL_CFG_SIGNAL i) (l.getD i 0)
    s.setSlice i { s.slice i with cfg := s.get (SL_CFG i) }) s

/-! ### EVENTROUTE (R431) -/

/-- First event ID and number of IDs of a function's station (R11); all of them for target 0x00. -/
def eventRange (t : Nat) : Nat × Nat :=
  if t = 0 then (0, 256)
  else if t ≤ 3 then (16, 24) else if t ≤ 5 then (40, 8) else if t ≤ 7 then (48, 16) else if t = 8 then (64, 16)
  else if t ≤ 0xC then (80 + 8 * (t - 9), 8)
  else if t = 0xD then (112, 24) else if t = 0xE then (136, 16) else if t = 0xF then (152, 16)
  else if t = 0x10 then (168, 16) else if t ≤ 0x12 then (184, 16) else if t = 0x13 then (244, 8)
  else (200, 32)

def State.castRoutes (s : State) (r : CRec) : State :=
  let (lo, n) := eventRange r.tgt
  (List.range n).foldl (fun s k => s.put (routeAddr (lo + k)) (BitVec.ofNat 32 (r.w k) &&& 0xFFFF007F)) s

/-! ### FWDGEOM (R273) -/

/-- New geometry: length slots, and a route table and filter that are empty (R63). The other tables are cleared only where
`fresh` says that FWD starts (log entry 43). -/
def State.castGeometry (s : State) (fresh : Bool) (r : CRec) : State :=
  let s := s.put FWD_GEOM (putAll 0 [(FWD_GEOM_SWEEP, r.f 0 16 12), (FWD_GEOM_NLEN, r.f 0 8 5), (FWD_GEOM_FIRSTBANK, r.f 1 0 8)])
  let s := (List.range 16).foldl (fun s k =>
    s.put (FWD_LEN k) (if k < r.f 0 8 5 then
      putAll 0 [(FWD_LEN_LEN k, r.f (2 + k) 0 8), (FWD_LEN_LOG2NB k, r.f (2 + k) 8 4)] else 0)) s
  let ts := if fresh then [0, 1, 2, 3] else [2, 3]
  let gone (a : Nat) : Bool := ts.any (fun t => decide (s.tabBase t ≤ a) && decide (a < s.tabBase t + s.tabBytes t))
  { s with mem := { s.mem with cells := s.mem.cells.filter (fun c => !gone c.1) }, fwd := { s.fwd with clearing := [] } }

/-! ### REGULATORY (R241, R482) -/

/-- The BEACON (or ACKBEACON) of a lane with k maps ends so many ticks after its slot starts (R220, R224, R241). -/
def State.beaconEnd (s : State) (n : Nat) (beacon : Bool) (k : Nat) : Nat :=
  let p := s.chProf n (s.fld (MAC_LANEGEOM_BCH n))
  usTicks 250 + s.airTicks n p ((if beacon then 36 else 33) + 4 * k + s.fcsLen n p) + s.rampTicks n

/-- The largest map count for which the BEACON ends in time on every cast lane. -/
def State.mapCap (s : State) : Nat :=
  ((List.range 33).filter (fun k => (List.range 4).all (fun n =>
    !s.isCast (9 + n) || decide (s.beaconEnd n true k + usTicks 250 ≤ s.slotBeats * s.beatTicks)))).getLastD 0

/-- A ledger follows its new entry: one whose range changes, or that becomes valid or invalid, is emptied. -/
def State.putLedgerEntry (s : State) (g e flo fhi limit : Nat) (valid : Bool) : State :=
  let same := s.isSet (L_VALID g e) && valid && s.fld (L_FLO g e) == flo && s.fld (L_FHI g e) == fhi
  let s := s.put (ledgerAddr g e 0) (BitVec.ofNat 32 flo)
  let s := s.put (ledgerAddr g e 1) (BitVec.ofNat 32 fhi)
  let s := (s.setFld (L_LIMIT g e) limit).setBit (L_VALID g e) valid
  if same ∨ e = 16 then s else (s.setLedger (ledgerNo g e) Ledger.cold).setFld (L_REFUSALS g e) 0

/-- The regulatory table. What lay outside the old window counts as empty under the new one (R482). At a start the ledgers come from the Crucible, and their buckets stay. -/
def State.castRegulatory (s : State) (fresh : Bool) (r : CRec) : State :=
  let s := if fresh then s else allLedgers.foldl (fun s p => s.pruneLedger p.1 p.2 s.second) s
  let s := s.put MAC_GEOM (putAll 0
    [(MAC_GEOM_WIN, r.f 0 0 12), (MAC_GEOM_ACKEVERY, r.f 0 16 6), (MAC_GEOM_SENTK, r.f 0 24 4)])
  let old := s
  let s := (List.range 3).foldl (fun s g =>
    let s := s.putLedgerEntry g 16 0 0 (r.f (1 + g) 0 20) true
    (List.range 16).foldl (fun s b =>
      let i := 4 + 48 * g + 3 * b
      s.putLedgerEntry g b (r.w i) (r.w (i + 1)) (r.f (i + 2) 0 20) (r.f (i + 2) 31 1 == 1)) s) s
  let s := if fresh then { s with mac := { s.mac with ledgers := old.mac.ledgers } } else s
  let s := (List.range 4).foldl (fun s n => s.putLayout (MAC_LANEGEOM n) (r.w (148 + n))) s
  let s := (List.range 48).foldl (fun s k => s.putLayout (MAC_DOWN k) (r.w (152 + k))) s
  s.setFld MAC_MAPCAP_MAPCAP s.mapCap

/-! ### One record, and a whole structure -/

/-- A record takes effect; `fresh` says that a start applies it. PROGRAM and DECODE stand in the records from which a core is
loaded; KEEPMASK and INIT act at the restore. -/
def State.castRecord (s : State) (fresh : Bool) (r : CRec) : State :=
  match r.ty with
  | 1 => s.castClock r
  | 2 => s.castBanks r
  | 3 => s.castLane r
  | 4 => s.castSlices r
  | 5 => s.castBeat r
  | 6 => s.castRoutes r
  | 9 => s.castGeometry fresh r
  | 10 => s.castRegulatory fresh r
  | _ => s

/-- A casting has a record of a type for a target. -/
def hasRec (rs : List CRec) (ty t : Nat) : Bool := rs.any (fun r => r.ty == ty && r.tgt == t)

/-- The functions that a full casting casts (R47). -/
def castFunctions (rs : List CRec) : List Nat :=
  [1, 2, 3, 4, 5] ++ (if hasRec rs ctSliceplan 7 then [6, 7, 8] else [])
    ++ [9, 0xA, 0xB, 0xC].filter (hasRec rs ctLaneplan)
    ++ (if hasRec rs ctRegulatory 0xD then [0xD, 0xE] else []) ++ (if hasRec rs ctFwdgeom 0xF then [0xF] else [])
    ++ [0x10, 0x11, 0x12, 0x13] ++ ((List.range 16).map (· + 0x20)).filter (hasRec rs ctProgram)

/-- What a record newly casts in a partial casting: its target, with those that R47 ties to it. -/
def newlyCast (r : CRec) : List Nat :=
  match r.ty with
  | 3 => [r.tgt]
  | 4 => [6, 7, 8]
  | 7 => [r.tgt]
  | 9 => [0xF]
  | 10 => [0xD, 0xE]
  | _ => []

/-- The functions cast become l, rising and without repeats. -/
def State.setCast (s : State) (l : List Nat) : State :=
  { s with sys := { s.sys with cast := l.foldl (fun c f => insertNat f c) [] } }

/-- The records that the running structure has after a casting: of the types that a partial casting carries for its target, its own
(R57, R60). DESIGN CHOICE (log entry 64): entries of its registers in a stored INIT record of target 0x00 stay, and are written before its
own. -/
def mergeRecs (old : List CRec) (c : Casting) : List CRec :=
  if c.partialC then
    old.filter (fun r => !(r.tgt == c.target && c.recs.any (fun q => q.ty == r.ty))) ++ c.recs
  else c.recs

/-- The structure of a casting takes effect. -/
def State.castAll (s : State) (c : Casting) : State :=
  let s := { s with sys := { s.sys with recs := mergeRecs s.sys.recs c } }
  let s := s.setCast (if c.partialC then s.sys.cast ++ c.recs.flatMap newlyCast else castFunctions c.recs)
  let s := c.recs.foldl (fun s r => s.castRecord (!c.partialC) r) s
  let s := if s.isCast 0xD then s.setFld MAC_MAPCAP_MAPCAP s.mapCap else s
  (List.range 16).foldl (fun s k =>
    if s.isCast (0x20 + k) && (!c.partialC || c.target == 0x20 + k) then s.startCore k s.sys.recs else s) s

/-! ### The rules of each record (step 5 of R55) -/

/-- R441. -/
def clockBad (r : CRec) : Bool :=
  let ds := r.words.map (· % 256)
  r.words.any (fun w =>
    let d := w % 256
    let core := decide (36 ≤ d) && decide (d ≤ 51)
    decide (59 < d) || decide (1 < (ds.filter (· == d)).length) || (w / 256 % 4 != 0 && !core)
      || (isLane r.tgt && !(decide (14 + 4 * (r.tgt - 9) ≤ d) && decide (d ≤ 17 + 4 * (r.tgt - 9))))
      || (isCore r.tgt && d != 36 + (r.tgt - 0x20)))

/-- R35, R47. -/
def bankmapBad (r : CRec) : Bool :=
  let os := (List.range 192).map r.octet
  os.any (fun o => !(decide (o ≤ 8) || (decide (0x10 ≤ o) && decide (o ≤ 0x1F)))) || decide ((os.filter (· == 0)).length < 4)

/-- R479, R12 to R15, R24, R247. -/
def beatBad (r : CRec) : Bool :=
  let len := r.f 0 0 2
  let slots := r.f 0 4 6
  let us := 500 * 2 ^ len
  let dl := r.w 2
  decide (2 < len) || r.f 0 2 2 != 0 || r.w 0 / 2 ^ 10 != 0 || decide (slots < 4) || decide (32 < slots)
    || 1000000 / us % slots != 0 || decide (40000 ≤ r.w 1) || decide (dl < 10) || decide ((us - 50) / 10 < dl)
    || decide (r.w 3 < 2) || decide (8 < r.w 3)

/-- R106. -/
def sliceplanBad (r : CRec) : Bool :=
  let n := r.f 0 0 8
  let sigs := (List.range n).map (fun i => r.f (1 + i) 0 8)
  decide (n < 1) || decide (12 < n) || decide (24 < r.f 0 8 8) || r.f 0 8 8 % 2 == 1 || r.words.length != 1 + n
    || r.f 0 16 16 != 0 || (List.range n).any (fun i => r.f (1 + i) 16 16 != 0)
    || sigs.any (fun g => decide (g < 1) || decide (12 < g) || decide (1 < (sigs.filter (· == g)).length))
    || (List.range n).any (fun i => decide (r.f (1 + i) 8 8 < 1) || decide (192 < r.f (1 + i) 8 8))
    || decide (192 < r.signals.length)

/-- Edges of a band group in Hz (R192). -/
def groupEdges : Nat → Nat × Nat
  | 0 => (400000000, 520000000)
  | 1 => (779000000, 960000000)
  | _ => (2400000000, 2483500000)

/-- A defined profile is not a permitted combination (R197, R198). -/
def State.profBad (s : State) (n p : Nat) : Bool :=
  let rate := s.fld (RFL_PROF_RATE n p)
  let index := s.fld (RFL_PROF_INDEX n p)
  let pre := s.fld (RFL_PROF_PREAMBLE n p)
  match s.fld (RFL_PROF_PHY n p) with
  | 0 => rate == 5
  | 1 => decide (4 < rate) || decide (1 < index) || (decide (2 ≤ rate) && index != 0) || decide (pre < 4)
  | 2 => (rate != 3 && rate != 4) || index != 0 || decide (pre < 4)
  | 3 => s.band n != 2 || rate != 5 || index != 0 || pre != 4 || s.isSet (RFL_PROF_WHITEN n p) || s.isSet (RFL_PROF_FCS4 n p)
  | _ => true

/-- R192, R194, R197, judged on the lane as the record has filled it. -/
def State.lanePlanBad (s : State) (r : CRec) : Bool :=
  let n := r.tgt - 9
  let g := r.f 0 0 2
  let cw := r.f 0 4 3
  let half := capWidth cw / 2
  let ctr := r.w 1
  let (lo, hi) := groupEdges g
  let defined (p : Nat) : Bool := s.fld (RFL_PROF_PHY n p) != 0
  let taps := (List.range 32).filter (s.tapCast n)
  let chs := (List.range 64).filter (s.chValid n)
  g == 3 || (if g = 2 then decide (cw < 2) || decide (4 < cw) else decide (2 < cw))
    || decide (ctr < lo + half) || decide (hi < ctr + half)
    || (List.range 8).any (s.profBad n)
    || taps.any (fun k => !defined (s.fld (RFL_TAP_PROF n k))) || chs.any (fun c => !defined (s.chProf n c))
    || decide (32 < (taps.map (fun k =>
        profWeight (s.fld (RFL_PROF_PHY n (s.fld (RFL_TAP_PROF n k)))) (s.fld (RFL_PROF_RATE n (s.fld (RFL_TAP_PROF n k)))))).sum)
    || decide (8 < (taps.filter (s.tapSent n)).length)
    || chs.any (fun c =>
        let p := s.chProf n c
        decide (half < (s.fldInt (RFL_CH_OFFSET n c)).natAbs + profWindow (g == 2) (s.fld (RFL_PROF_PHY n p)) (s.fld (RFL_PROF_RATE n p)) / 2))

/-- R481. -/
def programBad (r : CRec) : Bool :=
  let size := if r.w 0 = 0 then 0x20000 else 0x10000
  decide (2 < r.w 0) || r.w 1 % 4 != 0 || decide (r.words.length < 3) || decide (size < r.w 1 + 4 * (r.words.length - 2))

/-- A micro-op word breaks R363. -/
def uopBad (w : Nat) : Bool := (decodeUOp (BitVec.ofNat 32 w)).isNone

/-- R361 to R363. -/
def decodeBad (r : CRec) : Bool :=
  let n := r.f 0 0 11
  decide (1024 < n)
    || (List.range 32).any (fun k =>
        let w0 := r.w (1 + 2 * k)
        let w1 := r.w (2 + 2 * k)
        (w0.testBit 31 && decide (n ≤ w0 / 2 ^ 16 % 2 ^ 10 + w0 % 16))
          || [16, 20, 24, 28].any (fun b => decide (8 < w1 / 2 ^ b % 16)))
    || (List.range n).any (fun i => uopBad (r.w (65 + i)))

/-- R273: `kept` is the running FIRSTBANK that a partial casting keeps. -/
def State.geometryBad (s : State) (kept : Option Nat) (r : CRec) : Bool :=
  let n := r.f 0 8 5
  let lens := (List.range n).map (fun k => r.f (2 + k) 0 8)
  let entries := ((List.range n).map (fun k => 8 * 2 ^ r.f (2 + k) 8 4)).sum
  let first := r.f 1 0 8
  let last := first + 13 + (32 * entries + 262143) / 262144
  decide (r.f 0 16 12 < 1) || decide (3600 < r.f 0 16 12) || decide (n < 1) || decide (16 < n) || lens.any (fun l => decide (128 < l))
    || (List.range (n - 1)).any (fun k => decide (lens.getD k 0 ≤ lens.getD (k + 1) 0))
    || decide (262144 < entries) || decide (191 < last)
    || (List.range (last + 1 - first)).any (fun k => s.owner (first + k) != ownFwd)
    || (match kept with
        | some b => b != first
        | none => false)

/-- A valid sub-band of a group lies outside it, or overlaps another by more than a shared edge. -/
def State.subBandBad (s : State) (g : Nat) : Bool :=
  let (lo, hi) := groupEdges g
  let es := (List.range 16).filter (fun e => s.isSet (L_VALID g e))
  es.any (fun e =>
    decide (min (s.fld (L_FLO g e)) (s.fld (L_FHI g e)) < lo) || decide (hi < max (s.fld (L_FLO g e)) (s.fld (L_FHI g e)))
      || es.any (fun f => e != f && decide (s.fld (L_FLO g e) < s.fld (L_FHI g f)) && decide (s.fld (L_FLO g f) < s.fld (L_FHI g e))))

/-- A DOWN slot of a group is 0, an ACK slot, or past the superframe. -/
def State.downBad (s : State) (k : Nat) : Bool :=
  let j := s.fld (MAC_DOWN_SLOT k)
  s.isSet (MAC_DOWN_VALID k) && (j == 0 || j % s.fld MAC_GEOM_ACKEVERY == 0 || decide (s.slotsPerSec ≤ j))

/-- A lane's words break R241, or its beacons cross a sentinel cell (R219). -/
def State.laneGeomBad (s : State) (n : Nat) : Bool :=
  let bch := s.fld (MAC_LANEGEOM_BCH n)
  let jch := s.fld (MAC_LANEGEOM_JOINCH n)
  let cap := s.fld MAC_MAPCAP_MAPCAP
  let sentAt := (s.slotBeats - 2) * s.beatTicks
  s.isCast (9 + n) &&
    (!s.inDown (s.band n) (s.fld (MAC_LANEGEOM_JRSLOT n)) || !s.chValid n bch || !s.chValid n jch
      || (s.isSet (MAC_LANEGEOM_JOINN n) && (s.joinTap n).isNone)
      || (s.sentSlot 0 && decide (sentAt < s.beaconEnd n true cap))
      || (List.range s.slotsPerSec).any (fun j =>
          s.slotKind (s.band n) j == .ack && s.sentSlot j && decide (sentAt < s.beaconEnd n false cap)))

/-- R241. -/
def State.regulatoryBad (s : State) (r : CRec) : Bool :=
  decide (r.f 0 0 12 < 60) || decide (3600 < r.f 0 0 12) || decide (r.f 0 16 6 < 1) || decide (32 < r.f 0 16 6) || decide (8 < r.f 0 24 4)
    || (List.range 3).any (fun g => decide (r.f (1 + g) 0 20 < 1) || decide (1000000 < r.f (1 + g) 0 20))
    || (List.range 4).any (fun n => s.isCast (9 + n) && decide (16 < r.f (148 + n) 16 5))
    || (List.range 3).any s.subBandBad || (List.range 48).any s.downBad
    || (List.range 4).any s.laneGeomBad
    || decide (s.fld MAC_MAPCAP_MAPCAP < s.fld MAC_GEOM_ACKEVERY)
    || decide (((List.range bankCount).filter (fun b => s.owner b == 3)).length < 3)

/-- R78. -/
def keepmaskBad (r : CRec) : Bool :=
  (List.range (8 * keepBytes r.tgt)).any (fun n => (r.w (n / 32)).testBit (n % 32) && keptMask (keepBase r.tgt + 4 * n) == 0)

/-- The payload has a length that its type does not have (R43 and the payload rules). -/
def lengthBad (r : CRec) : Bool :=
  let n := r.words.length
  match r.ty with
  | 2 => n != 48
  | 3 => n != 107 + r.f 106 0 6 || decide (32 < r.f 106 0 6)
  | 5 => n != 4
  | 6 => n != (eventRange r.tgt).2
  | 8 => n != 65 + r.f 0 0 11
  | 9 => n != 2 + r.f 0 8 5
  | 10 => n != 200
  | 11 => 4 * n != keepBytes r.tgt
  | 12 => n % 2 == 1
  | _ => false

/-- The cause for which a record other than INIT fails on the structure s: of a partial casting, the rules that say so fail with
STRUCTURE. -/
def State.recordFail (s : State) (c : Casting) (kept : Option Nat) (r : CRec) : Option Nat :=
  let struct := if c.partialC then ceStructure else ceSemantic
  let bad (b : Bool) (cause : Nat) : Option Nat := if b then some cause else none
  if lengthBad r then some ceLength
  else
    match r.ty with
    | 1 => bad (clockBad r) struct
    | 2 => bad (bankmapBad r) ceSemantic
    | 3 => bad (s.lanePlanBad r) struct
    | 4 => bad (sliceplanBad r) ceSemantic
    | 5 => bad (beatBad r) ceSemantic
    | 7 => bad (programBad r) struct
    | 8 => bad (decodeBad r) ceSemantic
    | 9 => bad (s.geometryBad kept r) struct
    | 10 => bad (s.regulatoryBad r) struct
    | 11 => bad (keepmaskBad r) ceSemantic
    | _ => none

/-- The first record that fails, in image order. -/
def State.recordsFail (s : State) (c : Casting) (kept : Option Nat) : Nat → List CRec → Option CFail
  | _, [] => none
  | i, r :: rs =>
    match s.recordFail c kept r with
    | some cause => some (cause, i)
    | none => s.recordsFail c kept (i + 1) rs

/-- A full casting lacks a record that R47 asks for. -/
def missingRec (c : Casting) : Bool :=
  !c.partialC && [ctClock, ctBankmap, ctBeat, ctEventroute, ctKeepmask].any (fun ty => !hasRec c.recs ty 0)

end Sys2Proof.Machine
end

