-- ==== Sys2Proof/Machine/Lanes.lean ====
section
/-! DEFINITION. The radio lanes (spec/07 R192 to R217): receive windows, transmissions, blanking, fences, synthesisers, image
trims and the front-end management bus. A command that names a ticket or a tap which is not where the command needs it has
no effect (log entry 20). -/

namespace Sys2Proof.Machine

open Sys2Proof.Fields

/-! ### Front-end balls (R210) -/

/-- A list with one place set. -/
def setAt {β : Type} : List β → Nat → β → List β
  | [], _, _ => []
  | _ :: r, 0, v => v :: r
  | a :: r, n + 1, v => a :: setAt r n v

def State.setPaen (s : State) (n : Nat) (b : Bool) : State := { s with pins := { s.pins with paen := setAt s.pins.paen n b } }

/-- A lane blanks its band group; its PAEN window is open (R203, R211). -/
def Lane.blank (l : Lane) : Bool := !l.win.isEmpty
def Lane.paWin (l : Lane) : Bool := !l.pa.isEmpty

/-- A lane is blanked by another lane of its band group. -/
def State.blankedByOther (s : State) (n : Nat) : Bool :=
  (List.range 4).any (fun m => m != n && (s.lane m).blank && s.band m == s.band n)

/-- A receive ticket of a lane runs, or its window starts within a lead in µs. -/
def State.rxActive (s : State) (n lead : Nat) (t : Ticket) : Bool :=
  !t.tx && t.lane == n && t.state == 2 && !t.final && (t.started || (decide (t.lo ≤ s.tim.ts + usTicks lead) && decide (s.tim.ts < t.hi)))

/-- LNAEN of a lane: a receive ticket of it runs or starts within LNALEAD, it does not transmit, and no blanking holds it low. -/
def State.lnaWanted (s : State) (n : Nat) : Bool :=
  s.isSet (RFL_FECTL_EXTLNA n) && !(s.lane n).paWin && !(s.isSet (RFL_FECTL_LNABLANK n) && s.blankedByOther n)
    && s.sch.tickets.any (fun p => s.rxActive n (s.fld (RFL_FECTL_LNALEAD n)) p.2)

/-- The antenna of a lane: the one that a transmit ticket holds, else that of a receive ticket which runs or whose first front-end action
comes within ANTLEAD, else the one it had. -/
def State.antWanted (s : State) (n : Nat) : Nat :=
  let lead := s.fld (RFL_FECTL_ANTLEAD n) + (if s.isSet (RFL_FECTL_EXTLNA n) then s.fld (RFL_FECTL_LNALEAD n) else 0)
  (s.lane n).txAnt.getD (((s.sch.tickets.find? (fun p => s.rxActive n lead p.2)).map (fun p => p.2.ant)).getD (s.pins.antsel.getD n 0))

/-- LNAEN and ANTSEL follow the tickets (R210). -/
def State.updateLna (s : State) : State :=
  if !s.beating then { s with pins := { s.pins with lnaen := List.replicate 4 false } }
  else { s with pins := { s.pins with
    lnaen := (List.range 4).map (fun n => s.isCast (9 + n) && s.lnaWanted n)
    antsel := (List.range 4).map (fun n => if s.isCast (9 + n) then s.antWanted n else s.pins.antsel.getD n 0) } }

/-! ### Results (R200) -/

/-- A ticket's result is final on its lane. -/
def State.finish (s : State) (e r : Nat) : State := s.upTicket e (fun t => { t with result := r, final := true })

/-- A ticket that does not run, with the cause that its outcome reports: the lane's overrun of R27. -/
def State.notReady (s : State) (e : Nat) (why : NrCause) : State :=
  let n := (s.ticket e).lane
  let s := ((s.upTicket e (fun t => { t with why := some why })).finish e rsNotReady).count (RFL_NOTREADY_COUNT n)
  (s.raise (80 + 8 * n)).overrunBit (2 + n)

/-- The result of a receive ticket that has ended. -/
def Ticket.rxResult (t : Ticket) : Nat :=
  if t.nframes ≠ 0 then rsDone else if t.blk then rsBlanked else if t.bad then rsFcsFail else rsNoFrame

/-! ### Receiving (R201, R202) -/

/-- A command can act on a committed ticket of a direction that has no result yet. -/
def State.canRun (s : State) (e : Nat) (tx : Bool) : Bool :=
  let t := s.ticket e
  t.state == tkCommitted && t.tx == tx && !t.final && s.isCast (9 + t.lane)

/-- Two running receive tickets of a lane name different antennas (R210). -/
def State.antConflict (s : State) (t : Ticket) : Bool :=
  s.sch.tickets.any (fun p => !p.2.tx && p.2.lane == t.lane && p.2.started && !p.2.final && p.2.ant != t.ant)

/-- Why a receive ticket cannot start (R200). -/
def State.rxBlocked (s : State) (t : Ticket) : Option NrCause :=
  let n := t.lane
  if !s.tapCast n t.tap || !s.chValid n t.ch || s.fld (RFL_TAP_PROF n t.tap) != s.chProf n t.ch || s.antConflict t
      || (t.sent && !s.tapSent n t.tap) then some .plan
  else if s.isSet (RFL_STAT_RXFENCE n) then some .fence
  else if (s.lane n).rxTune.isSome || !s.isSet (RFL_STAT_RXLOCK n) then some .synth
  else if ((s.lane n).tap t.tap).entry.isSome then some .tapBusy
  else none

/-- RX_WINDOW_START. -/
def State.rxWindowStart (s : State) (e : Nat) : State :=
  let t := s.ticket e
  if !s.canRun e false || t.started then s
  else match s.rxBlocked t with
    | some why => s.notReady e why
    | none =>
      let s := s.setTicket e { t with started := true }
      let l := s.lane t.lane
      (s.setLane t.lane (l.setTap t.tap ⟨some e, none, false⟩)).updateLna

/-- A tap lets its ticket go, whose result becomes final. -/
def State.endRx (s : State) (n k e : Nat) : State :=
  let s := s.setLane n ((s.lane n).setTap k TapSt.cold)
  (s.finish e (s.ticket e).rxResult).updateLna

/-- Every tap of a lane's band group is blanked. -/
def State.laneBlanked (s : State) (n : Nat) : Bool := (List.range 4).any (fun m => (s.lane m).blank && s.band m == s.band n)

/-- SFD_DETECT. -/
def State.sfdDetect (s : State) (n k ts : Nat) : State :=
  let x := (s.lane n).tap k
  match x.entry, x.frame with
  | some _, none =>
    if x.closed || s.laneBlanked n then s
    else
      let (g, s) := s.laneGain n
      (s.setFld (RFL_AGC_GAIN n) g).setLane n ((s.lane n).setTap k { x with frame := some ts })
  | _, _ => s

/-- A received frame leaves the lane for MAC, whose work it is in the next beat, or for the express engine. While MAC is
held, lanes deliver nothing; while SEC is held, a frame for the express engine is dropped and counted (R23, R63). -/
def State.handOver (s : State) (f : RxFrame) (sent : Bool) : State :=
  if !s.live 0xD || !s.isCast 0x10 then s
  else if sent && s.isHeld 0x10 then
    if s.foreign f.psdu then s.count MAC_FOREIGN_COUNT else s.count SEC_HOLDDROP_COUNT
  else
    let s := s.upTicket f.entry (fun t => { t with open_ := t.open_ + 1 })
    if sent then { s with mac := { s.mac with express := s.mac.express ++ [f] } }
    else { s with mac := { s.mac with input := s.mac.input ++ [f] } }

/-- The PHR of a received frame asks for nothing that the device does not support, and gives a length that its PHY has (R199). -/
def State.phrOk (s : State) (n k : Nat) (h : RxPhr) : Bool :=
  if s.oqpsk n (s.fld (RFL_TAP_PROF n k)) then !h.unsupported && decide (h.len ≤ 127) && !h.fcs4 && !h.whiten
  else !h.unsupported && decide (h.len ≤ 2047)

/-- The frame on a tap passes its PHR and FCS checks: the PSDU without its FCS. -/
def State.checkFrame (s : State) (n k : Nat) (h : RxPhr) (psdu : List Byte) : Option (List Byte) :=
  let m := psdu.length - (if h.fcs4 then 4 else 2)
  if s.phrOk n k h && psdu.length == h.len && decide (m < psdu.length) && psdu.drop m == fcsOf h.fcs4 (psdu.take m) then some (psdu.take m)
  else none

/-- FRAME_RECEIVED: the frame on a tap ends, and its check passes or fails. -/
def State.frameReceived (s : State) (n k : Nat) (ok : Bool) (psdu : List Byte) (rssi : Nat) (cfo : Int) (fcs4 whiten : Bool) :
    State :=
  let x := (s.lane n).tap k
  match x.entry, x.frame with
  | some e, some ts =>
    let t := s.ticket e
    let s := s.setLane n ((s.lane n).setTap k { x with frame := none })
    if ok then
      let s := s.count (RFL_RXOK_COUNT n)
      let s := s.setTicket e { t with nframes := min (t.nframes + 1) 255 }
      let f : RxFrame := { lane := n, tap := k, ch := t.ch, entry := e, tid := t.tid, psdu := psdu, ts := ts, rssi := rssi,
                           cfo := cfo, fcs4 := fcs4, whiten := whiten, beat := s.beat, node := none, body := [], oldKey := false, rep := none }
      let s := s.handOver f t.sent
      if t.listen && !x.closed then s else s.endRx n k e
    else
      let s := (s.count (RFL_RXFCS_COUNT n)).setTicket e { t with bad := true }
      if x.closed then s.endRx n k e else s
  | _, _ => s

/-- RX_WINDOW_END: a frame whose SFD lay in the window goes on to its end. -/
def State.rxWindowEnd (s : State) (e : Nat) : State :=
  let t := s.ticket e
  let x := (s.lane t.lane).tap t.tap
  if !s.canRun e false || !t.started || x.entry ≠ some e then s
  else match x.frame with
    | some _ => s.setLane t.lane ((s.lane t.lane).setTap t.tap { x with closed := true })
    | none => s.endRx t.lane t.tap e

/-! ### Blanking (R211) -/

/-- Blanking reaches a tap: a frame in progress ends. -/
def State.blankTap (s : State) (n k : Nat) : State :=
  let x := (s.lane n).tap k
  match x.entry, x.frame with
  | some e, some _ =>
    let s := s.count (RFL_RXBLANK_COUNT n)
    let s := s.upTicket e (fun t => { t with blk := true })
    if (s.ticket e).nframes = 0 ∨ x.closed then s.endRx n k e
    else s.setLane n ((s.lane n).setTap k { x with frame := none })
  | _, _ => s

/-- A lane begins to blank its band group. -/
def State.blankGroup (s : State) (n : Nat) : State :=
  let ls := (List.range 4).filter (fun m => s.isCast (9 + m) && s.band m == s.band n)
  (ls.foldl (fun s m => (List.range 32).foldl (fun s k => s.blankTap m k) s) s).updateLna

/-! ### Synthesisers and the temper table (R207, R208) -/

/-- The entry that an unseeded calibration writes: the unusable one nearest the target, one of its own frequency, the first
free one, the least used one of its synthesiser (R208). `near` is false in the calibration phase. -/
def State.temperSlot (s : State) (n : Nat) (tx : Bool) (hz : Nat) (near : Bool) : Nat :=
  let mine e := s.isSet (T_VALID n e) && s.isSet (T_SYN n e) == tx
  let a := if near then leastBy (fun e => dist (s.fld (T_FREQ n e)) hz) (s.temperNear n tx hz) else none
  let b := (List.range 512).find? (fun e => mine e && s.fld (T_FREQ n e) == hz)
  let c := (List.range 512).find? (fun e => !s.isSet (T_VALID n e))
  let d := leastBy (fun e => s.fld (T_USES n e)) ((List.range 512).filter mine)
  (((a.orElse (fun _ => b)).orElse (fun _ => c)).orElse (fun _ => d)).getD 0

/-- A calibration's result is written to a temper entry. -/
def State.temperWrite (s : State) (n e : Nat) (tx : Bool) (hz : Nat) (seeds iq : Word) : State :=
  let s := s.put (temperAddr n e 0) (BitVec.ofNat 32 hz)
  let s := s.put (temperAddr n e 1) 0
  let s := (s.setFld (T_VALID n e) 1).setBit (T_SYN n e) tx
  let s := s.setFld (T_TCAL n e) (s.fld (RFL_STAT_TEMP n))
  (s.put (temperAddr n e 2) seeds).put (temperAddr n e 3) (if tx then 0 else iq)

/-- A retune to a frequency begins: seeded from the best entry, which counts a use, or unseeded. -/
def State.beginTune (s : State) (n : Nat) (tx : Bool) (hz : Nat) : Retune × State :=
  match s.seedFor n tx hz with
  | some e => (⟨hz, true, e⟩, s.count (T_USES n e))
  | none => (⟨hz, false, s.temperSlot n tx hz true⟩, s)

/-- The receive synthesiser retunes to RXLO, at release and after calibration. -/
def State.retuneRx (s : State) (n : Nat) : State :=
  let (r, s) := s.beginTune n false (s.fld (RFL_RXLO_FREQ n))
  (s.setLane n { s.lane n with rxTune := some r }).setFld (RFL_STAT_RXLOCK n) 0

/-- TX_RETUNE_START. -/
def State.txRetuneStart (s : State) (e : Nat) : State :=
  let t := s.ticket e
  let n := t.lane
  if !s.canRun e true || (s.lane n).lastCh == some t.ch || (s.lane n).txTune.isSome || !s.chValid n t.ch then s
  else
    let (r, s) := s.beginTune n true (s.chHz n t.ch)
    (s.setLane n { s.lane n with txTune := some r, lastCh := some t.ch }).setFld (RFL_STAT_TXLOCK n) 0

/-- SYNTH_SETTLED: the synthesiser locks, and an unseeded retune's result is written to the table. -/
def State.synthSettled (s : State) (n : Nat) (tx : Bool) (seeds iq : Word) : State :=
  if !s.isCast (9 + n) then s
  else
    let l := s.lane n
    let r := if tx then l.txTune else l.rxTune
    let s := s.setLane n (if tx then { l with txTune := none } else { l with rxTune := none })
    let s := s.setFld (if tx then RFL_STAT_TXLOCK n else RFL_STAT_RXLOCK n) 1
    match r with
    | some r => if r.seeded then s else s.temperWrite n r.slot tx r.freq seeds iq
    | none => s

/-- SYNTH_UNLOCK, outside a retune. -/
def State.synthUnlock (s : State) (n : Nat) (tx : Bool) : State :=
  let l := s.lane n
  if !s.isCast (9 + n) || (if tx then l.txTune else l.rxTune).isSome then s
  else (s.setFld (if tx then RFL_STAT_TXLOCK n else RFL_STAT_RXLOCK n) 0).raise (81 + 8 * n)

/-! ### Frames on air (R221, R299, R312, R425) -/

/-- A payload with a key written over its octets at an offset. -/
def insertAt (pay key : List Byte) (ofs : Nat) : List Byte :=
  if key.isEmpty then pay else pay.take ofs ++ key ++ pay.drop (ofs + key.length)

/-- The symbol of an ESI: a source symbol is a piece of the image, and none where a word of it cannot be corrected; the octets of a
repair symbol are free values (R312, R400, log entry 19). -/
def State.symbol (s : State) (k esi : Nat) : Option (List Byte) × State :=
  let t := 16 * (64 * s.fld (SEC_CAMPCFG_TDIVHI k) + s.fld (SEC_CAMPTDIV_TDIVLO k))
  let i := s.fld (SEC_CAMPCFG_IMG k)
  if esi < s.fld (SEC_CAMPK_K k) then
    let have_ := min t (s.fld (SEC_IMGLEN_LEN i) - esi * t)
    let a := s.fld (SEC_IMGCFG_FIRSTBANK i) * bankSize + esi * t
    let (ok, s) := s.readSpan ownSec a have_
    (if ok then some (s.cells a have_ ++ List.replicate (t - have_) 0#8) else none, s)
  else
    let (v, s) := s.freshBytes t
    (some v, s)

/-- A request's plaintext buffer, read for the submitter; none where the check fails. -/
def State.payloadOf (s : State) (r : Request) : Option (List Byte) × State :=
  let (x, s) := s.bankRead r.origin (bufAddr r.bank r.bofs) r.len
  (x.bytes?, s)

/-- The protected PSDU of a transmit ticket without its FCS; none where the buffer check fails (R425). -/
def State.buildFrame (s : State) (t : Ticket) : Option (List Byte) × State :=
  match t.purpose, t.req.bind (fun q => s.request q.1), t.node with
  | .downlink, some r, some i =>
    let (pay, s) := s.payloadOf r
    (pay.map (fun p => protect t.key (nonce (s.eui i) t.fcnt ftDownlink true 0)
      (mhr ftDownlink false r.ackReq s.mac.cellid (s.nr i NR_SHORT) t.fcnt) (insertAt p t.frame r.insOfs) true), s)
  | .joinResp, some r, some i =>
    let (pay, s) := s.payloadOf r
    (pay.map (fun p => protect t.key (nonce (s.eui i) t.fcnt ftJoinResp true 0)
      (mhr ftJoinResp true false s.mac.cellid (s.eui i) t.fcnt) (insertAt (r.pre ++ p) t.frame r.insOfs) true), s)
  | .broadcast, some r, _ =>
    let k := r.target
    let (sym, s) := s.symbol k t.fcnt
    let id := s.fld (SEC_CAMPIDHI_ID k) * 2 ^ 32 + s.fld (SEC_CAMPIDLO_ID k)
    (sym.map (fun y => protect t.key (nonce id t.fcnt ftBroadcast true 0)
      (mhr ftBroadcast false false s.mac.cellid (0xFFF0 + k) t.fcnt) (leBytes 1 k ++ [0#8] ++ beBytes 3 t.fcnt ++ y) true), s)
  | _, _, _ => (some t.frame, s)

/-! ### Transmitting (R203, R211, R212) -/

/-- What a lane sends on a profile (R199, R205). -/
def State.airTx (s : State) (n p : Nat) (psdu : List Byte) : AirTx :=
  { phy := s.fld (RFL_PROF_PHY n p), rate := s.fld (RFL_PROF_RATE n p), index := s.fld (RFL_PROF_INDEX n p)
    preamble := s.fld (RFL_PROF_PREAMBLE n p), fcs4 := s.isSet (RFL_PROF_FCS4 n p), whiten := s.isSet (RFL_PROF_WHITEN n p)
    pwr := s.fldInt (RFL_TXCFG_PWR n), psdu := psdu ++ fcsOf (s.isSet (RFL_PROF_FCS4 n p)) psdu }

/-- The fence stops a transmission: a PAFLT fence always, an FMB fence before the PAEN window (R212, R214). -/
def State.txFenced (s : State) (n : Nat) : Bool :=
  let c := s.fld (RFL_STAT_FCAUSE n)
  c.testBit 0 || (c.testBit 1 && !(s.lane n).paWin)

/-- TX_BLANK_START. Windows of one lane may overlap: the group is blanked for their union. -/
def State.txBlankStart (s : State) (e : Nat) : State :=
  let n := (s.ticket e).lane
  let l := s.lane n
  if !s.canRun e true || l.win.contains e || s.txFenced n then s
  else
    let u := s.setLane n { l with win := l.win ++ [e] }
    if l.blank then u else u.blankGroup n

/-- TX_ANTSEL. -/
def State.txAntsel (s : State) (e : Nat) : State :=
  let t := s.ticket e
  if !s.canRun e true || s.txFenced t.lane then s
  else (s.setLane t.lane { s.lane t.lane with txAnt := some t.ant }).updateLna

/-- PAEN follows the lane's PAEN windows where EXTPA is 1 (R210). -/
def State.drivePaen (s : State) (n : Nat) : State :=
  (s.setPaen n (s.isSet (RFL_FECTL_EXTPA n) && (s.lane n).paWin && !s.isSet (RFL_STAT_TXFENCE n))).updateLna

/-- TX_PAEN_RISE. -/
def State.txPaenRise (s : State) (e : Nat) : State :=
  let n := (s.ticket e).lane
  let l := s.lane n
  if !s.canRun e true || !l.win.contains e || l.pa.contains e || s.txFenced n then s
  else
    let s := (s.setLane n { l with pa := l.pa ++ [e], txAnt := some (s.ticket e).ant })
    (s.setPaen n (s.isSet (RFL_FECTL_EXTPA n))).updateLna

/-- The PAEN window of a ticket ends; PAEN stays high where another one of the lane is open. -/
def State.paenFall (s : State) (n e : Nat) : State :=
  let l := s.lane n
  let pa := l.pa.filter (· != e)
  let s := s.setLane n { l with pa := pa, txAnt := if pa.isEmpty then none else l.txAnt }
  (if pa.isEmpty then s.setPaen n false else s).updateLna

/-- The transmit synthesiser is not settled on a ticket's channel. -/
def State.txUnsettled (s : State) (t : Ticket) : Bool :=
  (s.lane t.lane).txTune.isSome || (s.lane t.lane).lastCh != some t.ch || !s.isSet (RFL_STAT_TXLOCK t.lane)

/-- Why a transmission cannot start, its frame where it can (R200). -/
def State.txBlocked (s : State) (t : Ticket) (frame : Option (List Byte)) : Option NrCause :=
  if !s.chValid t.lane t.ch || frame.isNone then some .plan
  else if s.txFenced t.lane then some .fence
  else if s.txUnsettled t then some .synth
  else none

/-- TX_RAMP_UP: the frame begins, or the ticket retires NOTREADY and the PAEN window ends. -/
def State.txRampUp (s : State) (e : Nat) : State :=
  let t := s.ticket e
  if !s.canRun e true || t.started then s
  else
    let (f, s) := s.buildFrame t
    match s.txBlocked t f with
    | some why => (s.notReady e why).paenFall t.lane e
    | none =>
      let s := s.setTicket e { t with started := true }
      s.setLane t.lane { s.lane t.lane with
        tx := some e, rampUp := some t.lo, rampDn := false, abort := false, air := some (s.airTx t.lane (s.chProf t.lane t.ch) (f.getD [])) }

/-- The lane's transmission leaves the air, whole or cut short. -/
def State.airOut (s : State) (n : Nat) (whole : Bool) : State :=
  match (s.lane n).tx, (s.lane n).air with
  | some e, some a =>
    let t := s.ticket e
    (s.setLane n { s.lane n with air := none }).emit (.air n t.ch (t.edge + t.offset) a whole)
  | _, _ => s

/-- Every lane stops radiating, with no ramp-down (R89, R467). -/
def State.airCut (s : State) : State := (List.range 4).foldl (fun s n => s.airOut n false) s

/-- TX_RAMP_DOWN: the last symbol has ended. -/
def State.txRampDown (s : State) (e : Nat) : State :=
  let n := (s.ticket e).lane
  if !s.canRun e true || (s.lane n).tx != some e || (s.lane n).rampUp.isNone || (s.lane n).rampDn then s
  else (s.airOut n true).setLane n { (s.airOut n true).lane n with rampDn := true }

/-- TX_PAEN_FALL: the ramp-down has ended at an instant, and the outcome is DONE or, after PAFLT, ABORTED with the charge of
R204. -/
def State.txPaenFall (s : State) (e ts : Nat) : State :=
  let t := s.ticket e
  let l := s.lane t.lane
  match l.rampUp with
  | none => s
  | some t0 =>
    if !s.canRun e true || l.tx != some e || !l.rampDn then s
    else
      let s := s.setTicket e
        (if l.abort then { t with result := rsAborted, final := true, charge := min (ticksUs (ts - t0)) t.air }
         else { t with result := rsDone, final := true, charge := t.air })
      let s := if l.abort then s else s.count (RFL_TXDONE_COUNT t.lane)
      let s := s.setLane t.lane { s.lane t.lane with tx := none, rampUp := none, rampDn := false, abort := false }
      s.paenFall t.lane e

/-- TX_BLANK_END: the oldest blanking window of the lane whose PAEN window is over ends. -/
def State.txBlankEnd (s : State) (n : Nat) : State :=
  let l := s.lane n
  match l.win.find? (fun e => !l.pa.contains e && l.tx != some e) with
  | some e => (s.setLane n { l with win := l.win.filter (· != e) }).updateLna
  | none => s

/-! ### Fences (R212, R214) -/

/-- The fence causes of a lane become `c`; FENCE-CHANGE where a fence changes. -/
def State.setFence (s : State) (n c : Nat) : State :=
  let tx := decide (c ≠ 0)
  let rx := c.testBit 1
  let changed := s.isSet (RFL_STAT_TXFENCE n) != tx || s.isSet (RFL_STAT_RXFENCE n) != rx
  let s := ((s.setFld (RFL_STAT_FCAUSE n) c).setBit (RFL_STAT_TXFENCE n) tx).setBit (RFL_STAT_RXFENCE n) rx
  if changed then s.raise (83 + 8 * n) else s

/-- PAFLT is active at a level of its ball. -/
def State.pafltActive (s : State) (n : Nat) (level : Bool) : Bool := level != s.isSet (RFL_FECTL_PAFLTPOL n)

/-- A ticket that PAFLT aborts before anything is radiated: no airtime is charged (R215). -/
def State.cutStart (s : State) (n e : Nat) : State :=
  (s.upTicket e (fun t => { t with result := rsAborted, final := true, charge := 0 })).paenFall n e

/-- PAFLT cuts the lane's transmission: one on air ramps down and aborts; one whose ramp-up starts in the same tick is aborted with no
charge (R212, R215). -/
def State.pafltCut (s : State) (n ts : Nat) : State :=
  let s := s.setPaen n false
  let l := s.lane n
  let s := match l.tx, l.rampUp with
    | some e, some t0 =>
      if t0 = ts then (s.setLane n { l with tx := none, rampUp := none, air := none }).cutStart n e
      else if l.rampDn then s
      else (s.airOut n false).setLane n { (s.airOut n false).lane n with rampDn := true, abort := true }
    | _, _ => s
  (l.win.filter (fun e => s.canRun e true && !(s.ticket e).started && (s.ticket e).lo == ts)).foldl (fun s e => s.cutStart n e) s

/-- PAFLT of a lane becomes active. -/
def State.pafltRise (s : State) (n ts : Nat) : State :=
  ((s.pafltCut n ts).raise (82 + 8 * n)).setFence n (s.fld (RFL_STAT_FCAUSE n) ||| 1)

/-- PAFLT_ACTIVE: a level on the PAFLT ball of a lane at an instant. -/
def State.pafltLevel (s : State) (n : Nat) (level : Bool) (ts : Nat) : State :=
  let was := s.pafltActive n (s.pins.paflt.getD n false)
  let s := { s with pins := { s.pins with paflt := setAt s.pins.paflt n level } }
  if !s.isCast (9 + n) || was || !s.pafltActive n level then s else s.pafltRise n ts

/-- A write of RFLn_FECTL: the front-end balls follow it, and PAFLT may become active through PAFLTPOL (R210, R212). -/
def State.fectlWrote (s : State) (n : Nat) (old : Word) : State :=
  let level := s.pins.paflt.getD n false
  let was := level != (getFld old (RFL_FECTL_PAFLTPOL n) == 1)
  let s := if s.isCast (9 + n) && !was && s.pafltActive n level then s.pafltRise n s.tim.ts else s
  s.drivePaen n

/-- TXCLR: the PAFLT fence is lifted where PAFLT is inactive. -/
def State.clearTxFence (s : State) (n : Nat) : State :=
  if s.pafltActive n (s.pins.paflt.getD n false) then s else s.setFence n (s.fld (RFL_STAT_FCAUSE n) / 2 * 2)

/-! ### Image trims (R209, R252) -/

/-- TRIMDUE becomes set, and SCH is to choose a trim beat. -/
def State.wantTrim (s : State) (n : Nat) : State :=
  if s.isSet (RFL_STAT_TRIMDUE n) then s
  else
    let s := (s.setFld (RFL_STAT_TRIMDUE n) 1).raise (84 + 8 * n)
    { s with sch := { s.sch with trimWant := insertNat n s.sch.trimWant } }

/-- The lanes have been calibrated and trimmed in this start (R209). -/
def State.trimmed (s : State) : Bool := s.sys.phase == .ready || s.sys.phase == .running || s.sys.phase == .rerun true

/-- TRIM_DUE: a temperature reading of a lane. -/
def State.laneTemp (s : State) (n : Nat) (temp : Nat) : State :=
  if !s.isCast (9 + n) then s
  else
    let s := s.setFld (RFL_STAT_TEMP n) temp
    if s.trimmed && decide (10 < (s.fldInt (RFL_STAT_TEMP n) - s.fldInt (RFL_IQ_TTRIM n)).natAbs) then s.wantTrim n else s

/-- The trim of a lane starts at the edge of its trim beat. -/
def State.startTrims (s : State) (b : Nat) : State :=
  (s.sch.trim.filter (fun x => x.2 == b)).foldl (fun s x =>
    ({ s with sch := { s.sch with trim := s.sch.trim.erase x } }).setFld (RFL_STAT_TRIMMING x.1) 1) s

/-- TRIM_DONE. -/
def State.trimDone (s : State) (n irr : Nat) : State :=
  if !s.isSet (RFL_STAT_TRIMMING n) then s
  else
    let s := (s.setFld (RFL_STAT_TRIMMING n) 0).setFld (RFL_STAT_TRIMDUE n) 0
    ((s.setFld (RFL_IQ_TTRIM n) (s.fld (RFL_STAT_TEMP n))).setFld (RFL_IQ_IRR n) irr).raise (85 + 8 * n)

/-! ### Gain (R195) -/

/-- LANE_AGC_FAST_ATTACK: the automatic gain drops by 6 dB, frames in progress or not. -/
def State.fastAttack (s : State) (n : Nat) : State :=
  if s.isCast (9 + n) && s.fld (RFL_AGC_MODE n) == 0 then
    let (g, s) := s.laneGain n
    (s.setFld (RFL_AGC_GAIN n) (g - 12)).setLane n { s.lane n with gainAt := some s.tim.ts }
  else s

/-! ### Front-end management bus (R213, R214) -/

/-- Lanes that depend on the bus. -/
def State.fmbLanes (s : State) : List Nat := (List.range 4).filter (fun n => s.isCast (9 + n) && s.isSet (RFL_PLAN_FMBDEP n))

/-- The transaction of a list entry. -/
def State.listOp (s : State) (n k : Nat) : FmbOp :=
  ⟨some n, false, s.fld (RFL_FMB_ADDR n k), s.fld (RFL_FMB_REG n k), s.fld (RFL_FMB_VALUE n k), 0⟩

/-- A transaction is begun. It goes out while the bus is active, which is in the modes with beats (R87, log entry 61). -/
def State.fmbSend (s : State) (o : FmbOp) : State :=
  let s := { s with fmb := { s.fmb with cur := some o } }
  if s.beating then s.emit (.fmb o.read o.addr o.reg o.val) else s

/-- The bus becomes active: a transaction that waits goes out. -/
def State.fmbResume (s : State) : State :=
  match s.fmb.cur with
  | some o => s.fmbSend o
  | none => s

/-- With no transaction in progress, the next list entry goes out. -/
def State.fmbNext (s : State) : State :=
  match s.fmb.cur, s.fmb.todo with
  | none, p :: r => ({ s with fmb := { s.fmb with todo := r } }).fmbSend (s.listOp p.1 p.2)
  | _, _ => s

/-- A lane's write list is to run. -/
def State.queueList (s : State) (n : Nat) : State :=
  { s with fmb := { s.fmb with todo := s.fmb.todo.filter (fun p => p.1 != n) ++ (List.range (s.lane n).nfmb).map (fun k => (n, k)) } }

/-- FMB-RECOVER when the last dependent lane is clear of the fence. -/
def State.fmbRecovered (s : State) : State :=
  if s.fld RFL0_FMBSTAT_CAUSE ≠ 0 ∧ s.fmbLanes.all (fun n => !(s.fld (RFL_STAT_FCAUSE n)).testBit 1) then
    ((s.setFld RFL0_FMBSTAT_FAILED 0).setFld RFL0_FMBSTAT_CAUSE 0).raise 87
  else s

/-- A lane's list has been verified: its FMB fence lifts. -/
def State.listVerified (s : State) (n : Nat) : State :=
  (s.setFence n (s.fld (RFL_STAT_FCAUSE n) % 2)).fmbRecovered

/-- The bus fails, or a write cannot be verified: the dependent lanes are fenced (R214). -/
def State.fmbFail (s : State) (cause : Nat) : State :=
  let s := { s with fmb := ⟨none, []⟩ }
  let s := ((if cause = 3 then s else s.setFld RFL0_FMBSTAT_FAILED 1).setFld RFL0_FMBSTAT_CAUSE cause).setFld RFL0_FMBSTAT_RETRIES 0
  (s.fmbLanes.foldl (fun s n => s.setFence n (s.fld (RFL_STAT_FCAUSE n) ||| 2)) s).raise 86

/-- A host transaction has finished. -/
def State.hostXfer (s : State) (o : FmbOp) : State := if o.lane.isNone then s.latch RFL0_FMBSTAT_XDONE else s

/-- A transaction that is done: a lane's list goes on, or is complete. -/
def State.fmbDone (s : State) (o : FmbOp) : State :=
  let s := ({ s with fmb := { s.fmb with cur := none } }).hostXfer o
  let s := match o.lane with
    | some n => if s.fmb.todo.any (fun p => p.1 == n) then s else s.listVerified n
    | none => s
  s.fmbNext

/-- FMB_TRANSACTION_DONE: the data read, or the last read-back; none where SDA stays low after the nine pulses. -/
def State.fmbResult (s : State) (data : Option Byte) : State :=
  match (if s.beating then s.fmb.cur else none), data with
  | none, _ => s
  | some o, none => (s.fmbFail 1).hostXfer o
  | some o, some b =>
    let s := s.setFld RFL0_FMBSTAT_RDATA b.toNat
    if o.read || b.toNat == o.val then s.fmbDone o
    else if o.tries < 2 then s.fmbSend { o with tries := o.tries + 1 }
    else (s.fmbFail 3).hostXfer o

/-- FMB_SCL_TIMEOUT. -/
def State.sclTimeout (s : State) : State :=
  match (if s.beating then s.fmb.cur else none) with
  | none => s
  | some o => (s.fmbFail 2).hostXfer o

/-- GO of RFL0_FMBXFER: a host transaction starts. -/
def State.fmbGo (s : State) : State :=
  s.fmbSend ⟨none, s.isSet RFL0_FMBXFER_READ, s.fld RFL0_FMBXFER_ADDR, s.fld RFL0_FMBXFER_REG, s.fld RFL0_FMBXFER_DATA, 0⟩

/-- A lane's list starts to run, and a dependent lane is fenced until it is verified. -/
def State.runList (s : State) (n : Nat) : State :=
  let dep := s.isSet (RFL_PLAN_FMBDEP n)
  let s := s.queueList n
  if (s.lane n).nfmb = 0 then (if dep then s.listVerified n else s)
  else if dep then s.setFence n (s.fld (RFL_STAT_FCAUSE n) ||| 2) else s

/-- The retry of every superframe start (R214). -/
def State.fmbRetry (s : State) : State :=
  if s.fld RFL0_FMBSTAT_CAUSE = 0 then s
  else
    let s := s.addSat RFL0_FMBSTAT_RETRIES 1
    (((List.range 4).filter (fun n => s.isCast (9 + n))).foldl (fun s n => s.runList n) s).fmbRecovered.fmbNext

/-! ### Reset and release of a lane (R63, R207, R209) -/

/-- A lane's run-time state goes; measurements, the image trim and the cast list's length stay. -/
def State.laneReset (s : State) (n : Nat) : State :=
  let s := s.airOut n false
  let temp := s.fld (RFL_STAT_TEMP n)
  let iq := s.get (RFL_IQ n)
  let s := s.setLane n { Lane.cold with nfmb := (s.lane n).nfmb }
  let s := s.coldRange (0x50010 + 0x10000 * n) (0x50060 + 0x10000 * n)
  let s := (s.setFld (RFL_STAT_TEMP n) temp).put (RFL_IQ n) iq
  let s := { s with
    fmb := { s.fmb with todo := s.fmb.todo.filter (fun p => p.1 != n) }
    sch := { s.sch with trim := s.sch.trim.filter (fun x => x.1 != n), trimWant := s.sch.trimWant.erase n } }
  (s.setPaen n false).updateLna

/-- A lane is released: the receive synthesiser retunes, no channel counts as last used, and the write list runs. -/
def State.laneRelease (s : State) (n : Nat) : State :=
  let s := s.setLane n { s.lane n with lastCh := none, txTune := none }
  ((s.retuneRx n).runList n).fmbNext

/-! ### The commands -/

def execRxWindowStart (entry : Fin 2048) (s : State) : Host.Outcome State Fault Refusal := .next (s.rxWindowStart entry.val)
def execSfdDetect (lane : Fin 4) (tap : Fin 32) (ts : BitVec 64) (s : State) : Host.Outcome State Fault Refusal :=
  .next (s.sfdDetect lane.val tap.val ts.toNat)
/-- FRAME_RECEIVED: the PHR, and the PSDU with its FCS after dewhitening. -/
def execFrameReceived (lane : Fin 4) (tap : Fin 32) (phr : RxPhr) (psdu : List Byte) (rssi : Byte) (cfo : Int)
    (s : State) : Host.Outcome State Fault Refusal :=
  let f := s.checkFrame lane.val tap.val phr psdu
  .next (s.frameReceived lane.val tap.val f.isSome (f.getD []) rssi.toNat cfo phr.fcs4 phr.whiten)
def execRxWindowEnd (entry : Fin 2048) (s : State) : Host.Outcome State Fault Refusal := .next (s.rxWindowEnd entry.val)
def execTxRetuneStart (entry : Fin 2048) (s : State) : Host.Outcome State Fault Refusal := .next (s.txRetuneStart entry.val)
def execSynthSettled (lane : Fin 4) (tx : Bool) (seeds iq : Word) (s : State) : Host.Outcome State Fault Refusal :=
  .next (s.synthSettled lane.val tx seeds iq)
def execTxBlankStart (entry : Fin 2048) (s : State) : Host.Outcome State Fault Refusal := .next (s.txBlankStart entry.val)
def execTxAntsel (entry : Fin 2048) (s : State) : Host.Outcome State Fault Refusal := .next (s.txAntsel entry.val)
def execTxPaenRise (entry : Fin 2048) (s : State) : Host.Outcome State Fault Refusal := .next (s.txPaenRise entry.val)
def execTxRampUp (entry : Fin 2048) (s : State) : Host.Outcome State Fault Refusal := .next (s.txRampUp entry.val)
def execTxRampDown (entry : Fin 2048) (s : State) : Host.Outcome State Fault Refusal := .next (s.txRampDown entry.val)
def execTxPaenFall (entry : Fin 2048) (ts : BitVec 64) (s : State) : Host.Outcome State Fault Refusal :=
  .next (s.txPaenFall entry.val ts.toNat)
def execTxBlankEnd (lane : Fin 4) (s : State) : Host.Outcome State Fault Refusal := .next (s.txBlankEnd lane.val)
def execLaneAgcFastAttack (lane : Fin 4) (s : State) : Host.Outcome State Fault Refusal := .next (s.fastAttack lane.val)
def execPafltActive (lane : Fin 4) (level : Bool) (ts : BitVec 64) (s : State) : Host.Outcome State Fault Refusal :=
  .next (s.pafltLevel lane.val level ts.toNat)
def execTrimDue (lane : Fin 4) (temp : Byte) (s : State) : Host.Outcome State Fault Refusal :=
  .next (s.laneTemp lane.val temp.toNat)
def execTrimDone (lane : Fin 4) (irr : BitVec 16) (s : State) : Host.Outcome State Fault Refusal :=
  .next (s.trimDone lane.val irr.toNat)
def execSynthUnlock (lane : Fin 4) (tx : Bool) (s : State) : Host.Outcome State Fault Refusal :=
  .next (s.synthUnlock lane.val tx)
def execFmbTransactionDone (data : Option Byte) (s : State) : Host.Outcome State Fault Refusal := .next (s.fmbResult data)
def execFmbSclTimeout (s : State) : Host.Outcome State Fault Refusal := .next s.sclTimeout

end Sys2Proof.Machine
end

