-- ==== Sys2Proof/Machine/Hooks.lean ====
section
/-! DEFINITION. What an accepted write of a register or table word does: the word is stored, and the action that a chapter
gives the register follows. The casting loader writes INIT values and restores in the same way (R44, R80). -/

namespace Sys2Proof.Machine

open Sys2Proof.Fields

/-- The owner code of the source of an access (R35). -/
def ownerOf : BusSrc → Nat
  | .core c => 0x10 + c.val
  | _ => ownHst

/-! ### Actions of single stations -/

/-- The bits that a write has set. -/
def newBits (old new : Word) : Nat := (new &&& ~~~old).toNat

/-- A gain that goes from automatic mode to hold stays at what it is then (R102, R203). -/
def State.holdGain (s : State) (a : Nat) (v : Word) : State :=
  let b := if a = GNF_CTL 0 then 0 else 1
  if (a = GNF_CTL 0 ∨ a = GNF_CTL 1) ∧ getFld v (GNF_CTL_AGCMODE 0) = 1 then
    let (g, s) := s.gainNow b
    s.setFld (GNF_AGC_GAIN b) g
  else if 5 ≤ a / 0x10000 ∧ a / 0x10000 < 9 ∧ a % 0x10000 = 0x18 ∧ getFld v (RFL_AGC_MODE 0) = 1 then
    let n := a / 0x10000 - 5
    let (g, s) := s.laneGain n
    s.setFld (RFL_AGC_GAIN n) g
  else s

/-- Channels newly blacklisted: their tickets are squashed (R257). -/
def State.blacklistWrote (s : State) (n base : Nat) (old : Word) : State :=
  let bits := newBits old (s.get (SCH_BLKLO n + base / 8))
  let s := s.squash cBlacklist (fun _ t => t.lane == n && decide (base ≤ t.ch) && decide (t.ch < base + 32) && bits.testBit (t.ch - base))
  s.plan

/-- A word of a node record is written by the host (R227, R229, R304). A new STATE has the record's ingot written (R414). -/
def State.nodeWrite (s : State) (i w : Nat) (v : Word) : State :=
  let mask : Word := match w with
    | 2 => 0x0307FFFF
    | 3 => 0x0003FF07
    | 9 => 0xFFFF1FFF
    | 10 => 0x00FFFF1F
    | 11 => 0x00000007
    | 28 => 0x00000037
    | 29 => 0x00FFFFFF
    | 12 => 0
    | 13 => 0
    | 14 => 0
    | 15 => 0
    | 31 => 0
    | _ => 0xFFFFFFFF
  let word : Word := v &&& mask
  let old := s
  let s :=
    if w = 2 ∧ getFld word NR_STATE = nodeFree then (s.freeRecord i).setNodeWord i 2 word
    else s.setNodeWord i w word
  let s := if w = 2 ∧ old.nodeState i ≠ getFld word NR_STATE then s.queueIngot 8 i else s
  let s := (s.noteMirror i).noteComplete old
  s.plan

/-- A write of 1 to MGT_REJ_INFO.PEND: COUNT starts anew, and rejects of the same tick are captured afresh, with CONFIG-REJECT where
none of them has raised it (R5, R96). -/
def State.clearReject (s : State) : State :=
  let t := s.now
  let s := (s.setFld MGT_REJ_INFO_PEND 0).setFld MGT_REJ_INFO_COUNT 0
  if t.rejects = [] then s
  else
    let s := { s.captureReject t.rejects t.rejects.length with tick := { t with rejNew := true } }
    if t.rejNew then s else s.raise 1

/-- A host write of MODE = 1 restarts the survey with an empty mean (R149). -/
def State.surveyAnew (s : State) : State :=
  { s with gnss := { s.gnss with prog := { s.gnss.prog with sum := (0, 0, 0), num := 0, span := 0 } } }

/-- A host write of GNT_TMODE or a position register ends the suspicion of the fixed position (R150). -/
def State.trustFixed (s : State) : State :=
  { s with gnss := { s.gnss with prog := { s.gnss.prog with bad := 0, suspect := false } } }

/-- OSNMA is switched off (R156): no satellite stays authenticated. -/
def State.osnOff (s : State) : State :=
  let s := (s.allSlices.foldl (fun s i => s.setFld (SL_TRK_AUTH i) 0) s).setFld GNT_OSNSTAT_NAUTH 0
  if s.fld GNT_OSNSTAT_STATE = 0 then s else (s.setFld GNT_OSNSTAT_STATE 0).raise 78

/-- What a write of a chain's control register does beside storing it (R102, R104, R105). -/
def State.chainWritten (s : State) (b : Nat) (old : Word) : State :=
  let s := s.leaveEnd b
  let s := if getFld old (GNF_CTL_NOTCHEN b) = s.fld (GNF_CTL_NOTCHEN b) then s
    else (List.range 4).foldl (fun s k => s.notchSet b k) s
  s.refreshBand b

/-- What the stations MGT, TIM, GNF, GNC and GNT do at a write. -/
def State.wroteTime (s : State) (src : BusSrc) (a : Nat) (old v : Word) : State :=
  if a = MGT_REJ_INFO then (if getFld v MGT_REJ_INFO_PEND = 1 then s.clearReject else s)
  else if a = MGT_COMMIT then (if getFld v MGT_COMMIT_REQ = 1 then s.startCommit 1 else s)
  else if a = TIM_SETSEC then s.labelSecond v.toNat
  else if a = TIM_TREFCFG then s.ptpFollow.selectTref
  else if a = TIM_FREFCFG then s.selectFref
  else if a = TIM_ANTDLY then (if old = s.get a then s else { s with tim := { s.tim with judgeJump := true } })
  else if a = TIM_TPDLYB 0 then s.tpCommit 0
  else if a = TIM_TPDLYB 1 then s.tpCommit 1
  else if a = TIM_TICCTL then s.ticCtl v
  else if a = GNF_CTL 0 then s.chainWritten 0 old
  else if a = GNF_CTL 1 then s.chainWritten 1 old
  else if a = GNF_AGC 0 then s.leaveEnd 0
  else if a = GNF_AGC 1 then s.leaveEnd 1
  else if 0x20000 ≤ a ∧ a < 0x20100 ∧ 0x10 ≤ a % 0x80 ∧ a % 0x80 < 0x20 then s.notchSet ((a - 0x20000) / 0x80) (a % 0x80 / 4 - 4)
  else if a = GNC_ACQCTL then s.acqCtl v
  else if a = GNC_SNAPCTL then
    if s.gnss.snap.isSome then (if getFld v GNC_SNAPCTL_ABORT = 1 then s.snapAbort [] else s)
    else if getFld v GNC_SNAPCTL_START = 1 then s.snapStart v
    else s
  else if a = GNT_TSOL_CTL then (if getFld v GNT_TSOL_CTL_POST = 1 && s.live 7 && s.live 8 then s.post else s)
  else if a = GNT_NAPCTL then (if getFld v GNT_NAPCTL_WAKE = 1 then s.napEnd else s)
  else if a = GNT_TMODE then
    (match src with
     | .core _ => if getFld old GNT_TMODE_MODE = 1 ∧ s.fld GNT_TMODE_MODE = 2 then s.raise 73 else s
     | _ => (if s.fld GNT_TMODE_MODE = 1 then s.surveyAnew else s).trustFixed)
  else if GNT_POSX ≤ a ∧ a ≤ GNT_POSACC then
    (match src with
     | .core _ => s
     | _ => s.trustFixed)
  else if a = GNT_OSNCFG then (if s.isSet GNT_OSNCFG_EN then s else s.osnOff)
  else if 0x44000 ≤ a ∧ a < 0x47000 ∧ a % 16 = 12 then s.predArm ((a - 0x44000) / 0x40) (a / 16 % 4) v.toNat
  else s

/-- What the stations RFL, MAC, SCH and FWD do at a write. -/
def State.wroteMesh (s : State) (a : Nat) (old v : Word) : State :=
  if a = RFL0_FMBXFER then (if getFld v RFL0_FMBXFER_GO = 1 then s.fmbGo else s)
  else if 5 ≤ a / 0x10000 ∧ a / 0x10000 < 9 then
    let n := a / 0x10000 - 5
    if a = RFL_CTL n then
      let s := if getFld v (RFL_CTL_TXCLR n) = 1 then s.clearTxFence n else s
      if getFld v (RFL_CTL_TRIMREQ n) = 1 then s.wantTrim n else s
    else if a = RFL_FECTL n then s.fectlWrote n old
    else s
  else if 0xA0040 ≤ a ∧ a < 0xA0060 then
    s.blacklistWrote ((a - 0xA0040) / 8) (if a % 8 = 0 then 0 else 32) old
  else if a = SCH_CANCEL then
    if getFld v SCH_CANCEL_GO = 1 then s.schCancel (s.fld SCH_CANCEL_QUEUE) (s.fld SCH_CANCEL_TAG) else s
  else if a = FWD_SHCFG then (if getFld old FWD_SHCFG_EN = 0 then s.shadowStart else s)
  else if a = FWD_LOCK then s.lockRequest (s.fld FWD_LOCK_REQ)
  else if a = FWD_CMD then (if getFld v FWD_CMD_GO = 1 then s.fwdGo else s)
  else if a = FWD_MEQCTL then (if getFld v FWD_MEQCTL_POP = 1 then s.meqPop else s)
  else s

/-- RETEST: the start-up test draws a free verdict (R308). -/
def State.trngRetest (s : State) : State :=
  let (v, s) := s.fresh
  if v % 2 = 1 then s.trngHeal else s

/-- What SEC and PLK do at a write. -/
def State.wroteSec (s : State) (src : BusSrc) (a : Nat) (v : Word) : State :=
  if a = SEC_TRNGSTAT then (if getFld v SEC_TRNGSTAT_RETEST = 1 then s.trngRetest else s)
  else if a = SEC_KEYCMD then (if getFld v SEC_KEYCMD_GO = 1 then s.keyGo else s)
  else if a = SEC_JOINCMD then (if getFld v SEC_JOINCMD_GO = 1 then (s.joinGo (ownerOf src)).plan else s)
  else if a = SEC_JOBCTL then
    let s := if getFld v SEC_JOBCTL_POP = 1 then s.jobPop else s
    if getFld v SEC_JOBCTL_PUSH = 1 then s.jobPush else s
  else if 0xC0200 ≤ a ∧ a < 0xC0240 then
    let i := (a - 0xC0200) / 16
    if a = SEC_IMGCFG i then
      let s := if getFld v (SEC_IMGCFG_DROP i) = 1 then s.imageDrop i else s
      if getFld v (SEC_IMGCFG_LOAD i) = 1 then s.imageLoad i else s
    else s
  else if 0xC0300 ≤ a ∧ a < 0xC0400 then
    let k := (a - 0xC0300) / 0x40
    if a = SEC_CAMPCTL k then s.campCtl k (v.toNat % 16) else s
  else if a = PLK_PCFG 0 ∨ a = PLK_PCFG 1 then
    let q := if a = PLK_PCFG 0 then 0 else 1
    let s := if s.fld (PLK_PCFG_MODE q) = 0 then s.ethLink q false 0 else s
    if s.fld (PLK_PCFG_PTPROLE q) = 0 then s.ptpStop q else s
  else if a = PLK_SBCFG then s.setRole (s.fld PLK_SBCFG_ROLE)
  else if a = PLK_HOCMD then (if getFld v PLK_HOCMD_GO = 1 then s.hoPull else s)
  else s

/-- What the cores, MEM and HST do at a write. -/
def State.wroteCore (s : State) (a : Nat) (old v : Word) : State :=
  if a = MEM_NOWN then (if getFld v MEM_NOWN_PEND = 1 then s.clearNown else s)
  else if 0x100100 ≤ a ∧ a < 0x100200 then
    let q := (a - 0x100100) / 0x20
    if a = HST_QCFG q then
      if getFld old (HST_QCFG_EN q) = 0 ∧ s.isSet (HST_QCFG_EN q) then s.queueEnabled q else s
    else if a = HST_QCQHEAD q then s.updateFull q
    else s
  else if 0x101000 ≤ a ∧ a < 0x101200 then s.flushVector ((a - 0x101000) / 16)
  else if 0x200000 ≤ a ∧ a < 0x300000 then
    let c := (a - 0x200000) / 0x10000
    if a = CHB_CDOORBELL c then (if getFld v (CHB_CDOORBELL_RING c) = 1 then s.ringDoorbell c else s)
    else if a = CHB_COFFER1 c then (if getFld v (CHB_COFFER1_GO c) = 1 then s.coreOffer c else s)
    else if a = CHB_CCTL c then (if getFld v (CHB_CCTL_CLRMAX c) = 1 then s.setFld (CHB_CYIELD_MAX c) 0 else s)
    else if a = PMU_CFG c then
      if getFld old (PMU_CFG_SAMPEN c) = 0 ∧ s.isSet (PMU_CFG_SAMPEN c) then
        s.setCore c { s.core c with pmu := { (s.core c).pmu with left := none } }
      else s
    else if a = PMU_CTL c then
      let s := if getFld v (PMU_CTL_SRESET c) = 1 then s.pmuSampleReset c else s
      if getFld v (PMU_CTL_SNAP c) = 1 then s.pmuSnap c else s
    else s
  else s

/-! ### An accepted write -/

/-- A write of a word of memory that a core window shows (R389). -/
def State.apertureWrite (s : State) (c o : Nat) (v : Word) : State :=
  s.setCore c ((s.core c).storeAny (s.aperture c o) (leBytes 4 v.toNat))

/-- A word that stands in a register or a table is stored, and what follows from it. -/
def State.plainWrite (s : State) (src : BusSrc) (a : Nat) (v : Word) : State :=
  let s := s.holdGain a v
  let old := s.get a
  let s := s.storeWord a v
  if a < 0x50000 then s.wroteTime src a old v
  else if a < 0xC0000 then s.wroteMesh a old v
  else if a < 0xE0000 then s.wroteSec src a v
  else if a < 0x300000 then s.wroteCore a old v
  else if 0x440000 ≤ a ∧ a < 0x450000 then s.sliceWritten ((a - 0x440000) / 256) (a % 256 / 4) old
  else if 0x460000 ≤ a ∧ a < 0x461000 then s.leapJudge
  else s

/-- An accepted write. -/
def State.applyWrite (s : State) (src : BusSrc) (a : Nat) (v : Word) : State :=
  if 0xF0100 ≤ a ∧ a < 0xF0400 then
    let b := (a - 0xF0100) / 4
    if v.toNat % 32 = s.owner b then s else (s.startHandover b (v.toNat % 32)).snapWatch
  else if 0x110000 ≤ a ∧ a < 0x120000 then s.bkpWrite a v
  else if 0x200000 ≤ a ∧ a < 0x300000 then
    let c := (a - 0x200000) / 0x10000
    let o := a % 0x10000
    if 0x1100 ≤ o ∧ o < 0x1280 then s.pmuWrite c ((o - 0x1100) / 8) (o % 8 != 0) v
    else if 0x1280 ≤ o ∧ o < 0x8000 then s
    else if 0x8000 ≤ o then s.apertureWrite c o v
    else s.plainWrite src a v
  else if 0x500000 ≤ a ∧ a < 0x600000 then s.nodeWrite (s.nodePage (a - 0x500000)) (a % 128 / 4) v
  else if 0x600000 ≤ a ∧ a < 0x700000 then
    let (t, x) := s.fwdPage (a - 0x600000)
    s.fwdDirect t (x / entryBytes t) (x % entryBytes t / 4) v.toNat
  else s.plainWrite src a v

end Sys2Proof.Machine
end

