-- ==== Sys2Proof/Machine/Sources.lean ====
section
/-! DEFINITION. The loader's job and its sources, the anti-rollback counter, and the start of a transition (spec/02 R50 to R54, R56,
spec/03 R68, R72). -/

namespace Sys2Proof.Machine

open Sys2Proof.Fields

def State.setJob (s : State) (j : Option LoadJob) : State := { s with sys := { s.sys with job := j } }
def State.setPhaseOf (s : State) (p : Phase) : State := { s with sys := { s.sys with phase := p } }

/-- MGT_CASTERR takes a failure. -/
def State.castError (s : State) (f : CFail) : State := (s.setFld MGT_CASTERR_CAUSE f.1).setFld MGT_CASTERR_RECIDX f.2

/-! ### The start of a transition (R68, R72) -/

/-- A DORMANT request (R72) or a SURVEY request (R68) is carried out: the partner of a pair is told of the departure (R335), and
DORMANT ends a snapshot (R121). Planning stops at the next commit point where beats run. -/
def State.beginTrans (s : State) (m : Nat) : State :=
  let s := if s.serving then s.sendLeave else s
  if m = modeDormant then
    let s := s.snapDrop false
    { s with sys := { s.sys with trans := .dormant (if s.beating then 0 else 1) } }
  else { s with sys := { s.sys with trans := .survey } }

/-! ### Sources (R52 to R54, R56) -/

/-- The flash address of a slot (R53). -/
def flashBase : CastFrom → Nat
  | .flashSafe => 0x800000
  | _ => 0

/-- What the loader asks of a source at the start of a load: the header from the flash, or the image from host memory at the address
and with the length that its registers hold (R53, R54). -/
def State.fetchFrom (s : State) (f : CastFrom) : State :=
  match f with
  | .flashMain => s.emit (.flash 0x03 (flashBase f) 64)
  | .flashSafe => s.emit (.flash 0x03 (flashBase f) 64)
  | .hostPcie =>
    if s.linkUp then s.emit (.hostRead (2 ^ 32 * s.fld MGT_CASTADDR_HI_ADDR + 8 * s.fld MGT_CASTADDR_LO_ADDR) (s.fld MGT_CASTLEN_LEN))
    else s
  | _ => s

/-- Staging begins from a source. -/
def State.startLoad (s : State) (f : CastFrom) : State :=
  (((s.setJob (some ⟨false, f, 0, [], none, 0, 0⟩)).setFld MGT_CASTSTAT_STATE csStaging).setFld MGT_MODE_WAIT 0).fetchFrom f

def hostFrom (spi : Bool) : CastFrom := if spi then .hostSpi else .hostPcie

/-- A LOAD that was held is taken, or the device waits for one. -/
def State.takeHeld (s : State) : State :=
  match s.sys.heldLoad with
  | some spi => { s with sys := { s.sys with heldLoad := none } }.startLoad (hostFrom spi)
  | none => s.setFld MGT_MODE_WAIT 1

/-- The load phase begins with the first source. -/
def State.enterLoad (s : State) : State :=
  let s := s.setPhaseOf .load
  if s.sys.castSrc then s.takeHeld else s.startLoad .flashMain

/-- The next source after a failed one. -/
def State.nextSource (s : State) (failed : CastFrom) : State :=
  if s.sys.phase = .load && failed != .flashSafe then s.startLoad .flashSafe else (s.setPhaseOf .awaitHost).takeHeld

/-- A LOAD that cannot be taken fails, and leaves a job in progress untouched. No image has been read: it counts as a partial casting
in the modes that take only one, and as a full one in the others, and the target of a partial one is free data (log entry 57). -/
def State.refuseLoad (s : State) (cause : Nat) : State :=
  let s := s.castError (cause, noRec)
  if s.beating then
    let (t, s) := s.fresh
    s.raise 5 (t % 256)
  else s.raise 3

/-- LOAD of MGT_CASTCTL. DESIGN CHOICE (log entry 58): a LOAD written before the load phase, or while either slot is read, is held, and a
second one fails with BUSY; one written in ANNEAL once a casting has been applied fails with MODE. A host on SPI names the staging area by an address of 0 (R54). -/
def State.castLoad (s : State) (src : BusSrc) : State :=
  let spi := decide (src = .spi) && s.fld MGT_CASTADDR_HI_ADDR == 0 && s.fld MGT_CASTADDR_LO_ADDR == 0
  if s.beating then (if s.sys.job.isSome then s.refuseLoad ceBusy else s.startLoad (hostFrom spi))
  else if s.mode = modeAnneal then
    let early := [Phase.assay1, Phase.scan, Phase.rerun false].contains s.sys.phase
    let flash := match s.sys.job with
      | some j => j.from_ == .flashMain || j.from_ == .flashSafe
      | none => false
    if early || flash then
      if s.sys.heldLoad.isSome then s.refuseLoad ceBusy else { s with sys := { s.sys with heldLoad := some spi } }
    else if s.sys.phase = .load ∨ s.sys.phase = .awaitHost then
      if s.sys.job.isSome then s.refuseLoad ceBusy else s.startLoad (hostFrom spi)
    else s.refuseLoad ceMode
  else s.refuseLoad ceMode

/-- CAST_HOST_TIMEOUT: with CAST_SRC high no LOAD has come within 10 s. -/
def State.hostTimeout (s : State) : State :=
  if s.sys.phase = .load && s.sys.castSrc && s.sys.job.isNone then s.startLoad .flashSafe else s

/-! ### The anti-rollback counter (R50, R51) -/

/-- The counter advances to the running casting's ARBVER: its ingot is queued in front, and MGT_ARBCNT follows its write. -/
def State.arbAdvance (s : State) : State :=
  let v := s.fld MGT_CASTVER_ARBVER
  if v ≤ s.fld MGT_ARBCNT_COUNT then s
  else { s with cru := { s.cru with queue := ⟨1, 0, some [v], none⟩ :: s.cru.queue } }.fillQueue

end Sys2Proof.Machine
end

