-- ==== Sys2Proof/Machine/Modes.lean ====
section
/-! DEFINITION. Modes and starts: mode requests, SURVEY, SERVICE, HOLDOVER and DORMANT, wake sources, Assay and calibration, reset
and power (spec/03 R66 to R77, R87 to R92, spec/06 R480, spec/18 R447, R457). -/

namespace Sys2Proof.Machine

open Sys2Proof.Fields

/-- MGT_MODE.CAUSE. -/
def causePower : Nat := 1
def causePorst : Nat := 2
def causeWake : Nat := 3
def causeHost : Nat := 4
def causeValid : Nat := 5
def causeLost : Nat := 6
def causeReady : Nat := 7

/-- The mode changes, and MODE-CHANGE is raised (R98). -/
def State.setMode (s : State) (m cause : Nat) : State :=
  let s := (s.setFld MGT_MODE_MODE m).setFld MGT_MODE_CAUSE cause
  let s := if m = modeAnneal then s else s.setFld MGT_MODE_WAIT 0
  s.raise 0 ((s.get MGT_MODE).toNat % 2 ^ 16)

def State.setTrans (s : State) (t : Trans) : State := { s with sys := { s.sys with trans := t } }

/-- The time pulses are low outside SERVICE and HOLDOVER (R87). -/
def State.pulsesLow (s : State) : State :=
  [0, 1].foldl (fun s n => s.setTp n { s.tp n with armed := none, level := false }) s

/-! ### SURVEY (R68, R71, R90) -/

/-- Beats begin: the next edge is the first one of the grid (R13, R19). -/
def State.beginBeats (s : State) : State :=
  let e := s.gridAfter (s.tim.ts + 1)
  { s with tim := { s.tim with edge := e, last := e - s.beatTicks },
           gnss := { s.gnss with openB := ⟨s.beat, []⟩, closed := [], early := [], cut := false } }

/-- Lanes, GNSS, cores and the peer ports start under the casting. -/
def State.startStations (s : State) : State :=
  let s := ((List.range 4).filter s.laneLive).foldl (fun s n => s.laneRelease n) s
  let s := ((List.range 16).filter (fun c => s.live (0x20 + c))).foldl (fun s c =>
    s.setCore c { s.core c with pc := BitVec.ofNat 16 (s.fld (CHB_CRESETVEC_VEC c)) }) s
  let s := { s with mac := { s.mac with cellid := s.fld MAC_CELLID_CELLID } }
  (((s.tpLoad 0).tpLoad 1).drawEpoch.refreshBands).startClass s.sys.ranOn

/-- SURVEY is entered from ANNEAL. The FMB becomes active, and a transaction that the host has asked for goes out (log entry 61). -/
def State.enterSurvey (s : State) (cause : Nat) : State :=
  let s := ((s.setFld MGT_MODE_PENDING 0).setMode modeSurvey cause).surveyTime
  let s := { s with sys := { s.sys with phase := .running, surveyLate := false } }
  s.beginBeats.startStations.fmbResume

/-- SURVEY is entered from SERVICE or HOLDOVER, at a commit point (R136, R155, R257). -/
def State.backToSurvey (s : State) : State :=
  let s := s.closePlan.napEnd
  let s := ((s.setMode modeSurvey causeHost).setFld TIM_BEATPOS_VALID 0).surveyTime
  let s := { s with sys := { s.sys with trans := .none, surveyLate := false } }
  ((s.squashQuiet.setFld TIM_HOLDERR_ERR 0).refreshDegraded.pulsesLow).startClass true

/-- SURVEY_TIMEOUT (R71). -/
def State.surveyTimeout (s : State) : State :=
  if s.mode = modeSurvey ∧ s.fld MGT_ASSAYCTL_SURVEYMAX ≠ 0 ∧ !s.sys.surveyLate then
    { s with sys := { s.sys with surveyLate := true } }.raise 12
  else s

/-! ### SERVICE and HOLDOVER (R17, R68, R92) -/

/-- The counts of missed uplinks and of superframes adrift restart. -/
def State.clearMisses (s : State) : State :=
  s.records.foldl (fun s i =>
    if s.nr i NR_MISSCNT = 0 ∧ s.nr i NR_ADRIFTSF = 0 then s
    else ((s.setNr i NR_MISSCNT 0).setNr i NR_ADRIFTSF 0).noteMirror i) s

/-- The first entry to SERVICE advances the anti-rollback counter where the casting asks for it (R51). -/
def State.autoAdvance (s : State) : State :=
  if s.sys.autoAdv then { s with sys := { s.sys with autoAdv := false } }.arbAdvance else s

/-- SERVICE is entered. -/
def State.enterService (s : State) (survey : Bool) : State :=
  let s := (s.setMode modeService causeValid).clearMisses
  let s := { s with sys := { s.sys with awakeFrom := s.tim.ts } }
  if survey then
    { s with sch := { s.sch with stopping := false, resume := false } }.autoAdvance
  else (s.setFld TIM_HOLDERR_ERR 0).refreshDegraded

/-- HOLDOVER is entered. -/
def State.enterHoldover (s : State) : State :=
  ((s.napEnd.setMode modeHoldover causeLost).holdStart).refreshDegraded

/-- The pending edge is the one at which SERVICE is entered from SURVEY, and which sets the beat count (R17, R68, log entry 49). -/
def State.toService (s : State) : Bool :=
  s.mode == modeSurvey && s.isSet TIM_STAT_TVALID && (s.sys.trans == .none || s.sys.trans == .survey)

/-- What an edge does to the mode. On the way to DORMANT no other transition takes place. -/
def State.modeEdge (s : State) : State :=
  let v := s.isSet TIM_STAT_TVALID
  match s.sys.trans with
  | .dormant _ => s
  | _ =>
    if s.mode = modeSurvey ∧ v then s.enterService true
    else if s.mode = modeService ∧ !v then s.enterHoldover
    else if s.mode = modeHoldover ∧ v then s.enterService false
    else s

/-! ### Starts (R68, R73, R74, R480) -/

def fieldMask (f : Fld) : Word := fldMask f.lo f.len

/-- What a start leaves of a register: the backup domain's registers and the Crucible's wear (R413, R450); without a reset of the
device also the timebase's frequency reference, the link, the MSI-X table and the brown-out warning (R37, R480). -/
def startMask (dev : Bool) (a : Nat) : Word :=
  if 0x110000 ≤ a ∧ a < 0x120000 then 0xFFFFFFFF
  else if a = MGT_CRU_WEAR then fieldMask MGT_CRU_WEAR_MAXW
  else if a = MGT_CRU_STAT then fieldMask MGT_CRU_STAT_SPARE
  else if dev then 0
  else if a = TIM_STAT then fieldMask TIM_STAT_FREF ||| fieldMask TIM_STAT_DEGRADED
  else if a = TIM_REFSTAT then 0xFFF
  else if a = MGT_PWRSTAT then fieldMask MGT_PWRSTAT_BOWARN
  else if a = TIM_REFY 0 ∨ a = TIM_REFY 1 ∨ a = TIM_REFY 2 ∨ a = TIM_FRQ ∨ a = TIM_OFS ∨ a = HST_STAT
      ∨ (0x101000 ≤ a ∧ a < 0x102000) then 0xFFFFFFFF
  else 0

/-- A start: every register and store returns to reset but for what `startMask` names, the Crucible, the backup domain and, without
a reset of the device (`dev`), the timebase and the host interface. The contents of the banks do not survive (log entry 45). -/
def State.restart (s : State) (dev : Bool) : State :=
  let r := State.reset
  let t : State := { r with
    pending := s.pending
    out := s.out
    free := s.free
    sys := { r.sys with power := s.sys.power, castSrc := s.sys.castSrc, lastRaise := if dev then [] else s.sys.lastRaise }
    cru := { r.cru with ingots := s.cru.ingots, leases := s.unwritten, wearMax := s.cru.wearMax, wearLow := s.cru.wearLow }
    hst := if dev then { r.hst with tapIr := s.hst.tapIr } else { s.hst with queues := [], turn := 0 }
    tim := if dev then r.tim else
      { r.tim with kept := true, ts := s.tim.ts, run := s.tim.run, edge := s.tim.edge, last := s.tim.last, secKnown := s.tim.secKnown,
                   degJump := s.tim.degJump, degFault := s.tim.degFault, switchTo := s.tim.switchTo, frefs := s.tim.frefs }
    bkp := if dev then { s.bkp with heldDate := none } else s.bkp
    pins := { r.pins with hiZ := s.pins.hiZ, paflt := s.pins.paflt, pfailN := s.pins.pfailN } }
  (s.regs.filter (fun p => startMask dev p.1 != 0)).foldl (fun t p =>
    t.put p.1 (mixWord (startMask dev p.1) p.2 (coldReg p.1))) t

/-- Ingots already in the write queue are written before a restart by ANNEAL request (R68). -/
def State.drainQueue (s : State) : State :=
  let s := { s with cru := { s.cru with queue := s.cru.queue.take queueDepth } }
  (List.range (2 * s.cru.queue.length)).foldl (fun s _ =>
    s.ingotWritten true (s.fld MGT_CRU_WEAR_MAXW) (s.fld MGT_CRU_STAT_SPARE)) s

/-- A start without a loss of power, by a cause, with the code of its wake source. -/
def State.startAgain (s : State) (cause code : Nat) (wake ranOn : Bool) : State :=
  let s := (s.setFld MGT_MODE_PENDING 0).setFld MGT_MODE_WAIT 0
  let s := (((s.setMode modeAnneal cause).setTvalid false).refreshDegraded).restart false
  let s := ((s.setFld MGT_MODE_CAUSE cause).setFld MGT_WAKESRC_SRC code).setFld BKP_STAT_ONVBAT 0
  { s with sys := { s.sys with wake := wake, ranOn := ranOn } }

/-- An ANNEAL request in SURVEY, SERVICE or HOLDOVER. -/
def State.annealRestart (s : State) : State :=
  let s := if s.serving then s.sendLeave else s
  s.napEnd.drainQueue.airCut.startAgain causeHost 0 false (s.isSet TIM_STAT_TVALID)

/-- DORMANT ends. -/
def State.wakeUp (s : State) (cause code : Nat) : State := s.startAgain cause code true true

/-! ### DORMANT (R72) -/

/-- Steps 2 to 4 of R72 are over. -/
def State.drained (s : State) : Bool :=
  s.sch.tickets.all (fun p => !p.2.running) && s.cores.all (fun p => !p.2.owed || p.2.halted)
    && s.hst.queues.all (fun p => p.2.inflight.isEmpty)

/-- Step 5 begins once they are. -/
def State.dormantStep (s : State) : State :=
  if s.sys.trans = .dormant 1 ∧ s.drained then ((s.setTrans (.dormant 2)).startCommit 2).queueNodes else s

/-- Step 1, at a commit point. -/
def State.stopPlanning (s : State) : State :=
  let s := { s with sch := { s.sch with stopping := true } }.endAllReqs.squashAll cMode (fun _ _ => true)
  s.setTrans (.dormant 1)

/-- Everything but MGT, the timebase, BKP and HST loses its power. -/
def State.stationsOff (s : State) : State :=
  let s := ((s.ptpStop 0).ptpStop 1).acqDiscard.pulsesLow
  let s := [PLK_PSTAT_LINK 0, PLK_PSTAT_LINK 1, GNF_STAT_LOLOCK 0, GNF_STAT_LOLOCK 1].foldl (fun s f => s.setFld f 0) s
  { s with
    sys := { s.sys with trans := .none, heldReq := none, heldWake := [], job := none,
                        cast := s.sys.cast.filter (fun f => [1, 2, 3, 0x13].contains f), held := [] }
    lanes := []
    fmb := State.reset.fmb
    sch := Sch.reset
    plk := Plk.reset
    cores := []
    pins := { State.reset.pins with paflt := s.pins.paflt, pfailN := s.pins.pfailN } }

/-- The kept contents have all been written. -/
def State.allWritten (s : State) : Bool :=
  !s.isSet MGT_COMMIT_BUSY && s.cru.queue.isEmpty && s.cru.waiting.isEmpty

/-- DORMANT_POWER_DOWN: step 6; a wake source that has fired meanwhile ends DORMANT at once. -/
def State.powerDown (s : State) : State :=
  if s.sys.trans = .dormant 2 ∧ s.allWritten then
    let ws := s.sys.heldWake
    let s := s.napEnd.squashQuiet
    let s := ((s.setMode modeDormant causeHost).setFld TIM_BEATPOS_VALID 0).refreshDegraded.stationsOff
    match ws with
    | [] => s
    | w :: _ => s.wakeUp causeWake w
  else s

/-- MGT_WAKECFG's enable of a wake source by its code. -/
def wakeEnable : Nat → Fld
  | 1 => MGT_WAKECFG_RTCA0
  | 2 => MGT_WAKECFG_RTCA1
  | 3 => MGT_WAKECFG_WAKEPIN
  | 4 => MGT_WAKECFG_PPSIN
  | _ => MGT_WAKECFG_TIMER

/-- Wake sources fire together: the enabled one of lowest code wakes the device, or is held during the entry to DORMANT. -/
def State.wakeFire (s : State) (codes : List Nat) : State :=
  match codes.filter (fun w => s.isSet (wakeEnable w)), s.sys.trans with
  | [], _ => s
  | w :: _, .dormant _ => { s with sys := { s.sys with heldWake := insertNat w s.sys.heldWake } }
  | w :: _, _ => if s.mode = modeDormant then s.wakeUp causeWake w else s

/-- Alarm flags that have been set since a state are wake sources (R454). -/
def State.wakeAlarms (s old : State) : State :=
  s.wakeFire (([0, 1].filter (fun n => s.isSet ⟨BKP_STAT, n, 1⟩ && !old.isSet ⟨BKP_STAT, n, 1⟩)).map (· + 1))

/-! ### Mode requests (R69, R70) -/

/-- A partial casting or a function reset is in progress (R59, R70). -/
def State.inSequence (s : State) : Bool :=
  match s.sys.job with
  | some j => j.freset || s.beating
  | none => false

/-- An accepted mode request. DESIGN CHOICE (log entry 59): a second request that meets a held one takes its place; a wake from DORMANT by
an ANNEAL request shows the cause of a host request. -/
def State.modeRequest (s : State) (m : Nat) : State :=
  if m = s.mode then s
  else if m = modeAnneal then (if s.mode = modeDormant then s.wakeUp causeHost 6 else s.annealRestart)
  else if s.inSequence then
    { s with sys := { s.sys with heldReq := some m } }.setFld MGT_MODE_PENDING m
  else if s.mode = modeAnneal ∧ m = modeSurvey then
    (if s.sys.phase = .ready then s.enterSurvey causeHost else s.setFld MGT_MODE_PENDING m)
  else (s.beginTrans m).dormantStep

/-! ### Assay (R76, R77, R402) -/

/-- ASSAY_STAGE1_DONE with the failures of its five tests. -/
def State.assayStage1 (s : State) (fail : Nat) : State :=
  if s.sys.power = .on ∧ s.sys.phase = .assay1 then
    let s := (s.put MGT_ASSAY (BitVec.ofNat 32 (fail % 32))).setBit MGT_ASSAY_SHORT s.sys.wake
    if fail % 32 = 0 then s.setPhaseOf .scan else (s.setPhaseOf .assay1Failed).raise 8
  else s

/-- After a reset of the device the timebase takes the kept frequency of the XO oscillator model where that model is valid or mature
(R480). -/
def State.xoCorrect (s : State) : State :=
  if s.tim.run && !s.tim.kept && s.selFref == 0 && decide (3600 ≤ (s.fref 0).learned) then
    s.setInt TIM_FRQ_Y (s.fref 0).freq else s

/-- CRUCIBLE_INDEX_SCAN_DONE: with both copies of the anti-rollback counter bad, stage 1 fails (R412). -/
def State.scanDone (s : State) (bad : List (Nat × Nat × Bool)) : State :=
  if s.sys.power = .on ∧ s.sys.phase = .scan then
    let s := (s.indexScan bad).xoCorrect.leapJudge
    if (s.ingot 1 0).bothBad then ((s.setFld MGT_ASSAY_CRUCIBLE 1).setPhaseOf .assay1Failed).raise 8 else s.enterLoad
  else s

/-- The functions that a failed test of stage 2 keeps in reset, by the test's bit in MGT_ASSAY. DEDUCED (log entry 60): the test of GNF
speaks for both chains, and that of GNC for the acquisition engine and the slice fabric, with tracking, which is cast only with the
fabric (R47). -/
def assayFunctions : List (Nat × List Nat) :=
  [(6, [4, 5]), (7, [6, 7, 8]), (8, [8]), (13, [0xD, 0xE, 0xF]), (14, [0x11, 0x12])]
    ++ (List.range 4).map (fun n => (9 + n, [9 + n])) ++ (List.range 16).map (fun c => (16 + c, [0x20 + c]))

/-- The functions that need a fenced bank (R402). -/
def State.bankFunctions (s : State) (b : Nat) : List Nat :=
  (if s.inFwdTables b then [0xF] else [])
    ++ (if (((List.range bankCount).filter (fun k => s.owner k == 3)).take 3).contains b then [0xD, 0xE] else [])
    ++ (if (List.range 4).any (fun i => decide (s.fld (SEC_IMGCFG_FIRSTBANK i) ≤ b)
          && decide (b < s.fld (SEC_IMGCFG_FIRSTBANK i) + 9)) then [0x10] else [])

/-- Stage 2 ends: its bits, the fences, and the functions that stay in reset. Only cast functions are tested. -/
def State.stage2 (s : State) (fail : Nat) (banks : List Nat) : State :=
  let tests := assayFunctions.filter (fun t => fail.testBit t.1 && t.2.any s.isCast)
  let banks := banks.filter (fun b => decide (32 ≤ b) && !s.fenced b)
  let gone := tests.flatMap (·.2) ++ banks.flatMap s.bankFunctions
  let s := banks.foldl (fun s b => s.fence b) s
  let s := tests.foldl (fun s t => s.setFld ⟨MGT_ASSAY, t.1, 1⟩ 1) s
  let s := if banks.isEmpty then s else s.setFld MGT_ASSAY_BANKS 1
  let s := { s with sys := { s.sys with cast := s.sys.cast.filter (fun f => !gone.contains f) } }
  if s.get MGT_ASSAY &&& ~~~(fieldMask MGT_ASSAY_SHORT) = 0 then s else s.raise 8

/-- The device is ready: it enters SURVEY under R68, or waits for the request. -/
def State.becomeReady (s : State) : State :=
  let s := s.setPhaseOf .ready
  if s.fld MGT_MODE_PENDING = modeSurvey then s.enterSurvey causeHost
  else if s.isSet MGT_ASSAYCTL_AUTOSURVEY then s.enterSurvey causeReady
  else s.setFld MGT_MODE_WAIT 1

/-- ASSAY_STAGE2_DONE, in a start or in a repeat. -/
def State.assayStage2 (s : State) (fail : Nat) (banks : List Nat) : State :=
  match s.sys.phase with
  | .assay2 => (s.stage2 fail banks).setPhaseOf .calibrate
  | .rerun true => (s.stage2 fail banks).becomeReady
  | .rerun false => ((s.stage2 fail banks).setPhaseOf .awaitHost).takeHeld
  | _ => s

/-- RUN of MGT_ASSAYCTL: stage 2 runs again (R77). -/
def State.assayRerun (s : State) : State :=
  match s.sys.phase with
  | .ready => s.setPhaseOf (.rerun true)
  | .awaitHost => if s.sys.job.isNone then s.setPhaseOf (.rerun false) else s
  | _ => s

/-- MGT_ASSAYCTL.AUTOSURVEY is 1 while the device waits for a SURVEY request. -/
def State.autoSurvey (s : State) : State :=
  if s.mode = modeAnneal ∧ s.sys.phase = .ready ∧ s.isSet MGT_ASSAYCTL_AUTOSURVEY then s.enterSurvey causeReady else s

/-! ### Calibration (R73, R74, R207, R209) -/

/-- The next result of a list of measurements; one that the command does not bring is free. -/
def State.nextCal (s : State) : List (Word × Word) → (Word × Word) × List (Word × Word) × State
  | c :: r => (c, r, s)
  | [] =>
    let (a, s) := s.fresh
    let (b, s) := s.fresh
    ((BitVec.ofNat 32 a, BitVec.ofNat 32 b), [], s)

/-- One synthesiser calibration of a lane: at a wake it is seeded where a seed applies, else its result enters the temper table. -/
def State.calibrate (n : Nat) (x : List (Word × Word) × State) (t : Bool × Nat) : List (Word × Word) × State :=
  let (l, s) := x
  match (if s.sys.wake then s.seedFor n t.1 t.2 else none) with
  | some e => (l, s.count (T_USES n e))
  | none =>
    let (c, l, s) := s.nextCal l
    (l, s.temperWrite n (s.temperSlot n t.1 t.2 false) t.1 t.2 c.1 c.2)

/-- What a lane calibrates: the receive synthesiser at RXLO, the transmit synthesiser at every valid channel. -/
def State.calPlan (s : State) (n : Nat) : List (Bool × Nat) :=
  (false, s.fld (RFL_RXLO_FREQ n)) :: ((List.range 64).filter (s.chValid n)).map (fun c => (true, s.chHz n c))

/-- The calibration phase of the cast lanes, and their image trim. -/
def State.calibrateLanes (s : State) (cals : List (Word × Word)) (irr : List (BitVec 16)) : State :=
  (((List.range 4).filter (fun n => s.isCast (9 + n))).foldl (fun (x : List (Word × Word) × List (BitVec 16) × State) n =>
    let (l, r, s) := x
    let (l, s) := (s.calPlan n).foldl (fun y t => State.calibrate n y t) (l, s)
    let (v, s) := match r with
      | v :: _ => (v.toNat, s)
      | [] => s.fresh
    let s := ((s.setFld (RFL_IQ_TTRIM n) (s.fld (RFL_STAT_TEMP n))).setFld (RFL_IQ_IRR n) v).setFld (RFL_STAT_TRIMDUE n) 0
    (l, r.tail, s)) (cals, irr, s)).2.2

/-- The flags that the backup domain set without the main domain raise their events, and a trust flag that is found set (R459). -/
def State.raiseLatched (s : State) : State :=
  let l := s.bkp.latched.filter (· != 255)
  let s := l.foldl (fun s id => s.raise id) { s with bkp := { s.bkp with latched := [] } }
  if s.isSet BKP_STAT_LOWV then s.raise 255 else s

/-- CALIBRATION_DONE. -/
def State.calibrationDone (s : State) (cals : List (Word × Word)) (irr : List (BitVec 16)) : State :=
  if s.sys.phase = .calibrate then (s.calibrateLanes cals irr).raiseLatched.becomeReady else s

/-! ### Reset and power (R68, R447, R457, R480) -/

def State.setPower (s : State) (p : Power) : State := { s with sys := { s.sys with power := p } }

/-- PORST_ASSERT. -/
def State.porstAssert (s : State) : State := if s.sys.power = .on then (s.airCut.restart true).setPower .inReset else s

/-- MAIN_RAIL_FAIL: a write not yet transferred is discarded whole, and the domain runs from VBAT. -/
def State.railFail (s : State) : State :=
  if s.sys.power = .backup then s
  else
    let s := (s.airCut.restart true).setPower .backup
    let s := { s with bkp := { s.bkp with xfer := none, vddIo := false }, pins := { s.pins with hiZ := true } }
    ((s.setFld BKP_STAT_BUSY 0).setFld BKP_STAT_ONVBAT 1).setFld BKP_TRICKLE_CHARGING 0

/-- PORST_RELEASE with the rails in range: CAST_SRC is sampled and a cold start begins. -/
def State.porstRelease (s : State) (castSrc : Bool) : State :=
  if s.sys.power = .on then s
  else
    let fromBackup := s.sys.power == .backup
    let s := (s.restart true).setPower .on
    let s := { s with sys := { s.sys with castSrc := castSrc }, bkp := { s.bkp with vddIo := true, low := [] },
                      pins := { s.pins with hiZ := false } }
    let s := s.setBit BKP_STAT_ONVBAT fromBackup
    let s := s.setBit BKP_TRICKLE_CHARGING (s.isSet BKP_TRICKLE_EN)
    s.setFld MGT_MODE_CAUSE (if fromBackup then causePower else causePorst)

/-- FABRIC_SYNTH_LOCK: TS64 starts from 0, and XO, from which the timebase runs, begins to qualify. -/
def State.fabricLock (s : State) : State :=
  if s.sys.power = .on && !s.tim.run then
    ({ s with tim := { s.tim with run := true, ts := 0 } }.setFrefState 0 stQualifying).xoCorrect
  else s

/-! ### Commands -/

def execDormantPowerDown (s : State) : Host.Outcome State Fault Refusal := .next s.powerDown
def execPorstAssert (s : State) : Host.Outcome State Fault Refusal := .next s.porstAssert
def execPorstRelease (castSrc : Bool) (s : State) : Host.Outcome State Fault Refusal := .next (s.porstRelease castSrc)
def execFabricSynthLock (s : State) : Host.Outcome State Fault Refusal := .next s.fabricLock
def execAssayStage1Done (fail : BitVec 5) (s : State) : Host.Outcome State Fault Refusal := .next (s.assayStage1 fail.toNat)
def execCrucibleIndexScanDone (bad : List (Nat × Nat × Bool)) (s : State) : Host.Outcome State Fault Refusal :=
  .next (s.scanDone bad)
def execAssayStage2Done (fail : Word) (banks : List (Fin 192)) (s : State) : Host.Outcome State Fault Refusal :=
  .next (s.assayStage2 fail.toNat (banks.map (·.val)))
def execCalibrationDone (cals : List (Word × Word)) (irr : List (BitVec 16)) (s : State) : Host.Outcome State Fault Refusal :=
  .next (s.calibrationDone cals irr)
/-- WAKE_SOURCE: bit k of the operand is the source of code k + 1, for RTC alarms 0 and 1, the WAKE ball and PPS_IN. -/
def execWakeSource (fired : BitVec 4) (s : State) : Host.Outcome State Fault Refusal :=
  .next (s.wakeFire (((List.range 4).filter fired.getLsbD).map (· + 1)))
def execWakeTimerExpiry (s : State) : Host.Outcome State Fault Refusal := .next (s.wakeFire [5])
def execSurveyTimeout (s : State) : Host.Outcome State Fault Refusal := .next s.surveyTimeout
def execMainRailFail (s : State) : Host.Outcome State Fault Refusal := .next s.railFail
/-- RTC_SECOND: the clock advances, and an alarm that it sets wakes the device (R451, R454). -/
def execRtcSecond (s : State) : Host.Outcome State Fault Refusal := .next (s.rtcSecond.wakeAlarms s)
/-- BKP_WRITE_TRANSFER_DONE (R452); so does one that the new time sets. -/
def execBkpWriteTransferDone (s : State) : Host.Outcome State Fault Refusal := .next (s.bkpDone.wakeAlarms s)
/-- PPS_IN_EDGE (R173); it may wake the device. -/
def execPpsInEdge (ps : Nat) (s : State) : Host.Outcome State Fault Refusal :=
  .next (((s.ppsEdge ps).ticSource 2 ps).wakeFire [4])

/-- COMMIT_PASS_DONE (R85). -/
def execCommitPassDone (s : State) : Host.Outcome State Fault Refusal := .next s.endPass
/-- INGOT_WRITE_DONE (R411, R413): whether the read-back agreed, the most-written word's count and the reserve that is left. -/
def execIngotWriteDone (ok : Bool) (maxw : Word) (spare : Byte) (s : State) : Host.Outcome State Fault Refusal :=
  .next (s.ingotWritten ok maxw.toNat spare.toNat)
/-- LEASE_COMMITTED (R415). -/
def execLeaseCommitted (s : State) : Host.Outcome State Fault Refusal := .next s.leaseCommitted
/-- NODE_CHECKPOINT (R414): the lowest-numbered changed record is queued. -/
def execNodeCheckpoint (s : State) : Host.Outcome State Fault Refusal :=
  .next (match s.cru.changed with
    | [] => s
    | i :: _ => s.queueIngot 8 i)
/-- LEDGER_CHECKPOINT (R235, R409): ledgers whose contents have changed are queued. -/
def execLedgerCheckpoint (s : State) : Host.Outcome State Fault Refusal :=
  .next (s.queueAll (s.changedOf 7 ((List.range 51).map (· + 1))))

/-- COMPLETION_WRITE (R427); the last command in flight may be what step 4 of R72 waits for. -/
def execCompletionWrite (q : Fin 8) (s : State) : Host.Outcome State Fault Refusal := .next (s.completionWrite q.val).dormantStep

end Sys2Proof.Machine
end

