-- ==== Sys2Proof/Machine/Loader.lean ====
section
/-! DEFINITION. The casting loader: the checks of R55, the restore of kept fields and INIT entries, and the sequence of partial castings
and function resets (spec/02 R55 to R64, spec/03 R70, R80 to R82). -/

namespace Sys2Proof.Machine

open Sys2Proof.Fields

/-! ### The start of a quiesce (R60, R63, R136, R155) -/

/-- What the start of a quiesce does. -/
def State.quiesceStart (s : State) (t : Nat) : State :=
  let s := { s with sys := { s.sys with held := insertNat t s.sys.held } }
  let s := if t = 7 ∨ t = 8 then s.squashSlices true s.allSlices else s
  let s := if t = 7 then s.acqReset else s
  if !s.beating then s
  else if isLane t || t == 0xD || t == 0xE || t == 0x10 then
    { s with sch := { s.sch with resets := insertNat t s.sch.resets } }
  else if t = 4 ∨ t = 5 then s.napEnd.refreshBands
  else if t = 7 ∨ t = 8 then s.napEnd
  else s

/-- The sequence of R60 starts for a target. -/
def State.startQuiesce (s : State) (j : LoadJob) : State :=
  let s := s.setJob (some { j with since := s.tim.ts, beat := s.beat })
  ((s.setFld MGT_CASTSTAT_STATE csQuiesce).setFld MGT_CASTSTAT_PTARGET j.target).quiesceStart j.target

/-- A reset of a function is asked for (R60). -/
def State.startReset (s : State) (id : Nat) : State := s.startQuiesce ⟨true, .none, id, [], none, 0, 0⟩

/-- A write of a reset ID to MGT_FRESET. -/
def State.functionReset (s : State) (id : Nat) : State :=
  if s.sys.job.isSome then s.castError (ceBusy, noRec) else s.startReset id

/-- The queues' reset of a Function Level Reset (R420): at once, or after the sequence in progress. -/
def State.flrReset (s : State) : State :=
  if !s.isCast 0x13 then s
  else if s.sys.job.isSome then { s with sys := { s.sys with flr := true } }
  else s.startReset 0x13

/-! ### The end of a job -/

/-- The request that was held until the release is carried out, where it is still permitted (R61, R70). -/
def State.heldRequest (s : State) : State :=
  match s.sys.heldReq with
  | none => s
  | some m =>
    let s := { s with sys := { s.sys with heldReq := none } }.setFld MGT_MODE_PENDING 0
    if s.mayRequest m then s.modeRequest m else s

/-- The loader is free: a reset that waits for it starts (R420), or the request that waits for the release. -/
def State.jobEnds (s : State) : State :=
  if s.sys.flr then { s with sys := { s.sys with flr := false } }.startReset 0x13 else s.heldRequest

/-- The FLAGS bit PARTIAL of an image whose header has been read; none of one that is shorter. -/
def partialFlag (bs : List Byte) : Option Bool := if bs.length < 64 then none else some ((imgWord bs 4).testBit 16)

/-- A casting fails before it has taken effect (R56, R64). Where no header has been read, it counts as partial in the modes that take
only a partial casting, and its target is free data (log entry 57). -/
def State.loadFails (s : State) (f : CFail) : State :=
  match s.sys.job with
  | none => s
  | some j =>
    let s := ((s.castError f).setFld MGT_CASTSTAT_STATE csFailed).setJob none
    let s :=
      if (partialFlag j.image).getD s.beating then
        let (t, s) := if j.image.length < 64 then s.fresh else (imgWord j.image 0x1C, s)
        s.raise 5 (t % 256)
      else s.raise 3
    if s.mode = modeAnneal then s.nextSource j.from_ else s.jobEnds

/-- CANCEL of MGT_CASTCTL: a host load before its quiesce is abandoned, and counts as a failed source where it was the first one. -/
def State.castCancel (s : State) : State :=
  let s := { s with sys := { s.sys with heldLoad := none } }
  match s.sys.job with
  | none => s
  | some j =>
    if (j.from_ == .hostPcie || j.from_ == .hostSpi) && decide (s.fld MGT_CASTSTAT_STATE < csQuiesce) then
      let s := (s.setJob none).setFld MGT_CASTSTAT_STATE csIdle
      if s.mode = modeAnneal then s.nextSource j.from_ else s.jobEnds
    else s

/-! ### A write as the loader and the mode registers act on it -/

/-- What MGT's loader and mode registers do at an accepted write. -/
def State.mgtWrite (s : State) (src : BusSrc) (a : Nat) (v : Word) : State :=
  if a = MGT_MODEREQ then s.modeRequest (getFld v MGT_MODEREQ_REQ)
  else if a = MGT_CASTCTL then
    let s := if getFld v MGT_CASTCTL_CANCEL = 1 then s.castCancel else s
    let s := if getFld v MGT_CASTCTL_LOAD = 1 then s.castLoad src else s
    if getFld v MGT_CASTCTL_ARBADV = 1 then s.arbAdvance else s
  else if a = MGT_FRESET then s.functionReset (getFld v MGT_FRESET_ID)
  else if a = MGT_ASSAYCTL then
    (if getFld v MGT_ASSAYCTL_RUN = 1 then s.assayRerun else s).autoSurvey
  else s

/-- A write of a word that no rule rejects: it is stored, and acts as its register says. INIT entries act in the same way (R44). -/
def State.doWrite (s : State) (src : BusSrc) (a : Nat) (v : Word) : State := (s.applyWrite src a v).mgtWrite src a v

/-! ### Staging (step 1 of R55) -/

/-- Octets into the staging area, bank by bank. -/
def State.stage (s : State) (bs : List Byte) : State :=
  (List.range ((bs.length + bankSize - 1) / bankSize)).foldl (fun s k =>
    match s.stagingAddr (k * bankSize) with
    | some a => (s.bankWrite (s.owner (a / bankSize)) a ((bs.drop (k * bankSize)).take bankSize)).2
    | none => s) s

/-- n octets of the staging area as a read finds them; none where a word cannot be corrected (R55). -/
def State.staged (s : State) (n : Nat) : Option (List Byte) × State :=
  (List.range ((n + bankSize - 1) / bankSize)).foldl (fun (r : Option (List Byte) × State) k =>
    match r.1, r.2.stagingAddr (k * bankSize) with
    | some bs, some a =>
      let m := min bankSize (n - k * bankSize)
      let (ok, s) := r.2.readWords (r.2.owner (a / bankSize)) (wordsOf a m)
      (if ok then some (bs ++ s.cells a m) else none, s)
    | _, _ => (none, r.2)) (some [], s)

/-! ### Kept fields and INIT (R44 to R46, R80 to R82) -/

/-- A register belongs to what a restore acts on: every cast function and every register without one at a start, else one
function, but for the FMB controller, which the reset of a lane does not touch (R215). -/
def State.inRestore (s : State) (tgt : Option Nat) (a : Nat) : Bool :=
  match tgt, funcOf a with
  | none, none => true
  | none, some f => s.isCast f
  | some t, some f => t == f && !(decide (0x50300 ≤ a) && decide (a < 0x50400))
  | some _, none => false

/-- The ingot of one kept register is used: the answer says whether its value stands in the register. -/
def State.restoreOne (s : State) (a : Nat) (g : Ingot) : Bool × State :=
  if g.bothBad then (false, (s.count MGT_RESTSTAT_BOTHBAD).raise 10)
  else
    match g.serving with
    | none => (false, s)
    | some c =>
      let s := if g.oneBad then (s.count MGT_CRU_STAT_COPYBAD).raiseLimited 13 13 else s
      let s := s.setIngot g.mend
      let w := mixWord (keptMask a) (BitVec.ofNat 32 (c.data.headD 0)) (s.get a)
      match s.judge a .word w with
      | some _ => (false, s.count MGT_RESTSTAT_SKIPPED)
      | none => (true, (s.applyWrite .pcie a w).addSat MGT_RESTSTAT_RESTORED 1)

/-- Offsets of the registers whose ingots a restore looks at, ascending. -/
def State.keptIngots (s : State) (tgt : Option Nat) : List Nat :=
  ((s.cru.ingots.filter (fun g => g.cls == 3 && s.isKept (4 * g.idx) && s.inRestore tgt (4 * g.idx))).map
    (fun g => 4 * g.idx)).foldl (fun l a => insertNat a l) []

/-- The kept registers are restored; the answer names those that took the value of an ingot. -/
def State.restoreKept (s : State) (tgt : Option Nat) : List Nat × State :=
  let s := s.put MGT_RESTSTAT 0
  (s.keptIngots tgt).foldl (fun (r : List Nat × State) a =>
    let (ok, s) := r.2.restoreOne a (r.2.ingot 3 (a / 4))
    (if ok then a :: r.1 else r.1, s)) ([], s)

/-- The entries of the INIT records: offset and value. -/
def initEntries (rs : List CRec) : List (Nat × Word) :=
  (rs.filter (fun r => r.ty == ctInit)).flatMap (fun r =>
    (List.range (r.words.length / 2)).map (fun k => (r.w (2 * k), BitVec.ofNat 32 (r.w (2 * k + 1)))))

/-- An INIT value as a register write; a field that a valid ingot holds keeps it (R46). A write that would be rejected now is
left out. -/
def State.initWrite (s : State) (restored : List Nat) (e : Nat × Word) : State :=
  let w := if restored.contains e.1 then mixWord (keptMask e.1) (s.get e.1) e.2 else e.2
  match s.judge e.1 .word w with
  | some _ => s
  | none => s.doWrite .pcie e.1 w

/-- Restore (R80). -/
def State.restore (s : State) (tgt : Option Nat) : State :=
  let (l, s) := s.restoreKept tgt
  ((initEntries s.sys.recs).filter (fun e => s.inRestore tgt e.1)).foldl (fun s e => s.initWrite l e) s

/-! ### Step 5 of R55 -/

/-- An INIT entry may stand in a casting, and the state in which it has been written (R44, R45). -/
def State.initOk (s : State) (tgt : Option Nat) (e : Nat × Word) : Option State :=
  if e.1 % 4 ≠ 0 ∨ 2 ^ 24 ≤ e.1 ∨ (tgt.isSome && funcOf e.1 != tgt) then none
  else
    match s.judge e.1 .word e.2 with
    | some _ => none
    | none => some (s.doWrite .pcie e.1 e.2)

/-- Entry by entry, in order. -/
def State.initsOk (s : State) (tgt : Option Nat) : List (Nat × Word) → Option State
  | [] => some s
  | e :: r =>
    match s.initOk tgt e with
    | some s => s.initsOk tgt r
    | none => none

/-- The first INIT record with a bad entry. -/
def State.initFail (s : State) (tgt : Option Nat) : Nat → List CRec → Option CFail
  | _, [] => none
  | i, r :: rs =>
    if r.ty = ctInit then
      match s.initsOk tgt (initEntries [r]) with
      | some s => s.initFail tgt (i + 1) rs
      | none => some (ceSemantic, i)
    else s.initFail tgt (i + 1) rs

/-! ### The reset of a function (R37, R60, R63) -/

/-- The bits of a register that only a casting sets. -/
def clMask (a : Nat) : Word :=
  match regAt a with
  | none => 0
  | some r => r.flds.foldl (fun w f => if f.ty = .CL then w ||| fldMask f.lo f.len else w) 0

/-- Registers that a function reset leaves alone: the builder's epoch count (R37), lane measurements (R209), the shared FMB
controller, what SEC keeps (R314), and SCH's place in time. -/
def resetKeeps (a : Nat) : Bool :=
  a == GNT_EPOCHCNT || a == SCH_COMMITBEAT || (decide (0xC0200 ≤ a) && decide (a < 0xC0400)) || a == SEC_BKEY
    || a == SEC_HOLDDROP || (decide (0x50300 ≤ a) && decide (a < 0x50400)) || decide (0x300000 ≤ a)
    || (decide (0x50000 ≤ a) && decide (a < 0x90000) && (a % 0x10000 == 8 || a % 0x10000 == 0x20 || a % 0x10000 == 0x28))
    || (decide (FWD_LEN 0 ≤ a) && decide (a < FWD_LEN 16))

/-- The registers of a function return to Cold, but for the fields of the casting (R58). -/
def State.coldFunc (s : State) (t : Nat) : State :=
  (s.regs.filter (fun p => funcOf p.1 == some t && !resetKeeps p.1)).foldl (fun s p =>
    s.put p.1 (mixWord (clMask p.1) p.2 (coldReg p.1))) s

/-- The hidden state of a function goes. -/
def State.resetHidden (s : State) (t : Nat) : State :=
  if t = 1 ∨ t = 2 then s.tpReset (t - 1)
  else if t = 3 then s.ticReset
  else if t = 4 ∨ t = 5 then { s with gnss := { s.gnss with atEnd := setAt s.gnss.atEnd (t - 4) none } }
  else if t = 6 then s.acqReset
  else if t = 7 then
    let s := (List.range 192).foldl (fun s i => s.resetSlice true i) (s.snapDrop true)
    { s with gnss := { s.gnss with openB := ⟨s.beat, []⟩, closed := [] } }
  else if t = 8 then
    let s := (List.range 192).foldl (fun s i => s.resetSlice false i) s
    { s with gnss := { s.gnss with measDue := none, bias := none } }
  else if isLane t then s.laneReset (t - 9)
  else if t = 0xD then { s with mac := { s.mac with input := [], passed := [] } }
  else if t = 0xE then
    let s := { s with sch := { s.sch with
      tickets := s.sch.tickets.filter (fun p => p.2.running), planned := [], granted := [], trim := [] } }
    s.rewantTrims
  else if t = 0xF then s.fwdReset
  else if t = 0x10 then s.secReset
  else if t = 0x11 ∨ t = 0x12 then (s.ethLink (t - 0x11) false 0).ptpStop (t - 0x11)
  else if t = 0x13 then s.queuesReset
  else if isCore t then s.startCore (t - 0x20) s.sys.recs
  else s

/-- The reset of a target. A snapshot that the reset of the slice fabric ends shows its RESULT after it (R125). -/
def State.resetTarget (s : State) (t : Nat) : State :=
  let u := (s.resetHidden t).coldFunc t
  if t = 7 ∧ s.gnss.snap.isSome then u.setFld GNC_SNAPSTAT_RESULT 6 else u

/-- The timebase carries a time that has run on: it is valid now, or it was before the start (R152). -/
def State.timeRan (s : State) : Bool := s.isSet TIM_STAT_TVALID || s.sys.ranOn

/-- A function resumes (R63, R152). -/
def State.releaseFunc (s : State) (t : Nat) : State :=
  let s := { s with sys := { s.sys with held := s.sys.held.erase t } }
  if t = 1 ∨ t = 2 then s.tpLoad (t - 1)
  else if t = 4 ∨ t = 5 then s.refreshBands
  else if t = 6 then s.acqGo
  else if t = 7 then (s.refreshBands.startClass s.timeRan).acqGo
  else if t = 8 then s.startClass s.timeRan
  else if isLane t then (if s.beating then (s.laneRelease (t - 9)).updateLna else s)
  else if t = 0xD then { s with mac := { s.mac with cellid := s.fld MAC_CELLID_CELLID } }
  else if t = 0xE then { s with sch := { s.sch with resume := s.beating } }
  else if t = 0xF then s.shadowStart
  else if isCore t then
    let c := t - 0x20
    s.setCore c { s.core c with pc := BitVec.ofNat 16 (s.fld (CHB_CRESETVEC_VEC c)) }
  else s

/-! ### The end of a quiesce (R63) -/

/-- The quiesce of a function has ended; `since` is the instant of its start, and b its beat. That the current hypothesis of the
acquisition engine is finished, and that the current frame of a peer port is sent, is what the command QUIESCE_COMPLETE says (log
entry 66). -/
def State.quiesceEnded (s : State) (t since b : Nat) : Bool :=
  if !s.beating then true
  else if t = 1 ∨ t = 2 then (s.tp (t - 1)).armed.isNone && !(s.tp (t - 1)).level
  else if t = 7 ∨ t = 8 then decide (since < s.tim.last)
  else if isLane t then
    let n := t - 9
    !s.sch.resets.contains t && !(s.lane n).paWin && (s.lane n).taps.all (fun p => p.2.frame.isNone)
      && s.sch.tickets.all (fun p => !(p.2.lane == n && p.2.running))
  else if t = 0xD then !s.sch.resets.contains t && s.mac.input.isEmpty && s.mac.passed.isEmpty && s.mac.express.isEmpty
  else if t = 0xE then !s.sch.resets.contains t
  else if t = 0xF then s.fwd.input.all (fun f => !beatBefore f.beat b)
  else if t = 0x10 then
    !s.sch.resets.contains t && s.mac.express.isEmpty && s.mac.input.all (fun f => !beatBefore f.beat b)
  else if t = 0x13 then s.hst.queues.all (fun p => p.2.inflight.isEmpty)
  else if isCore t then !(s.core (t - 0x20)).owed || (s.core (t - 0x20)).halted
  else true

/-! ### Steps 2 to 6 of R55 -/

/-- The first n octets of a list that has as many. -/
def takeAll (n : Nat) (bs : List Byte) : Option (List Byte) := if n ≤ bs.length then some (bs.take n) else none

/-- The image in a flash slot, from the octets that the flash holds there: its header, and where no check of step 2 fails on it the rest
of its IMAGELEN (R53). -/
def State.flashImage (s : State) (f : CastFrom) (bs : List Byte) : Option (List Byte) × State :=
  match takeAll 64 bs with
  | none => (none, s)
  | some h =>
    if (headerFail (s.fld MGT_REVID_BASE) (s.fld MGT_CASTID_CASTID) h).isSome then (some h, s)
    else
      let n := imgWord h 12
      (takeAll n bs, s.emit (.flash 0x6B (flashBase f + 64) (n - 64)))

/-- The image that a source gives, where it can be read; `octets` is what stands there, from the image's start on. -/
def State.sourceImage (s : State) (f : CastFrom) (octets : Option (List Byte)) : Option (List Byte) × State :=
  match f, octets with
  | .hostSpi, _ => s.staged (s.fld MGT_CASTLEN_LEN)
  | .hostPcie, some bs => (if s.linkUp then takeAll (s.fld MGT_CASTLEN_LEN) bs else none, s)
  | .flashMain, some bs => s.flashImage f bs
  | .flashSafe, some bs => s.flashImage f bs
  | _, _ => (none, s)

/-- CAST_STAGED: the image is staged and checked under steps 2 and 3. The operand is what the source holds from the start of the image
on; none where it could not be read. DESIGN CHOICE (log entry 63): a staged image that is longer than the staging area, or a word of it that
no correction restores when it is first read, is a SOURCE error; the modes of R59 are judged after step 3. -/
def State.castStaged (s : State) (octets : Option (List Byte)) : State :=
  match s.sys.job with
  | none => s
  | some j =>
    if s.fld MGT_CASTSTAT_STATE ≠ csStaging then s
    else
      let (img, s) := s.sourceImage j.from_ octets
      match img with
      | none => s.loadFails (ceSource, noRec)
      | some bs =>
        let s := if j.from_ = .hostSpi then s else s.stage bs
        let s := (s.setJob (some { j with image := bs })).setFld MGT_CASTSTAT_STATE csChecking
        match readCasting (s.fld MGT_REVID_BASE) (s.fld MGT_CASTID_CASTID) bs with
        | .error f => s.loadFails f
        | .ok c =>
          if c.partialC ≠ s.beating then s.loadFails (ceMode, noRec)
          else s.setJob (some { j with image := bs, cast := some c })

/-- The state that the structure of a casting would make, on which its records are judged. -/
def State.preview (s : State) (c : Casting) : State :=
  if c.partialC then ({ s with sys := { s.sys with held := [] } }.resetTarget c.target).castAll c else s.castAll c

/-- What steps 4 and 5 find wrong with a casting. -/
def State.checkFail (s : State) (j : LoadJob) (c : Casting) : Option CFail :=
  match signatureFail (s.fld MGT_ARBCNT_COUNT) j.image with
  | some cause => some (cause, noRec)
  | none =>
    if missingRec c then some (ceMissing, noRec)
    else
      let p := s.preview c
      let kept := if c.partialC ∧ s.isCast 0xF then some (s.fld FWD_GEOM_FIRSTBANK) else none
      match p.recordsFail c kept 0 c.recs with
      | some f => some f
      | none =>
        match p.initFail (if c.partialC then some c.target else none) 0 c.recs with
        | some f => some f
        | none => if c.partialC && !p.isCast c.target then some (ceStructure, noRec) else none

/-- The records of the staged image are read again (step 6); none where a word or a record's CRC fails. -/
def State.reread (s : State) (j : LoadJob) (c : Casting) : Option Casting × State :=
  let (bs, s) := s.staged j.image.length
  match bs with
  | none => (none, s)
  | some bs =>
    match readRecs (bs.length / 16 + 1) 0 (bs.length - 64 - hallmarkLen) (bs.drop 64) with
    | .error _ => (none, s)
    | .ok raw =>
      (if raw.all (fun r => r.crcOk) && raw.length == c.recs.length then some { c with recs := raw.map (fun r => r.body) }
       else none, s)

/-- The encoding of a source in MGT_CASTSTAT.SOURCE. -/
def CastFrom.code : CastFrom → Nat
  | .none => 0
  | .flashMain => 1
  | .flashSafe => 2
  | .hostPcie => 3
  | .hostSpi => 4

/-- A full casting takes effect, and kept fields and INIT entries follow (R55, R73 phases 4 and 5). -/
def State.applyFull (s : State) (j : LoadJob) (c : Casting) : State :=
  let s := (s.castAll c).setJob none
  let s := ((s.setFld MGT_CASTID_CASTID c.castId).setFld MGT_CASTVER_ARBVER c.arbVer).setFld MGT_CASTKEY_KEYID c.keyId
  let s := (s.setFld MGT_CASTSTAT_SOURCE j.from_.code).setBit MGT_CASTSTAT_SAFE (j.from_ == .flashSafe)
  let s := (s.setFld MGT_CASTSTAT_STATE csDone).setPhaseOf .assay2
  let late := s.sys.heldLoad.isSome
  let s := { s with sys := { s.sys with autoAdv := c.autoAdv, heldLoad := none } }.raise 2
  let s := if late then s.refuseLoad ceBusy else s
  s.restore none

/-- CAST_CHECKED. -/
def State.castChecked (s : State) : State :=
  match s.sys.job with
  | none => s
  | some j =>
    match j.cast, s.fld MGT_CASTSTAT_STATE == csChecking with
    | some c, true =>
      match s.checkFail j c with
      | some f => s.loadFails f
      | none =>
        if c.partialC then s.startQuiesce { j with target := c.target }
        else
          let (c', s) := s.reread j c
          match c' with
          | none => s.loadFails (ceStaging, noRec)
          | some c => s.applyFull j c
    | _, _ => s

/-! ### Reset, load, restore and release (R60) -/

/-- The sequence of R60 from the end of the quiesce to the release. -/
def State.finishQuiesce (s : State) (j : LoadJob) : State :=
  let t := j.target
  let (c, s) := match j.cast with
    | none => (none, s)
    | some c => s.reread j c
  let s := (s.setFld MGT_CASTSTAT_STATE csReset).resetTarget t
  let s := s.setFld MGT_CASTSTAT_STATE csLoad
  let s := match c with
    | some c => s.castAll c
    | none => s
  let s := s.setFld MGT_CASTSTAT_STATE csRestore
  let ok := j.freset || c.isSome
  let s := if ok then s else s.castError (ceStaging, noRec)
  let s := ({ s with sys := { s.sys with held := s.sys.held.erase t } }.restore (some t)).releaseFunc t
  let s := (s.setFld MGT_CASTSTAT_STATE (if ok then csDone else csFailed)).setJob none
  let s := s.raise (if j.freset then 6 else if ok then 4 else 5) t
  s.jobEnds.plan

/-- QUIESCE_COMPLETE. -/
def State.quiesceComplete (s : State) : State :=
  match s.sys.job with
  | none => s
  | some j =>
    if s.fld MGT_CASTSTAT_STATE = csQuiesce ∧ s.quiesceEnded j.target j.since j.beat then s.finishQuiesce j else s

/-- A core that has not yielded is stopped. -/
def State.forceCore (s : State) (c : Nat) : State :=
  (s.setCore c { s.core c with owed := false, due := false, beatPend := none, levels := [], wait := true }).raise 7

/-- QUIESCE_FORCED: 4 beats have passed, in the quiesce of a core (R63) or on the way to DORMANT (R72). -/
def State.quiesceForced (s : State) (c : Nat) : State :=
  if !(s.core c).owed then s
  else
    match s.sys.job, s.sys.trans with
    | some j, t =>
      if s.fld MGT_CASTSTAT_STATE = csQuiesce ∧ j.target = 0x20 + c then (s.raise 7).finishQuiesce j
      else if t = .dormant 1 then s.forceCore c else s
    | none, .dormant _ => s.forceCore c
    | none, _ => s

end Sys2Proof.Machine
end

