-- ==== Sys2Proof/Machine/Bus.lean ====
section
/-! DEFINITION. Accesses from outside the stations: register writes with their rejects (spec/03 R93 to R97), register reads, BAR2
(spec/01 R34), SPI (spec/17 R436), and the commands that are one write or one read of a register. -/

namespace Sys2Proof.Machine

open Sys2Proof.Fields

/-! ### A register write -/

/-- The code of a source in MGT_REJ_INFO.SOURCE, and the core's number. -/
def rejSource : BusSrc → Nat × Nat
  | .pcie => (0, 0)
  | .spi => (1, 0)
  | .core c => (2, c.val)

/-- The place of a source in the order of R96. -/
def rejRank (src : BusSrc) : Nat := (rejSource src).1 + (rejSource src).2

/-- A configuration reject (R96). Of the rejects of one fabric tick that meet PEND = 0, the one of the first source is captured. -/
def State.reject (s : State) (src : BusSrc) (addr cause : Nat) : State :=
  let t := s.now
  let l := t.rejects ++ [⟨rejRank src, addr, cause⟩]
  let note (s : State) (new : Bool) : State := { s with tick := { t with rejects := l, rejNew := new } }
  if !s.isSet MGT_REJ_INFO_PEND then (note (s.captureReject [⟨rejRank src, addr, cause⟩] 1) true).raise 1
  else if t.rejNew then note (s.captureReject l (s.fld MGT_REJ_INFO_COUNT + 1)) true
  else note (s.count MGT_REJ_INFO_COUNT) false

/-- An accepted write of a word, with what follows from it. -/
def State.acceptWrite (s : State) (src : BusSrc) (a : Nat) (v : Word) : State :=
  ((s.applyWrite src a v).markDirty a).mgtWrite src a v

/-- A write of a register or a table word. A word write names an aligned word; the device takes no access without its main rails. -/
def State.busWrite (s : State) (src : BusSrc) (addr : Nat) (width : AccWidth) (v : Word) : State :=
  if s.sys.power ≠ .on then s
  else
    let a := addr / 4 * 4
    match s.judge a width v with
    | some cause => s.reject src (if width = .word then a else addr) cause
    | none => if width = .word then s.acceptWrite src a v else s

/-- A write of a whole word. -/
def State.write (s : State) (src : BusSrc) (a : Nat) (v : Word) : State := s.busWrite src a .word v

/-- The bits of a register that a write stores. -/
def rwMask (a : Nat) : Word :=
  match regAt a with
  | some r => r.flds.foldl (fun w f => if f.ty == .RW then w ||| fldMask f.lo f.len else w) 0
  | none => 0

/-- A write that keeps a register's stored fields and sets the fields named. -/
def State.writeFlds (s : State) (src : BusSrc) (a : Nat) (l : List (Fld × Nat)) : State :=
  s.write src a (putAll (s.get a &&& rwMask a) l)

/-- A write of 1 to one bit. -/
def State.pulse (s : State) (src : BusSrc) (f : Fld) : State := s.writeFlds src f.addr [(f, 1)]

/-! ### Reads -/

/-- What a read of a part of a register replies: the word, or the addressed bytes (R4). -/
def readReply (src : BusSrc) (w : Word) : ReadPart → Out
  | .word => .word src w
  | .half h => .octets src (((leBytes 4 w.toNat).drop (2 * h.val)).take 2)
  | .byte b => .octets src (((leBytes 4 w.toNat).drop b.val).take 1)

/-- A read of a register over the bus of a source, and its reply. A narrow read has the effects of a read of the word (R4). -/
def State.hostRead (s : State) (src : BusSrc) (part : ReadPart) (a : Nat) : State :=
  if s.sys.power ≠ .on then s
  else
    let (w, s) := s.busRead a
    s.emit (readReply src w part)

/-! ### BAR2 (R34, R400) -/

/-- Octets of the banks' range of BAR2; beyond it lies the reserved range. -/
def bar2Size : Nat := bankCount * bankSize

/-- BAR2 reaches the banks: with the main rails on, and outside DORMANT, where MEM has no power. -/
def State.bar2Up (s : State) : Bool := s.sys.power == .on && s.mode != modeDormant

def State.bar2Read (s : State) (ofs n : Nat) : State :=
  if s.sys.power ≠ .on then s
  else if !s.bar2Up || decide (bar2Size < ofs + n) then s.emit .completerAbort
  else
    match s.bankRead ownHst ofs n with
    | (.ok bs, s) => s.emit (.octets .pcie bs)
    | (.refused, s) => s.emit .completerAbort
    | (.uncorrectable, s) => s.emit .poisoned

def State.bar2Write (s : State) (ofs : Nat) (bs : List Byte) : State :=
  if !s.bar2Up || decide (bar2Size < ofs + bs.length) then s else (s.bankWrite ownHst ofs bs).2

/-! ### SPI (R436) -/

/-- Words of BAR0, in ascending order. -/
def State.spiRead (s : State) (a : Nat) : Nat → List Byte → State
  | 0, bs => s.emit (.octets .spi bs)
  | n + 1, bs =>
    let (w, s) := s.busRead a
    s.spiRead (a + 4) n (bs ++ leBytes 4 w.toNat)

def State.spiWrite (s : State) (a : Nat) : List Word → State
  | [] => s
  | w :: ws => (s.write .spi a w).spiWrite (a + 4) ws

/-- One word of BAR2 over SPI. A word that is refused, or that no correction restores, has no status on this bus, and reads
free (log entry 46). -/
def State.spiBankWord (s : State) (ofs : Nat) : List Byte × State :=
  if !s.bar2Up || decide (bar2Size < ofs + 4) then
    let (v, s) := s.fresh
    (leBytes 4 v, s)
  else
    match s.bankRead ownHst ofs 4 with
    | (.ok bs, s) => (bs, s)
    | (_, s) =>
      let (v, s) := s.fresh
      (leBytes 4 v, s)

def State.spiReadBanks (s : State) (ofs : Nat) : Nat → List Byte → State
  | 0, bs => s.emit (.octets .spi bs)
  | n + 1, bs =>
    let (w, s) := s.spiBankWord ofs
    s.spiReadBanks (ofs + 4) n (bs ++ w)

def State.spiWriteBanks (s : State) (ofs : Nat) : List Word → State
  | [] => s
  | w :: ws => (s.bar2Write ofs (leBytes 4 w.toNat)).spiWriteBanks (ofs + 4) ws

/-! ### Commands: any register -/

def execRegisterWrite (src : BusSrc) (addr : BitVec 24) (width : AccWidth) (value : Word) (s : State) :
    Host.Outcome State Fault Refusal := .next (s.busWrite src addr.toNat width value)

/-- READ_BEATCNT (R20). -/
def execReadBeatcnt (src : BusSrc) (part : ReadPart) (s : State) : Host.Outcome State Fault Refusal :=
  .next (s.hostRead src part TIM_BEATCNT)
/-- READ_NOW (R190). -/
def execReadNow (src : BusSrc) (part : ReadPart) (s : State) : Host.Outcome State Fault Refusal :=
  .next (s.hostRead src part TIM_NOW0)
/-- TRNG_READ (R308). -/
def execTrngRead (src : BusSrc) (part : ReadPart) (s : State) : Host.Outcome State Fault Refusal :=
  .next (s.hostRead src part SEC_TRNG)
/-- RTC_TIME_READ (R452). -/
def execRtcTimeRead (src : BusSrc) (part : ReadPart) (s : State) : Host.Outcome State Fault Refusal :=
  .next (s.hostRead src part BKP_TIME)
/-- PMU_COUNTER_READ (R391): the core has idled for some cycles since what was last accounted for. -/
def execPmuCounterRead (src : BusSrc) (part : ReadPart) (core : Fin 16) (k : Fin 48) (idle : Nat) (s : State) :
    Host.Outcome State Fault Refusal :=
  .next ((s.pmuIdle core.val idle).hostRead src part (0x201100 + 0x10000 * core.val + 8 * k.val))

/-! ### Commands: BAR2 and SPI -/

def execHostBar2Read (offset : BitVec 26) (len : Fin 65) (s : State) : Host.Outcome State Fault Refusal :=
  .next (s.bar2Read offset.toNat len.val)
def execHostBar2Write (offset : BitVec 26) (data : List Byte) (s : State) : Host.Outcome State Fault Refusal :=
  .next (s.bar2Write offset.toNat data)
def execSpiRead32 (addr : BitVec 24) (n : Fin 65) (s : State) : Host.Outcome State Fault Refusal :=
  .next (if s.sys.power = .on then s.spiRead addr.toNat n.val [] else s)
def execSpiWrite32 (addr : BitVec 24) (words : List Word) (s : State) : Host.Outcome State Fault Refusal :=
  .next (s.spiWrite addr.toNat words)
def execSpiReadb2 (offset : BitVec 32) (n : Fin 65) (s : State) : Host.Outcome State Fault Refusal :=
  .next (if s.sys.power = .on then s.spiReadBanks offset.toNat n.val [] else s)
def execSpiWriteb2 (offset : BitVec 32) (words : List Word) (s : State) : Host.Outcome State Fault Refusal :=
  .next (s.spiWriteBanks offset.toNat words)

/-- PCIE_FLR (R420): the ring and vector registers and the MSI-X table return to Cold, and the queues take the reset of 0x13. -/
def execPcieFlr (s : State) : Host.Outcome State Fault Refusal :=
  .next (if s.sys.power = .on then s.flrRegisters.flrReset else s)

/-! ### Commands: MGT and the loader (spec/02, spec/03) -/

def execCastLoad (src : BusSrc) (s : State) : Host.Outcome State Fault Refusal := .next (s.pulse src MGT_CASTCTL_LOAD)
def execCastCancel (src : BusSrc) (s : State) : Host.Outcome State Fault Refusal := .next (s.pulse src MGT_CASTCTL_CANCEL)
def execArbAdvance (src : BusSrc) (s : State) : Host.Outcome State Fault Refusal := .next (s.pulse src MGT_CASTCTL_ARBADV)
def execCastHostTimeout (s : State) : Host.Outcome State Fault Refusal := .next s.hostTimeout
/-- CAST_STAGED: the image that its source gave; none where it could not be read. -/
def execCastStaged (image : Option (List Byte)) (s : State) : Host.Outcome State Fault Refusal := .next (s.castStaged image)
def execCastChecked (s : State) : Host.Outcome State Fault Refusal := .next s.castChecked
def execFunctionReset (src : BusSrc) (id : Byte) (s : State) : Host.Outcome State Fault Refusal :=
  .next (s.writeFlds src MGT_FRESET [(MGT_FRESET_ID, id.toNat)])
def execQuiesceComplete (s : State) : Host.Outcome State Fault Refusal := .next s.quiesceComplete
def execQuiesceForced (core : Fin 16) (s : State) : Host.Outcome State Fault Refusal := .next (s.quiesceForced core.val)
def execDormantRequest (src : BusSrc) (s : State) : Host.Outcome State Fault Refusal :=
  .next (s.writeFlds src MGT_MODEREQ [(MGT_MODEREQ_REQ, modeDormant)])
def execAnnealRequest (src : BusSrc) (s : State) : Host.Outcome State Fault Refusal :=
  .next (s.writeFlds src MGT_MODEREQ [(MGT_MODEREQ_REQ, modeAnneal)])
def execSurveyRequest (src : BusSrc) (s : State) : Host.Outcome State Fault Refusal :=
  .next (s.writeFlds src MGT_MODEREQ [(MGT_MODEREQ_REQ, modeSurvey)])
def execAssayRerun (src : BusSrc) (s : State) : Host.Outcome State Fault Refusal := .next (s.pulse src MGT_ASSAYCTL_RUN)
def execCommitRequest (src : BusSrc) (s : State) : Host.Outcome State Fault Refusal := .next (s.pulse src MGT_COMMIT_REQ)

/-! ### Commands: GNSS and time (spec/04 to spec/06) -/

def execSliceStateWrite (src : BusSrc) (slice : Fin 192) (word : Fin 64) (value : Word) (s : State) : Host.Outcome State Fault Refusal :=
  .next (s.write src (0x440000 + 256 * slice.val + 4 * word.val) value)
def execAcqPush (src : BusSrc) (s : State) : Host.Outcome State Fault Refusal := .next (s.pulse src GNC_ACQCTL_PUSH)
def execAcqPop (src : BusSrc) (s : State) : Host.Outcome State Fault Refusal := .next (s.pulse src GNC_ACQCTL_POP)
def execAcqCancel (src : BusSrc) (s : State) : Host.Outcome State Fault Refusal := .next (s.pulse src GNC_ACQCTL_CANCEL)
def execAcqFlush (src : BusSrc) (s : State) : Host.Outcome State Fault Refusal := .next (s.pulse src GNC_ACQCTL_FLUSH)
/-- SNAP_START: the word written, with START set. -/
def execSnapStart (src : BusSrc) (value : Word) (s : State) : Host.Outcome State Fault Refusal :=
  .next (s.write src GNC_SNAPCTL (putAll value [(GNC_SNAPCTL_START, 1), (GNC_SNAPCTL_ABORT, 0)]))
/-- SNAP_ABORT, with the samples that the capture has taken: an accepted write of ABORT ends it with them. -/
def execSnapAbort (src : BusSrc) (samples : List Byte) (s : State) : Host.Outcome State Fault Refusal :=
  let v := putAll (s.get GNC_SNAPCTL &&& rwMask GNC_SNAPCTL) [(GNC_SNAPCTL_ABORT, 1)]
  .next (if s.sys.power = .on && (s.judge GNC_SNAPCTL .word v).isNone then (s.snapAbort samples).write src GNC_SNAPCTL v
    else s.write src GNC_SNAPCTL v)
/-- PRED_ARM: the ARM word of a prediction slot. -/
def execPredArm (src : BusSrc) (slice : Fin 192) (slot : Fin 4) (t : Word) (s : State) : Host.Outcome State Fault Refusal :=
  .next (s.write src (0x44000 + 64 * slice.val + 16 * slot.val + 12) t)
def execNapWake (src : BusSrc) (s : State) : Host.Outcome State Fault Refusal := .next (s.pulse src GNT_NAPCTL_WAKE)
def execSetSecond (src : BusSrc) (sec : Word) (s : State) : Host.Outcome State Fault Refusal := .next (s.write src TIM_SETSEC sec)
def execLeapTableWrite (src : BusSrc) (entry : Fin 256) (word : Fin 4) (value : Word) (s : State) :
    Host.Outcome State Fault Refusal := .next (s.write src (0x460000 + 16 * entry.val + 4 * word.val) value)
def execTpDlyaWrite (src : BusSrc) (n : Fin 2) (value : Word) (s : State) : Host.Outcome State Fault Refusal :=
  .next (s.write src (TIM_TPDLYA n.val) value)
def execTpDlybCommit (src : BusSrc) (n : Fin 2) (value : Word) (s : State) : Host.Outcome State Fault Refusal :=
  .next (s.write src (TIM_TPDLYB n.val) value)
def execTicArm (src : BusSrc) (s : State) : Host.Outcome State Fault Refusal := .next (s.pulse src TIM_TICCTL_ARM)
def execTicDisarm (src : BusSrc) (s : State) : Host.Outcome State Fault Refusal := .next (s.pulse src TIM_TICCTL_DISARM)
def execTicPop (src : BusSrc) (s : State) : Host.Outcome State Fault Refusal := .next (s.pulse src TIM_TICCTL_POP)

/-! ### Commands: lanes, MAC, SCH and FWD (spec/07 to spec/10) -/

def execTxFenceClear (src : BusSrc) (lane : Fin 4) (s : State) : Host.Outcome State Fault Refusal :=
  .next (s.pulse src (RFL_CTL_TXCLR lane.val))
def execTrimRequest (src : BusSrc) (lane : Fin 4) (s : State) : Host.Outcome State Fault Refusal :=
  .next (s.pulse src (RFL_CTL_TRIMREQ lane.val))
def execTemperTableWrite (src : BusSrc) (lane : Fin 4) (entry : Fin 512) (word : Fin 8) (value : Word) (s : State) :
    Host.Outcome State Fault Refusal := .next (s.write src (temperAddr lane.val entry.val word.val) value)
def execFmbWrite (src : BusSrc) (addr : BitVec 7) (reg : Byte) (val : Byte) (s : State) : Host.Outcome State Fault Refusal :=
  .next (s.write src RFL0_FMBXFER (putAll 0 [(RFL0_FMBXFER_GO, 1), (RFL0_FMBXFER_READ, 0), (RFL0_FMBXFER_ADDR, addr.toNat),
    (RFL0_FMBXFER_REG, reg.toNat), (RFL0_FMBXFER_DATA, val.toNat)]))
def execFmbRead (src : BusSrc) (addr : BitVec 7) (reg : Byte) (s : State) : Host.Outcome State Fault Refusal :=
  .next (s.write src RFL0_FMBXFER (putAll 0 [(RFL0_FMBXFER_GO, 1), (RFL0_FMBXFER_READ, 1), (RFL0_FMBXFER_ADDR, addr.toNat),
    (RFL0_FMBXFER_REG, reg.toNat)]))
/-- NODE_RECORD_WRITE: a record of the page that MAC_NRPAGE selects. -/
def execNodeRecordWrite (src : BusSrc) (index : Fin 8192) (word : Fin 32) (value : Word) (s : State) :
    Host.Outcome State Fault Refusal := .next (s.write src (0x500000 + 128 * index.val + 4 * word.val) value)
def execBlacklistWrite (src : BusSrc) (lane : Fin 4) (high : Bool) (value : Word) (s : State) : Host.Outcome State Fault Refusal :=
  .next (s.write src (if high then SCH_BLKHI lane.val else SCH_BLKLO lane.val) value)
def execSchCancel (src : BusSrc) (s : State) : Host.Outcome State Fault Refusal := .next (s.pulse src SCH_CANCEL_GO)
def execMeqPop (src : BusSrc) (s : State) : Host.Outcome State Fault Refusal := .next (s.pulse src FWD_MEQCTL_POP)
def execFwdLockRequest (src : BusSrc) (req : BitVec 4) (s : State) : Host.Outcome State Fault Refusal :=
  .next (s.writeFlds src FWD_LOCK [(FWD_LOCK_REQ, req.toNat)])
/-- FWD_TABLE_WRITE: a word of the table page that FWD_TWSEL selects. -/
def execFwdTableWrite (src : BusSrc) (ofs : BitVec 20) (value : Word) (s : State) : Host.Outcome State Fault Refusal :=
  .next (s.write src (0x600000 + ofs.toNat) value)

/-! ### Commands: SEC and PLK (spec/11, spec/12) -/

/-- GO of SEC_KEYCMD with an operation. -/
def State.keyCommand (s : State) (src : BusSrc) (op : Nat) : State :=
  s.writeFlds src SEC_KEYCMD [(SEC_KEYCMD_GO, 1), (SEC_KEYCMD_OP, op)]

def execKeyProvision (src : BusSrc) (s : State) : Host.Outcome State Fault Refusal := .next (s.keyCommand src 1)
def execBkeyGen (src : BusSrc) (s : State) : Host.Outcome State Fault Refusal := .next (s.keyCommand src 2)
def execBkeyImport (src : BusSrc) (s : State) : Host.Outcome State Fault Refusal := .next (s.keyCommand src 3)
def execEraseSlot (src : BusSrc) (s : State) : Host.Outcome State Fault Refusal := .next (s.keyCommand src 4)
def execEraseRecordKeys (src : BusSrc) (s : State) : Host.Outcome State Fault Refusal := .next (s.keyCommand src 5)
def execJoinCommand (src : BusSrc) (idx : BitVec 18) (s : State) : Host.Outcome State Fault Refusal :=
  .next (s.writeFlds src SEC_JOINCMD [(SEC_JOINCMD_GO, 1), (SEC_JOINCMD_INDEX, idx.toNat)])
def execTrngRetest (src : BusSrc) (s : State) : Host.Outcome State Fault Refusal := .next (s.pulse src SEC_TRNGSTAT_RETEST)

/-- PUSH of SEC_JOBCTL with SEC_JOBD0.OP at an operation; the descriptor of another job is none of this command. -/
def State.jobCommand (s : State) (src : BusSrc) (op : Nat) : State :=
  if s.fld SEC_JOBD0_OP = op then s.pulse src SEC_JOBCTL_PUSH else s

def execJobSha256 (src : BusSrc) (s : State) : Host.Outcome State Fault Refusal := .next (s.jobCommand src 1)
def execJobHmacSha256 (src : BusSrc) (s : State) : Host.Outcome State Fault Refusal := .next (s.jobCommand src 2)
def execJobEcdsaVerify (src : BusSrc) (s : State) : Host.Outcome State Fault Refusal := .next (s.jobCommand src 3)
def execJobEcdhTm (src : BusSrc) (s : State) : Host.Outcome State Fault Refusal := .next (s.jobCommand src 4)
def execJobPop (src : BusSrc) (s : State) : Host.Outcome State Fault Refusal := .next (s.pulse src SEC_JOBCTL_POP)
def execImageLoad (src : BusSrc) (slot : Fin 4) (s : State) : Host.Outcome State Fault Refusal :=
  .next (s.pulse src (SEC_IMGCFG_LOAD slot.val))
def execImageDrop (src : BusSrc) (slot : Fin 4) (s : State) : Host.Outcome State Fault Refusal :=
  .next (s.pulse src (SEC_IMGCFG_DROP slot.val))
def execCampPrepare (src : BusSrc) (camp : Fin 4) (s : State) : Host.Outcome State Fault Refusal :=
  .next (s.pulse src (SEC_CAMPCTL_PREPARE camp.val))
def execCampStart (src : BusSrc) (camp : Fin 4) (s : State) : Host.Outcome State Fault Refusal :=
  .next (s.pulse src (SEC_CAMPCTL_START camp.val))
def execCampPause (src : BusSrc) (camp : Fin 4) (s : State) : Host.Outcome State Fault Refusal :=
  .next (s.pulse src (SEC_CAMPCTL_PAUSE camp.val))
def execCampEnd (src : BusSrc) (camp : Fin 4) (s : State) : Host.Outcome State Fault Refusal :=
  .next (s.pulse src (SEC_CAMPCTL_END camp.val))
/-- HO_PULL: op PULL names a peer (R327). -/
def execHoPull (src : BusSrc) (peer : Fin 64) (s : State) : Host.Outcome State Fault Refusal :=
  .next (s.writeFlds src PLK_HOCMD [(PLK_HOCMD_GO, 1), (PLK_HOCMD_PEER, peer.val), (PLK_HOCMD_OP, 1)])

/-! ### Commands: cores, banks, HST and BKP (spec/14 to spec/18) -/

def execDoorbellRing (src : BusSrc) (core : Fin 16) (data : BitVec 16) (s : State) : Host.Outcome State Fault Refusal :=
  .next (s.write src (CHB_CDOORBELL core.val) (putAll 0 [(CHB_CDOORBELL_RING core.val, 1), (CHB_CDOORBELL_DATA core.val, data.toNat)]))
def execCoreOffer (src : BusSrc) (core : Fin 16) (len : BitVec 11) (s : State) : Host.Outcome State Fault Refusal :=
  .next (s.write src (CHB_COFFER1 core.val) (putAll 0 [(CHB_COFFER1_GO core.val, 1), (CHB_COFFER1_LEN core.val, len.toNat)]))
def execPmuCounterWrite (src : BusSrc) (core : Fin 16) (k : Fin 48) (high : Bool) (value : Word) (s : State) :
    Host.Outcome State Fault Refusal :=
  .next (s.write src (0x201100 + 0x10000 * core.val + 8 * k.val + (if high then 4 else 0)) value)
/-- PMU_SNAP, after the cycles in which the core idled. -/
def execPmuSnap (src : BusSrc) (core : Fin 16) (idle : Nat) (s : State) : Host.Outcome State Fault Refusal :=
  .next ((s.pmuIdle core.val idle).pulse src (PMU_CTL_SNAP core.val))
def execPmuSampleReset (src : BusSrc) (core : Fin 16) (s : State) : Host.Outcome State Fault Refusal :=
  .next (s.pulse src (PMU_CTL_SRESET core.val))
/-- SCRUB_VISIT (R401). -/
def execScrubVisit (s : State) : Host.Outcome State Fault Refusal :=
  .next (if s.isSet MEM_CFG_SCRUBEN then s.scrubVisit else s)
/-- BANK_HANDOVER: a word of MEM_BANKn_OWN. -/
def execBankHandover (src : BusSrc) (bank : Fin 192) (value : Word) (s : State) : Host.Outcome State Fault Refusal :=
  .next (s.write src (MEM_BANK_OWN bank.val) value)
def execHandoverComplete (bank : Fin 192) (s : State) : Host.Outcome State Fault Refusal := .next (s.endHandover bank.val)
def execSqDoorbell (src : BusSrc) (q : Fin 8) (ptr : Byte) (s : State) : Host.Outcome State Fault Refusal :=
  .next (s.write src (HST_QSQTAIL q.val) (BitVec.ofNat 32 ptr.toNat))
def execCqDoorbell (src : BusSrc) (q : Fin 8) (ptr : Byte) (s : State) : Host.Outcome State Fault Refusal :=
  .next (s.write src (HST_QCQHEAD q.val) (BitVec.ofNat 32 ptr.toNat))
/-- MSIX_UNMASK: Vector Control is written with its mask bit 0. -/
def execMsixUnmask (src : BusSrc) (v : Fin 32) (s : State) : Host.Outcome State Fault Refusal :=
  .next (s.write src (msixEntry v.val 3) 0)
def execRtcDateWrite (src : BusSrc) (value : Word) (s : State) : Host.Outcome State Fault Refusal := .next (s.write src BKP_DATE value)
def execRtcTimeWrite (src : BusSrc) (value : Word) (s : State) : Host.Outcome State Fault Refusal := .next (s.write src BKP_TIME value)
def execDipsClear (src : BusSrc) (s : State) : Host.Outcome State Fault Refusal := .next (s.pulse src BKP_CTL_DIPCLR)

end Sys2Proof.Machine
end

