-- ==== Sys2Proof/Machine/Beat.lean ====
section
/-! DEFINITION. A beat edge and a commit point (spec/01 R13 to R25). -/

namespace Sys2Proof.Machine

open Sys2Proof.Fields

/-! ### The edge (R13, R17, R19) -/

/-- The beat generator: the count, and the instants of this edge and of the next one. A ticket's BEAT stays the count under which it was
placed, since its word 0x04 does not change under one TID (R245). -/
def State.countEdge (s : State) : State :=
  let counted := s.toService
  let t := s.tim.edge
  let n := if counted then s.countAt t else beatAdd s.beat 1
  let s := { s with tim := { s.tim with last := t, edge := t + s.beatTicks } }
  let s := s.setFld TIM_BEATCNT_COUNT n
  if counted then s.setFld TIM_BEATPOS_VALID 1 else s

/-- What a superframe start does (R214, R225, R231, R302, R304, R328, R335). -/
def State.superframeStart (s : State) : State :=
  let t := s.tim.last
  let s := { s with mac := { s.mac with cellid := s.fld MAC_CELLID_CELLID } }.bkeySwitch
  let s := if s.serving then s.records.foldl (fun s i => s.adriftTest t i) s else s
  s.graceCount.fmbRetry.restoreSnapshots.standbyStep

/-- What the stations do at an edge. `first` says that it starts a superframe, `counted` that R17 set the count at it, and `late` that UPL
messages due in the beat before have not all been sent. -/
def State.stationsEdge (s : State) (first counted late : Bool) : State :=
  let n := s.beat
  let s := ((s.slewBeat.sliceEdge n counted).measureEdge first).dropHeld.frameOverruns.plkOverrun late
  let s := (s.startTrims n).retireAll
  let s := if first then s.superframeStart else s
  ((s.modeEdge).coreEdges n).sendMirror first

/-- BEAT_EDGE where beats run. -/
def State.beatEdge (s : State) (late : Bool) : State :=
  let counted := s.toService
  let b := s.beat
  let s := (s.timeTo s.tim.edge).countEdge.shadowReread (some b)
  let s := s.ticSource 5 (tickPs s.tim.last)
  let s := s.stationsEdge (s.sfBeat s.tim.last == 0) counted late
  (if counted then s.openPlan else s.plan).dormantStep

/-! ### The commit point (R21, R253) -/

/-- COMMIT_POINT where beats run: a mode change that waits for it comes first. -/
def State.commitPoint (s : State) : State :=
  let s := s.planOwed.timeTo (s.tim.edge - commitLead)
  let s := match s.sys.trans with
    | .survey => s.backToSurvey
    | .dormant 0 => s.stopPlanning
    | _ => s
  s.commitBeat

/-! ### Commands -/

/-- BEAT_EDGE, and whether UPL messages due in the beat that ends are still unsent (R27). -/
def execBeatEdge (uplLate : Bool) (s : State) : Host.Outcome State Fault Refusal := .next (if s.beating then s.beatEdge uplLate else s)
def execCommitPoint (s : State) : Host.Outcome State Fault Refusal := .next (if s.beating then s.commitPoint else s)

end Sys2Proof.Machine
end

