-- ==== Sys2Proof/Machine/Bundle.lean ====
section
/-! DEFINITION. The issue of a bundle (spec/13 R343 to R365, spec/14 R372 to R378, R386, spec/15 R392, R393). -/

namespace Sys2Proof.Machine

open Sys2Proof.Fields

/-! ### Fetch and decoding (R343, R344) -/

/-- The syllable words from an index to the first stop bit, n at most; the index of a fetch beyond the end of program memory. -/
def Core.fetch (k : Core) : Nat → Nat → Except Nat (List Word)
  | 0, _ => .ok []
  | n + 1, i =>
    if 0x8000 ≤ i then .error i
    else if (k.syl i).msb then .ok [k.syl i]
    else (k.fetch n (i + 1)).map (k.syl i :: ·)

/-- UNIT of a word. -/
def unitOf (w : Word) : Nat := (w.extractLsb' 28 3).toNat

def isCall (w : Word) : Bool :=
  match decodeSyl w with
  | some (.c (.call _)) => true
  | _ => false

/-- The decode entry of customer opcode 0xE0 + n (R362). -/
def Core.entry (k : Core) (n : Nat) : DecEntry :=
  match k.decode.find? (fun e => e.1 == n) with
  | some (_, w0, w1) => decEntry w0 w1
  | none => decEntry 0 0

def Core.uop (k : Core) (n : Nat) : Word := tabGet 0 k.uops n

/-- YIELD ends a beat program or waits; in any other handler it is illegal (R386). -/
def Core.mayYield (k : Core) : Bool :=
  match k.levels with
  | [] => true
  | (src, _) :: _ => src == .beat

/-- The word at place n of a bundle `ws`, after a word of unit `prev`, makes the bundle illegal. -/
def Core.badSyl (k : Core) (ws : List Word) (prev : Option Nat) (n : Nat) (w : Word) : Bool :=
  match decodeSyl w with
  | none => true
  | some y =>
    (match prev with
     | some u => decide (y.unit ≤ u)
     | none => false)
      || (n == 5 && !w.msb)
      || (match y with
          | .a (.cust c _) => !(k.entry c.toNat).valid
          | .c (.call _) => !ws.any (fun v => unitOf v == 5)
          | .c .yield => !k.mayYield
          | .lit _ => !ws.any isCall
          | _ => false)

/-- The first offending syllable of a bundle. -/
def Core.firstBad (k : Core) (ws : List Word) : Option Nat → Nat → List Word → Option Word
  | _, _, [] => none
  | prev, n, w :: r => if k.badSyl ws prev n w then some w else k.firstBad ws (some (unitOf w)) (n + 1) r

/-- A legal bundle: its index and the next one, its words, and its syllables by unit with the words that traps report. -/
structure Bundle where
  addr  : Nat
  words : List Word
  m0    : Option MSyl
  m1    : Option MSyl
  a     : Option (Word × ASyl)
  l     : Option (Word × LSyl)
  c     : Option (Word × CSyl)
  lit   : BitVec 15
  deriving DecidableEq, Repr

def Bundle.stop (b : Bundle) : Nat := b.addr + b.words.length

/-- A word joins the bundle. -/
def Bundle.add (b : Bundle) (w : Word) : Bundle :=
  match decodeSyl w with
  | some (.m false y) => { b with m0 := some y }
  | some (.m true y) => { b with m1 := some y }
  | some (.a y) => { b with a := some (w, y) }
  | some (.l y) => { b with l := some (w, y) }
  | some (.c y) => { b with c := some (w, y) }
  | some (.lit i) => { b with lit := i }
  | none => b

def Bundle.ofWords (addr : Nat) (ws : List Word) : Bundle := ws.foldl Bundle.add ⟨addr, ws, none, none, none, none, none, 0⟩

/-- The C syllable. -/
def Bundle.cs (b : Bundle) : CSyl := (b.c.map (·.2)).getD .nop

/-- COND holds (R351). -/
def Cond.holds (c : Cond) (t : Bool) : Bool :=
  match c with
  | .always => true
  | .ifT => t
  | .ifNotT => !t

/-- A GUARD predicates the bundle off (R352). -/
def Bundle.predOff (b : Bundle) (t : Bool) : Bool :=
  match b.cs with
  | .guard c => !c.holds t
  | _ => false

/-! ### Stack effects (R339, R345) -/

def Cnt.zero : Cnt := ⟨0, 0, 0, 0⟩

/-- Entries that an L syllable takes and leaves (R349). -/
def LSyl.effect : LSyl → Cnt × Cnt
  | .acc op _ _ _ =>
    match op with
    | .ldxW | .ldxH | .ldxHU => (.zero, ⟨1, 0, 0, 0⟩)
    | .ldyW | .ldyH | .ldyHU => (.zero, ⟨0, 1, 0, 0⟩)
    | .ldfD => (.zero, ⟨0, 0, 0, 1⟩)
    | .stxW | .stxH => (⟨1, 0, 0, 0⟩, .zero)
    | .styW => (⟨0, 1, 0, 0⟩, .zero)
    | .stfD => (⟨0, 0, 0, 1⟩, .zero)
  | .ld2 .. => (.zero, ⟨1, 1, 0, 0⟩)
  | .pset _ | .bset _ | .lset _ => (⟨1, 0, 0, 0⟩, .zero)
  | .pget _ => (.zero, ⟨1, 0, 0, 0⟩)
  | .padd .. => (.zero, .zero)

/-- Entries that a C syllable takes and leaves (R351). -/
def CSyl.effect : CSyl → Cnt × Cnt
  | .brx _ | .callx _ | .loop _ _ | .movtc _ => (⟨1, 0, 0, 0⟩, .zero)
  | .movfc _ => (.zero, ⟨1, 0, 0, 0⟩)
  | _ => (.zero, .zero)

/-- Entries that an A syllable takes and leaves, those of a customer opcode from its entry. -/
def Core.aEffect (k : Core) : ASyl → Cnt × Cnt
  | .cust c _ => ((k.entry c.toNat).pops, (k.entry c.toNat).pushes)
  | y => y.effect

/-- What each syllable of a bundle, in unit order, reads, consumes and leaves. M0 and M1 need their accumulator. -/
def Core.effects (k : Core) (b : Bundle) : List (Cnt × Cnt × Cnt) :=
  let m (o : Option MSyl) (d : Nat) : List (Cnt × Cnt × Cnt) :=
    match o with
    | some y => [(y.reads.add ⟨0, 0, d, 0⟩, y.pops, .zero)]
    | none => [(.zero, .zero, .zero)]
  let of (e : Option (Cnt × Cnt)) : List (Cnt × Cnt × Cnt) := let e := e.getD (.zero, .zero); [(e.1, e.1, e.2)]
  m b.m0 1 ++ m b.m1 2 ++ of (b.a.map (fun p => k.aEffect p.2)) ++ of (b.l.map (fun p => p.2.effect)) ++ of (b.c.map (fun p => p.2.effect))

/-- What a bundle needs, consumes and leaves as a whole, from what its syllables before have consumed. -/
def wholeEffect : Cnt → List (Cnt × Cnt × Cnt) → Cnt × Cnt × Cnt
  | used, [] => (.zero, used, .zero)
  | used, (r, p, q) :: t =>
    let (need, all, push) := wholeEffect (used.add p) t
    ((used.add r).max need, all, q.add push)

/-- The entries that the first n units have consumed. -/
def Core.usedBefore (k : Core) (b : Bundle) (n : Nat) : Cnt := ((k.effects b).take n).foldl (fun u e => u.add e.2.1) .zero

/-- The stacks as unit n finds them: 0 and 1 are M0 and M1, 2 is A, 3 L and 4 C. -/
def Core.seenBy (k : Core) (b : Bundle) (n : Nat) : Stk := k.stk.drop (k.usedBefore b n)

/-- Underflows and overflows in the order of R358. -/
def Core.stackFaults (k : Core) (b : Bundle) : List (Option Trap) :=
  let (need, used, push) := wholeEffect .zero (k.effects b)
  let d := k.stk.size
  let chk (need used push depth cap under ovf : Nat) : List (Option Trap) :=
    [if depth < need then some (under, 0) else none, if cap < depth - used + push then some (ovf, 0) else none]
  chk need.x used.x push.x d.x stackCap.x tcXunf tcXovf ++ chk need.y used.y push.y d.y stackCap.y tcYunf tcYovf
    ++ chk need.a used.a push.a d.a stackCap.a tcAunf tcAovf ++ chk need.f used.f push.f d.f stackCap.f tcFunf tcFovf

/-! ### Addresses of the L unit (R349, R350) -/

inductive Region where
  | x | y | prog | bank | bar0 | unmapped
  deriving DecidableEq, Repr

def bankBase : Nat := 0x10000000
def bar0Base : Nat := 0x40000000

def regionOf (a : Nat) : Region :=
  if a < yBase then .x
  else if a < progBase then .y
  else if a < progEnd then .prog
  else if bankBase ≤ a ∧ a < 0x13000000 then .bank
  else if bar0Base ≤ a ∧ a < 0x41000000 then .bar0
  else .unmapped

/-- The element of an access in octets. -/
def LdOp.size : LdOp → Nat
  | .ldxW | .ldyW | .stxW | .styW => 4
  | .ldxH | .ldxHU | .ldyH | .ldyHU | .stxH => 2
  | .ldfD | .stfD => 8

def LdOp.isStore : LdOp → Bool
  | .stxW | .stxH | .styW | .stfD => true
  | _ => false

/-- The addresses, the size and the direction of the accesses of an L syllable. -/
def Core.accesses (k : Core) : LSyl → List Nat × Nat × Bool
  | .acc op p u st =>
    let d : Word := BitVec.ofInt 32 (st.toInt * op.size)
    ([(if u = 2 then k.ptr p.toNat + d else k.ptr p.toNat).toNat], op.size, op.isStore)
  | .ld2 pa pb _ _ => ([(k.ptr pa.toNat).toNat, (k.ptr pb.toNat).toNat], 4, false)
  | _ => ([], 4, false)

/-- The accesses of a bundle. -/
def Core.bundleAcc (k : Core) (b : Bundle) : List Nat × Nat × Bool :=
  match b.l with
  | some (_, y) => k.accesses y
  | none => ([], 4, false)

/-- The update of a pointer by an LD2 code. -/
def Core.step2 (k : Core) (p : BitVec 3) (u : BitVec 2) : Core :=
  match u.toNat with
  | 0 => k
  | 1 => k.setPtr p.toNat (k.moved p.toNat false 4)
  | 2 => k.setPtr p.toNat (k.moved p.toNat false (-4))
  | _ => k.setPtr p.toNat (k.moved p.toNat true 4)

/-- What an L syllable does to P, B and L, with the X entry that it takes. -/
def Core.pointers (k : Core) (v : Word) : LSyl → Core
  | .acc op p u st =>
    let d := st.toInt * op.size
    match u.toNat with
    | 1 => k.setPtr p.toNat (k.moved p.toNat false d)
    | 3 => k.setPtr p.toNat (k.moved p.toNat true d)
    | _ => k
  | .ld2 pa pb ua ub => (k.step2 pa ua).step2 pb ub
  | .pset p => k.setPtr p.toNat v
  | .bset p => k.setBase p.toNat v
  | .lset p => k.setLen p.toNat v
  | .pget _ => k
  | .padd p circ st => k.setPtr p.toNat (k.moved p.toNat circ st.toInt)

/-- Core c may not make an access (R350): outside the map, a store to program memory, another width where words alone are served,
or a bank of another owner. -/
def State.busFault (s : State) (c size : Nat) (store : Bool) (a : Nat) : Bool :=
  match regionOf a with
  | .x => false
  | .y => false
  | .prog => store || size != 4
  | .bank => !s.mayAccess (0x10 + c) ((a - bankBase) / bankSize)
  | .bar0 => size != 4
  | .unmapped => true

/-! ### Faults (R358) -/

/-- Privilege faults: a customer opcode without USER, an access to a supervisor region, RETI, or a control register. -/
def Core.privFault (k : Core) (b : Bundle) : Option Trap :=
  if !k.set.u then none
  else
    let inA := match b.a with
      | some (w, .cust c _) => if (k.entry c.toNat).user then none else some w
      | _ => none
    let inL := match b.l with
      | some (w, y) =>
        if (k.accesses y).1.any (fun a => regionOf a == .prog || regionOf a == .bar0) then some w else none
      | none => none
    let inC := match b.c with
      | some (w, .reti) => some w
      | some (w, .movtc r) => if r.userWrite then none else some w
      | some (w, .movfc r) => if r.userRead then none else some w
      | _ => none
    ((inA.orElse (fun _ => inL)).orElse (fun _ => inC)).map (fun w => (tcPriv, w))

/-- The X entry that the C syllable takes. -/
def Core.cArg (k : Core) (b : Bundle) : Word := (k.seenBy b 4).x.getD 0 0

/-- A taken BRX with a word that is no index (R351). -/
def Core.brxFault (k : Core) (b : Bundle) : Option Trap :=
  match b.cs with
  | .brx c =>
    let v := k.cArg b
    if c.holds k.set.t && v &&& 0x1FFFC != v && decide ((k.usedBefore b 4).x < k.set.x.length) then
      some (tcFetch, v >>> 2)
    else none
  | _ => none

/-- What a customer instruction gives (R364). -/
def Core.custom (k : Core) (b : Bundle) : Option (Except Nat Work) :=
  match b.a with
  | some (_, .cust c arg) =>
    let e := k.entry c.toNat
    some (e.run k.uop k.set.frm.toNat arg ((k.seenBy b 2).take e.pops))
  | _ => none

def Core.microFault (k : Core) (b : Bundle) : Option Trap :=
  match k.custom b with
  | some (.error n) => some (tcMicro, BitVec.ofNat 32 n)
  | _ => none

/-- Overflow of the return stack by a call (R354). -/
def Core.callOver (k : Core) (b : Bundle) : Option Trap :=
  let chk (m : BitVec 15) : Option Trap := if k.overflows (maskWords m.toNat + 1) then some (tcRsovf, k.rsp) else none
  match b.cs with
  | .call m => chk m
  | .callx m => chk m
  | _ => none

/-- Underflow of the return stack (R356, R383, R386). -/
def Core.returnUnder (k : Core) (b : Bundle) : Option Trap :=
  match b.cs with
  | .ret => k.retUnder
  | .reti => k.retiUnder
  | .yield => { k with th := false }.retiUnder
  | _ => none

/-- A return stack outside X and Y data memory (R355). -/
def Core.stackBus (k : Core) (b : Bundle) : Option Trap :=
  match b.cs with
  | .call _ => k.badStack.map (fun v => (tcBus, v))
  | .callx _ => k.badStack.map (fun v => (tcBus, v))
  | .ret => k.retBus
  | .reti => k.retiBus
  | .yield => { k with th := false }.retiBus
  | _ => none

/-- The faults before any access is made, in the order of R358. -/
def Core.faults (k : Core) (b : Bundle) : List (Option Trap) :=
  let (as, size, _) := k.bundleAcc b
  [k.brxFault b, k.privFault b] ++ k.stackFaults b ++ [k.microFault b, k.callOver b, k.returnUnder b,
    (as.find? (fun a => a % size != 0)).map (fun a => (tcMisalign, BitVec.ofNat 32 a))]

/-- The loads of a bundle from banks, in order: the address of the first uncorrectable one. -/
def State.bankLoads (s : State) (c n : Nat) : List Nat → Option Nat × State
  | [] => (none, s)
  | a :: r =>
    if regionOf a = .bank then
      match s.bankRead (0x10 + c) (a - bankBase) n with
      | (.ok _, s) => s.bankLoads c n r
      | (_, s) => (some a, s)
    else s.bankLoads c n r

/-- The fault of a bundle that is not predicated off, and the state with what its bank accesses have counted. -/
def State.bundleFault (s : State) (c : Nat) (b : Bundle) : Option Trap × State :=
  let k := s.core c
  match (k.faults b).findSome? id with
  | some tr => (some tr, s)
  | none =>
    let (as, size, store) := k.bundleAcc b
    match as.find? (s.busFault c size store) with
    | some a =>
      let s := if regionOf a = .bank then
        s.nonOwner (0x10 + c) ((a - bankBase) / bankSize) ((a - bankBase) % bankSize) store else s
      (some (tcBus, BitVec.ofNat 32 a), s)
    | none =>
      let (bad, s) := if store then (none, s) else s.bankLoads c size as
      match bad with
      | some a => (some (tcEcc, BitVec.ofNat 32 a), s)
      | none => (k.stackBus b, s)

/-! ### Results -/

/-- A load that may be made; the read of a bank has been accounted for. -/
def State.loadValue (s : State) (c n a : Nat) : Nat × State :=
  match regionOf a with
  | .bank => (ofLeBytes (s.cells (a - bankBase) n), s)
  | .bar0 => let (w, s) := s.busRead (a - bar0Base); (w.toNat, s)
  | _ => ((s.core c).load a n, s)

def State.loadValues (s : State) (c n : Nat) : List Nat → List Nat × State
  | [] => ([], s)
  | a :: r =>
    let (v, s) := s.loadValue c n a
    let (vs, s) := s.loadValues c n r
    (v :: vs, s)

/-- The entries that an L syllable leaves, from what it has loaded. -/
def Core.lResult (k : Core) (vs : List Nat) : LSyl → Stk
  | .acc op _ _ _ =>
    let v := vs.headD 0
    let w : Word := BitVec.ofNat 32 v
    let h : Word := (BitVec.ofNat 16 v).signExtend 32
    match op with
    | .ldxW => ⟨[w], [], [], []⟩
    | .ldxH => ⟨[h], [], [], []⟩
    | .ldxHU => ⟨[w], [], [], []⟩
    | .ldyW => ⟨[], [w], [], []⟩
    | .ldyH => ⟨[], [h], [], []⟩
    | .ldyHU => ⟨[], [w], [], []⟩
    | .ldfD => ⟨[], [], [], [BitVec.ofNat 64 v]⟩
    | _ => Stk.none
  | .ld2 .. => ⟨[BitVec.ofNat 32 (vs.headD 0)], [BitVec.ofNat 32 (vs.getD 1 0)], [], []⟩
  | .pget p => ⟨[k.ptr p.toNat], [], [], []⟩
  | _ => Stk.none

/-- The octets that a store writes. -/
def Core.stored (k : Core) (b : Bundle) : List Byte :=
  let i := k.seenBy b 3
  match b.l with
  | some (_, .acc .stxW _ _ _) => leBytes 4 (i.x.getD 0 0).toNat
  | some (_, .acc .stxH _ _ _) => leBytes 2 (i.x.getD 0 0).toNat
  | some (_, .acc .styW _ _ _) => leBytes 4 (i.y.getD 0 0).toNat
  | some (_, .acc .stfD _ _ _) => leBytes 8 (i.f.getD 0 0).toNat
  | _ => []

/-- What an A syllable gives, with the numbers of clamped results and of binary64 operations. -/
def Core.aResult (k : Core) (b : Bundle) : Work :=
  match b.a, k.custom b with
  | _, some (.ok w) => w
  | some (_, y), _ =>
    let r := y.eval k.set.frm.toNat ((k.seenBy b 2).take y.effect.1)
    let fp := match y with | .plain o => o.isFp | _ => false
    ⟨r.out, [], r.t, r.flags, if r.sat then 1 else 0, if fp then 1 else 0⟩
  | none, _ => ⟨Stk.none, [], none, 0, 0, 0⟩

/-- The result of an M syllable for its accumulator, and whether a clamp changed it. -/
def Core.mResult (k : Core) (b : Bundle) (one : Bool) : Option (Acc × Bool) :=
  let i := k.seenBy b (if one then 1 else 0)
  (if one then b.m1 else b.m0).map (fun y => y.result (k.set.a.getD (if one then 1 else 0) 0) (i.x.getD 0 0) (i.y.getD 0 0))

/-- The stacks after a bundle: M results stand in their accumulators, the consumed entries go, and the units' entries come in
unit order (R345). -/
def Core.stacksAfter (k : Core) (b : Bundle) (l c : Stk) : Stk :=
  let put (i : Nat) (r : Option (Acc × Bool)) (as : List Acc) : List Acc :=
    match r with
    | some (v, _) => as.set i v
    | none => as
  let old := { k.stk with a := put 1 (k.mResult b true) (put 0 (k.mResult b false) k.set.a) }
  c.push (l.push ((k.aResult b).stk.push (old.drop (k.usedBefore b 5))))

/-- How many results a clamp has changed. -/
def Core.clamps (k : Core) (b : Bundle) : Nat :=
  ([k.mResult b false, k.mResult b true].filter (fun r => match r with | some (_, true) => true | _ => false)).length
    + (k.aResult b).sats

/-- The X entry that MOVFC leaves. -/
def Core.cResult (k : Core) (b : Bundle) : Stk :=
  match b.cs with
  | .movfc r => ⟨[k.readCr r], [], [], []⟩
  | _ => Stk.none

/-- The core after M, A and L: stacks, T, FLAGS, SATF, pointers, and its own memory. -/
def Core.afterData (k : Core) (b : Bundle) (vs : List Nat) : Core :=
  let l := match b.l with
    | some (_, y) => k.lResult vs y
    | none => Stk.none
  let w := k.aResult b
  let k' := k.setStk (k.stacksAfter b l (k.cResult b))
  let k' := { k' with set := { k'.set with
    t := w.t.getD k.set.t, flags := k.set.flags ||| BitVec.ofNat 5 w.flags, satf := k.set.satf || k.clamps b != 0 } }
  let k' := match b.l with
    | some (_, y) => k'.pointers ((k.seenBy b 3).x.getD 0 0) y
    | none => k'
  match k.bundleAcc b with
  | ([a], _, true) => if regionOf a = .x ∨ regionOf a = .y then k'.store a (k.stored b) else k'
  | _ => k'

/-! ### Control (R351 to R356, R383, R386) -/

/-- A loop starts with a count. -/
def Core.startLoop (k : Core) (b : Bundle) (one : Bool) (n : Word) (stop : BitVec 10) : Core :=
  k.setLoop one ⟨n, BitVec.ofNat 15 b.stop, BitVec.ofNat 15 (b.addr + stop.toNat)⟩

/-- The loop that a bundle starts. -/
def CSyl.starts : CSyl → Option Bool
  | .loop one _ => some one
  | .loopi one _ _ => some one
  | _ => none

/-- The target of a taken branch. -/
def Core.branchTo (k : Core) (b : Bundle) : Option (BitVec 16) :=
  match b.cs with
  | .br c off => if c.holds k.set.t then some (BitVec.ofInt 16 (b.addr + off.toInt)) else none
  | .brx c => if c.holds k.set.t then some ((k.cArg b).extractLsb' 2 15 |>.setWidth 16) else none
  | _ => none

/-- Control registers, loops and a restored frame. -/
def Core.afterControl (k old : Core) (b : Bundle) : Core :=
  let v := old.cArg b
  let k := match b.cs with
    | .movtc r => k.writeCr r v
    | .loop one e => k.startLoop b one v e
    | .loopi one n e => k.startLoop b one (n.setWidth 32) e
    | .ret => k.popFrame old
    | _ => k
  match old.branchTo b with
  | some t => k.branchLoops t.toNat
  | none => k

/-- What the end of a bundle does to the loops: the core, the index where execution continues but for a transfer, whether that is a
back edge, and the bodies that have filled the loop cache. -/
structure Continue where
  core  : Core
  at_   : Nat
  back  : Bool
  fills : Nat

def Core.continue_ (k : Core) (b : Bundle) : Continue :=
  let (k', back, fills) := k.closeLoops b.cs.starts b.addr b.stop
  let skip : Nat := match b.cs.starts with
    | some one => if (k'.loop one).cnt = 0 then k'.afterBundle 6 (k'.loop one).stop.toNat else b.stop
    | none => b.stop
  ⟨k', back.getD skip, back.isSome, fills⟩

/-- The words that a call saves; none for another syllable. -/
def Bundle.callMask (b : Bundle) : Option Nat :=
  match b.cs with
  | .call m => some m.toNat
  | .callx m => some m.toNat
  | _ => none

/-- A call: its frame is pushed, with the index at which execution would have continued (R354). -/
def Core.call (k old : Core) (mask link : Nat) (target : BitVec 15) : Core :=
  { k.pushFrame (old.frameWords mask) (mask * 2 ^ 16 + link % 2 ^ 15) with pc := target.setWidth 16 }

/-- The transfer of a bundle, after its loops. -/
def Core.transfer (k old : Core) (b : Bundle) (next : Nat) : Core :=
  let on := { k with pc := BitVec.ofNat 16 next }
  match b.cs with
  | .call m => on.call old m.toNat next b.lit
  | .callx m => on.call old m.toNat next ((old.cArg b).extractLsb' 2 15)
  | .ret => { k with pc := BitVec.ofNat 16 (old.link % 2 ^ 15) }
  | .reti => k.reti old
  | .yield => if old.levels.isEmpty then { on with wait := true } else { k with th := false }.leaveHandler old
  | _ =>
    match old.branchTo b with
    | some t => { k with pc := t }
    | none => on

/-- Taken branches, calls, returns and RETIs. -/
def Core.transfers (k : Core) (b : Bundle) : Bool :=
  match b.cs with
  | .call _ | .callx _ | .ret | .reti => true
  | _ => (k.branchTo b).isSome

/-! ### Counters (R392, R393) -/

/-- Stall cycles before a bundle: front, back, all. -/
def frontStalls (y : Cyc) : Nat := y.line + y.bubble + y.entry
def backStalls (y : Cyc) : Nat := y.acc + y.fp + y.mem + y.bank + y.bar0
def stalls (y : Cyc) : Nat := frontStalls y + backStalls y

/-- Micro-operations of a bundle's customer instruction. -/
def Core.microOps (k : Core) (b : Bundle) : Nat :=
  match b.a with
  | some (_, .cust c _) => (k.entry c.toNat).len
  | _ => 0

/-- The counts of every issue, with `n` slots retired and `micro` micro-operations. -/
def State.issueCounts (s : State) (c : Nat) (y : Cyc) (n micro : Nat) : List (Nat × Nat) :=
  let cycles := stalls y + 1 + (micro - 1)
  s.cycleCounts c cycles
    ++ [(1, cycles), (5, n + (micro - 1)), (6, 6 - n), (7, 6 * frontStalls y), (8, 6 * backStalls y + 5 * (micro - 1)),
        (14, y.line), (15, y.bubble), (19, y.fp), (20, y.acc), (25, y.bank), (27, y.bar0)]
    ++ s.thrCounts c y.inflight cycles

/-- The bus that serves an address (R368). -/
def busOf (a : Nat) : Nat :=
  match regionOf a with
  | .prog => 0
  | .y => 2
  | _ => 1

/-- The counts of a bundle that retires. -/
def State.retireCounts (s : State) (c : Nat) (b : Bundle) : List (Nat × Nat) :=
  let k := s.core c
  let one (p : Bool) : Nat := if p then 1 else 0
  let (as, size, store) := k.bundleAcc b
  let hits (r : Region) : Nat := (as.filter (fun a => regionOf a == r)).length
  let loads (r : Region) : Nat := if store then 0 else hits r
  let fixed := as.filter (fun a => !store && regionOf a == .bank
    && (wordsOf (a - bankBase) size).any (fun w => eccWeight (s.eccMask w) == 1))
  let conf := match as with
    | [a, a'] => busOf a == busOf a'
    | _ => false
  let words := match b.callMask with
    | some m => maskWords m + 1
    | none => 0
  [(3, 1), (4, b.words.length), (10, one (k.transfers b)),
   (16, one b.m0.isSome + one b.m1.isSome), (17, k.clamps b), (18, (k.aResult b).fps),
   (21, loads .x), (22, loads .y), (23, loads .bank), (24, if store then hits .bank else 0), (26, hits .bar0),
   (28, one conf), (29, hits .prog), (30, one (k.microOps b != 0)), (31, k.microOps b), (38, one b.callMask.isSome), (39, words),
   (43, fixed.length)]

/-- The bundle stands in the loop cache. -/
def Core.cached (k : Core) (i : Nat) : Bool :=
  match k.cache with
  | some (a, z) => decide (a ≤ i ∧ i < z)
  | none => false

/-- The counters of an issue, and the samples that it triggers. -/
def State.countIssue (s : State) (c : Nat) (y : Cyc) (b : Bundle) (pred : Bool) (retired micro : Nat) (counts : List (Nat × Nat)) :
    State :=
  let k := s.core c
  let cause := largestCause [(1, y.line), (2, y.bubble), (3, y.entry), (4, y.acc), (5, y.fp), (6, y.mem), (7, y.bank), (8, y.bar0),
    (9, micro - 1)]
  s.pmuBundle c ⟨b.addr, pred, k.set.u, k.inBeat, cause, stalls y⟩
    (s.issueCounts c y retired micro ++ [(12, if k.cached b.addr then 1 else 0)] ++ counts)

/-! ### The issue -/

/-- What the core has become, but for its counters and its event FIFO, which events of the same bundle may have reached. -/
def State.commitCore (s : State) (c : Nat) (k : Core) : State :=
  s.setCore c { k with pmu := (s.core c).pmu, evq := (s.core c).evq }

/-- A bundle that traps (R357). -/
def State.bundleTrap (s : State) (c : Nat) (y : Cyc) (b : Bundle) (tr : Trap) : State :=
  (s.countIssue c y b false 0 0 []).coreTrap c tr (BitVec.ofNat 15 b.addr)

/-- A bundle that is predicated off (R352). -/
def State.bundleOff (s : State) (c : Nat) (y : Cyc) (b : Bundle) : State :=
  let r := (s.core c).continue_ b
  let s := s.countIssue c y b true 0 0 [(9, 1), (11, if r.back then 1 else 0), (13, r.fills)]
  s.commitCore c { r.core with pc := BitVec.ofNat 16 r.at_ }

/-- The store of a bundle to a bank or through the BAR0 view. -/
def State.outerStore (s : State) (c : Nat) (a : Nat) (bs : List Byte) : State :=
  match regionOf a with
  | .bank => (s.bankWrite (0x10 + c) (a - bankBase) bs).2
  | .bar0 => s.write (.core (Fin.ofNat 16 c)) (a - bar0Base) (BitVec.ofNat 32 (ofLeBytes bs))
  | _ => s

/-- A bundle that commits. -/
def State.bundleCommit (s : State) (c : Nat) (y : Cyc) (b : Bundle) : State :=
  let old := s.core c
  let (as, size, store) := old.bundleAcc b
  let (vs, s) := if store then ([], s) else s.loadValues c size as
  let r := ((old.afterData b vs).afterControl old b).continue_ b
  let out := r.core.transfer old b r.at_
  let back := r.back && !old.transfers b && b.cs != .yield
  let s := s.setCore c { s.core c with lastPc := BitVec.ofNat 15 b.addr }
  let s := s.countIssue c y b false b.words.length (old.microOps b)
    (s.retireCounts c b ++ [(11, if back then 1 else 0), (13, r.fills)])
  let s := if b.cs = .yield ∧ !old.levels.isEmpty then s.recordYield c else s
  let s := s.commitCore c { out with lastPc := BitVec.ofNat 15 b.addr, owed := (s.core c).owed, yielded := (s.core c).yielded }
  let s := match as, store with
    | [a], true => s.outerStore c a (old.stored b)
    | _, _ => s
  match b.cs with
  | .trap code => s.coreTrap c (tcSoft, code.setWidth 32) (BitVec.ofNat 15 r.at_)
  | _ => s

/-- A bundle issues at a core that may issue one: the next bundle boundary takes a due interrupt first (R379). -/
def State.issueBundle (s : State) (c : Nat) (y : Cyc) : State :=
  let k := s.core c
  if !s.coreRuns c || k.halted || k.wait || (s.intDue c).isSome then s
  else
    let addr := k.pc.toNat
    match k.fetch 6 addr with
    | .error i => s.bundleTrap c y ⟨addr, [], none, none, none, none, none, 0⟩ (tcFetch, BitVec.ofNat 32 i)
    | .ok ws =>
      let b := Bundle.ofWords addr ws
      match k.firstBad ws none 0 ws with
      | some w => s.bundleTrap c y b (tcIllegal, w)
      | none =>
        if b.predOff k.set.t then s.bundleOff c y b
        else
          match s.bundleFault c b with
          | (some tr, s) => s.bundleTrap c y b tr
          | (none, s) => s.bundleCommit c y b

/-- BUNDLE_ISSUE, with the cycles that have passed since the issue before it (log entry 35). -/
def execBundleIssue (core : Fin 16) (cyc : Cyc) (s : State) : Host.Outcome State Fault Refusal := .next (s.issueBundle core.val cyc)

end Sys2Proof.Machine
end

