-- ==== Sys2Proof/Machine/Solve.lean ====
section
/-! DEFINITION. The GNSS program on Q0 (spec/05 R148 to R150, R152, R156, R157): what it writes at an epoch, by MODE, and what it keeps.
Which figures it solves for comes from outside (log entry 4); which measurements it may use, what it writes, and what follows is
here. It reaches the hardware by register writes from a core of Q0. -/

namespace Sys2Proof.Machine

open Sys2Proof.Fields

def State.setProg (s : State) (p : Prog) : State := { s with gnss := { s.gnss with prog := p } }
def State.setHot (s : State) (h : Hot) : State := { s with gnss := { s.gnss with hot := h } }

/-! ### OSNMA (R156, R157) -/

/-- Time is known to within 2 s from a source other than GNSS: the RTC, PTP or PPS_IN. -/
def State.otherTime (s : State) : Bool := s.rtcTrusted || s.trefHealthy 2 || s.trefHealthy 3

/-- OSNSTAT.STATE takes a value. -/
def State.osnState (s : State) (v : Nat) : State :=
  if s.fld GNT_OSNSTAT_STATE = v then s else (s.setFld GNT_OSNSTAT_STATE v).raise 78

def osOff : Nat := 0
def osNoKey : Nat := 1
def osNoRoot : Nat := 2
def osOperational : Nat := 3
def osUnsupported : Nat := 4
def osFailed : Nat := 5
def osNoTime : Nat := 6

/-- How far verification has come: no key, no root, or operational. -/
def State.osnReached (s : State) : Nat :=
  if s.gnss.hot.key.isEmpty then osNoKey else if s.gnss.prog.root then osOperational else osNoRoot

/-- The slices of a Galileo satellite. -/
def State.galSlices (s : State) (sv : Nat) : List Nat :=
  s.allSlices.filter (fun i =>
    s.sliceOn i && (cfgSignal (s.slice i).cfg == 4 || cfgSignal (s.slice i).cfg == 5) && cfgSvid (s.slice i).cfg == sv)

/-- AUTH of a satellite, and NAUTH with it. -/
def State.setAuth (s : State) (sv : Nat) (on : Bool) : State :=
  let s := (s.galSlices sv).foldl (fun s i => s.setBit (SL_TRK_AUTH i) on) s
  s.setFld GNT_OSNSTAT_NAUTH (((List.range 64).filter (fun v => (s.galSlices v).any (fun i => s.isSet (SL_TRK_AUTH i)))).length)

/-- A verification fails. -/
def State.osnFail (s : State) : State := (s.count GNT_OSNSTAT_FAILS).raise 79

/-- The root that a leaf and its path give. -/
def merkleRoot (leaf : List Byte) (path : List (Bool × List Byte)) : List Byte :=
  path.foldl (fun h p => sha256 (if p.1 then p.2 ++ h else h ++ p.2)) (sha256 leaf)

/-- The root in GNT_OSNROOT0 to GNT_OSNROOT7, word 0 first, big-endian within each word. -/
def State.osnRoot (s : State) : List Byte := (List.range 8).flatMap (fun w => beBytes 4 (s.get (GNT_OSNROOT w)).toNat)

/-- A leaf names a key: its last octets are the compressed point (PRESUMED, log entry 74). -/
def leafOf (leaf : List Byte) (x y : BitVec 256) : Bool :=
  decide (leaf.drop (leaf.length - 33) = BitVec.ofNat 8 (2 + y.toNat % 2) :: beBytes 32 x.toNat)

/-- One step of verification. SEC must be live, to which the ECDSA and SHA-256 operations go as jobs. -/
def State.osnStep (s : State) (m : OsnIn) : State :=
  let known (k : Bool) (t : State) : State := if k then t else s.osnState osUnsupported
  match m with
  | .data sv => s.setAuth sv.toNat false
  | .key k leaf x y path =>
    known k (if merkleRoot leaf path = s.osnRoot ∧ leafOf leaf x y then
        let s := s.setHot { s.gnss.hot with key := beBytes 32 x.toNat ++ beBytes 32 y.toNat }
        (s.setProg { s.gnss.prog with root := false }).osnState osNoRoot
      else s.osnFail.osnState osFailed)
  | .root k msg r q =>
    known k (if s.gnss.hot.key.isEmpty then s
      else if ecdsaVerify (beNat (s.gnss.hot.key.take 32)) (beNat (s.gnss.hot.key.drop 32)) r.toNat q.toNat (sha256 msg) then
        (s.setProg { s.gnss.prog with root := true }).osnState osOperational
      else s.osnFail.osnState osFailed)
  | .chain k input hash =>
    known k (if !s.gnss.prog.root || (sha256 input).take hash.length == hash then s else s.osnFail.osnState osFailed)
  | .tag k sv key msg mac =>
    known k (if s.fld GNT_OSNSTAT_STATE ≠ osOperational then s
      else if (hmacSha256 key msg).take mac.length = mac then s.setAuth sv.toNat true
      else (s.setAuth sv.toNat false).osnFail)

/-- What an epoch does for OSNMA: verification runs with EN = 1 while time is known from another source. -/
def State.osnEpoch (s : State) (ms : List OsnIn) : State :=
  if !s.isSet GNT_OSNCFG_EN then s
  else if !s.otherTime then s.osnState osNoTime
  else
    let st := s.fld GNT_OSNSTAT_STATE
    let s := if st = osOff ∨ st = osNoTime then s.osnState s.osnReached else s
    if s.live 0x10 then ms.foldl (fun s m => s.osnStep m) s else s

/-! ### The measurements of a solution (R148, R157) -/

/-- A measurement has a valid pseudorange; with REQUIRE = 1 only authenticated Galileo measurements may be used. -/
def State.usable (s : State) (i : Nat) : Bool :=
  let e := (s.get (SL_ENTRY i 1)).toNat
  let g := cfgSignal (s.slice i).cfg
  s.sliceOn i && e.testBit 0 && (!s.isSet GNT_OSNCFG_REQUIRE || ((g == 4 || g == 5) && e.testBit 7))

/-- A slice's satellite. -/
def State.satOf (s : State) (i : Nat) : Nat × Nat :=
  ((ifPairs.findIdx? (fun p => p.1.contains (cfgSignal (s.slice i).cfg) || p.2 == cfgSignal (s.slice i).cfg)).getD 0,
    cfgSvid (s.slice i).cfg)

/-- The slices that a solution uses; with DUALONLY = 1 those of satellites with a measurement on both bands. -/
def State.solvers (s : State) (l : List Nat) : List Nat :=
  let u := s.allSlices.filter (fun i => l.contains i && s.usable i)
  if s.isSet GNT_TMODE_DUALONLY then
    u.filter (fun i => u.any (fun j => s.satOf j == s.satOf i && bandOf (cfgSignal (s.slice j).cfg) != bandOf (cfgSignal (s.slice i).cfg)))
  else u

/-- The satellites of slices. -/
def State.sats (s : State) (l : List Nat) : List (Nat × Nat) := (l.map s.satOf).eraseDups

/-! ### What an epoch writes (R148 to R150) -/

/-- A position in 0.1 mm and its accuracy go into the position registers. -/
def State.writePos (s : State) (src : BusSrc) (p : Int × Int × Int) (acc : Nat) : State :=
  let s := (s.write src GNT_POSX (BitVec.ofInt 32 (p.1 / 100))).write src GNT_POSY (BitVec.ofInt 32 (p.2.1 / 100))
  let s := (s.write src GNT_POSZ (BitVec.ofInt 32 (p.2.2 / 100))).write src GNT_POSHP
    (BitVec.ofNat 32 ((p.1 % 100).toNat + (p.2.1 % 100).toNat * 0x100 + (p.2.2 % 100).toNat * 0x10000))
  s.write src GNT_POSACC (BitVec.ofNat 32 acc)

/-- One epoch of a survey-in (R149): the mean goes into the position registers; long enough and accurate enough, it ends the survey. -/
def State.surveyEpoch (s : State) (src : BusSrc) (e : SolveIn) : State :=
  let p := s.gnss.prog
  let q : Prog := { p with sum := (p.sum.1 + e.pos.1, p.sum.2.1 + e.pos.2.1, p.sum.2.2 + e.pos.2.2), num := p.num + 1,
                           span := p.span + 20 / rateHz s.gnss.rate }
  let mean : Int × Int × Int := (openDiv q.sum.1 q.num, openDiv q.sum.2.1 q.num, openDiv q.sum.2.2 q.num)
  let s := (s.setProg q).writePos src mean e.acc.toNat
  if s.fld GNT_SURVEYCFG_MINDUR * 20 ≤ q.span ∧ e.acc.toNat ≤ s.fld GNT_SURVEYCFG_ACCLIM then
    s.writeFlds src GNT_TMODE [(GNT_TMODE_MODE, 2)]
  else s

/-- The residuals of an epoch at a fixed position (R150): of four satellites or more, above 50 m in ten epochs on end, they make the
position suspect. -/
def State.residualEpoch (s : State) (sats rms : Nat) : State :=
  let p := s.gnss.prog
  if p.suspect then s
  else if 4 ≤ sats ∧ 50000 < rms then
    if 10 ≤ p.bad + 1 then (s.setProg { p with bad := 10, suspect := true }).raise 74 else s.setProg { p with bad := p.bad + 1 }
  else s.setProg { p with bad := 0 }

/-- Satellites that a solution needs: four unknowns, or the clock alone at a fixed position (DEDUCED, log entry 75). -/
def satsNeeded (mode : Nat) : Nat := if mode = 2 then 1 else 4

/-- New kept data: ephemerides, an almanac, and the position (R79, R152). -/
def State.keepData (s : State) (e : SolveIn) (valid : Bool) : State :=
  let h := s.gnss.hot
  let new : List (Nat × Nat × Nat) := e.eph.map (fun x => (x.1.val, x.2.1.toNat, x.2.2.toNat))
  let old := h.eph.filter (fun x => !new.any (fun y => y.1 == x.1 && y.2.1 == x.2.1))
  s.setHot { h with
    eph := old ++ new, alm := if e.alm then some s.second else h.alm,
    pos := if valid then [GNT_POSX, GNT_POSY, GNT_POSZ, GNT_POSHP, GNT_POSACC].map (fun a => (s.get a).toNat) else h.pos }

/-- An epoch of the program. -/
def State.solve (s : State) (src : BusSrc) (e : SolveIn) : State :=
  let s := s.osnEpoch e.osn
  let mode := s.fld GNT_TMODE_MODE
  let used := s.solvers (e.used.map (·.val))
  let n := (s.sats used).length
  let s := if mode = 2 then s.residualEpoch n e.rms else s
  let valid := decide (satsNeeded mode ≤ n) && !(mode == 2 && s.gnss.prog.suspect)
  let dual := s.isSet GNT_TMODE_DUALONLY
  let s := if !valid then s
    else if mode = 0 then s.writePos src e.pos e.acc.toNat
    else if mode = 1 then s.surveyEpoch src e
    else s
  let fix := if !valid then 0 else if mode = 2 then 1 else if dual then 3 else 2
  let s := s.write src GNT_PVTSTAT (putAll 0 [(GNT_PVTSTAT_NSIG, used.length), (GNT_PVTSTAT_NSAT, n), (GNT_PVTSTAT_FIX, fix)])
  let s := ((s.keepData e valid).write src GNT_TSOL_OFS e.ofs).write src GNT_TSOL_FRQ e.frq
  s.write src GNT_TSOL_CTL (putAll 0 [(GNT_TSOL_CTL_FIXEDPOS, flag (mode == 2)), (GNT_TSOL_CTL_DUAL, flag dual),
    (GNT_TSOL_CTL_ACC, e.ofsAcc.toNat), (GNT_TSOL_CTL_COARSE, flag e.coarse), (GNT_TSOL_CTL_VALID, flag valid), (GNT_TSOL_CTL_POST, 1)])

/-- A core of Q0, the quad that carries the GNSS program. -/
def onQ0 : BusSrc → Bool
  | .core c => decide (c.val < 4)
  | _ => false

/-- TSOL_POST: the word written, with POST set; from Q0 it may end an epoch of its program, which makes the word and all that the program
writes before it. -/
def execTsolPost (src : BusSrc) (value : Word) (sol : Option SolveIn) (s : State) : Host.Outcome State Fault Refusal :=
  .next (match sol, onQ0 src with
    | some e, true => s.solve src e
    | _, _ => s.write src GNT_TSOL_CTL (putFld value GNT_TSOL_CTL_POST 1))

end Sys2Proof.Machine
end

