-- ==== Sys2Proof/Machine/Dispatch.lean ====
section
/-! DEFINITION. Dispatch: one arm for each command, which calls that command's meaning. -/

namespace Sys2Proof.Machine

def exec (i : Instr) (s : State) : Host.Outcome State Fault Refusal :=
  match i with
  | .registerWrite src addr width value => Sys2Proof.Machine.execRegisterWrite src addr width value s
  | .beatEdge uplLate => Sys2Proof.Machine.execBeatEdge uplLate s
  | .readBeatcnt src part => Sys2Proof.Machine.execReadBeatcnt src part s
  | .commitPoint => Sys2Proof.Machine.execCommitPoint s
  | .applyCutoff => Sys2Proof.Machine.execApplyCutoff s
  | .chaserDeadline => Sys2Proof.Machine.execChaserDeadline s
  | .hostBar2Read offset len => Sys2Proof.Machine.execHostBar2Read offset len s
  | .hostBar2Write offset data => Sys2Proof.Machine.execHostBar2Write offset data s
  | .castLoad src => Sys2Proof.Machine.execCastLoad src s
  | .castCancel src => Sys2Proof.Machine.execCastCancel src s
  | .castHostTimeout => Sys2Proof.Machine.execCastHostTimeout s
  | .castStaged image => Sys2Proof.Machine.execCastStaged image s
  | .castChecked => Sys2Proof.Machine.execCastChecked s
  | .arbAdvance src => Sys2Proof.Machine.execArbAdvance src s
  | .functionReset src id => Sys2Proof.Machine.execFunctionReset src id s
  | .quiesceComplete => Sys2Proof.Machine.execQuiesceComplete s
  | .quiesceForced core => Sys2Proof.Machine.execQuiesceForced core s
  | .dormantRequest src => Sys2Proof.Machine.execDormantRequest src s
  | .dormantPowerDown => Sys2Proof.Machine.execDormantPowerDown s
  | .annealRequest src => Sys2Proof.Machine.execAnnealRequest src s
  | .surveyRequest src => Sys2Proof.Machine.execSurveyRequest src s
  | .porstAssert => Sys2Proof.Machine.execPorstAssert s
  | .porstRelease castSrc => Sys2Proof.Machine.execPorstRelease castSrc s
  | .fabricSynthLock => Sys2Proof.Machine.execFabricSynthLock s
  | .assayStage1Done fail => Sys2Proof.Machine.execAssayStage1Done fail s
  | .crucibleIndexScanDone bad => Sys2Proof.Machine.execCrucibleIndexScanDone bad s
  | .assayStage2Done fail banks => Sys2Proof.Machine.execAssayStage2Done fail banks s
  | .calibrationDone cals irr => Sys2Proof.Machine.execCalibrationDone cals irr s
  | .assayRerun src => Sys2Proof.Machine.execAssayRerun src s
  | .wakeSource fired => Sys2Proof.Machine.execWakeSource fired s
  | .wakeTimerExpiry => Sys2Proof.Machine.execWakeTimerExpiry s
  | .surveyTimeout => Sys2Proof.Machine.execSurveyTimeout s
  | .commitRequest src => Sys2Proof.Machine.execCommitRequest src s
  | .commitPassDone => Sys2Proof.Machine.execCommitPassDone s
  | .ingotWriteDone ok maxw spare => Sys2Proof.Machine.execIngotWriteDone ok maxw spare s
  | .leaseCommitted => Sys2Proof.Machine.execLeaseCommitted s
  | .nodeCheckpoint => Sys2Proof.Machine.execNodeCheckpoint s
  | .ledgerCheckpoint => Sys2Proof.Machine.execLedgerCheckpoint s
  | .agcLimit band high left => Sys2Proof.Machine.execAgcLimit band high left s
  | .blankFractionHigh band frac => Sys2Proof.Machine.execBlankFractionHigh band frac s
  | .notchChange band k lock freq depth => Sys2Proof.Machine.execNotchChange band k lock freq depth s
  | .loUnlock band => Sys2Proof.Machine.execLoUnlock band s
  | .inputOverload band => Sys2Proof.Machine.execInputOverload band s
  | .dumpLatch slice data => Sys2Proof.Machine.execDumpLatch slice data s
  | .sliceStateWrite src slice word value => Sys2Proof.Machine.execSliceStateWrite src slice word value s
  | .acqPush src => Sys2Proof.Machine.execAcqPush src s
  | .acqPop src => Sys2Proof.Machine.execAcqPop src s
  | .acqCancel src => Sys2Proof.Machine.execAcqCancel src s
  | .acqFlush src => Sys2Proof.Machine.execAcqFlush src s
  | .acqBlocksComplete => Sys2Proof.Machine.execAcqBlocksComplete s
  | .acqRequestDone pnr ratio codeph dopp => Sys2Proof.Machine.execAcqRequestDone pnr ratio codeph dopp s
  | .snapStart src value => Sys2Proof.Machine.execSnapStart src value s
  | .snapAbort src samples => Sys2Proof.Machine.execSnapAbort src samples s
  | .snapFirstSample => Sys2Proof.Machine.execSnapFirstSample s
  | .snapDone samples => Sys2Proof.Machine.execSnapDone samples s
  | .gntBatchProcess => Sys2Proof.Machine.execGntBatchProcess s
  | .predArm src slice slot t => Sys2Proof.Machine.execPredArm src slice slot t s
  | .measBlockPost => Sys2Proof.Machine.execMeasBlockPost s
  | .tsolPost src value sol => Sys2Proof.Machine.execTsolPost src value sol s
  | .fixTimeout => Sys2Proof.Machine.execFixTimeout s
  | .napTimerExpiry => Sys2Proof.Machine.execNapTimerExpiry s
  | .napWake src => Sys2Proof.Machine.execNapWake src s
  | .napSettleDone => Sys2Proof.Machine.execNapSettleDone s
  | .napFailTimeout => Sys2Proof.Machine.execNapFailTimeout s
  | .readNow src part => Sys2Proof.Machine.execReadNow src part s
  | .setSecond src sec => Sys2Proof.Machine.execSetSecond src sec s
  | .leapTableWrite src entry word value => Sys2Proof.Machine.execLeapTableWrite src entry word value s
  | .leapPending => Sys2Proof.Machine.execLeapPending s
  | .leapDone => Sys2Proof.Machine.execLeapDone s
  | .refMonitorSecond xo refa refb => Sys2Proof.Machine.execRefMonitorSecond xo refa refb s
  | .refAbsent ref => Sys2Proof.Machine.execRefAbsent ref s
  | .refEdgesReturn ref => Sys2Proof.Machine.execRefEdgesReturn ref s
  | .frefSwitchDone => Sys2Proof.Machine.execFrefSwitchDone s
  | .ppsInEdge ps => Sys2Proof.Machine.execPpsInEdge ps s
  | .ppsTimeout => Sys2Proof.Machine.execPpsTimeout s
  | .degradedClear => Sys2Proof.Machine.execDegradedClear s
  | .modelStateChange => Sys2Proof.Machine.execModelStateChange s
  | .tpArm n t => Sys2Proof.Machine.execTpArm n t s
  | .tpEmit n agree => Sys2Proof.Machine.execTpEmit n agree s
  | .tpPulseEnd n => Sys2Proof.Machine.execTpPulseEnd n s
  | .tpDlyaWrite src n value => Sys2Proof.Machine.execTpDlyaWrite src n value s
  | .tpDlybCommit src n value => Sys2Proof.Machine.execTpDlybCommit src n value s
  | .tpCopyDisagree n => Sys2Proof.Machine.execTpCopyDisagree n s
  | .ticArm src => Sys2Proof.Machine.execTicArm src s
  | .ticDisarm src => Sys2Proof.Machine.execTicDisarm src s
  | .ticPop src => Sys2Proof.Machine.execTicPop src s
  | .ticEdge input ps => Sys2Proof.Machine.execTicEdge input ps s
  | .ticTimeout => Sys2Proof.Machine.execTicTimeout s
  | .rxWindowStart entry => Sys2Proof.Machine.execRxWindowStart entry s
  | .sfdDetect lane tap ts => Sys2Proof.Machine.execSfdDetect lane tap ts s
  | .frameReceived lane tap phr psdu rssi cfo => Sys2Proof.Machine.execFrameReceived lane tap phr psdu rssi cfo s
  | .rxWindowEnd entry => Sys2Proof.Machine.execRxWindowEnd entry s
  | .txRetuneStart entry => Sys2Proof.Machine.execTxRetuneStart entry s
  | .synthSettled lane tx seeds iq => Sys2Proof.Machine.execSynthSettled lane tx seeds iq s
  | .txBlankStart entry => Sys2Proof.Machine.execTxBlankStart entry s
  | .txAntsel entry => Sys2Proof.Machine.execTxAntsel entry s
  | .txPaenRise entry => Sys2Proof.Machine.execTxPaenRise entry s
  | .txRampUp entry => Sys2Proof.Machine.execTxRampUp entry s
  | .txRampDown entry => Sys2Proof.Machine.execTxRampDown entry s
  | .txPaenFall entry ts => Sys2Proof.Machine.execTxPaenFall entry ts s
  | .txBlankEnd lane => Sys2Proof.Machine.execTxBlankEnd lane s
  | .laneAgcFastAttack lane => Sys2Proof.Machine.execLaneAgcFastAttack lane s
  | .pafltActive lane level ts => Sys2Proof.Machine.execPafltActive lane level ts s
  | .txFenceClear src lane => Sys2Proof.Machine.execTxFenceClear src lane s
  | .trimDue lane temp => Sys2Proof.Machine.execTrimDue lane temp s
  | .trimRequest src lane => Sys2Proof.Machine.execTrimRequest src lane s
  | .trimDone lane irr => Sys2Proof.Machine.execTrimDone lane irr s
  | .synthUnlock lane tx => Sys2Proof.Machine.execSynthUnlock lane tx s
  | .temperTableWrite src lane entry word value => Sys2Proof.Machine.execTemperTableWrite src lane entry word value s
  | .fmbWrite src addr reg val => Sys2Proof.Machine.execFmbWrite src addr reg val s
  | .fmbRead src addr reg => Sys2Proof.Machine.execFmbRead src addr reg s
  | .fmbTransactionDone data => Sys2Proof.Machine.execFmbTransactionDone data s
  | .fmbSclTimeout => Sys2Proof.Machine.execFmbSclTimeout s
  | .uplinkReceived => Sys2Proof.Machine.execUplinkReceived s
  | .joinreqReceived => Sys2Proof.Machine.execJoinreqReceived s
  | .nodeackReceived => Sys2Proof.Machine.execNodeackReceived s
  | .sentinelReceived => Sys2Proof.Machine.execSentinelReceived s
  | .rxAuthDone => Sys2Proof.Machine.execRxAuthDone s
  | .nodeRecordWrite src index word value => Sys2Proof.Machine.execNodeRecordWrite src index word value s
  | .deviceSecond => Sys2Proof.Machine.execDeviceSecond s
  | .outcomeDelivered entry => Sys2Proof.Machine.execOutcomeDelivered entry s
  | .blacklistWrite src lane high value => Sys2Proof.Machine.execBlacklistWrite src lane high value s
  | .schCancel src => Sys2Proof.Machine.execSchCancel src s
  | .fwdLookup => Sys2Proof.Machine.execFwdLookup s
  | .meqPop src => Sys2Proof.Machine.execMeqPop src s
  | .fwdSearch => Sys2Proof.Machine.execFwdSearch s
  | .fwdNext => Sys2Proof.Machine.execFwdNext s
  | .fwdInsert => Sys2Proof.Machine.execFwdInsert s
  | .fwdDelete => Sys2Proof.Machine.execFwdDelete s
  | .fwdFlushByPort => Sys2Proof.Machine.execFwdFlushByPort s
  | .fwdFlushDone => Sys2Proof.Machine.execFwdFlushDone s
  | .filterClearDone slot => Sys2Proof.Machine.execFilterClearDone slot s
  | .sweepVisit => Sys2Proof.Machine.execSweepVisit s
  | .fwdLockRequest src req => Sys2Proof.Machine.execFwdLockRequest src req s
  | .fwdLocked table => Sys2Proof.Machine.execFwdLocked table s
  | .fwdTableWrite src ofs value => Sys2Proof.Machine.execFwdTableWrite src ofs value s
  | .shadowChunkCompare data => Sys2Proof.Machine.execShadowChunkCompare data s
  | .shadowRecheck data => Sys2Proof.Machine.execShadowRecheck data s
  | .keyProvision src => Sys2Proof.Machine.execKeyProvision src s
  | .bkeyGen src => Sys2Proof.Machine.execBkeyGen src s
  | .bkeyImport src => Sys2Proof.Machine.execBkeyImport src s
  | .eraseSlot src => Sys2Proof.Machine.execEraseSlot src s
  | .eraseRecordKeys src => Sys2Proof.Machine.execEraseRecordKeys src s
  | .joinCommand src idx => Sys2Proof.Machine.execJoinCommand src idx s
  | .graceExpiry => Sys2Proof.Machine.execGraceExpiry s
  | .trngHealthFail => Sys2Proof.Machine.execTrngHealthFail s
  | .trngRecover => Sys2Proof.Machine.execTrngRecover s
  | .trngRetest src => Sys2Proof.Machine.execTrngRetest src s
  | .trngRead src part => Sys2Proof.Machine.execTrngRead src part s
  | .jobSha256 src => Sys2Proof.Machine.execJobSha256 src s
  | .jobHmacSha256 src => Sys2Proof.Machine.execJobHmacSha256 src s
  | .jobEcdsaVerify src => Sys2Proof.Machine.execJobEcdsaVerify src s
  | .jobEcdhTm src => Sys2Proof.Machine.execJobEcdhTm src s
  | .jobDone => Sys2Proof.Machine.execJobDone s
  | .jobPop src => Sys2Proof.Machine.execJobPop src s
  | .imageLoad src slot => Sys2Proof.Machine.execImageLoad src slot s
  | .imageVerifyDone slot => Sys2Proof.Machine.execImageVerifyDone slot s
  | .imageDrop src slot => Sys2Proof.Machine.execImageDrop src slot s
  | .campPrepare src camp => Sys2Proof.Machine.execCampPrepare src camp s
  | .campPrepareDone camp => Sys2Proof.Machine.execCampPrepareDone camp s
  | .campStart src camp => Sys2Proof.Machine.execCampStart src camp s
  | .campPause src camp => Sys2Proof.Machine.execCampPause src camp s
  | .campEnd src camp => Sys2Proof.Machine.execCampEnd src camp s
  | .announceSend => Sys2Proof.Machine.execAnnounceSend s
  | .announceReceived port a => Sys2Proof.Machine.execAnnounceReceived port a s
  | .peerKeyingDone peer => Sys2Proof.Machine.execPeerKeyingDone peer s
  | .peerAgeOut peer => Sys2Proof.Machine.execPeerAgeOut peer s
  | .peerRejectExpiry peer => Sys2Proof.Machine.execPeerRejectExpiry peer s
  | .helloSend => Sys2Proof.Machine.execHelloSend s
  | .helloReceived u serving role tvalid => Sys2Proof.Machine.execHelloReceived u serving role tvalid s
  | .ptpMessage port st offset freq => Sys2Proof.Machine.execPtpMessage port st offset freq s
  | .ptpOffsetTimeout port => Sys2Proof.Machine.execPtpOffsetTimeout port s
  | .ethLinkChange port up speed => Sys2Proof.Machine.execEthLinkChange port up speed s
  | .hoPull src peer => Sys2Proof.Machine.execHoPull src peer s
  | .hoReqReceived u eui => Sys2Proof.Machine.execHoReqReceived u eui s
  | .hoXferReceived u r => Sys2Proof.Machine.execHoXferReceived u r s
  | .hoAckReceived u => Sys2Proof.Machine.execHoAckReceived u s
  | .hoNakReceived u status => Sys2Proof.Machine.execHoNakReceived u status s
  | .uplRetransmit peer ty => Sys2Proof.Machine.execUplRetransmit peer ty s
  | .uplTimeout peer ty => Sys2Proof.Machine.execUplTimeout peer ty s
  | .mirrorReceived u recs rest => Sys2Proof.Machine.execMirrorReceived u recs rest s
  | .mirrorAckReceived u => Sys2Proof.Machine.execMirrorAckReceived u s
  | .mirrorLag => Sys2Proof.Machine.execMirrorLag s
  | .partnerSilence => Sys2Proof.Machine.execPartnerSilence s
  | .alarmResend => Sys2Proof.Machine.execAlarmResend s
  | .alarmReceived u a => Sys2Proof.Machine.execAlarmReceived u a s
  | .dataReceived u rep body => Sys2Proof.Machine.execDataReceived u rep body s
  | .bundleIssue core cyc => Sys2Proof.Machine.execBundleIssue core cyc s
  | .interruptEntry core lat => Sys2Proof.Machine.execInterruptEntry core lat s
  | .eventToCore core id data => Sys2Proof.Machine.execEventToCore core id data s
  | .doorbellRing src core data => Sys2Proof.Machine.execDoorbellRing src core data s
  | .coreOffer src core len => Sys2Proof.Machine.execCoreOffer src core len s
  | .offerCopyDone core => Sys2Proof.Machine.execOfferCopyDone core s
  | .pmuCounterRead src part core k idle => Sys2Proof.Machine.execPmuCounterRead src part core k idle s
  | .pmuCounterWrite src core k high value => Sys2Proof.Machine.execPmuCounterWrite src core k high value s
  | .pmuSnap src core idle => Sys2Proof.Machine.execPmuSnap src core idle s
  | .pmuSampleReset src core => Sys2Proof.Machine.execPmuSampleReset src core s
  | .scrubVisit => Sys2Proof.Machine.execScrubVisit s
  | .bankHandover src bank value => Sys2Proof.Machine.execBankHandover src bank value s
  | .handoverComplete bank => Sys2Proof.Machine.execHandoverComplete bank s
  | .sqDoorbell src q ptr => Sys2Proof.Machine.execSqDoorbell src q ptr s
  | .cqDoorbell src q ptr => Sys2Proof.Machine.execCqDoorbell src q ptr s
  | .commandFetched q words => Sys2Proof.Machine.execCommandFetched q words s
  | .adminNop q tag => Sys2Proof.Machine.execAdminNop q tag s
  | .adminAbort q tag => Sys2Proof.Machine.execAdminAbort q tag s
  | .meshDownlink q tag => Sys2Proof.Machine.execMeshDownlink q tag s
  | .meshBroadcast q tag => Sys2Proof.Machine.execMeshBroadcast q tag s
  | .fwdOffer q tag => Sys2Proof.Machine.execFwdOffer q tag s
  | .commandTimeout q tag => Sys2Proof.Machine.execCommandTimeout q tag s
  | .completionWrite q => Sys2Proof.Machine.execCompletionWrite q s
  | .eventRecordWrite => Sys2Proof.Machine.execEventRecordWrite s
  | .eventRecordDrop id data => Sys2Proof.Machine.execEventRecordDrop id data s
  | .expressRecordWrite => Sys2Proof.Machine.execExpressRecordWrite s
  | .vectorHoldoffExpiry v => Sys2Proof.Machine.execVectorHoldoffExpiry v s
  | .msixUnmask src v => Sys2Proof.Machine.execMsixUnmask src v s
  | .pcieLinkDown => Sys2Proof.Machine.execPcieLinkDown s
  | .pcieLinkUp speed width bme => Sys2Proof.Machine.execPcieLinkUp speed width bme s
  | .pcieFlr => Sys2Proof.Machine.execPcieFlr s
  | .spiId => Sys2Proof.Machine.execSpiId s
  | .spiStatus => Sys2Proof.Machine.execSpiStatus s
  | .spiRead32 addr n => Sys2Proof.Machine.execSpiRead32 addr n s
  | .spiWrite32 addr words => Sys2Proof.Machine.execSpiWrite32 addr words s
  | .spiReadb2 offset n => Sys2Proof.Machine.execSpiReadb2 offset n s
  | .spiWriteb2 offset words => Sys2Proof.Machine.execSpiWriteb2 offset words s
  | .spiStage offset words => Sys2Proof.Machine.execSpiStage offset words s
  | .spiEvtpop => Sys2Proof.Machine.execSpiEvtpop s
  | .spiXpop => Sys2Proof.Machine.execSpiXpop s
  | .spiSubmit words => Sys2Proof.Machine.execSpiSubmit words s
  | .spiCplpop => Sys2Proof.Machine.execSpiCplpop s
  | .spiUnknownOpcode => Sys2Proof.Machine.execSpiUnknownOpcode s
  | .tapBypass => Sys2Proof.Machine.execTapBypass s
  | .tapIdcode => Sys2Proof.Machine.execTapIdcode s
  | .tapSamplePreload => Sys2Proof.Machine.execTapSamplePreload s
  | .tapExtest => Sys2Proof.Machine.execTapExtest s
  | .tapClamp => Sys2Proof.Machine.execTapClamp s
  | .tapHighz => Sys2Proof.Machine.execTapHighz s
  | .brownoutWarning source => Sys2Proof.Machine.execBrownoutWarning source s
  | .brownoutEnd => Sys2Proof.Machine.execBrownoutEnd s
  | .mainRailFail => Sys2Proof.Machine.execMainRailFail s
  | .rtcDateWrite src value => Sys2Proof.Machine.execRtcDateWrite src value s
  | .rtcTimeWrite src value => Sys2Proof.Machine.execRtcTimeWrite src value s
  | .rtcTimeRead src part => Sys2Proof.Machine.execRtcTimeRead src part s
  | .bkpWriteTransferDone => Sys2Proof.Machine.execBkpWriteTransferDone s
  | .rtcSecond => Sys2Proof.Machine.execRtcSecond s
  | .vbatLow => Sys2Proof.Machine.execVbatLow s
  | .xt32Stop => Sys2Proof.Machine.execXt32Stop s
  | .rtcResync ofs => Sys2Proof.Machine.execRtcResync ofs s
  | .dipsClear src => Sys2Proof.Machine.execDipsClear src s
  | .chargerTargetReached => Sys2Proof.Machine.execChargerTargetReached s
  | .chargerResume => Sys2Proof.Machine.execChargerResume s
  | .loLock band => Sys2Proof.Machine.execLoLock band s
  | .gnssHealthExpiry => Sys2Proof.Machine.execGnssHealthExpiry s
  | .backupDomainPowerOn => Sys2Proof.Machine.execBackupDomainPowerOn s
  | .cycleCounterWrap core k => Sys2Proof.Machine.execCycleCounterWrap core k s

end Sys2Proof.Machine
end

