-- ==== Sys2Proof/Machine/Idle.lean ====
section
/-! DEFINITION. What happens while no command waits: a tick of the timebase passes, where the timebase runs (R162,
R480, log entry 11). Everything else that time brings about is a command of the table. -/

namespace Sys2Proof.Machine

/-- One fabric tick passes; a block of a frozen set may be due at it (R120), and the entry to DORMANT goes on where nothing holds it
(R72). -/
def State.idle (s : State) : State := if s.tim.run then (s.timeTo (s.tim.ts + 1)).acqDue.planOwed.updateLna.dormantStep else s

end Sys2Proof.Machine
end

