-- ==== Sys2Proof/WellFormed.lean ====
section
/-! DEFINITION. What the environment can bring: the conditions on a command's operands that their types do not say. A meaning is
total and asks none of them; a statement that needs one names it. -/

namespace Sys2Proof

/-- A word write names an aligned word, a half write an aligned half (R4). -/
def alignedFor (w : AccWidth) (a : BitVec 24) : Bool :=
  match w with
  | .byte => true
  | .half => a.toNat % 2 == 0
  | .word => a.toNat % 4 == 0

/-- A cell of the air or of a frame holds at most 2,047 octets (R194). -/
def psduMax : Nat := 2047

/-- A staged image holds at most 8 MiB (R39). -/
def imageMax : Nat := 0x800000

/-- Words of a command to the host queues: 64 bytes (R421). -/
def cmdWords : Nat := 16

/-- The record a MIRROR carries has 16 and 7 words, and two wrapped keys of 24 octets where they changed (R332). -/
def MirrorRec.wf (m : MirrorRec) : Bool :=
  m.lo.length == 16 && m.hi.length == 7 &&
    (match m.keys with
     | none => true
     | some (a, b) => a.length == 24 && b.length == 24)

/-- The conditions on a command's operands. -/
def Instr.wf : Instr → Bool
  | .registerWrite _ addr width _ => alignedFor width addr
  | .hostBar2Write _ data => decide (data.length ≤ 64)
  | .spiRead32 addr _ => alignedFor .word addr
  | .spiWrite32 addr _ => alignedFor .word addr
  | .spiSubmit words => words.length == cmdWords
  | .commandFetched _ words => words.length == cmdWords
  | .frameReceived _ _ _ psdu _ _ => decide (psdu.length ≤ psduMax)
  | .castStaged (some image) => decide (image.length ≤ imageMax)
  | .mirrorReceived _ recs rest => recs.all MirrorRec.wf && rest.beacon.length == 4
  | .hoXferReceived _ r => r.jkWrap.length == 24 && r.skWrap.length == 24
  | .assayStage2Done _ banks => decide banks.Nodup
  | _ => true

end Sys2Proof
end

