-- ==== Sys2Proof/Safety.lean ====
section
/-! DEFINITION. What a statement may rely on of a state and of a run: the canonical form of the stored octets and tables, and a run
that meets no fault and no refusal. -/

namespace Sys2Proof.Machine

/-- Octets by address in their one form: addresses rise, and no octet equals what an unlisted address reads as (log entry 2). -/
def Memory.wf (m : List Host.Cell) : Bool := tabWf 0#8 m

/-- The banks hold their octets, and the inverted bits of their words, in canonical form. -/
def State.memWf (s : State) : Bool := Memory.wf s.mem.cells && tabWf 0 s.mem.ecc

/-- The device is powered and a word write is accepted: no cause of R95 applies. -/
abbrev State.takes (s : State) (a : Nat) (v : Word) : Prop := s.sys.power = .on ∧ s.judge a .word v = none

/-- The word that a command writes which keeps a register's stored fields and sets the named ones. -/
def State.setWord (s : State) (a : Nat) (l : List (Fld × Nat)) : Word := putAll (s.get a &&& rwMask a) l

/-- What a queued ingot is, beside its contents. -/
def QIngot.name (q : QIngot) : Nat × Nat × Option (LeaseKey × Nat) := (q.cls, q.idx, q.lease)

/-- The write queue of the Crucible without its contents. -/
def State.queueNames (s : State) : List (Nat × Nat × Option (LeaseKey × Nat)) := s.cru.queue.map QIngot.name

/-- A state from which the next step goes on. -/
def State.safe (s : State) : Prop := ∃ t, step s = .next t

/-- The states that steps lead to from a state, commands joining the queue at its end in between. -/
inductive State.Reaches : State → State → Prop where
  | refl (s : State) : State.Reaches s s
  | step {s t u : State} (h : State.Reaches s t) (hs : Sys2Proof.Machine.step t = .next u) : State.Reaches s u
  | bring {s t : State} (h : State.Reaches s t) (c : Instr) : State.Reaches s { t with pending := t.pending ++ [c] }

/-- A safe run: no step from a state reached stops. -/
def State.safeRun (s : State) : Prop := ∀ t, s.Reaches t → t.safe

end Sys2Proof.Machine
end

