-- ==== Sys2Proof/Certificates/Slice0/Obligations.lean ====
section
/-! DEFINITION. The statements for the provers. Each names the rules that it formalises in OBLIGATIONS.json; one that rests on a choice
of the model says so in its docstring. -/

open Sys2Proof Sys2Proof.Machine Sys2Proof.Fields


/-- A step runs the command at the front of the queue (spec/00_scope.md, spec/01_beat_and_stations.md). -/
def Obligations.StepRunsFrontCommand : Prop :=
  ∀ (c : Instr) (r : List Instr) (s : State), step { s with pending := c :: r } = exec c { s with pending := r }

/-- With no command waiting one fabric tick passes (the model's choice, log entry 11) (spec/06_timebase_and_pulses.md). -/
def Obligations.EmptyQueueTicks : Prop :=
  ∀ s : State, s.pending = [] →
    (s.tim.run = false → step s = .next s)
    ∧ (s.tim.run = true → s.acqFilling = none → s.sch.owed = false → s.sys.trans ≠ .dormant 1 →
        ∃ l a, step s = .next { s with
            tim := { s.tim with ts := s.tim.ts + 1 }, pins := { s.pins with lnaen := l, antsel := a } }
          ∧ (s.beating = false → l = List.replicate 4 false ∧ a = s.pins.antsel))

/-- A first rejected register write is captured and raises CONFIG-REJECT (R96). -/
def Obligations.FirstRejectIsCaptured : Prop :=
  ∀ (s : State) (src : BusSrc) (addr : BitVec 24) (w : AccWidth) (v : Word) (c : Nat),
    s.sys.power = .on → s.judge (addr.toNat / 4 * 4) w v = some c → s.isSet MGT_REJ_INFO_PEND = false →
    ∃ t, exec (.registerWrite src addr w v) s = .next t
      ∧ t.fld MGT_REJ_INFO_PEND = 1 ∧ t.fld MGT_REJ_INFO_COUNT = 1 ∧ t.fld MGT_REJ_INFO_CAUSE = c
      ∧ t.fld MGT_REJ_INFO_SOURCE = (rejSource src).1 ∧ t.fld MGT_REJ_INFO_CORE = (rejSource src).2
      ∧ t.fld MGT_REJ_ADDR_ADDR = (if w = .word then addr.toNat / 4 * 4 else addr.toNat)
      ∧ t.fld (routeCount 1) = min (s.fld (routeCount 1) + 1) 0xFFFFFFFF
      ∧ (∀ a, a ≠ MGT_REJ_INFO → a ≠ MGT_REJ_ADDR → a < 0x100000 ∨ (0x102000 ≤ a ∧ a < 0x200000) ∨ 0x460000 ≤ a →
          t.get a = s.get a)
      ∧ t = { s with regs := t.regs, hst := t.hst, out := t.out, cores := t.cores, tick := t.tick }

/-- A later rejected write only counts; of the rejects of one tick the first source's is captured (R96). -/
def Obligations.LaterRejectOnlyCounts : Prop :=
  ∀ (s : State) (src : BusSrc) (addr : BitVec 24) (w : AccWidth) (v : Word) (c : Nat),
    s.sys.power = .on → s.judge (addr.toNat / 4 * 4) w v = some c → s.isSet MGT_REJ_INFO_PEND = true →
    ∃ t, exec (.registerWrite src addr w v) s = .next t
      ∧ t.fld MGT_REJ_INFO_COUNT = min (s.fld MGT_REJ_INFO_COUNT + 1) 255 ∧ t.fld MGT_REJ_INFO_PEND = 1
      ∧ (∀ a, a ≠ MGT_REJ_INFO → a ≠ MGT_REJ_ADDR → t.get a = s.get a) ∧ t = { s with regs := t.regs, tick := t.tick }
      ∧ (s.now.rejNew = false → t.get MGT_REJ_ADDR = s.get MGT_REJ_ADDR
          ∧ t.fld MGT_REJ_INFO_CAUSE = s.fld MGT_REJ_INFO_CAUSE
          ∧ t.fld MGT_REJ_INFO_SOURCE = s.fld MGT_REJ_INFO_SOURCE ∧ t.fld MGT_REJ_INFO_CORE = s.fld MGT_REJ_INFO_CORE)
      ∧ (s.now.rejNew = true →
          ∃ r, firstReject (s.now.rejects ++ [⟨rejRank src, if w = .word then addr.toNat / 4 * 4 else addr.toNat, c⟩]) = some r
            ∧ t.fld MGT_REJ_ADDR_ADDR = r.addr % 2 ^ MGT_REJ_ADDR_ADDR.len
            ∧ t.fld MGT_REJ_INFO_CAUSE = r.cause % 2 ^ MGT_REJ_INFO_CAUSE.len
            ∧ t.fld MGT_REJ_INFO_SOURCE = min r.rank 2)

/-- The cause of a reject is the first of R95 that applies (R95). -/
def Obligations.RejectCauseOrder : Prop :=
  ∀ (s : State) (a : Nat) (w : AccWidth) (v : Word), ¬ (0xF0100 ≤ a ∧ a < 0xF0400) → ¬ (0x460000 ≤ a ∧ a < 0x461000) →
    (s.judge a w v = some 6 ↔ s.modeReject a v = true)
    ∧ (s.judge a w v = some 4 ↔ s.modeReject a v = false ∧ s.assigned a = false)
    ∧ (s.judge a w v = some 5 ↔ s.modeReject a v = false ∧ s.assigned a = true ∧ s.heldReject a v = true)
    ∧ (s.judge a w v = some 7 ↔ s.modeReject a v = false ∧ s.assigned a = true ∧ s.heldReject a v = false
        ∧ s.busyReject a v = true)
    ∧ (s.judge a w v = some 3 ↔ s.modeReject a v = false ∧ s.assigned a = true ∧ s.heldReject a v = false
        ∧ s.busyReject a v = false ∧ w ≠ .word)
    ∧ (s.judge a w v = some 2 ↔ s.modeReject a v = false ∧ s.assigned a = true ∧ s.heldReject a v = false
        ∧ s.busyReject a v = false ∧ w = .word ∧ s.clReject a v = true)
    ∧ (s.judge a w v = some 1 ↔ s.modeReject a v = false ∧ s.assigned a = true ∧ s.heldReject a v = false
        ∧ s.busyReject a v = false ∧ w = .word ∧ s.clReject a v = false
        ∧ (fieldReserved a v = true ∨ s.crossReserved a v = true))
    ∧ ∀ c, s.judge a w v = some c → 1 ≤ c ∧ c ≤ 7

/-- An accepted write sets the RW fields of a plain register and nothing else (R5, R93, spec/00_scope.md). -/
def Obligations.PlainWriteSetsFields : Prop :=
  ∀ (s : State) (src : BusSrc) (v : Word),
    ∀ a ∈ [MGT_CASTADDR_LO, MGT_WAKECFG, TIM_TPDLYA 0, GNC_ACQW1, MAC_NRPAGE, FWD_TWSEL, SEC_JOBD0, PLK_HOEUI_LO, SCH_CANCEL,
        HST_ERBASE_LO],
    s.takes a v → (a = SCH_CANCEL → getFld v SCH_CANCEL_GO = 0) →
    ∃ t, exec (.registerWrite src (BitVec.ofNat 24 a) .word v) s = .next t
      ∧ (∀ r, regAt a = some r → ∀ f ∈ r.flds, f.ty = .RW → getFld (t.get a) ⟨a, f.lo, f.len⟩ = getFld v ⟨a, f.lo, f.len⟩)
      ∧ (∀ b, b ≠ a → t.get b = s.get b)
      ∧ t = { s with regs := t.regs, sys := { s.sys with dirty := t.sys.dirty } }

/-- A read of the first half captures the rest of a beat position, a time, a date or a counter (R20, R190). -/
def Obligations.FirstHalfReadCaptures : Prop :=
  ∀ (s : State) (src : BusSrc) (part : ReadPart),
    s.sys.power = .on → s.mode ≠ modeDormant → s.sys.phase ≠ .assay1Failed →
    let answers (c : Instr) (a : Nat) (w : Word) (later : List (Nat × Word)) : Prop :=
      s.captured a = none →
      ∃ t, exec c s = .next t ∧ t.out = s.out ++ [readReply src w part]
        ∧ (∀ u : State, u.captures = t.captures → u.mode ≠ modeDormant → u.sys.phase ≠ .assay1Failed →
            ∀ p ∈ later, (u.busRead p.1).1 = p.2)
        ∧ t = { s with out := t.out, captures := t.captures }
    answers (.readBeatcnt src part) TIM_BEATCNT (s.get TIM_BEATCNT) [(TIM_BEATPOS, s.beatPosWord)]
    ∧ answers (.readNow src part) TIM_NOW0 (BitVec.ofNat 32 (dtNs s.tim.ts))
        [(TIM_NOW1, BitVec.ofNat 32 (dtSec s.tim.ts % 2 ^ 16 * 2 ^ 16 + dtFrac s.tim.ts)),
         (TIM_NOW2, BitVec.ofNat 32 (dtSec s.tim.ts / 2 ^ 16)), (TIM_TSLO, BitVec.ofNat 32 s.tim.ts),
         (TIM_TSHI, BitVec.ofNat 32 (s.tim.ts / 2 ^ 32))]
    ∧ answers (.rtcTimeRead src part) BKP_TIME (s.get BKP_TIME &&& readMask BKP_TIME) [(BKP_DATE, s.get BKP_DATE)]
    ∧ ∀ (c : Fin 16) (k : Fin 48) (n : Nat), (s.core c.val).wait = false → (s.core c.val).halted = false →
        answers (.pmuCounterRead src part c k n) (0x201100 + 0x10000 * c.val + 8 * k.val)
          (BitVec.ofNat 32 (tabGet 0 (s.core c.val).pmu.cnt k.val).toNat)
          [(0x201104 + 0x10000 * c.val + 8 * k.val, BitVec.ofNat 32 ((tabGet 0 (s.core c.val).pmu.cnt k.val).toNat / 2 ^ 32))]

/-- A DORMANT or SURVEY request begins the transition that the next commit point carries out (R68, R69, R72, spec/03_modes_and_startup.md). -/
def Obligations.ModeRequestBeginsTransition : Prop :=
  ∀ (s : State) (src : BusSrc), s.sys.job = none →
    (s.takes MGT_MODEREQ (s.setWord MGT_MODEREQ [(MGT_MODEREQ_REQ, modeDormant)]) → s.beating = true →
      ∃ t, exec (.dormantRequest src) s = .next t ∧ t.sys.trans = .dormant 0 ∧ t.get MGT_MODE = s.get MGT_MODE)
    ∧ (s.takes MGT_MODEREQ (s.setWord MGT_MODEREQ [(MGT_MODEREQ_REQ, modeSurvey)]) → s.serving = true →
      ∃ t, exec (.surveyRequest src) s = .next t ∧ t.sys.trans = .survey ∧ t.get MGT_MODE = s.get MGT_MODE)

/-- An ANNEAL request restarts the device while its timebase runs on (R68, R480, spec/03_modes_and_startup.md). -/
def Obligations.AnnealRequestRestarts : Prop :=
  ∀ (s : State) (src : BusSrc), s.beating = true →
    s.takes MGT_MODEREQ (s.setWord MGT_MODEREQ [(MGT_MODEREQ_REQ, modeAnneal)]) →
    ∃ t, exec (.annealRequest src) s = .next t
      ∧ t.mode = modeAnneal ∧ t.fld MGT_MODE_CAUSE = causeHost ∧ t.fld MGT_WAKESRC_SRC = 0
      ∧ t.sys.phase = .assay1 ∧ t.sys.wake = false ∧ t.sys.cast = [] ∧ t.tim.run = s.tim.run
      ∧ t.lanes = [] ∧ t.cores = [] ∧ t.sch = Sch.reset ∧ t.cru.queue = []
      ∧ ∀ a, startMask false a = 0 → a ≠ MGT_MODE → a ≠ MGT_WAKESRC → t.get a = coldReg a

/-- The enabled wake source of lowest code ends DORMANT; an ANNEAL request does so whatever is enabled (R68, R72, R454, spec/03_modes_and_startup.md). -/
def Obligations.WakeSourceEndsDormant : Prop :=
  ∀ s : State,
    let wakes (c : Instr) (code : Nat) : Prop :=
      ∃ t, exec c s = .next t ∧ t.mode = modeAnneal ∧ t.fld MGT_MODE_CAUSE = (if code = 6 then causeHost else causeWake)
        ∧ t.fld MGT_WAKESRC_SRC = code ∧ t.sys.phase = .assay1 ∧ t.sys.wake = true
        ∧ ∀ a, startMask false a = 0 → a ≠ MGT_MODE → a ≠ MGT_WAKESRC → t.get a = coldReg a
    (s.mode = modeDormant → s.sys.trans = .none →
      (∀ (fired : BitVec 4) (w : Nat) (r : List Nat),
        (((List.range 4).filter fired.getLsbD).map (· + 1)).filter (fun w => s.isSet (wakeEnable w)) = w :: r →
        wakes (.wakeSource fired) w)
      ∧ (s.isSet MGT_WAKECFG_TIMER = true → wakes .wakeTimerExpiry 5)
      ∧ (∀ src, s.takes MGT_MODEREQ (s.setWord MGT_MODEREQ [(MGT_MODEREQ_REQ, modeAnneal)]) → wakes (.annealRequest src) 6))
    ∧ (∀ fired : BitVec 4, (∀ k : Fin 4, fired.getLsbD k.val = true → s.isSet (wakeEnable (k.val + 1)) = false) →
        exec (.wakeSource fired) s = .next s)
    ∧ (∀ (n w : Nat) (fired : BitVec 4) (r : List Nat), s.sys.trans = .dormant n →
        (((List.range 4).filter fired.getLsbD).map (· + 1)).filter (fun w => s.isSet (wakeEnable w)) = w :: r →
        exec (.wakeSource fired) s = .next { s with sys := { s.sys with heldWake := insertNat w s.sys.heldWake } })

/-- The last step of the entry to DORMANT powers the stations down (R66, R72, R87, spec/03_modes_and_startup.md). -/
def Obligations.DormantPowersStationsDown : Prop :=
  ∀ s : State, s.sys.trans = .dormant 2 → s.allWritten = true → s.sys.heldWake = [] →
    ∃ t, exec .dormantPowerDown s = .next t
      ∧ t.mode = modeDormant ∧ t.sys.trans = .none ∧ t.fld TIM_BEATPOS_VALID = 0
      ∧ t.lanes = [] ∧ t.cores = [] ∧ t.sch = Sch.reset ∧ t.plk = Plk.reset
      ∧ t.pins.paen = [false, false, false, false] ∧ t.pins.lnaen = [false, false, false, false]

/-- SURVEY-TIMEOUT is raised once in a stay in SURVEY, and not where SURVEYMAX is 0 (R71). -/
def Obligations.SurveyTimeoutOnce : Prop :=
  ∀ s : State, s.mode = modeSurvey →
    (s.fld MGT_ASSAYCTL_SURVEYMAX ≠ 0 → s.sys.surveyLate = false →
      ∃ t, exec .surveyTimeout s = .next t ∧ t = { s with sys := { s.sys with surveyLate := true } }.raise 12
        ∧ t.mode = modeSurvey ∧ exec .surveyTimeout t = .next t)
    ∧ (s.fld MGT_ASSAYCTL_SURVEYMAX = 0 ∨ s.sys.surveyLate = true → exec .surveyTimeout s = .next s)

/-- PORST_N, the main rails and the fabric synthesiser (R68, R447, R452, R480, spec/03_modes_and_startup.md, spec/18_clocks_power_backup.md). -/
def Obligations.ResetAndPower : Prop :=
  ∀ s : State,
    let cold (t : State) : Prop :=
      t.mode = modeAnneal ∧ t.sys.phase = .assay1 ∧ t.sys.cast = [] ∧ t.tim.run = false ∧ t.cru.queue = []
        ∧ t.cru.ingots = s.cru.ingots ∧ ∀ a, startMask true a = 0 → a ≠ MGT_MODE → t.get a = coldReg a
    (s.sys.power = .on → ∃ t, exec .porstAssert s = .next t ∧ t.sys.power = .inReset ∧ cold t)
    ∧ (s.sys.power ≠ .backup → ∃ t, exec .mainRailFail s = .next t ∧ t.sys.power = .backup ∧ cold t
        ∧ t.bkp.xfer = none ∧ t.fld BKP_STAT_BUSY = 0 ∧ t.fld BKP_STAT_ONVBAT = 1)
    ∧ (s.sys.power ≠ .on → ∀ b, ∃ t, exec (.porstRelease b) s = .next t ∧ t.sys.power = .on ∧ cold t
        ∧ t.sys.castSrc = b ∧ t.fld MGT_MODE_CAUSE = (if s.sys.power = .backup then causePower else causePorst)
        ∧ t.fld BKP_STAT_ONVBAT = (if s.sys.power = .backup then 1 else 0))
    ∧ (s.sys.power = .on → s.tim.run = false → ∃ t, exec .fabricSynthLock s = .next t ∧ t.tim.run = true ∧ t.tim.ts = 0)

/-- Assay, the index scan and calibration carry a start on (R73, R76, R77, R402, R412, spec/03_modes_and_startup.md). -/
def Obligations.StartStages : Prop :=
  ∀ s : State, s.sys.power = .on →
    (s.sys.phase = .assay1 →
      (∃ t, exec (.assayStage1Done 0) s = .next t ∧ t.sys.phase = .scan)
      ∧ ∀ fail : BitVec 5, fail ≠ 0 → ∃ t, exec (.assayStage1Done fail) s = .next t ∧ t.sys.phase = .assay1Failed
          ∧ t.fld ⟨MGT_ASSAY, 0, 5⟩ = fail.toNat ∧ t.fld (routeCount 8) = min (s.fld (routeCount 8) + 1) 0xFFFFFFFF)
    ∧ (s.sys.phase = .scan → ∀ bad, ((s.indexScan bad).ingot 1 0).bothBad = false →
        ∃ t, exec (.crucibleIndexScanDone bad) s = .next t ∧ t.sys.phase = .load)
    ∧ (s.sys.phase = .assay2 → ∀ (fail : Word) (banks : List (Fin 192)), ∃ t, exec (.assayStage2Done fail banks) s = .next t
        ∧ t.sys.phase = .calibrate ∧ (∀ f, t.isCast f = true → s.isCast f = true)
        ∧ (∀ c : Fin 16, fail.getLsbD (16 + c) = true → t.isCast (0x20 + c) = false)
        ∧ (∀ b ∈ banks, 32 ≤ b.val → t.fenced b.val = true) ∧ (fail = 0 → banks = [] → t.sys.cast = s.sys.cast))
    ∧ (s.sys.phase = .calibrate → s.fld MGT_MODE_PENDING ≠ modeSurvey → s.isSet MGT_ASSAYCTL_AUTOSURVEY = false →
        ∀ cals irr, ∃ t, exec (.calibrationDone cals irr) s = .next t ∧ t.sys.phase = .ready ∧ t.fld MGT_MODE_WAIT = 1)
    ∧ (s.sys.phase = .ready → ∀ src, s.takes MGT_ASSAYCTL (s.setWord MGT_ASSAYCTL [(MGT_ASSAYCTL_RUN, 1)]) →
        ∃ t, exec (.assayRerun src) s = .next t ∧ t.sys.phase = .rerun true)

/-- The loader takes a load, stages its image, and gives it up (R52, R54, R55, R56, spec/02_casting.md). -/
def Obligations.LoaderStages : Prop :=
  ∀ (s : State) (src : BusSrc),
    (s.takes MGT_CASTCTL (s.setWord MGT_CASTCTL [(MGT_CASTCTL_LOAD, 1)]) → s.beating = true → s.sys.job = none →
      ∃ t j, exec (.castLoad src) s = .next t ∧ t.sys.job = some j ∧ j.freset = false
        ∧ (j.from_ = .hostPcie ∨ j.from_ = .hostSpi ∧ src = .spi)
        ∧ t.fld MGT_CASTSTAT_STATE = csStaging)
    ∧ (s.sys.phase = .load → s.sys.castSrc = true → s.sys.job = none →
      ∃ t, exec .castHostTimeout s = .next t ∧ t.sys.job = some ⟨false, .flashSafe, 0, [], none, 0, 0⟩
        ∧ t.fld MGT_CASTSTAT_STATE = csStaging)
    ∧ (∀ (j : LoadJob) (flash bs : List Byte), s.sys.job = some j → s.fld MGT_CASTSTAT_STATE = csStaging →
        (j.from_ = .flashMain ∨ j.from_ = .flashSafe) → (s.flashImage j.from_ flash).1 = some bs →
        (∀ c, readCasting (s.fld MGT_REVID_BASE) (s.fld MGT_CASTID_CASTID) bs = .ok c → c.partialC = s.beating →
          ∃ t, exec (.castStaged (some flash)) s = .next t ∧ t.sys.job = some { j with image := bs, cast := some c }
            ∧ t.fld MGT_CASTSTAT_STATE = csChecking)
        ∧ (∀ f, readCasting (s.fld MGT_REVID_BASE) (s.fld MGT_CASTID_CASTID) bs = .error f → f.1 < 256 → f.2 < 65536 →
          ∃ t, exec (.castStaged (some flash)) s = .next t ∧ t.fld MGT_CASTERR_CAUSE = f.1 ∧ t.fld MGT_CASTERR_RECIDX = f.2)
        ∧ ∃ t, exec (.castStaged none) s = .next t ∧ t.fld MGT_CASTERR_CAUSE = ceSource)
    ∧ (∀ j : LoadJob, s.takes MGT_CASTCTL (s.setWord MGT_CASTCTL [(MGT_CASTCTL_CANCEL, 1)]) → s.beating = true →
        s.sys.job = some j → (j.from_ = .hostPcie ∨ j.from_ = .hostSpi) → s.fld MGT_CASTSTAT_STATE < csQuiesce →
        s.sys.flr = false → s.sys.heldReq = none →
        ∃ t, exec (.castCancel src) s = .next t ∧ t.sys.job = none ∧ t.fld MGT_CASTSTAT_STATE = csIdle)

/-- A partial casting and a function reset quiesce their target, and the reset ends with FUNC-RESET (R50, R51, R55, R60, R63, spec/02_casting.md). -/
def Obligations.FunctionSequence : Prop :=
  ∀ (s : State) (src : BusSrc),
    (∀ (j : LoadJob) (c : Casting), s.sys.job = some j → j.cast = some c → s.fld MGT_CASTSTAT_STATE = csChecking →
      c.partialC = true → isCore c.target = true → s.beating = true → s.sys.flr = false → s.sys.heldReq = none →
      ∃ t, exec .castChecked s = .next t ∧
        (match s.checkFail j c with
         | none => t.sys.job = some { j with target := c.target, since := s.tim.ts, beat := s.beat } ∧ t.isHeld c.target = true
             ∧ t.fld MGT_CASTSTAT_STATE = csQuiesce ∧ t.fld MGT_CASTSTAT_PTARGET = c.target
         | some f => t.sys.job = none ∧ t.fld MGT_CASTSTAT_STATE = csFailed ∧ t.fld MGT_CASTERR_CAUSE = f.1 % 256))
    ∧ (∀ id : Byte, isCore id.toNat = true → s.sys.job = none →
        s.takes MGT_FRESET (s.setWord MGT_FRESET [(MGT_FRESET_ID, id.toNat)]) →
        ∃ t, exec (.functionReset src id) s = .next t
          ∧ t.sys.job = some ⟨true, .none, id.toNat, [], none, s.tim.ts, s.beat⟩ ∧ t.isHeld id.toNat = true
          ∧ t.fld MGT_CASTSTAT_STATE = csQuiesce ∧ t.fld MGT_CASTSTAT_PTARGET = id.toNat)
    ∧ (∀ (c : Fin 16) (n : Nat), (s.core c).owed = true → s.sys.job = none → s.sys.trans = .dormant n →
        ∃ t, exec (.quiesceForced c) s = .next t ∧ (t.core c).owed = false ∧ (t.core c).levels = [] ∧ (t.core c).wait = true
          ∧ t.fld (routeCount 7) = min (s.fld (routeCount 7) + 1) 0xFFFFFFFF)
    ∧ (∀ n b : Nat, s.sys.job = some ⟨true, .none, 3, [], none, n, b⟩ → s.fld MGT_CASTSTAT_STATE = csQuiesce → s.sys.flr = false →
        s.sys.heldReq = none → s.cru.ingots = [] → s.sys.recs = [] → s.sch.isOpen = false →
        ∃ t, exec .quiesceComplete s = .next t ∧ t.sys.job = none ∧ (s.sys.held.count 3 ≤ 1 → t.isHeld 3 = false)
          ∧ (∀ f, f ≠ 3 → t.isHeld f = s.isHeld f)
          ∧ t.fld MGT_CASTSTAT_STATE = csDone ∧ t.tim.tic.fifo = []
          ∧ t.fld (routeCount 6) = min (s.fld (routeCount 6) + 1) 0xFFFFFFFF)
    ∧ (s.takes MGT_CASTCTL (s.setWord MGT_CASTCTL [(MGT_CASTCTL_ARBADV, 1)]) →
        s.fld MGT_ARBCNT_COUNT < s.fld MGT_CASTVER_ARBVER → s.isSet MGT_PWRSTAT_BOWARN = false →
        ∃ t, exec (.arbAdvance src) s = .next t ∧ t.cru.queue.head? = some ⟨1, 0, some [s.fld MGT_CASTVER_ARBVER], none⟩
          ∧ t.queueNames = (1, 0, none) :: s.queueNames)

/-- Commits, ingot writes, leases and checkpoints (R83, R85, R86, R411, R413, R414, R415, R235, R409, spec/16_memory_banks_and_crucible.md). -/
def Obligations.CrucibleWrites : Prop :=
  ∀ s : State, s.isSet MGT_PWRSTAT_BOWARN = false →
    (∀ src, s.takes MGT_COMMIT (s.setWord MGT_COMMIT [(MGT_COMMIT_REQ, 1)]) → s.isSet MGT_COMMIT_BUSY = false →
      s.cru.queue.length + s.sys.dirty.length ≤ 512 →
      ∃ t, exec (.commitRequest src) s = .next t ∧ t.fld MGT_COMMIT_BUSY = 1 ∧ t.fld MGT_COMMIT_LASTTRIG = 1
        ∧ ∀ a ∈ s.sys.dirty, 4 * (a / 4) ≠ MGT_COMMIT →
            (⟨3, a / 4, some [(s.get (4 * (a / 4))).toNat], none⟩ : QIngot) ∈ t.cru.queue)
    ∧ (s.passEnded = true → s.sys.merged = false →
        exec .commitPassDone s = .next ((s.setFld MGT_COMMIT_BUSY 0).raise 9))
    ∧ (∀ (q : QIngot) (r : List QIngot) (d : List Nat) (a b : Copy) (maxw : Word) (spare : Byte), s.cru.queue = q :: r →
        q.data = some d →
        (s.ingot q.cls q.idx).a = some a → (s.ingot q.cls q.idx).b = some b → a.seq < 2 ^ 32 → b.seq < 2 ^ 32 →
        (∃ t, exec (.ingotWriteDone true maxw spare) s = .next t ∧ t.queueNames = r.map QIngot.name
          ∧ ((t.ingot q.cls q.idx).serving.map (·.data)) = some (s.writtenData q)
          ∧ t.fld MGT_CRU_WEAR_MAXW = maxw.toNat % 2 ^ MGT_CRU_WEAR_MAXW.len)
        ∧ ∃ t, exec (.ingotWriteDone false maxw spare) s = .next t ∧ t.cru.queue = s.cru.queue ∧ t.cru.ingots = s.cru.ingots)
    ∧ (∀ (k : LeaseKey) (l : Nat) (r : List (LeaseKey × Nat)), s.cru.written = (k, l) :: r →
        ∃ t, exec .leaseCommitted s = .next t ∧ t.cru.written = r ∧ t.leaseBase k = max (s.leaseBase k) l)
    ∧ (∀ (i : Nat) (r : List Nat), s.cru.changed = i :: r →
        ∃ t, exec .nodeCheckpoint s = .next t ∧ t.queueNames = s.queueNames ++ [(8, i, none)]
          ∧ (s.cru.queue.length < 512 → i ∉ t.cru.changed))
    ∧ ∃ (t : State) (l : List Nat), exec .ledgerCheckpoint s = .next t ∧ t.queueNames = s.queueNames ++ l.map (fun i => (7, i, none))
        ∧ ∀ i, i ∈ l ↔ 1 ≤ i ∧ i ≤ 51 ∧ s.ingotDiffers 7 i = true

/-- At an edge the count rises by one, or takes its place in the superframe, before the stations act; without beats nothing happens (R13, R17, R19, R21, spec/01_beat_and_stations.md). -/
def Obligations.BeatEdgeCounts : Prop :=
  ∀ s : State,
    (s.beating = false → (∀ late, exec (.beatEdge late) s = .next s) ∧ exec .commitPoint s = .next s)
    ∧ (s.beating = true →
      (∀ late : Bool, ∃ (u t : State) (c : Bool),
        c = (s.mode == modeSurvey && s.isSet TIM_STAT_TVALID && (s.sys.trans == .none || s.sys.trans == .survey))
        ∧ u.tim.last = s.tim.edge ∧ u.tim.edge = s.tim.edge + s.beatTicks ∧ u.tim.ts = max s.tim.ts s.tim.edge
        ∧ u.beat = (if c then
            (s.beatsPerSec * s.sfSecond s.tim.edge + s.sfBeat s.tim.edge) % 2 ^ 32 else (s.beat + 1) % 2 ^ 32)
        ∧ (c = true → u.fld TIM_BEATPOS_VALID = 1)
        ∧ (∀ a, a ≠ TIM_BEATCNT → a ≠ TIM_BEATPOS → u.get a = s.get a)
        ∧ t = (let v := (u.shadowReread (some s.beat)).ticSource 5 (tickPs s.tim.edge)
               let w := v.stationsEdge (v.sfBeat v.tim.last == 0) c late
               (if c then w.openPlan else w.plan).dormantStep)
        ∧ exec (.beatEdge late) s = .next t)
      ∧ (s.sys.trans = .none → s.sch.owed = false → ∃ u : State, u = { s with tim := { s.tim with ts := max s.tim.ts (s.tim.edge - 73728) } }
        ∧ exec .commitPoint s = .next u.commitBeat))

/-- Time pulses: arming freezes the delay, emission advances by it, and a disagreement suppresses the output (R182, R183, R184, R185, R186, R87, spec/06_timebase_and_pulses.md). -/
def Obligations.TimePulses : Prop :=
  ∀ (s : State) (n : Fin 2),
    let faulted (t : State) (cause : Nat) : Prop :=
      t.fld (TIM_TPSTAT_FAULT n) = 1 ∧ t.fld (TIM_TPSTAT_CAUSE n) = cause ∧ (t.tp n).armed = none ∧ (t.tp n).level = false
        ∧ t.fld (routeCount (34 + n)) = min (s.fld (routeCount (34 + n)) + 1) 0xFFFFFFFF
    (∀ T : BitVec 64, s.tpRuns n = true → (s.tp n).armed = none → s.tpNominal n T.toNat = true → (s.tp n).next ≤ T.toNat →
      (∀ e, (s.tp n).lastOut = some e → e < (T.toNat : Int) * 15625 - (s.tp n).dlya.toInt * 192) →
      exec (.tpArm n T) s = .next (s.setTp n { s.tp n with next := T.toNat + 1, armed := some (T.toNat, (s.tp n).dlya) }))
    ∧ (∀ (T : Nat) (d : Word), (s.tp n).armed = some (T, d) →
        (s.serving = true → s.isCast (1 + n) = true →
          let g : Tp := { s.tp n with armed := none, lastOut := some ((T : Int) * 15625 - d.toInt * 192), level := true }
          ∃ t, exec (.tpEmit n true) s = .next t ∧ t.tp n = g
            ∧ (s.fld TIM_TICCFG_STARTSRC ≠ 3 + n → s.fld TIM_TICCFG_STOPSRC ≠ 3 + n → t = s.setTp n g))
        ∧ ∃ t, exec (.tpEmit n false) s = .next t ∧ faulted t 2)
    ∧ exec (.tpPulseEnd n) s = .next (s.setTp n { s.tp n with level := false })
    ∧ (∀ (src : BusSrc) (v : Word), s.takes (TIM_TPDLYA n) v → ∃ t, exec (.tpDlyaWrite src n v) s = .next t
        ∧ t.get (TIM_TPDLYA n) = v ∧ (∀ a, a ≠ TIM_TPDLYA n → t.get a = s.get a) ∧ t.tim = s.tim)
    ∧ (∀ (src : BusSrc) (v : Word), s.takes (TIM_TPDLYB n) v → ∃ t, exec (.tpDlybCommit src n v) s = .next t
        ∧ t.get (TIM_TPDLYB n) = v ∧ (t.tp n).dlya = s.get (TIM_TPDLYA n) ∧ (t.tp n).dlyb = v
        ∧ (v = ~~~(s.get (TIM_TPDLYA n)) → t.fld (TIM_TPSTAT_FAULT n) = 0 ∧ t.fld (TIM_TPSTAT_CAUSE n) = 0)
        ∧ (v ≠ ~~~(s.get (TIM_TPDLYA n)) → t.fld (TIM_TPSTAT_FAULT n) = 1 ∧ t.fld (TIM_TPSTAT_CAUSE n) = 3
            ∧ (t.tp n).armed = (s.tp n).armed ∧ (t.tp n).level = (s.tp n).level
            ∧ t.fld (routeCount (34 + n)) = min (s.fld (routeCount (34 + n)) + 1) 0xFFFFFFFF))
    ∧ ∃ t, exec (.tpCopyDisagree n) s = .next t ∧ faulted t 1

/-- The time-interval counter measures from the first start edge to the first stop edge (R187). -/
def Obligations.IntervalCounter : Prop :=
  ∀ (s : State) (src : BusSrc),
    (∀ (input : Fin 2) (ps : Nat), s.fld TIM_TICCFG_STARTSRC ≠ input → s.fld TIM_TICCFG_STOPSRC ≠ input →
      exec (.ticEdge input ps) s = .next s)
    ∧ (∀ (input : Fin 2) (stop : Bool) (ps : Nat), s.live 3 = true → s.isSet TIM_TICSTAT_ARMED = true →
      (s.fld TIM_TICCFG_STARTSRC = input ↔ stop = false) → (s.fld TIM_TICCFG_STOPSRC = input ↔ stop = true) →
      (∀ q, (if stop then s.tim.tic.lastB else s.tim.tic.lastA) = some q → q + 100000 ≤ ps / 50 * 50) →
      (s.tim.tic.half = none → ∃ t, exec (.ticEdge input ps) s = .next t ∧ t.tim.tic.half = some (stop, ps / 50 * 50)
        ∧ t.fld TIM_TICSTAT_HALF = 1 ∧ t.tim.tic.fifo = s.tim.tic.fifo)
      ∧ ∀ p : Nat, s.tim.tic.half = some (!stop, p) → s.tim.tic.fifo.length < 16 →
          let d : Int := if stop then (ps / 50 * 50 : Nat) - (p : Int) else (p : Int) - (ps / 50 * 50 : Nat)
          ∃ t r, exec (.ticEdge input ps) s = .next t ∧ t.tim.tic.half = none ∧ t.tim.tic.fifo = s.tim.tic.fifo ++ [r]
            ∧ r.iv = (if d.natAbs < 50 then 0 else d) ∧ r.unresolved = decide (d.natAbs < 50)
            ∧ r.order = decide (d ≤ -50) ∧ r.timeout = false
            ∧ (s.isSet TIM_TICCFG_CONT = false → t.fld TIM_TICSTAT_ARMED = 0)
            ∧ (s.isSet TIM_TICCFG_CONT = true → t.isSet TIM_TICSTAT_ARMED = true))
    ∧ (∀ (k : Bool) (p : Nat), s.tim.tic.half = some (k, p) → s.tim.tic.fifo.length < 16 →
        ∃ t r, exec .ticTimeout s = .next t ∧ t.tim.tic.half = none ∧ t.tim.tic.fifo = s.tim.tic.fifo ++ [r]
          ∧ r.timeout = true ∧ r.which = k ∧ r.ts = psTicks p)
    ∧ (s.takes TIM_TICCTL (s.setWord TIM_TICCTL [(TIM_TICCTL_ARM, 1)]) →
        ∃ t, exec (.ticArm src) s = .next t ∧ t.fld TIM_TICSTAT_ARMED = 1 ∧ t.tim = s.tim)
    ∧ (s.takes TIM_TICCTL (s.setWord TIM_TICCTL [(TIM_TICCTL_DISARM, 1)]) →
        ∃ t, exec (.ticDisarm src) s = .next t ∧ t.fld TIM_TICSTAT_ARMED = 0 ∧ t.fld TIM_TICSTAT_HALF = 0
          ∧ t.tim = { s.tim with tic := { s.tim.tic with half := none } })
    ∧ (s.takes TIM_TICCTL (s.setWord TIM_TICCTL [(TIM_TICCTL_POP, 1)]) →
        ∃ t, exec (.ticPop src) s = .next t ∧ t.tim = { s.tim with tic := { s.tim.tic with fifo := s.tim.tic.fifo.drop 1 } })

/-- Frequency references: absence, return, switch, the monitor's second and the model's marks (R168, R169, R170, R171, R178, spec/06_timebase_and_pulses.md). -/
def Obligations.FrequencyReferences : Prop :=
  ∀ s : State,
    (∀ r : Fin 3,
      (s.frefPresent r = true → ∃ t, exec (.refAbsent r) s = .next t ∧ t.frefState r = stAbsent ∧ (t.fref r).learned = 0)
      ∧ (s.frefPresent r = false → ∃ t, exec (.refEdgesReturn r) s = .next t ∧ t.frefState r = stQualifying
          ∧ (t.fref r).qual = 0))
    ∧ (∀ r : Nat, s.tim.switchTo = some r → r < 3 →
        ∃ t, exec .frefSwitchDone s = .next t ∧ t.selFref = r ∧ t.tim.heldUpd = [])
    ∧ (∀ xo refa refb : RefMeas, s.trefHealthy 1 = true →
        ∃ t, exec (.refMonitorSecond xo refa refb) s = .next t ∧ t.fld TIM_STAT_MONBLIND = 0 ∧ ∀ r : Fin 3,
          let m := if r.val = 0 then xo else if r.val = 1 then refa else refb
          (s.frefPresent r = true → t.fldInt (TIM_REFY_Y r) = satSigned 32 m.y ∧ (m.rate = true → t.frefState r = stFault))
          ∧ (s.frefPresent r = false → t.fld (TIM_REFY_Y r) = 0x80000000))
    ∧ (s.mode = modeService → s.isSet TIM_STAT_TVALID = true →
        ((s.fref s.selFref).learned < 3600 → ∃ t, exec .modelStateChange s = .next t ∧ (t.fref s.selFref).learned = 3600
          ∧ t.fld (routeCount 28) = min (s.fld (routeCount 28) + 1) 0xFFFFFFFF)
        ∧ (3600 ≤ (s.fref s.selFref).learned → (s.fref s.selFref).learned < 86400 →
          ∃ t, exec .modelStateChange s = .next t ∧ (t.fref s.selFref).learned = 86400
          ∧ t.fld (routeCount 29) = min (s.fld (routeCount 29) + 1) 0xFFFFFFFF))

/-- Time references become healthy and are lost (R173, R175, R177, R320, spec/06_timebase_and_pulses.md, spec/12_peer_link_and_roaming.md). -/
def Obligations.TimeReferences : Prop :=
  ∀ s : State,
    (∀ ps p : Nat, s.serving = true → s.sys.trans = .none → s.trefHealthy 3 = false → s.tim.secKnown = true →
      s.tim.ppsLast = some p → 2 ≤ s.tim.ppsGood →
      ((ps / 50 * 50 : Nat) - (p : Int) - 1000000000000).natAbs ≤ s.fld TIM_PPSCFG_PPSWIN * 50000 →
      ∃ t, exec (.ppsInEdge ps) s = .next t ∧ t.trefHealthy 3 = true ∧ t.tim.ppsLast = some (ps / 50 * 50))
    ∧ (∃ t, exec .ppsTimeout s = .next t ∧ t.trefHealthy 3 = false ∧ t.tim.ppsLast = none)
    ∧ (s.napping = false → s.gnss.napAwait = false → ∃ t, exec .gnssHealthExpiry s = .next t ∧ t.trefHealthy 1 = false)
    ∧ (∀ (p : Fin 2) (x : Int) (f : Option Int), s.live (0x11 + p) = true → s.isSet (PLK_PSTAT_LINK p) = true →
        2 ≤ s.fld (PLK_PCFG_PTPROLE p) → x.natAbs ≤ 1000000 → 3 ≤ (s.ptpPort p).good →
        ∃ t, exec (.ptpMessage p 4 (some x) f) s = .next t ∧ t.fld (PLK_PSTAT_LOCKED p) = 1
          ∧ t.fld (PLK_PSTAT_PTPSTATE p) = 4 ∧ t.fldInt (PLK_POFS_OFS p) = x)
    ∧ (∀ p : Fin 2, ∃ t, exec (.ptpOffsetTimeout p) s = .next t ∧ t.fld (PLK_PSTAT_LOCKED p) = 0)
    ∧ ((s.fldInt TIM_OFS_X).natAbs ≤ 100000 → ∃ t, exec .degradedClear s = .next t ∧ t.tim.degJump = false
        ∧ t.isSet TIM_STAT_DEGRADED = (s.tim.degFault || s.mode == modeHoldover))

/-- The device second takes a label, and leap seconds are announced and pass (R162, R164, R165, R453, spec/06_timebase_and_pulses.md). -/
def Obligations.SecondsAndLeaps : Prop :=
  ∀ (s : State) (src : BusSrc),
    (∀ v : Word, s.takes TIM_SETSEC v → ∃ t, exec (.setSecond src v) s = .next t
      ∧ t.tim.ts = v.toNat * 491520000 + s.tim.ts % 491520000 ∧ t.second = v.toNat ∧ t.tim.secKnown = true)
    ∧ (∀ (e : Fin 256) (w : Fin 4) (v : Word), s.takes (leapAddr e w) v →
        ∃ t, exec (.leapTableWrite src e w v) s = .next t
          ∧ t.get (leapAddr e w) = (s.get (leapAddr e w) &&& ~~~(tableMask (leapAddr e w))) ||| (v &&& tableMask (leapAddr e w))
          ∧ t.fld TIM_LEAP_PENDING = (if t.leapSoon.isSome then 1 else 0)
          ∧ ∀ a, a ≠ leapAddr e w → a ≠ TIM_LEAP → a ≠ BKP_CTL →
              a < 0x100000 ∨ (0x102000 ≤ a ∧ a < 0x200000) ∨ 0x460000 ≤ a → t.get a = s.get a)
    ∧ (∀ e : Nat, s.leapNext = some e → s.isSet TIM_LEAP_PENDING = false → ∃ t, exec .leapPending s = .next t
        ∧ t.fld TIM_LEAP_PENDING = 1 ∧ t.isSet TIM_LEAP_NEG = (decide (0 < e) && decide (s.leapDat e < s.leapDat (e - 1)))
        ∧ t.fld BKP_CTL_LEAPARM = 1 ∧ t.fld (routeCount 32) = min (s.fld (routeCount 32) + 1) 0xFFFFFFFF)
    ∧ (∀ e : Nat, s.leapSoon = some e → s.isSet TIM_LEAP_PENDING = true → ∃ t, exec .leapDone s = .next t
        ∧ t.fld TIM_LEAP_PENDING = 0 ∧ t.tim.ts = max s.tim.ts (s.leapSec e * 491520000)
        ∧ t.fld (routeCount 33) = min (s.fld (routeCount 33) + 1) 0xFFFFFFFF)

/-- The GNSS chains report their gain limit, blanking, notches, synthesiser and overload (R102, R103, R104, R105, R126, spec/04_gnss_capture_and_correlation.md). -/
def Obligations.GnssChains : Prop :=
  ∀ (s : State) (b : Fin 2),
    let counted (t : State) (id : Nat) : Prop := t.fld (routeCount id) = min (s.fld (routeCount id) + 1) 0xFFFFFFFF
    (∀ high left : Bool, s.gnss.atEnd.getD b none ≠ some high ∨ (left = true ∧ s.fld (GNF_CTL_AGCMODE b) = 0) →
      (s.fld (GNF_CTL_AGCMODE b) = 0 → ∃ t, exec (.agcLimit b high left) s = .next t
        ∧ t.fld (GNF_AGC_GAIN b) = (if high then 120 else 0) ∧ t.gnss.atEnd = s.gnss.atEnd.set b (some high) ∧ counted t (42 + b))
      ∧ (s.setGain b = some (if high then 120 else 0) → ∃ t, exec (.agcLimit b high left) s = .next t
        ∧ t.gnss.atEnd = s.gnss.atEnd.set b (some high) ∧ t.fld (GNF_AGC_GAIN b) = s.fld (GNF_AGC_GAIN b) ∧ counted t (42 + b)))
    ∧ (∀ frac : BitVec 16, s.isSet (GNF_CTL_BLANKEN b) = true →
        ∃ t, exec (.blankFractionHigh b frac) s = .next t ∧ t.fld (GNF_STAT_BLANKFRAC b) = frac.toNat
          ∧ (4096 < frac.toNat → s.mayRaise (44 + b) = true → counted t (44 + b)))
    ∧ (∀ (k : Fin 4) (lock : Bool) (freq : BitVec 12) (depth : Byte), s.fld (GNF_NOTCH_MODE b k) = 1 →
        s.isSet (GNF_CTL_NOTCHEN b) = true → s.isSet (GNF_NOTCH_LOCKED b k) = true ∨ (lock = true ∧ s.notchNear b k freq = false) →
        ∃ t, exec (.notchChange b k lock freq depth) s = .next t ∧ t.isSet (GNF_NOTCH_LOCKED b k) = lock
          ∧ t.fld (GNF_NOTCH_FREQ b k) = freq.toNat ∧ t.fld (GNF_NOTCH_DEPTH b k) = depth.toNat
          ∧ (s.isSet (GNF_NOTCH_LOCKED b k) = (!lock) → counted t 46)
          ∧ (s.isSet (GNF_NOTCH_LOCKED b k) = lock → t.out = s.out ∧ t.hst = s.hst ∧ t.fld (routeCount 46) = s.fld (routeCount 46)))
    ∧ (s.isSet (GNF_STAT_LOLOCK b) = true → ∃ t, exec (.loUnlock b) s = .next t ∧ t.fld (GNF_STAT_LOLOCK b) = 0
        ∧ t.gnss.noSamp.getD b true = true ∧ counted t (40 + b))
    ∧ (∃ t, exec (.loLock b) s = .next t ∧ t.fld (GNF_STAT_LOLOCK b) = 1)
    ∧ (s.isSet (GNF_STAT_OVERLOAD b) = false → ∃ t, exec (.inputOverload b) s = .next t
        ∧ t.fld (GNF_STAT_OVERLOAD b) = 1 ∧ counted t 47 ∧ exec (.inputOverload b) t = .next t)

/-- Slices: dumps, batches, predictions and settings (R109, R110, R111, R112, R127, R133, R134, spec/04_gnss_capture_and_correlation.md, spec/05_gnss_tracking_and_measurements.md). -/
def Obligations.SlicesAndPredictions : Prop :=
  ∀ (s : State) (i : Fin 192),
    (∀ d : DumpIn, (s.beating = true → d.epoch.toNat < s.tim.edge) → s.live 7 = true → s.live 8 = true → s.sliceOn i = true →
      i.val < s.fld GNC_PLAN_NSLICES → (s.slice i).pendC = [] → (s.slice i).pendT = [] → (s.slice i).pendR = [] →
      (s.gnss.openB.dumps.filter (fun e => e.slice == i.val)).length < s.maxDumps →
      s.gnss.noSamp.getD (bandOf (cfgSignal (s.slice i).cfg)) true = false →
      ∃ t e, exec (.dumpLatch i d) s = .next t ∧ t.gnss.openB.dumps = s.gnss.openB.dumps ++ [e]
        ∧ e.slice = i.val ∧ e.words = (s.codeEpoch i d.epoch.toNat).dumpWords i d ∧ e.words.length = 16
        ∧ t.get (SL_DUMP i 0) = BitVec.ofNat 32 (s.slice i).seq ∧ t.get (SL_DUMP i 2) = BitVec.ofNat 32 d.epoch.toNat
        ∧ t.get (SL_DUMP i 3) = BitVec.ofNat 32 (d.epoch.toNat / 2 ^ 32)
        ∧ (t.slice i).seq = ((s.slice i).seq + 1) % 2 ^ 32)
    ∧ (∀ d : DumpIn, s.beating = true → s.tim.edge ≤ d.epoch.toNat →
        exec (.dumpLatch i d) s = .next { s with gnss := { s.gnss with early := s.gnss.early ++ [(i.val, d)] } })
    ∧ (∀ b r, s.live 8 = true → s.gnss.closed = b :: r → ∃ t, exec .gntBatchProcess s = .next t ∧ t.gnss.closed = r)
    ∧ (∀ (src : BusSrc) (k : Fin 4) (v : Word), s.takes (0x44000 + 64 * i.val + 16 * k.val + 12) v → s.sliceOn i = true →
        s.isSet (SL_LOOPCFG_VECTOR i) = true →
        (s.fld (PRED_STEP_GEN i k) = s.fld (SL_TRK_GEN i) → 0 ≤ beatDiff v.toNat s.nextCutoff →
          beatDiff v.toNat s.nextCutoff ≤ 3 →
          ∃ t, exec (.predArm src i k v) s = .next t ∧ (t.slice i).armed = (s.slice i).armed.set k
            (some ⟨v.toNat, s.get (PRED_CARFREQ i k), s.get (PRED_CODEFREQ i k), s.get (PRED_STEP i k)⟩))
        ∧ (s.fld (PRED_STEP_GEN i k) ≠ s.fld (SL_TRK_GEN i) →
          ∃ t, exec (.predArm src i k v) s = .next t ∧ (t.slice i).armed = (s.slice i).armed
            ∧ t.fld GNT_SQCNT_STALE = min (s.fld GNT_SQCNT_STALE + 1) (2 ^ GNT_SQCNT_STALE.len - 1)))
    ∧ (∀ (src : BusSrc) (w : Fin 64) (v : Word), s.takes (0x440000 + 256 * i.val + 4 * w.val) v →
        let a := 0x440000 + 256 * i.val + 4 * w.val
        (3 ≤ w.val → w.val ≠ 0x20 → ∃ t, exec (.sliceStateWrite src i w v) s = .next t
          ∧ (∀ r, regAt a = some r → ∀ f ∈ r.flds, f.ty = .RW → getFld (t.get a) ⟨a, f.lo, f.len⟩ = getFld v ⟨a, f.lo, f.len⟩)
          ∧ (∀ b, b ≠ a → t.get b = s.get b) ∧ t.gnss = s.gnss)
        ∧ (w.val = 0 → s.sliceOn i = true → ∃ t, exec (.sliceStateWrite src i w v) s = .next t
          ∧ (t.slice i).pendC = pendPush (s.slice i).pendC (t.get a) (!s.beating) ∧ (t.slice i).cfg = (s.slice i).cfg))
    ∧ (s.beating = true → ∃ t, exec .applyCutoff s = .next t ∧ t.gnss.cut = true
        ∧ t.tim.ts = max s.tim.ts (s.tim.edge - 49152)
        ∧ (s.works 7 = true → s.works 8 = true → i.val < s.fld GNC_PLAN_NSLICES →
          (t.slice i).frozen = some (match (s.slice i).armedFor (beatAdd s.beat 1) with
            | some p => (true, p.car, p.cod, p.step)
            | none => (false, (s.slice i).scalCar, (s.slice i).scalCod, 0))))

/-- Acquisition requests are queued in order, searched, and end with one result each (R115, R116, R117, R118, R119, spec/04_gnss_capture_and_correlation.md). -/
def Obligations.AcquisitionEngine : Prop :=
  ∀ (s : State) (src : BusSrc),
    let takes (f : Fld) : Prop := s.takes GNC_ACQCTL (s.setWord GNC_ACQCTL [(f, 1)])
    let ended (t : State) (w : List (Bool × AcqRes)) (q : List AcqReq) : Prop := ∃ rs : List AcqRes,
      t.gnss.acqRes ++ t.gnss.acqWait.map (·.2) = s.gnss.acqRes ++ w.map (·.2) ++ rs
        ∧ rs.map (fun x : AcqRes => (x.tag, x.status)) = q.map (fun r => (r.tag, acqCancelled))
    (takes GNC_ACQCTL_PUSH →
      (s.acqQueued < 64 → s.gnss.acqPhase ≠ .idle → ∃ t, exec (.acqPush src) s = .next t
        ∧ t.gnss = { s.gnss with acqQ := s.gnss.acqQ ++ [⟨s.get GNC_ACQW0, s.get GNC_ACQW1, s.get GNC_ACQW2⟩] })
      ∧ (64 ≤ s.acqQueued → ∃ t, exec (.acqPush src) s = .next t ∧ t.gnss = s.gnss
        ∧ t.fld GNC_ACQSTAT_REFUSED = min (s.fld GNC_ACQSTAT_REFUSED + 1) (2 ^ GNC_ACQSTAT_REFUSED.len - 1)))
    ∧ (∀ r q, s.gnss.acqPhase = .filling → s.gnss.acqQ = r :: q → s.gnss.noSamp.getD r.band true = false →
        exec .acqBlocksComplete s = .next { s with gnss := { s.gnss with acqPhase := .searching } })
    ∧ (∀ (r : AcqReq) (pnr ratio : Byte) (codeph : BitVec 18) (dopp : BitVec 17), s.gnss.acqPhase = .searching →
        s.gnss.acqQ = [r] → s.gnss.acqWait = [] →
        ∃ t x, exec (.acqRequestDone pnr ratio codeph dopp) s = .next t ∧ x.tag = r.tag
          ∧ x.status = (if getFld r.w1 GNC_ACQW1_THRESH ≤ pnr.toNat then acqDetected else acqNotFound)
          ∧ x.pnr = pnr.toNat ∧ x.ratio = ratio.toNat ∧ x.codeph = codeph.toNat ∧ x.dopp = dopp.toNat
          ∧ (s.gnss.acqRes.length < 64 → t.gnss.acqRes = s.gnss.acqRes ++ [x] ∧ t.gnss.acqQ = [] ∧ t.gnss.acqPhase = .idle)
          ∧ (64 ≤ s.gnss.acqRes.length → t.gnss.acqRes = s.gnss.acqRes ∧ t.gnss.acqQ = [r] ∧ t.gnss.acqPhase = .stalled
            ∧ t.gnss.acqWait = [(true, x)]))
    ∧ (takes GNC_ACQCTL_POP → s.gnss.acqWait = [] → s.gnss.acqPhase ≠ .idle →
        ∃ t, exec (.acqPop src) s = .next t ∧ t.gnss = { s.gnss with acqRes := s.gnss.acqRes.drop 1 })
    ∧ (takes GNC_ACQCTL_FLUSH →
      (s.gnss.acqQ ≠ [] → ∃ t, exec (.acqFlush src) s = .next t ∧ t.gnss.acqQ = []
        ∧ ended t (s.gnss.acqWait.filter (fun p => !p.1)) s.gnss.acqQ)
      ∧ (s.gnss.acqQ = [] → s.gnss.acqWait = [] → ∃ t, exec (.acqFlush src) s = .next t ∧ t.gnss = s.gnss))
    ∧ (∀ r q, takes GNC_ACQCTL_CANCEL → s.gnss.acqQ = r :: q → r.tag ≠ s.fld GNC_ACQW1_TAG → s.gnss.acqPhase ≠ .idle →
        s.gnss.acqWait.any (·.1) = false → ∃ t, exec (.acqCancel src) s = .next t
          ∧ t.gnss.acqQ = s.gnss.acqQ.filter (fun r => !(r.tag == s.fld GNC_ACQW1_TAG))
          ∧ ended t s.gnss.acqWait (s.gnss.acqQ.filter (fun r => r.tag == s.fld GNC_ACQW1_TAG)))

/-- A snapshot starts in GNC's own banks, takes its samples from its instant on, and ends with its result (R121, R122, R125, spec/04_gnss_capture_and_correlation.md). -/
def Obligations.Snapshots : Prop :=
  ∀ (s : State) (src : BusSrc),
    let counted (t : State) (id : Nat) : Prop := t.fld (routeCount id) = min (s.fld (routeCount id) + 1) 0xFFFFFFFF
    let over_ (t : State) (r : Nat) : Prop := t.gnss.snap = none ∧ t.fld GNC_SNAPSTAT_STATE = 0 ∧ t.fld GNC_SNAPSTAT_RESULT = r
    (∀ v : Word, let w := putAll v [(GNC_SNAPCTL_START, 1), (GNC_SNAPCTL_ABORT, 0)]
      s.takes GNC_SNAPCTL w → s.gnss.snap = none →
      ∃ t, exec (.snapStart src v) s = .next t
        ∧ (191 < snapBank w + snapBanks w - 1 → t.fld GNC_SNAPSTAT_RESULT = 3 ∧ t.gnss.snap = none ∧ counted t 53)
        ∧ (snapBank w + snapBanks w - 1 ≤ 191 → (∃ k < snapBanks w, s.owner (snapBank w + k) ≠ ownGnc) →
          t.fld GNC_SNAPSTAT_RESULT = 2 ∧ t.gnss.snap = none ∧ counted t 53)
        ∧ (snapBank w + snapBanks w - 1 ≤ 191 → (∀ k < snapBanks w, s.owner (snapBank w + k) = ownGnc) →
          t.fld GNC_SNAPSTAT_STATE = 1 ∧ t.fld GNC_SNAPSTAT_RESULT = 0
            ∧ ∃ p, t.gnss.snap = some p ∧ p.ctl = w ∧ p.first = false ∧ p.powered = s.napping
              ∧ p.start = s.tim.ts + (if s.napping then 983040 else 0)))
    ∧ (∀ p : Snap, s.gnss.snap = some p →
        (p.first = false → p.lost = false → (s.tim.ts < s.snapInstant p → s.snapInstant p < s.tim.edge) →
          ∃ t q, exec .snapFirstSample s = .next t ∧ t.gnss.snap = some q ∧ q.first = true ∧ q.ctl = p.ctl
            ∧ q.start = s.snapInstant p ∧ q.prov = (s.mode == modeSurvey) ∧ t.tim.ts = max s.tim.ts (s.snapInstant p)
            ∧ t.fld GNC_SNAPSTAT_STATE = 2)
        ∧ (∀ samples, p.first = true → p.lost = false → samples.length = (snapBands p.ctl).length * snapBandLen p.ctl →
          (∀ k < snapBanks p.ctl, s.mayAccess ownGnc (snapBank p.ctl + k) = true) →
          ∃ t, exec (.snapDone samples) s = .next t ∧ over_ t 1 ∧ counted t 52)
        ∧ (∀ samples, p.lost = true → ∃ t, exec (.snapDone samples) s = .next t ∧ over_ t 4 ∧ counted t 53)
        ∧ (∀ samples, s.takes GNC_SNAPCTL (s.setWord GNC_SNAPCTL [(GNC_SNAPCTL_ABORT, 1)]) → p.lost = false →
          (∀ k < snapBanks p.ctl, s.mayAccess ownGnc (snapBank p.ctl + k) = true) →
          ∃ t, exec (.snapAbort src samples) s = .next t ∧ over_ t 5 ∧ counted t 53))

/-- Measurement blocks, the fix and naps (R146, R151, R153, R154, R155, spec/05_gnss_tracking_and_measurements.md). -/
def Obligations.MeasurementsFixAndNaps : Prop :=
  ∀ (s : State) (src : BusSrc),
    let counted (t : State) (id : Nat) : Prop := t.fld (routeCount id) = min (s.fld (routeCount id) + 1) 0xFFFFFFFF
    (∀ b r, s.gnss.measDue = some (b, r) → s.isSet GNT_EPOCHCFG_RINGEN = true → s.linkUp = true → s.mrRoom b.length = true →
      b.length ≤ s.mrSize - s.fld GNT_MRHEAD_HEAD →
      ∃ t l, exec .measBlockPost s = .next t ∧ t.gnss.measDue = none
        ∧ t.out = s.out ++ .hostWrite (s.mrBase + s.fld GNT_MRHEAD_HEAD) b :: l
        ∧ (r = none → t.fld GNT_MRHEAD_HEAD = (s.fld GNT_MRHEAD_HEAD + b.length) % s.mrSize % 2 ^ GNT_MRHEAD_HEAD.len) ∧ counted t 69)
    ∧ (∀ v : Word, s.takes GNT_TSOL_CTL (putFld v GNT_TSOL_CTL_POST 1) → getFld v GNT_TSOL_CTL_VALID = 1 → s.napping = false →
        s.live 7 = true → s.live 8 = true → ∃ t, exec (.tsolPost src v none) s = .next t ∧ t.gnss.fix = true
          ∧ t.gnss.lastPost = some s.tim.ts ∧ (getFld v GNT_TSOL_CTL_ACC ≤ s.fld TIM_TREFCFG_ACCMAX → t.trefHealthy 1 = true))
    ∧ (s.gnss.fix = true → s.napping = false → s.gnss.napAwait = false →
        ∃ t, exec .fixTimeout s = .next t ∧ t.gnss.fix = false ∧ counted t 72 ∧ t.trefHealthy 1 = false)
    ∧ (s.napping = true →
        let ended (t : State) : Prop := t.napping = false ∧ t.fld TIM_STAT_NAPHOLD = 0 ∧ t.gnss.settling = true
          ∧ t.gnss.napAwait = true ∧ counted t 76
        (∃ t, exec .napTimerExpiry s = .next t ∧ ended t)
        ∧ (s.takes GNT_NAPCTL (s.setWord GNT_NAPCTL [(GNT_NAPCTL_WAKE, 1)]) → ∃ t, exec (.napWake src) s = .next t ∧ ended t))
    ∧ (s.gnss.settling = true → ∃ t, exec .napSettleDone s = .next t ∧ t.gnss.settling = false ∧ t.fld GNT_START_CLASS = 1)
    ∧ (s.gnss.napAwait = true → ∃ t, exec .napFailTimeout s = .next t ∧ t.gnss.napAwait = false ∧ counted t 77)

/-- A receive ticket: its window, its frames, and its result (R200, R201, R202, R27, spec/07_radio_lanes.md). -/
def Obligations.ReceiveTickets : Prop :=
  ∀ (s : State) (e : Fin 2048),
    let k := (s.ticket e).tap
    (∀ n : Fin 4, (s.ticket e).lane = n.val → s.canRun e false = true → (s.ticket e).started = false →
      (s.rxBlocked (s.ticket e) = none → ∃ t, exec (.rxWindowStart e) s = .next t ∧ (t.ticket e).started = true
        ∧ (t.lane n).tap k = ⟨some e.val, none, false⟩)
      ∧ (s.rxBlocked (s.ticket e) ≠ none → ∃ t, exec (.rxWindowStart e) s = .next t ∧ (t.ticket e).final = true
        ∧ (t.ticket e).result = rsNotReady ∧ (t.ticket e).why = s.rxBlocked (s.ticket e) ∧ t.lanes = s.lanes
        ∧ t.fld (RFL_NOTREADY_COUNT n) = min (s.fld (RFL_NOTREADY_COUNT n) + 1) 0xFFFFFFFF
        ∧ t.fld (routeCount (80 + 8 * n)) = min (s.fld (routeCount (80 + 8 * n)) + 1) 0xFFFFFFFF))
    ∧ (∀ (n : Fin 4) (tap : Fin 32) (ts : BitVec 64), (s.lane n).tap tap = ⟨some e.val, none, false⟩ → s.laneBlanked n = false →
        ∃ t, exec (.sfdDetect n tap ts) s = .next t ∧ (t.lane n).tap tap = ⟨some e.val, some ts.toNat, false⟩)
    ∧ (∀ (n : Fin 4) (tap : Fin 32) (ts : Nat) (phr : RxPhr) (psdu : List Byte) (rssi : Byte) (cfo : Int),
        (s.lane n).tap tap = ⟨some e.val, some ts, false⟩ →
        (s.checkFrame n tap phr psdu = none → ∃ t, exec (.frameReceived n tap phr psdu rssi cfo) s = .next t
          ∧ t.fld (RFL_RXFCS_COUNT n) = min (s.fld (RFL_RXFCS_COUNT n) + 1) (2 ^ (RFL_RXFCS_COUNT n).len - 1)
          ∧ (t.ticket e).bad = true ∧ (t.lane n).tap tap = ⟨some e.val, none, false⟩ ∧ t.mac = s.mac)
        ∧ (∀ body, s.live 0xD = true → s.live 0x10 = true → (s.ticket e).listen = false → s.phrOk n tap phr = true →
          psdu = body ++ fcsOf phr.fcs4 body → phr.len = psdu.length →
          ∃ t f, exec (.frameReceived n tap phr psdu rssi cfo) s = .next t
          ∧ t.fld (RFL_RXOK_COUNT n) = min (s.fld (RFL_RXOK_COUNT n) + 1) (2 ^ (RFL_RXOK_COUNT n).len - 1)
          ∧ (t.ticket e).result = rsDone ∧ (t.ticket e).final = true ∧ (t.lane n).tap tap = TapSt.cold
          ∧ f.psdu = body ∧ f.ts = ts ∧ f.rssi = rssi.toNat ∧ f.cfo = cfo ∧ f.lane = n.val ∧ f.tap = tap.val ∧ f.entry = e.val
          ∧ ((s.ticket e).sent = true → t.mac = { s.mac with express := s.mac.express ++ [f] })
          ∧ ((s.ticket e).sent = false → t.mac = { s.mac with input := s.mac.input ++ [f] })))
    ∧ (∀ x : Option Nat, s.canRun e false = true → (s.ticket e).started = true →
        (s.lane (s.ticket e).lane).tap k = ⟨some e.val, x, false⟩ →
        ∃ t, exec (.rxWindowEnd e) s = .next t
        ∧ (x = none → (t.lane (s.ticket e).lane).tap k = TapSt.cold ∧ (t.ticket e).final = true
          ∧ (t.ticket e).result = (if (s.ticket e).nframes ≠ 0 then rsDone else if (s.ticket e).blk then rsBlanked
              else if (s.ticket e).bad then rsFcsFail else rsNoFrame))
        ∧ (x ≠ none → (t.lane (s.ticket e).lane).tap k = ⟨some e.val, x, true⟩ ∧ t.ticket e = s.ticket e))

/-- A transmission, from its retune to the end of its blanking (R200, R203, R204, R207, R211, R212, spec/07_radio_lanes.md). -/
def Obligations.TransmitTickets : Prop :=
  ∀ (s : State) (e : Fin 2048) (n : Fin 4), (s.ticket e).lane = n.val → s.canRun e true = true →
    ((s.lane n).lastCh ≠ some (s.ticket e).ch → (s.lane n).txTune = none → s.chValid n (s.ticket e).ch = true →
      ∃ t r, exec (.txRetuneStart e) s = .next t ∧ (t.lane n).txTune = some r ∧ r.freq = s.chHz n (s.ticket e).ch
        ∧ (t.lane n).lastCh = some (s.ticket e).ch ∧ t.fld (RFL_STAT_TXLOCK n) = 0)
    ∧ (s.txFenced n = false →
      (e.val ∉ (s.lane n).win → ∃ t, exec (.txBlankStart e) s = .next t ∧ (t.lane n).win = (s.lane n).win ++ [e.val]
        ∧ (t.lane n).blank = true)
      ∧ (∃ t, exec (.txAntsel e) s = .next t ∧ (t.lane n).txAnt = some (s.ticket e).ant
        ∧ (s.beating = true → t.pins.antsel.getD n 0 = (s.ticket e).ant))
      ∧ (e.val ∈ (s.lane n).win → e.val ∉ (s.lane n).pa → ∃ t, exec (.txPaenRise e) s = .next t
        ∧ (t.lane n).pa = (s.lane n).pa ++ [e.val] ∧ t.pins.paen = setAt s.pins.paen n (s.isSet (RFL_FECTL_EXTPA n))))
    ∧ ((s.ticket e).started = false → ∀ (f : Option (List Byte)) (u : State), s.buildFrame (s.ticket e) = (f, u) →
      (u.txBlocked (s.ticket e) f = none → ∃ t, exec (.txRampUp e) s = .next t ∧ (t.ticket e).started = true
        ∧ (t.lane n).tx = some e.val ∧ (t.lane n).rampUp = some (s.ticket e).lo ∧ (t.lane n).abort = false
        ∧ (t.lane n).rampDn = false ∧ (t.lane n).air = some (u.airTx n (u.chProf n (s.ticket e).ch) (f.getD [])))
      ∧ (u.txBlocked (s.ticket e) f ≠ none → ∃ t, exec (.txRampUp e) s = .next t ∧ (t.ticket e).result = rsNotReady
        ∧ (t.ticket e).why = u.txBlocked (s.ticket e) f
        ∧ (t.ticket e).final = true ∧ (t.lane n).pa = (s.lane n).pa.filter (· != e.val)
        ∧ ((s.lane n).pa = [e.val] → t.pins.paen = setAt s.pins.paen n false)))
    ∧ (∀ t0 : Nat, (s.lane n).tx = some e.val → (s.lane n).rampUp = some t0 →
      (∀ a : AirTx, (s.lane n).rampDn = false → (s.lane n).air = some a → ∃ t, exec (.txRampDown e) s = .next t
        ∧ t.lane n = { s.lane n with rampDn := true, air := none }
        ∧ t.out = s.out ++ [.air n (s.ticket e).ch ((s.ticket e).edge + (s.ticket e).offset) a true])
      ∧ ((s.lane n).rampDn = true → ∀ ts : BitVec 64, ∃ t, exec (.txPaenFall e ts) s = .next t
        ∧ (t.lane n).pa = (s.lane n).pa.filter (· != e.val) ∧ (t.lane n).rampUp = none ∧ (t.ticket e).final = true
        ∧ ((s.lane n).pa = [e.val] → t.pins.paen = setAt s.pins.paen n false)
        ∧ ((s.lane n).abort = false → (t.ticket e).result = rsDone ∧ (t.ticket e).charge = (s.ticket e).air
          ∧ t.fld (RFL_TXDONE_COUNT n) = min (s.fld (RFL_TXDONE_COUNT n) + 1) (2 ^ (RFL_TXDONE_COUNT n).len - 1))
        ∧ ((s.lane n).abort = true → (t.ticket e).result = rsAborted
          ∧ (t.ticket e).charge = min (ticksUs (ts.toNat - t0)) (s.ticket e).air)))
    ∧ ((s.lane n).win = [e.val] → (s.lane n).pa = [] → (s.lane n).tx ≠ some e.val →
      ∃ t, exec (.txBlankEnd n) s = .next t ∧ (t.lane n).win = [] ∧ (t.lane n).blank = false)

/-- Synthesisers, the temper table, gain, PAFLT and image trims of a lane (R195, R207, R208, R209, R212, R217, spec/07_radio_lanes.md). -/
def Obligations.LaneUpkeep : Prop :=
  ∀ (s : State) (src : BusSrc) (n : Fin 4),
    let counted (t : State) (id : Nat) : Prop := t.fld (routeCount id) = min (s.fld (routeCount id) + 1) 0xFFFFFFFF
    let lock (tx : Bool) := if tx then RFL_STAT_TXLOCK n else RFL_STAT_RXLOCK n
    let tune (t : State) (tx : Bool) := if tx then (t.lane n).txTune else (t.lane n).rxTune
    let takes (f : Fld) : Prop := s.takes (RFL_CTL n) (s.setWord (RFL_CTL n) [(f, 1)])
    (s.isCast (9 + n) = true →
      (∀ (tx : Bool) (seeds iq : Word),
        (∃ t, exec (.synthSettled n tx seeds iq) s = .next t ∧ t.fld (lock tx) = 1 ∧ tune t tx = none
          ∧ ∀ r, tune s tx = some r → r.seeded = false → t.fld (T_FREQ n r.slot) = r.freq % 2 ^ 32
            ∧ t.fld (T_VALID n r.slot) = 1 ∧ t.isSet (T_SYN n r.slot) = tx ∧ t.fld (T_SEEDS n r.slot) = seeds.toNat
            ∧ t.fld (T_IQ n r.slot) = (if tx then 0 else iq.toNat))
        ∧ (tune s tx = none → ∃ t, exec (.synthUnlock n tx) s = .next t ∧ t.fld (lock tx) = 0 ∧ counted t (81 + 8 * n)))
      ∧ (s.fld (RFL_AGC_MODE n) = 0 → ∃ t, exec (.laneAgcFastAttack n) s = .next t
          ∧ t.fld (RFL_AGC_GAIN n) = (s.laneGain n).1 - 12 ∧ (t.lane n).gainAt = some s.tim.ts
          ∧ ((s.lane n).taps.any (fun p => p.2.frame.isSome) = true → t.fld (RFL_AGC_GAIN n) = s.fld (RFL_AGC_GAIN n) - 12)
          ∧ ∀ a, a ≠ RFL_AGC n → t.get a = s.get a)
      ∧ (∀ (level : Bool) (ts : BitVec 64), s.pafltActive n (s.pins.paflt.getD n false) = false → s.pafltActive n level = true →
          ∃ t, exec (.pafltActive n level ts) s = .next t ∧ t.pins.paen = setAt s.pins.paen n false
          ∧ t.fld (RFL_STAT_FCAUSE n) = s.fld (RFL_STAT_FCAUSE n) ||| 1 ∧ t.fld (RFL_STAT_TXFENCE n) = 1 ∧ counted t (82 + 8 * n)
          ∧ ∀ e t0, (s.lane n).tx = some e → (s.lane n).rampUp = some t0 → (s.lane n).rampDn = false →
            (t0 ≠ ts.toNat → (t.lane n).rampDn = true ∧ (t.lane n).abort = true)
            ∧ (t0 = ts.toNat → (t.ticket e).result = rsAborted ∧ (t.ticket e).charge = 0 ∧ (t.lane n).tx = none))
      ∧ (∀ temp : Byte, ∃ t, exec (.trimDue n temp) s = .next t ∧ t.fld (RFL_STAT_TEMP n) = temp.toNat
          ∧ (s.trimmed = true → 10 < (temp.toInt - s.fldInt (RFL_IQ_TTRIM n)).natAbs → t.fld (RFL_STAT_TRIMDUE n) = 1
            ∧ (s.fld (RFL_STAT_TRIMDUE n) = 0 → n.val ∈ t.sch.trimWant ∧ counted t (84 + 8 * n)))))
    ∧ (takes (RFL_CTL_TXCLR n) → s.pafltActive n (s.pins.paflt.getD n false) = false →
        ∃ t, exec (.txFenceClear src n) s = .next t ∧ t.fld (RFL_STAT_FCAUSE n) = s.fld (RFL_STAT_FCAUSE n) / 2 * 2)
    ∧ (takes (RFL_CTL_TRIMREQ n) → s.fld (RFL_STAT_TRIMDUE n) = 0 →
        ∃ t, exec (.trimRequest src n) s = .next t ∧ t.fld (RFL_STAT_TRIMDUE n) = 1 ∧ n.val ∈ t.sch.trimWant
        ∧ counted t (84 + 8 * n))
    ∧ (∀ irr : BitVec 16, s.fld (RFL_STAT_TRIMMING n) = 1 → ∃ t, exec (.trimDone n irr) s = .next t
        ∧ t.fld (RFL_STAT_TRIMMING n) = 0 ∧ t.fld (RFL_STAT_TRIMDUE n) = 0 ∧ t.fld (RFL_IQ_TTRIM n) = s.fld (RFL_STAT_TEMP n)
        ∧ t.fld (RFL_IQ_IRR n) = irr.toNat ∧ counted t (85 + 8 * n))
    ∧ (∀ (e : Fin 512) (w : Fin 8) (v : Word), s.takes (temperAddr n e w) v →
        ∃ t, exec (.temperTableWrite src n e w v) s = .next t
          ∧ t.get (temperAddr n e w) = (s.get (temperAddr n e w) &&& ~~~(tableMask (temperAddr n e w)))
              ||| (v &&& tableMask (temperAddr n e w))
          ∧ ∀ a, a ≠ temperAddr n e w → t.get a = s.get a)

/-- The front-end management bus verifies its writes, retries twice, and fences the lanes that depend on it (R213, R214, R217, spec/07_radio_lanes.md). -/
def Obligations.FrontEndBus : Prop :=
  ∀ (s : State) (src : BusSrc),
    let failed (t : State) (cause : Nat) : Prop :=
      t.fld RFL0_FMBSTAT_CAUSE = cause ∧ (cause ≠ 3 → t.fld RFL0_FMBSTAT_FAILED = 1) ∧ t.fmb = ⟨none, []⟩
      ∧ t.fld (routeCount 86) = min (s.fld (routeCount 86) + 1) 0xFFFFFFFF
      ∧ ∀ n : Fin 4, s.isCast (9 + n) = true → s.isSet (RFL_PLAN_FMBDEP n) = true →
          (t.fld (RFL_STAT_FCAUSE n)).testBit 1 = true ∧ t.fld (RFL_STAT_TXFENCE n) = 1 ∧ t.fld (RFL_STAT_RXFENCE n) = 1
    s.beating = true →
    (∀ (addr : BitVec 7) (reg val : Byte), s.takes RFL0_FMBXFER (putAll 0 [(RFL0_FMBXFER_GO, 1), (RFL0_FMBXFER_READ, 0),
        (RFL0_FMBXFER_ADDR, addr.toNat), (RFL0_FMBXFER_REG, reg.toNat), (RFL0_FMBXFER_DATA, val.toNat)]) →
      ∃ t, exec (.fmbWrite src addr reg val) s = .next t
        ∧ t.fmb = ⟨some ⟨none, false, addr.toNat, reg.toNat, val.toNat, 0⟩, s.fmb.todo⟩
        ∧ t.out = s.out ++ [.fmb false addr.toNat reg.toNat val.toNat])
    ∧ (∀ (addr : BitVec 7) (reg : Byte), s.takes RFL0_FMBXFER (putAll 0 [(RFL0_FMBXFER_GO, 1), (RFL0_FMBXFER_READ, 1),
        (RFL0_FMBXFER_ADDR, addr.toNat), (RFL0_FMBXFER_REG, reg.toNat)]) →
      ∃ t, exec (.fmbRead src addr reg) s = .next t ∧ t.fmb = ⟨some ⟨none, true, addr.toNat, reg.toNat, 0, 0⟩, s.fmb.todo⟩
        ∧ t.out = s.out ++ [.fmb true addr.toNat reg.toNat 0])
    ∧ (∀ (o : FmbOp) (b : Byte), s.fmb.cur = some o →
        (o.read = true ∨ b.toNat = o.val → o.lane = none → s.fmb.todo = [] →
          ∃ t, exec (.fmbTransactionDone (some b)) s = .next t ∧ t.fmb = ⟨none, []⟩ ∧ t.fld RFL0_FMBSTAT_RDATA = b.toNat
          ∧ t.fld RFL0_FMBSTAT_XDONE = 1 ∧ t.out = s.out)
        ∧ (o.read = false → b.toNat ≠ o.val → o.tries < 2 →
          ∃ t, exec (.fmbTransactionDone (some b)) s = .next t ∧ t.fmb = ⟨some { o with tries := o.tries + 1 }, s.fmb.todo⟩
          ∧ t.fld RFL0_FMBSTAT_RDATA = b.toNat ∧ t.out = s.out ++ [.fmb false o.addr o.reg o.val])
        ∧ (o.read = false → b.toNat ≠ o.val → 2 ≤ o.tries →
          ∃ t, exec (.fmbTransactionDone (some b)) s = .next t ∧ t.fld RFL0_FMBSTAT_RDATA = b.toNat ∧ failed t 3)
        ∧ (∃ t, exec (.fmbTransactionDone none) s = .next t ∧ failed t 1)
        ∧ ∃ t, exec .fmbSclTimeout s = .next t ∧ failed t 2)

/-- Received frames: authentication, the counter rule, and where uplinks, acknowledgements, joins and sentinels go (R223, R225, R230, R236, R237, R300, R306, R434, spec/08_mesh_access.md). -/
def Obligations.ReceivedFrames : Prop :=
  ∀ (s : State) (f : RxFrame) (r : List RxFrame) (h : Mhr), parseMhr f.psdu = some h →
    let counted (t : State) (id : Nat) : Prop := t.fld (routeCount id) = min (s.fld (routeCount id) + 1) 0xFFFFFFFF
    let fresh (i : Nat) : Bool := decide (max (s.nextValue (.acc i)) (s.nr i NR_PENDCTR) < h.fcnt)
    let first (i : Nat) (l : List RxFrame) : Prop := f.rep = none ∧ ∀ g ∈ l, g.node = some i → g.rep = none → f.ts ≤ g.ts
    (takeFrame (fun f => s.macWork false f && s.worksOn 0x10 f.beat) s.mac.input = some (f, r) → s.foreign f.psdu = false →
      (∀ (i : Nat) (b : List Byte) (old : Bool), s.sender h f.lane = some i → s.openFrame i h f.psdu = some (b, old) →
        exec .rxAuthDone s = .next { s with mac := { s.mac with
          input := r, passed := s.mac.passed ++ [{ f with node := some i, body := b, oldKey := old }] } })
      ∧ ((∀ i, s.sender h f.lane = some i → s.openFrame i h f.psdu = none) → ∃ t, exec .rxAuthDone s = .next t
        ∧ t.mac = { s.mac with input := r } ∧ t.fld MAC_AUTHFAIL_COUNT = min (s.fld MAC_AUTHFAIL_COUNT + 1) 0xFFFFFFFF))
    ∧ (∀ i, s.works 0xD = true → takeFrame (fun f => f.ftype == some ftUplink) s.mac.passed = some (f, r) → f.node = some i →
        s.fwd.input.length < 1024 →
        (first i r → ∃ t, exec .uplinkReceived s = .next t ∧ t.mac = { s.mac with passed := r }
          ∧ t.fwd.input = s.fwd.input ++ [⟨f.body, if h.hops = 0 then 0 else 2, !fresh i, f.beat⟩]
          ∧ (fresh i = true → t.nr i NR_PENDCTR = h.fcnt)
          ∧ (fresh i = false → t.nodes = s.nodes ∧ t.fld MAC_REPEAT_COUNT = min (s.fld MAC_REPEAT_COUNT + 1) 0xFFFFFFFF))
        ∧ (∀ q, f.rep = some q → ∃ t, exec .uplinkReceived s = .next t ∧ t.mac = { s.mac with passed := r }
          ∧ t.fwd.input = s.fwd.input ++ [⟨f.body, if h.hops = 0 then 0 else 2, q, f.beat⟩] ∧ t.nodes = s.nodes))
    ∧ (∀ i, s.works 0xD = true → takeFrame (fun f => f.ftype == some ftNodeAck) s.mac.passed = some (f, r) → f.node = some i →
        first i r → (s.ticket f.entry).tid = f.tid → (s.ticket f.entry).purpose = .nodeAck → (s.ticket f.entry).node = some i →
        f.body.length = 4 → ofLeBytes f.body = (s.ticket f.entry).fcnt →
        ∃ t, exec .nodeackReceived s = .next t ∧ (t.ticket f.entry).acked = true ∧ t.mac.passed = r ∧ t.sch.owed = true)
    ∧ (s.works 0xD = true → takeFrame (fun f => s.macWork true f && s.worksOn 0x10 f.beat) s.mac.input = some (f, r) →
        s.foreign f.psdu = false →
        ((∀ i, s.joiner h = some i → s.nodeState i = nodeFree) → ∃ t, exec .joinreqReceived s = .next t
          ∧ t.mac = { s.mac with input := r } ∧ counted t 114
          ∧ t.fld MAC_JOINUNK_COUNT = min (s.fld MAC_JOINUNK_COUNT + 1) 0xFFFFFFFF)
        ∧ ∀ (i : Nat) (b : List Byte), s.joiner h = some i → s.nodeState i ≠ nodeFree → s.nr i NR_JKV = 1 → 4 ≤ b.length →
          first i s.mac.passed → unprotect (s.joinKey i) (nonce (s.eui i) h.fcnt h.ftype false 0) h f.psdu = some b →
          ∃ (t : State) (l : List Out), exec .joinreqReceived s = .next t ∧ t.mac = { s.mac with input := r }
            ∧ t.out = s.out ++ l ++ [.toQ1 i (!fresh i) b] ∧ t.nr i NR_NNONCE = ofLeBytes (b.take 4) ∧ t.nr i NR_JRUSED = 0
            ∧ t.nr i NR_JRREP = (if fresh i then 0 else 1) ∧ (i, s.sfSecond f.ts) ∈ t.sec.joinReqs)
    ∧ (∀ (i : Nat) (b : List Byte) (old : Bool), s.works 0x10 = true → s.mac.express = f :: r → s.foreign f.psdu = false →
        h.ftype = ftSentinel → s.sender h f.lane = some i → s.openFrame i h f.psdu = some (b, old) → s.hst.xBuf.length < 16 →
        first i s.mac.passed →
        ∃ t, exec .sentinelReceived s = .next t ∧ t.mac = { s.mac with express := r } ∧ counted t 124
          ∧ t.hst.xBuf = s.hst.xBuf ++ [⟨f.lane, f.tap, false, s.mac.cellid, s.hst.xSeq, i, h.fcnt, f.ts, s.tim.ts, f.rssi,
              !fresh i, b⟩])

/-- Node records, blacklists, cancellation, outcomes and device seconds, each before SCH plans anew (R227, R229, R233, R235, R256, R257, R265, R304, R430, spec/09_schedule_runahead.md). -/
def Obligations.RecordsAndSchedule : Prop :=
  ∀ (s : State) (src : BusSrc),
    (∀ (x : Fin 8192) (w : Fin 32) (v : Word), let a := 0x500000 + 128 * x.val + 4 * w.val
      let i := s.nodePage (128 * x.val + 4 * w.val)
      s.takes a v →
      (w.val ∈ [0, 1, 2, 8, 9, 30] → ¬ (w.val = 2 ∧ getFld v NR_STATE = nodeFree ∧ s.nodeState i ≠ nodeFree) →
        ∃ u : State, exec (.nodeRecordWrite src x w v) s = .next u.plan
          ∧ u.nodeWord i w = (match w.val with
            | 2 => v &&& 0x0307FFFF
            | 9 => v &&& 0xFFFF1FFF
            | _ => v)
          ∧ ∀ j k, k < 32 → (j, k) ≠ (i, w.val) → u.nodeWord j k = s.nodeWord j k)
      ∧ (w.val = 2 → getFld v NR_STATE = nodeFree → s.nodeState i ≠ nodeFree →
        ∃ u : State, exec (.nodeRecordWrite src x w v) s = .next u.plan ∧ u.nodeState i = nodeFree
          ∧ u.nr i NR_JKV = 0 ∧ u.nr i NR_SKV = 0
          ∧ ∀ e, (u.ticket e).state = tkPlanned → (u.ticket e).stale = false →
            (u.ticket e).node ≠ some i ∧ (u.ticket e).dest ≠ some i))
    ∧ (∀ (n : Fin 4) (high : Bool) (v : Word), let a := if high then SCH_BLKHI n else SCH_BLKLO n
      s.takes a v →
      ∃ u t : State, exec (.blacklistWrite src n high v) s = .next t ∧ t = { u.plan with sys := { u.plan.sys with dirty := t.sys.dirty } }
        ∧ u.get a = v ∧ ∀ e k, (u.ticket e).state = tkPlanned → (u.ticket e).stale = false → (u.ticket e).lane = n.val → k < 32 →
          (u.ticket e).ch = (if high then 32 else 0) + k → v.getLsbD k = true → (s.get a).getLsbD k = true)
    ∧ (∀ r : Request, s.takes SCH_CANCEL (s.setWord SCH_CANCEL [(SCH_CANCEL_GO, 1)]) →
        s.openReq (s.fld SCH_CANCEL_QUEUE) (s.fld SCH_CANCEL_TAG) = some r →
        s.inflight (s.fld SCH_CANCEL_QUEUE) (s.fld SCH_CANCEL_TAG) ≠ none →
        ∃ u : State, exec (.schCancel src) s = .next u ∧ u.sch.owed = true
          ∧ (∃ c ∈ (u.queue (s.fld SCH_CANCEL_QUEUE)).held, c.tag = s.fld SCH_CANCEL_TAG ∧ c.status = stCancelled ∧ c.late = false)
          ∧ ∀ e, (u.ticket e).state = tkPlanned → (u.ticket e).stale = false → (u.ticket e).req.map (·.1) ≠ some r.id)
    ∧ (∀ e : Fin 2048, (s.ticket e).state = tkCommitted → (s.ticket e).final = true → (s.ticket e).open_ = 0 →
        ∃ u : State, exec (.outcomeDelivered e) s = .next u ∧ u.sch.owed = true ∧ (u.ticket e).state = tkResolved
          ∧ ((s.ticket e).stale = false → ∀ x, (u.ticket x).state = tkPlanned → (u.ticket x).stale = false →
            ((s.ticket e).tx = true → (s.ticket e).result ≠ rsDone → (u.ticket x).expects e (s.ticket e).tid expSent = false)
            ∧ ((s.ticket e).tx = false → (s.ticket e).acked = false → (u.ticket x).expects e (s.ticket e).tid expAcked = false)))
    ∧ (s.live 0xD = true → ∃ t, exec .deviceSecond s = .next t ∧ ∀ g e, g < 3 → e < 17 → s.isSet (L_VALID g e) = true →
        let u := 10 * (s.used g e s.second + s.fld (L_PEND g e))
        (t.ledger (ledgerNo g e)).buckets = (if s.mac.tvSeen then
          (s.ledger (ledgerNo g e)).buckets.filter (fun b => decide (s.second < b.1 + s.fld MAC_GEOM_WIN))
          else (s.ledger (ledgerNo g e)).buckets)
        ∧ (9 * s.budget g e ≤ u → (t.ledger (ledgerNo g e)).warned = true)
        ∧ (u < 8 * s.budget g e → (t.ledger (ledgerNo g e)).warned = false))

/-- A lookup resolves the oldest frame: host, lane, drop or no route; a pop removes the oldest egress descriptor (R269, R270, R271, R280, spec/10_forwarding.md). -/
def Obligations.ForwardLookup : Prop :=
  ∀ s : State,
    (∀ (f : FwdFrame) (r : List FwdFrame), s.fwd.input = f :: r → s.worksOn 0xF f.beat = true →
      let s0 : State := { s with fwd := { s.fwd with input := r } }
      (f.packet = [] ∨ (f.packet.headD 0#8).toNat / 16 ≠ 6 → exec .fwdLookup s = .next (s0.emit (.toHost f.rep f.body)))
      ∧ ((f.packet.headD 0#8).toNat / 16 = 6 → 40 ≤ f.packet.length →
        let d := (f.packet.drop 24).take 16
        let w := s0.bankRead ownFwd (s0.entryAddr 3 (foldAddr d)) 2
        let p := w.2.probeAll d (w.2.probeSlots (((w.1.bytes?).map ofLeBytes).getD 0))
        (p.1 = none → ∃ t, exec .fwdLookup s = .next t ∧ t.fwd = s0.fwd ∧ t.mem = s.mem
          ∧ t.fld FWD_NOROUTE_COUNT = min (s.fld FWD_NOROUTE_COUNT + 1) 0xFFFFFFFF)
        ∧ ∀ e, p.1 = some e →
          let u := p.2.setHit 2 e
          let action := u.entryWord 2 e 4 / 256 % 16
          (action = 3 → exec .fwdLookup s = .next (u.emit (.toHost f.rep f.body)))
          ∧ (action = 4 → exec .fwdLookup s = .next (u.count FWD_ACTDROP_COUNT))
          ∧ (∀ lane rec_ v, action = 1 → u.hitNeighbour (u.entryWord 2 e 5 % 2 ^ 16) = (some (lane, rec_), v) →
            s.fwd.meq.length < 4096 → ∃ t m, exec .fwdLookup s = .next t ∧ t.fwd.meq = s.fwd.meq ++ [m] ∧ t.fwd.input = r
              ∧ m.lane = lane ∧ m.node = rec_ % 2 ^ 18 ∧ m.dest = none ∧ m.rep = f.rep ∧ m.body = f.packet)
          ∧ (action = 0 → u.nodeByEui (beNat (((d.drop 8).headD 0#8 ^^^ 2#8) :: (d.drop 9))) = none →
            ∃ t, exec .fwdLookup s = .next t ∧ t.fwd = s0.fwd
              ∧ t.fld FWD_NOHOP_COUNT = min (s.fld FWD_NOHOP_COUNT + 1) 0xFFFFFFFF)))
    ∧ ∀ src, s.takes FWD_MEQCTL (s.setWord FWD_MEQCTL [(FWD_MEQCTL_POP, 1)]) →
        ∃ t, exec (.meqPop src) s = .next t ∧ t.fwd = { s.fwd with meq := s.fwd.meq.tail } ∧ t.mem = s.mem

/-- Commands of the forwarding tables end with the status that R286 gives and its image (R285, R286, spec/10_forwarding.md). -/
def Obligations.ForwardCommands : Prop :=
  ∀ (s : State) (c : FwdCmd) (r : List FwdCmd), s.fwd.cmds = c :: r → c.queue = none → s.live 0xF = true →
    let ended (t : State) (status : Nat) : Prop := t.fwd.cmds = r ∧ t.fwd.flushing = false ∧ t.fld FWD_CMD_STATUS = status
      ∧ t.fld FWD_CMD_BUSY = 0 ∧ t.fld (routeCount 153) = min (s.fld (routeCount 153) + 1) 0xFFFFFFFF
    let found (t : State) (i : Nat) : Prop := ended t fsOk ∧ t.mem = s.mem ∧ t.fld FWD_CIDX_INDEX = i % 2 ^ 18
      ∧ ∀ m, m < entryBytes c.table / 4 → t.fld (FWD_CD_DATA m) = s.entryWord c.table i m
    let owned (a n : Nat) : Prop := s.firstRefused ownFwd a n = none
    (s.fwd.flushing = false → s.fwd.waiting = false →
      (c.op = 0 →
        (∀ i, s.findKey c = some (some i) → c.table ≤ 2 → ∃ t, exec .fwdSearch s = .next t ∧ found t i)
        ∧ (s.findKey c = some none → ∃ t, exec .fwdSearch s = .next t ∧ ended t fsNotFound ∧ t.mem = s.mem)
        ∧ (s.findKey c = none → ∃ t, exec .fwdSearch s = .next t ∧ ended t fsBadKey ∧ t.mem = s.mem))
      ∧ (c.op = 1 → c.table ≤ 2 →
        (∀ i, (s.validEntries c.table).find? (fun i => c.start || decide (c.cidx < i)) = some i →
          ∃ t, exec .fwdNext s = .next t ∧ found t i)
        ∧ ((s.validEntries c.table).find? (fun i => c.start || decide (c.cidx < i)) = none →
          ∃ t, exec .fwdNext s = .next t ∧ ended t fsEnd ∧ t.mem = s.mem))
      ∧ (∀ w0 w1 w2 w3 : Nat, c.op = 2 → c.table = 0 → c.cd.take 4 = [w0, w1, w2, w3] → c.cidx < 131072 → w2 % 2 ^ 16 < 0xFF00 →
        w0 < 2 ^ 32 → w1 < 2 ^ 32 → w2 < 2 ^ 31 →
        let img := [w0, w1, w2 + 2 ^ 31, w3]
        (s.nodeDup c.cidx img = true → ∃ t, exec .fwdInsert s = .next t ∧ ended t fsDupKey ∧ t.mem = s.mem)
        ∧ (s.nodeDup c.cidx img = false → owned (s.entryAddr 0 c.cidx) 16 → ∃ t, exec .fwdInsert s = .next t ∧ ended t fsOk
          ∧ t.entry 0 c.cidx = [w0, w1, w2 % 2 ^ 18 + 2 ^ 31, w3 % 2 ^ 16]
          ∧ ∀ a, a < s.entryAddr 0 c.cidx ∨ s.entryAddr 0 c.cidx + 16 ≤ a → t.cell a = s.cell a))
      ∧ (c.op = 3 → c.table = 0 →
        (s.entryValid 0 c.cidx = false → ∃ t, exec .fwdDelete s = .next t ∧ ended t fsNotFound ∧ t.mem = s.mem)
        ∧ (s.entryValid 0 c.cidx = true → owned (s.entryAddr 0 c.cidx + 8) 4 → s.mem.ecc = [] →
          ∃ t, exec .fwdDelete s = .next t ∧ ended t fsOk ∧ t.entryValid 0 c.cidx = false
          ∧ ∀ a, a < s.entryAddr 0 c.cidx + 8 ∨ s.entryAddr 0 c.cidx + 12 ≤ a → t.cell a = s.cell a))
      ∧ (c.op = 4 → c.table = 1 → c.ck.getD 0 0 % 8 ≠ 7 →
        exec .fwdFlushByPort s = .next { s with fwd := { s.fwd with flushing := true } }))
    ∧ (s.fwd.flushing = true → c.table = 1 → s.mem.ecc = [] → (∀ i, i < 16384 → owned (s.entryAddr 1 i) 16) →
      ∃ t, exec .fwdFlushDone s = .next t ∧ ended t fsOk ∧ (∀ i ∈ s.flushed c 1, t.entryValid 1 i = false)
        ∧ ∀ a, a < s.tabBase 1 ∨ s.tabBase 1 + 262144 ≤ a → t.cell a = s.cell a)

/-- The filter clear, the sweeper, table locks, direct writes and the shadow compare (R281, R283, R284, R287, R288, R289, R290, spec/10_forwarding.md). -/
def Obligations.ForwardUpkeep : Prop :=
  ∀ (s : State) (src : BusSrc),
    let counted (t : State) (id : Nat) : Prop := t.fld (routeCount id) = min (s.fld (routeCount id) + 1) 0xFFFFFFFF
    let owned (a n : Nat) : Prop := s.firstRefused ownFwd a n = none ∧ s.mem.ecc = []
    (∀ k : Fin 16, k.val ∈ s.fwd.clearing → s.fwd.waiting = false → owned (s.tabBase 3) 131072 →
      ∃ t, exec (.filterClearDone k) s = .next t ∧ t.fwd.clearing = s.fwd.clearing.erase k
        ∧ ∀ h, h < 65536 → (t.filterWord h).testBit k = false)
    ∧ (∀ i : Nat, s.live 0xF = true → i < 16384 → s.sweepList.find? (fun p => decide (s.fwd.sweep ≤ p)) = some i →
        let w := s.entryWord 1 i 0
        (s.tabLocked 1 = true → ∃ t, exec .sweepVisit s = .next t ∧ t.fwd.sweep = i ∧ t.mem = s.mem)
        ∧ (s.tabLocked 1 = false → owned (s.entryAddr 1 i) 4 → ∃ t, exec .sweepVisit s = .next t ∧ t.fwd.sweep = i + 1
          ∧ (w.testBit bitHit = true → t.entryWord 1 i 0 = withBit (withBit w bitHit false) bitAged false)
          ∧ (w.testBit bitHit = false → w.testBit bitAged = false → t.entryWord 1 i 0 = w + 2 ^ bitAged)
          ∧ (w.testBit bitHit = false → w.testBit bitAged = true → w.testBit bitDyn = true → t.entryValid 1 i = false
            ∧ t.fld FWD_AGED_COUNT = min (s.fld FWD_AGED_COUNT + 1) 0xFFFFFFFF)
          ∧ ∀ a, a < s.entryAddr 1 i ∨ s.entryAddr 1 i + 4 ≤ a → t.cell a = s.cell a))
    ∧ (∀ req : BitVec 4, s.takes FWD_LOCK (s.setWord FWD_LOCK [(FWD_LOCK_REQ, req.toNat)]) →
        ∃ t, exec (.fwdLockRequest src req) s = .next t ∧ t.fld FWD_LOCK_REQ = req.toNat
          ∧ t.fld FWD_LOCK_LOCKED = s.fld FWD_LOCK_LOCKED &&& req.toNat)
    ∧ (∀ k : Fin 4, s.tabLocked k = true → ∃ t, exec (.fwdLocked k) s = .next t
        ∧ t.fld FWD_LOCK_LOCKED = s.fld FWD_LOCK_LOCKED ||| 2 ^ k.val)
    ∧ (∀ (ofs : BitVec 20) (v : Word), s.takes (0x600000 + ofs.toNat) v → ofs.toNat % 4 = 0 → s.fld FWD_TWSEL_TABLE ≤ 1 →
        let k := s.fld FWD_TWSEL_TABLE
        let x := s.fld FWD_TWSEL_PAGE * 0x100000 + ofs.toNat
        owned (s.tabBase k + x) 4 → ∃ t, exec (.fwdTableWrite src ofs v) s = .next t
          ∧ t.entryWord k (x / 16) (x % 16 / 4) = v.toNat &&& (entryMasks k).getD (x % 16 / 4) 0
          ∧ ∀ a, a < s.tabBase k + x ∨ s.tabBase k + x + 4 ≤ a → t.cell a = s.cell a)
    ∧ (s.isSet FWD_SHCFG_EN = true → s.live 0xF = true → s.shadowTable s.shadowAt = true → s.tabSize s.shadowAt ≠ 0 →
        (∀ bs, s.linkUp = true → ∃ t, exec (.shadowChunkCompare (some bs)) s = .next t ∧ t.fld FWD_SHSTAT_STALLED = 0)
        ∧ ∃ t, exec (.shadowChunkCompare none) s = .next t ∧ t.fld FWD_SHSTAT_STALLED = 1 ∧ t.fwd = s.fwd
          ∧ (s.fld FWD_SHSTAT_STALLED = 0 → counted t 164))
    ∧ (∀ (k i b : Nat) (r : List (Nat × Nat × Nat)) (bs : List Byte), s.fwd.shMis = (k, i, b) :: r → s.beat ≠ b → s.linkUp = true →
        s.shadowOn = true → s.shadowTable k = true →
        (s.mismatch k i (imageOf k bs) = false → exec (.shadowRecheck (some bs)) s = .next { s with fwd := { s.fwd with shMis := r } })
        ∧ (s.mismatch k i (imageOf k bs) = true → s.isSet FWD_SHCFG_REPAIR = false →
          ∃ t, exec (.shadowRecheck (some bs)) s = .next t ∧ t.fwd = { s.fwd with shMis := r } ∧ counted t 162
          ∧ t.fld FWD_SHMISS_TABLE = k % 4 ∧ t.fld FWD_SHMISS_INDEX = i % 2 ^ 18
          ∧ t.fld FWD_SHSTAT_MISSES = min (s.fld FWD_SHSTAT_MISSES + 1) 65535))

/-- Key commands and joins end with their status, and a refused one changes no key (R302, R304, R305, R306, R307, R308, spec/11_security_and_node_update.md). -/
def Obligations.KeysAndJoins : Prop :=
  ∀ (s : State) (src : BusSrc),
    let counted (t : State) (id : Nat) : Prop := t.fld (routeCount id) = min (s.fld (routeCount id) + 1) 0xFFFFFFFF
    let ended (t : State) (st : Nat) : Prop := t.fld SEC_KEYCMD_STATUS = st ∧ counted t 169
    let sameKeys (t : State) : Prop := t.sec.keys = s.sec.keys ∧ t.nodes = s.nodes
    let takes (op : Nat) : Prop := s.takes SEC_KEYCMD (s.setWord SEC_KEYCMD [(SEC_KEYCMD_GO, 1), (SEC_KEYCMD_OP, op)])
    let slot := s.fld SEC_KEYARG_SLOT
    let i := s.fld SEC_KEYARG_INDEX
    (takes 1 → i < 131072 →
      (∀ k, s.unwrapped = (ksOk, k) → k.length = 16 → ∃ t, exec (.keyProvision src) s = .next t ∧ ended t ksOk
        ∧ t.joinKey i = k ∧ t.nr i NR_JKV = 1 ∧ t.sec.keys = s.sec.keys)
      ∧ (∀ st k, s.unwrapped = (st, k) → st ≠ ksOk → ∃ t, exec (.keyProvision src) s = .next t ∧ ended t st ∧ sameKeys t))
    ∧ (takes 2 →
      (slot = 2 ∨ slot = 3 → s.trngOk = true → ∃ t k, exec (.bkeyGen src) s = .next t ∧ ended t ksOk ∧ t.key slot = some k
        ∧ k.length = 16 ∧ t.nodes = s.nodes ∧ ∀ j, j ≠ slot → t.key j = s.key j)
      ∧ (slot = 2 ∨ slot = 3 → s.trngOk = false → ∃ t, exec (.bkeyGen src) s = .next t ∧ ended t ksNoEntropy ∧ sameKeys t)
      ∧ (slot ≠ 2 → slot ≠ 3 → ∃ t, exec (.bkeyGen src) s = .next t ∧ ended t ksBadSlot ∧ sameKeys t))
    ∧ (takes 3 → slot = 2 ∨ slot = 3 →
      (∀ k, s.unwrapped = (ksOk, k) → ∃ t, exec (.bkeyImport src) s = .next t ∧ ended t ksOk ∧ t.key slot = some k
        ∧ t.nodes = s.nodes ∧ ∀ j, j ≠ slot → t.key j = s.key j)
      ∧ (∀ st k, s.unwrapped = (st, k) → st ≠ ksOk → ∃ t, exec (.bkeyImport src) s = .next t ∧ ended t st ∧ sameKeys t))
    ∧ (takes 4 → slot ≠ 0 → slot < 72 → ∃ t, exec (.eraseSlot src) s = .next t ∧ ended t ksOk ∧ t.key slot = none
        ∧ t.nodes = s.nodes ∧ ∀ j, j ≠ slot → t.key j = s.key j)
    ∧ (takes 5 → i < 131072 → ∃ t, exec (.eraseRecordKeys src) s = .next t ∧ ended t ksOk ∧ t.nr i NR_JKV = 0 ∧ t.nr i NR_SKV = 0
        ∧ t.joinKey i = List.replicate 16 0#8 ∧ t.sessKey i = List.replicate 16 0#8 ∧ t.sec.keys = s.sec.keys)
    ∧ (∀ idx : BitVec 18, s.takes SEC_JOINCMD (s.setWord SEC_JOINCMD [(SEC_JOINCMD_GO, 1), (SEC_JOINCMD_INDEX, idx.toNat)]) →
        (s.joinStatus idx.toNat = 0 → ∃ u : State, exec (.joinCommand src idx) s = .next u.plan
          ∧ u.nr idx.toNat NR_KGEN = (s.nr idx.toNat NR_KGEN + 1) % 256 ∧ u.nr idx.toNat NR_JRUSED = 1
          ∧ u.nr idx.toNat NR_PEND = 1 ∧ u.nodeState idx.toNat = nodeActive
          ∧ (∃ p ∈ u.sec.pendJ, p.node = idx.toNat ∧ p.sk.isSome = true)
          ∧ (∃ r ∈ u.sch.reqs, r.kind = .joinResp ∧ r.target = idx.toNat ∧ r.state = .pending ∧ r.origin = ownerOf src
            ∧ r.bank = s.fld SEC_JOINARG_BANK ∧ r.bofs = s.fld SEC_JOINARG_BOFS ∧ r.len = s.fld SEC_JOINARG_LEN)
          ∧ u.fld SEC_JOINCMD_STATUS = 0 ∧ counted u 113 ∧ counted u 170)
        ∧ (s.joinStatus idx.toNat ≠ 0 → ∃ u : State, exec (.joinCommand src idx) s = .next u.plan
          ∧ u.fld SEC_JOINCMD_STATUS = s.joinStatus idx.toNat ∧ u.nodes = s.nodes ∧ u.sec = s.sec ∧ u.sch = s.sch ∧ counted u 170))
    ∧ (s.live 0x10 = true → ∃ t, exec .graceExpiry s = .next t ∧ (∀ p ∈ s.sec.pendJ, p.left = 1 → t.nr p.node NR_GRACE = 0)
        ∧ ∀ q ∈ t.sec.pendJ, q.left ≠ 1)

/-- The job queue, its results, and the entropy source (R293, R308, R314, spec/11_security_and_node_update.md). -/
def Obligations.JobsAndEntropy : Prop :=
  ∀ (s : State) (src : BusSrc),
    let counted (t : State) (id : Nat) : Prop := t.fld (routeCount id) = min (s.fld (routeCount id) + 1) 0xFFFFFFFF
    let op := s.fld SEC_JOBD0_OP
    (∀ c : Instr, (op = 1 ∧ c = .jobSha256 src) ∨ (op = 2 ∧ c = .jobHmacSha256 src) ∨ (op = 3 ∧ c = .jobEcdsaVerify src)
        ∨ (op = 4 ∧ c = .jobEcdhTm src) → s.takes SEC_JOBCTL (s.setWord SEC_JOBCTL [(SEC_JOBCTL_PUSH, 1)]) →
      (s.sec.jobs.length < 16 → ∃ t, exec c s = .next t ∧ t.sec = { s.sec with jobs := s.sec.jobs ++
        [⟨op, s.fld SEC_JOBD0_TAG, s.fld SEC_JOBD0_MBOX, s.fld SEC_JOBD0_KEYSLOT, s.fld SEC_JOBD1_LEN⟩] })
      ∧ (16 ≤ s.sec.jobs.length → ∃ t, exec c s = .next t ∧ t.sec = s.sec
        ∧ t.fld SEC_JOBSTAT_REFUSED = min (s.fld SEC_JOBSTAT_REFUSED + 1) 255))
    ∧ (∀ (j : Job) (r : List Job), s.sec.jobs = j :: r → s.sec.results.length < 16 → s.live 0x10 = true → j.mbox < 16 →
        let be (n : Nat) : Nat := be32At (s.mail j.mbox 0 256) n
        ∃ t st, exec .jobDone s = .next t ∧ t.sec.jobs = r ∧ t.sec.results = s.sec.results ++ [(j.tag, st)]
          ∧ (s.sec.results = [] → counted t 171)
          ∧ (j.op = 1 → j.len ≤ 248 → st = 0 ∧ t.mail j.mbox 0 32 = sha256 (s.mail j.mbox 0 j.len))
          ∧ (j.op = 2 → j.len ≤ 216 → st = 0 ∧ t.mail j.mbox 0 32 = hmacSha256 (s.mail j.mbox 0 32) (s.mail j.mbox 32 j.len))
          ∧ (j.op = 3 → (∀ n, n ≤ 256 → t.mail j.mbox 0 n = s.mail j.mbox 0 n) ∧ st = (if onCurve (be 32) (be 64) = false then 2
              else if ecdsaVerify (be 32) (be 64) (be 96) (be 128) (s.mail j.mbox 0 32) then 0 else 1))
          ∧ (j.op = 4 → onCurve (be 0) (be 32) = false → st = 2 ∧ t.sec.keys = s.sec.keys)
          ∧ (j.op = 4 → onCurve (be 0) (be 32) = true → s.trngOk = false → st = 4 ∧ t.sec.keys = s.sec.keys)
          ∧ (j.op = 4 → onCurve (be 0) (be 32) = true → s.trngOk = true → 0 < j.slot → st = 0
            ∧ t.key j.slot = some ((sha256 (ecdhX Config.touchmark.toNat (be 0) (be 32) ++ s.mail j.mbox 64 8)).take 16)))
    ∧ (s.takes SEC_JOBCTL (s.setWord SEC_JOBCTL [(SEC_JOBCTL_POP, 1)]) →
        ∃ t, exec (.jobPop src) s = .next t ∧ t.sec = { s.sec with results := s.sec.results.tail })
    ∧ (s.sys.power = .on → s.mode ≠ modeDormant → s.sys.phase ≠ .assay1Failed → ∀ part : ReadPart, ∃ t w, exec (.trngRead src part) s = .next t
        ∧ t = { s with out := s.out ++ [readReply src w part], free := t.free } ∧ (s.trngOk = false → w = 0 ∧ t.free = s.free))
    ∧ (s.trngOk = true → ∃ t, exec .trngHealthFail s = .next t ∧ t.fld SEC_TRNGSTAT_HEALTHY = 0 ∧ counted t 172
        ∧ ∀ k : Fin 4, s.camp k = campPreparing → t.camp k = stIdle ∧ t.fld (SEC_CAMPSTAT_CAUSE k) = 2 ∧ t.key (4 + k) = none)
    ∧ (∃ t, exec .trngRecover s = .next t ∧ t.fld SEC_TRNGSTAT_HEALTHY = 1 ∧ ∀ a, a ≠ SEC_TRNGSTAT → t.get a = s.get a)
    ∧ (s.takes SEC_TRNGSTAT (s.setWord SEC_TRNGSTAT [(SEC_TRNGSTAT_RETEST, 1)]) → ∃ t, exec (.trngRetest src) s = .next t
        ∧ (t.fld SEC_TRNGSTAT_HEALTHY = 1 ∨ t.fld SEC_TRNGSTAT_HEALTHY = s.fld SEC_TRNGSTAT_HEALTHY)
        ∧ ∀ a, a ≠ SEC_TRNGSTAT → t.get a = s.get a)

/-- Image slots and campaigns move between their states as the rules say (R309, R310, R311, R313, R314, spec/11_security_and_node_update.md). -/
def Obligations.ImagesAndCampaigns : Prop :=
  ∀ (s : State) (src : BusSrc) (k : Fin 4),
    let counted (t : State) (id : Nat) : Prop := t.fld (routeCount id) = min (s.fld (routeCount id) + 1) 0xFFFFFFFF
    let takesImg (f : Fld) : Prop := s.takes (SEC_IMGCFG k) (s.setWord (SEC_IMGCFG k) [(f, 1)])
    let takesCamp (f : Fld) : Prop := s.takes (SEC_CAMPCTL k) (s.setWord (SEC_CAMPCTL k) [(f, 1)])
    let b := s.fld (SEC_IMGCFG_FIRSTBANK k)
    let sp := s.readSpan ownSec (b * bankSize) 0x100000
    let bs := sp.2.cells (b * bankSize) 0x100000
    let cause := if (List.range 9).all (fun n => s.mayAccess ownSec (b + n)) && sp.1 then imageCause bs else 1
    let i := s.fld (SEC_CAMPCFG_IMG k)
    let n := (s.fld (SEC_IMGLEN_LEN i) + s.symbolSize k - 1) / s.symbolSize k
    (takesImg (SEC_IMGCFG_LOAD k) →
      (s.imageUsed k = false → ∃ t, exec (.imageLoad src k) s = .next t ∧ t.fld (SEC_IMGSTAT_STATE k) = 1
        ∧ t.fld (SEC_IMGSTAT_CAUSE k) = 0)
      ∧ (s.imageUsed k = true → ∃ t, exec (.imageLoad src k) s = .next t ∧ t.fld (SEC_IMGSTAT_STATE k) = 3
        ∧ t.fld (SEC_IMGSTAT_CAUSE k) = 6 ∧ counted t 174))
    ∧ (s.fld (SEC_IMGSTAT_STATE k) = 1 → ∃ t, exec (.imageVerifyDone k) s = .next t
        ∧ t.fld (SEC_IMGSTAT_STATE k) = (if cause = 0 then 2 else 3)
        ∧ t.fld (SEC_IMGSTAT_CAUSE k) = (if cause = 0 then s.fld (SEC_IMGSTAT_CAUSE k) else cause)
        ∧ t.fld (SEC_IMGLEN_LEN k) = (if cause = 0 then imgWord bs 4 else s.fld (SEC_IMGLEN_LEN k))
        ∧ t.fld (SEC_IMGVER_FWVER k) = (if cause = 0 then imgWord bs 8 else s.fld (SEC_IMGVER_FWVER k))
        ∧ counted t (if cause = 0 then 173 else 174))
    ∧ (takesImg (SEC_IMGCFG_DROP k) → ∃ t, exec (.imageDrop src k) s = .next t ∧ t.fld (SEC_IMGSTAT_STATE k) = 0
        ∧ t.fld (SEC_IMGSTAT_CAUSE k) = 0 ∧ t.fld (SEC_IMGLEN_LEN k) = 0 ∧ t.fld (SEC_IMGVER_FWVER k) = 0)
    ∧ (takesCamp (SEC_CAMPCTL_PREPARE k) →
      (s.fld (SEC_IMGSTAT_STATE i) = 2 → n ≤ 56403 → s.trngOk = true → ∃ t key, exec (.campPrepare src k) s = .next t
        ∧ t.camp k = campPreparing ∧ t.fld (SEC_CAMPSTAT_CAUSE k) = 0 ∧ t.fld (SEC_CAMPK_K k) = n ∧ t.key (4 + k) = some key
        ∧ key.length = 16 ∧ t.nextValue (.camp k) = 0 ∧ counted t 176)
      ∧ (s.fld (SEC_IMGSTAT_STATE i) ≠ 2 → ∃ t, exec (.campPrepare src k) s = .next t ∧ t.camp k = s.camp k
        ∧ t.fld (SEC_CAMPSTAT_CAUSE k) = 3 ∧ t.sec = s.sec))
    ∧ (s.camp k = campPreparing → (∀ q ∈ s.cru.queue, q.lease.map (·.1) ≠ some (LeaseKey.camp k)) →
        ∃ t, exec (.campPrepareDone k) s = .next t ∧ t.camp k = campReady ∧ counted t 175 ∧ counted t 176)
    ∧ (takesCamp (SEC_CAMPCTL_START k) → ∃ u : State, exec (.campStart src k) s = .next u.plan ∧ u.camp k = campActive ∧ counted u 176
        ∧ u.sch = s.sch)
    ∧ (takesCamp (SEC_CAMPCTL_PAUSE k) → ∃ t, exec (.campPause src k) s = .next t ∧ t.camp k = campPaused ∧ counted t 176
        ∧ ∀ r ∈ s.sch.reqs, r.kind = .broadcast → r.target = k.val → (r.state = .pending ∨ r.state = .placed) →
          ∀ e, (t.ticket e).state = tkPlanned → (t.ticket e).stale = false → (t.ticket e).req.map (·.1) ≠ some r.id)
    ∧ (takesCamp (SEC_CAMPCTL_END k) → s.camp k ≠ stIdle → ∃ t, exec (.campEnd src k) s = .next t ∧ t.camp k = stIdle
        ∧ t.key (4 + k) = none ∧ counted t 176)

/-- Announcements, keying, hellos, ageing and links of the peer ports (R318, R321, R323, R324, R326, R333, spec/12_peer_link_and_roaming.md). -/
def Obligations.PeersAndKeying : Prop :=
  ∀ s : State,
    let counted (t : State) (id : Nat) : Prop := t.fld (routeCount id) = min (s.fld (routeCount id) + 1) 0xFFFFFFFF
    (∃ t, exec .announceSend s = .next t ∧ t = { s with out := t.out, plk := { s.plk with dueAt := t.plk.dueAt } }
        ∧ t.out = s.out ++ ([0, 1].filter s.uplPort).map (fun q =>
          .upl q 64 uplAnnounce (s.fld MAC_CELLID_CELLID) 0xFFFF 0 s.beat s.announceValues))
    ∧ (∀ (q : Fin 2) (a : Announce) (p : Nat), s.uplPort q = true → a.uid ≠ Config.uid →
        (s.peerOf a.uid.toNat = none → s.plk.refused = [] → s.peerFree = some p →
          ∃ t, exec (.announceReceived q a) s = .next t ∧ (t.peer p).uid = a.uid.toNat ∧ (t.peer p).cellid = a.cellid.toNat
            ∧ (t.peer p).epoch = a.epoch.toNat ∧ (t.peer p).pubX = a.pubX.toNat ∧ (t.peer p).pubY = a.pubY.toNat
            ∧ t.heardOn (t.peer p) q = true
            ∧ (t.peer p).st = (if certOk a = false ∨ (s.isSet PLK_CFG_SAMEKEY = true ∧ a.castKey.toNat ≠ s.fld MGT_CASTKEY_KEYID)
                ∨ s.trngOk = false then peerRejected else peerKeying)
            ∧ ((t.peer p).st = peerRejected → counted t 188))
        ∧ (s.peerOf a.uid.toNat = some p → (s.peer p).keyed = true → a.epoch.toNat ≠ (s.peer p).epoch →
          ∃ t, exec (.announceReceived q a) s = .next t ∧ (t.peer p).st = peerKeying ∧ (t.peer p).epoch = a.epoch.toNat))
    ∧ (∀ p : Fin 64,
        ((s.peer p).st = peerKeying → s.trngOk = true → ∃ t, exec (.peerKeyingDone p) s = .next t
          ∧ t.key (8 + p) = some ((sha256 (ecdhX Config.touchmark.toNat (s.peer p).pubX (s.peer p).pubY
              ++ s.pairLabel (s.peer p))).take 16)
          ∧ (t.peer p).st = (if (s.peer p).geom then peerKeyed else peerMismatch) ∧ (t.peer p).txCtr = 1 ∧ (t.peer p).rxCtr = 0
          ∧ counted t 186)
        ∧ ((s.peer p).st ≠ 0 → (s.peer p).st ≠ peerRejected → s.heardOn (s.peer p) 0 = false → s.heardOn (s.peer p) 1 = false →
          ∃ t, exec (.peerAgeOut p) s = .next t ∧ t.peer p = Peer.cold ∧ t.key (8 + p) = none ∧ counted t 187
          ∧ ∀ r ∈ t.plk.rel, r.peer ≠ p.val)
        ∧ ((s.peer p).st = peerRejected → ∃ t, exec (.peerRejectExpiry p) s = .next t ∧ t.peer p = Peer.cold))
    ∧ (∃ t, exec .helloSend s = .next t ∧ ∀ p < 64, ∀ q < 2, (s.peer p).keyed = true → s.uplPort q = true → ∃ ctr,
        Out.upl q p uplHello (s.fld MAC_CELLID_CELLID) (s.peer p).cellid ctr s.beat [if s.cellServed then 1 else 0, s.fld PLK_SBSTAT_ROLE, s.fld TIM_STAT_TVALID] ∈ t.out)
    ∧ (∀ (u : UplIn) (serving : Bool) (role : Fin 4) (tv : Bool), s.uplPort u.port = true → u.mic = true →
        (s.peer u.peer).keyed = true → (s.peer u.peer).rxCtr < u.ctr.toNat →
        ∃ t, exec (.helloReceived u serving role tv) s = .next t ∧ (t.peer u.peer).serving = serving ∧ (t.peer u.peer).role = role.val
          ∧ (t.peer u.peer).rxCtr = u.ctr.toNat ∧ (t.peer u.peer).hello = some s.tim.ts ∧ t.heardOn (t.peer u.peer) u.port = true
          ∧ (serving = false → t.standby = true → t.partner = some u.peer.val → t.plk.due = true))
    ∧ (∀ (q : Fin 2) (up : Bool) (speed : Fin 4), let on := up && s.beating && s.live (0x11 + q) && s.isSet (PLK_PCFG_MODE q)
        ∃ t, exec (.ethLinkChange q up speed) s = .next t ∧ t.isSet (PLK_PSTAT_LINK q) = on
          ∧ t.fld (PLK_PSTAT_SPEED q) = (if on then speed.val else 0) ∧ (s.isSet (PLK_PSTAT_LINK q) ≠ on → counted t 185))

/-- A handover: pull, request, transfer, acknowledgement, refusal, and messages that are sent again (R322, R327, R328, R329, R330, spec/12_peer_link_and_roaming.md). -/
def Obligations.Handover : Prop :=
  ∀ (s : State) (src : BusSrc) (u : UplIn),
    let p := u.peer
    let accepted : Prop := s.uplPort u.port = true ∧ u.mic = true ∧ (s.peer p).keyed = true ∧ (s.peer p).rxCtr < u.ctr.toNat
    let sent (t : State) (ty : Nat) (ws : List Nat) : Prop := s.portFor p 0 ≠ none → ∃ q src dst ctr b, Out.upl q p ty src dst ctr b ws ∈ t.out
    let i := s.fld PLK_HOIDX_INDEX
    let eui := s.fld PLK_HOEUI_HI_EUI * 2 ^ 32 + s.fld PLK_HOEUI_LO_EUI
    (s.takes PLK_HOCMD (s.setWord PLK_HOCMD [(PLK_HOCMD_GO, 1), (PLK_HOCMD_PEER, p.val), (PLK_HOCMD_OP, 1)]) →
      (s.peer p).st = peerKeyed →
      (i < 131072 → s.hoReady i eui = true → ∃ t n q, exec (.hoPull src p) s = .next t ∧ t.plk.pull = some (p.val, i, eui)
        ∧ t.fld PLK_HOCMD_BUSY = 1 ∧ t.plk.rel = s.plk.rel ++ [⟨p.val, uplHoReq, [eui % 2 ^ 32, eui / 2 ^ 32], n, s.tim.ts, q⟩]
        ∧ (s.portFor p 0 ≠ none → n = 1)
        ∧ sent t uplHoReq [eui % 2 ^ 32, eui / 2 ^ 32])
      ∧ (s.hoReady i eui = false → ∃ t, exec (.hoPull src p) s = .next t ∧ t.plk.pull = none
        ∧ t.fld PLK_HOCMD_STATUS = hoBadTarget ∧ t.fld PLK_HOCMD_BUSY = 0))
    ∧ (accepted →
      (∀ e : BitVec 64, s.plk.hoQueue = [] → s.plk.transfer = none →
        (∀ n, s.nodeByEui e.toNat = some n → s.hoRefusal p (some n) = 0 → ∃ t m q, exec (.hoReqReceived u e) s = .next t
          ∧ t.nodeState n = nodeFree ∧ t.nr n NR_SKV = 0 ∧ t.nr n NR_JKV = 0 ∧ t.plk.transfer = some (s.snapshot p n)
          ∧ t.plk.rel = s.plk.rel ++ [⟨p.val, uplHoXfer, (s.snapshot p n).values ((s.key (8 + p)).getD []), m, s.tim.ts, q⟩]
          ∧ (s.portFor p 0 ≠ none → m = 1))
        ∧ (s.hoRefusal p (s.nodeByEui e.toNat) ≠ 0 → ∃ t, exec (.hoReqReceived u e) s = .next t ∧ t.nodes = s.nodes
          ∧ t.plk.transfer = none ∧ sent t uplHoNak [s.hoRefusal p (s.nodeByEui e.toNat)]))
      ∧ (∀ (r : HoRecord) (n : Nat) (jk sk : List Byte), s.plk.pull = some (p.val, n, r.eui.toNat) → s.hoReady n r.eui.toNat = true →
        keyUnwrap ((s.key (8 + p)).getD []) r.jkWrap = some jk → keyUnwrap ((s.key (8 + p)).getD []) r.skWrap = some sk →
        jk.length = 16 → sk.length = 16 →
        ∃ t : State, exec (.hoXferReceived u r) s = .next t.plan ∧ t.nodeState n = nodeActive ∧ t.joinKey n = jk ∧ t.sessKey n = sk
          ∧ t.eui n = r.eui.toNat ∧ t.lastRx n = r.lastRx.toNat ∧ t.nr n NR_KGEN = r.kgen.toNat ∧ t.nr n NR_FWVER = r.fwver.toNat
          ∧ r.acc.toNat ≤ t.nextValue (.acc n) ∧ r.dn.toNat ≤ t.nextValue (.dn n) ∧ r.join.toNat ≤ t.nextValue (.join n)
          ∧ t.plk.pull = none ∧ t.fld PLK_HOCMD_STATUS = hoOk ∧ t.fld PLK_HOCMD_BUSY = 0
          ∧ t.fld (routeCount 191) = min (s.fld (routeCount 191) + 1) 0xFFFFFFFF ∧ sent t uplHoAck [])
      ∧ (∀ x, s.plk.transfer = some x → x.peer = p.val → s.plk.hoQueue = [] →
        (∃ t, exec (.hoAckReceived u) s = .next t ∧ t.plk.transfer = none ∧ t.plk.restores = s.plk.restores
          ∧ t.fld (routeCount 192) = min (s.fld (routeCount 192) + 1) 0xFFFFFFFF)
        ∧ ∃ t, exec (.hoNakReceived u 7) s = .next t ∧ t.plk.transfer = none ∧ t.plk.restores = s.plk.restores ++ [x])
      ∧ (∀ (x : Nat × Nat × Nat) (st : Fin 16), s.plk.pull = some x → x.1 = p.val → st.val ≠ 0 → st.val ≠ hoBadTarget →
        ∃ t, exec (.hoNakReceived u st) s = .next t ∧ t.plk.pull = none ∧ t.fld PLK_HOCMD_STATUS = st.val
          ∧ t.fld PLK_HOCMD_BUSY = 0))
    ∧ (∀ (ty : Fin 256) (r : Rel),
        (s.plk.rel.find? (fun r => r.peer == p.val && r.ty == ty.val && decide (r.sent < 4)) = some r → (s.peer p).keyed = true →
          ∃ t, exec (.uplRetransmit p ty) s = .next t
          ∧ (∀ q, s.portFor p (1 - r.port) = some q → (∃ src dst ctr b, Out.upl q p ty src dst ctr b r.ws ∈ t.out)
            ∧ (r.sent ≠ 0 → t.fld PLK_RETX_COUNT = min (s.fld PLK_RETX_COUNT + 1) 0xFFFFFFFF))
          ∧ t.plk.rel = s.plk.rel.map (fun x => if x = r then
              { r with sent := r.sent + 1, ts := s.tim.ts, port := (s.portFor p (1 - r.port)).getD r.port } else x))
        ∧ (ty.val = uplHoReq → s.plk.rel.find? (fun r => r.peer == p.val && r.ty == ty.val && decide (4 ≤ r.sent)) = some r →
          (∃ x, s.plk.pull = some x ∧ x.1 = p.val) → ∃ t, exec (.uplTimeout p ty) s = .next t ∧ t.plk.rel = s.plk.rel.erase r
          ∧ t.plk.pull = none ∧ t.fld PLK_HOCMD_STATUS = hoTimeout))

/-- Mirrors, their acknowledgements and lag, a silent partner, alarms and data between peers (R326, R331, R332, R333, R336, spec/12_peer_link_and_roaming.md). -/
def Obligations.StandbyAndAlarms : Prop :=
  ∀ (s : State) (u : UplIn),
    let p := u.peer
    let accepted : Prop := s.uplPort u.port = true ∧ u.mic = true ∧ (s.peer p).keyed = true ∧ (s.peer p).rxCtr < u.ctr.toNat
    let counted (t : State) (id : Nat) : Prop := t.fld (routeCount id) = min (s.fld (routeCount id) + 1) 0xFFFFFFFF
    (accepted →
      (∀ (r : MirrorRec) (beacon : List Word) (g : Fin 3) (e : Fin 17) (sec us : Word), s.standby = true →
        (s.acceptUpl u).2.partner = some p.val → r.keys = none →
        ∃ t, exec (.mirrorReceived u [r] ⟨none, beacon, [(g, e, sec, us)]⟩) s = .next t
          ∧ (∀ k ∈ [0, 1, 2, 3, 4, 5, 7, 8, 9, 10, 11, 12, 13, 14, 15], t.nodeWord r.idx.toNat k = r.lo.getD k 0)
          ∧ (∀ k ∈ [2, 3, 4, 5, 6], t.nodeWord r.idx.toNat (24 + k) = r.hi.getD k 0)
          ∧ (r.lo.getD 6 0).toNat ≤ t.nextValue (.acc r.idx.toNat) ∧ (r.hi.getD 0 0).toNat ≤ t.nextValue (.dn r.idx.toNat)
          ∧ t.bucket g e sec.toNat = us.toNat ∧ t.plk.lastMirror = some s.beat ∧ t.sec.keys = s.sec.keys
          ∧ (s.portFor p 0 ≠ none → ∃ q c d ctr b, Out.upl q p uplMirrorAck c d ctr b [] ∈ t.out))
      ∧ (∀ r, s.plk.rel.find? (fun r => r.peer == p.val && r.ty == uplMirror) = some r →
        ∃ t, exec (.mirrorAckReceived u) s = .next t ∧ t.plk.rel = s.plk.rel.erase r
          ∧ ((∀ x ∈ t.plk.rel, x.ty ≠ uplMirror) → t.fld PLK_SBSTAT_LAG = 0))
      ∧ (∀ a : AlarmIn, s.hst.xBuf.length < 16 →
        ((p.val, a.recidx.toNat, a.fcnt.toNat) ∉ s.plk.seen → ∃ t x, exec (.alarmReceived u a) s = .next t
          ∧ t.hst.xBuf = s.hst.xBuf ++ [x] ∧ x.foreign = true ∧ x.fcnt = a.fcnt.toNat ∧ x.cellid = a.cellid.toNat ∧ x.rxTs = a.ts.toNat
          ∧ x.payload = a.payload ∧ x.seq = s.hst.xSeq ∧ counted t 197)
        ∧ ((p.val, a.recidx.toNat, a.fcnt.toNat) ∈ s.plk.seen → ∃ t, exec (.alarmReceived u a) s = .next t
          ∧ t.hst = s.hst ∧ t.plk.seen = s.plk.seen.erase (p.val, a.recidx.toNat, a.fcnt.toNat)))
      ∧ (∀ (rep : Bool) (body : List Byte), s.fwd.input.length < 1024 → ∃ t, exec (.dataReceived u rep body) s = .next t
          ∧ t.fwd = { s.fwd with input := s.fwd.input ++ [⟨body, 0, rep, s.beat⟩] }))
    ∧ ((∃ r ∈ s.plk.rel, r.ty = uplMirror) → s.fld PLK_SBSTAT_LAG = 0 → ∃ t, exec .mirrorLag s = .next t
        ∧ t.fld PLK_SBSTAT_LAG = 1 ∧ counted t 196)
    ∧ (∀ q, s.standby = true → s.partner = some q → s.silenceFenced q = false → exec .partnerSilence s = .next { s with plk := { s.plk with due := true } })
    ∧ (∀ (a : Alarm) (r : List (Nat × Alarm)), s.plk.alarms = (p.val, a) :: r → (s.peer p).keyed = true → s.portFor p 0 ≠ none →
        ∃ t q c d ctr b, exec .alarmResend s = .next t ∧ t.plk.alarms = r ∧ Out.upl q p uplAlarm c d ctr b a.values ∈ t.out)

/-- A queue's doorbells, fetch, ADMIN commands, timeouts and completions (R421, R422, R423, R424, R427, R429, R430, spec/17_host_interface_and_events.md). -/
def Obligations.QueueTraffic : Prop :=
  ∀ (s : State) (src : BusSrc) (q : Fin 8),
    let x := s.queue q
    let ends (t : State) (tag st : Nat) : Prop := (∃ c ∈ (t.queue q).held, c.tag = tag ∧ c.status = st ∧ c.dup = false ∧ c.late = false)
      ∧ (∃ c r, (t.queue q).memory = c :: r ∧ c.tag = tag ∧ c.status = st)
      ∧ (t.queue q).inflight = dropTag tag x.inflight
    (∀ ptr : Byte, s.takes (HST_QSQTAIL q) (BitVec.ofNat 32 ptr.toNat) →
      ∃ t, exec (.sqDoorbell src q ptr) s = .next t ∧ t.fld (HST_QSQTAIL_PTR q) = ptr.toNat ∧ t.hst = s.hst)
    ∧ (∀ ptr : Byte, s.takes (HST_QCQHEAD q) (BitVec.ofNat 32 ptr.toNat) →
      ∃ t, exec (.cqDoorbell src q ptr) s = .next t ∧ t.fld (HST_QCQHEAD_PTR q) = ptr.toNat ∧ t.hst = s.hst
        ∧ (t.isSet (HST_QSTAT_FULL q) = true ↔ (s.fld (HST_QSTAT_CQTAIL q) + 1) % 256 = ptr.toNat))
    ∧ (∀ ws : List Word, s.nextQueue = some q.val → s.isLocal q = false →
        let c : HCmd := ⟨(ws.map (·.toNat)).headD 0 / 65536, ws.map (·.toNat), false⟩
        ∃ t l, exec (.commandFetched q ws) s = .next t ∧ t.fld (HST_QSTAT_SQHEAD q) = (s.fld (HST_QSTAT_SQHEAD q) + 1) % 256
          ∧ t.hst.turn = (q.val + 1) % 8
          ∧ t.out = s.out ++ .hostRead (s.sqBase q + 64 * s.fld (HST_QSTAT_SQHEAD q)) 64 :: l
          ∧ ((∀ m ∈ x.memory, m.tag ≠ c.tag) → (∀ d ∈ x.inflight, d.tag ≠ c.tag) →
            (c.badOp = false → t.queue q = { x with inflight := x.inflight ++ [c] }
              ∧ t.fwd.cmds.length = s.fwd.cmds.length + (if c.cls = 2 ∧ c.op ≤ 4 then 1 else 0))
            ∧ (c.badOp = true → (t.queue q).inflight = x.inflight ∧ t.fwd = s.fwd
              ∧ ∃ e ∈ (t.queue q).held, e.tag = c.tag ∧ e.status = stBadOp ∧ e.dup = false))
          ∧ ((∀ m ∈ x.memory, m.tag ≠ c.tag) → (∃ d ∈ x.inflight, d.tag = c.tag) →
            t.queue q = { x with dups := x.dups ++ [c.tag] } ∧ t.fwd = s.fwd)
          ∧ (∀ m, x.memory.find? (fun m => m.tag == c.tag) = some m →
            t.queue q = { x with held := x.held ++ [{ m with dup := true }] } ∧ t.fwd = s.fwd))
    ∧ (∀ tag : BitVec 16, s.flying q tag.toNat 0 1 ≠ none →
        ∃ t, exec (.adminNop q tag) s = .next t ∧ ends t tag.toNat stOk ∧ t.regs = s.regs ∧ t.sch = s.sch)
    ∧ (∀ (tag : BitVec 16) (c : HCmd), s.flying q tag.toNat 0 2 = some c →
        s.openReq (c.w 2 / 65536 % 8) (c.w 2 % 65536) = none →
        ∃ t, exec (.adminAbort q tag) s = .next t ∧ ends t tag.toNat stNotFound ∧ t.regs = s.regs ∧ t.sch = s.sch)
    ∧ (∀ (tag : BitVec 16) (c : HCmd), s.inflight q tag.toNat = some c →
        (c.cls ≠ 1 → exec (.commandTimeout q tag) s = .next s)
        ∧ (c.cls = 1 → c.timeout ≠ 0 → c.started = false → s.openReq q tag.toNat = none →
          ∃ t, exec (.commandTimeout q tag) s = .next t ∧ ends t tag.toNat stTimeout ∧ t.sch = s.sch))
    ∧ (∀ (c : Cpl) (r : List Cpl), x.held = c :: r → s.queueRuns q = true → s.cqFull q = false → s.isLocal q = false → s.linkUp = true →
        ∃ t l, exec (.completionWrite q) s = .next t
          ∧ t.out = s.out ++ .hostWrite (s.cqBase q + 64 * s.fld (HST_QSTAT_CQTAIL q))
              (c.octets x.phase (s.fld (HST_QSTAT_SQHEAD q)) s.beat) :: l
          ∧ (s.isSet (HST_QCFG_IEN q) = false → l = [])
          ∧ (s.isSet (HST_QCFG_IEN q) = true → s.vecMasked (s.fld (HST_QCFG_VEC q)) = false →
            s.hst.holdoff.contains (s.fld (HST_QCFG_VEC q)) = false → l = [.msix (s.fld (HST_QCFG_VEC q))])
          ∧ t.fld (HST_QSTAT_CQTAIL q) = (s.fld (HST_QSTAT_CQTAIL q) + 1) % 256
          ∧ t.queue q = { x with held := r, phase := if s.fld (HST_QSTAT_CQTAIL q) = 255 then !x.phase else x.phase })

/-- MESH and OFFER commands are accepted or end with the status of the first condition that they fail (R265, R266, R272, R406, R424, R425, R430, spec/17_host_interface_and_events.md). -/
def Obligations.QueueOperations : Prop :=
  ∀ (s : State) (q : Fin 8) (tag : BitVec 16),
    let ends (t : State) (st dt : Nat) : Prop := (∃ c ∈ (t.queue q).held, c.tag = tag.toNat ∧ c.status = st ∧ c.detail = dt ∧ c.dup = false)
      ∧ (t.queue q).inflight = dropTag tag.toNat (s.queue q).inflight
    (∀ c : HCmd, s.flying q tag.toNat 1 1 = some c →
      let node := c.w 2 % 2 ^ 18
      let prof := s.chProf (s.nr node NR_LANE) (s.nr node NR_CH)
      let len := c.w 4 % 2 ^ 11
      let known : Prop := node < 131072 ∧ (s.nodeState node = nodeActive ∨ s.nodeState node = nodeAdrift)
      let fits : Prop := s.psduLen (s.nr node NR_LANE) (s.nr node NR_CH) 10 len ≤ s.psduMax (s.nr node NR_LANE) prof
      let kind := c.w 7 % 4
      let room : Prop := kind = 0 ∨ c.w 7 / 256 % 2 ^ 11 + 16 ≤ len
      let refused := s.firstRefused (s.submitter q) (bufAddr (c.w 3 % 256) (c.w 3 / 256 % 2 ^ 15)) len
      let ran (st : Nat) : Prop := ∃ t, exec (.meshDownlink q tag) s = .next t ∧ ends t st 0 ∧ t.sch = s.sch
      (s.beating = false → ran stMode)
      ∧ (s.beating = true → ¬ known → ran stBadNode)
      ∧ (s.beating = true → known → ¬ fits → ran stBadLen)
      ∧ (s.beating = true → known → fits → ¬ room → ran stBadInsert)
      ∧ (s.beating = true → known → fits → room → refused ≠ none → ran stBadBuf)
      ∧ (s.beating = true → known → fits → room → refused = none →
        ∃ u : State, exec (.meshDownlink q tag) s = .next u.plan
          ∧ u.regs = s.regs ∧ (∃ d, u.inflight q tag.toNat = some d ∧ d.started = true ∧ d.words = c.words)
          ∧ ∃ r, u.sch.reqs = s.sch.reqs ++ [r] ∧ r.kind = .downlink ∧ r.target = node ∧ r.len = len ∧ r.state = .pending
            ∧ r.queue = q.val ∧ r.tag = tag.toNat ∧ r.hasTag = true ∧ r.origin = s.submitter q
            ∧ r.bank = c.w 3 % 256 ∧ r.bofs = c.w 3 / 256 % 2 ^ 15 ∧ r.retries = c.w 4 / 2 ^ 20 % 16
            ∧ (r.ackReq = true ↔ (c.w 4).testBit 16 = true)
            ∧ r.earliest = (if (c.w 6).testBit 0 then some (c.w 5) else none)))
    ∧ (∀ c : HCmd, s.flying q tag.toNat 1 2 = some c →
      (s.beating = false → ∃ t, exec (.meshBroadcast q tag) s = .next t ∧ ends t stMode 0 ∧ t.sch = s.sch)
      ∧ (s.beating = true → s.camp (c.w 2 % 4) ≠ campActive →
        ∃ t, exec (.meshBroadcast q tag) s = .next t ∧ ends t stBadCamp 0 ∧ t.sch = s.sch)
      ∧ (s.beating = true → s.camp (c.w 2 % 4) = campActive →
        ∃ u : State, exec (.meshBroadcast q tag) s = .next u.plan
          ∧ (∃ d, u.inflight q tag.toNat = some d ∧ d.started = true ∧ d.words = c.words)
          ∧ ∃ r, u.sch.reqs = s.sch.reqs ++ [r] ∧ r.kind = .broadcast ∧ r.target = c.w 2 % 4 ∧ r.state = .pending
            ∧ r.left = c.w 3 ∧ r.tag = tag.toNat ∧ r.queue = q.val ∧ ∀ n : Fin 4, n.val ∈ r.lanes ↔ (c.w 2).testBit (4 + n.val) = true))
    ∧ (∀ (c : HCmd) (r : Request), s.flying q tag.toNat 0 2 = some c →
        s.openReq (c.w 2 / 65536 % 8) (c.w 2 % 65536) = some r → s.inflight (c.w 2 / 65536 % 8) (c.w 2 % 65536) ≠ none →
        ∃ u : State, exec (.adminAbort q tag) s = .next (u.complete q tag.toNat stOk 0) ∧ u.sch.owed = true
          ∧ (∃ e ∈ (u.queue (c.w 2 / 65536 % 8)).held, e.tag = c.w 2 % 65536 ∧ e.status = stCancelled ∧ e.late = false)
          ∧ ∀ e, (u.ticket e).state = tkPlanned → (u.ticket e).stale = false → (u.ticket e).req.map (·.1) ≠ some r.id)
    ∧ (∀ (c : HCmd) (r : Request), s.inflight q tag.toNat = some c → c.cls = 1 → c.timeout ≠ 0 → s.openReq q tag.toNat = some r →
        ∃ u : State, exec (.commandTimeout q tag) s = .next u ∧ u.sch.owed = true
          ∧ (∃ e ∈ (u.queue q).held, e.tag = tag.toNat ∧ e.status = stTimeout ∧ e.late = false)
          ∧ ∀ e, (u.ticket e).state = tkPlanned → (u.ticket e).stale = false → (u.ticket e).req.map (·.1) ≠ some r.id)
    ∧ (∀ c : HCmd, s.flying q tag.toNat 2 8 = some c →
        let a := bufAddr (c.w 3 % 256) (c.w 3 / 256 % 2 ^ 15)
        let x := (s.bankRead (s.submitter q) a (c.w 4)).1
        let u := (s.bankRead (s.submitter q) a (c.w 4)).2
        (∀ bs, x = .ok bs → s.fwd.input.length < 1024 → ∃ t, exec (.fwdOffer q tag) s = .next t ∧ ends t stOk 0
          ∧ ∃ f, t.fwd.input = u.fwd.input ++ [f] ∧ f.body = bs)
        ∧ (∀ bs, x = .ok bs → 1024 ≤ s.fwd.input.length →
          ∃ t, exec (.fwdOffer q tag) s = .next t ∧ ends t stOk 1 ∧ t.fwd.input = s.fwd.input)
        ∧ (x = .refused → ∃ t, exec (.fwdOffer q tag) s = .next t ∧ ends t stOk 2 ∧ t.fwd = s.fwd))

/-- Rings, drops and vectors (R432, R433, R434, R435, spec/17_host_interface_and_events.md). -/
def Obligations.RingsAndVectors : Prop :=
  ∀ (s : State) (src : BusSrc),
    (∀ (r : EvRec) (l : List EvRec), s.hst.evBuf = r :: l → s.erReady = true →
      ∃ t m, exec .eventRecordWrite s = .next t
        ∧ t.out = s.out ++ .hostWrite (s.erBase + s.fld HST_ERHEAD_PTR) r.octets :: m
        ∧ ((s.route r.id).getLsbD 5 = false → m = [])
        ∧ ((s.route r.id).getLsbD 5 = true → let v := getFld (s.route r.id) ⟨0, 0, 5⟩
            s.vecMasked v = false → s.hst.holdoff.contains v = false → m = [.msix v])
        ∧ t.fld HST_ERHEAD_PTR = (s.fld HST_ERHEAD_PTR + 32) % s.erSize % 2 ^ 32
        ∧ (s.hst.evLost = 0 → t.hst.evBuf = l)
        ∧ (s.hst.evLost ≠ 0 → ∃ x, t.hst.evBuf = l ++ [x] ∧ x.id = 246 ∧ x.loss = true ∧ x.data = s.hst.evLost
            ∧ x.seq = s.fld HST_EVSEQ_SEQ ∧ t.hst.evLost = 0))
    ∧ (∀ (id : Fin 256) (d : Word), id.val ≠ 246 → 2048 ≤ s.hst.evBuf.length → (s.route id).getLsbD 6 = true →
      ∃ t, exec (.eventRecordDrop id d) s = .next t ∧ t.hst.evBuf = s.hst.evBuf ∧ t.hst.evLost = s.hst.evLost + 1
        ∧ t.fld (routeCount id) = min (s.fld (routeCount id) + 1) 0xFFFFFFFF
        ∧ t.fld HST_ERSTAT_LOST = min (s.fld HST_ERSTAT_LOST + 1) (2 ^ HST_ERSTAT_LOST.len - 1)
        ∧ t.fld HST_EVSEQ_SEQ = (s.fld HST_EVSEQ_SEQ + 1) % 2 ^ 32
        ∧ t.fld (routeCount 246) = (if s.hst.evFull then s.fld (routeCount 246) else min (s.fld (routeCount 246) + 1) 0xFFFFFFFF))
    ∧ (∀ (r : XRec) (l : List XRec), s.hst.xBuf = r :: l → s.xrReady = true → s.vecMasked (s.fld HST_XRCTL_VEC) = false →
      ∃ t, exec .expressRecordWrite s = .next t
        ∧ t.out = s.out ++ [.hostWrite (s.xrBase + s.fld HST_XRHEAD_PTR) r.octets, .msix (s.fld HST_XRCTL_VEC)]
        ∧ t.hst = { s.hst with xBuf := l }
        ∧ t.fld HST_XRHEAD_PTR = (s.fld HST_XRHEAD_PTR + 128) % s.xrSize % 2 ^ HST_XRHEAD_PTR.len)
    ∧ (∀ v : Fin 32, s.hst.holdoff.count v.val ≤ 1 →
      ∃ t, exec (.vectorHoldoffExpiry v) s = .next t
        ∧ ((s.vecPending v && !s.vecMasked v && s.linkUp) = true → t.out = s.out ++ [.msix v.val] ∧ t.vecPending v = false
          ∧ (t.hst.holdoff.contains v.val = true ↔ s.fld (HST_VECCFG_HOLDOFF v) ≠ 0))
        ∧ ((s.vecPending v && !s.vecMasked v && s.linkUp) = false → t = { s with hst := t.hst } ∧ t.hst.holdoff.contains v.val = false))
    ∧ (∀ v : Fin 32, s.takes (msixEntry v 3) 0 →
      ∃ t, exec (.msixUnmask src v) s = .next t ∧ t.vecMasked v = false
        ∧ ((s.vecPending v && !s.hst.holdoff.contains v.val && s.linkUp) = true → t.out = s.out ++ [.msix v.val] ∧ t.vecPending v = false)
        ∧ ((s.vecPending v && !s.hst.holdoff.contains v.val && s.linkUp) = false → t.out = s.out ∧ t.hst = s.hst))
    ∧ ∀ (c : Fin 16) (id : Fin 512) (d : Word), ∃ t, exec (.eventToCore c id d) s = .next t
        ∧ (s.isCast (0x20 + c.val) = false → t = s)
        ∧ (s.isCast (0x20 + c.val) = true → (s.core c).evq.length < 32 →
          t.core c = { s.core c with evq := (s.core c).evq ++ [(id.val, d.toNat)] } ∧ t.regs = s.regs ∧ ∀ k, k ≠ c.val → t.core k = s.core k)
        ∧ (s.isCast (0x20 + c.val) = true → 32 ≤ (s.core c).evq.length → t.cores = s.cores
          ∧ t.fld (CHB_CEVQ_LOST c) = min (s.fld (CHB_CEVQ_LOST c) + 1) (2 ^ (CHB_CEVQ_LOST c).len - 1))

/-- A link change resets nothing in the device; a Function Level Reset returns rings, vectors and queues to Cold (R63, R420, R438, spec/17_host_interface_and_events.md). -/
def Obligations.LinkChanges : Prop :=
  ∀ s : State,
    (s.linkUp = true → ∃ t, exec .pcieLinkDown s = .next t ∧ t.linkUp = false
      ∧ t.fld (routeCount 244) = min (s.fld (routeCount 244) + 1) 0xFFFFFFFF
      ∧ (∃ l, t.hst.evBuf.length = s.hst.evBuf.length + l ∧ l ≤ 2) ∧ t.hst.xBuf = s.hst.xBuf ∧ t.hst.queues = s.hst.queues
      ∧ t = { s with regs := t.regs, hst := t.hst, out := t.out, cores := t.cores })
    ∧ (∀ (sp : Fin 3) (w : Fin 4) (b : Bool), s.linkUp = false → ∃ t, exec (.pcieLinkUp sp w b) s = .next t ∧ t.linkUp = true
      ∧ t.fld HST_STAT_SPEED = sp.val ∧ t.fld HST_STAT_WIDTH = w.val ∧ t.isSet HST_STAT_BME = b
      ∧ t.fld HST_STAT_DOWNS = (if s.hst.wentDown then min (s.fld HST_STAT_DOWNS + 1) (2 ^ HST_STAT_DOWNS.len - 1) else s.fld HST_STAT_DOWNS)
      ∧ t.fld (routeCount 244) = min (s.fld (routeCount 244) + 1) 0xFFFFFFFF
      ∧ t.hst.xBuf = s.hst.xBuf ∧ t.hst.queues = s.hst.queues
      ∧ t = { s with regs := t.regs, hst := t.hst, out := t.out, cores := t.cores,
                     fwd := { s.fwd with shTab := t.fwd.shTab, shOfs := t.fwd.shOfs } })
    ∧ (s.sys.power = .on → ∃ t, exec .pcieFlr s = .next t
      ∧ (∀ a ∈ [HST_ERBASE_LO, HST_ERBASE_HI, HST_ERSIZE, HST_ERTAIL, HST_ERCTL, HST_XRBASE_LO, HST_XRBASE_HI, HST_XRSIZE, HST_XRTAIL,
          HST_XRCTL], t.get a = coldReg a)
      ∧ (∀ v : Fin 32, t.get (HST_VECCFG v) = coldReg (HST_VECCFG v)
          ∧ ∀ w : Fin 4, t.get (msixEntry v w) = coldReg (msixEntry v w))
      ∧ t.hst.xBuf = s.hst.xBuf ∧ t.hst.holdoff = []
      ∧ (∃ l, t.hst.evBuf.length = s.hst.evBuf.length + l ∧ l ≤ 1)
      ∧ (s.isCast 0x13 = true → s.sys.job.isSome = false → t.isHeld 0x13 = true ∧ t.fld MGT_CASTSTAT_STATE = csQuiesce)
      ∧ (s.isCast 0x13 = true → s.sys.job.isSome = true → t.sys.flr = true ∧ t.sys.job = s.sys.job))

/-- BAR2 reads and writes: the octets, the errors, the refusals (R34, R400, R406, spec/16_memory_banks_and_crucible.md). -/
def Obligations.BarTwoAccess : Prop :=
  ∀ (s : State) (o : BitVec 26) (n : Fin 65) (bs : List Byte), s.sys.power = .on → s.mode ≠ modeDormant →
    let counted (t : State) (id : Nat) : Prop := t.fld (routeCount id) = min (s.fld (routeCount id) + 1) 0xFFFFFFFF
    let caught (t : State) (b : Nat) (write : Bool) : Prop := counted t 232 ∧ t.mem = s.mem ∧ (s.isSet MEM_NOWN_PEND = false →
      t.fld MEM_NOWN_BANK = b % 256 ∧ t.isSet MEM_NOWN_WRITE = write ∧ t.fld MEM_NOWN_REQ = ownHst ∧ t.fld MEM_NOWN_PEND = 1
      ∧ t.fld MEM_NOWN_COUNT = 1)
    (o.toNat + n.val ≤ bar2Size → s.firstRefused ownHst o.toNat n.val = none →
      ((∀ w ∈ wordsOf o.toNat n.val, eccWeight (s.eccMask w) = 0) →
        exec (.hostBar2Read o n) s = .next { s with out := s.out ++ [.octets .pcie (s.cells o.toNat n.val)] })
      ∧ ((∀ w ∈ wordsOf o.toNat n.val, eccWeight (s.eccMask w) ≤ 1) →
        ∃ t l, exec (.hostBar2Read o n) s = .next t ∧ t.mem = s.mem ∧ t.out = s.out ++ l ++ [.octets .pcie (s.cells o.toNat n.val)])
      ∧ ((∃ w ∈ wordsOf o.toNat n.val, 2 ≤ eccWeight (s.eccMask w)) →
        ∃ t l, exec (.hostBar2Read o n) s = .next t ∧ t.mem = s.mem ∧ t.out = s.out ++ l ++ [.poisoned]))
    ∧ (∀ b, o.toNat + n.val ≤ bar2Size → s.firstRefused ownHst o.toNat n.val = some b →
      ∃ t l, exec (.hostBar2Read o n) s = .next t ∧ t.out = s.out ++ l ++ [.completerAbort] ∧ caught t b false)
    ∧ (bar2Size < o.toNat + n.val → exec (.hostBar2Read o n) s = .next { s with out := s.out ++ [.completerAbort] })
    ∧ (o.toNat + bs.length ≤ bar2Size → s.firstRefused ownHst o.toNat bs.length = none →
      ((∀ w ∈ wordsOf o.toNat bs.length, eccWeight (s.eccMask w) ≤ 1) →
        ∃ t, exec (.hostBar2Write o bs) s = .next t ∧ t.cells o.toNat bs.length = bs
          ∧ ∀ a, a < o.toNat ∨ o.toNat + bs.length ≤ a → t.cell a = s.cell a)
      ∧ (∀ w, wordsOf o.toNat bs.length = [w] → bs.length < 8 → 2 ≤ eccWeight (s.eccMask w) →
        ∃ t, exec (.hostBar2Write o bs) s = .next t ∧ t.mem = s.mem ∧ counted t 234
          ∧ t.fld MEM_UECNT_COUNT = min (s.fld MEM_UECNT_COUNT + 1) 0xFFFFFFFF))
    ∧ (∀ b, o.toNat + bs.length ≤ bar2Size → s.firstRefused ownHst o.toNat bs.length = some b →
      ∃ t, exec (.hostBar2Write o bs) s = .next t ∧ caught t b true)
    ∧ (bar2Size < o.toNat + bs.length → exec (.hostBar2Write o bs) s = .next s)

/-- The scrubber and the handover of a bank (R401, R403, R404, spec/16_memory_banks_and_crucible.md). -/
def Obligations.ScrubAndHandover : Prop :=
  ∀ (s : State) (src : BusSrc) (b : Fin 192),
    let counted (t : State) (id : Nat) : Prop := t.fld (routeCount id) = min (s.fld (routeCount id) + 1) 0xFFFFFFFF
    (∀ w, s.isSet MEM_CFG_SCRUBEN = true → s.nextScrub 193 s.mem.scrub = some w →
      ∃ t, exec .scrubVisit s = .next t ∧ t.mem.cells = s.mem.cells
        ∧ (eccWeight (s.eccMask w) ≤ 1 → t.eccMask w = 0)
        ∧ (2 ≤ eccWeight (s.eccMask w) → t.eccMask w = s.eccMask w ∧ counted t 234
          ∧ t.fld MEM_UECNT_COUNT = min (s.fld MEM_UECNT_COUNT + 1) 0xFFFFFFFF)
        ∧ (∀ v, v ≠ w → t.eccMask v = s.eccMask v)
        ∧ (∀ p, s.nextScrub 193 (w + 1) = some p → t.mem.scrub = p ∧ t.fld MEM_STAT_PASSES = s.fld MEM_STAT_PASSES)
        ∧ (s.nextScrub 193 (w + 1) = none → t.mem.scrub = 0 ∧ counted t 237
          ∧ t.fld MEM_STAT_PASSES = min (s.fld MEM_STAT_PASSES + 1) 0xFFFF))
    ∧ (s.isSet MEM_CFG_SCRUBEN = false → exec .scrubVisit s = .next s)
    ∧ (∀ v : Word, s.takes (MEM_BANK_OWN b) v → v.toNat % 32 ≠ s.owner b →
      ∃ t, exec (.bankHandover src b v) s = .next t ∧ t.isSet (MEM_BANK_OWN_PENDING b) = true ∧ t.owner b = s.owner b
        ∧ t.newOwner b = some (v.toNat % 32) ∧ t.mem.cells = s.mem.cells
        ∧ t.mayAccess (s.owner b) b = false ∧ t.mayAccess (v.toNat % 32) b = !s.fenced b)
    ∧ (∀ v : Word, s.takes (MEM_BANK_OWN b) v → v.toNat % 32 = s.owner b →
      ∃ t, exec (.bankHandover src b v) s = .next t ∧ t.mem = s.mem ∧ t.get (MEM_BANK_OWN b) = s.get (MEM_BANK_OWN b))
    ∧ (∀ o, s.newOwner b = some o → o < 32 →
      ∃ t, exec (.handoverComplete b) s = .next t ∧ t.owner b = o ∧ t.isSet (MEM_BANK_OWN_PENDING b) = false
        ∧ t.mem.cells = s.mem.cells ∧ t.mem.ecc = s.mem.ecc ∧ counted t 235
        ∧ ∀ k, k ≠ b.val → t.newOwner k = s.newOwner k ∧ t.get (MEM_BANK_OWN k) = s.get (MEM_BANK_OWN k))
    ∧ (s.newOwner b = none → exec (.handoverComplete b) s = .next s)

/-- The commands that reach the banks keep the canonical form of the stored octets (spec/16_memory_banks_and_crucible.md, spec/01_beat_and_stations.md). -/
def Obligations.BankCommandsKeepCanonicalForm : Prop :=
  ∀ (s t : State) (c : Instr) (r : List Instr), s.memWf = true → s.pending = c :: r →
    (∃ src o n bs v b ofs ws q tag cnt,
      c ∈ [Instr.hostBar2Read o n, .hostBar2Write o bs, .spiReadb2 ofs n, .spiWriteb2 ofs ws, .spiStage v ws, .scrubVisit,
        .bankHandover src b cnt, .handoverComplete b, .fwdOffer q tag, .commandFetched q ws, .completionWrite q]) →
    step s = .next t → t.memWf = true ∧ t.pending = r

/-- The state at reset (R403, spec/16_memory_banks_and_crucible.md, spec/03_modes_and_startup.md). -/
def Obligations.ResetState : Prop :=
  State.reset.pending = [] ∧ (∀ a, State.reset.get a = coldReg a) ∧ State.reset.memWf = true ∧ State.reset.mem.cells = []
    ∧ ∀ b : Fin 192, State.reset.owner b = 0

/-- What each SPI opcode answers and does (R34, R54, R96, R432, R434, R436, spec/17_host_interface_and_events.md). -/
def Obligations.SpiOpcodes : Prop :=
  ∀ s : State, s.sys.power = .on →
    let counted (t : State) (id : Nat) : Prop := t.fld (routeCount id) = min (s.fld (routeCount id) + 1) 0xFFFFFFFF
    let replies (l : List Byte) : State := { s with out := s.out ++ [.octets .spi l] }
    let x := s.queue 7
    let bit (b : Bool) : Nat := if b then 1 else 0
    exec .spiId s = .next (replies (leBytes 4 (s.get MGT_DEVID).toNat))
    ∧ exec .spiStatus s = .next (replies [BitVec.ofNat 8 (bit s.linkUp + 2 * bit (!s.hst.evBuf.isEmpty) + 4 * bit (!x.held.isEmpty)
        + 8 * bit (!s.hst.xBuf.isEmpty))])
    ∧ (∀ (a : BitVec 24) (n : Fin 65), (∀ k, k < n.val → (s.busRead (a.toNat + 4 * k)).2 = s) →
        exec (.spiRead32 a n) s = .next (replies ((List.range n.val).flatMap (fun k => leBytes 4 (s.busRead (a.toNat + 4 * k)).1.toNat))))
    ∧ (∀ (a : BitVec 24) (w : Word) (ws : List Word), a.toNat + 4 < 2 ^ 24 →
        ∃ t, exec (.registerWrite .spi a .word w) s = .next t ∧ exec (.spiWrite32 a (w :: ws)) s = exec (.spiWrite32 (a + 4) ws) t
          ∧ exec (.spiWrite32 a [w]) s = .next t)
    ∧ (∀ (o : BitVec 32) (n : Fin 65), s.mode ≠ modeDormant → o.toNat + 4 * n.val ≤ bar2Size →
        s.firstRefused ownHst o.toNat (4 * n.val) = none → (∀ w ∈ wordsOf o.toNat (4 * n.val), eccWeight (s.eccMask w) = 0) →
        exec (.spiReadb2 o n) s = .next (replies (s.cells o.toNat (4 * n.val))))
    ∧ (∀ (o : BitVec 32) (ws : List Word), s.mode ≠ modeDormant → o.toNat + 4 * ws.length ≤ bar2Size →
        s.firstRefused ownHst o.toNat (4 * ws.length) = none → (∀ w ∈ wordsOf o.toNat (4 * ws.length), eccWeight (s.eccMask w) ≤ 1) →
        ∃ t, exec (.spiWriteb2 o ws) s = .next t ∧ t.cells o.toNat (4 * ws.length) = ws.flatMap (fun w => leBytes 4 w.toNat)
          ∧ ∀ a, a < o.toNat ∨ o.toNat + 4 * ws.length ≤ a → t.cell a = s.cell a)
    ∧ (∀ (o : BitVec 24) (ws : List Word), s.mode ≠ modeDormant → s.fld MGT_CASTID_CASTID = 0 → o.toNat + 4 * ws.length ≤ 0x800000 →
        (∀ b, b < 32 → s.mayAccess (s.owner b) b = true) → (∀ w, w < 2 ^ 20 → s.eccMask w = 0) → o.toNat % 4 = 0 →
        ∃ t, exec (.spiStage o ws) s = .next t ∧ t.cells o.toNat (4 * ws.length) = ws.flatMap (fun w => leBytes 4 w.toNat)
          ∧ ∀ a, a < o.toNat ∨ o.toNat + 4 * ws.length ≤ a → t.cell a = s.cell a)
    ∧ (s.hst.evBuf = [] → exec .spiEvtpop s = .next (replies (List.replicate 32 0#8)))
    ∧ (∀ r l, s.hst.evBuf = r :: l → ∃ t m, exec .spiEvtpop s = .next t ∧ t.out = s.out ++ .octets .spi r.octets :: m
        ∧ (s.hst.evLost = 0 → t.hst.evBuf = l) ∧ ((s.route r.id).getLsbD 5 = false → m = []))
    ∧ (s.hst.xBuf = [] → exec .spiXpop s = .next (replies (List.replicate 128 0#8)))
    ∧ (∀ r l, s.hst.xBuf = r :: l → exec .spiXpop s = .next { replies r.octets with hst := { s.hst with xBuf := l } })
    ∧ (∀ ws : List Word, s.live 0x13 = true → s.isSet (HST_QCFG_EN 7) = false → x.spiCmd = false →
        (∀ m ∈ x.memory, m.tag ≠ (ws.map (·.toNat)).headD 0 / 65536) → (∀ d ∈ x.inflight, d.tag ≠ (ws.map (·.toNat)).headD 0 / 65536) →
        ∃ t, exec (.spiSubmit ws) s = .next t ∧ (t.queue 7).spiCmd = true
          ∧ ((t.queue 7).inflight = x.inflight ++ [⟨(ws.map (·.toNat)).headD 0 / 65536, ws.map (·.toNat), false⟩]
            ∨ ∃ e ∈ (t.queue 7).held, e.tag = (ws.map (·.toNat)).headD 0 / 65536 ∧ e.status = stBadOp))
    ∧ (∀ ws : List Word, (s.isSet (HST_QCFG_EN 7) || x.spiCmd) = true →
        ∃ t, exec (.spiSubmit ws) s = .next t ∧ counted t 249 ∧ t.queue 7 = x)
    ∧ (x.held = [] → exec .spiCplpop s = .next (replies (List.replicate 64 0#8)))
    ∧ (∀ c l, x.held = c :: l → ∃ t, exec .spiCplpop s = .next t
        ∧ t.out = s.out ++ [.octets .spi (c.octets x.phase (s.fld (HST_QSTAT_SQHEAD 7)) s.beat)]
        ∧ t.queue 7 = { x with held := l, spiCmd := false } ∧ t.regs = s.regs)
    ∧ ∃ t, exec .spiUnknownOpcode s = .next t ∧ counted t 249 ∧ t.mem = s.mem

/-- The TAP's instructions, and what PORST_N high does to three of them (R437). -/
def Obligations.TapInstructions : Prop :=
  ∀ s : State, let ir (n : Nat) : State := { s with hst := { s.hst with tapIr := n } }
    exec .tapBypass s = .next (ir tapBypass) ∧ exec .tapSamplePreload s = .next (ir tapSample)
    ∧ exec .tapIdcode s = .next { ir tapIdcode with out := s.out ++ [.tdo 0x29640D4B] }
    ∧ exec .tapExtest s = .next (ir (if s.sys.power = .inReset then tapExtest else tapBypass))
    ∧ exec .tapClamp s = .next (ir (if s.sys.power = .inReset then tapClamp else tapBypass))
    ∧ exec .tapHighz s = .next (ir (if s.sys.power = .inReset then tapHighz else tapBypass))

/-- Decoding an encoded syllable gives it back, with its stop bit (R343, R347, R348, R349, R351, spec/13_chaser_instruction_set.md). -/
def Obligations.SyllableRoundTrip : Prop :=
  ∀ (stop : Bool) (y : Syl), decodeSyl (encodeSyl stop y) = some y ∧ (encodeSyl stop y).msb = stop

/-- What a bundle of a running core does, unit by unit (R342, R345, R347, R348, R349, R351, R352, R354, R356, R372, R386, spec/13_chaser_instruction_set.md). -/
def Obligations.BundleExecution : Prop :=
  ∀ (s : State) (c : Fin 16) (y : Cyc),
    let k := s.core c
    let one (e : Syl) : Prop := k.pc.toNat < 0x8000 ∧ k.syl k.pc.toNat = encodeSyl true e
    let two (e f : Syl) : Prop := k.pc.toNat + 1 < 0x8000 ∧ k.syl k.pc.toNat = encodeSyl false e
      ∧ k.syl (k.pc.toNat + 1) = encodeSyl true f
    let issues (p : Core → Prop) : Prop := ∃ t, exec (.bundleIssue c y) s = .next t ∧ p (t.core c) ∧ t.mem = s.mem
    let rest (u : Core) : Prop := u.shadow = k.shadow ∧ u.levels = k.levels ∧ u.th = k.th ∧ u.halted = k.halted
    let same (u : Core) : Prop := u.mem = k.mem ∧ u.rsp = k.rsp ∧ rest u
    (s.coreRuns c = false ∨ k.halted = true ∨ k.wait = true ∨ s.intDue c ≠ none → exec (.bundleIssue c y) s = .next s)
    ∧ (s.coreRuns c = true → k.halted = false → k.wait = false → s.intDue c = none → k.set.loop0.cnt = 0 → k.set.loop1.cnt = 0 →
      (∀ e : ASyl, (∀ n a, e ≠ .cust n a) → one (.a e) → e.effect.1.le k.stk.size = true →
        (e.effect.2.add (k.stk.drop e.effect.1).size).le stackCap = true →
        let r := e.eval k.set.frm.toNat (k.stk.take e.effect.1)
        issues (fun u => u.stk = r.out.push (k.stk.drop e.effect.1)
          ∧ u.set = { k.set with x := u.set.x, y := u.set.y, a := u.set.a, f := u.set.f, t := r.t.getD k.set.t
                                 flags := k.set.flags ||| BitVec.ofNat 5 r.flags, satf := k.set.satf || r.sat }
          ∧ u.pc = k.pc + 1 ∧ same u))
      ∧ (∀ (a b : Word) (x : List Word), k.set.x = b :: a :: x → x.length ≤ 14 → k.set.y.length ≤ 16 → k.set.a.length ≤ 8 → k.set.f.length ≤ 8 →
        (one (.a (.plain .add)) → issues (fun u => u.set.x = (a + b) :: x ∧ u.set.t = k.set.t))
        ∧ (one (.a (.plain .sub)) → issues (fun u => u.set.x = (a - b) :: x ∧ u.set.t = k.set.t))
        ∧ (one (.a (.plain .cmplt)) → issues (fun u => u.set.x = x ∧ u.set.t = decide (a.toInt < b.toInt))))
      ∧ (∀ (v w : Word) (z : Acc) (x q : List Word) (l : List Acc), one (.m false (.bin .mac false false false false false false)) →
        k.set.x = v :: x → k.set.y = w :: q → k.set.a = z :: l → x.length ≤ 15 → q.length ≤ 15 → l.length ≤ 7 → k.set.f.length ≤ 8 →
        issues (fun u => u.set.x = x ∧ u.set.y = q ∧ u.pc = k.pc + 1 ∧ same u
          ∧ u.set.a = BitVec.ofInt 40 (z.toInt + 2 * ((v.extractLsb' 0 16).toInt * (w.extractLsb' 0 16).toInt)) :: l))
      ∧ (∀ (p : BitVec 3) (d : BitVec 15) (v : Word) (x : List Word), one (.l (.acc .stxW p 1 d)) → k.set.x = v :: x → x.length ≤ 15 →
        k.set.y.length ≤ 16 → k.set.a.length ≤ 8 → k.set.f.length ≤ 8 → (k.ptr p.toNat).toNat < 0x10000 → (k.ptr p.toNat).toNat % 4 = 0 →
        issues (fun u => u.set.x = x ∧ u.load (k.ptr p.toNat).toNat 4 = v.toNat ∧ u.pc = k.pc + 1 ∧ rest u ∧ u.rsp = k.rsp
          ∧ u.ptr p.toNat = k.ptr p.toNat + BitVec.ofInt 32 (4 * d.toInt)
          ∧ ∀ a, a < (k.ptr p.toNat).toNat ∨ (k.ptr p.toNat).toNat + 4 ≤ a → u.bytes a 1 = k.bytes a 1))
      ∧ (∀ p : BitVec 3, one (.l (.acc .ldxW p 0 0)) → k.set.x.length ≤ 15 → k.set.y.length ≤ 16 → k.set.a.length ≤ 8 →
        k.set.f.length ≤ 8 → (k.ptr p.toNat).toNat < 0x20000 → (k.ptr p.toNat).toNat % 4 = 0 →
        issues (fun u => u.set = { k.set with x := BitVec.ofNat 32 (k.load (k.ptr p.toNat).toNat 4) :: k.set.x } ∧ u.pc = k.pc + 1 ∧ same u))
      ∧ (∀ (q : Cond) (off : BitVec 16), one (.c (.br q off)) → k.set.x.length ≤ 16 → k.set.y.length ≤ 16 → k.set.a.length ≤ 8 →
        k.set.f.length ≤ 8 →
        issues (fun u => u.set = k.set ∧ same u ∧ u.pc = (if q.holds k.set.t then k.pc + off else k.pc + 1)))
      ∧ (∀ q : Cond, two (.a (.plain .add)) (.c (.guard q)) → q.holds k.set.t = false →
        issues (fun u => u.set = k.set ∧ same u ∧ u.pc = k.pc + 2))
      ∧ (∀ (m i : BitVec 15), two (.c (.call m)) (.lit i) → k.badStack = none → k.rsl.toNat + 4 * (maskWords m.toNat + 1) ≤ k.rsp.toNat →
        k.set.x.length ≤ 16 → k.set.y.length ≤ 16 → k.set.a.length ≤ 8 → k.set.f.length ≤ 8 →
        issues (fun u => u.pc = i.setWidth 16 ∧ u.set = k.set ∧ rest u
          ∧ u.rsp.toNat + 4 * (maskWords m.toNat + 1) = k.rsp.toNat ∧ u.link = m.toNat * 2 ^ 16 + (k.pc.toNat + 2) % 2 ^ 15
          ∧ u.frameAt = k.frameWords m.toNat))
      ∧ (one (.c .ret) → k.badStack = none → k.rsp.toNat < k.rsb.toNat → k.link / 2 ^ 16 = 0 → k.rsp.toNat + 4 ≤ 0x20000 →
        k.set.x.length ≤ 16 → k.set.y.length ≤ 16 → k.set.a.length ≤ 8 → k.set.f.length ≤ 8 →
        issues (fun u => u.pc.toNat = k.link % 2 ^ 15 ∧ u.rsp = k.rsp + 4 ∧ u.set = k.set ∧ u.mem = k.mem ∧ rest u))
      ∧ (∀ (v : Word) (x : List Word), one (.c (.movtc .sr)) → k.set.u = true → k.set.x = v :: x → x.length ≤ 15 → k.set.y.length ≤ 16 →
        k.set.a.length ≤ 8 → k.set.f.length ≤ 8 →
        issues (fun u => same u ∧ u.pu = k.pu ∧ u.pie = k.pie ∧ u.set = { k.set with x := x, t := v.getLsbD 0, frm := v.extractLsb' 6 2
                                                                                     flags := v.extractLsb' 8 5, satf := v.getLsbD 13 }))
      ∧ (one (.c .yield) → k.levels = [] → k.set.x.length ≤ 16 → k.set.y.length ≤ 16 → k.set.a.length ≤ 8 → k.set.f.length ≤ 8 →
        issues (fun u => u.wait = true ∧ u.pc = k.pc + 1 ∧ u.set = k.set ∧ same u)))

/-- A bundle that traps commits nothing, and the entry saves what R359 says (R340, R344, R357, R358, R359, R360, spec/13_chaser_instruction_set.md). -/
def Obligations.BundleTraps : Prop :=
  ∀ (s : State) (c : Fin 16) (y : Cyc), s.coreRuns c = true → (s.core c).halted = false → (s.core c).wait = false → s.intDue c = none →
    let k := s.core c
    let one (e : Syl) : Prop := k.pc.toNat < 0x8000 ∧ k.syl k.pc.toNat = encodeSyl true e
    let event := routeCount (201 + 2 * c.val)
    let traps (cause : Nat) (tval : Word) (tpc : BitVec 15) : Prop :=
      ∃ t, exec (.bundleIssue c y) s = .next t ∧ t.mem = s.mem ∧ (t.core c).mem = k.mem ∧ (t.core c).rsp = k.rsp
        ∧ (t.core c).shadow = k.shadow ∧ (t.core c).levels = k.levels
        ∧ (k.th = false → (t.core c).set = { k.set with tpc := tpc, tcause := BitVec.ofNat 32 cause, tval := tval, u := false, ie := false }
          ∧ (t.core c).pu = k.set.u ∧ (t.core c).pie = k.set.ie ∧ (t.core c).th = true ∧ (t.core c).pc = k.tvec.setWidth 16
          ∧ (t.core c).halted = false
          ∧ t.fld event = (if k.treport.getLsbD cause then min (s.fld event + 1) 0xFFFFFFFF else s.fld event))
        ∧ (k.th = true → (t.core c).halted = true ∧ (t.core c).set = k.set ∧ (t.core c).pu = k.pu ∧ (t.core c).pie = k.pie
          ∧ t.fld event = min (s.fld event + 1) 0xFFFFFFFF)
    (0x8000 ≤ k.pc.toNat → traps 1 (k.pc.setWidth 32) (k.pc.setWidth 15))
    ∧ (k.pc.toNat < 0x8000 → (k.syl k.pc.toNat).msb = true → decodeSyl (k.syl k.pc.toNat) = none →
      traps 2 (k.syl k.pc.toNat) (k.pc.setWidth 15))
    ∧ (one (.a (.plain .add)) → k.set.x.length < 2 → traps 4 0 (k.pc.setWidth 15))
    ∧ (one (.c .reti) → k.set.u = true → traps 3 (k.syl k.pc.toNat) (k.pc.setWidth 15))
    ∧ (∀ n : BitVec 8, one (.c (.trap n)) → k.set.loop0.cnt = 0 → k.set.loop1.cnt = 0 → k.set.x.length ≤ 16 → k.set.y.length ≤ 16 →
      k.set.a.length ≤ 8 → k.set.f.length ≤ 8 → k.th = false →
      ∃ t, exec (.bundleIssue c y) s = .next t ∧ (t.core c).pc = k.tvec.setWidth 16 ∧ (t.core c).th = true ∧ (t.core c).mem = k.mem
        ∧ (t.core c).set = { k.set with tpc := (k.pc + 1).setWidth 15, tcause := 18, tval := n.setWidth 32, u := false, ie := false })

/-- Interrupts, deadlines, doorbells, offers and the performance counters (R28, R272, R379, R380, R382, R391, R395, R397, R398, spec/14_chaser_datapath.md, spec/15_core_counters.md). -/
def Obligations.InterruptsAndCounters : Prop :=
  ∀ (s : State) (src : BusSrc) (c : Fin 16),
    let k := s.core c
    let pulse (f : Fld) : Prop := s.takes f.addr (s.setWord f.addr [(f, 1)])
    let base := 0x200000 + 0x10000 * c.val
    (∀ (o : IntSrc) (pri lat : Nat), s.coreRuns c = true → k.halted = false → s.intDue c = some (o, pri) → k.levels = [] →
      ∃ t, exec (.interruptEntry c lat) s = .next t ∧ (t.core c).pc = BitVec.ofNat 16 (s.vector c o)
        ∧ (t.core c).set = { k.shadow with x := s.entryItems c o, y := [], a := [], f := [], t := false, frm := 0, u := false, ie := false }
        ∧ (t.core c).shadow = k.set ∧ (t.core c).levels = [(o, pri)] ∧ (t.core c).retPc = k.pc ∧ (t.core c).wait = false
        ∧ (o = .beat → (t.core c).beatPend = none) ∧ (o = .doorbell → (t.core c).dbPend = false) ∧ (t.core c).mem = k.mem)
    ∧ (∀ lat : Nat, k.set.ie = false ∨ k.th = true → exec (.interruptEntry c lat) s = .next s)
    ∧ (s.beating = true → ∃ t, exec .chaserDeadline s = .next t ∧ s.tim.ts ≤ t.tim.ts ∧ t.tim.last = s.tim.last
      ∧ ((k.due && k.owed && !k.halted && s.isSet (CHB_CBEATVEC_EN c)) = true → (t.core c).skip = true ∧ (t.core c).due = false
        ∧ t.fld (CHB_COVR_COUNT c) = min (s.fld (CHB_COVR_COUNT c) + 1) (2 ^ (CHB_COVR_COUNT c).len - 1)
        ∧ t.fld (routeCount (200 + 2 * c.val)) = min (s.fld (routeCount (200 + 2 * c.val)) + 1) 0xFFFFFFFF)
      ∧ ((k.due && k.owed && !k.halted && s.isSet (CHB_CBEATVEC_EN c)) = false → (t.core c).skip = k.skip
        ∧ t.fld (CHB_COVR_COUNT c) = s.fld (CHB_COVR_COUNT c)
        ∧ t.fld (routeCount (200 + 2 * c.val)) = s.fld (routeCount (200 + 2 * c.val))))
    ∧ (∀ d : BitVec 16, s.takes (CHB_CDOORBELL c) (putAll 0 [(CHB_CDOORBELL_RING c, 1), (CHB_CDOORBELL_DATA c, d.toNat)]) →
      ∃ t, exec (.doorbellRing src c d) s = .next t ∧ t.fld (CHB_CDOORBELL_DATA c) = d.toNat ∧ t.core c = { k with dbPend := true })
    ∧ (∀ n : BitVec 11, s.takes (CHB_COFFER1 c) (putAll 0 [(CHB_COFFER1_GO c, 1), (CHB_COFFER1_LEN c, n.toNat)]) →
      ∃ t, exec (.coreOffer src c n) s = .next t ∧ t.fld (CHB_COFFER1_BUSY c) = 1
        ∧ t.core c = { k with offer := some (s.fld (CHB_COFFER0_BANK c), s.fld (CHB_COFFER0_BOFS c), n.toNat) })
    ∧ (∀ b o n, k.offer = some (b, o, n) →
      let x := (s.bankRead (0x10 + c.val) (bufAddr b o) n).1
      ∃ t, exec (.offerCopyDone c) s = .next t ∧ t.fld (CHB_COFFER1_BUSY c) = 0 ∧ (t.core c).offer = none
        ∧ (∀ bs, x = .ok bs → s.fwd.input.length < 1024 → t.fld (CHB_COFFER1_STATUS c) = 0 ∧ ∃ f, t.fwd.input = s.fwd.input ++ [f] ∧ f.body = bs)
        ∧ (∀ bs, x = .ok bs → 1024 ≤ s.fwd.input.length → t.fld (CHB_COFFER1_STATUS c) = 1 ∧ t.fwd.input = s.fwd.input)
        ∧ (x = .refused → t.fld (CHB_COFFER1_STATUS c) = 2 ∧ t.fwd = s.fwd))
    ∧ (∀ (j : Fin 48) (high : Bool) (v : Word), s.takes (base + 0x1100 + 8 * j.val + (if high then 4 else 0)) v →
      ∃ t, exec (.pmuCounterWrite src c j high v) s = .next t
        ∧ (t.core c).count j = (if high then v.toNat % 2 ^ 16 * 2 ^ 32 + k.count j % 2 ^ 32 else k.count j / 2 ^ 32 * 2 ^ 32 + v.toNat)
        ∧ (∀ i, i ≠ j.val → (t.core c).count i = k.count i) ∧ t.regs = s.regs)
    ∧ (k.wait = false → k.halted = false → pulse (PMU_CTL_SNAP c) →
      ∃ t, exec (.pmuSnap src c 0) s = .next t ∧ (t.core c).pmu.snap = k.pmu.cnt ∧ (t.core c).pmu.cnt = k.pmu.cnt)
    ∧ (pulse (PMU_CTL_SRESET c) → ∃ t, exec (.pmuSampleReset src c) s = .next t
      ∧ (t.core c).pmu = { k.pmu with samples := [], next := 0, full := false, count := 0, seq := 0 })
    ∧ (s.coreRuns c = true → k.wait = true → ∃ t, exec (.cycleCounterWrap c 0) s = .next t ∧ (t.core c).count 0 = 0
      ∧ t.fld (pairBit (PMU_OVF_LO c) (PMU_OVF_HI c) 0) = 1)
    ∧ (∀ j, s.coreRuns c = false → exec (.cycleCounterWrap c j) s = .next s)

/-- The real-time clock: writes in transfer, the second, leaps, alarms and resynchronisation (R163, R451, R452, R453, R454, R455, R456, spec/18_clocks_power_backup.md). -/
def Obligations.RealTimeClock : Prop :=
  ∀ (s : State) (src : BusSrc),
    let t0 := s.rtcTime
    let arm := s.isSet BKP_CTL_LEAPARM
    let neg := s.isSet BKP_CTL_LEAPNEG
    let inTransfer (t : State) (a : Nat) (v : Word) : Prop := t.bkp = { s.bkp with xfer := some (a, v) } ∧ t.isSet BKP_STAT_BUSY = true
      ∧ t.get BKP_TIME = s.get BKP_TIME ∧ t.get BKP_DATE = s.get BKP_DATE
    (∀ v : Word, s.takes BKP_DATE v → ∃ t, exec (.rtcDateWrite src v) s = .next t ∧ inTransfer t BKP_DATE v)
    ∧ (∀ v : Word, s.takes BKP_TIME v → ∃ t, exec (.rtcTimeWrite src v) s = .next t ∧ inTransfer t BKP_TIME v)
    ∧ (s.takes BKP_CTL (s.setWord BKP_CTL [(BKP_CTL_DIPCLR, 1)]) → ∃ t u, exec (.dipsClear src) s = .next t
      ∧ exec .bkpWriteTransferDone t = .next u ∧ u.fld BKP_STAT_DIPS = 0 ∧ u.fld BKP_STAT_BUSY = 0
      ∧ u.fld BKP_CTL_LEAPARM = s.fld BKP_CTL_LEAPARM ∧ u.fld BKP_CTL_LEAPNEG = s.fld BKP_CTL_LEAPNEG)
    ∧ (s.bkp.xfer = none → exec .bkpWriteTransferDone s = .next s)
    ∧ (∀ v : Word, s.bkp.xfer = some (BKP_DATE, v) → ∃ t, exec .bkpWriteTransferDone s = .next t ∧ t.fld BKP_STAT_BUSY = 0
      ∧ t.bkp = { s.bkp with xfer := none, heldDate := some v } ∧ t.get BKP_DATE = s.get BKP_DATE ∧ t.get BKP_TIME = s.get BKP_TIME)
    ∧ (∀ v : Word, s.bkp.xfer = some (BKP_TIME, v) → ∃ t, exec .bkpWriteTransferDone s = .next t ∧ t.fld BKP_STAT_BUSY = 0
      ∧ t.bkp.xfer = none ∧ t.bkp.heldDate = none ∧ t.get BKP_TIME = v ∧ t.get BKP_DATE = s.bkp.heldDate.getD (s.get BKP_DATE))
    ∧ (∃ t, exec .rtcSecond s = .next t
      ∧ (t0 < 86398 ∨ (t0 = 86398 ∧ (arm && neg) = false) → t.get BKP_TIME = timeWord (t0 + 1) ∧ t.get BKP_DATE = s.get BKP_DATE
        ∧ t.fld BKP_CTL_LEAPARM = s.fld BKP_CTL_LEAPARM)
      ∧ (t0 = 86399 → (arm && !neg) = true → t.get BKP_TIME = 0x235960 ∧ t.get BKP_DATE = s.get BKP_DATE)
      ∧ (t0 = 86399 ∧ (arm && !neg) = false ∨ t0 = 86400 ∨ (t0 = 86398 ∧ (arm && neg) = true) →
        t.get BKP_TIME = 0 ∧ t.get BKP_DATE = dateWord (nextDay s.rtcDate).2)
      ∧ (t0 = 86400 ∨ (t0 = 86398 ∧ (arm && neg) = true) → t.fld BKP_CTL_LEAPARM = 0)
      ∧ ∀ n : Fin 2, s.isSet (BKP_ALMTIME_EN n) = true → t.alarmDay n t.rtcDate = true → t.alarmSecond n t.rtcTime = true →
        t.isSet ⟨BKP_STAT, n, 1⟩ = true)
    ∧ (∀ ofs : Int, s.mode = modeService → s.isSet TIM_STAT_TVALID = true → 1 ≤ s.leapCount → (arm = true → s.utc.2 < 86340) →
      ∃ t, exec (.rtcResync ofs) s = .next t ∧ t.get BKP_TIME = timeWord s.utc.2 ∧ t.get BKP_DATE = dateWord s.utc.1
        ∧ t.isSet BKP_STAT_LOWV = false ∧ t.fld BKP_SYNC_OFS = ofSigned 24 (satSigned 24 ofs)
        ∧ t.fld (routeCount 254) = min (s.fld (routeCount 254) + 1) 0xFFFFFFFF)
    ∧ (∀ ofs : Int, s.mode ≠ modeService → exec (.rtcResync ofs) s = .next s)

/-- Brown-out warnings, trust in the backup domain, and the charger (R446, R448, R450, R455, R458, R459, spec/18_clocks_power_backup.md). -/
def Obligations.SupplyAndTrust : Prop :=
  ∀ s : State,
    let dipped (t : State) : Prop := t.fld BKP_STAT_DIPS = min (s.fld BKP_STAT_DIPS + 1) 255 ∧ t.isSet BKP_STAT_LOWV = true
      ∧ (s.isSet BKP_STAT_LOWV = false → s.sys.power = .on → t.fld (routeCount 255) = min (s.fld (routeCount 255) + 1) 0xFFFFFFFF)
      ∧ (s.isSet BKP_STAT_LOWV = false → s.sys.power ≠ .on → t.bkp.latched = s.bkp.latched ++ [255])
      ∧ (s.isSet BKP_STAT_LOWV = true → t.bkp = s.bkp ∧ t.hst = s.hst)
    (∀ n : Fin 3, s.sys.power = .on → s.isSet MGT_PWRSTAT_BOWARN = false → n.val ≠ 0 ∨ s.isSet MGT_PWRCFG_PFAILEN = true →
      ∃ t, exec (.brownoutWarning n) s = .next t ∧ t.fld MGT_PWRSTAT_BOWARN = 1
        ∧ t.fld MGT_PWRSTAT_BOCNT = min (s.fld MGT_PWRSTAT_BOCNT + 1) (2 ^ MGT_PWRSTAT_BOCNT.len - 1)
        ∧ t.fld (routeCount 11) = min (s.fld (routeCount 11) + 1) 0xFFFFFFFF ∧ t.fld MGT_COMMIT_LASTTRIG = 3
        ∧ t.isSet MGT_COMMIT_BUSY = true ∧ t.mode = s.mode)
    ∧ (∀ n : Fin 3, s.isSet MGT_PWRSTAT_BOWARN = true ∨ (n.val = 0 ∧ s.isSet MGT_PWRCFG_PFAILEN = false) →
      ∃ t, exec (.brownoutWarning n) s = .next t ∧ t = { s with pins := t.pins, bkp := { s.bkp with low := t.bkp.low } })
    ∧ (∃ t, exec .brownoutEnd s = .next t ∧ t.fld MGT_PWRSTAT_BOWARN = 0 ∧ t.bkp.low = []
      ∧ (∀ a, a ≠ MGT_PWRSTAT → t.get a = s.get a) ∧ t.cru = s.cru ∧ t.fld MGT_PWRSTAT_BOCNT = s.fld MGT_PWRSTAT_BOCNT)
    ∧ (s.bkp.vddIo = true → exec .vbatLow s = .next s)
    ∧ (s.bkp.vddIo = false → ∃ t, exec .vbatLow s = .next t ∧ dipped t)
    ∧ (∃ t, exec .xt32Stop s = .next t ∧ dipped t ∧ t.isSet BKP_STAT_OSCSTOP = true ∧ t.fld MGT_CLKSTAT_XT32 = 0)
    ∧ (∃ t, exec .chargerTargetReached s = .next t ∧ t.fld BKP_TRICKLE_CHARGING = 0 ∧ (∀ a, a ≠ BKP_TRICKLE → t.get a = s.get a)
      ∧ t.fld BKP_TRICKLE_EN = s.fld BKP_TRICKLE_EN)
    ∧ (∃ t, exec .chargerResume s = .next t
      ∧ ((s.isSet BKP_TRICKLE_EN && s.bkp.vddIo) = true → t.fld BKP_TRICKLE_CHARGING = 1)
      ∧ ((s.isSet BKP_TRICKLE_EN && s.bkp.vddIo) = false → t = s) ∧ ∀ a, a ≠ BKP_TRICKLE → t.get a = s.get a)
    ∧ (∃ t, exec .backupDomainPowerOn s = .next t ∧ (∀ a, 0x110000 ≤ a → a < 0x120000 → t.get a = coldReg a)
      ∧ t.rtcDate = ⟨0, 1, 1⟩ ∧ t.rtcTime = 0 ∧ t.isSet BKP_STAT_LOWV = true ∧ t.fld BKP_TRICKLE_CHARGING = 0
      ∧ t.bkp.xfer = none ∧ t.bkp.heldDate = none ∧ t.mem = s.mem)

/-- Every command is answered with a next state (the model stops on none) (spec/00_scope.md, spec/19_crossings_and_limits.md). -/
def Obligations.EveryCommandAnswers : Prop :=
  ∀ (c : Instr) (s : State), ∃ t, exec c s = .next t
end

