-- ==== Sys2Proof/Laws/Sparse.lean ====
section
/-! SUPPORT. The laws of the sparse tables: a read after a write, and that a write keeps the canonical form. -/

namespace Sys2Proof.Laws

open Sys2Proof.Machine

theorem tabGet_erase_same {β : Type} (d : β) (a : Nat) (m : List (Nat × β)) :
    tabGet d (tabErase a m) a = d := by
  induction m with
  | nil => rfl
  | cons p r ih =>
    obtain ⟨k, v⟩ := p
    by_cases h : k = a
    · simp [tabErase, h, ih]
    · simp [tabErase, h, tabGet, ih, Ne.symm h]

theorem tabGet_erase_other {β : Type} (d : β) {a b : Nat} (hab : b ≠ a) (m : List (Nat × β)) :
    tabGet d (tabErase a m) b = tabGet d m b := by
  induction m with
  | nil => rfl
  | cons p r ih =>
    obtain ⟨k, v⟩ := p
    by_cases h : k = a
    · subst h; simp [tabErase, tabGet, hab, ih]
    · simp only [tabErase, h, if_false, tabGet, ih]

theorem tabGet_insert_other {β : Type} (d : β) {a b : Nat} (hab : b ≠ a) (v : β) (m : List (Nat × β)) :
    tabGet d (tabInsert a v m) b = tabGet d m b := by
  induction m with
  | nil => simp [tabInsert, tabGet, hab]
  | cons p r ih =>
    obtain ⟨k, w⟩ := p
    by_cases h : a < k
    · simp [tabInsert, h, tabGet, hab]
    · simp only [tabInsert, h, if_false, tabGet, ih]

theorem tabGet_insert_same {β : Type} (d : β) (a : Nat) (v : β) (m : List (Nat × β)) :
    tabGet d (tabInsert a v (tabErase a m)) a = v := by
  induction m with
  | nil => simp [tabErase, tabInsert, tabGet]
  | cons p r ih =>
    obtain ⟨k, w⟩ := p
    by_cases h : k = a
    · simp [tabErase, h, ih]
    · by_cases h2 : a < k
      · simp [tabErase, h, tabInsert, h2, tabGet]
      · simp [tabErase, h, tabInsert, h2, tabGet, ih, Ne.symm h]

/-- Reading the key that was written gives the value written. -/
theorem tabGet_set_same {β : Type} [DecidableEq β] (d : β) (a : Nat) (v : β) (m : List (Nat × β)) :
    tabGet d (tabSet d a v m) a = v := by
  unfold tabSet
  split
  · rename_i h; rw [tabGet_erase_same]; exact h.symm
  · exact tabGet_insert_same d a v m

/-- Reading any other key gives what it held. The two defaults need not agree. -/
theorem tabGet_set_other {β : Type} [DecidableEq β] (d e : β) {a b : Nat} (hab : b ≠ a) (v : β)
    (m : List (Nat × β)) : tabGet e (tabSet d a v m) b = tabGet e m b := by
  unfold tabSet
  split
  · exact tabGet_erase_other e hab m
  · rw [tabGet_insert_other e hab, tabGet_erase_other e hab]

theorem tabSorted_mono {β : Type} {n k : Nat} (h : n ≤ k) (m : List (Nat × β)) (hm : tabSorted k m = true) :
    tabSorted n m = true := by
  cases m with
  | nil => rfl
  | cons p r =>
    obtain ⟨q, v⟩ := p
    simp only [tabSorted, Bool.and_eq_true, decide_eq_true_eq] at hm ⊢
    exact ⟨by omega, hm.2⟩

theorem tabSorted_erase {β : Type} (a : Nat) : ∀ (n : Nat) (m : List (Nat × β)), tabSorted n m = true →
    tabSorted n (tabErase a m) = true
  | _, [], _ => rfl
  | n, (k, v) :: r, h => by
    simp only [tabSorted, Bool.and_eq_true, decide_eq_true_eq] at h
    have ih := tabSorted_erase a (k + 1) r h.2
    by_cases hk : k = a
    · simp only [tabErase, hk, if_true]
      rw [hk] at ih
      exact tabSorted_mono (by omega) _ ih
    · simp [tabErase, hk, tabSorted, h.1, ih]

theorem tabErase_no_key {β : Type} (a : Nat) (m : List (Nat × β)) :
    ∀ p ∈ tabErase a m, p.1 ≠ a := by
  induction m with
  | nil => simp [tabErase]
  | cons q r ih =>
    obtain ⟨k, v⟩ := q
    by_cases hk : k = a
    · simpa [tabErase, hk] using ih
    · intro p hp
      simp only [tabErase, hk, if_false, List.mem_cons] at hp
      rcases hp with rfl | hp
      · exact hk
      · exact ih p hp

theorem tabSorted_insert {β : Type} (a : Nat) (v : β) : ∀ (n : Nat) (m : List (Nat × β)),
    tabSorted n m = true → n ≤ a → (∀ p ∈ m, p.1 ≠ a) → tabSorted n (tabInsert a v m) = true
  | n, [], _, ha, _ => by simp [tabInsert, tabSorted, ha]
  | n, (k, w) :: r, h, ha, hne => by
    simp only [tabSorted, Bool.and_eq_true, decide_eq_true_eq] at h
    by_cases hk : a < k
    · simp only [tabInsert, hk, if_true, tabSorted, Bool.and_eq_true, decide_eq_true_eq]
      exact ⟨ha, by omega, h.2⟩
    · have hka : k ≠ a := hne (k, w) (by simp)
      have ih := tabSorted_insert a v (k + 1) r h.2 (by omega) (fun p hp => hne p (by simp [hp]))
      simp [tabInsert, hk, tabSorted, h.1, ih]

theorem mem_tabErase {β : Type} (a : Nat) (m : List (Nat × β)) : ∀ p ∈ tabErase a m, p ∈ m := by
  induction m with
  | nil => simp [tabErase]
  | cons q r ih =>
    obtain ⟨k, v⟩ := q
    by_cases hk : k = a
    · intro p hp
      simp only [tabErase, hk, if_true] at hp
      exact List.mem_cons_of_mem _ (ih p hp)
    · intro p hp
      simp only [tabErase, hk, if_false, List.mem_cons] at hp
      rcases hp with rfl | hp
      · simp
      · exact List.mem_cons_of_mem _ (ih p hp)

theorem mem_tabInsert {β : Type} (a : Nat) (v : β) (m : List (Nat × β)) :
    ∀ p ∈ tabInsert a v m, p = (a, v) ∨ p ∈ m := by
  induction m with
  | nil => simp [tabInsert]
  | cons q r ih =>
    obtain ⟨k, w⟩ := q
    by_cases hk : a < k
    · intro p hp
      simp only [tabInsert, hk, if_true, List.mem_cons] at hp ⊢
      tauto
    · intro p hp
      simp only [tabInsert, hk, if_false, List.mem_cons] at hp
      rcases hp with rfl | hp
      · simp
      · rcases ih p hp with h | h
        · exact .inl h
        · exact .inr (List.mem_cons_of_mem _ h)

/-- A write keeps the canonical form. -/
theorem tabWf_set {β : Type} [DecidableEq β] (d : β) (a : Nat) (v : β) (m : List (Nat × β))
    (h : tabWf d m = true) : tabWf d (tabSet d a v m) = true := by
  simp only [tabWf, Bool.and_eq_true] at h ⊢
  have he : tabNoDefault d (tabErase a m) = true := by
    simp only [tabNoDefault, List.all_eq_true] at h ⊢
    exact fun p hp => h.2 p (mem_tabErase a m p hp)
  unfold tabSet
  split
  · exact ⟨tabSorted_erase a 0 m h.1, he⟩
  · rename_i hv
    refine ⟨tabSorted_insert a v 0 _ (tabSorted_erase a 0 m h.1) (Nat.zero_le _) (tabErase_no_key a m), ?_⟩
    simp only [tabNoDefault, List.all_eq_true] at he ⊢
    intro p hp
    rcases mem_tabInsert a v _ p hp with rfl | hp
    · simp [hv]
    · exact he p hp

end Sys2Proof.Laws
end

