-- ==== Sys2Proof/Laws/Ops.lean ====
section
/-! SUPPORT. What the operations over fields and words do. -/

namespace Sys2Proof.Machine

open Sys2Proof.Laws

theorem getLsbD_fldMask (lo len i : Nat) (h : lo + len ≤ 32) :
    (fldMask lo len).getLsbD i = (decide (lo ≤ i) && decide (i < lo + len)) := by
  simp only [fldMask, BitVec.getLsbD_shiftLeft, BitVec.getLsbD_ushiftRight, BitVec.getLsbD_allOnes]
  by_cases h1 : lo ≤ i <;> by_cases h2 : i < lo + len <;> by_cases h3 : i < 32 <;> simp [*] <;> omega

theorem getLsbD_putFld (w : Word) (f : Fld) (v i : Nat) (h : f.lo + f.len ≤ 32) :
    (putFld w f v).getLsbD i =
      if f.lo ≤ i ∧ i < f.lo + f.len then v.testBit (i - f.lo) else w.getLsbD i := by
  by_cases hi : i < 32
  · simp only [putFld, BitVec.getLsbD_or, BitVec.getLsbD_and, BitVec.getLsbD_not, getLsbD_fldMask _ _ _ h,
      BitVec.getLsbD_shiftLeft, BitVec.getLsbD_ofNat]
    have h3 : i - f.lo < 32 := by omega
    by_cases h1 : f.lo ≤ i <;> by_cases h2 : i < f.lo + f.len <;> simp [*]
  · have : ¬ (f.lo ≤ i ∧ i < f.lo + f.len) := by omega
    rw [if_neg this, BitVec.getLsbD_of_ge _ _ (by omega), BitVec.getLsbD_of_ge _ _ (by omega)]

/-- A field reads as what was put into it. -/
theorem getFld_putFld_same (w : Word) (f : Fld) (v : Nat) (h : f.lo + f.len ≤ 32) :
    getFld (putFld w f v) f = v % 2 ^ f.len := by
  apply Nat.eq_of_testBit_eq
  intro i
  rw [getFld, BitVec.testBit_toNat, BitVec.getLsbD_extractLsb', getLsbD_putFld _ _ _ _ h, Nat.testBit_mod_two_pow]
  by_cases hi : i < f.len <;> simp [hi]

/-- A field that shares no bit with the one put keeps its value. -/
theorem getFld_putFld_other (w : Word) (f g : Fld) (v : Nat) (hf : f.lo + f.len ≤ 32)
    (hd : f.lo + f.len ≤ g.lo ∨ g.lo + g.len ≤ f.lo) :
    getFld (putFld w f v) g = getFld w g := by
  apply Nat.eq_of_testBit_eq
  intro i
  rw [getFld, getFld, BitVec.testBit_toNat, BitVec.testBit_toNat, BitVec.getLsbD_extractLsb',
    BitVec.getLsbD_extractLsb', getLsbD_putFld _ _ _ _ hf]
  by_cases hi : i < g.len
  · have : ¬ (f.lo ≤ g.lo + i ∧ g.lo + i < f.lo + f.len) := by omega
    simp [hi, this]
  · simp [hi]

@[simp] theorem State.get_put_same (s : State) (a : Nat) (w : Word) : (s.put a w).get a = w := by
  simp [State.get, State.put, tabGet_set_same]

theorem State.get_put_other (s : State) (a b : Nat) (w : Word) (h : b ≠ a) : (s.put a w).get b = s.get b := by
  simp [State.get, State.put, tabGet_set_other _ _ h]

/-- A register field reads as what was set. -/
theorem State.fld_setFld_same (s : State) (f : Fld) (v : Nat) (h : f.lo + f.len ≤ 32) :
    (s.setFld f v).fld f = v % 2 ^ f.len := by
  simp [State.fld, State.setFld, getFld_putFld_same _ _ _ h]

/-- A field of another word keeps its value. -/
theorem State.fld_setFld_other_word (s : State) (f g : Fld) (v : Nat) (h : g.addr ≠ f.addr) :
    (s.setFld f v).fld g = s.fld g := by
  simp [State.fld, State.setFld, State.get_put_other _ _ _ _ h]

/-- A field of the same word that shares no bit keeps its value. -/
theorem State.fld_setFld_other_bits (s : State) (f g : Fld) (v : Nat) (ha : g.addr = f.addr)
    (hf : f.lo + f.len ≤ 32) (hd : f.lo + f.len ≤ g.lo ∨ g.lo + g.len ≤ f.lo) :
    (s.setFld f v).fld g = s.fld g := by
  simp [State.fld, State.setFld, ha, getFld_putFld_other _ _ _ _ hf hd]

/-! ### Words beside the one that is set -/

theorem State.get_setFld_other (s : State) (f : Fld) (v b : Nat) (h : b ≠ f.addr) : (s.setFld f v).get b = s.get b :=
  State.get_put_other s _ _ _ h

theorem State.get_setBit_other (s : State) (f : Fld) (v : Bool) (b : Nat) (h : b ≠ f.addr) :
    (s.setBit f v).get b = s.get b := State.get_put_other s _ _ _ h

theorem State.get_count_other (s : State) (f : Fld) (b : Nat) (h : b ≠ f.addr) : (s.count f).get b = s.get b :=
  State.get_put_other s _ _ _ h

/-- The word that a field set leaves. -/
theorem State.get_setFld_same (s : State) (f : Fld) (v : Nat) : (s.setFld f v).get f.addr = putFld (s.get f.addr) f v :=
  State.get_put_same s _ _

/-- A state that differs in no register word reads alike. -/
theorem State.get_of_regs {s t : State} (h : t.regs = s.regs) (a : Nat) : t.get a = s.get a := by
  simp only [State.get, h]

theorem State.fld_of_get {s t : State} (f : Fld) (h : t.get f.addr = s.get f.addr) : t.fld f = s.fld f := by
  simp only [State.fld, h]

/-- A field of two words that agree in its bits. -/
theorem State.fld_setFld_keeps (s : State) (f g : Fld) (v : Nat) (hf : f.lo + f.len ≤ 32)
    (h : g.addr ≠ f.addr ∨ f.lo + f.len ≤ g.lo ∨ g.lo + g.len ≤ f.lo) : (s.setFld f v).fld g = s.fld g := by
  by_cases ha : g.addr = f.addr
  · exact State.fld_setFld_other_bits s f g v ha hf (h.resolve_left (fun n => n ha))
  · exact State.fld_setFld_other_word s f g v ha

/-! ### Units -/

@[simp] theorem State.core_setCore_same (s : State) (c : Nat) (x : Core) : (s.setCore c x).core c = x :=
  tabGet_set_same Core.cold c x s.cores
theorem State.core_setCore_other (s : State) (c d : Nat) (x : Core) (h : d ≠ c) : (s.setCore c x).core d = s.core d :=
  tabGet_set_other _ _ h x s.cores
@[simp] theorem State.lane_setLane_same (s : State) (n : Nat) (x : Lane) : (s.setLane n x).lane n = x :=
  tabGet_set_same Lane.cold n x s.lanes
theorem State.lane_setLane_other (s : State) (n m : Nat) (x : Lane) (h : m ≠ n) : (s.setLane n x).lane m = s.lane m :=
  tabGet_set_other _ _ h x s.lanes
@[simp] theorem State.ticket_setTicket_same (s : State) (i : Nat) (x : Ticket) : (s.setTicket i x).ticket i = x :=
  tabGet_set_same Ticket.cold i x s.sch.tickets
theorem State.ticket_setTicket_other (s : State) (i j : Nat) (x : Ticket) (h : j ≠ i) :
    (s.setTicket i x).ticket j = s.ticket j := tabGet_set_other _ _ h x s.sch.tickets
@[simp] theorem State.slice_setSlice_same (s : State) (n : Nat) (x : Slice) : (s.setSlice n x).slice n = x :=
  tabGet_set_same Slice.cold n x s.gnss.slices
theorem State.slice_setSlice_other (s : State) (n m : Nat) (x : Slice) (h : m ≠ n) :
    (s.setSlice n x).slice m = s.slice m := tabGet_set_other _ _ h x s.gnss.slices
@[simp] theorem State.tp_setTp_same (s : State) (n : Nat) (x : Tp) : (s.setTp n x).tp n = x :=
  tabGet_set_same Tp.cold n x s.tim.tps
theorem State.tp_setTp_other (s : State) (n m : Nat) (x : Tp) (h : m ≠ n) : (s.setTp n x).tp m = s.tp m :=
  tabGet_set_other _ _ h x s.tim.tps
@[simp] theorem State.queue_setQueue_same (s : State) (n : Nat) (x : HQueue) : (s.setQueue n x).queue n = x :=
  tabGet_set_same HQueue.cold n x s.hst.queues
theorem State.queue_setQueue_other (s : State) (n m : Nat) (x : HQueue) (h : m ≠ n) :
    (s.setQueue n x).queue m = s.queue m := tabGet_set_other _ _ h x s.hst.queues

end Sys2Proof.Machine
end

