-- ==== Sys2Proof/Laws/State.lean ====
section
/-! SUPPORT. What every update of the state leaves alone: one lemma for each field and each update, so that no proof unfolds a
record update. -/

namespace Sys2Proof.Machine

/-! ### State.put changes `regs` alone -/

@[simp] theorem State.put_pending (s : State) (a : Nat) (w : Word) : (s.put a w).pending = s.pending := rfl
@[simp] theorem State.put_out (s : State) (a : Nat) (w : Word) : (s.put a w).out = s.out := rfl
@[simp] theorem State.put_free (s : State) (a : Nat) (w : Word) : (s.put a w).free = s.free := rfl
@[simp] theorem State.put_captures (s : State) (a : Nat) (w : Word) : (s.put a w).captures = s.captures := rfl
@[simp] theorem State.put_nodes (s : State) (a : Nat) (w : Word) : (s.put a w).nodes = s.nodes := rfl
@[simp] theorem State.put_sys (s : State) (a : Nat) (w : Word) : (s.put a w).sys = s.sys := rfl
@[simp] theorem State.put_mem (s : State) (a : Nat) (w : Word) : (s.put a w).mem = s.mem := rfl
@[simp] theorem State.put_cru (s : State) (a : Nat) (w : Word) : (s.put a w).cru = s.cru := rfl
@[simp] theorem State.put_hst (s : State) (a : Nat) (w : Word) : (s.put a w).hst = s.hst := rfl
@[simp] theorem State.put_tim (s : State) (a : Nat) (w : Word) : (s.put a w).tim = s.tim := rfl
@[simp] theorem State.put_gnss (s : State) (a : Nat) (w : Word) : (s.put a w).gnss = s.gnss := rfl
@[simp] theorem State.put_bkp (s : State) (a : Nat) (w : Word) : (s.put a w).bkp = s.bkp := rfl
@[simp] theorem State.put_pins (s : State) (a : Nat) (w : Word) : (s.put a w).pins = s.pins := rfl
@[simp] theorem State.put_lanes (s : State) (a : Nat) (w : Word) : (s.put a w).lanes = s.lanes := rfl
@[simp] theorem State.put_fmb (s : State) (a : Nat) (w : Word) : (s.put a w).fmb = s.fmb := rfl
@[simp] theorem State.put_sch (s : State) (a : Nat) (w : Word) : (s.put a w).sch = s.sch := rfl
@[simp] theorem State.put_mac (s : State) (a : Nat) (w : Word) : (s.put a w).mac = s.mac := rfl
@[simp] theorem State.put_sec (s : State) (a : Nat) (w : Word) : (s.put a w).sec = s.sec := rfl
@[simp] theorem State.put_fwd (s : State) (a : Nat) (w : Word) : (s.put a w).fwd = s.fwd := rfl
@[simp] theorem State.put_plk (s : State) (a : Nat) (w : Word) : (s.put a w).plk = s.plk := rfl
@[simp] theorem State.put_cores (s : State) (a : Nat) (w : Word) : (s.put a w).cores = s.cores := rfl
@[simp] theorem State.put_tick (s : State) (a : Nat) (w : Word) : (s.put a w).tick = s.tick := rfl

/-! ### State.setFld changes `regs` alone -/

@[simp] theorem State.setFld_pending (s : State) (f : Fld) (v : Nat) : (s.setFld f v).pending = s.pending := rfl
@[simp] theorem State.setFld_out (s : State) (f : Fld) (v : Nat) : (s.setFld f v).out = s.out := rfl
@[simp] theorem State.setFld_free (s : State) (f : Fld) (v : Nat) : (s.setFld f v).free = s.free := rfl
@[simp] theorem State.setFld_captures (s : State) (f : Fld) (v : Nat) : (s.setFld f v).captures = s.captures := rfl
@[simp] theorem State.setFld_nodes (s : State) (f : Fld) (v : Nat) : (s.setFld f v).nodes = s.nodes := rfl
@[simp] theorem State.setFld_sys (s : State) (f : Fld) (v : Nat) : (s.setFld f v).sys = s.sys := rfl
@[simp] theorem State.setFld_mem (s : State) (f : Fld) (v : Nat) : (s.setFld f v).mem = s.mem := rfl
@[simp] theorem State.setFld_cru (s : State) (f : Fld) (v : Nat) : (s.setFld f v).cru = s.cru := rfl
@[simp] theorem State.setFld_hst (s : State) (f : Fld) (v : Nat) : (s.setFld f v).hst = s.hst := rfl
@[simp] theorem State.setFld_tim (s : State) (f : Fld) (v : Nat) : (s.setFld f v).tim = s.tim := rfl
@[simp] theorem State.setFld_gnss (s : State) (f : Fld) (v : Nat) : (s.setFld f v).gnss = s.gnss := rfl
@[simp] theorem State.setFld_bkp (s : State) (f : Fld) (v : Nat) : (s.setFld f v).bkp = s.bkp := rfl
@[simp] theorem State.setFld_pins (s : State) (f : Fld) (v : Nat) : (s.setFld f v).pins = s.pins := rfl
@[simp] theorem State.setFld_lanes (s : State) (f : Fld) (v : Nat) : (s.setFld f v).lanes = s.lanes := rfl
@[simp] theorem State.setFld_fmb (s : State) (f : Fld) (v : Nat) : (s.setFld f v).fmb = s.fmb := rfl
@[simp] theorem State.setFld_sch (s : State) (f : Fld) (v : Nat) : (s.setFld f v).sch = s.sch := rfl
@[simp] theorem State.setFld_mac (s : State) (f : Fld) (v : Nat) : (s.setFld f v).mac = s.mac := rfl
@[simp] theorem State.setFld_sec (s : State) (f : Fld) (v : Nat) : (s.setFld f v).sec = s.sec := rfl
@[simp] theorem State.setFld_fwd (s : State) (f : Fld) (v : Nat) : (s.setFld f v).fwd = s.fwd := rfl
@[simp] theorem State.setFld_plk (s : State) (f : Fld) (v : Nat) : (s.setFld f v).plk = s.plk := rfl
@[simp] theorem State.setFld_cores (s : State) (f : Fld) (v : Nat) : (s.setFld f v).cores = s.cores := rfl
@[simp] theorem State.setFld_tick (s : State) (f : Fld) (v : Nat) : (s.setFld f v).tick = s.tick := rfl

/-! ### State.setBit changes `regs` alone -/

@[simp] theorem State.setBit_pending (s : State) (f : Fld) (b : Bool) : (s.setBit f b).pending = s.pending := rfl
@[simp] theorem State.setBit_out (s : State) (f : Fld) (b : Bool) : (s.setBit f b).out = s.out := rfl
@[simp] theorem State.setBit_free (s : State) (f : Fld) (b : Bool) : (s.setBit f b).free = s.free := rfl
@[simp] theorem State.setBit_captures (s : State) (f : Fld) (b : Bool) : (s.setBit f b).captures = s.captures := rfl
@[simp] theorem State.setBit_nodes (s : State) (f : Fld) (b : Bool) : (s.setBit f b).nodes = s.nodes := rfl
@[simp] theorem State.setBit_sys (s : State) (f : Fld) (b : Bool) : (s.setBit f b).sys = s.sys := rfl
@[simp] theorem State.setBit_mem (s : State) (f : Fld) (b : Bool) : (s.setBit f b).mem = s.mem := rfl
@[simp] theorem State.setBit_cru (s : State) (f : Fld) (b : Bool) : (s.setBit f b).cru = s.cru := rfl
@[simp] theorem State.setBit_hst (s : State) (f : Fld) (b : Bool) : (s.setBit f b).hst = s.hst := rfl
@[simp] theorem State.setBit_tim (s : State) (f : Fld) (b : Bool) : (s.setBit f b).tim = s.tim := rfl
@[simp] theorem State.setBit_gnss (s : State) (f : Fld) (b : Bool) : (s.setBit f b).gnss = s.gnss := rfl
@[simp] theorem State.setBit_bkp (s : State) (f : Fld) (b : Bool) : (s.setBit f b).bkp = s.bkp := rfl
@[simp] theorem State.setBit_pins (s : State) (f : Fld) (b : Bool) : (s.setBit f b).pins = s.pins := rfl
@[simp] theorem State.setBit_lanes (s : State) (f : Fld) (b : Bool) : (s.setBit f b).lanes = s.lanes := rfl
@[simp] theorem State.setBit_fmb (s : State) (f : Fld) (b : Bool) : (s.setBit f b).fmb = s.fmb := rfl
@[simp] theorem State.setBit_sch (s : State) (f : Fld) (b : Bool) : (s.setBit f b).sch = s.sch := rfl
@[simp] theorem State.setBit_mac (s : State) (f : Fld) (b : Bool) : (s.setBit f b).mac = s.mac := rfl
@[simp] theorem State.setBit_sec (s : State) (f : Fld) (b : Bool) : (s.setBit f b).sec = s.sec := rfl
@[simp] theorem State.setBit_fwd (s : State) (f : Fld) (b : Bool) : (s.setBit f b).fwd = s.fwd := rfl
@[simp] theorem State.setBit_plk (s : State) (f : Fld) (b : Bool) : (s.setBit f b).plk = s.plk := rfl
@[simp] theorem State.setBit_cores (s : State) (f : Fld) (b : Bool) : (s.setBit f b).cores = s.cores := rfl
@[simp] theorem State.setBit_tick (s : State) (f : Fld) (b : Bool) : (s.setBit f b).tick = s.tick := rfl

/-! ### State.setInt changes `regs` alone -/

@[simp] theorem State.setInt_pending (s : State) (f : Fld) (i : Int) : (s.setInt f i).pending = s.pending := rfl
@[simp] theorem State.setInt_out (s : State) (f : Fld) (i : Int) : (s.setInt f i).out = s.out := rfl
@[simp] theorem State.setInt_free (s : State) (f : Fld) (i : Int) : (s.setInt f i).free = s.free := rfl
@[simp] theorem State.setInt_captures (s : State) (f : Fld) (i : Int) : (s.setInt f i).captures = s.captures := rfl
@[simp] theorem State.setInt_nodes (s : State) (f : Fld) (i : Int) : (s.setInt f i).nodes = s.nodes := rfl
@[simp] theorem State.setInt_sys (s : State) (f : Fld) (i : Int) : (s.setInt f i).sys = s.sys := rfl
@[simp] theorem State.setInt_mem (s : State) (f : Fld) (i : Int) : (s.setInt f i).mem = s.mem := rfl
@[simp] theorem State.setInt_cru (s : State) (f : Fld) (i : Int) : (s.setInt f i).cru = s.cru := rfl
@[simp] theorem State.setInt_hst (s : State) (f : Fld) (i : Int) : (s.setInt f i).hst = s.hst := rfl
@[simp] theorem State.setInt_tim (s : State) (f : Fld) (i : Int) : (s.setInt f i).tim = s.tim := rfl
@[simp] theorem State.setInt_gnss (s : State) (f : Fld) (i : Int) : (s.setInt f i).gnss = s.gnss := rfl
@[simp] theorem State.setInt_bkp (s : State) (f : Fld) (i : Int) : (s.setInt f i).bkp = s.bkp := rfl
@[simp] theorem State.setInt_pins (s : State) (f : Fld) (i : Int) : (s.setInt f i).pins = s.pins := rfl
@[simp] theorem State.setInt_lanes (s : State) (f : Fld) (i : Int) : (s.setInt f i).lanes = s.lanes := rfl
@[simp] theorem State.setInt_fmb (s : State) (f : Fld) (i : Int) : (s.setInt f i).fmb = s.fmb := rfl
@[simp] theorem State.setInt_sch (s : State) (f : Fld) (i : Int) : (s.setInt f i).sch = s.sch := rfl
@[simp] theorem State.setInt_mac (s : State) (f : Fld) (i : Int) : (s.setInt f i).mac = s.mac := rfl
@[simp] theorem State.setInt_sec (s : State) (f : Fld) (i : Int) : (s.setInt f i).sec = s.sec := rfl
@[simp] theorem State.setInt_fwd (s : State) (f : Fld) (i : Int) : (s.setInt f i).fwd = s.fwd := rfl
@[simp] theorem State.setInt_plk (s : State) (f : Fld) (i : Int) : (s.setInt f i).plk = s.plk := rfl
@[simp] theorem State.setInt_cores (s : State) (f : Fld) (i : Int) : (s.setInt f i).cores = s.cores := rfl
@[simp] theorem State.setInt_tick (s : State) (f : Fld) (i : Int) : (s.setInt f i).tick = s.tick := rfl

/-! ### State.addSat changes `regs` alone -/

@[simp] theorem State.addSat_pending (s : State) (f : Fld) (n : Nat) : (s.addSat f n).pending = s.pending := rfl
@[simp] theorem State.addSat_out (s : State) (f : Fld) (n : Nat) : (s.addSat f n).out = s.out := rfl
@[simp] theorem State.addSat_free (s : State) (f : Fld) (n : Nat) : (s.addSat f n).free = s.free := rfl
@[simp] theorem State.addSat_captures (s : State) (f : Fld) (n : Nat) : (s.addSat f n).captures = s.captures := rfl
@[simp] theorem State.addSat_nodes (s : State) (f : Fld) (n : Nat) : (s.addSat f n).nodes = s.nodes := rfl
@[simp] theorem State.addSat_sys (s : State) (f : Fld) (n : Nat) : (s.addSat f n).sys = s.sys := rfl
@[simp] theorem State.addSat_mem (s : State) (f : Fld) (n : Nat) : (s.addSat f n).mem = s.mem := rfl
@[simp] theorem State.addSat_cru (s : State) (f : Fld) (n : Nat) : (s.addSat f n).cru = s.cru := rfl
@[simp] theorem State.addSat_hst (s : State) (f : Fld) (n : Nat) : (s.addSat f n).hst = s.hst := rfl
@[simp] theorem State.addSat_tim (s : State) (f : Fld) (n : Nat) : (s.addSat f n).tim = s.tim := rfl
@[simp] theorem State.addSat_gnss (s : State) (f : Fld) (n : Nat) : (s.addSat f n).gnss = s.gnss := rfl
@[simp] theorem State.addSat_bkp (s : State) (f : Fld) (n : Nat) : (s.addSat f n).bkp = s.bkp := rfl
@[simp] theorem State.addSat_pins (s : State) (f : Fld) (n : Nat) : (s.addSat f n).pins = s.pins := rfl
@[simp] theorem State.addSat_lanes (s : State) (f : Fld) (n : Nat) : (s.addSat f n).lanes = s.lanes := rfl
@[simp] theorem State.addSat_fmb (s : State) (f : Fld) (n : Nat) : (s.addSat f n).fmb = s.fmb := rfl
@[simp] theorem State.addSat_sch (s : State) (f : Fld) (n : Nat) : (s.addSat f n).sch = s.sch := rfl
@[simp] theorem State.addSat_mac (s : State) (f : Fld) (n : Nat) : (s.addSat f n).mac = s.mac := rfl
@[simp] theorem State.addSat_sec (s : State) (f : Fld) (n : Nat) : (s.addSat f n).sec = s.sec := rfl
@[simp] theorem State.addSat_fwd (s : State) (f : Fld) (n : Nat) : (s.addSat f n).fwd = s.fwd := rfl
@[simp] theorem State.addSat_plk (s : State) (f : Fld) (n : Nat) : (s.addSat f n).plk = s.plk := rfl
@[simp] theorem State.addSat_cores (s : State) (f : Fld) (n : Nat) : (s.addSat f n).cores = s.cores := rfl
@[simp] theorem State.addSat_tick (s : State) (f : Fld) (n : Nat) : (s.addSat f n).tick = s.tick := rfl

/-! ### State.count changes `regs` alone -/

@[simp] theorem State.count_pending (s : State) (f : Fld) : (s.count f).pending = s.pending := rfl
@[simp] theorem State.count_out (s : State) (f : Fld) : (s.count f).out = s.out := rfl
@[simp] theorem State.count_free (s : State) (f : Fld) : (s.count f).free = s.free := rfl
@[simp] theorem State.count_captures (s : State) (f : Fld) : (s.count f).captures = s.captures := rfl
@[simp] theorem State.count_nodes (s : State) (f : Fld) : (s.count f).nodes = s.nodes := rfl
@[simp] theorem State.count_sys (s : State) (f : Fld) : (s.count f).sys = s.sys := rfl
@[simp] theorem State.count_mem (s : State) (f : Fld) : (s.count f).mem = s.mem := rfl
@[simp] theorem State.count_cru (s : State) (f : Fld) : (s.count f).cru = s.cru := rfl
@[simp] theorem State.count_hst (s : State) (f : Fld) : (s.count f).hst = s.hst := rfl
@[simp] theorem State.count_tim (s : State) (f : Fld) : (s.count f).tim = s.tim := rfl
@[simp] theorem State.count_gnss (s : State) (f : Fld) : (s.count f).gnss = s.gnss := rfl
@[simp] theorem State.count_bkp (s : State) (f : Fld) : (s.count f).bkp = s.bkp := rfl
@[simp] theorem State.count_pins (s : State) (f : Fld) : (s.count f).pins = s.pins := rfl
@[simp] theorem State.count_lanes (s : State) (f : Fld) : (s.count f).lanes = s.lanes := rfl
@[simp] theorem State.count_fmb (s : State) (f : Fld) : (s.count f).fmb = s.fmb := rfl
@[simp] theorem State.count_sch (s : State) (f : Fld) : (s.count f).sch = s.sch := rfl
@[simp] theorem State.count_mac (s : State) (f : Fld) : (s.count f).mac = s.mac := rfl
@[simp] theorem State.count_sec (s : State) (f : Fld) : (s.count f).sec = s.sec := rfl
@[simp] theorem State.count_fwd (s : State) (f : Fld) : (s.count f).fwd = s.fwd := rfl
@[simp] theorem State.count_plk (s : State) (f : Fld) : (s.count f).plk = s.plk := rfl
@[simp] theorem State.count_cores (s : State) (f : Fld) : (s.count f).cores = s.cores := rfl
@[simp] theorem State.count_tick (s : State) (f : Fld) : (s.count f).tick = s.tick := rfl

/-! ### State.coldRange changes `regs` alone -/

@[simp] theorem State.coldRange_pending (s : State) (a b : Nat) : (s.coldRange a b).pending = s.pending := rfl
@[simp] theorem State.coldRange_out (s : State) (a b : Nat) : (s.coldRange a b).out = s.out := rfl
@[simp] theorem State.coldRange_free (s : State) (a b : Nat) : (s.coldRange a b).free = s.free := rfl
@[simp] theorem State.coldRange_captures (s : State) (a b : Nat) : (s.coldRange a b).captures = s.captures := rfl
@[simp] theorem State.coldRange_nodes (s : State) (a b : Nat) : (s.coldRange a b).nodes = s.nodes := rfl
@[simp] theorem State.coldRange_sys (s : State) (a b : Nat) : (s.coldRange a b).sys = s.sys := rfl
@[simp] theorem State.coldRange_mem (s : State) (a b : Nat) : (s.coldRange a b).mem = s.mem := rfl
@[simp] theorem State.coldRange_cru (s : State) (a b : Nat) : (s.coldRange a b).cru = s.cru := rfl
@[simp] theorem State.coldRange_hst (s : State) (a b : Nat) : (s.coldRange a b).hst = s.hst := rfl
@[simp] theorem State.coldRange_tim (s : State) (a b : Nat) : (s.coldRange a b).tim = s.tim := rfl
@[simp] theorem State.coldRange_gnss (s : State) (a b : Nat) : (s.coldRange a b).gnss = s.gnss := rfl
@[simp] theorem State.coldRange_bkp (s : State) (a b : Nat) : (s.coldRange a b).bkp = s.bkp := rfl
@[simp] theorem State.coldRange_pins (s : State) (a b : Nat) : (s.coldRange a b).pins = s.pins := rfl
@[simp] theorem State.coldRange_lanes (s : State) (a b : Nat) : (s.coldRange a b).lanes = s.lanes := rfl
@[simp] theorem State.coldRange_fmb (s : State) (a b : Nat) : (s.coldRange a b).fmb = s.fmb := rfl
@[simp] theorem State.coldRange_sch (s : State) (a b : Nat) : (s.coldRange a b).sch = s.sch := rfl
@[simp] theorem State.coldRange_mac (s : State) (a b : Nat) : (s.coldRange a b).mac = s.mac := rfl
@[simp] theorem State.coldRange_sec (s : State) (a b : Nat) : (s.coldRange a b).sec = s.sec := rfl
@[simp] theorem State.coldRange_fwd (s : State) (a b : Nat) : (s.coldRange a b).fwd = s.fwd := rfl
@[simp] theorem State.coldRange_plk (s : State) (a b : Nat) : (s.coldRange a b).plk = s.plk := rfl
@[simp] theorem State.coldRange_cores (s : State) (a b : Nat) : (s.coldRange a b).cores = s.cores := rfl
@[simp] theorem State.coldRange_tick (s : State) (a b : Nat) : (s.coldRange a b).tick = s.tick := rfl

/-! ### State.capture changes `captures` alone -/

@[simp] theorem State.capture_pending (s : State) (a : Nat) (w : Word) : (s.capture a w).pending = s.pending := rfl
@[simp] theorem State.capture_out (s : State) (a : Nat) (w : Word) : (s.capture a w).out = s.out := rfl
@[simp] theorem State.capture_free (s : State) (a : Nat) (w : Word) : (s.capture a w).free = s.free := rfl
@[simp] theorem State.capture_regs (s : State) (a : Nat) (w : Word) : (s.capture a w).regs = s.regs := rfl
@[simp] theorem State.capture_nodes (s : State) (a : Nat) (w : Word) : (s.capture a w).nodes = s.nodes := rfl
@[simp] theorem State.capture_sys (s : State) (a : Nat) (w : Word) : (s.capture a w).sys = s.sys := rfl
@[simp] theorem State.capture_mem (s : State) (a : Nat) (w : Word) : (s.capture a w).mem = s.mem := rfl
@[simp] theorem State.capture_cru (s : State) (a : Nat) (w : Word) : (s.capture a w).cru = s.cru := rfl
@[simp] theorem State.capture_hst (s : State) (a : Nat) (w : Word) : (s.capture a w).hst = s.hst := rfl
@[simp] theorem State.capture_tim (s : State) (a : Nat) (w : Word) : (s.capture a w).tim = s.tim := rfl
@[simp] theorem State.capture_gnss (s : State) (a : Nat) (w : Word) : (s.capture a w).gnss = s.gnss := rfl
@[simp] theorem State.capture_bkp (s : State) (a : Nat) (w : Word) : (s.capture a w).bkp = s.bkp := rfl
@[simp] theorem State.capture_pins (s : State) (a : Nat) (w : Word) : (s.capture a w).pins = s.pins := rfl
@[simp] theorem State.capture_lanes (s : State) (a : Nat) (w : Word) : (s.capture a w).lanes = s.lanes := rfl
@[simp] theorem State.capture_fmb (s : State) (a : Nat) (w : Word) : (s.capture a w).fmb = s.fmb := rfl
@[simp] theorem State.capture_sch (s : State) (a : Nat) (w : Word) : (s.capture a w).sch = s.sch := rfl
@[simp] theorem State.capture_mac (s : State) (a : Nat) (w : Word) : (s.capture a w).mac = s.mac := rfl
@[simp] theorem State.capture_sec (s : State) (a : Nat) (w : Word) : (s.capture a w).sec = s.sec := rfl
@[simp] theorem State.capture_fwd (s : State) (a : Nat) (w : Word) : (s.capture a w).fwd = s.fwd := rfl
@[simp] theorem State.capture_plk (s : State) (a : Nat) (w : Word) : (s.capture a w).plk = s.plk := rfl
@[simp] theorem State.capture_cores (s : State) (a : Nat) (w : Word) : (s.capture a w).cores = s.cores := rfl
@[simp] theorem State.capture_tick (s : State) (a : Nat) (w : Word) : (s.capture a w).tick = s.tick := rfl

/-! ### State.release changes `captures` alone -/

@[simp] theorem State.release_pending (s : State) (a : Nat) : (s.release a).pending = s.pending := rfl
@[simp] theorem State.release_out (s : State) (a : Nat) : (s.release a).out = s.out := rfl
@[simp] theorem State.release_free (s : State) (a : Nat) : (s.release a).free = s.free := rfl
@[simp] theorem State.release_regs (s : State) (a : Nat) : (s.release a).regs = s.regs := rfl
@[simp] theorem State.release_nodes (s : State) (a : Nat) : (s.release a).nodes = s.nodes := rfl
@[simp] theorem State.release_sys (s : State) (a : Nat) : (s.release a).sys = s.sys := rfl
@[simp] theorem State.release_mem (s : State) (a : Nat) : (s.release a).mem = s.mem := rfl
@[simp] theorem State.release_cru (s : State) (a : Nat) : (s.release a).cru = s.cru := rfl
@[simp] theorem State.release_hst (s : State) (a : Nat) : (s.release a).hst = s.hst := rfl
@[simp] theorem State.release_tim (s : State) (a : Nat) : (s.release a).tim = s.tim := rfl
@[simp] theorem State.release_gnss (s : State) (a : Nat) : (s.release a).gnss = s.gnss := rfl
@[simp] theorem State.release_bkp (s : State) (a : Nat) : (s.release a).bkp = s.bkp := rfl
@[simp] theorem State.release_pins (s : State) (a : Nat) : (s.release a).pins = s.pins := rfl
@[simp] theorem State.release_lanes (s : State) (a : Nat) : (s.release a).lanes = s.lanes := rfl
@[simp] theorem State.release_fmb (s : State) (a : Nat) : (s.release a).fmb = s.fmb := rfl
@[simp] theorem State.release_sch (s : State) (a : Nat) : (s.release a).sch = s.sch := rfl
@[simp] theorem State.release_mac (s : State) (a : Nat) : (s.release a).mac = s.mac := rfl
@[simp] theorem State.release_sec (s : State) (a : Nat) : (s.release a).sec = s.sec := rfl
@[simp] theorem State.release_fwd (s : State) (a : Nat) : (s.release a).fwd = s.fwd := rfl
@[simp] theorem State.release_plk (s : State) (a : Nat) : (s.release a).plk = s.plk := rfl
@[simp] theorem State.release_cores (s : State) (a : Nat) : (s.release a).cores = s.cores := rfl
@[simp] theorem State.release_tick (s : State) (a : Nat) : (s.release a).tick = s.tick := rfl

/-! ### State.emit changes `out` alone -/

@[simp] theorem State.emit_pending (s : State) (o : Out) : (s.emit o).pending = s.pending := rfl
@[simp] theorem State.emit_free (s : State) (o : Out) : (s.emit o).free = s.free := rfl
@[simp] theorem State.emit_regs (s : State) (o : Out) : (s.emit o).regs = s.regs := rfl
@[simp] theorem State.emit_captures (s : State) (o : Out) : (s.emit o).captures = s.captures := rfl
@[simp] theorem State.emit_nodes (s : State) (o : Out) : (s.emit o).nodes = s.nodes := rfl
@[simp] theorem State.emit_sys (s : State) (o : Out) : (s.emit o).sys = s.sys := rfl
@[simp] theorem State.emit_mem (s : State) (o : Out) : (s.emit o).mem = s.mem := rfl
@[simp] theorem State.emit_cru (s : State) (o : Out) : (s.emit o).cru = s.cru := rfl
@[simp] theorem State.emit_hst (s : State) (o : Out) : (s.emit o).hst = s.hst := rfl
@[simp] theorem State.emit_tim (s : State) (o : Out) : (s.emit o).tim = s.tim := rfl
@[simp] theorem State.emit_gnss (s : State) (o : Out) : (s.emit o).gnss = s.gnss := rfl
@[simp] theorem State.emit_bkp (s : State) (o : Out) : (s.emit o).bkp = s.bkp := rfl
@[simp] theorem State.emit_pins (s : State) (o : Out) : (s.emit o).pins = s.pins := rfl
@[simp] theorem State.emit_lanes (s : State) (o : Out) : (s.emit o).lanes = s.lanes := rfl
@[simp] theorem State.emit_fmb (s : State) (o : Out) : (s.emit o).fmb = s.fmb := rfl
@[simp] theorem State.emit_sch (s : State) (o : Out) : (s.emit o).sch = s.sch := rfl
@[simp] theorem State.emit_mac (s : State) (o : Out) : (s.emit o).mac = s.mac := rfl
@[simp] theorem State.emit_sec (s : State) (o : Out) : (s.emit o).sec = s.sec := rfl
@[simp] theorem State.emit_fwd (s : State) (o : Out) : (s.emit o).fwd = s.fwd := rfl
@[simp] theorem State.emit_plk (s : State) (o : Out) : (s.emit o).plk = s.plk := rfl
@[simp] theorem State.emit_cores (s : State) (o : Out) : (s.emit o).cores = s.cores := rfl
@[simp] theorem State.emit_tick (s : State) (o : Out) : (s.emit o).tick = s.tick := rfl

/-! ### State.setCore changes `cores` alone -/

@[simp] theorem State.setCore_pending (s : State) (c : Nat) (x : Core) : (s.setCore c x).pending = s.pending := rfl
@[simp] theorem State.setCore_out (s : State) (c : Nat) (x : Core) : (s.setCore c x).out = s.out := rfl
@[simp] theorem State.setCore_free (s : State) (c : Nat) (x : Core) : (s.setCore c x).free = s.free := rfl
@[simp] theorem State.setCore_regs (s : State) (c : Nat) (x : Core) : (s.setCore c x).regs = s.regs := rfl
@[simp] theorem State.setCore_captures (s : State) (c : Nat) (x : Core) : (s.setCore c x).captures = s.captures := rfl
@[simp] theorem State.setCore_nodes (s : State) (c : Nat) (x : Core) : (s.setCore c x).nodes = s.nodes := rfl
@[simp] theorem State.setCore_sys (s : State) (c : Nat) (x : Core) : (s.setCore c x).sys = s.sys := rfl
@[simp] theorem State.setCore_mem (s : State) (c : Nat) (x : Core) : (s.setCore c x).mem = s.mem := rfl
@[simp] theorem State.setCore_cru (s : State) (c : Nat) (x : Core) : (s.setCore c x).cru = s.cru := rfl
@[simp] theorem State.setCore_hst (s : State) (c : Nat) (x : Core) : (s.setCore c x).hst = s.hst := rfl
@[simp] theorem State.setCore_tim (s : State) (c : Nat) (x : Core) : (s.setCore c x).tim = s.tim := rfl
@[simp] theorem State.setCore_gnss (s : State) (c : Nat) (x : Core) : (s.setCore c x).gnss = s.gnss := rfl
@[simp] theorem State.setCore_bkp (s : State) (c : Nat) (x : Core) : (s.setCore c x).bkp = s.bkp := rfl
@[simp] theorem State.setCore_pins (s : State) (c : Nat) (x : Core) : (s.setCore c x).pins = s.pins := rfl
@[simp] theorem State.setCore_lanes (s : State) (c : Nat) (x : Core) : (s.setCore c x).lanes = s.lanes := rfl
@[simp] theorem State.setCore_fmb (s : State) (c : Nat) (x : Core) : (s.setCore c x).fmb = s.fmb := rfl
@[simp] theorem State.setCore_sch (s : State) (c : Nat) (x : Core) : (s.setCore c x).sch = s.sch := rfl
@[simp] theorem State.setCore_mac (s : State) (c : Nat) (x : Core) : (s.setCore c x).mac = s.mac := rfl
@[simp] theorem State.setCore_sec (s : State) (c : Nat) (x : Core) : (s.setCore c x).sec = s.sec := rfl
@[simp] theorem State.setCore_fwd (s : State) (c : Nat) (x : Core) : (s.setCore c x).fwd = s.fwd := rfl
@[simp] theorem State.setCore_plk (s : State) (c : Nat) (x : Core) : (s.setCore c x).plk = s.plk := rfl
@[simp] theorem State.setCore_tick (s : State) (c : Nat) (x : Core) : (s.setCore c x).tick = s.tick := rfl

/-! ### State.setLane changes `lanes` alone -/

@[simp] theorem State.setLane_pending (s : State) (n : Nat) (x : Lane) : (s.setLane n x).pending = s.pending := rfl
@[simp] theorem State.setLane_out (s : State) (n : Nat) (x : Lane) : (s.setLane n x).out = s.out := rfl
@[simp] theorem State.setLane_free (s : State) (n : Nat) (x : Lane) : (s.setLane n x).free = s.free := rfl
@[simp] theorem State.setLane_regs (s : State) (n : Nat) (x : Lane) : (s.setLane n x).regs = s.regs := rfl
@[simp] theorem State.setLane_captures (s : State) (n : Nat) (x : Lane) : (s.setLane n x).captures = s.captures := rfl
@[simp] theorem State.setLane_nodes (s : State) (n : Nat) (x : Lane) : (s.setLane n x).nodes = s.nodes := rfl
@[simp] theorem State.setLane_sys (s : State) (n : Nat) (x : Lane) : (s.setLane n x).sys = s.sys := rfl
@[simp] theorem State.setLane_mem (s : State) (n : Nat) (x : Lane) : (s.setLane n x).mem = s.mem := rfl
@[simp] theorem State.setLane_cru (s : State) (n : Nat) (x : Lane) : (s.setLane n x).cru = s.cru := rfl
@[simp] theorem State.setLane_hst (s : State) (n : Nat) (x : Lane) : (s.setLane n x).hst = s.hst := rfl
@[simp] theorem State.setLane_tim (s : State) (n : Nat) (x : Lane) : (s.setLane n x).tim = s.tim := rfl
@[simp] theorem State.setLane_gnss (s : State) (n : Nat) (x : Lane) : (s.setLane n x).gnss = s.gnss := rfl
@[simp] theorem State.setLane_bkp (s : State) (n : Nat) (x : Lane) : (s.setLane n x).bkp = s.bkp := rfl
@[simp] theorem State.setLane_pins (s : State) (n : Nat) (x : Lane) : (s.setLane n x).pins = s.pins := rfl
@[simp] theorem State.setLane_fmb (s : State) (n : Nat) (x : Lane) : (s.setLane n x).fmb = s.fmb := rfl
@[simp] theorem State.setLane_sch (s : State) (n : Nat) (x : Lane) : (s.setLane n x).sch = s.sch := rfl
@[simp] theorem State.setLane_mac (s : State) (n : Nat) (x : Lane) : (s.setLane n x).mac = s.mac := rfl
@[simp] theorem State.setLane_sec (s : State) (n : Nat) (x : Lane) : (s.setLane n x).sec = s.sec := rfl
@[simp] theorem State.setLane_fwd (s : State) (n : Nat) (x : Lane) : (s.setLane n x).fwd = s.fwd := rfl
@[simp] theorem State.setLane_plk (s : State) (n : Nat) (x : Lane) : (s.setLane n x).plk = s.plk := rfl
@[simp] theorem State.setLane_cores (s : State) (n : Nat) (x : Lane) : (s.setLane n x).cores = s.cores := rfl
@[simp] theorem State.setLane_tick (s : State) (n : Nat) (x : Lane) : (s.setLane n x).tick = s.tick := rfl

/-! ### State.setTicket changes `sch` alone -/

@[simp] theorem State.setTicket_pending (s : State) (i : Nat) (x : Ticket) : (s.setTicket i x).pending = s.pending := rfl
@[simp] theorem State.setTicket_out (s : State) (i : Nat) (x : Ticket) : (s.setTicket i x).out = s.out := rfl
@[simp] theorem State.setTicket_free (s : State) (i : Nat) (x : Ticket) : (s.setTicket i x).free = s.free := rfl
@[simp] theorem State.setTicket_regs (s : State) (i : Nat) (x : Ticket) : (s.setTicket i x).regs = s.regs := rfl
@[simp] theorem State.setTicket_captures (s : State) (i : Nat) (x : Ticket) : (s.setTicket i x).captures = s.captures := rfl
@[simp] theorem State.setTicket_nodes (s : State) (i : Nat) (x : Ticket) : (s.setTicket i x).nodes = s.nodes := rfl
@[simp] theorem State.setTicket_sys (s : State) (i : Nat) (x : Ticket) : (s.setTicket i x).sys = s.sys := rfl
@[simp] theorem State.setTicket_mem (s : State) (i : Nat) (x : Ticket) : (s.setTicket i x).mem = s.mem := rfl
@[simp] theorem State.setTicket_cru (s : State) (i : Nat) (x : Ticket) : (s.setTicket i x).cru = s.cru := rfl
@[simp] theorem State.setTicket_hst (s : State) (i : Nat) (x : Ticket) : (s.setTicket i x).hst = s.hst := rfl
@[simp] theorem State.setTicket_tim (s : State) (i : Nat) (x : Ticket) : (s.setTicket i x).tim = s.tim := rfl
@[simp] theorem State.setTicket_gnss (s : State) (i : Nat) (x : Ticket) : (s.setTicket i x).gnss = s.gnss := rfl
@[simp] theorem State.setTicket_bkp (s : State) (i : Nat) (x : Ticket) : (s.setTicket i x).bkp = s.bkp := rfl
@[simp] theorem State.setTicket_pins (s : State) (i : Nat) (x : Ticket) : (s.setTicket i x).pins = s.pins := rfl
@[simp] theorem State.setTicket_lanes (s : State) (i : Nat) (x : Ticket) : (s.setTicket i x).lanes = s.lanes := rfl
@[simp] theorem State.setTicket_fmb (s : State) (i : Nat) (x : Ticket) : (s.setTicket i x).fmb = s.fmb := rfl
@[simp] theorem State.setTicket_mac (s : State) (i : Nat) (x : Ticket) : (s.setTicket i x).mac = s.mac := rfl
@[simp] theorem State.setTicket_sec (s : State) (i : Nat) (x : Ticket) : (s.setTicket i x).sec = s.sec := rfl
@[simp] theorem State.setTicket_fwd (s : State) (i : Nat) (x : Ticket) : (s.setTicket i x).fwd = s.fwd := rfl
@[simp] theorem State.setTicket_plk (s : State) (i : Nat) (x : Ticket) : (s.setTicket i x).plk = s.plk := rfl
@[simp] theorem State.setTicket_cores (s : State) (i : Nat) (x : Ticket) : (s.setTicket i x).cores = s.cores := rfl
@[simp] theorem State.setTicket_tick (s : State) (i : Nat) (x : Ticket) : (s.setTicket i x).tick = s.tick := rfl

/-! ### State.setLedger changes `mac` alone -/

@[simp] theorem State.setLedger_pending (s : State) (n : Nat) (x : Ledger) : (s.setLedger n x).pending = s.pending := rfl
@[simp] theorem State.setLedger_out (s : State) (n : Nat) (x : Ledger) : (s.setLedger n x).out = s.out := rfl
@[simp] theorem State.setLedger_free (s : State) (n : Nat) (x : Ledger) : (s.setLedger n x).free = s.free := rfl
@[simp] theorem State.setLedger_regs (s : State) (n : Nat) (x : Ledger) : (s.setLedger n x).regs = s.regs := rfl
@[simp] theorem State.setLedger_captures (s : State) (n : Nat) (x : Ledger) : (s.setLedger n x).captures = s.captures := rfl
@[simp] theorem State.setLedger_nodes (s : State) (n : Nat) (x : Ledger) : (s.setLedger n x).nodes = s.nodes := rfl
@[simp] theorem State.setLedger_sys (s : State) (n : Nat) (x : Ledger) : (s.setLedger n x).sys = s.sys := rfl
@[simp] theorem State.setLedger_mem (s : State) (n : Nat) (x : Ledger) : (s.setLedger n x).mem = s.mem := rfl
@[simp] theorem State.setLedger_cru (s : State) (n : Nat) (x : Ledger) : (s.setLedger n x).cru = s.cru := rfl
@[simp] theorem State.setLedger_hst (s : State) (n : Nat) (x : Ledger) : (s.setLedger n x).hst = s.hst := rfl
@[simp] theorem State.setLedger_tim (s : State) (n : Nat) (x : Ledger) : (s.setLedger n x).tim = s.tim := rfl
@[simp] theorem State.setLedger_gnss (s : State) (n : Nat) (x : Ledger) : (s.setLedger n x).gnss = s.gnss := rfl
@[simp] theorem State.setLedger_bkp (s : State) (n : Nat) (x : Ledger) : (s.setLedger n x).bkp = s.bkp := rfl
@[simp] theorem State.setLedger_pins (s : State) (n : Nat) (x : Ledger) : (s.setLedger n x).pins = s.pins := rfl
@[simp] theorem State.setLedger_lanes (s : State) (n : Nat) (x : Ledger) : (s.setLedger n x).lanes = s.lanes := rfl
@[simp] theorem State.setLedger_fmb (s : State) (n : Nat) (x : Ledger) : (s.setLedger n x).fmb = s.fmb := rfl
@[simp] theorem State.setLedger_sch (s : State) (n : Nat) (x : Ledger) : (s.setLedger n x).sch = s.sch := rfl
@[simp] theorem State.setLedger_sec (s : State) (n : Nat) (x : Ledger) : (s.setLedger n x).sec = s.sec := rfl
@[simp] theorem State.setLedger_fwd (s : State) (n : Nat) (x : Ledger) : (s.setLedger n x).fwd = s.fwd := rfl
@[simp] theorem State.setLedger_plk (s : State) (n : Nat) (x : Ledger) : (s.setLedger n x).plk = s.plk := rfl
@[simp] theorem State.setLedger_cores (s : State) (n : Nat) (x : Ledger) : (s.setLedger n x).cores = s.cores := rfl
@[simp] theorem State.setLedger_tick (s : State) (n : Nat) (x : Ledger) : (s.setLedger n x).tick = s.tick := rfl

/-! ### State.setSlice changes `gnss` alone -/

@[simp] theorem State.setSlice_pending (s : State) (n : Nat) (x : Slice) : (s.setSlice n x).pending = s.pending := rfl
@[simp] theorem State.setSlice_out (s : State) (n : Nat) (x : Slice) : (s.setSlice n x).out = s.out := rfl
@[simp] theorem State.setSlice_free (s : State) (n : Nat) (x : Slice) : (s.setSlice n x).free = s.free := rfl
@[simp] theorem State.setSlice_regs (s : State) (n : Nat) (x : Slice) : (s.setSlice n x).regs = s.regs := rfl
@[simp] theorem State.setSlice_captures (s : State) (n : Nat) (x : Slice) : (s.setSlice n x).captures = s.captures := rfl
@[simp] theorem State.setSlice_nodes (s : State) (n : Nat) (x : Slice) : (s.setSlice n x).nodes = s.nodes := rfl
@[simp] theorem State.setSlice_sys (s : State) (n : Nat) (x : Slice) : (s.setSlice n x).sys = s.sys := rfl
@[simp] theorem State.setSlice_mem (s : State) (n : Nat) (x : Slice) : (s.setSlice n x).mem = s.mem := rfl
@[simp] theorem State.setSlice_cru (s : State) (n : Nat) (x : Slice) : (s.setSlice n x).cru = s.cru := rfl
@[simp] theorem State.setSlice_hst (s : State) (n : Nat) (x : Slice) : (s.setSlice n x).hst = s.hst := rfl
@[simp] theorem State.setSlice_tim (s : State) (n : Nat) (x : Slice) : (s.setSlice n x).tim = s.tim := rfl
@[simp] theorem State.setSlice_bkp (s : State) (n : Nat) (x : Slice) : (s.setSlice n x).bkp = s.bkp := rfl
@[simp] theorem State.setSlice_pins (s : State) (n : Nat) (x : Slice) : (s.setSlice n x).pins = s.pins := rfl
@[simp] theorem State.setSlice_lanes (s : State) (n : Nat) (x : Slice) : (s.setSlice n x).lanes = s.lanes := rfl
@[simp] theorem State.setSlice_fmb (s : State) (n : Nat) (x : Slice) : (s.setSlice n x).fmb = s.fmb := rfl
@[simp] theorem State.setSlice_sch (s : State) (n : Nat) (x : Slice) : (s.setSlice n x).sch = s.sch := rfl
@[simp] theorem State.setSlice_mac (s : State) (n : Nat) (x : Slice) : (s.setSlice n x).mac = s.mac := rfl
@[simp] theorem State.setSlice_sec (s : State) (n : Nat) (x : Slice) : (s.setSlice n x).sec = s.sec := rfl
@[simp] theorem State.setSlice_fwd (s : State) (n : Nat) (x : Slice) : (s.setSlice n x).fwd = s.fwd := rfl
@[simp] theorem State.setSlice_plk (s : State) (n : Nat) (x : Slice) : (s.setSlice n x).plk = s.plk := rfl
@[simp] theorem State.setSlice_cores (s : State) (n : Nat) (x : Slice) : (s.setSlice n x).cores = s.cores := rfl
@[simp] theorem State.setSlice_tick (s : State) (n : Nat) (x : Slice) : (s.setSlice n x).tick = s.tick := rfl

/-! ### State.setTp changes `tim` alone -/

@[simp] theorem State.setTp_pending (s : State) (n : Nat) (x : Tp) : (s.setTp n x).pending = s.pending := rfl
@[simp] theorem State.setTp_out (s : State) (n : Nat) (x : Tp) : (s.setTp n x).out = s.out := rfl
@[simp] theorem State.setTp_free (s : State) (n : Nat) (x : Tp) : (s.setTp n x).free = s.free := rfl
@[simp] theorem State.setTp_regs (s : State) (n : Nat) (x : Tp) : (s.setTp n x).regs = s.regs := rfl
@[simp] theorem State.setTp_captures (s : State) (n : Nat) (x : Tp) : (s.setTp n x).captures = s.captures := rfl
@[simp] theorem State.setTp_nodes (s : State) (n : Nat) (x : Tp) : (s.setTp n x).nodes = s.nodes := rfl
@[simp] theorem State.setTp_sys (s : State) (n : Nat) (x : Tp) : (s.setTp n x).sys = s.sys := rfl
@[simp] theorem State.setTp_mem (s : State) (n : Nat) (x : Tp) : (s.setTp n x).mem = s.mem := rfl
@[simp] theorem State.setTp_cru (s : State) (n : Nat) (x : Tp) : (s.setTp n x).cru = s.cru := rfl
@[simp] theorem State.setTp_hst (s : State) (n : Nat) (x : Tp) : (s.setTp n x).hst = s.hst := rfl
@[simp] theorem State.setTp_gnss (s : State) (n : Nat) (x : Tp) : (s.setTp n x).gnss = s.gnss := rfl
@[simp] theorem State.setTp_bkp (s : State) (n : Nat) (x : Tp) : (s.setTp n x).bkp = s.bkp := rfl
@[simp] theorem State.setTp_pins (s : State) (n : Nat) (x : Tp) : (s.setTp n x).pins = s.pins := rfl
@[simp] theorem State.setTp_lanes (s : State) (n : Nat) (x : Tp) : (s.setTp n x).lanes = s.lanes := rfl
@[simp] theorem State.setTp_fmb (s : State) (n : Nat) (x : Tp) : (s.setTp n x).fmb = s.fmb := rfl
@[simp] theorem State.setTp_sch (s : State) (n : Nat) (x : Tp) : (s.setTp n x).sch = s.sch := rfl
@[simp] theorem State.setTp_mac (s : State) (n : Nat) (x : Tp) : (s.setTp n x).mac = s.mac := rfl
@[simp] theorem State.setTp_sec (s : State) (n : Nat) (x : Tp) : (s.setTp n x).sec = s.sec := rfl
@[simp] theorem State.setTp_fwd (s : State) (n : Nat) (x : Tp) : (s.setTp n x).fwd = s.fwd := rfl
@[simp] theorem State.setTp_plk (s : State) (n : Nat) (x : Tp) : (s.setTp n x).plk = s.plk := rfl
@[simp] theorem State.setTp_cores (s : State) (n : Nat) (x : Tp) : (s.setTp n x).cores = s.cores := rfl
@[simp] theorem State.setTp_tick (s : State) (n : Nat) (x : Tp) : (s.setTp n x).tick = s.tick := rfl

/-! ### State.setQueue changes `hst` alone -/

@[simp] theorem State.setQueue_pending (s : State) (n : Nat) (x : HQueue) : (s.setQueue n x).pending = s.pending := rfl
@[simp] theorem State.setQueue_out (s : State) (n : Nat) (x : HQueue) : (s.setQueue n x).out = s.out := rfl
@[simp] theorem State.setQueue_free (s : State) (n : Nat) (x : HQueue) : (s.setQueue n x).free = s.free := rfl
@[simp] theorem State.setQueue_regs (s : State) (n : Nat) (x : HQueue) : (s.setQueue n x).regs = s.regs := rfl
@[simp] theorem State.setQueue_captures (s : State) (n : Nat) (x : HQueue) : (s.setQueue n x).captures = s.captures := rfl
@[simp] theorem State.setQueue_nodes (s : State) (n : Nat) (x : HQueue) : (s.setQueue n x).nodes = s.nodes := rfl
@[simp] theorem State.setQueue_sys (s : State) (n : Nat) (x : HQueue) : (s.setQueue n x).sys = s.sys := rfl
@[simp] theorem State.setQueue_mem (s : State) (n : Nat) (x : HQueue) : (s.setQueue n x).mem = s.mem := rfl
@[simp] theorem State.setQueue_cru (s : State) (n : Nat) (x : HQueue) : (s.setQueue n x).cru = s.cru := rfl
@[simp] theorem State.setQueue_tim (s : State) (n : Nat) (x : HQueue) : (s.setQueue n x).tim = s.tim := rfl
@[simp] theorem State.setQueue_gnss (s : State) (n : Nat) (x : HQueue) : (s.setQueue n x).gnss = s.gnss := rfl
@[simp] theorem State.setQueue_bkp (s : State) (n : Nat) (x : HQueue) : (s.setQueue n x).bkp = s.bkp := rfl
@[simp] theorem State.setQueue_pins (s : State) (n : Nat) (x : HQueue) : (s.setQueue n x).pins = s.pins := rfl
@[simp] theorem State.setQueue_lanes (s : State) (n : Nat) (x : HQueue) : (s.setQueue n x).lanes = s.lanes := rfl
@[simp] theorem State.setQueue_fmb (s : State) (n : Nat) (x : HQueue) : (s.setQueue n x).fmb = s.fmb := rfl
@[simp] theorem State.setQueue_sch (s : State) (n : Nat) (x : HQueue) : (s.setQueue n x).sch = s.sch := rfl
@[simp] theorem State.setQueue_mac (s : State) (n : Nat) (x : HQueue) : (s.setQueue n x).mac = s.mac := rfl
@[simp] theorem State.setQueue_sec (s : State) (n : Nat) (x : HQueue) : (s.setQueue n x).sec = s.sec := rfl
@[simp] theorem State.setQueue_fwd (s : State) (n : Nat) (x : HQueue) : (s.setQueue n x).fwd = s.fwd := rfl
@[simp] theorem State.setQueue_plk (s : State) (n : Nat) (x : HQueue) : (s.setQueue n x).plk = s.plk := rfl
@[simp] theorem State.setQueue_cores (s : State) (n : Nat) (x : HQueue) : (s.setQueue n x).cores = s.cores := rfl
@[simp] theorem State.setQueue_tick (s : State) (n : Nat) (x : HQueue) : (s.setQueue n x).tick = s.tick := rfl

/-! ### State.fresh changes `free` alone -/

@[simp] theorem State.fresh_pending (s : State) : s.fresh.2.pending = s.pending := rfl
@[simp] theorem State.fresh_out (s : State) : s.fresh.2.out = s.out := rfl
@[simp] theorem State.fresh_free (s : State) : s.fresh.2.free = s.free + 1 := rfl
@[simp] theorem State.fresh_regs (s : State) : s.fresh.2.regs = s.regs := rfl
@[simp] theorem State.fresh_captures (s : State) : s.fresh.2.captures = s.captures := rfl
@[simp] theorem State.fresh_nodes (s : State) : s.fresh.2.nodes = s.nodes := rfl
@[simp] theorem State.fresh_sys (s : State) : s.fresh.2.sys = s.sys := rfl
@[simp] theorem State.fresh_mem (s : State) : s.fresh.2.mem = s.mem := rfl
@[simp] theorem State.fresh_cru (s : State) : s.fresh.2.cru = s.cru := rfl
@[simp] theorem State.fresh_hst (s : State) : s.fresh.2.hst = s.hst := rfl
@[simp] theorem State.fresh_tim (s : State) : s.fresh.2.tim = s.tim := rfl
@[simp] theorem State.fresh_gnss (s : State) : s.fresh.2.gnss = s.gnss := rfl
@[simp] theorem State.fresh_bkp (s : State) : s.fresh.2.bkp = s.bkp := rfl
@[simp] theorem State.fresh_pins (s : State) : s.fresh.2.pins = s.pins := rfl
@[simp] theorem State.fresh_lanes (s : State) : s.fresh.2.lanes = s.lanes := rfl
@[simp] theorem State.fresh_fmb (s : State) : s.fresh.2.fmb = s.fmb := rfl
@[simp] theorem State.fresh_sch (s : State) : s.fresh.2.sch = s.sch := rfl
@[simp] theorem State.fresh_mac (s : State) : s.fresh.2.mac = s.mac := rfl
@[simp] theorem State.fresh_sec (s : State) : s.fresh.2.sec = s.sec := rfl
@[simp] theorem State.fresh_fwd (s : State) : s.fresh.2.fwd = s.fwd := rfl
@[simp] theorem State.fresh_plk (s : State) : s.fresh.2.plk = s.plk := rfl
@[simp] theorem State.fresh_cores (s : State) : s.fresh.2.cores = s.cores := rfl
@[simp] theorem State.fresh_tick (s : State) : s.fresh.2.tick = s.tick := rfl

end Sys2Proof.Machine
end

