-- ==== Sys2Proof/Laws/Events.lean ====
section
/-! SUPPORT. What raising an event can change: registers, the stations' HST records, what leaves the device, and the cores'
event FIFOs. Everything else stays. -/

namespace Sys2Proof.Machine

/-- A state with all that raising an event may change taken out. -/
def State.besideEvents (s : State) : State :=
  { s with regs := [], hst := ⟨[], 0, false, [], 0, false, [], [], 0, 0⟩, out := [], cores := [] }

@[simp] theorem State.besideEvents_put (s : State) (a : Nat) (w : Word) : (s.put a w).besideEvents = s.besideEvents := by
  simp [State.besideEvents]
@[simp] theorem State.besideEvents_setFld (s : State) (f : Fld) (v : Nat) : (s.setFld f v).besideEvents = s.besideEvents := by
  simp [State.besideEvents]
@[simp] theorem State.besideEvents_setBit (s : State) (f : Fld) (b : Bool) : (s.setBit f b).besideEvents = s.besideEvents := by
  simp [State.besideEvents]
@[simp] theorem State.besideEvents_count (s : State) (f : Fld) : (s.count f).besideEvents = s.besideEvents := by
  simp [State.besideEvents]
@[simp] theorem State.besideEvents_emit (s : State) (o : Out) : (s.emit o).besideEvents = s.besideEvents := by
  simp [State.besideEvents]
@[simp] theorem State.besideEvents_setCore (s : State) (c : Nat) (x : Core) : (s.setCore c x).besideEvents = s.besideEvents := by
  simp [State.besideEvents]
@[simp] theorem State.besideEvents_setPending (s : State) (v : Nat) (b : Bool) :
    (s.setPending v b).besideEvents = s.besideEvents := by
  simp [State.setPending]
theorem State.besideEvents_hst (s : State) (h : Hst) : ({ s with hst := h } : State).besideEvents = s.besideEvents := rfl

@[simp] theorem State.besideEvents_sendVector (s : State) (v : Nat) : (s.sendVector v).besideEvents = s.besideEvents := by
  simp only [State.sendVector]; split
  · simp
  · rw [State.besideEvents_hst]; simp

@[simp] theorem State.besideEvents_signalVector (s : State) (v : Nat) : (s.signalVector v).besideEvents = s.besideEvents := by
  simp only [State.signalVector]; split <;> simp

@[simp] theorem State.besideEvents_toCore (s : State) (c id data : Nat) :
    (s.toCore c id data).besideEvents = s.besideEvents := by
  simp only [State.toCore]; split
  · rfl
  · split <;> simp

@[simp] theorem State.besideEvents_routeCores (s : State) (w : Word) (id data : Nat) :
    (s.routeCores w id data).besideEvents = s.besideEvents := by
  simp only [State.routeCores]
  generalize List.range 16 = l
  induction l generalizing s with
  | nil => rfl
  | cons c r ih => simp only [List.foldl_cons]; rw [ih]; split <;> simp

@[simp] theorem State.besideEvents_countEvent (s : State) (id data : Nat) :
    (s.countEvent id data).besideEvents = s.besideEvents := by simp [State.countEvent]

@[simp] theorem State.besideEvents_eventVector (s : State) (id : Nat) :
    (s.eventVector id).besideEvents = s.besideEvents := by
  simp only [State.eventVector]; split <;> simp

@[simp] theorem State.besideEvents_dropRecord (s : State) (id : Nat) :
    (s.dropRecord id).besideEvents = s.besideEvents := by
  simp only [State.dropRecord, State.besideEvents_eventVector]
  split
  · simp only [State.besideEvents_countEvent, State.besideEvents_hst, State.besideEvents_count]
  · simp only [State.besideEvents_hst, State.besideEvents_count]

@[simp] theorem State.besideEvents_generateRecord (s : State) (id data : Nat) :
    (s.generateRecord id data).besideEvents = s.besideEvents := by
  have hs : (s.takeSeq).2.besideEvents = s.besideEvents := by simp [State.takeSeq]
  unfold State.generateRecord
  generalize s.takeSeq = p at hs ⊢
  obtain ⟨n, t⟩ := p
  by_cases h : t.hst.evBuf.length < 2048
  · simp only [h, if_true]; exact (State.besideEvents_hst t _).trans hs
  · simpa only [h, if_false, State.besideEvents_dropRecord] using hs

/-- Raising an event leaves everything but registers, HST's records, outputs and cores. -/
@[simp] theorem State.besideEvents_raise (s : State) (id data : Nat) : (s.raise id data).besideEvents = s.besideEvents := by
  simp only [State.raise]; split
  · simp
  · split <;> simp

@[simp] theorem State.raise_pending (s : State) (id data : Nat) : (s.raise id data).pending = s.pending := by
  have h := congrArg State.pending (State.besideEvents_raise s id data); exact h
@[simp] theorem State.raise_free (s : State) (id data : Nat) : (s.raise id data).free = s.free := by
  have h := congrArg State.free (State.besideEvents_raise s id data); exact h
@[simp] theorem State.raise_captures (s : State) (id data : Nat) : (s.raise id data).captures = s.captures := by
  have h := congrArg State.captures (State.besideEvents_raise s id data); exact h
@[simp] theorem State.raise_nodes (s : State) (id data : Nat) : (s.raise id data).nodes = s.nodes := by
  have h := congrArg State.nodes (State.besideEvents_raise s id data); exact h
@[simp] theorem State.raise_sys (s : State) (id data : Nat) : (s.raise id data).sys = s.sys := by
  have h := congrArg State.sys (State.besideEvents_raise s id data); exact h
@[simp] theorem State.raise_mem (s : State) (id data : Nat) : (s.raise id data).mem = s.mem := by
  have h := congrArg State.mem (State.besideEvents_raise s id data); exact h
@[simp] theorem State.raise_cru (s : State) (id data : Nat) : (s.raise id data).cru = s.cru := by
  have h := congrArg State.cru (State.besideEvents_raise s id data); exact h
@[simp] theorem State.raise_tim (s : State) (id data : Nat) : (s.raise id data).tim = s.tim := by
  have h := congrArg State.tim (State.besideEvents_raise s id data); exact h
@[simp] theorem State.raise_gnss (s : State) (id data : Nat) : (s.raise id data).gnss = s.gnss := by
  have h := congrArg State.gnss (State.besideEvents_raise s id data); exact h
@[simp] theorem State.raise_bkp (s : State) (id data : Nat) : (s.raise id data).bkp = s.bkp := by
  have h := congrArg State.bkp (State.besideEvents_raise s id data); exact h
@[simp] theorem State.raise_pins (s : State) (id data : Nat) : (s.raise id data).pins = s.pins := by
  have h := congrArg State.pins (State.besideEvents_raise s id data); exact h
@[simp] theorem State.raise_lanes (s : State) (id data : Nat) : (s.raise id data).lanes = s.lanes := by
  have h := congrArg State.lanes (State.besideEvents_raise s id data); exact h
@[simp] theorem State.raise_fmb (s : State) (id data : Nat) : (s.raise id data).fmb = s.fmb := by
  have h := congrArg State.fmb (State.besideEvents_raise s id data); exact h
@[simp] theorem State.raise_sch (s : State) (id data : Nat) : (s.raise id data).sch = s.sch := by
  have h := congrArg State.sch (State.besideEvents_raise s id data); exact h
@[simp] theorem State.raise_mac (s : State) (id data : Nat) : (s.raise id data).mac = s.mac := by
  have h := congrArg State.mac (State.besideEvents_raise s id data); exact h
@[simp] theorem State.raise_sec (s : State) (id data : Nat) : (s.raise id data).sec = s.sec := by
  have h := congrArg State.sec (State.besideEvents_raise s id data); exact h
@[simp] theorem State.raise_fwd (s : State) (id data : Nat) : (s.raise id data).fwd = s.fwd := by
  have h := congrArg State.fwd (State.besideEvents_raise s id data); exact h
@[simp] theorem State.raise_plk (s : State) (id data : Nat) : (s.raise id data).plk = s.plk := by
  have h := congrArg State.plk (State.besideEvents_raise s id data); exact h
@[simp] theorem State.raise_tick (s : State) (id data : Nat) : (s.raise id data).tick = s.tick := by
  have h := congrArg State.tick (State.besideEvents_raise s id data); exact h

/-- An event limited to once per second changes what `raise` changes, and notes the second. -/
theorem State.raiseLimited_mem (s : State) (key id data : Nat) : (s.raiseLimited key id data).mem = s.mem := by
  simp only [State.raiseLimited]; split
  · rw [State.raise_mem]; rfl
  · rfl

/-! ### The registers that raising an event may change -/

/-- Offsets at which no event's count, no HST register and no core's FIFO count stands. -/
def quietAddr (a : Nat) : Prop :=
  a < 0x100000 ∨ (0x102000 ≤ a ∧ a < 0x200000) ∨ (0x300000 ≤ a ∧ a < 0x450000) ∨ 0x460000 ≤ a

theorem State.get_emit (s : State) (o : Out) (a : Nat) : (s.emit o).get a = s.get a := rfl
theorem State.get_hst (s : State) (h : Hst) (a : Nat) : ({ s with hst := h } : State).get a = s.get a := rfl
theorem State.get_setCore (s : State) (c : Nat) (x : Core) (a : Nat) : (s.setCore c x).get a = s.get a := rfl

theorem State.get_setPending (s : State) (v : Nat) (b : Bool) (a : Nat) (h : quietAddr a) :
    (s.setPending v b).get a = s.get a :=
  State.get_setBit_other s _ b a (by simp only [msixPending, quietAddr] at *; omega)

theorem State.get_sendVector (s : State) (v a : Nat) (h : quietAddr a) : (s.sendVector v).get a = s.get a := by
  simp only [State.sendVector]; split
  · rw [State.get_emit, State.get_setPending s v _ a h]
  · rw [State.get_hst, State.get_emit, State.get_setPending s v _ a h]

theorem State.get_signalVector (s : State) (v a : Nat) (h : quietAddr a) : (s.signalVector v).get a = s.get a := by
  simp only [State.signalVector]; split
  · exact State.get_setPending s v _ a h
  · exact State.get_sendVector s v a h

theorem State.get_toCore (s : State) (c id data a : Nat) (hc : c < 16) (h : quietAddr a) :
    (s.toCore c id data).get a = s.get a := by
  simp only [State.toCore]; split
  · rfl
  · split
    · rfl
    · refine State.get_count_other s _ a ?_
      simp only [Fields.CHB_CEVQ_LOST, Fields.CHB_CEVQ, quietAddr] at *; omega

theorem State.get_routeCores (s : State) (w : Word) (id data a : Nat) (h : quietAddr a) :
    (s.routeCores w id data).get a = s.get a := by
  simp only [State.routeCores]
  have key : ∀ (l : List Nat) (t : State), (∀ c ∈ l, c < 16) →
      (l.foldl (fun s c => if w.getLsbD (16 + c) then s.toCore c id data else s) t).get a = t.get a := by
    intro l
    induction l with
    | nil => intro t _; rfl
    | cons c r ih =>
      intro t hl
      rw [List.foldl_cons, ih _ (fun d hd => hl d (by simp [hd]))]
      split
      · exact State.get_toCore t c id data a (hl c (by simp)) h
      · rfl
  exact key _ s (fun c hc => by simpa using hc)

theorem State.get_countEvent (s : State) (id data a : Nat) (hi : id < 256) (h : quietAddr a) :
    (s.countEvent id data).get a = s.get a := by
  rw [State.countEvent, State.get_routeCores _ _ _ _ a h]
  refine State.get_count_other s _ a ?_
  simp only [routeCount, quietAddr] at *; omega

theorem State.get_eventVector (s : State) (id a : Nat) (h : quietAddr a) : (s.eventVector id).get a = s.get a := by
  simp only [State.eventVector]; split
  · exact State.get_signalVector s _ a h
  · rfl

theorem State.get_dropRecord (s : State) (id a : Nat) (h : quietAddr a) : (s.dropRecord id).get a = s.get a := by
  have hl : (s.count Fields.HST_ERSTAT_LOST).get a = s.get a :=
    State.get_count_other s _ a (by simp only [Fields.HST_ERSTAT_LOST, Fields.HST_ERSTAT, quietAddr] at *; omega)
  simp only [State.dropRecord]
  rw [State.get_eventVector _ _ a h]
  split
  · rw [State.get_countEvent _ _ _ a (by decide) h, State.get_hst, hl]
  · rw [State.get_hst, hl]

theorem State.get_generateRecord (s : State) (id data a : Nat) (h : quietAddr a) :
    (s.generateRecord id data).get a = s.get a := by
  have hs : (s.takeSeq).2.get a = s.get a :=
    State.get_setFld_other s _ _ a (by simp only [Fields.HST_EVSEQ_SEQ, Fields.HST_EVSEQ, quietAddr] at *; omega)
  unfold State.generateRecord
  generalize s.takeSeq = p at hs ⊢
  obtain ⟨n, t⟩ := p
  by_cases hl : t.hst.evBuf.length < 2048
  · simp only [hl, if_true]; exact hs
  · simp only [hl, if_false]; exact (State.get_dropRecord t id a h).trans hs

/-- Raising an event changes no register outside HST, the event counts and the cores' windows. -/
theorem State.get_raise (s : State) (id data a : Nat) (hi : id < 256) (h : quietAddr a) :
    (s.raise id data).get a = s.get a := by
  have hc := State.get_countEvent s id data a hi h
  simp only [State.raise]; split
  · exact hc
  · split
    · exact (State.get_generateRecord _ _ _ a h).trans hc
    · exact (State.get_eventVector _ _ a h).trans hc

theorem State.fld_raise (s : State) (id data : Nat) (f : Fld) (hi : id < 256) (h : quietAddr f.addr) :
    (s.raise id data).fld f = s.fld f := State.fld_of_get f (State.get_raise s id data f.addr hi h)

end Sys2Proof.Machine
end

