-- ==== Sys2Proof/Laws/Banks.lean ====
section
/-! SUPPORT. The banks: what a store reads back as, and that every operation keeps the canonical form of the octets. -/

namespace Sys2Proof.Machine

open Sys2Proof.Laws

/-! ### Sorted lists in pieces -/

theorem tabSorted_append {β : Type} : ∀ (n m : Nat) (l r : List (Nat × β)), tabSorted n l = true → tabSorted m r = true →
    (∀ p ∈ l, p.1 < m) → n ≤ m → tabSorted n (l ++ r) = true
  | n, m, [], r, _, hr, _, hnm => tabSorted_mono hnm r hr
  | n, m, (k, v) :: l, r, hl, hr, hb, _ => by
    simp only [tabSorted, Bool.and_eq_true, decide_eq_true_eq, List.cons_append] at hl ⊢
    have hk : k < m := hb (k, v) (by simp)
    exact ⟨hl.1, tabSorted_append (k + 1) m l r hl.2 hr (fun p hp => hb p (by simp [hp])) (by omega)⟩

theorem tabSorted_filter {β : Type} (q : Nat × β → Bool) : ∀ (n : Nat) (l : List (Nat × β)), tabSorted n l = true →
    tabSorted n (l.filter q) = true
  | _, [], _ => rfl
  | n, (k, v) :: l, h => by
    simp only [tabSorted, Bool.and_eq_true, decide_eq_true_eq] at h
    have ih := tabSorted_filter q (k + 1) l h.2
    by_cases hq : q (k, v) = true
    · simp [hq, tabSorted, h.1, ih]
    · simp only [List.filter_cons, hq]
      exact tabSorted_mono (by omega) _ ih

/-- A bound below every key may take the place of the one that a list is sorted from. -/
theorem tabSorted_from {β : Type} : ∀ (n m : Nat) (l : List (Nat × β)), tabSorted n l = true → (∀ p ∈ l, m ≤ p.1) →
    tabSorted m l = true
  | _, _, [], _, _ => rfl
  | n, m, (k, v) :: l, h, hb => by
    simp only [tabSorted, Bool.and_eq_true, decide_eq_true_eq] at h ⊢
    exact ⟨hb (k, v) (by simp), h.2⟩

/-! ### A block of octets -/

theorem blockCells_range : ∀ (a : Nat) (bs : List Byte), ∀ p ∈ blockCells a bs, a ≤ p.1 ∧ p.1 < a + bs.length ∧ p.2 ≠ 0#8
  | _, [], p, hp => by simp [blockCells] at hp
  | a, b :: r, p, hp => by
    by_cases hb : b = 0#8
    · simp only [blockCells, hb, if_true] at hp
      have := blockCells_range (a + 1) r p hp
      simp only [List.length_cons]; exact ⟨by omega, by omega, this.2.2⟩
    · simp only [blockCells, hb, if_false, List.mem_cons] at hp
      rcases hp with rfl | hp
      · simp [hb]
      · have := blockCells_range (a + 1) r p hp
        simp only [List.length_cons]; exact ⟨by omega, by omega, this.2.2⟩

theorem tabSorted_blockCells : ∀ (a : Nat) (bs : List Byte), tabSorted a (blockCells a bs) = true
  | _, [] => rfl
  | a, b :: r => by
    have ih := tabSorted_blockCells (a + 1) r
    by_cases hb : b = 0#8
    · simp only [blockCells, hb, if_true]; exact tabSorted_mono (by omega) _ ih
    · simp [blockCells, hb, tabSorted, ih]

/-- A block put into a memory keeps the canonical form. -/
theorem Memory.wf_putBlock (m : List Host.Cell) (a : Nat) (bs : List Byte) (h : Memory.wf m = true) :
    Memory.wf (putBlock m a bs) = true := by
  simp only [Memory.wf, tabWf, Bool.and_eq_true] at h ⊢
  refine ⟨?_, ?_⟩
  · have h3 : tabSorted (a + bs.length) (m.filter (fun c => decide (a + bs.length ≤ c.1))) = true :=
      tabSorted_from 0 _ _ (tabSorted_filter _ 0 m h.1) (fun p hp => by simpa using (List.mem_filter.mp hp).2)
    have h2 : tabSorted a (blockCells a bs ++ m.filter (fun c => decide (a + bs.length ≤ c.1))) = true :=
      tabSorted_append a _ _ _ (tabSorted_blockCells a bs) h3 (fun p hp => (blockCells_range a bs p hp).2.1) (by omega)
    rw [putBlock, List.append_assoc]
    exact tabSorted_append 0 a _ _ (tabSorted_filter _ 0 m h.1) h2
      (fun p hp => by simpa using (List.mem_filter.mp hp).2) (Nat.zero_le _)
  · have h0 := h.2
    simp only [tabNoDefault, List.all_eq_true] at h0 ⊢
    intro p hp
    simp only [putBlock, List.mem_append, List.mem_filter] at hp
    rcases hp with (hp | hp) | hp
    · exact h0 p hp.1
    · simp [(blockCells_range a bs p hp).2.2]
    · exact h0 p hp.1

theorem tabGet_append_right {β : Type} (d : β) (l r : List (Nat × β)) (x : Nat) (h : ∀ p ∈ l, p.1 ≠ x) :
    tabGet d (l ++ r) x = tabGet d r x := by
  induction l with
  | nil => rfl
  | cons p l ih =>
    obtain ⟨k, v⟩ := p
    have hk : x ≠ k := fun e => h (k, v) (by simp) e.symm
    simp [tabGet, hk, ih (fun q hq => h q (by simp [hq]))]

theorem tabGet_append_left {β : Type} (d : β) (l r : List (Nat × β)) (x : Nat) (h : ∀ p ∈ r, p.1 ≠ x) :
    tabGet d (l ++ r) x = tabGet d l x := by
  induction l with
  | nil => simpa [tabGet] using tabGet_append_right d r [] x h
  | cons p l ih =>
    obtain ⟨k, v⟩ := p
    by_cases hk : x = k <;> simp [tabGet, hk, ih]

theorem tabGet_filter {β : Type} (d : β) (q : Nat → Bool) (l : List (Nat × β)) (x : Nat) :
    tabGet d (l.filter (fun p => q p.1)) x = if q x then tabGet d l x else d := by
  induction l with
  | nil => simp [tabGet]
  | cons p l ih =>
    obtain ⟨k, v⟩ := p
    by_cases hk : x = k
    · subst hk
      by_cases hq : q x = true <;> simp [hq, tabGet, ih]
    · by_cases hq : q k = true <;> simp [hq, tabGet, hk, ih]

theorem tabGet_blockCells : ∀ (a : Nat) (bs : List Byte) (x : Nat),
    tabGet 0#8 (blockCells a bs) x = if a ≤ x ∧ x < a + bs.length then bs.getD (x - a) 0#8 else 0#8
  | a, [], x => by simp [blockCells, tabGet]
  | a, b :: r, x => by
    have ih := tabGet_blockCells (a + 1) r x
    by_cases hx : x = a
    · subst hx
      by_cases hb : b = 0#8
      · simp [blockCells, hb, ih]
      · simp [blockCells, hb, tabGet]
    · have e : (if b = 0#8 then blockCells (a + 1) r else (a, b) :: blockCells (a + 1) r) = blockCells a (b :: r) := by
        simp [blockCells]
      rw [← e]
      have hg : tabGet 0#8 (if b = 0#8 then blockCells (a + 1) r else (a, b) :: blockCells (a + 1) r) x =
          tabGet 0#8 (blockCells (a + 1) r) x := by
        by_cases hb : b = 0#8 <;> simp [hb, tabGet, hx]
      rw [hg, ih]
      by_cases h1 : a + 1 ≤ x ∧ x < a + 1 + r.length
      · have h2 : a ≤ x ∧ x < a + (b :: r).length := by simp only [List.length_cons]; omega
        rw [if_pos h1, if_pos h2]
        obtain ⟨j, rfl⟩ : ∃ j, x = a + 1 + j := ⟨x - (a + 1), by omega⟩
        have e1 : a + 1 + j - (a + 1) = j := by omega
        have e2 : a + 1 + j - a = j + 1 := by omega
        rw [e1, e2]; simp
      · have h2 : ¬ (a ≤ x ∧ x < a + (b :: r).length) := by simp only [List.length_cons]; omega
        rw [if_neg h1, if_neg h2]

/-- What an address reads as after a block is put: the block's octet inside it, what stood there outside it. -/
theorem tabGet_putBlock (m : List Host.Cell) (a : Nat) (bs : List Byte) (x : Nat) :
    tabGet 0#8 (putBlock m a bs) x =
      if a ≤ x ∧ x < a + bs.length then bs.getD (x - a) 0#8 else tabGet 0#8 m x := by
  have hf1 : ∀ p ∈ m.filter (fun c : Host.Cell => decide (c.1 < a)), p.1 < a :=
    fun p hp => by simpa using (List.mem_filter.mp hp).2
  have hf3 : ∀ p ∈ m.filter (fun c : Host.Cell => decide (a + bs.length ≤ c.1)), a + bs.length ≤ p.1 :=
    fun p hp => by simpa using (List.mem_filter.mp hp).2
  have hb := blockCells_range a bs
  by_cases h1 : x < a
  · have h2 : ¬ (a ≤ x ∧ x < a + bs.length) := by omega
    rw [if_neg h2, putBlock, tabGet_append_left _ _ _ _ (fun p hp => by have := hf3 p hp; omega),
      tabGet_append_left _ _ _ _ (fun p hp => by have := (hb p hp).1; omega),
      tabGet_filter 0#8 (fun k => decide (k < a)) m x]
    simp [h1]
  · by_cases h2 : x < a + bs.length
    · rw [if_pos ⟨by omega, h2⟩, putBlock, tabGet_append_left _ _ _ _ (fun p hp => by have := hf3 p hp; omega),
        tabGet_append_right _ _ _ _ (fun p hp => by have := hf1 p hp; omega), tabGet_blockCells, if_pos ⟨by omega, h2⟩]
    · rw [if_neg (by omega), putBlock, tabGet_append_right, tabGet_filter 0#8 (fun k => decide (a + bs.length ≤ k)) m x]
      · simp [show a + bs.length ≤ x by omega]
      · intro p hp
        simp only [List.mem_append] at hp
        rcases hp with hp | hp
        · have := hf1 p hp; omega
        · have := (hb p hp).2.1; omega

theorem State.cell_storeBlock (s : State) (a : Nat) (bs : List Byte) (x : Nat) :
    (s.storeBlock a bs).cell x = if a ≤ x ∧ x < a + bs.length then bs.getD (x - a) 0#8 else s.cell x :=
  tabGet_putBlock s.mem.cells a bs x

/-! ### Reads leave the banks, writes keep their form -/

/-- A read of a stored word changes counts and captures alone. -/
theorem State.readWord_mem (s : State) (o : Nat) (sc : Bool) (w : Nat) : (s.readWord o sc w).2.mem = s.mem := by
  simp only [State.readWord]
  split <;> simp [State.countCe, State.countUe, State.raiseLimited_mem]

theorem State.readWords_mem (s : State) (o : Nat) (ws : List Nat) : (s.readWords o ws).2.mem = s.mem := by
  induction ws generalizing s with
  | nil => rfl
  | cons w r ih => simp only [State.readWords]; rw [ih, State.readWord_mem]

@[simp] theorem State.nonOwner_mem (s : State) (o b f : Nat) (w : Bool) : (s.nonOwner o b f w).mem = s.mem := by
  simp only [State.nonOwner, State.raise_mem]; split <;> rfl

/-- A read of the banks leaves them as they are. -/
theorem State.bankRead_mem (s : State) (o a n : Nat) : (s.bankRead o a n).2.mem = s.mem := by
  simp only [State.bankRead]; split
  · simp
  · exact State.readWords_mem s o _

theorem State.memWf_storeBlock (s : State) (a : Nat) (bs : List Byte) (h : s.memWf = true) :
    (s.storeBlock a bs).memWf = true := by
  simp only [State.memWf, Bool.and_eq_true] at h ⊢
  exact ⟨Memory.wf_putBlock _ _ _ h.1, h.2⟩

theorem State.memWf_setEcc (s : State) (w m : Nat) (h : s.memWf = true) : (s.setEcc w m).memWf = true := by
  simp only [State.memWf, Bool.and_eq_true] at h ⊢
  exact ⟨h.1, tabWf_set 0 w m _ h.2⟩

theorem State.memWf_of_mem {s t : State} (h : t.mem = s.mem) (hs : s.memWf = true) : t.memWf = true := by
  simpa only [State.memWf, h] using hs

theorem State.memWf_inject (s : State) (w : Nat) (h : s.memWf = true) : (s.inject w).memWf = true := by
  simp only [State.inject]; split
  · exact State.memWf_of_mem (State.setFld_mem _ _ _) (State.memWf_setEcc _ _ _ h)
  · exact h

theorem State.memWf_writeWord (s : State) (o a : Nat) (bs : List Byte) (w : Nat) (h : s.memWf = true) :
    (s.writeWord o a bs w).memWf = true := by
  have hr := State.memWf_of_mem (State.readWord_mem s o false w) h
  simp only [State.writeWord]
  split
  · exact State.memWf_inject _ _ (State.memWf_setEcc _ _ _ (State.memWf_storeBlock _ _ _ h))
  · split
    · exact State.memWf_setEcc _ _ _ (State.memWf_storeBlock _ _ _ hr)
    · exact hr

theorem State.memWf_writeWords (s : State) (o a : Nat) (bs : List Byte) (ws : List Nat) (h : s.memWf = true) :
    (ws.foldl (fun s w => s.writeWord o a bs w) s).memWf = true := by
  induction ws generalizing s with
  | nil => exact h
  | cons w r ih => exact ih _ (State.memWf_writeWord s o a bs w h)

/-- A write of the banks, whether it is served or refused, keeps their canonical form. -/
theorem State.memWf_bankWrite (s : State) (o a : Nat) (bs : List Byte) (h : s.memWf = true) :
    (s.bankWrite o a bs).2.memWf = true := by
  simp only [State.bankWrite]; split
  · exact State.memWf_of_mem (State.nonOwner_mem _ _ _ _ _) h
  · exact State.memWf_writeWords s o a bs _ h

end Sys2Proof.Machine
end

