-- ==== Sys2Proof/Laws/Bus.lean ====
section
/-! SUPPORT. Register writes: the three ways in which a write ends, and what an accepted write leaves alone. -/

namespace Sys2Proof.Machine

open Sys2Proof.Fields

/-! ### How a write ends (R95, R96) -/

/-- The device takes no access without its main rails. -/
theorem State.busWrite_off (s : State) (src : BusSrc) (a : Nat) (w : AccWidth) (v : Word) (h : s.sys.power ≠ .on) :
    s.busWrite src a w v = s := by simp [State.busWrite, h]

/-- A write that a cause of R95 meets is rejected. -/
theorem State.busWrite_rejected (s : State) (src : BusSrc) (a : Nat) (w : AccWidth) (v : Word) (c : Nat)
    (hp : s.sys.power = .on) (h : s.judge (a / 4 * 4) w v = some c) :
    s.busWrite src a w v = s.reject src (if w = .word then a / 4 * 4 else a) c := by
  simp [State.busWrite, hp, h]

/-- A word write that no cause meets takes effect. -/
theorem State.write_taken (s : State) (src : BusSrc) (a : Nat) (v : Word) (ha : a % 4 = 0) (h : s.takes a v) :
    s.write src a v = ((s.applyWrite src a v).markDirty a).mgtWrite src a v := by
  have e : a / 4 * 4 = a := by omega
  simp [State.write, State.busWrite, State.acceptWrite, h.1, e, h.2]

/-! ### What follows an accepted write -/

/-- Noting a dirty register changes the list of dirty registers alone. -/
theorem State.markDirty_eq (s : State) (a : Nat) :
    s.markDirty a = s ∨ s.markDirty a = { s with sys := { s.sys with dirty := insertNat a s.sys.dirty } } := by
  simp only [State.markDirty]; split
  · exact .inr rfl
  · exact .inl rfl

/-- MGT acts on writes of four registers. -/
theorem State.mgtWrite_other (s : State) (src : BusSrc) (a : Nat) (v : Word)
    (h : a ≠ MGT_MODEREQ ∧ a ≠ MGT_CASTCTL ∧ a ≠ MGT_FRESET ∧ a ≠ MGT_ASSAYCTL) : s.mgtWrite src a v = s := by
  simp [State.mgtWrite, h.1, h.2.1, h.2.2.1, h.2.2.2]

@[simp] theorem State.markDirty_pending (s : State) (a : Nat) : (s.markDirty a).pending = s.pending := by
  simp only [State.markDirty]; split <;> rfl
@[simp] theorem State.markDirty_out (s : State) (a : Nat) : (s.markDirty a).out = s.out := by
  simp only [State.markDirty]; split <;> rfl
@[simp] theorem State.markDirty_free (s : State) (a : Nat) : (s.markDirty a).free = s.free := by
  simp only [State.markDirty]; split <;> rfl
@[simp] theorem State.markDirty_regs (s : State) (a : Nat) : (s.markDirty a).regs = s.regs := by
  simp only [State.markDirty]; split <;> rfl
@[simp] theorem State.markDirty_captures (s : State) (a : Nat) : (s.markDirty a).captures = s.captures := by
  simp only [State.markDirty]; split <;> rfl
@[simp] theorem State.markDirty_nodes (s : State) (a : Nat) : (s.markDirty a).nodes = s.nodes := by
  simp only [State.markDirty]; split <;> rfl
@[simp] theorem State.markDirty_mem (s : State) (a : Nat) : (s.markDirty a).mem = s.mem := by
  simp only [State.markDirty]; split <;> rfl
@[simp] theorem State.markDirty_cru (s : State) (a : Nat) : (s.markDirty a).cru = s.cru := by
  simp only [State.markDirty]; split <;> rfl
@[simp] theorem State.markDirty_hst (s : State) (a : Nat) : (s.markDirty a).hst = s.hst := by
  simp only [State.markDirty]; split <;> rfl
@[simp] theorem State.markDirty_tim (s : State) (a : Nat) : (s.markDirty a).tim = s.tim := by
  simp only [State.markDirty]; split <;> rfl
@[simp] theorem State.markDirty_gnss (s : State) (a : Nat) : (s.markDirty a).gnss = s.gnss := by
  simp only [State.markDirty]; split <;> rfl
@[simp] theorem State.markDirty_bkp (s : State) (a : Nat) : (s.markDirty a).bkp = s.bkp := by
  simp only [State.markDirty]; split <;> rfl
@[simp] theorem State.markDirty_pins (s : State) (a : Nat) : (s.markDirty a).pins = s.pins := by
  simp only [State.markDirty]; split <;> rfl
@[simp] theorem State.markDirty_lanes (s : State) (a : Nat) : (s.markDirty a).lanes = s.lanes := by
  simp only [State.markDirty]; split <;> rfl
@[simp] theorem State.markDirty_fmb (s : State) (a : Nat) : (s.markDirty a).fmb = s.fmb := by
  simp only [State.markDirty]; split <;> rfl
@[simp] theorem State.markDirty_sch (s : State) (a : Nat) : (s.markDirty a).sch = s.sch := by
  simp only [State.markDirty]; split <;> rfl
@[simp] theorem State.markDirty_mac (s : State) (a : Nat) : (s.markDirty a).mac = s.mac := by
  simp only [State.markDirty]; split <;> rfl
@[simp] theorem State.markDirty_sec (s : State) (a : Nat) : (s.markDirty a).sec = s.sec := by
  simp only [State.markDirty]; split <;> rfl
@[simp] theorem State.markDirty_fwd (s : State) (a : Nat) : (s.markDirty a).fwd = s.fwd := by
  simp only [State.markDirty]; split <;> rfl
@[simp] theorem State.markDirty_plk (s : State) (a : Nat) : (s.markDirty a).plk = s.plk := by
  simp only [State.markDirty]; split <;> rfl
@[simp] theorem State.markDirty_cores (s : State) (a : Nat) : (s.markDirty a).cores = s.cores := by
  simp only [State.markDirty]; split <;> rfl
@[simp] theorem State.markDirty_tick (s : State) (a : Nat) : (s.markDirty a).tick = s.tick := by
  simp only [State.markDirty]; split <;> rfl
@[simp] theorem State.markDirty_sys_power (s : State) (a : Nat) : (s.markDirty a).sys.power = s.sys.power := by
  simp only [State.markDirty]; split <;> rfl
@[simp] theorem State.markDirty_sys_phase (s : State) (a : Nat) : (s.markDirty a).sys.phase = s.sys.phase := by
  simp only [State.markDirty]; split <;> rfl
@[simp] theorem State.markDirty_sys_wake (s : State) (a : Nat) : (s.markDirty a).sys.wake = s.sys.wake := by
  simp only [State.markDirty]; split <;> rfl
@[simp] theorem State.markDirty_sys_ranOn (s : State) (a : Nat) : (s.markDirty a).sys.ranOn = s.sys.ranOn := by
  simp only [State.markDirty]; split <;> rfl
@[simp] theorem State.markDirty_sys_castSrc (s : State) (a : Nat) : (s.markDirty a).sys.castSrc = s.sys.castSrc := by
  simp only [State.markDirty]; split <;> rfl
@[simp] theorem State.markDirty_sys_trans (s : State) (a : Nat) : (s.markDirty a).sys.trans = s.sys.trans := by
  simp only [State.markDirty]; split <;> rfl
@[simp] theorem State.markDirty_sys_heldReq (s : State) (a : Nat) : (s.markDirty a).sys.heldReq = s.sys.heldReq := by
  simp only [State.markDirty]; split <;> rfl
@[simp] theorem State.markDirty_sys_heldWake (s : State) (a : Nat) : (s.markDirty a).sys.heldWake = s.sys.heldWake := by
  simp only [State.markDirty]; split <;> rfl
@[simp] theorem State.markDirty_sys_surveyLate (s : State) (a : Nat) : (s.markDirty a).sys.surveyLate = s.sys.surveyLate := by
  simp only [State.markDirty]; split <;> rfl
@[simp] theorem State.markDirty_sys_awakeFrom (s : State) (a : Nat) : (s.markDirty a).sys.awakeFrom = s.sys.awakeFrom := by
  simp only [State.markDirty]; split <;> rfl
@[simp] theorem State.markDirty_sys_autoAdv (s : State) (a : Nat) : (s.markDirty a).sys.autoAdv = s.sys.autoAdv := by
  simp only [State.markDirty]; split <;> rfl
@[simp] theorem State.markDirty_sys_job (s : State) (a : Nat) : (s.markDirty a).sys.job = s.sys.job := by
  simp only [State.markDirty]; split <;> rfl
@[simp] theorem State.markDirty_sys_heldLoad (s : State) (a : Nat) : (s.markDirty a).sys.heldLoad = s.sys.heldLoad := by
  simp only [State.markDirty]; split <;> rfl
@[simp] theorem State.markDirty_sys_flr (s : State) (a : Nat) : (s.markDirty a).sys.flr = s.sys.flr := by
  simp only [State.markDirty]; split <;> rfl
@[simp] theorem State.markDirty_sys_cast (s : State) (a : Nat) : (s.markDirty a).sys.cast = s.sys.cast := by
  simp only [State.markDirty]; split <;> rfl
@[simp] theorem State.markDirty_sys_held (s : State) (a : Nat) : (s.markDirty a).sys.held = s.sys.held := by
  simp only [State.markDirty]; split <;> rfl
@[simp] theorem State.markDirty_sys_recs (s : State) (a : Nat) : (s.markDirty a).sys.recs = s.sys.recs := by
  simp only [State.markDirty]; split <;> rfl
@[simp] theorem State.markDirty_sys_merged (s : State) (a : Nat) : (s.markDirty a).sys.merged = s.sys.merged := by
  simp only [State.markDirty]; split <;> rfl
@[simp] theorem State.markDirty_sys_lastRaise (s : State) (a : Nat) : (s.markDirty a).sys.lastRaise = s.sys.lastRaise := by
  simp only [State.markDirty]; split <;> rfl

@[simp] theorem State.get_markDirty (s : State) (a b : Nat) : (s.markDirty a).get b = s.get b :=
  State.get_of_regs (State.markDirty_regs s a) b
@[simp] theorem State.fld_markDirty (s : State) (a : Nat) (f : Fld) : (s.markDirty a).fld f = s.fld f :=
  State.fld_of_get f (State.get_markDirty s a f.addr)

end Sys2Proof.Machine
end

