-- ==== Sys2Proof/Tests/Slice0.lean ====
section
/-! SUPPORT. Tests. The first part shows that each check of well-formedness refuses an ill-formed command. The second shows, for every
statement of Certificates/Slice0/Obligations.lean, concrete states and operands that meet its hypotheses, clause by clause. The third
holds checks against worked values of the spec and of the standards that it names. -/

open Sys2Proof Sys2Proof.Machine Sys2Proof.Fields

set_option Elab.async false

namespace Sys2Proof.Tests

/-! ### Well-formedness -/

theorem wf_refuses_unaligned_word : (Instr.registerWrite .pcie 2 .word 0).wf = false := by decide
theorem wf_refuses_unaligned_half : (Instr.registerWrite .pcie 1 .half 0).wf = false := by decide
theorem wf_admits_byte : (Instr.registerWrite .pcie 1 .byte 0).wf = true := by decide
theorem wf_refuses_long_bar2_write : (Instr.hostBar2Write 0 (List.replicate 65 0)).wf = false := by decide
theorem wf_admits_bar2_write : (Instr.hostBar2Write 0 (List.replicate 64 0)).wf = true := by decide
theorem wf_refuses_unaligned_spi_read : (Instr.spiRead32 1 1).wf = false := by decide
theorem wf_refuses_unaligned_spi_write : (Instr.spiWrite32 2 [0]).wf = false := by decide
theorem wf_refuses_short_submit : (Instr.spiSubmit (List.replicate 15 0)).wf = false := by decide
theorem wf_admits_submit : (Instr.spiSubmit (List.replicate 16 0)).wf = true := by decide
theorem wf_refuses_long_fetch : (Instr.commandFetched 0 (List.replicate 17 0)).wf = false := by decide
theorem wf_refuses_long_psdu : (Instr.frameReceived 0 0 ⟨false, 2048, false, false⟩ (List.replicate 2048 0) 0 0).wf = false := by
  decide +kernel
theorem wf_admits_psdu : (Instr.frameReceived 0 0 ⟨false, 2047, false, false⟩ (List.replicate 2047 0) 0 0).wf = true := by decide +kernel
theorem wf_refuses_long_image (bs : List Byte) (h : imageMax < bs.length) : (Instr.castStaged (some bs)).wf = false := by
  simp [Instr.wf, h]
theorem wf_refuses_short_beacon : ∀ u, (Instr.mirrorReceived u [] ⟨none, [0, 0, 0], []⟩).wf = false := by
  intro u; rfl
theorem wf_refuses_short_wrap : ∀ u (r : HoRecord), r.jkWrap.length ≠ 24 → (Instr.hoXferReceived u r).wf = false := by
  intro u r h; simp [Instr.wf, h]
theorem wf_refuses_bank_twice : (Instr.assayStage2Done 0 [5, 5]).wf = false := by decide

/-! ### States for the witnesses -/

/-- The state with register fields set. -/
def sets (l : List (Fld × Nat)) (s : State) : State := l.foldl (fun s p => s.setFld p.1 p.2) s

/-- Every function of R42. -/
def allFunctions : List Nat := List.range' 1 19 ++ List.range' 0x20 16

/-- A device in SERVICE with every function cast, its link up and its time valid. -/
def srv : State :=
  sets [(MGT_MODE_MODE, modeService), (HST_STAT_LINKUP, 1), (TIM_STAT_TVALID, 1)]
    { State.reset with
      sys := { Sys.reset with phase := .running, cast := allFunctions }
      tim := { Tim.reset with run := true, ts := 491520000, edge := 491766000, secKnown := true } }

/-- The same device in another mode. -/
def inMode (m : Nat) : State := srv.setFld MGT_MODE_MODE m

/-- The same device with another state of MGT. -/
def withSys (f : Sys → Sys) (s : State) : State := { s with sys := f s.sys }

/-- A device in ANNEAL at a phase of its start. -/
def starting (p : Phase) : State := withSys (fun y => { y with phase := p }) (inMode modeAnneal)

/-- What a device writes with one pulse bit of a register. -/
def pulseOk (s : State) (f : Fld) : Bool :=
  decide (s.takes f.addr (s.setWord f.addr [(f, 1)]))

theorem pulse_takes {s : State} {f : Fld} (h : pulseOk s f = true) : s.takes f.addr (s.setWord f.addr [(f, 1)]) :=
  of_decide_eq_true h

/-! ### Register writes and reads -/

theorem witness_EmptyQueueTicks :
    State.reset.pending = [] ∧ State.reset.tim.run = false ∧ srv.pending = [] ∧ srv.tim.run = true ∧ srv.acqFilling = none
    ∧ srv.sch.owed = false ∧ srv.sys.trans ≠ .dormant 1 ∧ (starting .ready).pending = [] ∧ (starting .ready).tim.run = true
    ∧ (starting .ready).acqFilling = none ∧ (starting .ready).beating = false := by
  decide +kernel

theorem witness_FirstRejectIsCaptured :
    srv.sys.power = .on ∧ srv.judge ((0xFFFFFD#24).toNat / 4 * 4) .byte 0 = some 4 ∧ srv.isSet MGT_REJ_INFO_PEND = false := by
  decide +kernel

theorem witness_LaterRejectOnlyCounts :
    let s := srv.setFld MGT_REJ_INFO_PEND 1
    s.sys.power = .on ∧ s.judge ((0xFFFFFC#24).toNat / 4 * 4) .word 0 = some 4 ∧ s.isSet MGT_REJ_INFO_PEND = true ∧ s.now.rejNew = false
    ∧ (let u := s.reject .spi 0xFFFFF0 4
       let v := (srv.reject .spi 0xFFFFF0 4)
       u.isSet MGT_REJ_INFO_PEND = true ∧ v.isSet MGT_REJ_INFO_PEND = true ∧ v.now.rejNew = true
       ∧ v.judge ((0xFFFFFC#24).toNat / 4 * 4) .word 0 = some 4) := by
  decide +kernel

/-- Each cause of R95 occurs outside the two ranges that the statement leaves to other rules. -/
theorem witness_RejectCauseOrder :
    srv.judge MGT_MODEREQ .word 7 = some 1 ∧ srv.judge TIM_BEATGEOM .word 0 = some 2 ∧ srv.judge MGT_CASTADDR_LO .byte 0 = some 3
    ∧ srv.judge 0xFFFFFC .word 0 = some 4 ∧ (withSys (fun y => { y with held := [0x10] }) srv).judge SEC_JOBD0 .word 1 = some 5
    ∧ srv.judge TIM_SETSEC .word 0 = some 6 ∧ (sets [(FWD_CMD_BUSY, 1)] srv).judge FWD_CMD .word (BitVec.ofNat 32 (2 ^ FWD_CMD_GO.lo)) = some 7
    ∧ srv.judge 0xF00FC .word 0 = some 4 ∧ srv.judge 0xF0400 .word 0 = none ∧ srv.judge 0x45FFFC .word 0 = some 4
    ∧ srv.judge 0x461000 .word 0 = some 4 := by
  decide +kernel

theorem witness_PlainWriteSetsFields :
    ∀ a ∈ [MGT_CASTADDR_LO, MGT_WAKECFG, TIM_TPDLYA 0, GNC_ACQW1, MAC_NRPAGE, FWD_TWSEL, SEC_JOBD0, PLK_HOEUI_LO, SCH_CANCEL,
        HST_ERBASE_LO], srv.takes a 1 ∧ (a = SCH_CANCEL → getFld (1 : Word) SCH_CANCEL_GO = 0) := by
  decide +kernel

theorem witness_FirstHalfReadCaptures :
    srv.sys.power = .on ∧ srv.mode ≠ modeDormant ∧ srv.sys.phase ≠ .assay1Failed ∧ srv.captured TIM_BEATCNT = none
    ∧ srv.captured TIM_NOW0 = none ∧ srv.captured BKP_TIME = none ∧ srv.captured (0x201100 + 0x10000 * 15 + 8 * 47) = none
    ∧ (srv.core 15).wait = false ∧ (srv.core 15).halted = false := by
  decide +kernel

/-! ### Modes, resets and the start -/

theorem witness_ModeRequestBeginsTransition :
    srv.sys.job = none ∧ srv.takes MGT_MODEREQ (srv.setWord MGT_MODEREQ [(MGT_MODEREQ_REQ, modeDormant)]) ∧ srv.beating = true
    ∧ srv.takes MGT_MODEREQ (srv.setWord MGT_MODEREQ [(MGT_MODEREQ_REQ, modeSurvey)]) ∧ srv.serving = true := by
  decide +kernel

theorem witness_AnnealRequestRestarts :
    ∀ m ∈ [modeSurvey, modeService, modeHoldover], (inMode m).beating = true
    ∧ (inMode m).takes MGT_MODEREQ ((inMode m).setWord MGT_MODEREQ [(MGT_MODEREQ_REQ, modeAnneal)]) := by
  decide +kernel

theorem witness_WakeSourceEndsDormant :
    let s := (inMode modeDormant).put MGT_WAKECFG 0xFFFFFFFF
    s.mode = modeDormant ∧ s.sys.trans = .none
    ∧ (((List.range 4).filter (0b1100#4).getLsbD).map (· + 1)).filter (fun w => s.isSet (wakeEnable w)) = [3, 4]
    ∧ s.isSet MGT_WAKECFG_TIMER = true ∧ s.takes MGT_MODEREQ (s.setWord MGT_MODEREQ [(MGT_MODEREQ_REQ, modeAnneal)])
    ∧ (∀ k : Fin 4, (0b1111#4).getLsbD k.val = true → (s.put MGT_WAKECFG 0).isSet (wakeEnable (k.val + 1)) = false)
    ∧ (withSys (fun y => { y with trans := .dormant 2 }) s).sys.trans = .dormant 2 := by
  decide +kernel

theorem witness_DormantPowersStationsDown :
    let s := withSys (fun y => { y with trans := .dormant 2 }) srv
    s.sys.trans = .dormant 2 ∧ s.allWritten = true ∧ s.sys.heldWake = [] := by
  decide +kernel

theorem witness_SurveyTimeoutOnce :
    let s := inMode modeSurvey
    let n := s.setFld MGT_ASSAYCTL_SURVEYMAX 0
    s.mode = modeSurvey ∧ s.fld MGT_ASSAYCTL_SURVEYMAX ≠ 0 ∧ s.sys.surveyLate = false
    ∧ n.mode = modeSurvey ∧ n.fld MGT_ASSAYCTL_SURVEYMAX = 0 := by
  decide +kernel

theorem witness_ResetAndPower :
    srv.sys.power = .on ∧ (withSys (fun y => { y with power := .inReset }) srv).sys.power ≠ .on
    ∧ (withSys (fun y => { y with power := .backup }) srv).sys.power ≠ .on
    ∧ State.reset.sys.power = .on ∧ State.reset.tim.run = false := by
  decide +kernel

theorem witness_StartStages :
    (starting .assay1).sys.power = .on ∧ (starting .assay1).sys.phase = .assay1 ∧ (0b10000#5 : BitVec 5) ≠ 0
    ∧ (starting .scan).sys.phase = .scan ∧ (((starting .scan).indexScan []).ingot 1 0).bothBad = false
    ∧ (starting .assay2).sys.phase = .assay2 ∧ (0x80000000 : Word).getLsbD (16 + 15) = true
    ∧ (starting .calibrate).sys.phase = .calibrate ∧ (starting .calibrate).fld MGT_MODE_PENDING ≠ modeSurvey
    ∧ ((starting .calibrate).setFld MGT_ASSAYCTL_AUTOSURVEY 0).isSet MGT_ASSAYCTL_AUTOSURVEY = false
    ∧ (starting .ready).sys.phase = .ready ∧ pulseOk (starting .ready) MGT_ASSAYCTL_RUN = true := by
  decide +kernel

/-! ### The loader and the functions -/

/-- The octets of words. -/
def octetsOf (ws : List Nat) : List Byte := ws.flatMap (leBytes 4)

/-- A partial casting image for core 15 with one INIT record and an unsigned customer Hallmark, built from R39, R40 and R48. -/
def tinyImage : List Byte :=
  let body := octetsOf [11 + 0x2F * 256, 8, 0x44, 1]
  let rec_ := body ++ leBytes 4 (crc32 body) ++ leBytes 4 0
  let head := octetsOf [0x54534143, 0x10001, 0x29640, 64 + rec_.length + 208, 1, 7, 0, 0x2F, 0, 0, 0, 0, 0, 0, 0]
  head ++ leBytes 4 (crc32 head) ++ rec_ ++ octetsOf ([0x4B4D4C48, 3, 2, 9] ++ List.replicate 48 0)

/-- What that image reads as. -/
def tinyCasting : Casting := ⟨true, false, 7, 0x2F, 3, 9, [⟨11, 0x2F, [0x44, 1]⟩]⟩

def tinyJob (from_ : CastFrom) : LoadJob := ⟨false, from_, 0, [], none, 0, 0⟩

/-- A device in SERVICE that stages an image, with every field of MGT_REVID known. -/
def staging : State :=
  let s := withSys (fun y => { y with job := some (tinyJob .flashSafe) }) (srv.setFld MGT_CASTSTAT_STATE csStaging)
  { s with regs := (MGT_REVID, 0x321) :: s.regs }

theorem tinyImage_reads :
    (match readCasting (staging.fld MGT_REVID_BASE) (staging.fld MGT_CASTID_CASTID) tinyImage with
     | .ok c => decide (c = tinyCasting)
     | .error _ => false) = true := by
  decide +kernel

theorem witness_LoaderStages :
    pulseOk srv MGT_CASTCTL_LOAD = true ∧ srv.beating = true ∧ srv.sys.job = none
    ∧ (withSys (fun y => { y with castSrc := true }) (starting .load)).sys.phase = .load
    ∧ (withSys (fun y => { y with castSrc := true }) (starting .load)).sys.job = none
    ∧ staging.sys.job = some (tinyJob .flashSafe) ∧ (staging.flashImage .flashSafe (tinyImage ++ [0])).1 = some tinyImage
    ∧ staging.fld MGT_CASTSTAT_STATE = csStaging ∧ staging.fld MGT_CASTID_CASTID = 0
    ∧ tinyCasting.partialC = staging.beating
    ∧ (let s := withSys (fun y => { y with job := some (tinyJob .hostPcie) }) staging
       pulseOk s MGT_CASTCTL_CANCEL = true ∧ s.beating = true ∧ s.fld MGT_CASTSTAT_STATE < csQuiesce ∧ s.sys.flr = false
       ∧ s.sys.heldReq = none) := by
  decide +kernel

theorem witness_LoaderStages_error :
    (staging.flashImage .flashSafe (List.replicate 64 0)).1 = some (List.replicate 64 0) ∧
    (match readCasting (staging.fld MGT_REVID_BASE) (staging.fld MGT_CASTID_CASTID) (List.replicate 64 0) with
     | .ok _ => false
     | .error f => decide (f.1 < 256 ∧ f.2 < 65536)) = true := by
  decide +kernel

theorem witness_FunctionSequence :
    (let s := withSys (fun y => { y with job := some { tinyJob .hostPcie with cast := some tinyCasting } })
       (srv.setFld MGT_CASTSTAT_STATE csChecking)
     s.fld MGT_CASTSTAT_STATE = csChecking ∧ isCore tinyCasting.target = true ∧ s.beating = true ∧ s.sys.flr = false
     ∧ s.sys.heldReq = none)
    ∧ isCore (0x2F#8 : Byte).toNat = true ∧ srv.sys.job = none
    ∧ srv.takes MGT_FRESET (srv.setWord MGT_FRESET [(MGT_FRESET_ID, 0x2F)])
    ∧ (let s := withSys (fun y => { y with trans := .dormant 0 }) { srv with cores := [(15, { Core.cold with owed := true })] }
       (s.core 15).owed = true ∧ s.sys.job = none ∧ s.sys.trans = .dormant 0)
    ∧ (let s := withSys (fun y => { y with job := some ⟨true, .none, 3, [], none, 5, 9⟩, held := [3] })
         (srv.setFld MGT_CASTSTAT_STATE csQuiesce)
       s.sys.job = some ⟨true, .none, 3, [], none, 5, 9⟩ ∧ s.fld MGT_CASTSTAT_STATE = csQuiesce ∧ s.sys.flr = false
       ∧ s.sys.heldReq = none ∧ s.cru.ingots = [] ∧ s.sys.recs = [] ∧ s.sch.isOpen = false ∧ s.sys.held.count 3 ≤ 1)
    ∧ (let s := srv.setFld MGT_CASTVER_ARBVER 3
       pulseOk s MGT_CASTCTL_ARBADV = true ∧ s.fld MGT_ARBCNT_COUNT < s.fld MGT_CASTVER_ARBVER ∧ s.isSet MGT_PWRSTAT_BOWARN = false) := by
  decide +kernel

/-! ### The Crucible -/

/-- A counter ingot with both copies, and one write of it queued. -/
def queued : State :=
  { srv with cru := { srv.cru with ingots := [⟨1, 0, some ⟨1, [4], true⟩, some ⟨2 ^ 32 - 1, [3], true⟩⟩], queue := [⟨1, 0, some [5], none⟩],
                                   written := [(.camp 3, 65536)], changed := [131071] } }

theorem witness_CrucibleWrites :
    srv.isSet MGT_PWRSTAT_BOWARN = false ∧ pulseOk srv MGT_COMMIT_REQ = true ∧ srv.isSet MGT_COMMIT_BUSY = false
    ∧ (let s := withSys (fun y => { y with dirty := (List.range 512).map (fun n => TIM_TPDLYA 0 + 4 * n) }) srv
       s.cru.queue.length + s.sys.dirty.length ≤ 512 ∧ pulseOk s MGT_COMMIT_REQ = true)
    ∧ (sets [(MGT_COMMIT_BUSY, 1)] srv).passEnded = true ∧ srv.sys.merged = false
    ∧ queued.cru.queue = [⟨1, 0, some [5], none⟩] ∧ queued.isSet MGT_PWRSTAT_BOWARN = false ∧ (queued.ingot 1 0).a = some ⟨1, [4], true⟩
    ∧ (queued.ingot 1 0).b = some ⟨2 ^ 32 - 1, [3], true⟩ ∧ queued.cru.written = [(.camp 3, 65536)]
    ∧ queued.cru.changed = [131071]
    ∧ (let s := { srv with cru := { srv.cru with ingots := [⟨7, 51, some ⟨1, [9], true⟩, none⟩] } }
       ((s.ingot 7 51).serving.map (·.data)) = some [9] ∧ [9] ≠ s.payload 7 51) := by
  decide +kernel

/-! ### Time -/

theorem witness_BeatEdgeCounts :
    State.reset.beating = false ∧ srv.beating = true ∧ srv.sys.trans = .none
    ∧ ((inMode modeSurvey).mode == modeSurvey && (inMode modeSurvey).isSet TIM_STAT_TVALID && (inMode modeSurvey).sys.trans == .none)
      = true ∧ srv.sch.owed = false := by
  decide +kernel

theorem witness_TimePulses :
    (let s := sets [(TIM_TPCFG_EN 1, 1)] srv
     s.tpRuns 1 = true ∧ (s.tp 1).armed = none ∧ s.tpNominal 1 (983040000#64).toNat = true ∧ (s.tp 1).next ≤ (983040000#64).toNat
     ∧ (s.tp 1).lastOut = none
     ∧ (let g := s.setTp 1 { Tp.cold with lastOut := some ((983040000 : Int) * 15625 - (Tp.cold.dlya.toInt * 192) - 1) }
        g.tpRuns 1 = true ∧ (g.tp 1).lastOut = some ((983040000 : Int) * 15625 - (g.tp 1).dlya.toInt * 192 - 1)))
    ∧ (let s := srv.setTp 1 { Tp.cold with armed := some (983040000, 0xFFFFFFFF) }
       (s.tp 1).armed = some (983040000, 0xFFFFFFFF) ∧ s.serving = true ∧ s.isCast (1 + 1) = true
       ∧ s.fld TIM_TICCFG_STARTSRC ≠ 3 + 1 ∧ s.fld TIM_TICCFG_STOPSRC ≠ 3 + 1)
    ∧ srv.takes (TIM_TPDLYA 1) 5 ∧ srv.takes (TIM_TPDLYB 1) 0xFFFFFFFA
    ∧ (0xFFFFFFFF : Word) = ~~~(srv.get (TIM_TPDLYA 1)) ∧ (0 : Word) ≠ ~~~(srv.get (TIM_TPDLYA 1)) ∧ srv.takes (TIM_TPDLYB 1) 0 := by
  decide +kernel

/-- A device whose counter has seen a start edge; the interval counter runs from TIC_A to TIC_B. -/
def ticHalf : State :=
  { (sets [(TIM_TICCFG_STARTSRC, 0), (TIM_TICCFG_STOPSRC, 1)] srv).setFld TIM_TICSTAT_ARMED 1 with tim := { srv.tim with tic := ⟨some (false, 700000), [], false, some 700000, some 0⟩ } }

theorem witness_IntervalCounter :
    (let s := (sets [(TIM_TICCFG_STARTSRC, 0), (TIM_TICCFG_STOPSRC, 1)] srv).setFld TIM_TICSTAT_ARMED 1
     (s.fld TIM_TICCFG_STARTSRC = (0 : Fin 2) ↔ false = false) ∧ (s.fld TIM_TICCFG_STOPSRC = (0 : Fin 2) ↔ false = true) ∧ s.live 3 = true ∧ s.isSet TIM_TICSTAT_ARMED = true ∧ s.tim.tic.lastA = none ∧ s.tim.tic.half = none)
    ∧ (sets [(TIM_TICCFG_STARTSRC, 2), (TIM_TICCFG_STOPSRC, 2)] srv).fld TIM_TICCFG_STARTSRC ≠ (1 : Fin 2)
    ∧ (sets [(TIM_TICCFG_STARTSRC, 2), (TIM_TICCFG_STOPSRC, 2)] srv).fld TIM_TICCFG_STOPSRC ≠ (1 : Fin 2)
    ∧ (ticHalf.fld TIM_TICCFG_STARTSRC = (1 : Fin 2) ↔ true = false) ∧ (ticHalf.fld TIM_TICCFG_STOPSRC = (1 : Fin 2) ↔ true = true)
    ∧ ticHalf.live 3 = true ∧ ticHalf.isSet TIM_TICSTAT_ARMED = true ∧ 0 + 100000 ≤ 700049 / 50 * 50
    ∧ ticHalf.tim.tic.lastB = some 0 ∧ ticHalf.tim.tic.half = some (!true, 700000) ∧ ticHalf.tim.tic.fifo.length < 16
    ∧ ticHalf.isSet TIM_TICCFG_CONT = false ∧ (ticHalf.setFld TIM_TICCFG_CONT 1).isSet TIM_TICCFG_CONT = true
    ∧ pulseOk srv TIM_TICCTL_ARM = true ∧ pulseOk srv TIM_TICCTL_DISARM = true ∧ pulseOk srv TIM_TICCTL_POP = true := by
  decide +kernel

theorem witness_FrequencyReferences :
    (sets [(frefFld 2, stHealthy)] srv).frefPresent 2 = true ∧ (sets [(frefFld 2, stAbsent)] srv).frefPresent 2 = false
    ∧ ({ srv with tim := { srv.tim with switchTo := some 2 } } : State).tim.switchTo = some 2 ∧ (2 : Nat) < 3
    ∧ (sets [(trefFld 1, stHealthy)] srv).trefHealthy 1 = true
    ∧ srv.mode = modeService ∧ srv.isSet TIM_STAT_TVALID = true ∧ (srv.fref srv.selFref).learned < 3600
    ∧ 3600 ≤ ((srv.setFref srv.selFref { FRef.cold with learned := 86399 }).fref srv.selFref).learned
    ∧ ((srv.setFref srv.selFref { FRef.cold with learned := 86399 }).fref srv.selFref).learned < 86400 := by
  decide +kernel

theorem witness_TimeReferences :
    (let s := { srv with tim := { srv.tim with ppsLast := some 1000000000000, ppsGood := 2 } }
     s.serving = true ∧ s.sys.trans = .none ∧ s.trefHealthy 3 = false ∧ s.tim.secKnown = true ∧ s.tim.ppsLast = some 1000000000000
     ∧ 2 ≤ s.tim.ppsGood
     ∧ ((2000000000000 / 50 * 50 : Nat) - (1000000000000 : Int) - 1000000000000).natAbs ≤ s.fld TIM_PPSCFG_PPSWIN * 50000)
    ∧ srv.napping = false ∧ srv.gnss.napAwait = false
    ∧ (let s := { sets [(PLK_PSTAT_LINK 1, 1), (PLK_PCFG_PTPROLE 1, 2)] srv with
                  plk := { srv.plk with ptp := [⟨0, none⟩, ⟨3, none⟩] } }
       s.live (0x11 + 1) = true ∧ s.isSet (PLK_PSTAT_LINK 1) = true ∧ 2 ≤ s.fld (PLK_PCFG_PTPROLE 1)
       ∧ (-1000000 : Int).natAbs ≤ 1000000 ∧ 3 ≤ (s.ptpPort 1).good)
    ∧ (srv.fldInt TIM_OFS_X).natAbs ≤ 100000 := by
  decide +kernel

/-- A device that knows one leap second, at second 2. -/
def leaping : State :=
  (srv.put (leapAddr 0 0) 2).put (leapAddr 0 2) 0x10001

theorem witness_SecondsAndLeaps :
    (inMode modeSurvey).takes TIM_SETSEC 5 ∧ srv.takes (leapAddr 255 0) 0
    ∧ (leaping.leapNext = some 0 ∧ leaping.isSet TIM_LEAP_PENDING = false)
    ∧ (leaping.setFld TIM_LEAP_PENDING 1).leapSoon = some 0 ∧ (leaping.setFld TIM_LEAP_PENDING 1).isSet TIM_LEAP_PENDING = true := by
  decide +kernel

/-! ### GNSS -/

/-- A device whose chains have samples and whose slice 191 tracks a signal. -/
def tracking : State :=
  let s := sets [(GNC_PLAN_NSLICES, 192), (GNF_STAT_LOLOCK 0, 1), (GNF_STAT_LOLOCK 1, 1), (GNF_CTL_BLANKEN 1, 1), (GNF_CTL_NOTCHEN 1, 1),
    (GNF_NOTCH_MODE 1 3, 1), (SL_LOOPCFG_VECTOR 191, 1), (SL_CFG_SIGNAL 191, 1)] srv
  let x : Slice := { Slice.cold with cfg := 0x04018101 }
  { s with gnss := { s.gnss with noSamp := [false, false], slices := [(191, x)] } }

/-- A request for acquisition with tag 1. -/
def acqOne : AcqReq := ⟨0, putAll 0 [(GNC_ACQW1_TAG, 1)], 0⟩

/-- The same device with an acquisition engine. -/
def acquiring (p : AcqPhase) (q : List AcqReq) (w : List (Bool × AcqRes)) : State :=
  { tracking with gnss := { tracking.gnss with acqPhase := p, acqQ := q, acqWait := w } }

/-- A result of tag 2. -/
def acqTwo : AcqRes := ⟨2, 0, 0, 0, 0, 0, 0⟩

/-- A snapshot of one millisecond of one band in bank 191. -/
def snapWord : Word := putAll 0 [(GNC_SNAPCTL_START, 1), (GNC_SNAPCTL_BANDS, 1), (GNC_SNAPCTL_MS, 1), (GNC_SNAPCTL_BANK, 191)]

/-- A device whose bank 191 belongs to GNC, with a snapshot. -/
def snapping (first lost : Bool) : State :=
  let s := srv.setFld (MEM_BANK_OWN_OWNER 191) ownGnc
  { s with gnss := { s.gnss with snap := some ⟨snapWord, 491520000, first, false, false, lost, [], List.replicate 24 0⟩ } }

theorem witness_GnssChains :
    tracking.gnss.atEnd.getD 1 none ≠ some true ∧ tracking.fld (GNF_CTL_AGCMODE 1) = 0
    ∧ (let s := { tracking with gnss := { tracking.gnss with atEnd := [none, some true] } }
       s.gnss.atEnd.getD 1 none = some true ∧ s.fld (GNF_CTL_AGCMODE 1) = 0)
    ∧ (let s := sets [(GNF_CTL_AGCMODE 1, 2), (GNF_AGC_MANGAIN 1, 120)] tracking
       s.gnss.atEnd.getD 1 none ≠ some true ∧ s.setGain 1 = some 120)
    ∧ (let s := sets [(GNF_CTL_AGCMODE 0, 1)] tracking
       s.gnss.atEnd.getD 0 none ≠ some false ∧ s.setGain 0 = some 0)
    ∧ tracking.isSet (GNF_CTL_BLANKEN 1) = true ∧ 4096 < (4097#16).toNat ∧ tracking.mayRaise (44 + 1) = true
    ∧ tracking.fld (GNF_NOTCH_MODE 1 3) = 1 ∧ tracking.isSet (GNF_CTL_NOTCHEN 1) = true ∧ tracking.notchNear 1 3 0x7FF = false
    ∧ tracking.isSet (GNF_NOTCH_LOCKED 1 3) = (!true)
    ∧ (sets [(GNF_NOTCH_LOCKED 1 3, 1)] tracking).isSet (GNF_NOTCH_LOCKED 1 3) = true
    ∧ tracking.isSet (GNF_STAT_LOLOCK 1) = true ∧ tracking.isSet (GNF_STAT_OVERLOAD 1) = false := by
  decide +kernel

theorem witness_SlicesAndPredictions :
    (let d : DumpIn := ⟨491765999, [], false⟩
     tracking.beating = true ∧ d.epoch.toNat < tracking.tim.edge ∧ tracking.live 7 = true ∧ tracking.live 8 = true
     ∧ tracking.sliceOn 191 = true ∧ 191 < tracking.fld GNC_PLAN_NSLICES ∧ (tracking.slice 191).pendC = []
     ∧ (tracking.slice 191).pendT = [] ∧ (tracking.slice 191).pendR = []
     ∧ (tracking.gnss.openB.dumps.filter (fun e => e.slice == 191)).length < tracking.maxDumps
     ∧ tracking.gnss.noSamp.getD (bandOf (cfgSignal (tracking.slice 191).cfg)) true = false)
    ∧ (let d : DumpIn := ⟨491766000, [], false⟩; tracking.tim.edge ≤ d.epoch.toNat)
    ∧ ({ tracking with gnss := { tracking.gnss with closed := [⟨5, []⟩] } } : State).gnss.closed = [⟨5, []⟩]
    ∧ tracking.takes (0x44000 + 64 * 191 + 16 * 3 + 12) 3 ∧ tracking.isSet (SL_LOOPCFG_VECTOR 191) = true
    ∧ tracking.fld (PRED_STEP_GEN 191 3) = tracking.fld (SL_TRK_GEN 191)
    ∧ 0 ≤ beatDiff (3#32).toNat tracking.nextCutoff ∧ beatDiff (3#32).toNat tracking.nextCutoff ≤ 3
    ∧ (let s := tracking.setFld (SL_TRK_GEN 191) 1
       s.takes (0x44000 + 64 * 191 + 16 * 3 + 12) 3 ∧ s.fld (PRED_STEP_GEN 191 3) ≠ s.fld (SL_TRK_GEN 191))
    ∧ tracking.takes (0x440000 + 256 * 191 + 4 * 3) 5 ∧ tracking.takes (0x440000 + 256 * 191 + 4 * 0) 0x04018101
    ∧ tracking.works 7 = true ∧ tracking.works 8 = true := by
  decide +kernel

theorem witness_AcquisitionEngine :
    (let s := acquiring .filling (List.replicate 63 acqOne) []
     pulseOk s GNC_ACQCTL_PUSH = true ∧ s.acqQueued < 64 ∧ s.gnss.acqPhase ≠ .idle ∧ s.gnss.acqQ ≠ []
     ∧ s.gnss.noSamp.getD acqOne.band true = false ∧ pulseOk s GNC_ACQCTL_FLUSH = true ∧ pulseOk s GNC_ACQCTL_CANCEL = true
     ∧ acqOne.tag ≠ s.fld GNC_ACQW1_TAG ∧ s.gnss.acqWait.any (·.1) = false)
    ∧ (let s := acquiring .filling (List.replicate 64 acqOne) []
       pulseOk s GNC_ACQCTL_PUSH = true ∧ 64 ≤ s.acqQueued)
    ∧ (let s := acquiring .searching [acqOne] []
       s.gnss.acqPhase = .searching ∧ s.gnss.acqQ = [acqOne] ∧ s.gnss.acqWait = [] ∧ s.gnss.acqRes.length < 64
       ∧ pulseOk s GNC_ACQCTL_POP = true ∧ s.gnss.acqPhase ≠ .idle)
    ∧ (let s := { acquiring .searching [acqOne] [] with gnss :=
          { (acquiring .searching [acqOne] []).gnss with acqRes := List.replicate 64 acqTwo } }
       s.gnss.acqQ = [acqOne] ∧ 64 ≤ s.gnss.acqRes.length)
    ∧ tracking.gnss.acqQ = [] ∧ tracking.gnss.acqWait = [] ∧ pulseOk tracking GNC_ACQCTL_FLUSH = true := by
  decide +kernel

theorem witness_Snapshots :
    (let s := snapping false false
     let w := putAll snapWord [(GNC_SNAPCTL_START, 1), (GNC_SNAPCTL_ABORT, 0)]
     let e : State := { s with gnss := { s.gnss with snap := none } }
     let big := putAll w [(GNC_SNAPCTL_MS, 20)]
     e.takes GNC_SNAPCTL w ∧ e.gnss.snap = none ∧ snapBank w + snapBanks w - 1 ≤ 191
     ∧ (∀ k < snapBanks w, e.owner (snapBank w + k) = ownGnc)
     ∧ (∃ k < snapBanks w, (e.setFld (MEM_BANK_OWN_OWNER 191) 0).owner (snapBank w + k) ≠ ownGnc)
     ∧ (e.setFld (MEM_BANK_OWN_OWNER 191) 0).takes GNC_SNAPCTL w
     ∧ e.takes GNC_SNAPCTL big ∧ 191 < snapBank big + snapBanks big - 1
     ∧ (let u := { s with tim := { s.tim with edge := 492500000 } }
        ∃ p, u.gnss.snap = some p ∧ p.first = false ∧ p.lost = false ∧ u.tim.ts < u.snapInstant p ∧ u.snapInstant p < u.tim.edge)) := by
  refine ⟨by decide +kernel, by decide +kernel, by decide +kernel, by decide +kernel, ?_, by decide +kernel, by decide +kernel,
    by decide +kernel, _, rfl, by decide +kernel⟩
  exact ⟨0, by decide +kernel, by decide +kernel⟩

theorem witness_Snapshots_end :
    (∃ p, (snapping true false).gnss.snap = some p ∧ p.first = true ∧ p.lost = false
      ∧ (List.replicate 30720 (0 : Byte)).length = (snapBands p.ctl).length * snapBandLen p.ctl
      ∧ (∀ k < snapBanks p.ctl, (snapping true false).mayAccess ownGnc (snapBank p.ctl + k) = true))
    ∧ pulseOk (snapping true false) GNC_SNAPCTL_ABORT = true
    ∧ ∃ p, (snapping true true).gnss.snap = some p ∧ p.lost = true := by
  refine ⟨⟨_, rfl, rfl, rfl, ?_, by decide +kernel⟩, by decide +kernel, _, rfl, rfl⟩
  rw [List.length_replicate]
  decide +kernel

/-- A device in a nap, with a valid fix from before it. -/
def asleep : State := sets [(GNT_NAPSTAT_NAPPING, 1)] tracking

theorem witness_MeasurementsFixAndNaps :
    (let b : List Byte := List.replicate 64 0
     let s := sets [(GNT_EPOCHCFG_RINGEN, 1), (GNT_MRSIZE_LOG2, 12)] { srv with gnss := { srv.gnss with measDue := some (b, none) } }
     s.gnss.measDue = some (b, none) ∧ s.isSet GNT_EPOCHCFG_RINGEN = true ∧ s.linkUp = true ∧ s.mrRoom b.length = true
     ∧ b.length ≤ s.mrSize - s.fld GNT_MRHEAD_HEAD)
    ∧ (let v := putAll 0 [(GNT_TSOL_CTL_VALID, 1)]
       srv.takes GNT_TSOL_CTL (putFld v GNT_TSOL_CTL_POST 1) ∧ getFld v GNT_TSOL_CTL_VALID = 1 ∧ srv.napping = false
       ∧ srv.live 7 = true ∧ srv.live 8 = true ∧ getFld v GNT_TSOL_CTL_ACC ≤ srv.fld TIM_TREFCFG_ACCMAX)
    ∧ (let s := { srv with gnss := { srv.gnss with fix := true } }
       s.gnss.fix = true ∧ s.napping = false ∧ s.gnss.napAwait = false)
    ∧ asleep.napping = true ∧ pulseOk asleep GNT_NAPCTL_WAKE = true
    ∧ ({ srv with gnss := { srv.gnss with settling := true, napAwait := true } } : State).gnss.settling = true
    ∧ ({ srv with gnss := { srv.gnss with settling := true, napAwait := true } } : State).gnss.napAwait = true := by
  decide +kernel
/-! ### Lanes -/

/-- A device whose lane 3 has channel 63 with profile 1, and taps 0 and 31 for it, with both synthesisers settled. -/
def lane3 : State :=
  sets [(RFL_TAP_CAST 3 31, 1), (RFL_TAP_PROF 3 31, 1), (RFL_TAP_CAST 3 0, 1), (RFL_TAP_PROF 3 0, 1), (RFL_TAP_SENT 3 0, 1),
    (RFL_CH_VALID 3 63, 1), (RFL_CH_PROF 3 63, 1), (RFL_STAT_RXLOCK 3, 1), (RFL_STAT_TXLOCK 3, 1), (RFL_PLAN_BANDGRP 3, 1),
    (RFL_FECTL_EXTPA 3, 1)] srv

/-- A committed receive ticket of that lane, and a committed transmit ticket. -/
def rxTicket : Ticket := { Ticket.cold with state := tkCommitted, lane := 3, ch := 63, tap := 31, lo := 491520000, tid := 7 }
def txTicket : Ticket :=
  { Ticket.cold with state := tkCommitted, tx := true, lane := 3, ch := 63, ant := 2, lo := 491600000, air := 10, tid := 8,
                     frame := [1, 2, 3], purpose := .beacon }

/-- The device with a ticket in entry 2047, and its tap or lane. -/
def rxAt (t : Ticket) (tap : TapSt) : State :=
  (lane3.setTicket 2047 t).setLane 3 ({ Lane.cold with lastCh := some 63 }.setTap t.tap tap)
def txAt (t : Ticket) (l : Lane) : State := (lane3.setTicket 2047 t).setLane 3 l

/-- A frame of three octets and its check. -/
def frame3 : List Byte := [1, 2, 3] ++ fcsOf false [1, 2, 3]

theorem witness_ReceiveTickets :
    (let s := rxAt rxTicket TapSt.cold
     (s.ticket 2047).lane = 3 ∧ s.canRun 2047 false = true ∧ (s.ticket 2047).started = false
     ∧ s.rxBlocked (s.ticket 2047) = none)
    ∧ (let s := rxAt rxTicket ⟨some 5, none, false⟩
       s.canRun 2047 false = true ∧ s.rxBlocked (s.ticket 2047) = some .tapBusy)
    ∧ (let s := (rxAt rxTicket TapSt.cold).setFld (RFL_STAT_RXFENCE 3) 1
       s.canRun 2047 false = true ∧ s.rxBlocked (s.ticket 2047) = some .fence)
    ∧ (let s := rxAt { rxTicket with started := true } ⟨some 2047, none, false⟩
       (s.lane 3).tap 31 = ⟨some 2047, none, false⟩ ∧ s.laneBlanked 3 = false ∧ s.canRun 2047 false = true
       ∧ (s.ticket 2047).started = true ∧ (s.lane (s.ticket 2047).lane).tap (s.ticket 2047).tap = ⟨some 2047, none, false⟩)
    ∧ (let s := rxAt { rxTicket with started := true } ⟨some 2047, some 491520000, false⟩
       (s.lane 3).tap 31 = ⟨some 2047, some 491520000, false⟩ ∧ s.checkFrame 3 31 ⟨false, 5, false, false⟩ [1, 2, 3, 0, 0] = none
       ∧ s.live 0xD = true ∧ s.live 0x10 = true ∧ (s.ticket 2047).listen = false ∧ s.phrOk 3 31 ⟨false, 5, false, false⟩ = true
       ∧ frame3 = [1, 2, 3] ++ fcsOf false [1, 2, 3] ∧ frame3.length = 5 ∧ (s.ticket 2047).sent = false)
    ∧ (let s := rxAt { rxTicket with started := true, sent := true, tap := 0 } ⟨some 2047, some 491520000, false⟩
       (s.lane 3).tap 0 = ⟨some 2047, some 491520000, false⟩ ∧ (s.ticket 2047).sent = true ∧ s.phrOk 3 0 ⟨false, 5, false, false⟩ = true)
    := by
  decide +kernel

theorem witness_TransmitTickets :
    (let s := txAt txTicket Lane.cold
     (s.ticket 2047).lane = 3 ∧ s.canRun 2047 true = true ∧ (s.lane 3).lastCh ≠ some (s.ticket 2047).ch
     ∧ (s.lane 3).txTune = none ∧ s.chValid 3 (s.ticket 2047).ch = true ∧ s.txFenced 3 = false ∧ 2047 ∉ (s.lane 3).win
     ∧ s.beating = true)
    ∧ (let s := txAt txTicket { Lane.cold with lastCh := some 63, win := [2047] }
       s.canRun 2047 true = true ∧ s.txFenced 3 = false ∧ 2047 ∈ (s.lane 3).win ∧ 2047 ∉ (s.lane 3).pa
       ∧ (s.lane 3).win = [2047] ∧ (s.lane 3).pa = [] ∧ (s.lane 3).tx ≠ some 2047)
    ∧ (let s := txAt txTicket { Lane.cold with lastCh := some 63, win := [2047], pa := [2047] }
       (s.ticket 2047).started = false ∧ (s.buildFrame (s.ticket 2047)).1 = some [1, 2, 3]
       ∧ (s.buildFrame (s.ticket 2047)).2.txBlocked (s.ticket 2047) (some [1, 2, 3]) = none)
    ∧ (let s := txAt txTicket { Lane.cold with lastCh := some 62, win := [2047], pa := [2047] }
       (s.buildFrame (s.ticket 2047)).2.txBlocked (s.ticket 2047) (some [1, 2, 3]) = some .synth ∧ (s.lane 3).pa = [2047])
    ∧ (let a : AirTx := ⟨1, 0, 0, 0, false, false, 0, frame3⟩
       let s := txAt { txTicket with started := true } { Lane.cold with win := [2047], pa := [2047], tx := some 2047, rampUp := some 5, air := some a }
       (s.lane 3).tx = some 2047 ∧ (s.lane 3).rampUp = some 5 ∧ (s.lane 3).rampDn = false ∧ (s.lane 3).air = some a)
    ∧ (let l := { Lane.cold with win := [2047], pa := [2047], tx := some 2047, rampUp := some 5, rampDn := true }
       let s := txAt { txTicket with started := true } l
       let u := txAt { txTicket with started := true } { l with abort := true }
       (s.lane 3).tx = some 2047 ∧ (s.lane 3).rampDn = true ∧ (s.lane 3).pa = [2047] ∧ (s.lane 3).abort = false
       ∧ (u.lane 3).abort = true ∧ (u.lane 3).rampUp = some 5 ∧ u.canRun 2047 true = true) := by
  decide +kernel

/-- Lane 3 with a transmission under way. -/
def onAir : State :=
  txAt { txTicket with started := true } { Lane.cold with win := [2047], pa := [2047], tx := some 2047, rampUp := some 5 }

theorem witness_LaneUpkeep :
    srv.isCast (9 + 3) = true
    ∧ (let s := srv.setLane 3 { Lane.cold with txTune := some ⟨868000000, false, 511⟩ }
       (s.lane 3).txTune = some ⟨868000000, false, 511⟩ ∧ (s.lane 3).rxTune = none)
    ∧ srv.fld (RFL_AGC_MODE 3) = 0
    ∧ (let s := srv.setLane 3 (Lane.cold.setTap 31 ⟨some 0, some 5, false⟩)
       (s.lane 3).taps.any (fun p => p.2.frame.isSome) = true)
    ∧ onAir.pafltActive 3 (onAir.pins.paflt.getD 3 false) = false ∧ onAir.pafltActive 3 true = true
    ∧ (onAir.lane 3).tx = some 2047 ∧ (onAir.lane 3).rampUp = some 5 ∧ (onAir.lane 3).rampDn = false ∧ 5 ≠ (6#64).toNat
    ∧ 5 = (5#64).toNat
    ∧ srv.trimmed = true ∧ 10 < ((11#8 : Byte).toInt - srv.fldInt (RFL_IQ_TTRIM 3)).natAbs ∧ srv.fld (RFL_STAT_TRIMDUE 3) = 0
    ∧ pulseOk srv (RFL_CTL_TXCLR 3) = true ∧ srv.pafltActive 3 (srv.pins.paflt.getD 3 false) = false
    ∧ pulseOk srv (RFL_CTL_TRIMREQ 3) = true
    ∧ (srv.setFld (RFL_STAT_TRIMMING 3) 1).fld (RFL_STAT_TRIMMING 3) = 1
    ∧ (starting .ready).takes (temperAddr 3 511 0) 5 := by
  decide +kernel

/-- A device whose front-end bus works for the host. -/
def fmbBusy (o : FmbOp) : State := { srv.setFld (RFL_PLAN_FMBDEP 3) 1 with fmb := ⟨some o, []⟩ }

theorem witness_FrontEndBus :
    srv.beating = true
    ∧ srv.takes RFL0_FMBXFER (putAll 0 [(RFL0_FMBXFER_GO, 1), (RFL0_FMBXFER_READ, 0), (RFL0_FMBXFER_ADDR, 127), (RFL0_FMBXFER_REG, 255),
        (RFL0_FMBXFER_DATA, 255)])
    ∧ srv.takes RFL0_FMBXFER (putAll 0 [(RFL0_FMBXFER_GO, 1), (RFL0_FMBXFER_READ, 1), (RFL0_FMBXFER_ADDR, 127), (RFL0_FMBXFER_REG, 255)])
    ∧ (let o : FmbOp := ⟨none, false, 127, 255, 5, 1⟩
       (fmbBusy o).beating = true ∧ (fmbBusy o).fmb.cur = some o ∧ (5#8 : Byte).toNat = o.val ∧ o.lane = none ∧ (fmbBusy o).fmb.todo = []
       ∧ o.read = false ∧ (6#8 : Byte).toNat ≠ o.val ∧ o.tries < 2)
    ∧ (let o : FmbOp := ⟨some 3, false, 127, 255, 5, 2⟩
       (fmbBusy o).fmb.cur = some o ∧ (6#8 : Byte).toNat ≠ o.val ∧ 2 ≤ o.tries)
    ∧ srv.isCast (9 + 3) = true := by
  decide +kernel
/-! ### Mesh -/

/-- A device with the record and the node entry 5: an ACTIVE node with both keys on lane 3. -/
def meshed : State :=
  let s := sets [(FWD_GEOM_FIRSTBANK, 40), (MEM_BANK_OWN_OWNER 40, ownFwd), (TIM_BEATCNT_COUNT, 9)] srv
  let s := s.putEntry 0 5 [0x11, 0x22, 0x80031234, 0]
  let s := [(NR_EUI_LO, 0x11), (NR_EUI_HI, 0x22), (NR_SHORT, 0x1234), (NR_STATE, nodeActive), (NR_JKV, 1), (NR_SKV, 1)].foldl
    (fun s p => s.setNr 5 p.1 p.2) s
  (s.setNodeWord 5 16 0xA5A5).setNodeWord 5 20 0x5A5A

/-- A frame of that node under one of its keys. -/
def sent (ft fcnt : Nat) (pay : List Byte) : List Byte :=
  let long := ft == ftJoinReq
  protect (if long then meshed.joinKey 5 else meshed.sessKey 5) (nonce (meshed.eui 5) fcnt ft false 0)
    (mhr ft long false 0 (if long then meshed.eui 5 else 0x1234) fcnt) pay (encrypted ft)

/-- Such a frame as a lane delivers it, and as it stands after authentication. -/
def heardFrame (psdu : List Byte) : RxFrame := ⟨3, 31, 63, 2047, 7, psdu, 491500000, 200, -5, false, false, 8, none, [], false, none⟩
def passedFrame (psdu body : List Byte) : RxFrame := { heardFrame psdu with node := some 5, body := body }

/-- The device with such frames. -/
def withFrames (input passed express : List RxFrame) : State :=
  { meshed with mac := { meshed.mac with input := input, passed := passed, express := express } }

/-- The ticket that waits for a NODEACK of the node. -/
def ackTicket : Ticket :=
  { Ticket.cold with state := tkCommitted, lane := 3, tid := 7, purpose := .nodeAck, node := some 5, fcnt := 0xFFFFFFFE }

theorem witness_ReceivedFrames_auth :
    (let p := sent ftUplink 1 [1, 2, 3]
     let f := heardFrame p
     let s := withFrames [f] [] []
     let h : Mhr := ⟨ftUplink, false, false, 1, 0, 0, 0x1234, 1, 10⟩
     parseMhr p = some h ∧ takeFrame (fun f => s.macWork false f && s.worksOn 0x10 f.beat) s.mac.input = some (f, []) ∧ s.foreign p = false
       ∧ s.sender h f.lane = some 5 ∧ s.openFrame 5 h p = some ([1, 2, 3], false)
       ∧ (s.setNr 5 NR_SKV 0).sender h f.lane = some 5 ∧ (s.setNr 5 NR_SKV 0).openFrame 5 h p = none) := by
  decide +kernel

theorem witness_ReceivedFrames_uplink :
    (let f := passedFrame (sent ftUplink 1 [1, 2, 3]) [1, 2, 3]
     let s := withFrames [] [f] []
     (parseMhr f.psdu).isSome ∧ s.works 0xD = true ∧ takeFrame (fun f => f.ftype == some ftUplink) s.mac.passed = some (f, [])
     ∧ f.node = some 5 ∧ s.fwd.input.length < 1024 ∧ f.rep = none ∧ ({ f with rep := some true } : RxFrame).rep = some true
     ∧ max (s.nextValue (.acc 5)) (s.nr 5 NR_PENDCTR) < 1 ∧ ¬ max (s.nextValue (.acc 5)) ((s.setNr 5 NR_PENDCTR 1).nr 5 NR_PENDCTR) < 1) := by
  decide +kernel

theorem witness_ReceivedFrames_nodeack :
    (let f := passedFrame (sent ftNodeAck 1 (leBytes 4 0xFFFFFFFE)) (leBytes 4 0xFFFFFFFE)
     let s := (withFrames [] [f] []).setTicket 2047 ackTicket
     (parseMhr f.psdu).isSome ∧ s.works 0xD = true ∧ takeFrame (fun f => f.ftype == some ftNodeAck) s.mac.passed = some (f, [])
     ∧ f.node = some 5 ∧ f.rep = none ∧ (s.ticket f.entry).tid = f.tid ∧ (s.ticket f.entry).purpose = .nodeAck
     ∧ (s.ticket f.entry).node = some 5 ∧ f.body.length = 4 ∧ ofLeBytes f.body = (s.ticket f.entry).fcnt) := by
  decide +kernel

theorem witness_ReceivedFrames_join :
    (let p := sent ftJoinReq 1 [1, 2, 3, 4]
     let f := heardFrame p
     let s := withFrames [f] [] []
     let h : Mhr := ⟨ftJoinReq, true, false, 1, 0, 0, 0x2200000011, 1, 16⟩
     parseMhr p = some h ∧ s.works 0xD = true
       ∧ takeFrame (fun f => s.macWork true f && s.worksOn 0x10 f.beat) s.mac.input = some (f, []) ∧ s.foreign p = false
       ∧ s.joiner h = some 5 ∧ s.nodeState 5 ≠ nodeFree ∧ s.nr 5 NR_JKV = 1 ∧ f.rep = none
       ∧ unprotect (s.joinKey 5) (nonce (s.eui 5) h.fcnt h.ftype false 0) h p = some [1, 2, 3, 4]
       ∧ (s.setNr 5 NR_STATE nodeFree).joiner h = some 5 ∧ (s.setNr 5 NR_STATE nodeFree).nodeState 5 = nodeFree) := by
  decide +kernel

theorem witness_ReceivedFrames_sentinel :
    (let p := sent ftSentinel 1 [1]
     let f := heardFrame p
     let s := withFrames [] [] [f]
     let h : Mhr := ⟨ftSentinel, false, false, 1, 0, 0, 0x1234, 1, 10⟩
     parseMhr p = some h ∧ s.works 0x10 = true ∧ s.mac.express = [f] ∧ s.foreign p = false ∧ h.ftype = ftSentinel ∧ s.sender h f.lane = some 5
       ∧ s.openFrame 5 h p = some ([1], false) ∧ s.hst.xBuf.length < 16 ∧ f.rep = none) := by
  decide +kernel

/-- A downlink of a host command that is in flight. -/
def downlink : Request :=
  ⟨3, .downlink, 5, [], 41, 0, 3, true, 3, none, 77, 2, true, 0, 0, 0, 0, [], 0, 0, 0, .placed, false, 0, 0, 0, some 2047, none, none⟩
def requested : State :=
  let s := (sets [(SCH_CANCEL_QUEUE, 2), (SCH_CANCEL_TAG, 77)] meshed).setQueue 2 { HQueue.cold with inflight := [⟨77, [], true⟩] }
  { s with sch := { s.sch with reqs := [downlink],
                               tickets := [(2047, { Ticket.cold with state := tkPlanned, tx := true, lane := 3, req := some (3, 0) })] } }

theorem witness_RecordsAndSchedule :
    meshed.takes (0x500000 + 128 * 8191 + 4 * 2) 0x11234 ∧ meshed.takes (0x500000 + 128 * 8191 + 4 * 9) 1
    ∧ meshed.nodePage (128 * 8191 + 4 * 2) = 8191
    ∧ meshed.takes (0x500000 + 128 * 5 + 4 * 2) 0 ∧ getFld (0 : Word) NR_STATE = nodeFree ∧ meshed.nodeState 5 ≠ nodeFree
    ∧ meshed.takes (SCH_BLKHI 3) 0xFFFFFFFF ∧ meshed.takes (SCH_BLKLO 0) 1
    ∧ pulseOk requested SCH_CANCEL_GO = true
    ∧ requested.openReq (requested.fld SCH_CANCEL_QUEUE) (requested.fld SCH_CANCEL_TAG) = some downlink
    ∧ requested.inflight (requested.fld SCH_CANCEL_QUEUE) (requested.fld SCH_CANCEL_TAG) ≠ none
    ∧ (let s := meshed.setTicket 2047 { ackTicket with final := true }
       (s.ticket 2047).state = tkCommitted ∧ (s.ticket 2047).final = true ∧ (s.ticket 2047).open_ = 0
       ∧ (s.ticket 2047).stale = false ∧ (s.ticket 2047).tx = false ∧ (s.ticket 2047).acked = false)
    ∧ (let s := meshed.setTicket 2047 { txTicket with final := true, result := rsAborted }
       (s.ticket 2047).tx = true ∧ (s.ticket 2047).result ≠ rsDone ∧ (s.ticket 2047).state = tkCommitted)
    ∧ meshed.live 0xD = true ∧ (meshed.setFld (L_VALID 2 16) 1).isSet (L_VALID 2 16) = true := by
  decide +kernel
/-! ### Forwarding -/

/-- The destination 0x0102..10 of a packet, the packet to it, and the same packet as a frame. -/
def dest : List Byte := (List.range 16).map (fun i => BitVec.ofNat 8 (i + 1))
def packet : List Byte := 0x60#8 :: List.replicate 23 0 ++ dest
def ingress : FwdFrame := ⟨packet, 0, true, 8⟩

/-- A device whose tables lie in the banks from 40 on: node 131,071, neighbour 16,383 (the router 0x1234, on lane 3, record 5), and one
length slot of prefixes of 16 bits. -/
def forwarding : State :=
  let s := (List.range 15).foldl (fun s k => s.setFld (MEM_BANK_OWN_OWNER (40 + k)) ownFwd)
    (sets [(FWD_GEOM_FIRSTBANK, 40), (FWD_GEOM_NLEN, 1), (FWD_LEN_LEN 0, 16), (FWD_LEN_COUNT 0, 1), (TIM_BEATCNT_COUNT, 9)] srv)
  (s.putEntry 0 131071 [0x11, 0x22, 0x80031234, 0xFFFF]).putEntry 1 16383 [0x800C1234, 5, 0, 0]

/-- The route to the destination with an action and a next hop, and the frame in front of the input queue. -/
def routed (action nh : Nat) : State :=
  let s := forwarding.putEntry 2 (forwarding.bucketOf 0 dest) [0x0201, 0, 0, 0, 0x80000010 + 256 * action, nh, 0, 0]
  { s with fwd := { s.fwd with input := [ingress] } }

/-- What the lookup of that frame finds. -/
def lookedUp (s : State) : Option Nat × State :=
  let s0 : State := { s with fwd := { s.fwd with input := [] } }
  let w := s0.bankRead ownFwd (s0.entryAddr 3 (foldAddr dest)) 2
  w.2.probeAll dest (w.2.probeSlots (((w.1.bytes?).map ofLeBytes).getD 0))

theorem witness_ForwardLookup :
    (let f : FwdFrame := ⟨[0x45], 0, true, 8⟩
     let s := { srv with fwd := { srv.fwd with input := [f] } }
     s.fwd.input = [f] ∧ s.worksOn 0xF f.beat = true ∧ (f.packet.headD 0#8).toNat / 16 ≠ 6)
    ∧ (ingress.packet.headD 0#8).toNat / 16 = 6 ∧ 40 ≤ ingress.packet.length ∧ (ingress.packet.drop 24).take 16 = dest
    ∧ (routed 3 0).fwd.input = [ingress] ∧ (routed 3 0).worksOn 0xF 8 = true
    ∧ (lookedUp { forwarding with fwd := (routed 3 0).fwd }).1 = none
    ∧ (lookedUp (routed 3 0)).1.isSome = true
    ∧ (∀ e ∈ (lookedUp (routed 3 0)).1, ((lookedUp (routed 3 0)).2.setHit 2 e).entryWord 2 e 4 / 256 % 16 = 3)
    ∧ (∀ e ∈ (lookedUp (routed 4 0)).1, ((lookedUp (routed 4 0)).2.setHit 2 e).entryWord 2 e 4 / 256 % 16 = 4)
    ∧ (∀ e ∈ (lookedUp (routed 1 0x1234)).1, let u := (lookedUp (routed 1 0x1234)).2.setHit 2 e
        u.entryWord 2 e 4 / 256 % 16 = 1 ∧ (u.hitNeighbour (u.entryWord 2 e 5 % 2 ^ 16)).1 = some (3, 5))
    ∧ (routed 1 0x1234).fwd.meq.length < 4096
    ∧ (∀ e ∈ (lookedUp (routed 0 0)).1, let u := (lookedUp (routed 0 0)).2.setHit 2 e
        u.entryWord 2 e 4 / 256 % 16 = 0 ∧ u.nodeByEui (beNat (((dest.drop 8).headD 0#8 ^^^ 2#8) :: (dest.drop 9))) = none)
    ∧ pulseOk srv FWD_MEQCTL_POP = true := by
  decide +kernel

/-- A command of the command block. -/
def fwdCmd (op table keysel cidx : Nat) (ck cd : List Nat) : FwdCmd := ⟨none, op, table, keysel, false, cidx, ck, cd⟩

/-- The device with that command in front. -/
def commanded (c : FwdCmd) : State := { forwarding with fwd := { forwarding.fwd with cmds := [c] } }

theorem witness_ForwardCommands :
    (let c := fwdCmd 0 0 1 0 [0x31234] []
     let s := commanded c
     s.fwd.cmds = [c] ∧ c.queue = none ∧ s.live 0xF = true ∧ s.fwd.flushing = false ∧ s.fwd.waiting = false
     ∧ s.findKey c = some (some 131071) ∧ c.table ≤ 2)
    ∧ forwarding.findKey (fwdCmd 0 0 1 0 [0x31235] []) = some none ∧ forwarding.findKey (fwdCmd 0 0 1 0 [0xFF00] []) = none
    ∧ (forwarding.validEntries 1).find? (fun i => false || decide (16382 < i)) = some 16383
    ∧ (forwarding.validEntries 1).find? (fun i => false || decide (16383 < i)) = none
    ∧ (let c := fwdCmd 2 0 0 131070 [] [0xFFFFFFFF, 0xFFFFFFFF, 0xFEFF, 0xFFFF]
       c.cd.take 4 = [0xFFFFFFFF, 0xFFFFFFFF, 0xFEFF, 0xFFFF] ∧ c.cidx < 131072 ∧ 0xFEFF % 2 ^ 16 < 0xFF00
       ∧ (commanded c).nodeDup 131070 [0xFFFFFFFF, 0xFFFFFFFF, 0xFEFF + 2 ^ 31, 0xFFFF] = false
       ∧ (commanded c).nodeDup 131070 [0x11, 0x22, 0xFEFF + 2 ^ 31, 0xFFFF] = true
       ∧ (commanded c).firstRefused ownFwd ((commanded c).entryAddr 0 131070) 16 = none)
    ∧ forwarding.entryValid 0 0 = false ∧ forwarding.entryValid 0 131071 = true
    ∧ forwarding.firstRefused ownFwd (forwarding.entryAddr 0 131071 + 8) 4 = none ∧ forwarding.mem.ecc = []
    ∧ (fwdCmd 4 1 0 0 [6] []).ck.getD 0 0 % 8 ≠ 7 := by
  decide +kernel

theorem forwarding_tabBase : forwarding.tabBase 1 = 52 * 262144 := by decide +kernel
theorem forwarding_mayAccess : forwarding.mayAccess ownFwd 52 = true := by decide +kernel
theorem forwarding_owns_neighbours (i : Nat) (h : i < 16384) : forwarding.firstRefused ownFwd (forwarding.entryAddr 1 i) 16 = none := by
  have hb : banksOf (forwarding.entryAddr 1 i) 16 = [52] := by
    have h1 : (52 * 262144 + 16 * i) / 262144 = 52 := by omega
    have h2 : (52 * 262144 + 16 * i + 15) / 262144 = 52 := by omega
    simp [State.entryAddr, forwarding_tabBase, entryBytes, banksOf, bankSize, h1, h2]
  simp [State.firstRefused, hb, forwarding_mayAccess]

/-- Every clause of the flush has a state. -/
theorem witness_ForwardCommands_flush :
    (let c := fwdCmd 4 1 0 0 [3] []
     let s : State := { forwarding with fwd := { forwarding.fwd with cmds := [c], flushing := true } }
     s.fwd.flushing = true ∧ c.table = 1 ∧ s.mem.ecc = [] ∧ s.flushed c 1 = [16383]) := by
  decide +kernel

/-- A neighbour entry's word 0 with some bits set beside VALID. -/
def swept (w0 : Nat) : State := forwarding.putEntry 1 16383 [w0, 5, 0, 0]

theorem witness_ForwardUpkeep :
    (let s : State := { forwarding with fwd := { forwarding.fwd with clearing := [0, 15] } }
     15 ∈ s.fwd.clearing ∧ s.fwd.waiting = false ∧ s.firstRefused ownFwd (s.tabBase 3) 131072 = none ∧ s.mem.ecc = [])
    ∧ forwarding.live 0xF = true ∧ forwarding.sweepList.find? (fun p => decide (forwarding.fwd.sweep ≤ p)) = some 16383
    ∧ forwarding.firstRefused ownFwd (forwarding.entryAddr 1 16383) 4 = none ∧ forwarding.tabLocked 1 = false
    ∧ (forwarding.setFld FWD_LOCK_REQ 2).tabLocked 1 = true
    ∧ (swept 0xC00C1234).entryWord 1 16383 0 = 0xC00C1234 ∧ (0xC00C1234).testBit bitHit = true
    ∧ (0x800C1234).testBit bitHit = false ∧ (0x800C1234).testBit bitAged = false
    ∧ (swept 0xB00C1234).sweepList = [16383] ∧ (0xB00C1234).testBit bitHit = false ∧ (0xB00C1234).testBit bitAged = true
    ∧ (0xB00C1234).testBit bitDyn = true
    ∧ srv.takes FWD_LOCK (srv.setWord FWD_LOCK [(FWD_LOCK_REQ, 15)])
    ∧ (let s := sets [(FWD_LOCK_REQ, 3), (FWD_LOCK_LOCKED, 3), (FWD_TWSEL_TABLE, 1)] forwarding
       s.takes (0x600000 + (0x3FFFC#20).toNat) 5 ∧ (0x3FFFC#20).toNat % 4 = 0 ∧ s.fld FWD_TWSEL_TABLE ≤ 1
       ∧ s.firstRefused ownFwd (s.tabBase 1 + (s.fld FWD_TWSEL_PAGE * 0x100000 + (0x3FFFC#20).toNat)) 4 = none)
    ∧ (let s : State := { sets [(FWD_SHCFG_EN, 1), (FWD_SHCFG_TABLES, 15)] forwarding with
         fwd := { forwarding.fwd with shTab := 1, shMis := [(1, 16383, 8)] } }
       s.isSet FWD_SHCFG_EN = true ∧ s.live 0xF = true ∧ s.shadowTable s.shadowAt = true ∧ s.tabSize s.shadowAt ≠ 0
       ∧ s.linkUp = true ∧ s.fld FWD_SHSTAT_STALLED = 0 ∧ s.beat ≠ 8 ∧ s.shadowOn = true ∧ s.shadowTable 1 = true
       ∧ s.mismatch 1 16383 (imageOf 1 (wordsBytes [0x800C1234, 5, 0, 0])) = false
       ∧ s.mismatch 1 16383 (imageOf 1 (wordsBytes [0, 0, 0, 0])) = true ∧ s.isSet FWD_SHCFG_REPAIR = false) := by
  decide +kernel
/-! ### Security -/

/-- RFC 3394 §4.1: key-encryption key, wrap and key. -/
def rfcKey : List Byte := (List.range 16).map (BitVec.ofNat 8)
def rfcWrap : List Byte := [0x1F, 0xA6, 0x8B, 0x0A, 0x81, 0x12, 0xB4, 0x47, 0xAE, 0xF3, 0x4B, 0xD8, 0xFB, 0x5A, 0x7B, 0x82,
  0x9D, 0x3E, 0x86, 0x23, 0x71, 0xD2, 0xCF, 0xE5]
def rfcPlain : List Byte := [0x00, 0x11, 0x22, 0x33, 0x44, 0x55, 0x66, 0x77, 0x88, 0x99, 0xAA, 0xBB, 0xCC, 0xDD, 0xEE, 0xFF]
theorem value_unwrap : keyUnwrap rfcKey rfcWrap = some rfcPlain := by decide +kernel

/-- The wrap of RFC 3394 §4.1, and its key-encryption key in slot 1. -/
def wrapped : List (Fld × Nat) := [(SEC_KEYDATA_WRAP 0, 0x0A8BA61F), (SEC_KEYDATA_WRAP 1, 0x47B41281), (SEC_KEYDATA_WRAP 2, 0xD84BF3AE),
  (SEC_KEYDATA_WRAP 3, 0x827B5AFB), (SEC_KEYDATA_WRAP 4, 0x23863E9D), (SEC_KEYDATA_WRAP 5, 0xE5CFD271)]
def keyed : State :=
  ((sets (wrapped ++ [(SEC_KEYARG_SLOT, 3), (SEC_KEYARG_INDEX, 131071), (SEC_TRNGSTAT_HEALTHY, 1)]) srv).setKey 1 rfcKey)
def unhealthy (s : State) : State := s.setFld SEC_TRNGSTAT_HEALTHY 0

theorem witness_KeysAndJoins :
    (∀ op ∈ [1, 2, 3, 4, 5], keyed.takes SEC_KEYCMD (keyed.setWord SEC_KEYCMD [(SEC_KEYCMD_GO, 1), (SEC_KEYCMD_OP, op)]))
    ∧ (unhealthy keyed).takes SEC_KEYCMD ((unhealthy keyed).setWord SEC_KEYCMD [(SEC_KEYCMD_GO, 1), (SEC_KEYCMD_OP, 2)])
    ∧ keyed.fld SEC_KEYARG_INDEX = 131071 ∧ keyed.fld SEC_KEYARG_SLOT = 3 ∧ keyed.trngOk = true ∧ (unhealthy keyed).trngOk = false
    ∧ (keyed.eraseKey 1).unwrapped = (ksNoKey, []) ∧ ksNoKey ≠ ksOk ∧ rfcPlain.length = 16
    ∧ (keyed.eraseKey 1).takes SEC_KEYCMD ((keyed.eraseKey 1).setWord SEC_KEYCMD [(SEC_KEYCMD_GO, 1), (SEC_KEYCMD_OP, 3)])
    ∧ (keyed.setFld SEC_KEYARG_SLOT 4).fld SEC_KEYARG_SLOT = 4 := by
  decide +kernel

theorem unwrapped_of {s : State} {k w v : List Byte} (h1 : s.key 1 = some k) (h2 : s.keyData = w) (h3 : keyUnwrap k w = some v) :
    s.unwrapped = (ksOk, v) := by
  simp [State.unwrapped, h1, h2, h3]

theorem keyed_key : keyed.key 1 = some rfcKey := by decide +kernel
theorem keyed_data : keyed.keyData = rfcWrap := by decide +kernel
theorem witness_KeysAndJoins_wrap : keyed.unwrapped = (ksOk, rfcPlain) := unwrapped_of keyed_key keyed_data value_unwrap

/-- A device that has heard the JOINREQ of record 131,071. -/
def asked : State :=
  let s := ((srv.setFld SEC_TRNGSTAT_HEALTHY 1).setNr 131071 NR_STATE nodeProvisioned).setNr 131071 NR_JKV 1
  { s with sec := { s.sec with joinReqs := [(131071, 1)], pendJ := [⟨7, none, 0, 0, some (List.replicate 16 0#8), 1⟩] } }

theorem witness_KeysAndJoins_joins :
    asked.takes SEC_JOINCMD (asked.setWord SEC_JOINCMD [(SEC_JOINCMD_GO, 1), (SEC_JOINCMD_INDEX, (131071#18).toNat)])
    ∧ asked.joinStatus 131071 = 0 ∧ (asked.setNr 131071 NR_JKV 0).joinStatus 131071 ≠ 0 ∧ asked.live 0x10 = true
    ∧ (⟨7, none, 0, 0, some (List.replicate 16 0#8), 1⟩ : PendJoin) ∈ asked.sec.pendJ := by
  decide +kernel

/-- A job of mailbox 15 in front, with the P-256 generator in its mailbox at an offset. -/
def job (op : Nat) : Job := ⟨op, 9, 15, 71, 0⟩
def queuedJob (op : Nat) : State :=
  let s := srv.setFld SEC_TRNGSTAT_HEALTHY 1
  { s with sec := { s.sec with jobs := [job op] } }
def jobbed (op ofs : Nat) : State :=
  let s := (srv.setFld SEC_TRNGSTAT_HEALTHY 1).putMail 15 (List.replicate ofs 0#8 ++ (List.range 32).map
    (fun i => BitVec.ofNat 8 (0x6b17d1f2e12c4247f8bce6e563a440f277037d812deb33a0f4a13945d898c296 / 256 ^ (31 - i))) ++ (List.range 32).map
    (fun i => BitVec.ofNat 8 (0x4fe342e2fe1a7f9b8ee7eb4a7c0f9e162bce33576b315ececbb6406837bf51f5 / 256 ^ (31 - i))))
  { s with sec := { s.sec with jobs := [job op] } }

theorem witness_JobsAndEntropy :
    (∀ op ∈ [1, 2, 3, 4], let s := (srv.setFld SEC_JOBD0_OP op).setFld SEC_JOBD0_KEYSLOT 71
       s.fld SEC_JOBD0_OP = op ∧ s.takes SEC_JOBCTL (s.setWord SEC_JOBCTL [(SEC_JOBCTL_PUSH, 1)]) ∧ s.sec.jobs.length < 16)
    ∧ (∀ op ∈ [1, 2, 3, 4], let s0 := (srv.setFld SEC_JOBD0_OP op).setFld SEC_JOBD0_KEYSLOT 71
       let s : State := { s0 with sec := { s0.sec with jobs := List.replicate 16 (job 1) } }
       s.takes SEC_JOBCTL (s.setWord SEC_JOBCTL [(SEC_JOBCTL_PUSH, 1)]) ∧ 16 ≤ s.sec.jobs.length)
    ∧ (∀ op ∈ [1, 2, 3, 4], (queuedJob op).sec.jobs = [job op] ∧ (queuedJob op).sec.results.length < 16 ∧ (queuedJob op).live 0x10 = true
       ∧ (job op).mbox < 16 ∧ (job op).len ≤ 216 ∧ (queuedJob op).sec.results = [])
    ∧ onCurve (be32At ((queuedJob 4).mail 15 0 256) 0) (be32At ((queuedJob 4).mail 15 0 256) 32) = false
    ∧ onCurve (be32At ((queuedJob 3).mail 15 0 256) 32) (be32At ((queuedJob 3).mail 15 0 256) 64) = false
    ∧ (queuedJob 4).trngOk = true ∧ (unhealthy (queuedJob 4)).trngOk = false ∧ (unhealthy (queuedJob 4)).sec.jobs = [job 4]
    ∧ pulseOk srv SEC_JOBCTL_POP = true ∧ srv.sys.power = .on ∧ srv.mode ≠ modeDormant ∧ srv.sys.phase ≠ .assay1Failed
    ∧ ((srv.setFld SEC_TRNGSTAT_HEALTHY 1).setFld (SEC_CAMPSTAT_STATE 3) campPreparing).trngOk = true
    ∧ ((srv.setFld SEC_TRNGSTAT_HEALTHY 1).setFld (SEC_CAMPSTAT_STATE 3) campPreparing).camp 3 = campPreparing
    ∧ pulseOk srv SEC_TRNGSTAT_RETEST = true := by
  decide +kernel

theorem witness_JobsAndEntropy_ecdh : (jobbed 4 0).sec.jobs = [job 4] ∧ (jobbed 4 0).trngOk = true ∧ (jobbed 4 0).live 0x10 = true
    ∧ onCurve (be32At ((jobbed 4 0).mail 15 0 256) 0) (be32At ((jobbed 4 0).mail 15 0 256) 32) = true := by
  decide +kernel

theorem witness_JobsAndEntropy_ecdsa : (jobbed 3 32).sec.jobs = [job 3] ∧ (jobbed 3 32).live 0x10 = true
    ∧ onCurve (be32At ((jobbed 3 32).mail 15 0 256) 32) (be32At ((jobbed 3 32).mail 15 0 256) 64) = true := by
  decide +kernel

/-- A device with image slot 2 in a state, and campaign 3 of that slot in a state. -/
def campaign (img st : Nat) : State :=
  sets [(SEC_IMGCFG_FIRSTBANK 2, 100), (SEC_IMGSTAT_STATE 2, img), (SEC_IMGLEN_LEN 2, 0x1000), (SEC_CAMPCFG_IMG 3, 2),
    (SEC_CAMPTDIV_TDIVLO 3, 16), (SEC_CAMPSTAT_STATE 3, st),
    (SEC_TRNGSTAT_HEALTHY, 1)] srv

/-- The same with a BROADCAST request of campaign 3 whose ticket is planned. -/
def broadcasting : State :=
  let s := (campaign 2 campActive).setTicket 9 { Ticket.cold with state := tkPlanned, req := some (5, 0) }
  { s with sch := { s.sch with reqs := [{ s.joinRequest 0 0 0 0 with id := 5, kind := .broadcast, target := 3, state := .placed }] } }

theorem witness_ImagesAndCampaigns :
    (let s := campaign 0 0
     s.takes (SEC_IMGCFG 2) (s.setWord (SEC_IMGCFG 2) [(SEC_IMGCFG_LOAD 2, 1)]) ∧ s.imageUsed 2 = false
     ∧ s.takes (SEC_IMGCFG 2) (s.setWord (SEC_IMGCFG 2) [(SEC_IMGCFG_DROP 2, 1)]))
    ∧ (let s := campaign 2 campReady
       s.takes (SEC_IMGCFG 2) (s.setWord (SEC_IMGCFG 2) [(SEC_IMGCFG_LOAD 2, 1)]) ∧ s.imageUsed 2 = true)
    ∧ (campaign 1 0).fld (SEC_IMGSTAT_STATE 2) = 1
    ∧ (let s := campaign 2 0
       s.takes (SEC_CAMPCTL 3) (s.setWord (SEC_CAMPCTL 3) [(SEC_CAMPCTL_PREPARE 3, 1)]) ∧ s.fld (SEC_IMGSTAT_STATE (s.fld (SEC_CAMPCFG_IMG 3))) = 2
       ∧ (s.fld (SEC_IMGLEN_LEN 2) + s.symbolSize 3 - 1) / s.symbolSize 3 ≤ 56403 ∧ s.trngOk = true)
    ∧ (let s := campaign 3 0
       s.takes (SEC_CAMPCTL 3) (s.setWord (SEC_CAMPCTL 3) [(SEC_CAMPCTL_PREPARE 3, 1)]) ∧ s.fld (SEC_IMGSTAT_STATE (s.fld (SEC_CAMPCFG_IMG 3))) ≠ 2)
    ∧ ((campaign 2 campPreparing).camp 3 = campPreparing ∧ (campaign 2 campPreparing).cru.queue = [])
    ∧ (let s := campaign 2 campReady
       s.takes (SEC_CAMPCTL 3) (s.setWord (SEC_CAMPCTL 3) [(SEC_CAMPCTL_START 3, 1)]))
    ∧ (let s := broadcasting
       s.takes (SEC_CAMPCTL 3) (s.setWord (SEC_CAMPCTL 3) [(SEC_CAMPCTL_PAUSE 3, 1)])
       ∧ s.takes (SEC_CAMPCTL 3) (s.setWord (SEC_CAMPCTL 3) [(SEC_CAMPCTL_END 3, 1)]) ∧ s.camp 3 ≠ stIdle
       ∧ (s.sch.reqs.map (fun r => (r.kind, r.target, r.state))) = [(ReqKind.broadcast, 3, ReqState.placed)]
       ∧ (s.ticket 9).state = tkPlanned ∧ (s.ticket 9).req.map (·.1) = some 5) := by
  decide +kernel

/-! ### Peers -/

/-- A device with UPL on port 1, peer 63 keyed in its cell and heard there, and the pair's key. -/
def peer63 : Peer :=
  { Peer.cold with st := peerKeyed, uid := 0xAA, cellid := 0x77, heard1 := some 491519999, epoch := 3, geom := true, txCtr := 1, rxCtr := 9 }
def withPeer (x : Peer) : State :=
  let s := (sets [(PLK_CFG_UPLEN, 1), (PLK_PCFG_MODE 1, 1), (PLK_PSTAT_LINK 1, 1), (MAC_CELLID_CELLID, 0x77), (SEC_TRNGSTAT_HEALTHY, 1),
    (PLK_HOIDX_INDEX, 131071), (PLK_HOEUI_LO_EUI, 0x11), (PLK_HOEUI_HI_EUI, 0x22)] srv).setKey 71 rfcKey
  { s with plk := { s.plk with peers := [(63, x)] } }
def peered : State := withPeer peer63
def upl : UplIn := ⟨1, 63, 10, true⟩

/-- An announcement of a device that is not this one. -/
def announce : Announce := ⟨Config.uid + 1, 0x77, 4, 1, 2, 3, 4, 0, 0, 0, 0, true, true, none, []⟩

theorem announce_other : announce.uid ≠ Config.uid := by
  intro h
  have h2 : Config.uid + 1 - Config.uid = Config.uid - Config.uid := by
    have : Config.uid + 1 = Config.uid := h
    rw [this]
  rw [BitVec.add_comm, BitVec.add_sub_cancel, BitVec.sub_self] at h2
  exact absurd h2 (by decide)

theorem witness_PeersAndKeying_new :
    (let s : State := { peered with plk := { peered.plk with peers := [] } }
     s.uplPort 1 = true ∧ s.peerOf announce.uid.toNat = none ∧ s.plk.refused = [] ∧ s.peerFree = some 0) := by
  decide +kernel

theorem witness_PeersAndKeying_known :
    (let s := withPeer { peer63 with uid := announce.uid.toNat }
     s.peerOf announce.uid.toNat = some 63 ∧ (s.peer 63).keyed = true ∧ announce.epoch.toNat ≠ (s.peer 63).epoch) := by
  refine ⟨?_, by decide +kernel, by decide +kernel⟩
  simp [State.peerOf, withPeer, peer63, peerKeyed]

theorem witness_PeersAndKeying :
    (let s := withPeer { peer63 with st := peerKeying }
     (s.peer 63).st = peerKeying ∧ s.trngOk = true)
    ∧ (let s := withPeer { peer63 with heard1 := some 0, heard0 := none }
       let u : State := { s with tim := { s.tim with ts := 4 * ticksPerSecond } }
       (u.peer 63).st ≠ 0 ∧ (u.peer 63).st ≠ peerRejected ∧ u.heardOn (u.peer 63) 0 = false ∧ u.heardOn (u.peer 63) 1 = false)
    ∧ ((withPeer { peer63 with st := peerRejected }).peer 63).st = peerRejected
    ∧ (peered.peer 63).keyed = true ∧ peered.uplPort 1 = true
    ∧ upl.mic = true ∧ peered.uplPort upl.port = true ∧ (peered.peer upl.peer).keyed = true ∧ (peered.peer upl.peer).rxCtr < upl.ctr.toNat
    ∧ (peered.setFld PLK_SBSTAT_ROLE 2).standby = true ∧ (peered.setFld PLK_SBSTAT_ROLE 2).partner = some 63 := by
  decide +kernel

/-- A record that hands over. -/
def handed : HoRecord := ⟨0x2200000011, 5, true, 7, 8, 9, 10, 11, 12, rfcWrap, rfcWrap⟩

/-- The device with the entry of the node in record 131,071, and with the record in use. -/
def hoTarget : State :=
  let s := (List.range 15).foldl (fun s k => s.setFld (MEM_BANK_OWN_OWNER (40 + k)) ownFwd) (peered.setFld FWD_GEOM_FIRSTBANK 40)
  s.putEntry 0 131071 [0x11, 0x22, 0x80031234, 0xFFFF]
def hoSource : State := (hoTarget.setNr 131071 NR_STATE nodeActive).setNr 131071 NR_SKV 1
def handover : Snapshot := hoSource.snapshot 63 131071

theorem witness_Handover_target :
    hoTarget.takes PLK_HOCMD (hoTarget.setWord PLK_HOCMD [(PLK_HOCMD_GO, 1), (PLK_HOCMD_PEER, 63), (PLK_HOCMD_OP, 1)])
    ∧ (hoTarget.peer 63).st = peerKeyed ∧ hoTarget.fld PLK_HOIDX_INDEX < 131072
    ∧ hoTarget.hoReady (hoTarget.fld PLK_HOIDX_INDEX) (hoTarget.fld PLK_HOEUI_HI_EUI * 2 ^ 32 + hoTarget.fld PLK_HOEUI_LO_EUI) = true
    ∧ peered.hoReady 131071 0x2200000011 = false
    ∧ peered.takes PLK_HOCMD (peered.setWord PLK_HOCMD [(PLK_HOCMD_GO, 1), (PLK_HOCMD_PEER, 63), (PLK_HOCMD_OP, 1)])
    ∧ hoTarget.portFor 63 0 ≠ none := by
  decide +kernel

theorem witness_Handover_source :
    hoSource.plk.hoQueue = [] ∧ hoSource.plk.transfer = none ∧ hoSource.nodeByEui (0x2200000011#64).toNat = some 131071
    ∧ hoSource.hoRefusal 63 (some 131071) = 0 ∧ hoTarget.hoRefusal 63 (hoTarget.nodeByEui 5) ≠ 0 := by
  decide +kernel

/-- With value_unwrap both keys of the record unwrap. -/
theorem witness_Handover_transfer :
    (let s : State := { hoTarget with plk := { hoTarget.plk with pull := some (63, 131071, 0x2200000011) } }
     s.plk.pull = some (63, 131071, handed.eui.toNat) ∧ s.hoReady 131071 handed.eui.toNat = true
     ∧ (s.key 71).getD [] = rfcKey ∧ handed.jkWrap = rfcWrap ∧ handed.skWrap = rfcWrap ∧ rfcPlain.length = 16 ∧ (63, 131071, 0x2200000011).1 = 63 ∧ (6 : Nat) ≠ hoBadTarget) := by
  decide +kernel

theorem witness_Handover_messages :
    (let r : Rel := ⟨63, uplHoReq, [1, 2], 3, 5, 0⟩
     let s : State := { peered with plk := { peered.plk with rel := [r], pull := some (63, 5, 6) } }
     s.plk.rel.find? (fun r => r.peer == 63 && r.ty == uplHoReq && decide (r.sent < 4)) = some r ∧ (s.peer 63).keyed = true
     ∧ s.portFor 63 (1 - r.port) = some 1 ∧ r.sent ≠ 0)
    ∧ (let r : Rel := ⟨63, uplHoReq, [1, 2], 4, 5, 1⟩
       let s : State := { peered with plk := { peered.plk with rel := [r], pull := some (63, 5, 6) } }
       s.plk.rel.find? (fun r => r.peer == 63 && r.ty == uplHoReq && decide (4 ≤ r.sent)) = some r ∧ s.plk.pull = some (63, 5, 6))
    ∧ (let s : State := { peered with plk := { peered.plk with transfer := some handover } }
       s.plk.transfer = some handover ∧ handover.peer = 63 ∧ s.plk.hoQueue = []) := by
  decide +kernel

/-- The standby of the pair. -/
def standby : State := peered.setFld PLK_SBSTAT_ROLE 2

theorem witness_StandbyAndAlarms :
    standby.standby = true ∧ (standby.acceptUpl upl).2.partner = some 63 ∧ standby.portFor 63 0 ≠ none
    ∧ standby.uplPort upl.port = true ∧ (standby.peer upl.peer).keyed = true ∧ (standby.peer upl.peer).rxCtr < upl.ctr.toNat
    ∧ (let r : Rel := ⟨63, uplMirror, [1], 1, 5, 1⟩
       let s : State := { peered with plk := { peered.plk with rel := [r] } }
       s.plk.rel.find? (fun r => r.peer == 63 && r.ty == uplMirror) = some r ∧ r ∈ s.plk.rel ∧ r.ty = uplMirror
       ∧ s.fld PLK_SBSTAT_LAG = 0)
    ∧ peered.hst.xBuf.length < 16 ∧ (63, 5, 6) ∉ peered.plk.seen ∧ peered.fwd.input.length < 1024
    ∧ (let s : State := { peered with plk := { peered.plk with seen := [(63, 5, 6)] } }
       (63, 5, 6) ∈ s.plk.seen)
    ∧ (let s : State := { standby with tim := { standby.tim with ts := 40 * ticksPerSecond } }
       s.standby = true ∧ s.partner = some 63 ∧ s.silenceFenced 63 = false) := by
  decide +kernel

/-! ### Host queues -/

/-- A device with queue 7 of the host enabled, its rings' pointers near the wrap, and a state of that queue. -/
def host7 (x : HQueue) : State :=
  (sets [(HST_QCFG_EN 7, 1), (HST_QCFG_IEN 7, 1), (HST_QCFG_VEC 7, 31), (HST_QSQTAIL_PTR 7, 0), (HST_QSTAT_SQHEAD 7, 255),
    (HST_QSTAT_CQTAIL 7, 255), (HST_QCQHEAD_PTR 7, 9), (HST_STAT_BME, 1)] srv).setQueue 7 x
def hc (cls op : Nat) (ws : List Nat) : HCmd := ⟨0xFFFF, [0xFFFF0000 + 256 * cls + op] ++ ws, false⟩
def flyingQ (cls op : Nat) (ws : List Nat) : State := host7 { HQueue.cold with inflight := [hc cls op ws] }
def cpl : Cpl := ⟨0xFFFF, 7, false, false, stOk, 0, 0, []⟩

/-- A request of tag 0xFFFF of queue 7 that is placed, with its ticket planned in entry 3. -/
def open7 (s : State) : State :=
  let s := s.setTicket 3 { Ticket.cold with state := tkPlanned, req := some (5, 0) }
  { s with sch := { s.sch with reqs := [{ s.joinRequest 0 0 0 0 with id := 5, kind := .downlink, queue := 7, tag := 0xFFFF, hasTag := true, state := .placed }] } }

theorem witness_QueueTraffic :
    srv.takes (HST_QSQTAIL 7) (BitVec.ofNat 32 (255#8).toNat) ∧ srv.takes (HST_QCQHEAD 7) (BitVec.ofNat 32 (255#8).toNat)
    ∧ (host7 HQueue.cold).nextQueue = some 7 ∧ (host7 HQueue.cold).isLocal 7 = false
    ∧ (⟨0xFFFF, [0xFFFF0001], false⟩ : HCmd).badOp = false ∧ (⟨0xFFFF, [0xFFFF0003], false⟩ : HCmd).badOp = true
    ∧ (⟨0xFFFF, [0xFFFF0204, 0, 0x00200000], false⟩ : HCmd).badOp = false
    ∧ ((flyingQ 0 1 []).nextQueue = some 7 ∧ (∃ d ∈ ((flyingQ 0 1 []).queue 7).inflight, d.tag = 0xFFFF))
    ∧ (let s := host7 { HQueue.cold with memory := [cpl] }
       s.nextQueue = some 7 ∧ (s.queue 7).memory.find? (fun m => m.tag == 0xFFFF) = some cpl)
    ∧ (flyingQ 0 1 []).flying 7 0xFFFF 0 1 ≠ none
    ∧ (flyingQ 0 2 [0, 0x0007FFFF]).flying 7 0xFFFF 0 2 = some (hc 0 2 [0, 0x0007FFFF])
    ∧ (flyingQ 0 2 [0, 0x0007FFFF]).openReq ((hc 0 2 [0, 0x0007FFFF]).w 2 / 65536 % 8) ((hc 0 2 [0, 0x0007FFFF]).w 2 % 65536) = none
    ∧ (flyingQ 0 1 []).inflight 7 0xFFFF = some (hc 0 1 []) ∧ (hc 0 1 []).cls ≠ 1
    ∧ (flyingQ 1 1 [65535]).inflight 7 0xFFFF = some (hc 1 1 [65535]) ∧ (hc 1 1 [65535]).cls = 1 ∧ (hc 1 1 [65535]).timeout ≠ 0
    ∧ (hc 1 1 [65535]).started = false ∧ (flyingQ 1 1 [65535]).openReq 7 0xFFFF = none
    ∧ (let s := (host7 { HQueue.cold with held := [cpl] }).setFld (HST_QSTAT_CQTAIL 7) 255
       (s.queue 7).held = [cpl] ∧ s.queueRuns 7 = true ∧ s.cqFull 7 = false ∧ s.isLocal 7 = false ∧ s.linkUp = true
       ∧ s.isSet (HST_QCFG_IEN 7) = true ∧ ({ s with regs := (msixEntry 31 3, 0) :: s.regs }).vecMasked (s.fld (HST_QCFG_VEC 7)) = false
       ∧ s.hst.holdoff.contains (s.fld (HST_QCFG_VEC 7)) = false ∧ s.fld (HST_QSTAT_CQTAIL 7) = 255) := by
  decide +kernel

/-- The words of a DOWNLINK to record 131,071 (with a length, and a kind of insert), of a BROADCAST of campaign 3, and of an OFFER. -/
def downWords (len ins : Nat) : List Nat := [9, 131071, 191 + 256 * 0x7FF0, len + 0x00F10000, 5, 1, ins]
def castWords : List Nat := [9, 0xF3, 0x00FFFFFF]
def offerWords : List Nat := [0, 0, 191, 1500]

/-- Node 131,071 is ACTIVE on lane 3, channel 63, which has profile 1 of the GFSK kind; bank 191 is HST's or not. -/
def downState (ws : List Nat) (st owner : Nat) : State :=
  (((((flyingQ 1 1 ws).setNr 131071 NR_STATE st).setNr 131071 NR_LANE 3).setNr 131071 NR_CH 63).setFld (RFL_CH_PROF 3 63) 1).setFld
    (MEM_BANK_OWN_OWNER 191) owner

theorem witness_QueueOperations :
    (∀ p ∈ [(20, 0, nodeActive, ownHst), (2047, 0, nodeActive, ownHst), (20, 1 + 256 * 5, nodeActive, ownHst), (20, 0, nodeLost, ownHst),
        (20, 0, nodeActive, 2)],
       (downState (downWords p.1 p.2.1) p.2.2.1 p.2.2.2).flying 7 0xFFFF 1 1 = some (hc 1 1 (downWords p.1 p.2.1))
       ∧ (downState (downWords p.1 p.2.1) p.2.2.1 p.2.2.2).beating = true)
    ∧ ((downState (downWords 20 0) nodeActive ownHst).setFld MGT_MODE_MODE modeAnneal).beating = false
    ∧ (hc 1 1 (downWords 20 0)).w 2 % 2 ^ 18 = 131071 ∧ (hc 1 1 (downWords 20 0)).w 4 % 2 ^ 11 = 20
    ∧ (hc 1 1 (downWords 2047 0)).w 4 % 2 ^ 11 = 2047 ∧ (hc 1 1 (downWords 20 0)).w 7 % 4 = 0
    ∧ (hc 1 1 (downWords 20 (1 + 256 * 5))).w 7 % 4 = 1 ∧ ¬ (hc 1 1 (downWords 20 (1 + 256 * 5))).w 7 / 256 % 2 ^ 11 + 16 ≤ 20
    ∧ (let s := downState (downWords 20 0) nodeActive ownHst
       s.nodeState 131071 = nodeActive
       ∧ s.psduLen (s.nr 131071 NR_LANE) (s.nr 131071 NR_CH) 10 20 ≤ s.psduMax (s.nr 131071 NR_LANE) (s.chProf (s.nr 131071 NR_LANE) (s.nr 131071 NR_CH))
       ∧ ¬ s.psduLen (s.nr 131071 NR_LANE) (s.nr 131071 NR_CH) 10 2047 ≤ s.psduMax (s.nr 131071 NR_LANE) (s.chProf (s.nr 131071 NR_LANE) (s.nr 131071 NR_CH))
       ∧ s.firstRefused (s.submitter 7) (bufAddr ((hc 1 1 (downWords 20 0)).w 3 % 256) ((hc 1 1 (downWords 20 0)).w 3 / 256 % 2 ^ 15)) 20 = none)
    ∧ (downState (downWords 20 0) nodeActive 2).firstRefused ownHst (bufAddr 191 0x7FF0) 20 ≠ none
    ∧ (downState (downWords 20 0) nodeLost ownHst).nodeState 131071 ≠ nodeActive ∧ (downState (downWords 20 0) nodeLost ownHst).nodeState 131071 ≠ nodeAdrift
    ∧ (flyingQ 1 2 castWords).flying 7 0xFFFF 1 2 = some (hc 1 2 castWords) ∧ (hc 1 2 castWords).w 2 % 4 = 3
    ∧ (flyingQ 1 2 castWords).beating = true ∧ (flyingQ 1 2 castWords).camp 3 ≠ campActive
    ∧ ((flyingQ 1 2 castWords).setFld (SEC_CAMPSTAT_STATE 3) campActive).camp 3 = campActive
    ∧ (let s := open7 (flyingQ 0 2 [0, 0x0007FFFF])
       s.flying 7 0xFFFF 0 2 = some (hc 0 2 [0, 0x0007FFFF]) ∧ s.inflight 7 0xFFFF ≠ none
       ∧ ((s.openReq ((hc 0 2 [0, 0x0007FFFF]).w 2 / 65536 % 8) ((hc 0 2 [0, 0x0007FFFF]).w 2 % 65536)).map (·.id)) = some 5)
    ∧ (let s := open7 (flyingQ 1 1 [9])
       s.inflight 7 0xFFFF = some (hc 1 1 [9]) ∧ (hc 1 1 [9]).cls = 1 ∧ (hc 1 1 [9]).timeout ≠ 0 ∧ ((s.openReq 7 0xFFFF).map (·.id)) = some 5)
    ∧ (let s := (flyingQ 2 8 offerWords).setFld (MEM_BANK_OWN_OWNER 191) ownHst
       let x := (s.bankRead (s.submitter 7) (bufAddr 191 0) 4).1
       s.flying 7 0xFFFF 2 8 = some (hc 2 8 offerWords) ∧ (hc 2 8 offerWords).w 3 = 191 ∧ (hc 2 8 offerWords).w 4 = 1500
       ∧ x = .ok (List.replicate 4 0#8) ∧ s.fwd.input.length < 1024)
    ∧ ((flyingQ 2 8 offerWords).bankRead ((flyingQ 2 8 offerWords).submitter 7) (bufAddr 191 0) 1500).1 = .refused := by
  decide +kernel

/-- An event record with a vector, and an express record. -/
def evrec : EvRec := ⟨5, false, 0, 7, 8, 9⟩
def xrec : XRec := ⟨3, 31, true, 0x77, 1, 2, 3, 4, 5, 6, false, [7]⟩

/-- A device with its event and express rings open, and records that wait. -/
def ringed : State :=
  let s := sets [(HST_ERCTL_EN, 1), (HST_ERSIZE_LOG2, 12), (HST_XRCTL_EN, 1), (HST_XRCTL_VEC, 31), (HST_XRSIZE_LOG2, 12),
    (HST_ERHEAD_PTR, 4064), (HST_ERTAIL_PTR, 32), (HST_XRHEAD_PTR, 3968), (HST_XRTAIL_PTR, 128)] srv
  { s with regs := (msixEntry 31 3, 0) :: s.regs
           hst := { s.hst with evBuf := [evrec], xBuf := [xrec] } }

theorem witness_RingsAndVectors :
    ringed.hst.evBuf = [evrec] ∧ ringed.erReady = true ∧ ringed.hst.evLost = 0 ∧ ringed.hst.xBuf = [xrec] ∧ ringed.xrReady = true
    ∧ ringed.vecMasked (ringed.fld HST_XRCTL_VEC) = false
    ∧ (ringed.route 5).getLsbD 5 = false
    ∧ (let s := ringed.put (routeAddr 5) 0x3F
       (s.route 5).getLsbD 5 = true ∧ s.vecMasked (getFld (s.route 5) ⟨0, 0, 5⟩) = false
       ∧ s.hst.holdoff.contains (getFld (s.route 5) ⟨0, 0, 5⟩) = false ∧ s.erReady = true)
    ∧ ({ ringed with hst := { ringed.hst with evLost := 3 } }).hst.evLost ≠ 0
    ∧ ringed.hst.holdoff.count 31 ≤ 1 ∧ ringed.takes (msixEntry 31 3) 0
    ∧ ((ringed.put msixPending 0x80000000).vecPending 31 && !(ringed.put msixPending 0x80000000).vecMasked 31 && ringed.linkUp) = true
    ∧ (ringed.vecPending 31 && !ringed.vecMasked 31 && ringed.linkUp) = false
    ∧ ((ringed.put msixPending 0x80000000).vecPending 31 && !ringed.hst.holdoff.contains 31 && ringed.linkUp) = true
    ∧ (ringed.vecPending 31 && !ringed.hst.holdoff.contains 31 && ringed.linkUp) = false
    ∧ srv.isCast 0x2F = true ∧ (withSys (fun y => { y with cast := [1] }) srv).isCast 0x2F = false ∧ (srv.core 15).evq.length < 32
    ∧ 32 ≤ ((srv.setCore 15 { srv.core 15 with evq := List.replicate 32 (1, 2) }).core 15).evq.length := by
  decide +kernel

/-- A full record buffer. -/
def filled : State :=
  let s := ringed.put (routeAddr 255) 0x40
  { s with hst := { s.hst with evBuf := List.replicate 2048 evrec } }

theorem witness_RingsAndVectors_full :
    (255 : Nat) ≠ 246 ∧ 2048 ≤ filled.hst.evBuf.length ∧ (filled.route 255).getLsbD 6 = true ∧ filled.hst.evFull = false := by
  decide +kernel

theorem witness_LinkChanges :
    srv.linkUp = true ∧ (srv.setFld HST_STAT_LINKUP 0).linkUp = false ∧ srv.sys.power = .on ∧ srv.isCast 0x13 = true
    ∧ srv.sys.job.isSome = false
    ∧ (srv.startLoad .hostPcie).sys.power = .on ∧ (srv.startLoad .hostPcie).isCast 0x13 = true
    ∧ (srv.startLoad .hostPcie).sys.job.isSome = true := by
  decide +kernel

/-! ### Banks and the serial port -/

/-- A device whose last bank is HST's, with a last word that has some inverted bits. -/
def lastWord : Nat := bar2Size / 8 - 1
def banked (m : Nat) : State :=
  let s := srv.setFld (MEM_BANK_OWN_OWNER 191) ownHst
  { s with mem := { s.mem with cells := [(bar2Size - 1, 7)], ecc := if m = 0 then [] else [(lastWord, m)] } }

theorem witness_BarTwoAccess :
    srv.sys.power = .on ∧ srv.mode ≠ modeDormant
    ∧ (let o : BitVec 26 := BitVec.ofNat 26 (bar2Size - 8)
       o.toNat + 8 ≤ bar2Size ∧ (banked 0).firstRefused ownHst o.toNat 8 = none
       ∧ (∀ w ∈ wordsOf o.toNat 8, eccWeight ((banked 0).eccMask w) = 0) ∧ (∀ w ∈ wordsOf o.toNat 8, eccWeight ((banked 1).eccMask w) ≤ 1)
       ∧ (∃ w ∈ wordsOf o.toNat 8, 2 ≤ eccWeight ((banked 3).eccMask w)) ∧ wordsOf o.toNat 7 = [lastWord]
       ∧ 2 ≤ eccWeight ((banked 3).eccMask lastWord) ∧ srv.firstRefused ownHst o.toNat 8 = some 191
       ∧ bar2Size < (BitVec.ofNat 26 bar2Size).toNat + 1) := by
  decide +kernel

theorem witness_ScrubAndHandover :
    (let s := srv.setFld MEM_CFG_SCRUBEN 1
     s.isSet MEM_CFG_SCRUBEN = true ∧ s.nextScrub 193 s.mem.scrub = some 0 ∧ s.nextScrub 193 1 = some 1)
    ∧ (let s : State := { (banked 3).setFld MEM_CFG_SCRUBEN 1 with mem := { (banked 3).mem with scrub := lastWord } }
       s.nextScrub 193 s.mem.scrub = some lastWord ∧ 2 ≤ eccWeight (s.eccMask lastWord) ∧ s.nextScrub 193 (lastWord + 1) = none)
    ∧ (srv.setFld MEM_CFG_SCRUBEN 0).isSet MEM_CFG_SCRUBEN = false
    ∧ (let v : Word := 3
       srv.takes (MEM_BANK_OWN 191) v ∧ v.toNat % 32 ≠ srv.owner 191)
    ∧ (let v : Word := BitVec.ofNat 32 ownHst
       (banked 0).takes (MEM_BANK_OWN 191) v ∧ v.toNat % 32 = (banked 0).owner 191)
    ∧ (srv.startHandover 191 3).newOwner 191 = some 3 ∧ srv.newOwner 191 = none := by
  decide +kernel

theorem witness_BankCommandsKeepCanonicalForm :
    (let c := Instr.hostBar2Write (BitVec.ofNat 26 (bar2Size - 1)) [0]
     let s := { banked 3 with pending := [c] }
     s.memWf = true ∧ s.pending = [c] ∧ (match step s with | .next _ => true | _ => false) = true) := by
  decide +kernel

theorem witness_SpiOpcodes :
    srv.sys.power = .on ∧ (∀ k, k < 3 → (srv.busRead ((0x3FFFC#24).toNat + 4 * k)).2 = srv) ∧ (0xFFFFF8#24).toNat + 4 < 2 ^ 24
    ∧ srv.mode ≠ modeDormant
    ∧ (let o : BitVec 32 := BitVec.ofNat 32 (bar2Size - 8)
       o.toNat + 4 * 2 ≤ bar2Size ∧ (banked 0).firstRefused ownHst o.toNat (4 * 2) = none
       ∧ ∀ w ∈ wordsOf o.toNat (4 * 2), eccWeight ((banked 0).eccMask w) = 0)
    ∧ srv.hst.evBuf = [] ∧ srv.hst.xBuf = []
    ∧ (let s : State := { srv with hst := { srv.hst with evBuf := [evrec], xBuf := [xrec] } }
       s.hst.evBuf = [evrec] ∧ s.hst.evLost = 0 ∧ (s.route evrec.id).getLsbD 5 = false ∧ s.hst.xBuf = [xrec])
    ∧ srv.live 0x13 = true ∧ srv.isSet (HST_QCFG_EN 7) = false ∧ (srv.queue 7).spiCmd = false ∧ (srv.queue 7).memory = []
    ∧ (srv.queue 7).inflight = [] ∧ (srv.queue 7).held = []
    ∧ ((host7 HQueue.cold).isSet (HST_QCFG_EN 7) || ((host7 HQueue.cold).queue 7).spiCmd) = true
    ∧ ((host7 { HQueue.cold with held := [cpl] }).queue 7).held = [cpl] := by
  decide +kernel

theorem witness_SpiOpcodes_stage :
    (let s := srv.setFld MGT_CASTID_CASTID 0
     s.mode ≠ modeDormant ∧ s.fld MGT_CASTID_CASTID = 0 ∧ (0x7FFFFC#24).toNat + 4 * 1 ≤ 0x800000 ∧ (0x7FFFFC#24).toNat % 4 = 0
     ∧ (∀ b, b < 32 → s.mayAccess (s.owner b) b = true) ∧ s.mem.ecc = []) := by
  decide +kernel

theorem stage_unspoiled (w : Nat) : (srv.setFld MGT_CASTID_CASTID 0).eccMask w = 0 := rfl

/-! ### Chaser cores -/

/-- Core 15 with a program at index 5, out of reset. -/
def program (ws : List Word) : Core :=
  { Core.cold with pc := 5, halted := false, wait := false }.store (progBase + 20) (ws.flatMap (fun (w : Word) => leBytes 4 w.toNat))
def running (k : Core) : State := srv.setCore 15 k
def issuesOk (s : State) : Bool :=
  s.coreRuns 15 && !(s.core 15).halted && !(s.core 15).wait && (s.intDue 15).isNone && (s.core 15).set.loop0.cnt == 0 && (s.core 15).set.loop1.cnt == 0

/-- A syllable alone in its bundle; and two of them. -/
def alone (e : Syl) : Core := program [encodeSyl true e]
def pairOf (e f : Syl) : Core := program [encodeSyl false e, encodeSyl true f]
def isAlone (k : Core) (e : Syl) : Bool := decide (k.pc.toNat < 0x8000) && k.syl k.pc.toNat == encodeSyl true e
def withStacks (x y : List Word) (a : List Acc) (k : Core) : Core := { k with set := { k.set with x := x, y := y, a := a } }

/-- Syllables that the clauses name. -/
def syMac : Syl := .m false (.bin .mac false false false false false false)
def syStx : Syl := .l (.acc .stxW 3 1 (-4))
def syLdx : Syl := .l (.acc .ldxW 3 0 0)

theorem witness_BundleExecution :
    srv.coreRuns 15 = true ∧ (running { Core.cold with wait := true }).coreRuns 15 = true
    ∧ issuesOk (running (alone (.a (.plain .add)))) = true
    ∧ (let k := withStacks [1, 2] [] [] (alone (.a (.plain .add)))
       isAlone k (.a (.plain .add)) = true ∧ ((.plain .add : ASyl).effect.1.le k.stk.size) = true
       ∧ ((.plain .add : ASyl).effect.2.add (k.stk.drop (.plain .add : ASyl).effect.1).size).le stackCap = true)
    ∧ isAlone (alone (.a (.plain .sub))) (.a (.plain .sub)) = true ∧ isAlone (alone (.a (.plain .cmplt))) (.a (.plain .cmplt)) = true
    ∧ isAlone (alone syMac) syMac = true ∧ issuesOk (running (withStacks [3] [4] [5] (alone syMac))) = true
    ∧ (let k := ((withStacks [7] [] [] (alone syStx)).setPtr 3 0xFFFC)
       isAlone k syStx = true ∧ (k.ptr 3).toNat < 0x10000 ∧ (k.ptr 3).toNat % 4 = 0 ∧ issuesOk (running k) = true)
    ∧ (let k := ((alone syLdx).setPtr 3 0x1FFFC)
       isAlone k syLdx = true ∧ (k.ptr 3).toNat < 0x20000 ∧ (k.ptr 3).toNat % 4 = 0 ∧ issuesOk (running k) = true)
    ∧ isAlone (alone (.c (.br .ifT 0x8000))) (.c (.br .ifT 0x8000)) = true
    ∧ (let k := pairOf (.a (.plain .add)) (.c (.guard .ifT))
       k.pc.toNat + 1 < 0x8000 ∧ k.syl 5 = encodeSyl false (.a (.plain .add)) ∧ k.syl 6 = encodeSyl true (.c (.guard .ifT)) ∧ Cond.ifT.holds k.set.t = false)
    ∧ (let k := { pairOf (.c (.call 0x7FFF)) (.lit 0x7FFF) with rsp := 0x1000, rsb := 0x1000, rsl := 0 }
       k.syl 5 = encodeSyl false (.c (.call 0x7FFF)) ∧ k.syl 6 = encodeSyl true (.lit 0x7FFF) ∧ k.badStack = none
       ∧ k.rsl.toNat + 4 * (maskWords 0x7FFF + 1) ≤ k.rsp.toNat ∧ issuesOk (running k) = true)
    ∧ (let k := { alone (.c .ret) with rsp := 0xFFC, rsb := 0x1000, rsl := 0 }
       isAlone k (.c .ret) = true ∧ k.badStack = none ∧ k.rsp.toNat < k.rsb.toNat ∧ k.link / 2 ^ 16 = 0 ∧ k.rsp.toNat + 4 ≤ 0x20000)
    ∧ (let k := withStacks [0xFFFFFFFF] [] [] (alone (.c (.movtc .sr)))
       let k := { k with set := { k.set with u := true } }
       isAlone k (.c (.movtc .sr)) = true ∧ k.set.u = true ∧ issuesOk (running k) = true)
    ∧ isAlone (alone (.c .yield)) (.c .yield) = true ∧ (alone (.c .yield)).levels = [] := by
  decide +kernel

theorem witness_BundleTraps :
    (let s := running { alone (.a (.plain .add)) with pc := 0x8000 }
     issuesOk s = true ∧ 0x8000 ≤ (s.core 15).pc.toNat)
    ∧ (let k := program [0xFFFFFFFF]
       k.pc.toNat < 0x8000 ∧ (k.syl k.pc.toNat).msb = true ∧ decodeSyl (k.syl k.pc.toNat) = none)
    ∧ (let k := withStacks [1] [] [] (alone (.a (.plain .add)))
       isAlone k (.a (.plain .add)) = true ∧ k.set.x.length < 2)
    ∧ (let k := alone (.c .reti)
       let k := { k with set := { k.set with u := true } }
       isAlone k (.c .reti) = true ∧ k.set.u = true ∧ issuesOk (running k) = true ∧ k.th = false ∧ ({ k with th := true }).th = true)
    ∧ isAlone (alone (.c (.trap 255))) (.c (.trap 255)) = true ∧ issuesOk (running (alone (.c (.trap 255)))) = true := by
  decide +kernel

/-- Core 15 with a pending doorbell that may interrupt. -/
def rung : State :=
  running { alone (.c .yield) with dbPend := true, set := { CoreSet.cold with ie := true } }

theorem witness_InterruptsAndCounters :
    (∃ pri, rung.intDue 15 = some (.doorbell, pri) ∧ rung.coreRuns 15 = true ∧ (rung.core 15).halted = false ∧ (rung.core 15).levels = [])
    ∧ (running (alone (.c .yield)) |>.core 15).set.ie = false
    ∧ srv.beating = true
    ∧ (let s := (running { alone (.c .yield) with due := true, owed := true }).setFld (CHB_CBEATVEC_EN 15) 1
       ((s.core 15).due && (s.core 15).owed && !(s.core 15).halted && s.isSet (CHB_CBEATVEC_EN 15)) = true)
    ∧ srv.takes (CHB_CDOORBELL 15) (putAll 0 [(CHB_CDOORBELL_RING 15, 1), (CHB_CDOORBELL_DATA 15, (0xFFFF#16).toNat)])
    ∧ srv.takes (CHB_COFFER1 15) (putAll 0 [(CHB_COFFER1_GO 15, 1), (CHB_COFFER1_LEN 15, (1#11).toNat)])
    ∧ (let k := { Core.cold with offer := some (191, 0x7FF0, 20) }
       let s := (running k).setFld (MEM_BANK_OWN_OWNER 191) 0x1F
       (s.core 15).offer = some (191, 0x7FF0, 20) ∧ (s.bankRead (0x10 + 15) (bufAddr 191 0x7FF0) 20).1 = .ok (List.replicate 20 0#8)
       ∧ s.fwd.input.length < 1024 ∧ ((running k).bankRead (0x10 + 15) (bufAddr 191 0x7FF0) 20).1 = .refused)
    ∧ srv.takes (0x200000 + 0x10000 * 15 + 0x1100 + 8 * 47 + 4) 0xFFFF
    ∧ (let k := (running (alone (.c .yield))).core 15
       k.wait = false ∧ k.halted = false ∧ pulseOk srv (PMU_CTL_SNAP 15) = true ∧ pulseOk srv (PMU_CTL_SRESET 15) = true)
    ∧ ((running { Core.cold with wait := true }).core 15).wait = true
    ∧ (withSys (fun y => { y with cast := [1] }) srv).coreRuns 15 = false := by
  refine ⟨⟨rung.fld (CHB_CINTCFG_DBPRI 15), ?_⟩, ?_⟩ <;> decide +kernel

/-! ### The backup domain -/

def pm (n : Nat) : State := (srv.put BKP_TIME (timeWord n)).put BKP_DATE (dateWord ⟨24, 2, 29⟩)

theorem witness_RealTimeClock :
    srv.takes BKP_DATE (dateWord ⟨24, 2, 29⟩) ∧ srv.takes BKP_TIME (timeWord 86399)
    ∧ srv.takes BKP_CTL (srv.setWord BKP_CTL [(BKP_CTL_DIPCLR, 1)]) ∧ srv.bkp.xfer = none
    ∧ ({ srv with bkp := { srv.bkp with xfer := some (BKP_DATE, 5) } }).bkp.xfer = some (BKP_DATE, (5 : Word))
    ∧ (pm 5).rtcTime < 86398 ∧ (pm 86398).rtcTime = 86398 ∧ (pm 86399).rtcTime = 86399 ∧ (pm 86400).rtcTime = 86400
    ∧ (sets [(BKP_CTL_LEAPARM, 1)] srv).isSet BKP_CTL_LEAPARM = true ∧ (sets [(BKP_CTL_LEAPARM, 1)] srv).isSet BKP_CTL_LEAPNEG = false
    ∧ (sets [(BKP_CTL_LEAPARM, 1), (BKP_CTL_LEAPNEG, 1)] srv).isSet BKP_CTL_LEAPNEG = true
    ∧ (let s := (pm 86399).setFld (BKP_ALMTIME_EN 1) 1
       s.isSet (BKP_ALMTIME_EN 1) = true)
    ∧ srv.mode = modeService ∧ srv.isSet TIM_STAT_TVALID = true ∧ srv.isSet BKP_CTL_LEAPARM = false
    ∧ 1 ≤ (srv.put (leapAddr 0 2) 0x10025).leapCount
    ∧ (inMode modeHoldover).mode ≠ modeService := by
  decide +kernel

theorem witness_SupplyAndTrust :
    srv.sys.power = .on ∧ srv.isSet MGT_PWRSTAT_BOWARN = false ∧ (srv.setFld MGT_PWRSTAT_BOWARN 1).isSet MGT_PWRSTAT_BOWARN = true
    ∧ (srv.setFld MGT_PWRCFG_PFAILEN 1).isSet MGT_PWRCFG_PFAILEN = true ∧ (srv.setFld MGT_PWRCFG_PFAILEN 0).isSet MGT_PWRCFG_PFAILEN = false
    ∧ srv.bkp.vddIo = true
    ∧ (let s : State := { srv with bkp := { srv.bkp with vddIo := false } }
       s.bkp.vddIo = false ∧ (s.setFld BKP_STAT_LOWV 0).isSet BKP_STAT_LOWV = false ∧ (s.setFld BKP_STAT_LOWV 1).isSet BKP_STAT_LOWV = true
       ∧ (withSys (fun y => { y with power := .backup }) s).sys.power ≠ .on)
    ∧ ((srv.setFld BKP_TRICKLE_EN 1).isSet BKP_TRICKLE_EN && srv.bkp.vddIo) = true
    ∧ ((srv.setFld BKP_TRICKLE_EN 0).isSet BKP_TRICKLE_EN && srv.bkp.vddIo) = false := by
  decide +kernel

/-! ### Worked values -/

/-- spec/13, dual-MAC bundle: the three words and their fields. -/
theorem value_dual_mac_m0 : decodeSyl 0x0018C000 = some (.m false (.bin .mac true false false false true true)) := by decide +kernel
theorem value_dual_mac_m1 : decodeSyl 0x101E0000 = some (.m true (.bin .mac true true true false false false)) := by decide +kernel
theorem value_dual_mac_l : decodeSyl 0xB1007400 = some (.l (.ld2 0 1 3 1)) := by decide +kernel

/-- spec/01 R17: the first edge after entry, beat 375 of the superframe of second 1,400,000,000, with a 1 ms beat and φ = 0. -/
theorem value_beat_count : srv.countAt (1400000000 * 491520000 + 375 * 491520) = 4135629175 := by decide +kernel

/-- spec/06 R162: TS64 688,128,000,001,000,000. -/
theorem value_device_time : 688128000001000000 / ticksPerSecond = 1400000000 ∧ dtNs 688128000001000000 = 2034505
    ∧ dtFrac 688128000001000000 = 13653 := by decide +kernel

/-- spec/10, one lookup: 2001:0db8:4c10:0207:0212:4bff:fe01:3a5c. -/
def lookup : List Byte := beBytes 16 0x20010db84c10020702124bfffe013a5c
theorem value_filter_index : foldAddr lookup = 0x9BED := by decide +kernel
theorem value_hash_128 : bucketHash 128 lookup = 0x507F := by decide +kernel
theorem value_hash_64 : bucketHash 64 lookup = 0xAC0A := by decide +kernel

/-- spec/21: lane 2's channel 7, and counter 25 of core 5. -/
theorem value_addresses : RFL_CH_VALID 2 7 = ⟨0x7011C, (RFL_CH_VALID 2 7).lo, (RFL_CH_VALID 2 7).len⟩ ∧ 0x200000 + 0x10000 * 5 + 0x1100 + 8 * 25 = 0x2511C8 := by
  decide +kernel

/-- Check values of CRC-32, of the CRC of IEEE 802.15.4 and of CRC-24Q over "123456789". -/
theorem value_crc32 : crc32 (ascii "123456789") = 0xCBF43926 := by decide +kernel
theorem value_fcs : fcsOf false (ascii "123456789") = [0x89, 0x21] := by decide +kernel
theorem value_crc24q : crc24q (ascii "123456789") = 0xCDE703 := by decide +kernel

/-- FIPS 180-4: SHA-256 of "abc"; RFC 4231 test case 1. -/
theorem value_sha256 : sha256 (ascii "abc") = beBytes 32 0xBA7816BF8F01CFEA414140DE5DAE2223B00361A396177A9CB410FF61F20015AD := by decide +kernel
theorem value_hmac : hmacSha256 (List.replicate 20 0x0B) (ascii "Hi There")
    = beBytes 32 0xB0344C61D8DB38535CA8AFCEAF0BF12B881DC200C9833DA726E9376C2E32CFF7 := by decide +kernel

/-- FIPS 197 appendix C.1. -/
theorem value_aes : aesEnc rfcKey rfcPlain = beBytes 16 0x69C4E0D86A7B0430D8CDB78070B4C55A := by decide +kernel

/-- RFC 3610 packet vector 1: its MIC and its ciphertext. -/
def ccmKey : List Byte := beBytes 16 0xC0C1C2C3C4C5C6C7C8C9CACBCCCDCECF
def ccmNonce : List Byte := beBytes 13 0x00000003020100A0A1A2A3A4A5
def ccmText : List Byte := (List.range 23).map (fun i => BitVec.ofNat 8 (8 + i))
theorem value_ccm_mic : ccmMic ccmKey ccmNonce (beBytes 8 0x0001020304050607) ccmText = beBytes 8 0x17E8D12CFDF926E0 := by decide +kernel
theorem value_ccm_text : ccmCrypt ccmKey ccmNonce ccmText = beBytes 23 0x588C979A61C663D2F066D0C2C0F989806D5F6B61DAC384 := by decide +kernel

/-- spec/19: the airtime of 28 octets at 200 kb/s with four octets of preamble, 1,440 µs. -/
def plain200 : State := sets [(RFL_PROF_PHY 0 0, 1), (RFL_PROF_PREAMBLE 0 0, 4), (RFL_PROF_RATE 0 0, 3)] srv
theorem value_airtime : plain200.airTicks 0 0 28 = usTicks 1440 := by decide +kernel

end Sys2Proof.Tests
end

/-! What an accepted write of a plain register does, and the one state of affairs in which it leaves another value than the one
written: the device has latched a bit of that register in the same tick (R5). -/

namespace Sys2Proof.Machine

open Sys2Proof.Fields

/-! ### What a write leaves in the fields of a word (R5) -/

theorem getFld_lt (w : Word) (f : Fld) : getFld w f < 2 ^ f.len := (w.extractLsb' f.lo f.len).isLt

theorem FSpec.getFld_store_RW (f : FSpec) (a : Nat) (old v w : Word) (hf : f.lo + f.len ≤ 32) (ht : f.ty = .RW) :
    getFld (f.store a old v w) ⟨a, f.lo, f.len⟩ = getFld v ⟨a, f.lo, f.len⟩ := by
  simp only [FSpec.store, ht]
  rw [getFld_putFld_same w _ _ hf, Nat.mod_eq_of_lt (getFld_lt v _)]

theorem FSpec.getFld_store_apart (f : FSpec) (g : Fld) (a : Nat) (old v w : Word) (hf : f.lo + f.len ≤ 32)
    (hd : f.lo + f.len ≤ g.lo ∨ g.lo + g.len ≤ f.lo) : getFld (f.store a old v w) g = getFld w g := by
  have hput (x : Nat) : getFld (putFld w ⟨a, f.lo, f.len⟩ x) g = getFld w g := getFld_putFld_other w _ g x hf hd
  unfold FSpec.store
  cases f.ty with
  | RW => exact hput _
  | W1C => exact hput _
  | WO =>
    dsimp only
    split
    · exact hput _
    · rfl
  | RO => rfl
  | W1P => rfl
  | CL => rfl

/-- A register's fields lie within its word and share no bit. -/
abbrev fieldsApart (l : List FSpec) : Prop :=
  (∀ f ∈ l, f.lo + f.len ≤ 32) ∧ l.Pairwise (fun f g => f.lo + f.len ≤ g.lo ∨ g.lo + g.len ≤ f.lo)

theorem getFld_foldl_store_apart (l : List FSpec) (g : Fld) (a : Nat) (old v w : Word) (hl : ∀ f ∈ l, f.lo + f.len ≤ 32)
    (hg : ∀ f ∈ l, g.lo + g.len ≤ f.lo ∨ f.lo + f.len ≤ g.lo) :
    getFld (l.foldl (fun w f => f.store a old v w) w) g = getFld w g := by
  induction l generalizing w with
  | nil => rfl
  | cons f l ih =>
    obtain ⟨hf, hl⟩ := List.forall_mem_cons.mp hl
    obtain ⟨hgf, hg⟩ := List.forall_mem_cons.mp hg
    rw [List.foldl_cons, ih _ hl hg, f.getFld_store_apart g a old v w hf hgf.symm]

theorem getFld_foldl_store_RW (l : List FSpec) (a : Nat) (old v w : Word) (hl : fieldsApart l) (f : FSpec) (hm : f ∈ l)
    (ht : f.ty = .RW) :
    getFld (l.foldl (fun w f => f.store a old v w) w) ⟨a, f.lo, f.len⟩ = getFld v ⟨a, f.lo, f.len⟩ := by
  induction l generalizing w with
  | nil => cases hm
  | cons g l ih =>
    obtain ⟨hlens, hpairs⟩ := hl
    obtain ⟨hg, hlen⟩ := List.forall_mem_cons.mp hlens
    obtain ⟨hd, hpair⟩ := List.pairwise_cons.mp hpairs
    rw [List.foldl_cons]
    rcases List.mem_cons.mp hm with rfl | hm
    · rw [getFld_foldl_store_apart l _ a old v _ hlen hd, f.getFld_store_RW a old v w hg ht]
    · exact ih _ ⟨hlen, hpair⟩ hm

/-- An RW field of a merged word is as written. -/
theorem getFld_mergeWord_RW (a : Nat) (old v : Word) (r : RSpec) (hr : regAt a = some r) (hl : fieldsApart r.flds) (f : FSpec)
    (hm : f ∈ r.flds) (ht : f.ty = .RW) : getFld (mergeWord a old v) ⟨a, f.lo, f.len⟩ = getFld v ⟨a, f.lo, f.len⟩ := by
  simp only [mergeWord, hr]
  exact getFld_foldl_store_RW r.flds a old v old hl f hm ht

/-! ### Plain registers -/

/-- Ten registers whose write starts no action, but for GO of SCH_CANCEL. -/
def plainRegs : List Nat :=
  [MGT_CASTADDR_LO, MGT_WAKECFG, TIM_TPDLYA 0, GNC_ACQW1, MAC_NRPAGE, FWD_TWSEL, SEC_JOBD0, PLK_HOEUI_LO, SCH_CANCEL, HST_ERBASE_LO]

theorem fieldsApart_plain : ∀ a ∈ plainRegs, ∀ r ∈ regAt a, fieldsApart r.flds := by
  decide +kernel

/-- A plain register is a word of a station, no notch and none of MGT's registers that act. -/
theorem place_plain : ∀ a ∈ plainRegs, (a % 4 = 0 ∧ a < 0x200000 ∧ ¬ (0x20010 ≤ a ∧ a < 0x200A0))
    ∧ a ≠ MGT_MODEREQ ∧ a ≠ MGT_CASTCTL ∧ a ≠ MGT_FRESET ∧ a ≠ MGT_ASSAYCTL := by
  decide

/-- A write stores the merged word in a plain register of which the device has latched no bit in this tick. -/
theorem State.storeWord_plain (s : State) (a : Nat) (v : Word) (ha : a ∈ plainRegs) (hn : s.setNow a = 0#32) :
    s.storeWord a v = s.put a (mergeWord a (s.get a) v) := by
  obtain ⟨⟨-, hc, hg⟩, -⟩ := place_plain a ha
  have hcore : ¬ 0x200000 ≤ a := by omega
  simp only [State.storeWord, hn, BitVec.and_zero, BitVec.or_zero]
  rw [if_neg (fun h => hcore h.1), if_neg (fun h => hg ⟨h.1, h.2.1⟩)]

/-- A write of a plain register stores the word, and nothing follows. -/
theorem State.applyWrite_plain (s : State) (src : BusSrc) (a : Nat) (v : Word) (ha : a ∈ plainRegs)
    (hgo : a = SCH_CANCEL → getFld v SCH_CANCEL_GO = 0) : s.applyWrite src a v = s.storeWord a v := by
  have hnoGo (t u : State) (h : getFld v SCH_CANCEL_GO = 0) : (if getFld v SCH_CANCEL_GO = 1 then t else u) = u :=
    if_neg (by omega)
  simp only [plainRegs, List.mem_cons, List.not_mem_nil, or_false] at ha
  rcases ha with rfl | rfl | rfl | rfl | rfl | rfl | rfl | rfl | rfl | rfl
  on_goal 9 => exact hnoGo _ _ (hgo rfl)
  all_goals rfl

/-- What an accepted write of a plain register leaves, where the device has latched none of its bits in this tick. -/
theorem State.write_plain (s : State) (src : BusSrc) (a : Nat) (v : Word) (ha : a ∈ plainRegs) (ht : s.takes a v)
    (hgo : a = SCH_CANCEL → getFld v SCH_CANCEL_GO = 0) (hn : s.setNow a = 0#32) :
    s.write src a v = (s.put a (mergeWord a (s.get a) v)).markDirty a := by
  obtain ⟨⟨h4, -⟩, hmgt⟩ := place_plain a ha
  rw [s.write_taken src a v h4 ht, s.applyWrite_plain src a v ha hgo, s.storeWord_plain a v ha hn, State.mgtWrite_other _ _ _ _ hmgt]

theorem exec_registerWrite_word (s : State) (src : BusSrc) (a : Nat) (v : Word) (ha : a < 2 ^ 24) :
    exec (.registerWrite src (BitVec.ofNat 24 a) .word v) s = .next (s.write src a v) := by
  have hw : (BitVec.ofNat 24 a).toNat = a := by rw [BitVec.toNat_ofNat, Nat.mod_eq_of_lt ha]
  show Host.Outcome.next (s.busWrite src (BitVec.ofNat 24 a).toNat .word v) = _
  rw [hw, State.write]

/-- The effect that O6 states of a write, in every state in whose tick the device has latched no bit of the register. -/
theorem registerWrite_plain_sets_fields (s : State) (src : BusSrc) (v : Word) (a : Nat) (ha : a ∈ plainRegs) (ht : s.takes a v)
    (hgo : a = SCH_CANCEL → getFld v SCH_CANCEL_GO = 0) (hn : s.setNow a = 0#32) :
    ∃ t, exec (.registerWrite src (BitVec.ofNat 24 a) .word v) s = .next t
      ∧ (∀ r, regAt a = some r → ∀ f ∈ r.flds, f.ty = .RW → getFld (t.get a) ⟨a, f.lo, f.len⟩ = getFld v ⟨a, f.lo, f.len⟩)
      ∧ (∀ b, b ≠ a → t.get b = s.get b)
      ∧ t = { s with regs := t.regs, sys := { s.sys with dirty := t.sys.dirty } } := by
  obtain ⟨⟨-, hlt, -⟩, -⟩ := place_plain a ha
  refine ⟨_, exec_registerWrite_word s src a v (by omega), ?_⟩
  rw [s.write_plain src a v ha ht hgo hn]
  refine ⟨fun r hr f hm hf => ?_, fun b hb => ?_, ?_⟩
  · rw [State.get_markDirty, State.get_put_same]
    exact getFld_mergeWord_RW a _ v r hr (fieldsApart_plain a ha r hr) f hm hf
  · rw [State.get_markDirty, State.get_put_other s a b _ hb]
  · rcases State.markDirty_eq (s.put a (mergeWord a (s.get a) v)) a with h | h <;> rw [h] <;> rfl

/-! ### A plain register with a latched bit -/

/-- The state after reset with the timebase running, in whose tick the device has latched bit 3 of MGT_CASTADDR_LO. -/
def State.castAddrLatched : State :=
  State.latch { State.reset with tim := { State.reset.tim with run := true } } ⟨MGT_CASTADDR_LO, 3, 1⟩

theorem takes_castAddrLatched : State.castAddrLatched.takes MGT_CASTADDR_LO 0 := by
  decide +kernel

/-- The latched bit outlives the 0 that is written over it: ADDR then reads 1. -/
theorem castAddr_of_write_castAddrLatched :
    getFld ((State.castAddrLatched.write .pcie MGT_CASTADDR_LO 0).get MGT_CASTADDR_LO) MGT_CASTADDR_LO_ADDR = 1 := by
  decide +kernel

/-- MGT_CASTADDR_LO has the RW field ADDR. -/
theorem castAddr_RW : ∃ r, regAt MGT_CASTADDR_LO = some r ∧ ∃ f ∈ r.flds, f.ty = .RW
    ∧ (⟨MGT_CASTADDR_LO, f.lo, f.len⟩ : Fld) = MGT_CASTADDR_LO_ADDR :=
  ⟨_, rfl, _, List.mem_singleton_self _, rfl, rfl⟩

/-- Refutes O6: it speaks of every state, and so of one in whose tick the device has latched a bit of the register, which stays set
(R5). No operation of the model latches a bit of one of the ten; where none is latched the effect holds, by
`registerWrite_plain_sets_fields`. -/
theorem not_plainWriteSetsFields : ¬ Obligations.PlainWriteSetsFields := by
  unfold Obligations.PlainWriteSetsFields
  intro h
  obtain ⟨t, hexec, hfld, -⟩ := h State.castAddrLatched .pcie 0 MGT_CASTADDR_LO (List.mem_cons_self ..) takes_castAddrLatched
    (fun e => absurd e (by decide))
  rw [exec_registerWrite_word _ _ _ _ (by decide)] at hexec
  obtain rfl := Host.Outcome.next.inj hexec
  obtain ⟨r, hr, f, hm, hf, haddr⟩ := castAddr_RW
  have hread := hfld r hr f hm hf
  rw [haddr, castAddr_of_write_castAddrLatched] at hread
  exact absurd hread (by decide)

end Sys2Proof.Machine

/-! What a beat edge and a commit point leave before the stations act (R13, R17, R21). -/

namespace Sys2Proof.Machine

open Sys2Proof.Fields

/-! ### The beat edge and the commit point (R13, R17, R21) -/

theorem State.timeTo_eq (s : State) (t : Nat) :
    s.timeTo t = { s with tim := { s.tim with ts := max s.tim.ts t } } := by
  unfold State.timeTo
  split
  · rw [Nat.max_eq_right (by omega)]
  · rw [Nat.max_eq_left (by omega)]

/-- Asking for a shadow table's octets leaves the timebase. -/
theorem State.shadowAsk_tim (s : State) (t ofs len : Nat) : (s.shadowAsk t ofs len).tim = s.tim := by
  unfold State.shadowAsk
  split
  · rfl
  · unfold State.shadowStall
    split
    · rfl
    · rw [State.raise_tim, State.setFld_tim]

theorem State.shadowReread_tim (s : State) (b : Option Nat) : (s.shadowReread b).tim = s.tim := by
  unfold State.shadowReread
  split
  · rfl
  · generalize s.fwd.shMis = l
    clear * -
    induction l generalizing s with
    | nil => rfl
    | cons m l ih =>
      rw [List.foldl_cons, ih]
      split
      · exact State.shadowAsk_tim s _ _ _
      · rfl

theorem State.beat_setCount (s : State) (n : Nat) : (s.setFld TIM_BEATCNT_COUNT n).beat = n % 2 ^ 32 :=
  s.fld_setFld_same TIM_BEATCNT_COUNT n (by decide)

theorem State.beat_setValid (s : State) : (s.setFld TIM_BEATPOS_VALID 1).beat = s.beat :=
  s.fld_setFld_other_word TIM_BEATPOS_VALID TIM_BEATCNT_COUNT 1 (by decide)

theorem State.countEdge_tim (s : State) :
    s.countEdge.tim = { s.tim with last := s.tim.edge, edge := s.tim.edge + s.beatTicks } := by
  unfold State.countEdge
  cases s.toService <;> rfl

/-- The count that an edge leaves (R17). -/
theorem State.countEdge_beat (s : State) :
    s.countEdge.beat = if s.toService then s.countAt s.tim.edge else (s.beat + 1) % 2 ^ 32 := by
  unfold State.countEdge
  cases s.toService with
  | false =>
    simp only [Bool.false_eq_true, if_false, State.beat_setCount, beatAdd, Nat.mod_mod]
  | true =>
    simp only [if_true, State.beat_setValid, State.beat_setCount, State.countAt, Nat.mod_mod]

theorem State.countEdge_valid (s : State) (h : s.toService = true) : s.countEdge.fld TIM_BEATPOS_VALID = 1 := by
  unfold State.countEdge
  simp only [h, if_true]
  exact State.fld_setFld_same _ TIM_BEATPOS_VALID 1 (by decide)

theorem State.get_countEdge (s : State) (a : Nat) (h : a ≠ TIM_BEATCNT) (h' : a ≠ TIM_BEATPOS) : s.countEdge.get a = s.get a := by
  unfold State.countEdge
  cases s.toService with
  | false => exact State.get_setFld_other _ TIM_BEATCNT_COUNT _ _ h
  | true => exact (State.get_setFld_other _ TIM_BEATPOS_VALID _ _ h').trans (State.get_setFld_other _ TIM_BEATCNT_COUNT _ _ h)

/-- A commit point with no mode change waiting and no plan owed only brings the time on before it commits (R21). -/
theorem State.commitPoint_quiet (s : State) (htrans : s.sys.trans = .none) (howed : s.sch.owed = false) :
    s.commitPoint = State.commitBeat { s with tim := { s.tim with ts := max s.tim.ts (s.tim.edge - 73728) } } := by
  have hplan : s.planOwed = s := by simp [State.planOwed, howed]
  simp only [State.commitPoint, hplan, State.timeTo_eq, htrans, commitLead]

/-- A beat edge, from the state that the beat generator leaves (R13, R17). -/
theorem State.beatEdge_eq (s : State) (late : Bool) :
    s.beatEdge late =
      (let v := ((s.timeTo s.tim.edge).countEdge.shadowReread (some s.beat)).ticSource 5 (tickPs s.tim.edge)
       let w := v.stationsEdge (v.sfBeat v.tim.last == 0) s.toService late
       (if s.toService then w.openPlan else w.plan).dormantStep) := by
  have hlast : ((s.timeTo s.tim.edge).countEdge.shadowReread (some s.beat)).tim.last = s.tim.edge := by
    rw [State.shadowReread_tim, State.countEdge_tim, State.timeTo_eq]
  simp only [State.beatEdge, hlast]

/-- Settles O18: the state from which the stations act is the one that the beat generator leaves. -/
theorem beatEdgeCounts : Obligations.BeatEdgeCounts := by
  unfold Obligations.BeatEdgeCounts
  refine fun s => ⟨fun hb => ⟨fun late => ?_, ?_⟩, fun hb => ⟨fun late => ?_, fun htrans howed => ⟨_, rfl, ?_⟩⟩⟩
  · exact congrArg Host.Outcome.next (if_neg (Bool.eq_false_iff.mp hb))
  · exact congrArg Host.Outcome.next (if_neg (Bool.eq_false_iff.mp hb))
  · have htim := (s.timeTo s.tim.edge).countEdge_tim
    have hbeat := (s.timeTo s.tim.edge).countEdge_beat
    have hvalid := (s.timeTo s.tim.edge).countEdge_valid
    have hregs := (s.timeTo s.tim.edge).get_countEdge
    have hexec : exec (.beatEdge late) s = .next (s.beatEdge late) := congrArg Host.Outcome.next (if_pos hb)
    rw [State.beatEdge_eq] at hexec
    simp only [State.timeTo_eq] at htim hbeat hvalid hregs hexec
    exact ⟨_, _, s.toService, rfl, congrArg Tim.last htim, congrArg Tim.edge htim, congrArg Tim.ts htim, hbeat, hvalid,
      hregs, rfl, hexec⟩
  · exact congrArg Host.Outcome.next ((if_pos hb).trans (s.commitPoint_quiet htrans howed))

end Sys2Proof.Machine

/-! Reads that capture: what a read replies, and what the next read of a captured offset returns (R20, R190, R391, R452). -/

namespace Sys2Proof.Machine

open Sys2Proof.Fields Sys2Proof.Laws

/-! ### Captures (R20) -/

theorem find_tabInsert_same {β : Type} (a : Nat) (v : β) (m : List (Nat × β)) (h : ∀ p ∈ m, p.1 ≠ a) :
    (tabInsert a v m).find? (fun p => p.1 == a) = some (a, v) := by
  induction m with
  | nil => simp [tabInsert]
  | cons p r ih =>
    obtain ⟨hp, hr⟩ := List.forall_mem_cons.mp h
    by_cases hk : a < p.1
    · simp [tabInsert, hk]
    · simp [tabInsert, hk, hp, ih hr]

theorem find_tabInsert_other {β : Type} {a b : Nat} (hab : b ≠ a) (v : β) (m : List (Nat × β)) :
    (tabInsert a v m).find? (fun p => p.1 == b) = m.find? (fun p => p.1 == b) := by
  induction m with
  | nil => simp [tabInsert, hab.symm]
  | cons p r ih =>
    by_cases hk : a < p.1
    · simp [tabInsert, hk, hab.symm]
    · simp only [tabInsert, hk, if_false, List.find?_cons, ih]

theorem find_tabErase_other {β : Type} {a b : Nat} (hab : b ≠ a) (m : List (Nat × β)) :
    (tabErase a m).find? (fun p => p.1 == b) = m.find? (fun p => p.1 == b) := by
  induction m with
  | nil => rfl
  | cons p r ih =>
    by_cases hk : p.1 = a
    · simp [tabErase, hk, hab.symm, ih]
    · simp only [tabErase, hk, if_false, List.find?_cons, ih]

@[simp] theorem State.captured_capture_same (s : State) (a : Nat) (w : Word) : (s.capture a w).captured a = some w := by
  simp [State.captured, State.capture, find_tabInsert_same a w _ (tabErase_no_key a s.captures)]

theorem State.captured_capture_other (s : State) {a b : Nat} (w : Word) (h : b ≠ a) : (s.capture a w).captured b = s.captured b := by
  simp [State.captured, State.capture, find_tabInsert_other h, find_tabErase_other h]

/-! ### Reads of a device that answers (R4, R20) -/

/-- The device is in no condition in which a register may be silent (R67, R76). -/
abbrev State.answering (s : State) : Prop := s.mode ≠ modeDormant ∧ s.sys.phase ≠ .assay1Failed

/-- A captured word is what the next read returns. -/
theorem State.busRead_captured (s : State) (a : Nat) (w : Word) (hs : s.answering) (h4 : a % 4 = 0) (ht : a ≠ SEC_TRNG)
    (hc : s.captured a = some w) : s.busRead a = (w, s.release a) := by
  have e : a / 4 * 4 = a := by omega
  obtain ⟨hm, hp⟩ := hs
  simp only [State.busRead, e, beq_false_of_ne hm, beq_false_of_ne hp, Bool.false_and, Bool.false_eq_true, if_false, if_neg ht, hc]

/-- Without a capture pending, a read shows the register and has its effects. -/
theorem State.busRead_uncaptured (s : State) (a : Nat) (hs : s.answering) (h4 : a % 4 = 0) (ht : a ≠ SEC_TRNG)
    (hc : s.captured a = none) : s.busRead a = (s.readEffects a).viewFree a (s.view a) := by
  have e : a / 4 * 4 = a := by omega
  obtain ⟨hm, hp⟩ := hs
  simp only [State.busRead, e, beq_false_of_ne hm, beq_false_of_ne hp, Bool.false_and, Bool.false_eq_true, if_false, if_neg ht, hc]

/-- Offsets outside the windows of the radio chains and the lanes, where no read shows a figure of the environment. -/
abbrev outsideRadio (a : Nat) : Prop := ¬ (0x20000 ≤ a ∧ a < 0x30000) ∧ ¬ (0x50000 ≤ a ∧ a < 0x90000)

theorem State.uncastLane_outside (s : State) (a : Nat) (h : outsideRadio a) : s.uncastLane a = false := by
  obtain ⟨-, hl⟩ := h
  simp only [State.uncastLane, Bool.and_eq_false_iff, decide_eq_false_iff_not]
  omega

theorem State.viewFree_outside (s : State) (a : Nat) (w : Word) (h : outsideRadio a) : s.viewFree a w = (w, s) := by
  have hlane := s.uncastLane_outside a h
  obtain ⟨hf, hl⟩ := h
  have hbit : (if a / 0x80 % 2 = 0 then 0 else 1) ≤ 1 := by split <;> omega
  have hagc : a ≠ GNF_AGC (if a / 0x80 % 2 = 0 then 0 else 1) := by simp only [GNF_AGC]; omega
  have hstat : a ≠ GNF_STAT (if a / 0x80 % 2 = 0 then 0 else 1) := by simp only [GNF_STAT]; omega
  have hgain : ¬ (5 ≤ a / 0x10000 ∧ a / 0x10000 < 9 ∧ a % 0x10000 = 0x18) := by omega
  simp only [State.viewFree, if_neg hagc, if_neg hstat, hlane, Bool.false_eq_true, if_false, if_neg hgain]

theorem State.busRead_outside (s : State) (a : Nat) (hs : s.answering) (h4 : a % 4 = 0) (ht : a ≠ SEC_TRNG) (hr : outsideRadio a)
    (hc : s.captured a = none) : s.busRead a = (s.view a, s.readEffects a) := by
  rw [s.busRead_uncaptured a hs h4 ht hc]
  exact (s.readEffects a).viewFree_outside a _ hr

/-- A read whose only effect is to capture words replies with the word shown, and the next reads of the captured offsets return them. -/
theorem State.hostRead_captures (s : State) (src : BusSrc) (part : ReadPart) (c : Instr) (a : Nat) (w : Word)
    (caps later : List (Nat × Word)) (hexec : exec c s = .next (s.hostRead src part a)) (hon : s.sys.power = .on) (hs : s.answering)
    (h4 : a % 4 = 0) (ht : a ≠ SEC_TRNG) (hr : outsideRadio a)
    (hview : s.view a = w) (heff : s.readEffects a = { s with captures := caps })
    (hlater : ∀ p ∈ later, p.1 % 4 = 0 ∧ p.1 ≠ SEC_TRNG ∧ (s.readEffects a).captured p.1 = some p.2) (hc : s.captured a = none) :
    ∃ t, exec c s = .next t ∧ t.out = s.out ++ [readReply src w part]
      ∧ (∀ u : State, u.captures = t.captures → u.mode ≠ modeDormant → u.sys.phase ≠ .assay1Failed →
          ∀ p ∈ later, (u.busRead p.1).1 = p.2)
      ∧ t = { s with out := t.out, captures := t.captures } := by
  have hread : s.hostRead src part a = (s.readEffects a).emit (readReply src w part) := by
    simp [State.hostRead, hon, s.busRead_outside a hs h4 ht hr hc, hview]
  refine ⟨_, hexec, ?_, fun u hu hm hp p hmem => ?_, ?_⟩
  · rw [hread, heff]; rfl
  · obtain ⟨hp4, hpt, hcap⟩ := hlater p hmem
    have hucap : u.captured p.1 = some p.2 := by
      rw [← hcap]
      rw [hread] at hu
      simp only [State.captured, hu]; rfl
    rw [u.busRead_captured p.1 p.2 ⟨hm, hp⟩ hp4 hpt hucap]
  · rw [hread, heff]; rfl

/-! ### The four reads that capture (R20, R190, R391, R452) -/

theorem State.view_beatcnt (s : State) : s.view TIM_BEATCNT = s.get TIM_BEATCNT := by
  have hmask : readMask TIM_BEATCNT = BitVec.allOnes 32 := by decide
  have hview : s.view TIM_BEATCNT = s.get TIM_BEATCNT &&& readMask TIM_BEATCNT := by
    simp only [State.view, s.uncastLane_outside TIM_BEATCNT (by decide)]
    rfl
  rw [hview, hmask, BitVec.and_allOnes]

theorem State.view_now0 (s : State) : s.view TIM_NOW0 = BitVec.ofNat 32 (dtNs s.tim.ts) := by
  simp only [State.view, s.uncastLane_outside TIM_NOW0 (by decide)]
  rfl

theorem State.view_bkpTime (s : State) : s.view BKP_TIME = s.get BKP_TIME &&& readMask BKP_TIME := by
  simp only [State.view, s.uncastLane_outside BKP_TIME (by decide)]
  rfl

/-- A core's counters stand in its window, the low half of each first. -/
theorem State.view_counter (s : State) (c : Fin 16) (o : Nat) (ho : 0x1100 ≤ o) (ho' : o < 0x1280) :
    s.view (0x200000 + 0x10000 * c.val + o) = halfOfCnt (s.core c.val).pmu.cnt (o - 0x1100) := by
  have hc := c.isLt
  have hidx : (0x200000 + 0x10000 * c.val + o - 0x200000) / 0x10000 = c.val := by omega
  have hofs : (0x200000 + 0x10000 * c.val + o) % 0x10000 = o := by omega
  have hmsix : ¬ (0x101000 ≤ 0x200000 + 0x10000 * c.val + o ∧ 0x200000 + 0x10000 * c.val + o < 0x102000) := by omega
  have hpeer : ¬ (0xD1000 ≤ 0x200000 + 0x10000 * c.val + o ∧ 0x200000 + 0x10000 * c.val + o < 0xD1800) := by omega
  have hkeys : ¬ (0xC1000 ≤ 0x200000 + 0x10000 * c.val + o ∧ 0x200000 + 0x10000 * c.val + o < 0xC2000) := by omega
  have hcore : 0x200000 ≤ 0x200000 + 0x10000 * c.val + o ∧ 0x200000 + 0x10000 * c.val + o < 0x300000 := by omega
  simp only [State.view, s.uncastLane_outside _ (show outsideRadio (0x200000 + 0x10000 * c.val + o) by unfold outsideRadio; omega),
    Bool.false_eq_true, if_false, if_neg hmsix, if_neg hpeer, if_neg hkeys, if_pos hcore, hidx, hofs]
  simp only [State.viewCore, if_neg (show o ≠ 0 by omega), if_neg (show o ≠ 0x18 by omega), if_neg (show o ≠ 0x1008 by omega),
    if_pos (show 0x1100 ≤ o ∧ o < 0x1280 from ⟨ho, ho'⟩)]

theorem halfOfCnt_low (t : List (Nat × BitVec 48)) (k : Nat) : halfOfCnt t (8 * k) = BitVec.ofNat 32 (tabGet 0 t k).toNat := by
  simp [halfOfCnt, BitVec.ofNat_toNat, BitVec.setWidth_eq_extractLsb']

theorem halfOfCnt_high (t : List (Nat × BitVec 48)) (k : Nat) :
    halfOfCnt t (8 * k + 4) = BitVec.ofNat 32 ((tabGet 0 t k).toNat / 2 ^ 32) := by
  have hidx : (8 * k + 4) / 8 = k := by omega
  have hhigh : (8 * k + 4) % 8 ≠ 0 := by omega
  simp only [halfOfCnt, hidx, if_neg hhigh]

/-- A read of a counter's low half captures its high half (R391). -/
theorem State.readEffects_counter (s : State) (c : Fin 16) (k : Fin 48) :
    s.readEffects (0x201100 + 0x10000 * c.val + 8 * k.val)
      = s.capture (0x201104 + 0x10000 * c.val + 8 * k.val) (BitVec.ofNat 32 ((tabGet 0 (s.core c.val).pmu.cnt k.val).toNat / 2 ^ 32)) := by
  have hc := c.isLt
  have hk := k.isLt
  have hnext : 0x201100 + 0x10000 * c.val + 8 * k.val + 4 = 0x200000 + 0x10000 * c.val + (0x1104 + 8 * k.val) := by omega
  have hofs : 0x1104 + 8 * k.val - 0x1100 = 8 * k.val + 4 := by omega
  have hhigh : s.view (0x201100 + 0x10000 * c.val + 8 * k.val + 4)
      = BitVec.ofNat 32 ((tabGet 0 (s.core c.val).pmu.cnt k.val).toNat / 2 ^ 32) := by
    rw [hnext, s.view_counter c _ (by omega) (by omega), hofs, halfOfCnt_high]
  have hplace : 0x201100 + 0x10000 * c.val + 8 * k.val + 4 = 0x201104 + 0x10000 * c.val + 8 * k.val := by omega
  rw [hplace] at hhigh
  generalize ha : 0x201100 + 0x10000 * c.val + 8 * k.val = a at hplace
  have h1 : a ≠ TIM_BEATCNT := by simp only [TIM_BEATCNT]; omega
  have h2 : a ≠ TIM_NOW0 := by simp only [TIM_NOW0]; omega
  have h3 : a ≠ BKP_TIME := by simp only [BKP_TIME]; omega
  have hcnt : 0x200000 ≤ a ∧ a < 0x300000 ∧ 0x1100 ≤ a % 0x10000 ∧ a % 0x10000 < 0x1280 ∧ a % 8 = 0 := by omega
  simp only [State.readEffects, if_neg h1, if_neg h2, if_neg h3, if_pos hcnt, hplace, hhigh]

theorem State.pmuIdle_running (s : State) (c n : Nat) (hw : (s.core c).wait = false) (hh : (s.core c).halted = false) :
    s.pmuIdle c n = s := by
  simp [State.pmuIdle, hw, hh]

theorem State.captured_latchNow (s : State) : ∀ p ∈ s.nowWords, s.latchNow.captured p.1 = some p.2 := by
  simp [State.latchNow, State.nowWords, State.captured_capture_other, TIM_NOW1, TIM_NOW2, TIM_TSLO, TIM_TSHI]

/-- The offsets of the words that a read of TIM_NOW0 captures. -/
theorem State.nowWords_place (s : State) : ∀ p ∈ s.nowWords, p.1 % 4 = 0 ∧ p.1 ≠ SEC_TRNG := by
  have hofs : ∀ a ∈ s.nowWords.map (·.1), a % 4 = 0 ∧ a ≠ SEC_TRNG := by
    show ∀ a ∈ [TIM_NOW1, TIM_NOW2, TIM_TSLO, TIM_TSHI], a % 4 = 0 ∧ a ≠ SEC_TRNG
    decide
  exact fun p hp => hofs p.1 (List.mem_map_of_mem hp)

/-- Settles O7: each of the four reads only captures, and a later read of a captured offset returns what was captured. -/
theorem firstHalfReadCaptures : Obligations.FirstHalfReadCaptures := by
  unfold Obligations.FirstHalfReadCaptures
  intro s src part hon hmode hphase
  have hcaps (c a w caps later) (hexec : exec c s = .next (s.hostRead src part a)) :=
    s.hostRead_captures src part c a w caps later hexec hon ⟨hmode, hphase⟩
  have hone (t : State) (a : Nat) (w : Word) (h4 : a % 4 = 0) (ht : a ≠ SEC_TRNG) :
      ∀ p ∈ [(a, w)], p.1 % 4 = 0 ∧ p.1 ≠ SEC_TRNG ∧ (t.capture a w).captured p.1 = some p.2 :=
    List.forall_mem_singleton.mpr ⟨h4, ht, t.captured_capture_same a w⟩
  refine ⟨hcaps _ TIM_BEATCNT _ _ _ rfl (by decide) (by decide) (by decide) s.view_beatcnt rfl ?beatcnt,
    hcaps _ TIM_NOW0 _ _ _ rfl (by decide) (by decide) (by decide) s.view_now0 rfl ?now,
    hcaps _ BKP_TIME _ _ _ rfl (by decide) (by decide) (by decide) s.view_bkpTime rfl ?rtc, fun c k n hw hh => ?counter⟩
  case beatcnt => exact hone s TIM_BEATPOS _ (by decide) (by decide)
  case now => exact fun p hp => ⟨(s.nowWords_place p hp).1, (s.nowWords_place p hp).2, s.captured_latchNow p hp⟩
  case rtc => exact hone s BKP_DATE _ (by decide) (by decide)
  case counter =>
    have hexec : exec (.pmuCounterRead src part c k n) s = .next (s.hostRead src part (0x201100 + 0x10000 * c.val + 8 * k.val)) :=
      congrArg (fun u : State => Host.Outcome.next (u.hostRead src part _)) (s.pmuIdle_running c.val n hw hh)
    have heff := s.readEffects_counter c k
    have hplace : 0x201100 + 0x10000 * c.val + 8 * k.val = 0x200000 + 0x10000 * c.val + (0x1100 + 8 * k.val) := by omega
    have hview : s.view (0x201100 + 0x10000 * c.val + 8 * k.val) = BitVec.ofNat 32 (tabGet 0 (s.core c.val).pmu.cnt k.val).toNat := by
      rw [hplace, s.view_counter c _ (by omega) (by omega), Nat.add_sub_cancel_left, halfOfCnt_low]
    have hc := c.isLt
    have hk := k.isLt
    refine hcaps _ _ _ _ _ hexec (by omega) (by simp only [SEC_TRNG]; omega) (by unfold outsideRadio; omega) hview heff ?_
    rw [heff]
    exact hone s _ _ (by omega) (by simp only [SEC_TRNG]; omega)

end Sys2Proof.Machine

/-! What raising an event adds: one count of its own, outputs behind those that stand, and nothing in the queues (R431 to R435). -/

namespace Sys2Proof.Machine

open Sys2Proof.Fields Sys2Proof.Laws

/-! ### Counts -/

/-- A saturating counter counts once. -/
theorem State.fld_count_same (s : State) (f : Fld) (h : f.lo + f.len ≤ 32) :
    (s.count f).fld f = min (s.fld f + 1) (2 ^ f.len - 1) := by
  have hpos : 0 < 2 ^ f.len := Nat.two_pow_pos _
  rw [State.count, State.addSat, s.fld_setFld_same f _ h, Nat.mod_eq_of_lt (by omega)]

theorem State.fld_count_other_word (s : State) (f g : Fld) (h : g.addr ≠ f.addr) : (s.count f).fld g = s.fld g :=
  s.fld_setFld_other_word f g _ h

/-! ### What an event does beside its count (R431 to R435) -/

/-- Offsets of no register that the delivery of an event changes: the pending vectors, the record counts, the count of EVENT-LOSS and the
cores' FIFO counts. -/
def besideSignals (a : Nat) : Prop :=
  a ≠ msixPending ∧ a ≠ HST_ERSTAT ∧ a ≠ HST_EVSEQ ∧ a ≠ (routeCount 246).addr ∧ ∀ c, c < 16 → a ≠ CHB_CEVQ c

/-- `t` follows from `s` by the delivery of events: outputs are only added, and the queues and most registers stay. -/
structure State.Signals (s t : State) : Prop where
  out : s.out <+: t.out
  queues : t.hst.queues = s.hst.queues
  regs : ∀ a, besideSignals a → t.get a = s.get a

theorem State.Signals.refl (s : State) : s.Signals s := ⟨List.prefix_rfl, rfl, fun _ _ => rfl⟩

theorem State.Signals.trans {s t u : State} (h : s.Signals t) (h' : t.Signals u) : s.Signals u :=
  ⟨h.out.trans h'.out, h'.queues.trans h.queues, fun a ha => (h'.regs a ha).trans (h.regs a ha)⟩

theorem State.signals_put (s : State) (a : Nat) (w : Word) (h : ¬ besideSignals a) : s.Signals (s.put a w) :=
  ⟨List.prefix_rfl, rfl, fun b hb => s.get_put_other a b w (fun e => h (e ▸ hb))⟩

theorem State.signals_emit (s : State) (o : Out) : s.Signals (s.emit o) := ⟨List.prefix_append _ _, rfl, fun _ _ => rfl⟩

theorem State.signals_hst (s : State) (h : Hst) (hq : h.queues = s.hst.queues) : s.Signals { s with hst := h } :=
  ⟨List.prefix_rfl, hq, fun _ _ => rfl⟩

theorem State.signals_setCore (s : State) (c : Nat) (x : Core) : s.Signals (s.setCore c x) := ⟨List.prefix_rfl, rfl, fun _ _ => rfl⟩

theorem State.signals_setPending (s : State) (v : Nat) (b : Bool) : s.Signals (s.setPending v b) :=
  s.signals_put _ _ (fun h => h.1 rfl)

theorem State.signals_sendVector (s : State) (v : Nat) : s.Signals (s.sendVector v) := by
  have h := (s.signals_setPending v false).trans (State.signals_emit _ (.msix v))
  unfold State.sendVector
  dsimp only
  split
  · exact h
  · exact h.trans (State.signals_hst _ _ rfl)

theorem State.signals_signalVector (s : State) (v : Nat) : s.Signals (s.signalVector v) := by
  unfold State.signalVector
  split
  · exact s.signals_setPending v true
  · exact s.signals_sendVector v

theorem State.signals_eventVector (s : State) (id : Nat) : s.Signals (s.eventVector id) := by
  unfold State.eventVector
  split
  · exact s.signals_signalVector _
  · exact .refl s

theorem State.signals_toCore (s : State) (c id data : Nat) (hc : c < 16) : s.Signals (s.toCore c id data) := by
  unfold State.toCore
  split
  · exact .refl s
  · split
    · exact s.signals_setCore c _
    · exact s.signals_put _ _ (fun h => h.2.2.2.2 c hc rfl)

theorem State.signals_routeCores (s : State) (w : Word) (id data : Nat) : s.Signals (s.routeCores w id data) := by
  have key (l : List Nat) (hl : ∀ c ∈ l, c < 16) (t : State) :
      t.Signals (l.foldl (fun s c => if w.getLsbD (16 + c) then s.toCore c id data else s) t) := by
    induction l generalizing t with
    | nil => exact .refl t
    | cons c l ih =>
      obtain ⟨hc, hl⟩ := List.forall_mem_cons.mp hl
      rw [List.foldl_cons]
      refine State.Signals.trans ?_ (ih hl _)
      split
      · exact t.signals_toCore c id data hc
      · exact .refl t
  exact key _ (fun c hc => List.mem_range.mp hc) s

theorem State.signals_countEvent (s : State) (id data : Nat) : (s.count (routeCount id)).Signals (s.countEvent id data) :=
  State.signals_routeCores _ _ _ _

theorem State.signals_dropRecord (s : State) (id : Nat) : s.Signals (s.dropRecord id) := by
  have hlost : s.Signals { s.count HST_ERSTAT_LOST with hst := { s.hst with evLost := s.hst.evLost + 1, evFull := true } } :=
    (s.signals_put HST_ERSTAT _ (fun h => h.2.1 rfl)).trans (State.signals_hst _ _ rfl)
  have hloss (u : State) : u.Signals (u.countEvent 246 0) :=
    (u.signals_put (routeCount 246).addr _ (fun h => h.2.2.2.1 rfl)).trans (u.signals_countEvent 246 0)
  unfold State.dropRecord
  dsimp only
  refine State.Signals.trans ?_ (State.signals_eventVector _ id)
  split
  · exact hlost.trans (hloss _)
  · exact hlost

theorem State.signals_generateRecord (s : State) (id data : Nat) : s.Signals (s.generateRecord id data) := by
  have hseq : s.Signals s.takeSeq.2 := s.signals_put HST_EVSEQ _ (fun h => h.2.2.1 rfl)
  unfold State.generateRecord
  dsimp only
  split
  · exact hseq.trans (State.signals_hst _ _ rfl)
  · exact hseq.trans (State.signals_dropRecord _ id)

/-- An event counts, and is then delivered. -/
theorem State.signals_raise (s : State) (id data : Nat) : (s.count (routeCount id)).Signals (s.raise id data) := by
  have hcount := s.signals_countEvent id data
  unfold State.raise
  dsimp only
  split
  · exact hcount
  · split
    · exact hcount.trans (State.signals_generateRecord _ id data)
    · exact hcount.trans (State.signals_eventVector _ id)

/-- Raising an event only adds outputs. -/
theorem State.raise_out (s : State) (id data : Nat) : s.out <+: (s.raise id data).out := (s.signals_raise id data).out

theorem State.raise_queue (s : State) (id data q : Nat) : (s.raise id data).queue q = s.queue q :=
  congrArg (tabGet HQueue.cold · q) (s.signals_raise id data).queues

theorem besideSignals_routeCount (id : Nat) (h : id ≠ 246) : besideSignals (routeCount id).addr := by
  refine ⟨?_, ?_, ?_, ?_, fun c hc => ?_⟩ <;> simp only [routeCount, msixPending, HST_ERSTAT, HST_EVSEQ, CHB_CEVQ] <;> omega

/-- An event other than EVENT-LOSS counts once at each raise (R431). -/
theorem State.fld_routeCount_raise (s : State) (id data : Nat) (h : id ≠ 246) :
    (s.raise id data).fld (routeCount id) = min (s.fld (routeCount id) + 1) 0xFFFFFFFF := by
  rw [State.fld_of_get _ ((s.signals_raise id data).regs _ (besideSignals_routeCount id h))]
  exact s.fld_count_same (routeCount id) (by simp [routeCount])

end Sys2Proof.Machine

/-! Accesses to the banks: what a read and a write return, store and count, and what every access leaves alone (R400, R403, R406). -/

namespace Sys2Proof.Machine

open Sys2Proof.Fields Sys2Proof.Laws

/-! ### What an access to the banks leaves alone -/

/-- Registers of the stations before MEM, and the owners of the banks: no access to the banks changes them. -/
def besideAccess (a : Nat) : Prop := a < 0xF0000 ∨ (0xF0100 ≤ a ∧ a < 0xF0400)

/-- `t` follows from `s` by served accesses to the banks. -/
structure State.Serves (s t : State) : Prop where
  out : s.out <+: t.out
  handover : t.mem.handover = s.mem.handover
  power : t.sys.power = s.sys.power
  regs : ∀ a, besideAccess a → t.get a = s.get a

theorem State.Serves.refl (s : State) : s.Serves s := ⟨List.prefix_rfl, rfl, rfl, fun _ _ => rfl⟩

theorem State.Serves.trans {s t u : State} (h : s.Serves t) (h' : t.Serves u) : s.Serves u :=
  ⟨h.out.trans h'.out, h'.handover.trans h.handover, h'.power.trans h.power, fun a ha => (h'.regs a ha).trans (h.regs a ha)⟩

theorem State.Serves.fld {s t : State} (h : s.Serves t) (f : Fld) (hf : besideAccess f.addr) : t.fld f = s.fld f :=
  State.fld_of_get f (h.regs f.addr hf)

theorem State.Serves.mode {s t : State} (h : s.Serves t) : t.mode = s.mode := h.fld MGT_MODE_MODE (.inl (by decide))

theorem State.Serves.owner {s t : State} (h : s.Serves t) (b : Nat) (hb : b < bankCount) : t.owner b = s.owner b :=
  h.fld (MEM_BANK_OWN_OWNER b) (.inr (by simp only [MEM_BANK_OWN_OWNER, MEM_BANK_OWN, bankCount] at *; omega))

theorem State.Serves.mayAccess {s t : State} (h : s.Serves t) (o b : Nat) : t.mayAccess o b = s.mayAccess o b := by
  by_cases hb : b < bankCount
  · have hfence : t.fenced b = s.fenced b := by
      have hfld : t.fld (MEM_BANK_OWN_FENCED b) = s.fld (MEM_BANK_OWN_FENCED b) :=
        h.fld _ (.inr (by simp only [MEM_BANK_OWN_FENCED, MEM_BANK_OWN, bankCount] at *; omega))
      simp only [State.fenced, State.isSet, hfld]
    have hnew : t.newOwner b = s.newOwner b := by simp only [State.newOwner, h.handover]
    simp only [State.mayAccess, hfence, hnew, h.owner b hb]
  · simp only [State.mayAccess, hb, decide_false, Bool.false_and]

theorem State.Serves.firstRefused {s t : State} (h : s.Serves t) (o a n : Nat) : t.firstRefused o a n = s.firstRefused o a n := by
  simp only [State.firstRefused, h.mayAccess]

theorem State.Serves.bar2Up {s t : State} (h : s.Serves t) : t.bar2Up = s.bar2Up := by
  simp only [State.bar2Up, h.power, h.mode]

theorem State.serves_put (s : State) (a : Nat) (w : Word) (h : ¬ besideAccess a) : s.Serves (s.put a w) :=
  ⟨List.prefix_rfl, rfl, rfl, fun b hb => s.get_put_other a b w (fun e => h (e ▸ hb))⟩

theorem quietAddr_of_besideAccess (a : Nat) (h : besideAccess a) : quietAddr a := by
  unfold besideAccess at h; unfold quietAddr; omega

theorem State.serves_raise (s : State) (id data : Nat) (h : id < 256) : s.Serves (s.raise id data) :=
  ⟨s.raise_out id data, by rw [State.raise_mem], by rw [State.raise_sys],
    fun a ha => s.get_raise id data a h (quietAddr_of_besideAccess a ha)⟩

theorem State.serves_raiseLimited (s : State) (key id data : Nat) (h : id < 256) : s.Serves (s.raiseLimited key id data) := by
  unfold State.raiseLimited
  split
  · have hnote : s.Serves (s.noteRaise key) := ⟨List.prefix_rfl, rfl, rfl, fun _ _ => rfl⟩
    exact hnote.trans (State.serves_raise _ id data h)
  · exact .refl s

/-- Registers of MEM that count and capture errors. -/
theorem not_besideAccess_mem : ¬ besideAccess MEM_CECNT ∧ ¬ besideAccess MEM_UECNT ∧ ¬ besideAccess MEM_UEADDR
    ∧ ¬ besideAccess MEM_ECCINJ ∧ ∀ b, ¬ besideAccess (MEM_BANK_STAT b) := by
  refine ⟨?_, ?_, ?_, ?_, fun b => ?_⟩ <;> unfold besideAccess
  iterate 4 decide
  simp only [MEM_BANK_STAT]; omega

theorem State.serves_countCe (s : State) (w : Nat) : s.Serves (s.countCe w) := by
  obtain ⟨hce, -, -, -, hstat⟩ := not_besideAccess_mem
  exact ((s.serves_put _ _ hce).trans (State.serves_put _ _ _ (hstat (w / 32768)))).trans
    (State.serves_raiseLimited _ 233 233 0 (by decide))

theorem State.serves_countUe (s : State) (w o : Nat) (sc : Bool) : s.Serves (s.countUe w o sc) := by
  obtain ⟨-, hue, haddr, -, hstat⟩ := not_besideAccess_mem
  have hset (u : State) (v : Word) : u.Serves (u.put MEM_UEADDR v) := u.serves_put _ v haddr
  exact ((((((s.serves_put _ _ hue).trans (State.serves_put _ _ _ (hstat (w / 32768)))).trans (hset _ _)).trans (hset _ _)).trans
    (hset _ _)).trans (hset _ _)).trans (State.serves_raise _ 234 0 (by decide))

/-! ### Reads (R400) -/

/-- A word without inverted bits reads with no effect. -/
theorem State.readWord_clean (s : State) (o : Nat) (sc : Bool) (w : Nat) (h : eccWeight (s.eccMask w) = 0) :
    s.readWord o sc w = (true, s) := by
  simp only [State.readWord, h]

theorem State.readWord_corrected (s : State) (o : Nat) (sc : Bool) (w : Nat) (h : eccWeight (s.eccMask w) = 1) :
    s.readWord o sc w = (true, s.countCe w) := by
  simp only [State.readWord, h]

theorem State.readWord_uncorrectable (s : State) (o : Nat) (sc : Bool) (w : Nat) (h : 2 ≤ eccWeight (s.eccMask w)) :
    s.readWord o sc w = (false, s.countUe w o sc) := by
  unfold State.readWord
  split
  · omega
  · omega
  · rfl

/-- A read tells whether the word can be corrected, and leaves what an access leaves. -/
theorem State.readWord_serves (s : State) (o : Nat) (sc : Bool) (w : Nat) :
    (s.readWord o sc w).1 = decide (eccWeight (s.eccMask w) ≤ 1) ∧ s.Serves (s.readWord o sc w).2 := by
  obtain h | h | h : eccWeight (s.eccMask w) = 0 ∨ eccWeight (s.eccMask w) = 1 ∨ 2 ≤ eccWeight (s.eccMask w) := by omega
  · rw [s.readWord_clean o sc w h]; exact ⟨by simp [h], .refl s⟩
  · rw [s.readWord_corrected o sc w h]; exact ⟨by simp [h], s.serves_countCe w⟩
  · rw [s.readWord_uncorrectable o sc w h]; exact ⟨by simp; omega, s.serves_countUe w o sc⟩

theorem State.eccMask_of_mem {s t : State} (h : t.mem = s.mem) (w : Nat) : t.eccMask w = s.eccMask w := by
  simp only [State.eccMask, h]

theorem State.cell_of_mem {s t : State} (h : t.mem = s.mem) (x : Nat) : t.cell x = s.cell x := by
  simp only [State.cell, h]

theorem State.cells_of_mem {s t : State} (h : t.mem = s.mem) (a n : Nat) : t.cells a n = s.cells a n := by
  simp only [State.cells, State.cell, h]

theorem State.readWords_clean (s : State) (o : Nat) (ws : List Nat) (h : ∀ w ∈ ws, eccWeight (s.eccMask w) = 0) :
    s.readWords o ws = (true, s) := by
  induction ws with
  | nil => rfl
  | cons w ws ih =>
    obtain ⟨hw, hws⟩ := List.forall_mem_cons.mp h
    simp only [State.readWords, s.readWord_clean o false w hw, ih hws, Bool.and_self]

theorem State.readWords_serves (s : State) (o : Nat) (ws : List Nat) :
    (s.readWords o ws).1 = ws.all (fun w => decide (eccWeight (s.eccMask w) ≤ 1)) ∧ s.Serves (s.readWords o ws).2 := by
  induction ws generalizing s with
  | nil => exact ⟨rfl, .refl s⟩
  | cons w ws ih =>
    obtain ⟨hok, hserve⟩ := s.readWord_serves o false w
    obtain ⟨hoks, hserves⟩ := ih (s.readWord o false w).2
    have hmask (v : Nat) := State.eccMask_of_mem (s.readWord_mem o false w) v
    simp only [State.readWords, List.all_cons]
    exact ⟨by rw [hok, hoks]; simp only [hmask], hserve.trans hserves⟩

/-- A read that no bank refuses: the octets where every word can be corrected. -/
theorem State.bankRead_served (s : State) (o a n : Nat) (h : s.firstRefused o a n = none) :
    s.bankRead o a n = (if (wordsOf a n).all (fun w => decide (eccWeight (s.eccMask w) ≤ 1)) then .ok (s.cells a n) else .uncorrectable,
      (s.readWords o (wordsOf a n)).2) := by
  simp only [State.bankRead, h]
  rw [(s.readWords_serves o (wordsOf a n)).1, State.cells_of_mem (s.readWords_mem o (wordsOf a n))]

theorem State.bankRead_clean (s : State) (o a n : Nat) (h : s.firstRefused o a n = none)
    (hw : ∀ w ∈ wordsOf a n, eccWeight (s.eccMask w) = 0) : s.bankRead o a n = (.ok (s.cells a n), s) := by
  simp only [State.bankRead, h, s.readWords_clean o _ hw, if_true]

/-! ### The words and banks of a range -/

theorem mem_rangeFrom (k m x : Nat) : x ∈ (List.range m).map (· + k) ↔ k ≤ x ∧ x < k + m := by
  simp only [List.mem_map, List.mem_range]
  exact ⟨fun ⟨i, hi, e⟩ => by omega, fun h => ⟨x - k, by omega, by omega⟩⟩

theorem mem_wordsOf (a n w : Nat) : w ∈ wordsOf a n ↔ 8 * w < a + n ∧ a < 8 * w + 8 ∧ 0 < n := by
  unfold wordsOf
  split
  · simp; omega
  · rw [mem_rangeFrom]; omega

theorem nodup_wordsOf (a n : Nat) : (wordsOf a n).Nodup := by
  unfold wordsOf
  split
  · exact List.nodup_nil
  · exact List.nodup_range.map (fun _ _ h => Nat.add_right_cancel h)

theorem mem_banksOf (a n b : Nat) : b ∈ banksOf a n ↔ bankSize * b < a + n ∧ a < bankSize * b + bankSize ∧ 0 < n := by
  unfold banksOf
  split
  · simp; omega
  · rw [mem_rangeFrom]; simp only [bankSize]; omega

/-- Octets within others touch none but their words. -/
theorem wordsOf_within (a n c m : Nat) (h : a ≤ c) (h' : c + m ≤ a + n) : ∀ w ∈ wordsOf c m, w ∈ wordsOf a n := by
  intro w hw
  rw [mem_wordsOf] at hw ⊢
  omega

theorem State.firstRefused_eq_none (s : State) (o a n : Nat) :
    s.firstRefused o a n = none ↔ ∀ b ∈ banksOf a n, s.mayAccess o b = true := by
  simp [State.firstRefused]

theorem State.firstRefused_within (s : State) (o a n c m : Nat) (h : a ≤ c) (h' : c + m ≤ a + n) (hn : s.firstRefused o a n = none) :
    s.firstRefused o c m = none := by
  rw [State.firstRefused_eq_none] at hn ⊢
  refine fun b hb => hn b ?_
  rw [mem_banksOf] at hb ⊢
  omega

/-! ### Writes (R400) -/

theorem State.eccMask_setEcc_same (s : State) (w m : Nat) : (s.setEcc w m).eccMask w = m := tabGet_set_same 0 w m s.mem.ecc

theorem State.eccMask_setEcc_other (s : State) (w m v : Nat) (h : v ≠ w) : (s.setEcc w m).eccMask v = s.eccMask v :=
  tabGet_set_other 0 0 h m s.mem.ecc

/-- An injection inverts bits of the word that is written, and no other. -/
theorem State.inject_effect (s : State) (w : Nat) :
    s.Serves (s.inject w) ∧ (∀ x, (s.inject w).cell x = s.cell x) ∧ ∀ v, v ≠ w → (s.inject w).eccMask v = s.eccMask v := by
  obtain ⟨-, -, -, hinj, -⟩ := not_besideAccess_mem
  unfold State.inject
  split
  · refine ⟨?_, fun x => rfl, fun v hv => s.eccMask_setEcc_other w _ v hv⟩
    have hset (m : Nat) : s.Serves (s.setEcc w m) := ⟨List.prefix_rfl, rfl, rfl, fun _ _ => rfl⟩
    exact (hset _).trans (State.serves_put _ _ _ hinj)
  · exact ⟨.refl s, fun _ => rfl, fun _ _ => rfl⟩

/-- The octets of a block that fall into word `w`, stored where they belong. -/
def State.storePart (s : State) (a : Nat) (bs : List Byte) (w : Nat) : State :=
  let lo := max a (8 * w)
  (s.storeBlock lo ((bs.drop (lo - a)).take (min (a + bs.length) (8 * w + 8) - lo))).setEcc w 0

theorem State.cell_storePart (s : State) (a : Nat) (bs : List Byte) (w x : Nat) :
    (s.storePart a bs w).cell x = if (a ≤ x ∧ x < a + bs.length) ∧ x / 8 = w then bs.getD (x - a) 0#8 else s.cell x := by
  have hstore := s.cell_storeBlock (max a (8 * w))
    ((bs.drop (max a (8 * w) - a)).take (min (a + bs.length) (8 * w + 8) - max a (8 * w))) x
  refine hstore.trans ?_
  simp only [List.length_take, List.length_drop]
  by_cases hx : (a ≤ x ∧ x < a + bs.length) ∧ x / 8 = w
  · rw [if_pos (by omega), if_pos hx]
    simp only [List.getD_eq_getElem?_getD]
    rw [List.getElem?_take_of_lt (by omega), List.getElem?_drop]
    congr 2
    omega
  · rw [if_neg (by omega), if_neg hx]

theorem State.serves_storePart (s : State) (a : Nat) (bs : List Byte) (w : Nat) : s.Serves (s.storePart a bs w) :=
  ⟨List.prefix_rfl, rfl, rfl, fun _ _ => rfl⟩

/-- A write that reaches a word which is whole or can be corrected stores its octets of that word. -/
theorem State.writeWord_correctable (s : State) (o a : Nat) (bs : List Byte) (w : Nat) (h : eccWeight (s.eccMask w) ≤ 1) :
    s.Serves (s.writeWord o a bs w)
    ∧ (∀ x, (s.writeWord o a bs w).cell x = if (a ≤ x ∧ x < a + bs.length) ∧ x / 8 = w then bs.getD (x - a) 0#8 else s.cell x)
    ∧ (∀ v, v ≠ w → (s.writeWord o a bs w).eccMask v = s.eccMask v)
    ∧ (bs.length < 8 → (s.writeWord o a bs w).eccMask w = 0) := by
  obtain ⟨hok, hserve⟩ := s.readWord_serves o false w
  have hmem := s.readWord_mem o false w
  by_cases hfull : min (a + bs.length) (8 * w + 8) - max a (8 * w) = 8
  · have hw : s.writeWord o a bs w = (s.storePart a bs w).inject w := by
      simp only [State.writeWord, if_pos hfull, State.storePart]
    obtain ⟨hinj, hcell, hecc⟩ := (s.storePart a bs w).inject_effect w
    rw [hw]
    exact ⟨(s.serves_storePart a bs w).trans hinj, fun x => (hcell x).trans (s.cell_storePart a bs w x),
      fun v hv => (hecc v hv).trans (State.eccMask_setEcc_other _ w 0 v hv), fun hlen => by omega⟩
  · have hw : s.writeWord o a bs w = (s.readWord o false w).2.storePart a bs w := by
      simp only [State.writeWord, if_neg hfull, hok, h, decide_true, if_true, State.storePart]
    rw [hw]
    exact ⟨hserve.trans (State.serves_storePart _ a bs w),
      fun x => by rw [State.cell_storePart, State.cell_of_mem hmem],
      fun v hv => (State.eccMask_setEcc_other _ w 0 v hv).trans (State.eccMask_of_mem hmem v),
      fun _ => State.eccMask_setEcc_same _ w 0⟩

theorem State.writeWords_correctable (s : State) (o a : Nat) (bs : List Byte) (ws : List Nat) (hd : ws.Nodup)
    (h : ∀ w ∈ ws, eccWeight (s.eccMask w) ≤ 1) :
    s.Serves (ws.foldl (fun s w => s.writeWord o a bs w) s)
    ∧ (∀ x, (ws.foldl (fun s w => s.writeWord o a bs w) s).cell x =
        if (a ≤ x ∧ x < a + bs.length) ∧ x / 8 ∈ ws then bs.getD (x - a) 0#8 else s.cell x)
    ∧ (∀ v, v ∉ ws → (ws.foldl (fun s w => s.writeWord o a bs w) s).eccMask v = s.eccMask v)
    ∧ (bs.length < 8 → ∀ v ∈ ws, (ws.foldl (fun s w => s.writeWord o a bs w) s).eccMask v = 0) := by
  induction ws generalizing s with
  | nil => exact ⟨.refl s, fun x => by simp, fun _ _ => rfl, fun _ v hv => absurd hv List.not_mem_nil⟩
  | cons w ws ih =>
    obtain ⟨hw, hws⟩ := List.forall_mem_cons.mp h
    obtain ⟨hnew, hd⟩ := List.nodup_cons.mp hd
    obtain ⟨hserve, hcell, hecc, hzero⟩ := s.writeWord_correctable o a bs w hw
    have hws' : ∀ v ∈ ws, eccWeight ((s.writeWord o a bs w).eccMask v) ≤ 1 := fun v hv => by
      rw [hecc v (fun e => hnew (e ▸ hv))]; exact hws v hv
    obtain ⟨hserves, hcells, heccs, hzeros⟩ := ih (s.writeWord o a bs w) hd hws'
    rw [List.foldl_cons]
    refine ⟨hserve.trans hserves, fun x => ?_, fun v hv => ?_, fun hlen v hv => ?_⟩
    · rw [hcells, hcell]
      by_cases hx : a ≤ x ∧ x < a + bs.length <;> by_cases hxw : x / 8 = w <;> simp [hx, hxw]
    · obtain ⟨hvw, hv⟩ := not_or.mp (mt List.mem_cons.mpr hv)
      rw [heccs v hv, hecc v hvw]
    · rcases List.mem_cons.mp hv with rfl | hv
      · rw [heccs v hnew, hzero hlen]
      · exact hzeros hlen v hv

/-- A write that no bank refuses and that meets no uncorrectable word stores its octets and no others. -/
theorem State.bankWrite_served (s : State) (o a : Nat) (bs : List Byte) (h : s.firstRefused o a bs.length = none)
    (hw : ∀ w ∈ wordsOf a bs.length, eccWeight (s.eccMask w) ≤ 1) :
    s.Serves (s.bankWrite o a bs).2
    ∧ (∀ x, (s.bankWrite o a bs).2.cell x = if a ≤ x ∧ x < a + bs.length then bs.getD (x - a) 0#8 else s.cell x)
    ∧ (∀ v, v ∉ wordsOf a bs.length → (s.bankWrite o a bs).2.eccMask v = s.eccMask v)
    ∧ (bs.length < 8 → ∀ v ∈ wordsOf a bs.length, (s.bankWrite o a bs).2.eccMask v = 0) := by
  obtain ⟨hserves, hcells, heccs, hzeros⟩ := s.writeWords_correctable o a bs _ (nodup_wordsOf a bs.length) hw
  simp only [State.bankWrite, h]
  refine ⟨hserves, fun x => ?_, heccs, hzeros⟩
  rw [hcells]
  by_cases hx : a ≤ x ∧ x < a + bs.length
  · rw [if_pos ⟨hx, (mem_wordsOf a bs.length _).mpr (by omega)⟩, if_pos hx]
  · rw [if_neg (fun h => hx h.1), if_neg hx]

/-- Octets that read as a list's, as that list. -/
theorem State.cells_eq (s : State) (a : Nat) (bs : List Byte)
    (h : ∀ x, a ≤ x → x < a + bs.length → s.cell x = bs.getD (x - a) 0#8) :
    s.cells a bs.length = bs := by
  refine List.ext_getElem (by simp [State.cells]) (fun i hi hi' => ?_)
  have hcell := h (a + i) (by omega) (by omega)
  rw [Nat.add_sub_cancel_left, List.getD_eq_getElem _ _ hi'] at hcell
  simpa [State.cells] using hcell

/-- A block that a write has stored reads back, and the octets around it stay. -/
theorem State.stored_of_cell (s t : State) (a n : Nat) (bs : List Byte) (hlen : bs.length = n)
    (h : ∀ x, t.cell x = if a ≤ x ∧ x < a + n then bs.getD (x - a) 0#8 else s.cell x) :
    t.cells a n = bs ∧ ∀ x, x < a ∨ a + n ≤ x → t.cell x = s.cell x := by
  subst hlen
  exact ⟨t.cells_eq a bs fun x hx hx' => by rw [h, if_pos ⟨hx, hx'⟩], fun x hx => by rw [h, if_neg (by omega)]⟩

/-! ### Refused accesses (R406) -/

/-- MEM_NOWN captures an access that meets PEND = 0. -/
theorem State.captureNown_one (s : State) (x : NownIn) :
    (s.captureNown [x] 1).fld MEM_NOWN_BANK = x.bank % 256 ∧ (s.captureNown [x] 1).isSet MEM_NOWN_WRITE = x.write
    ∧ (s.captureNown [x] 1).fld MEM_NOWN_REQ = x.req % 32 ∧ (s.captureNown [x] 1).fld MEM_NOWN_PEND = 1
    ∧ (s.captureNown [x] 1).fld MEM_NOWN_COUNT = 1 := by
  simp only [State.captureNown, State.isSet, State.setBit]
  simp (disch := decide) only [State.fld_setFld_keeps, State.fld_setFld_same]
  cases x.write <;> simp [MEM_NOWN_BANK, MEM_NOWN_WRITE, MEM_NOWN_REQ, MEM_NOWN_PEND, MEM_NOWN_COUNT]

/-- A refused access is counted or captured, and then NONOWNER is raised. -/
theorem State.nonOwner_raises (s : State) (o b off : Nat) (write : Bool) :
    ∃ u : State, s.nonOwner o b off write = u.raise 232 ∧ u.out = s.out
      ∧ u.regs = (if s.isSet MEM_NOWN_PEND then s.count MEM_NOWN_COUNT else s.captureNown [⟨b, write, o, off⟩] 1).regs := by
  refine ⟨_, rfl, ?_, rfl⟩
  show (if s.isSet MEM_NOWN_PEND then s.count MEM_NOWN_COUNT else s.captureNown [⟨b, write, o, off⟩] 1).out = s.out
  split
  · rfl
  · simp only [State.captureNown, State.setBit_out, State.setFld_out]

/-- What a refused access leaves: the count of NONOWNER, its capture where none was pending, and outputs that are only added. -/
theorem State.nonOwner_caught (s : State) (o b off : Nat) (write : Bool) :
    s.out <+: (s.nonOwner o b off write).out
    ∧ (s.nonOwner o b off write).fld (routeCount 232) = min (s.fld (routeCount 232) + 1) 0xFFFFFFFF
    ∧ (s.isSet MEM_NOWN_PEND = false →
        (s.nonOwner o b off write).fld MEM_NOWN_BANK = b % 256 ∧ (s.nonOwner o b off write).isSet MEM_NOWN_WRITE = write
        ∧ (s.nonOwner o b off write).fld MEM_NOWN_REQ = o % 32 ∧ (s.nonOwner o b off write).fld MEM_NOWN_PEND = 1
        ∧ (s.nonOwner o b off write).fld MEM_NOWN_COUNT = 1) := by
  obtain ⟨u, hu, hout, hregs⟩ := s.nonOwner_raises o b off write
  have hfld (f : Fld) := State.fld_of_get f (State.get_of_regs hregs f.addr)
  have hquiet (f : Fld) (hf : f.addr = MEM_NOWN) : (u.raise 232).fld f = u.fld f :=
    u.fld_raise 232 0 f (by decide) (by rw [hf]; exact .inl (by decide))
  rw [hu]
  refine ⟨hout ▸ u.raise_out 232 0, ?_, fun hp => ?_⟩
  · rw [u.fld_routeCount_raise 232 0 (by decide), hfld]
    split
    · rw [s.fld_count_other_word MEM_NOWN_COUNT (routeCount 232) (by decide)]
    · simp only [State.captureNown, State.setBit]
      simp (disch := decide) only [State.fld_setFld_keeps]
  · simp only [hp, Bool.false_eq_true, if_false] at hfld
    simp only [State.isSet, hquiet MEM_NOWN_BANK rfl, hquiet MEM_NOWN_WRITE rfl, hquiet MEM_NOWN_REQ rfl, hquiet MEM_NOWN_PEND rfl,
      hquiet MEM_NOWN_COUNT rfl, hfld]
    exact s.captureNown_one ⟨b, write, o, off⟩

/-- What an uncorrectable word counts and raises (R400). -/
theorem State.countUe_counts (s : State) (w o : Nat) (sc : Bool) (hw : w / 32768 < bankCount) :
    (s.countUe w o sc).fld MEM_UECNT_COUNT = min (s.fld MEM_UECNT_COUNT + 1) 0xFFFFFFFF
    ∧ (s.countUe w o sc).fld (routeCount 234) = min (s.fld (routeCount 234) + 1) 0xFFFFFFFF := by
  have haddr (u : State) (f g : Fld) (v : Nat) (hf : f.addr = MEM_UEADDR) (hg : g.addr ≠ MEM_UEADDR) : (u.setFld f v).fld g = u.fld g :=
    u.fld_setFld_other_word f g v (by rw [hf]; exact hg)
  have hstat (u : State) (g : Fld) (hg : g.addr < 0xF0400 ∨ 0x100000 ≤ g.addr) :
      (u.count (MEM_BANK_STAT_UE (w / 32768))).fld g = u.fld g :=
    u.fld_count_other_word _ g (by simp only [MEM_BANK_STAT_UE, MEM_BANK_STAT, bankCount] at *; omega)
  constructor
  · rw [State.countUe, State.fld_raise _ 234 0 MEM_UECNT_COUNT (by decide) (.inl (by decide)), State.setBit]
    rw [haddr _ _ _ _ rfl (by decide), haddr _ _ _ _ rfl (by decide), haddr _ _ _ _ rfl (by decide), haddr _ _ _ _ rfl (by decide),
      hstat _ _ (.inl (by decide))]
    exact s.fld_count_same MEM_UECNT_COUNT (by decide)
  · rw [State.countUe, State.fld_routeCount_raise _ 234 0 (by decide), State.setBit]
    rw [haddr _ _ _ _ rfl (by decide), haddr _ _ _ _ rfl (by decide), haddr _ _ _ _ rfl (by decide), haddr _ _ _ _ rfl (by decide),
      hstat _ _ (.inr (by decide)), s.fld_count_other_word MEM_UECNT_COUNT _ (by decide)]

end Sys2Proof.Machine

/-! BAR2 over the banks (R34, R400, R406). -/

namespace Sys2Proof.Machine

open Sys2Proof.Fields

/-! ### BAR2 (R34, R400, R406) -/

theorem State.bar2Up_eq_true (s : State) : s.bar2Up = true ↔ s.sys.power = .on ∧ s.mode ≠ modeDormant := by
  simp [State.bar2Up]

/-- How a read of the banks' range of BAR2 replies. -/
theorem State.bar2Read_within (s t : State) (ofs n : Nat) (x : BankRes) (hup : s.bar2Up = true) (hn : ofs + n ≤ bar2Size)
    (h : s.bankRead ownHst ofs n = (x, t)) :
    (∀ bs, x = .ok bs → s.bar2Read ofs n = t.emit (.octets .pcie bs)) ∧ (x = .refused → s.bar2Read ofs n = t.emit .completerAbort)
    ∧ (x = .uncorrectable → s.bar2Read ofs n = t.emit .poisoned) := by
  obtain ⟨hon, -⟩ := s.bar2Up_eq_true.mp hup
  have hin : ¬ bar2Size < ofs + n := by omega
  unfold State.bar2Read
  simp only [hon, hup, hin, h, decide_false]
  refine ⟨?_, ?_, ?_⟩ <;> intros <;> subst x <;> rfl

theorem State.bar2Read_beyond (s : State) (ofs n : Nat) (hup : s.bar2Up = true) (hn : bar2Size < ofs + n) :
    s.bar2Read ofs n = s.emit .completerAbort := by
  obtain ⟨hon, -⟩ := s.bar2Up_eq_true.mp hup
  simp [State.bar2Read, hon, hn]

theorem State.bar2Write_within (s : State) (ofs : Nat) (bs : List Byte) (hup : s.bar2Up = true) (hn : ofs + bs.length ≤ bar2Size) :
    s.bar2Write ofs bs = (s.bankWrite ownHst ofs bs).2 := by
  have hin : ¬ bar2Size < ofs + bs.length := by omega
  simp [State.bar2Write, hup, hin]

theorem State.bar2Write_beyond (s : State) (ofs : Nat) (bs : List Byte) (hn : bar2Size < ofs + bs.length) : s.bar2Write ofs bs = s := by
  simp [State.bar2Write, hn]

/-- A read of HST's banks replies with the corrected octets, or with poison where a word cannot be corrected. -/
theorem State.bar2Read_served (s : State) (ofs n : Nat) (hup : s.bar2Up = true) (hn : ofs + n ≤ bar2Size)
    (h : s.firstRefused ownHst ofs n = none) :
    (s.bar2Read ofs n).mem = s.mem
    ∧ ∃ l, (s.bar2Read ofs n).out = s.out ++ l ++ [if (wordsOf ofs n).all (fun w => decide (eccWeight (s.eccMask w) ≤ 1)) then
        .octets .pcie (s.cells ofs n) else .poisoned] := by
  obtain ⟨hok, -, hbad⟩ := s.bar2Read_within _ ofs n _ hup hn (s.bankRead_served ownHst ofs n h)
  obtain ⟨l, hl⟩ := (s.readWords_serves ownHst (wordsOf ofs n)).2.out
  have hmem := s.readWords_mem ownHst (wordsOf ofs n)
  split
  case isTrue hall =>
    rw [hok _ (if_pos hall)]
    exact ⟨hmem, l, by rw [hl]; rfl⟩
  case isFalse hall =>
    rw [hbad (if_neg hall)]
    exact ⟨hmem, l, by rw [hl]; rfl⟩

/-- A write within one uncorrectable word, short of the whole of it, only counts the error. -/
theorem State.bankWrite_part_uncorrectable (s : State) (o a : Nat) (bs : List Byte) (w : Nat)
    (h : s.firstRefused o a bs.length = none) (hw : wordsOf a bs.length = [w]) (hlen : bs.length < 8)
    (hbad : 2 ≤ eccWeight (s.eccMask w)) : (s.bankWrite o a bs).2 = s.countUe w o false := by
  have hpart : ¬ min (a + bs.length) (8 * w + 8) - max a (8 * w) = 8 := by omega
  simp only [State.bankWrite, h, hw, List.foldl_cons, List.foldl_nil, State.writeWord, if_neg hpart,
    s.readWord_uncorrectable o false w hbad, Bool.false_eq_true, if_false]

theorem State.bankRead_refused (s : State) (o a n b : Nat) (h : s.firstRefused o a n = some b) :
    s.bankRead o a n = (.refused, s.nonOwner o b (if b * bankSize ≤ a then a % bankSize else 0) false) := by
  simp only [State.bankRead, h]

theorem State.bankWrite_refused (s : State) (o a b : Nat) (bs : List Byte) (h : s.firstRefused o a bs.length = some b) :
    (s.bankWrite o a bs).2 = s.nonOwner o b (if b * bankSize ≤ a then a % bankSize else 0) true := by
  simp only [State.bankWrite, h]

/-- Settles O48, clause by clause from what the banks do at a read, at a write, and at an access that a bank refuses. -/
theorem barTwoAccess : Obligations.BarTwoAccess := by
  unfold Obligations.BarTwoAccess
  intro s o n bs hon hmode
  have hup : s.bar2Up = true := s.bar2Up_eq_true.mpr ⟨hon, hmode⟩
  refine ⟨fun hn hf => ⟨fun hw => ?readClean, fun hw => ?readCorrected, fun hw => ?readPoisoned⟩, fun b hn hf => ?readRefused,
    fun hn => ?readBeyond, fun hn hf => ⟨fun hw => ?write, fun w hone hlen hbad => ?writeDropped⟩, fun b hn hf => ?writeRefused,
    fun hn => ?writeBeyond⟩
  case readClean =>
    obtain ⟨hok, -⟩ := s.bar2Read_within s o.toNat n.val _ hup hn (s.bankRead_clean ownHst _ _ hf hw)
    exact congrArg Host.Outcome.next (hok _ rfl)
  case readCorrected =>
    obtain ⟨hmem, l, hout⟩ := s.bar2Read_served o.toNat n.val hup hn hf
    rw [if_pos (List.all_eq_true.mpr fun w hm => decide_eq_true (hw w hm))] at hout
    exact ⟨_, l, rfl, hmem, hout⟩
  case readPoisoned =>
    obtain ⟨hmem, l, hout⟩ := s.bar2Read_served o.toNat n.val hup hn hf
    obtain ⟨w, hm, hbad⟩ := hw
    have hnot : ¬ ((wordsOf o.toNat n.val).all (fun w => decide (eccWeight (s.eccMask w) ≤ 1)) = true) := fun hall => by
      have := of_decide_eq_true (List.all_eq_true.mp hall w hm)
      omega
    rw [if_neg hnot] at hout
    exact ⟨_, l, rfl, hmem, hout⟩
  case readRefused =>
    obtain ⟨-, hab, -⟩ := s.bar2Read_within _ o.toNat n.val _ hup hn (s.bankRead_refused ownHst _ _ b hf)
    obtain ⟨⟨l, hl⟩, hcount, hcap⟩ := s.nonOwner_caught ownHst b (if b * bankSize ≤ o.toNat then o.toNat % bankSize else 0) false
    refine ⟨_, l, congrArg Host.Outcome.next (hab rfl), congrArg (· ++ _) hl.symm, hcount, ?_, hcap⟩
    exact s.nonOwner_mem ownHst b _ false
  case readBeyond => exact congrArg Host.Outcome.next (s.bar2Read_beyond o.toNat n.val hup hn)
  case write =>
    obtain ⟨-, hcell, -⟩ := s.bankWrite_served ownHst o.toNat bs hf hw
    exact ⟨_, congrArg Host.Outcome.next (s.bar2Write_within o.toNat bs hup hn), s.stored_of_cell _ _ _ bs rfl hcell⟩
  case writeDropped =>
    have hwrite := s.bankWrite_part_uncorrectable ownHst o.toNat bs w hf hone hlen hbad
    have hword := (mem_wordsOf o.toNat bs.length w).mp (by rw [hone]; exact List.mem_singleton_self w)
    obtain ⟨huecnt, hcount⟩ := s.countUe_counts w ownHst false (by simp only [bar2Size, bankSize, bankCount] at *; omega)
    rw [← s.bar2Write_within o.toNat bs hup hn] at hwrite
    refine ⟨_, congrArg Host.Outcome.next hwrite, ?_, hcount, huecnt⟩
    rw [← (s.readWord_mem ownHst false w), s.readWord_uncorrectable ownHst false w hbad]
  case writeRefused =>
    have hwrite := s.bankWrite_refused ownHst o.toNat b bs hf
    obtain ⟨-, hcount, hcap⟩ := s.nonOwner_caught ownHst b (if b * bankSize ≤ o.toNat then o.toNat % bankSize else 0) true
    rw [← s.bar2Write_within o.toNat bs hup hn] at hwrite
    exact ⟨_, congrArg Host.Outcome.next hwrite, hcount, s.nonOwner_mem ownHst b _ true, hcap⟩
  case writeBeyond => exact congrArg Host.Outcome.next (s.bar2Write_beyond o.toNat bs hn)

end Sys2Proof.Machine

/-! The opcodes of SPI (R436). -/

namespace Sys2Proof.Machine

open Sys2Proof.Fields

/-! ### Octets of words -/

theorem length_leBytes (n v : Nat) : (leBytes n v).length = n := by
  induction n generalizing v with
  | zero => rfl
  | succ n ih => rw [leBytes, List.length_cons, ih]

/-- The octets of words, one word after another. -/
abbrev octetsOf (ws : List Word) : List Byte := ws.flatMap (fun w => leBytes 4 w.toNat)

theorem length_octetsOf (ws : List Word) : (octetsOf ws).length = 4 * ws.length := by
  induction ws with
  | nil => rfl
  | cons w ws ih => simp only [List.flatMap_cons, List.length_append, length_leBytes, List.length_cons, ih]; omega

/-- Two blocks that follow each other read as one. -/
theorem block_append (a n : Nat) (bs cs : List Byte) (x : Nat) (old : Byte) (hb : bs.length = 4) (hc : cs.length = 4 * n) :
    (if a + 4 ≤ x ∧ x < a + 4 + 4 * n then cs.getD (x - (a + 4)) 0#8 else if a ≤ x ∧ x < a + 4 then bs.getD (x - a) 0#8 else old)
      = if a ≤ x ∧ x < a + 4 * (n + 1) then (bs ++ cs).getD (x - a) 0#8 else old := by
  by_cases hlow : x < a + 4
  · rw [if_neg (by omega)]
    by_cases ha : a ≤ x
    · rw [if_pos ⟨ha, hlow⟩, if_pos (by omega), List.getD_append _ _ _ _ (by omega)]
    · rw [if_neg (by omega), if_neg (by omega)]
  · by_cases hx : x < a + 4 + 4 * n
    · rw [if_pos (by omega), if_pos (by omega), List.getD_append_right _ _ _ _ (by omega)]
      congr 1
      omega
    · rw [if_neg (by omega), if_neg (by omega), if_neg (by omega)]

/-- The octets of word `k` stand at `4 * k`. -/
theorem getD_octetsOf (ws : List Word) (k i : Nat) (hk : k < ws.length) (hi : i < 4) :
    (octetsOf ws).getD (4 * k + i) 0#8 = (leBytes 4 ((ws.map (·.toNat)).getD k 0)).getD i 0#8 := by
  induction ws generalizing k with
  | nil => exact absurd hk (Nat.not_lt_zero k)
  | cons w ws ih =>
    have hlen := length_leBytes 4 w.toNat
    rw [octetsOf, List.flatMap_cons]
    cases k with
    | zero => rw [List.getD_append _ _ _ _ (by omega), Nat.mul_zero, Nat.zero_add]; rfl
    | succ k =>
      have hofs : 4 * (k + 1) + i - (leBytes 4 w.toNat).length = 4 * k + i := by omega
      rw [List.getD_append_right _ _ _ _ (by omega), hofs, ih k (Nat.lt_of_succ_lt_succ hk)]
      rfl

theorem State.cells_add (s : State) (a m n : Nat) : s.cells a (m + n) = s.cells a m ++ s.cells (a + m) n := by
  simp [State.cells, List.range_add, Nat.add_assoc]

/-! ### Reads over SPI (R436) -/

theorem State.spiRead_quiet (s : State) (a n : Nat) (bs : List Byte) (h : ∀ k, k < n → (s.busRead (a + 4 * k)).2 = s) :
    s.spiRead a n bs = s.emit (.octets .spi (bs ++ (List.range n).flatMap (fun k => leBytes 4 (s.busRead (a + 4 * k)).1.toNat))) := by
  induction n generalizing a bs with
  | zero => simp [State.spiRead]
  | succ n ih =>
    have hnext : ∀ k, a + 4 + 4 * k = a + 4 * (k + 1) := fun k => by omega
    have hfirst : (s.busRead a).2 = s := h 0 (Nat.succ_pos n)
    simp only [State.spiRead, hfirst]
    rw [ih (a + 4) _ (fun k hk => by rw [hnext]; exact h (k + 1) (Nat.succ_lt_succ hk))]
    simp only [hnext, List.range_succ_eq_map, List.flatMap_cons, List.flatMap_map, List.append_assoc, Nat.mul_zero, Nat.add_zero]

theorem State.spiBankWord_clean (s : State) (ofs : Nat) (hup : s.bar2Up = true) (hn : ofs + 4 ≤ bar2Size)
    (h : s.firstRefused ownHst ofs 4 = none) (hw : ∀ w ∈ wordsOf ofs 4, eccWeight (s.eccMask w) = 0) :
    s.spiBankWord ofs = (s.cells ofs 4, s) := by
  have hin : ¬ bar2Size < ofs + 4 := by omega
  simp only [State.spiBankWord, hup, hin, decide_false, Bool.not_true, Bool.or_self, Bool.false_eq_true, if_false,
    s.bankRead_clean ownHst ofs 4 h hw]

theorem State.spiReadBanks_clean (s : State) (ofs n : Nat) (bs : List Byte) (hup : s.bar2Up = true) (hn : ofs + 4 * n ≤ bar2Size)
    (h : s.firstRefused ownHst ofs (4 * n) = none) (hw : ∀ w ∈ wordsOf ofs (4 * n), eccWeight (s.eccMask w) = 0) :
    s.spiReadBanks ofs n bs = s.emit (.octets .spi (bs ++ s.cells ofs (4 * n))) := by
  induction n generalizing ofs bs with
  | zero => simp [State.spiReadBanks, State.cells]
  | succ n ih =>
    have hword := s.spiBankWord_clean ofs hup (by omega) (s.firstRefused_within _ _ _ ofs 4 (by omega) (by omega) h)
      (fun w hm => hw w (wordsOf_within _ _ ofs 4 (by omega) (by omega) w hm))
    have hcells : s.cells ofs (4 * (n + 1)) = s.cells ofs 4 ++ s.cells (ofs + 4) (4 * n) := by
      rw [← s.cells_add]; congr 1; omega
    simp only [State.spiReadBanks, hword]
    rw [ih (ofs + 4) _ (by omega) (s.firstRefused_within _ _ _ _ _ (by omega) (by omega) h)
      (fun w hm => hw w (wordsOf_within _ _ (ofs + 4) (4 * n) (by omega) (by omega) w hm)), hcells, List.append_assoc]

/-! ### Writes over SPI (R436) -/

/-- Words over SPI reach the banks one after another, each as four octets. -/
theorem State.spiWriteBanks_served (s : State) (ofs : Nat) (ws : List Word) (hup : s.bar2Up = true)
    (hn : ofs + 4 * ws.length ≤ bar2Size) (h : s.firstRefused ownHst ofs (4 * ws.length) = none)
    (hw : ∀ w ∈ wordsOf ofs (4 * ws.length), eccWeight (s.eccMask w) ≤ 1) (x : Nat) :
    (s.spiWriteBanks ofs ws).cell x = if ofs ≤ x ∧ x < ofs + 4 * ws.length then (octetsOf ws).getD (x - ofs) 0#8 else s.cell x := by
  induction ws generalizing s ofs with
  | nil => simp [State.spiWriteBanks]
  | cons v ws ih =>
    rw [List.length_cons] at hn h hw
    have hlen : (leBytes 4 v.toNat).length = 4 := length_leBytes 4 v.toNat
    obtain ⟨hserve, hcell, hecc, hzero⟩ := s.bankWrite_served ownHst ofs (leBytes 4 v.toNat)
      (by rw [hlen]; exact s.firstRefused_within _ _ _ _ _ (by omega) (by omega) h)
      (by rw [hlen]; exact fun w hm => hw w (wordsOf_within _ _ ofs 4 (by omega) (by omega) w hm))
    rw [hlen] at hcell hecc hzero
    have hwrite := s.bar2Write_within ofs (leBytes 4 v.toNat) hup (by omega)
    rw [State.spiWriteBanks, hwrite, ih _ (ofs + 4) (hserve.bar2Up.trans hup) (by omega)]
    · rw [hcell]
      exact block_append ofs _ _ _ x _ hlen (length_octetsOf ws)
    · rw [hserve.firstRefused]
      exact s.firstRefused_within _ _ _ _ _ (by omega) (by omega) h
    · intro w hm
      by_cases hfirst : w ∈ wordsOf ofs 4
      · rw [hzero (by omega) w hfirst]; decide
      · rw [hecc w hfirst]
        exact hw w (wordsOf_within _ _ (ofs + 4) _ (by omega) (by omega) w hm)

/-! ### The staging area (R54, R436) -/

/-- One word into the staging area. -/
def State.stageWord (s : State) (ofs v : Nat) : State :=
  match s.stagingAddr ofs with
  | some a => (s.bankWrite (s.owner (a / bankSize)) a (leBytes 4 v)).2
  | none => s

theorem State.spiStage_eq (s : State) (ofs : Nat) (ws : List Nat) :
    s.spiStage ofs ws = (List.range ws.length).foldl (fun s k => s.stageWord (ofs + 4 * k) (ws.getD k 0)) s := rfl

/-- The staging area lies in banks that their owners may write, and whose words hold no inverted bits, while no casting is applied. -/
structure State.Stageable (s : State) : Prop where
  cold : s.fld MGT_CASTID_CASTID = 0
  ownable : ∀ b, b < 32 → s.mayAccess (s.owner b) b = true
  clean : ∀ w, w < 2 ^ 20 → s.eccMask w = 0

theorem State.stageWord_stored (s : State) (a v : Nat) (h : s.Stageable) (ha : a % 4 = 0) (hn : a + 4 ≤ 0x800000) :
    s.Serves (s.stageWord a v) ∧ (s.stageWord a v).Stageable
    ∧ ∀ x, (s.stageWord a v).cell x = if a ≤ x ∧ x < a + 4 then (leBytes 4 v).getD (x - a) 0#8 else s.cell x := by
  have hlen := length_leBytes 4 v
  have hplace : s.stagingAddr a = some a := by
    simp only [State.stagingAddr, h.cold, if_true, if_pos (show a < 0x800000 by omega)]
  have hstage : s.stageWord a v = (s.bankWrite (s.owner (a / bankSize)) a (leBytes 4 v)).2 := by
    simp only [State.stageWord, hplace]
  have hfree : s.firstRefused (s.owner (a / bankSize)) a (leBytes 4 v).length = none := by
    rw [State.firstRefused_eq_none, hlen]
    intro b hb
    rw [mem_banksOf] at hb
    obtain rfl : b = a / bankSize := by simp only [bankSize] at *; omega
    exact h.ownable _ (by simp only [bankSize]; omega)
  have hclean : ∀ w ∈ wordsOf a (leBytes 4 v).length, s.eccMask w = 0 := fun w hw => by
    rw [mem_wordsOf, hlen] at hw
    exact h.clean w (by omega)
  obtain ⟨hserve, hcell, hecc, hzero⟩ := s.bankWrite_served _ a (leBytes 4 v) hfree (fun w hw => by rw [hclean w hw]; decide)
  rw [hlen] at hcell
  rw [hstage]
  refine ⟨hserve, ⟨?_, fun b hb => ?_, fun w hw => ?_⟩, hcell⟩
  · rw [hserve.fld MGT_CASTID_CASTID (.inl (by decide)), h.cold]
  · rw [hserve.owner b (by simp only [bankCount]; omega), hserve.mayAccess]
    exact h.ownable b hb
  · by_cases hm : w ∈ wordsOf a (leBytes 4 v).length
    · exact hzero (by omega) w hm
    · rw [hecc w hm, h.clean w hw]

/-- The first words of a staging stand in the staging area, and nothing else has changed there. -/
theorem State.stageWords_stored (s : State) (ofs : Nat) (ws : List Word) (h : s.Stageable) (ha : ofs % 4 = 0)
    (hn : ofs + 4 * ws.length ≤ 0x800000) (n : Nat) (hle : n ≤ ws.length) :
    ((List.range n).foldl (fun s k => s.stageWord (ofs + 4 * k) ((ws.map (·.toNat)).getD k 0)) s).Stageable
    ∧ ∀ x, ((List.range n).foldl (fun s k => s.stageWord (ofs + 4 * k) ((ws.map (·.toNat)).getD k 0)) s).cell x =
        if ofs ≤ x ∧ x < ofs + 4 * n then (octetsOf ws).getD (x - ofs) 0#8 else s.cell x := by
  induction n with
  | zero => exact ⟨h, fun x => by rw [if_neg (by omega)]; rfl⟩
  | succ n ih =>
    obtain ⟨hstage, hcells⟩ := ih (Nat.le_of_succ_le hle)
    obtain ⟨-, hstage', hcell⟩ := State.stageWord_stored _ (ofs + 4 * n) ((ws.map (·.toNat)).getD n 0) hstage (by omega) (by omega)
    rw [List.range_succ, List.foldl_append, List.foldl_cons, List.foldl_nil]
    refine ⟨hstage', fun x => ?_⟩
    rw [hcell, hcells]
    by_cases hx : ofs + 4 * n ≤ x ∧ x < ofs + 4 * n + 4
    · have hofs : x - ofs = 4 * n + (x - (ofs + 4 * n)) := by omega
      rw [if_pos hx, if_pos (by omega), hofs, getD_octetsOf ws n _ (by omega) (by omega)]
    · rw [if_neg hx]
      congr 1
      exact propext (by omega)

/-! ### Records and completions over SPI (R432, R434, R436) -/

theorem State.sendVector_evBuf (s : State) (v : Nat) : (s.sendVector v).hst.evBuf = s.hst.evBuf := by
  unfold State.sendVector
  dsimp only
  split <;> rfl

theorem State.eventVector_evBuf (s : State) (id : Nat) : (s.eventVector id).hst.evBuf = s.hst.evBuf := by
  unfold State.eventVector State.signalVector
  split
  · split
    · rfl
    · exact s.sendVector_evBuf _
  · rfl

theorem State.queueLoss_effect (s : State) :
    s.Signals s.queueLoss ∧ s.queueLoss.out = s.out ∧ (∀ id, s.queueLoss.route id = s.route id)
    ∧ (s.hst.evLost = 0 → s.queueLoss.hst.evBuf = s.hst.evBuf) := by
  have hseq (n : Nat) : s.Signals (s.setFld HST_EVSEQ_SEQ n) := s.signals_put _ _ (fun h => h.2.2.1 rfl)
  have hroute (n id : Nat) : (s.setFld HST_EVSEQ_SEQ n).route id = s.route id :=
    s.get_put_other _ _ _ (by simp only [HST_EVSEQ_SEQ, HST_EVSEQ, routeAddr]; omega)
  unfold State.queueLoss
  split
  case isTrue h => exact ⟨s.signals_hst _ rfl, rfl, fun _ => rfl, fun _ => rfl⟩
  case isFalse h => exact ⟨(hseq _).trans (State.signals_hst _ _ rfl), rfl, hroute _, fun h0 => absurd h0 h⟩

/-- SPI_EVTPOP answers the oldest record and takes it, and its vector may follow. -/
theorem State.spiEvtPop_record (s : State) (r : EvRec) (l : List EvRec) (h : s.hst.evBuf = r :: l) :
    ∃ m, s.spiEvtPop.out = s.out ++ .octets .spi r.octets :: m ∧ (s.hst.evLost = 0 → s.spiEvtPop.hst.evBuf = l)
      ∧ ((s.route r.id).getLsbD 5 = false → m = []) := by
  have hpop : s.spiEvtPop =
      (({ s with hst := { s.hst with evBuf := l } } : State).emit (.octets .spi r.octets)).queueLoss.eventVector r.id := by
    simp only [State.spiEvtPop, h]; rfl
  generalize hu : ({ s with hst := { s.hst with evBuf := l } } : State).emit (.octets .spi r.octets) = u at hpop
  have hout : u.out = s.out ++ [.octets .spi r.octets] := by rw [← hu]; rfl
  have hlost : u.hst.evLost = s.hst.evLost := by rw [← hu]; rfl
  have hroute : u.route r.id = s.route r.id := by rw [← hu]; rfl
  have hbuf : u.hst.evBuf = l := by rw [← hu]; rfl
  obtain ⟨-, hlossOut, hlossRoute, hlossBuf⟩ := u.queueLoss_effect
  obtain ⟨m, hm⟩ := (u.queueLoss.signals_eventVector r.id).out
  rw [hlossOut, hout, List.append_assoc, List.singleton_append] at hm
  refine ⟨m, by rw [hpop, hm], fun h0 => ?_, fun hven => ?_⟩
  · rw [hpop, State.eventVector_evBuf, hlossBuf (hlost.trans h0), hbuf]
  · have hnone : u.queueLoss.eventVector r.id = u.queueLoss := by
      simp only [State.eventVector, hlossRoute, hroute, hven, Bool.false_eq_true, if_false]
    rw [hnone, hlossOut, hout] at hm
    simpa using hm.symm

/-- A completion of a command in flight is held. -/
theorem State.complete_held (s : State) (q tag st d : Nat) (h : (s.inflight q tag).isSome) :
    ((s.complete q tag st d).queue q).spiCmd = (s.queue q).spiCmd
    ∧ ∃ e ∈ ((s.complete q tag st d).queue q).held, e.tag = tag ∧ e.status = st := by
  obtain ⟨c, hc⟩ := Option.isSome_iff_exists.mp h
  simp only [State.complete, hc, State.queue_setQueue_same]
  exact ⟨trivial, ⟨tag, q, false, false, st, d % 256, min 0 255, []⟩, by simp, rfl, rfl⟩

/-- A command under a tag that the queue does not know is in flight from now on, or has completed as a bad one. -/
theorem State.takeCommand_new (s : State) (q : Nat) (ws : List Nat) (hm : ∀ m ∈ (s.queue q).memory, m.tag ≠ ws.headD 0 / 65536)
    (hd : ∀ d ∈ (s.queue q).inflight, d.tag ≠ ws.headD 0 / 65536) :
    ((s.takeCommand q ws).queue q).spiCmd = (s.queue q).spiCmd
    ∧ (((s.takeCommand q ws).queue q).inflight = (s.queue q).inflight ++ [⟨ws.headD 0 / 65536, ws, false⟩]
      ∨ ∃ e ∈ ((s.takeCommand q ws).queue q).held, e.tag = ws.headD 0 / 65536 ∧ e.status = stBadOp) := by
  have hnew : (s.queue q).memory.find? (fun m => m.tag == ws.headD 0 / 65536) = none := by simpa using hm
  have hnone : (s.queue q).inflight.any (fun d => d.tag == ws.headD 0 / 65536) = false := by simpa using hd
  simp only [State.takeCommand, hnew, hnone, Bool.false_eq_true, if_false]
  split
  · obtain ⟨hcmd, hheld⟩ := State.complete_held (s.setQueue q { s.queue q with
        inflight := (s.queue q).inflight ++ [⟨ws.headD 0 / 65536, ws, false⟩] }) q (ws.headD 0 / 65536) stBadOp 0 (by
      simp [State.inflight])
    exact ⟨by rw [hcmd, State.queue_setQueue_same], .inr hheld⟩
  · split
    · exact ⟨by simp [State.queueFwd, State.queue, State.setQueue, Laws.tabGet_set_same],
        .inl (by simp [State.queueFwd, State.queue, State.setQueue, Laws.tabGet_set_same])⟩
    · exact ⟨by rw [State.queue_setQueue_same], .inl (by rw [State.queue_setQueue_same])⟩

theorem State.spiSubmit_taken (s : State) (ws : List Nat) (hlive : s.live 0x13 = true) (hen : s.isSet (HST_QCFG_EN 7) = false)
    (hcmd : (s.queue 7).spiCmd = false) :
    s.spiSubmit ws = (s.setQueue 7 { s.queue 7 with spiCmd := true }).takeCommand 7 ws := by
  simp [State.spiSubmit, hlive, hen, hcmd]

theorem State.spiSubmit_refused (s : State) (ws : List Nat) (h : (s.isSet (HST_QCFG_EN 7) || (s.queue 7).spiCmd) = true) :
    s.spiSubmit ws = s.raise 249 := by
  simp [State.spiSubmit, h]

/-- SPI_CPLPOP answers the oldest completion and takes it, which frees the queue for the next command. -/
theorem State.spiCplPop_completion (s : State) (c : Cpl) (l : List Cpl) (h : (s.queue 7).held = c :: l) :
    s.spiCplPop = (s.setQueue 7 { s.queue 7 with held := l, spiCmd := false }).emit
      (.octets .spi (c.octets (s.queue 7).phase (s.fld (HST_QSTAT_SQHEAD 7)) s.beat)) := by
  simp only [State.spiCplPop, h]

theorem State.spiStatus_bits (s : State) :
    s.spiStatus = (if s.linkUp then 1 else 0) + 2 * (if !s.hst.evBuf.isEmpty then 1 else 0)
      + 4 * (if !(s.queue 7).held.isEmpty then 1 else 0) + 8 * (if !s.hst.xBuf.isEmpty then 1 else 0) := by
  unfold State.spiStatus
  cases s.hst.evBuf.isEmpty <;> cases (s.queue 7).held.isEmpty <;> cases s.hst.xBuf.isEmpty <;> rfl

/-- Settles O52, opcode by opcode. -/
theorem spiOpcodes : Obligations.SpiOpcodes := by
  unfold Obligations.SpiOpcodes
  intro s hon
  have hwhen (t : State) : s.whenOn t = t := if_pos hon
  have hup (hmode : s.mode ≠ modeDormant) : s.bar2Up = true := s.bar2Up_eq_true.mpr ⟨hon, hmode⟩
  refine ⟨?spiId, ?status, fun a n hquiet => ?read32, fun a w ws ha => ?write32, fun o n hmode hn hf hw => ?readb2,
    fun o ws hmode hn hf hw => ?writeb2, fun o ws hmode hcold hn hopen hclean ha => ?stage, fun hbuf => ?evtpopEmpty,
    fun r l hbuf => ?evtpop, fun hbuf => ?xpopEmpty, fun r l hbuf => ?xpop, fun ws hlive hen hcmd hm hd => ?submit,
    fun ws hbusy => ?submitRefused, fun hheld => ?cplpopEmpty, fun c l hheld => ?cplpop, ?unknown⟩
  case spiId => exact congrArg Host.Outcome.next (hwhen _)
  case status =>
    rw [← s.spiStatus_bits]
    exact congrArg Host.Outcome.next (hwhen _)
  case read32 => exact congrArg Host.Outcome.next ((if_pos hon).trans (s.spiRead_quiet a.toNat n.val [] hquiet))
  case write32 =>
    have hnext : (a + 4).toNat = a.toNat + 4 := by
      rw [BitVec.toNat_add]; exact Nat.mod_eq_of_lt ha
    exact ⟨s.write .spi a.toNat w, rfl, congrArg (fun b => Host.Outcome.next (State.spiWrite _ b ws)) hnext.symm, rfl⟩
  case readb2 => exact congrArg Host.Outcome.next ((if_pos hon).trans (s.spiReadBanks_clean o.toNat n.val [] (hup hmode) hn hf hw))
  case writeb2 =>
    have hcell := s.spiWriteBanks_served o.toNat ws (hup hmode) hn hf hw
    exact ⟨_, rfl, s.stored_of_cell _ _ _ _ (length_octetsOf ws) hcell⟩
  case stage =>
    obtain ⟨-, hcell⟩ := s.stageWords_stored o.toNat ws ⟨hcold, hopen, hclean⟩ ha hn ws.length (Nat.le_refl _)
    have hstage : exec (.spiStage o ws) s = .next (s.spiStage o.toNat (ws.map (·.toNat))) :=
      congrArg Host.Outcome.next ((if_neg hmode).trans (hwhen _))
    rw [State.spiStage_eq, List.length_map] at hstage
    exact ⟨_, hstage, s.stored_of_cell _ _ _ _ (length_octetsOf ws) hcell⟩
  case evtpopEmpty => exact congrArg Host.Outcome.next ((hwhen _).trans (by simp only [State.spiEvtPop, hbuf]; rfl))
  case evtpop =>
    obtain ⟨m, hout, hrest, hquiet⟩ := s.spiEvtPop_record r l hbuf
    exact ⟨_, m, congrArg Host.Outcome.next (hwhen _), hout, hrest, hquiet⟩
  case xpopEmpty => exact congrArg Host.Outcome.next ((hwhen _).trans (by simp only [State.spiXPop, hbuf]; rfl))
  case xpop => exact congrArg Host.Outcome.next ((hwhen _).trans (by simp only [State.spiXPop, hbuf]; rfl))
  case submit =>
    have hq := s.queue_setQueue_same 7 { s.queue 7 with spiCmd := true }
    obtain ⟨htaken, hflight⟩ := State.takeCommand_new (s.setQueue 7 { s.queue 7 with spiCmd := true }) 7 (ws.map (·.toNat))
      (by rw [hq]; exact hm) (by rw [hq]; exact hd)
    rw [hq] at htaken hflight
    exact ⟨_, congrArg Host.Outcome.next ((hwhen _).trans (s.spiSubmit_taken _ hlive hen hcmd)), htaken, hflight⟩
  case submitRefused =>
    exact ⟨_, congrArg Host.Outcome.next ((hwhen _).trans (s.spiSubmit_refused _ hbusy)), s.fld_routeCount_raise 249 0 (by decide),
      s.raise_queue 249 0 7⟩
  case cplpopEmpty => exact congrArg Host.Outcome.next ((hwhen _).trans (by simp only [State.spiCplPop, hheld]; rfl))
  case cplpop =>
    exact ⟨_, congrArg Host.Outcome.next ((hwhen _).trans (s.spiCplPop_completion c l hheld)), rfl, s.queue_setQueue_same 7 _, rfl⟩
  case unknown => exact ⟨_, congrArg Host.Outcome.next (hwhen _), s.fld_routeCount_raise 249 0 (by decide), s.raise_mem 249 0⟩

end Sys2Proof.Machine

/-! A doorbell's write, and the one state of affairs in which DATA differs from what was written: the device has latched one of its bits in
the same tick (R5). -/

namespace Sys2Proof.Machine

open Sys2Proof.Fields

/-! ### A doorbell (R382) -/

theorem getFld_or (w v : Word) (f : Fld) : getFld (w ||| v) f = getFld w f ||| getFld v f := by
  simp only [getFld, BitVec.extractLsb'_or, BitVec.toNat_or]

/-- The word that rings a core's doorbell with data. -/
abbrev doorbellWord (c : Fin 16) (d : BitVec 16) : Word :=
  putAll 0 [(CHB_CDOORBELL_RING c, 1), (CHB_CDOORBELL_DATA c, d.toNat)]

theorem getFld_doorbellWord (c : Fin 16) (d : BitVec 16) :
    getFld (doorbellWord c d) (CHB_CDOORBELL_RING c) = 1 ∧ getFld (doorbellWord c d) (CHB_CDOORBELL_DATA c) = d.toNat := by
  simp only [putAll, List.foldl_cons, List.foldl_nil]
  constructor
  · rw [getFld_putFld_other _ (CHB_CDOORBELL_DATA c) (CHB_CDOORBELL_RING c) _ (by simp [CHB_CDOORBELL_DATA])
        (by simp [CHB_CDOORBELL_DATA, CHB_CDOORBELL_RING]),
      getFld_putFld_same _ (CHB_CDOORBELL_RING c) _ (by simp [CHB_CDOORBELL_RING])]
    rfl
  · rw [getFld_putFld_same _ (CHB_CDOORBELL_DATA c) _ (by simp [CHB_CDOORBELL_DATA])]
    exact Nat.mod_eq_of_lt d.isLt

/-- The doorbell registers in the register index. -/
theorem regAt_doorbell (c : Fin 16) : regAt (CHB_CDOORBELL c) = some ⟨"CHB_CDOORBELL", 0x20001C, 0x10000, 16, 0x0, 1,
    [⟨31, 1, .W1P, 0, false, .any⟩, ⟨0, 16, .RW, 0, false, .any⟩]⟩ := by
  revert c; decide +kernel

/-- A written doorbell register holds the data written. -/
theorem mergeWord_doorbell (c : Fin 16) (old v : Word) :
    getFld (mergeWord (CHB_CDOORBELL c) old v) (CHB_CDOORBELL_DATA c) = getFld v (CHB_CDOORBELL_DATA c) :=
  getFld_mergeWord_RW _ old v _ (regAt_doorbell c) (by decide) ⟨0, 16, .RW, 0, false, .any⟩ (by decide) rfl

theorem State.storeWord_doorbell (s : State) (c : Fin 16) (v : Word) :
    s.storeWord (CHB_CDOORBELL c) v = s.put (CHB_CDOORBELL c)
      (mergeWord (CHB_CDOORBELL c) (s.get (CHB_CDOORBELL c)) v ||| (s.get (CHB_CDOORBELL c) &&& s.setNow (CHB_CDOORBELL c))) := by
  have hnotch : ¬ CHB_CDOORBELL c < 0x200A0 := by simp only [CHB_CDOORBELL]; omega
  have hmask : ¬ CHB_CDOORBELL c % 0x10000 = 0x14 := by simp only [CHB_CDOORBELL]; omega
  simp only [State.storeWord, hnotch, hmask, false_and, and_false, if_false]

/-- A written doorbell register rings where the word says so. -/
theorem State.applyWrite_doorbell (s : State) (src : BusSrc) (c : Fin 16) (v : Word) (h : getFld v (CHB_CDOORBELL_RING c) = 1) :
    s.applyWrite src (CHB_CDOORBELL c) v = (s.storeWord (CHB_CDOORBELL c) v).ringDoorbell c := by
  have hc := c.isLt
  generalize ha : CHB_CDOORBELL c = a
  have ha' : a = 0x20001C + 0x10000 * c.val := ha.symm
  have hcore : (a - 0x200000) / 0x10000 = c.val := by omega
  have hofs : a % 0x10000 = 0x1C := by omega
  have hwin : 0x200000 ≤ a ∧ a < 0x300000 := by omega
  have hown : ¬ (0xF0100 ≤ a ∧ a < 0xF0400) := by omega
  have hbkp : ¬ (0x110000 ≤ a ∧ a < 0x120000) := by omega
  have hgain : s.holdGain a v = s := by
    have hchain : ¬ ((a = GNF_CTL 0 ∨ a = GNF_CTL 1) ∧ getFld v (GNF_CTL_AGCMODE 0) = 1) := fun h => by
      have := h.1; simp only [GNF_CTL] at this; omega
    have hlane : ¬ (5 ≤ a / 0x10000 ∧ a / 0x10000 < 9 ∧ a % 0x10000 = 0x18 ∧ getFld v (RFL_AGC_MODE 0) = 1) := by omega
    simp only [State.holdGain, if_neg hchain, if_neg hlane]
  have hplain : s.applyWrite src a v = s.plainWrite src a v := by
    simp only [State.applyWrite, if_neg hown, if_neg hbkp, if_pos hwin, hofs]
    rfl
  have hhook : s.plainWrite src a v = (s.storeWord a v).wroteCore a (s.get a) v := by
    simp only [State.plainWrite, hgain]
    rw [if_neg (by omega), if_neg (by omega), if_neg (by omega), if_pos (by omega)]
  rw [hplain, hhook]
  simp only [State.wroteCore, hcore]
  rw [if_neg (by simp only [MEM_NOWN]; omega), if_neg (by omega), if_neg (by omega), if_pos hwin, if_pos ha.symm, if_pos h]

/-- An accepted ring of a doorbell pends it, and DATA shows what was written beside the bits that the device has latched in the tick. -/
theorem State.write_doorbell (s : State) (src : BusSrc) (c : Fin 16) (d : BitVec 16) (h : s.takes (CHB_CDOORBELL c) (doorbellWord c d)) :
    (s.write src (CHB_CDOORBELL c) (doorbellWord c d)).fld (CHB_CDOORBELL_DATA c)
        = d.toNat ||| getFld (s.get (CHB_CDOORBELL c) &&& s.setNow (CHB_CDOORBELL c)) (CHB_CDOORBELL_DATA c)
    ∧ (s.write src (CHB_CDOORBELL c) (doorbellWord c d)).core c = { s.core c with dbPend := true } := by
  obtain ⟨hring, hdata⟩ := getFld_doorbellWord c d
  have hmgt : CHB_CDOORBELL c ≠ MGT_MODEREQ ∧ CHB_CDOORBELL c ≠ MGT_CASTCTL ∧ CHB_CDOORBELL c ≠ MGT_FRESET
      ∧ CHB_CDOORBELL c ≠ MGT_ASSAYCTL := by
    simp only [CHB_CDOORBELL, MGT_MODEREQ, MGT_CASTCTL, MGT_FRESET, MGT_ASSAYCTL]; omega
  have h4 : CHB_CDOORBELL c % 4 = 0 := by simp only [CHB_CDOORBELL]; omega
  rw [s.write_taken src _ _ h4 h, State.mgtWrite_other _ _ _ _ hmgt, s.applyWrite_doorbell src c _ hring, s.storeWord_doorbell]
  constructor
  · rw [State.fld_markDirty]
    refine (congrArg (getFld · (CHB_CDOORBELL_DATA c)) (s.get_put_same (CHB_CDOORBELL c) _)).trans ?_
    rw [getFld_or, mergeWord_doorbell, hdata]
  · have hcores (u : State) (a : Nat) : (u.markDirty a).core c = u.core c :=
      congrArg (tabGet Core.cold · c.val) (u.markDirty_cores a)
    rw [hcores]
    exact State.core_setCore_same _ _ _

/-! ### A doorbell register with a latched bit -/

/-- The state after reset with the timebase running and core 0 cast, in whose tick the device has latched bit 0 of CHB_C0DOORBELL. -/
def State.doorbellLatched : State :=
  State.latch { State.reset with
      sys := { State.reset.sys with phase := .running, cast := [0x20] }
      tim := { State.reset.tim with run := true } }
    ⟨CHB_CDOORBELL 0, 0, 1⟩

theorem takes_doorbellLatched : State.doorbellLatched.takes (CHB_CDOORBELL (0 : Fin 16)) (doorbellWord 0 0) := by
  decide +kernel

/-- DATA bit 0 is set, and latched in the current tick. -/
theorem latched_doorbellLatched :
    getFld (State.doorbellLatched.get (CHB_CDOORBELL (0 : Fin 16)) &&& State.doorbellLatched.setNow (CHB_CDOORBELL (0 : Fin 16)))
      (CHB_CDOORBELL_DATA (0 : Fin 16)) = 1 := by
  decide +kernel

/-- Refutes O57 in its clause on doorbells, which speaks of every state, and so of one in whose tick the device has latched a bit of
CHB_CcDOORBELL.DATA: that bit stays set (R5), so DATA is not as written. No operation of the model latches a bit there; by
`State.write_doorbell` the clause holds where none is latched. -/
theorem not_interruptsAndCounters : ¬ Obligations.InterruptsAndCounters := by
  unfold Obligations.InterruptsAndCounters
  intro h
  obtain ⟨-, -, -, hring, -⟩ := h State.doorbellLatched .pcie 0
  obtain ⟨t, hexec, hdata, -⟩ := hring 0 takes_doorbellLatched
  obtain ⟨hread, -⟩ := State.doorbellLatched.write_doorbell .pcie 0 0 takes_doorbellLatched
  obtain rfl := Host.Outcome.next.inj hexec
  rw [latched_doorbellLatched] at hread
  exact absurd (hdata.symm.trans hread) (by decide)

end Sys2Proof.Machine

/-! The loader's sequences: the quiesce and reset of a core and of TIC, a load that fails, and the anti-rollback counter (R51, R55, R56,
R60, R63). -/

namespace Sys2Proof.Machine

open Sys2Proof.Fields

/-! ### What an event leaves of a core -/

theorem State.toCore_core (s : State) (k id data c : Nat) : ∃ q, (s.toCore k id data).core c = { s.core c with evq := q } := by
  unfold State.toCore
  split
  · exact ⟨_, rfl⟩
  · split
    · by_cases h : c = k
      · subst h
        exact ⟨_, State.core_setCore_same _ _ _⟩
      · exact ⟨_, State.core_setCore_other _ _ _ _ h⟩
    · exact ⟨_, rfl⟩

theorem State.routeCores_core (s : State) (w : Word) (id data c : Nat) :
    ∃ q, (s.routeCores w id data).core c = { s.core c with evq := q } := by
  unfold State.routeCores
  generalize List.range 16 = l
  induction l generalizing s with
  | nil => exact ⟨_, rfl⟩
  | cons k l ih =>
    rw [List.foldl_cons]
    split
    · obtain ⟨p, hp⟩ := s.toCore_core k id data c
      obtain ⟨q, hq⟩ := ih (s.toCore k id data)
      exact ⟨q, by rw [hq, hp]⟩
    · exact ih s

theorem State.eventVector_cores (s : State) (id : Nat) : (s.eventVector id).cores = s.cores := by
  unfold State.eventVector State.signalVector State.sendVector
  split
  · split
    · rfl
    · dsimp only
      split <;> rfl
  · rfl

theorem State.core_of_cores {s t : State} (h : t.cores = s.cores) (c : Nat) : t.core c = s.core c := by
  simp only [State.core, h]

theorem State.dropRecord_core (s : State) (id c : Nat) : ∃ q, (s.dropRecord id).core c = { s.core c with evq := q } := by
  unfold State.dropRecord
  dsimp only
  rw [State.core_of_cores (State.eventVector_cores _ id)]
  split
  · exact State.routeCores_core _ _ _ _ c
  · exact ⟨_, rfl⟩

/-- An event reaches a core only through the core's event FIFO (R382, R431). -/
theorem State.raise_core (s : State) (id data c : Nat) : ∃ q, (s.raise id data).core c = { s.core c with evq := q } := by
  obtain ⟨p, hp⟩ : ∃ p, (s.countEvent id data).core c = { s.core c with evq := p } := State.routeCores_core _ _ _ _ c
  unfold State.raise
  dsimp only
  split
  · exact ⟨p, hp⟩
  · split
    · unfold State.generateRecord
      dsimp only
      split
      · exact ⟨p, hp⟩
      · obtain ⟨q, hq⟩ := State.dropRecord_core (s.countEvent id data).takeSeq.2 id c
        exact ⟨q, by rw [hq]; exact congrArg (fun x : Core => { x with evq := q }) hp⟩
    · exact ⟨p, by rw [State.core_of_cores (State.eventVector_cores _ id), hp]⟩

/-! ### Writes of MGT's registers for castings and function resets -/

/-- An accepted write of MGT_CASTCTL or MGT_FRESET stores a word there and notes it, and then acts. -/
theorem State.write_loaderReg (s : State) (src : BusSrc) (a : Nat) (v : Word) (ha : a = MGT_CASTCTL ∨ a = MGT_FRESET) (h : s.takes a v) :
    ∃ w d, s.write src a v = (({ s with sys := { s.sys with dirty := d } } : State).put a w).mgtWrite src a v := by
  have h4 : a % 4 = 0 := by rcases ha with rfl | rfl <;> rfl
  obtain ⟨w, hw⟩ : ∃ w, s.applyWrite src a v = s.put a w := by rcases ha with rfl | rfl <;> exact ⟨_, rfl⟩
  rw [s.write_taken src a v h4 h, hw]
  rcases (s.put a w).markDirty_eq a with hd | hd <;> rw [hd]
  · exact ⟨w, s.sys.dirty, rfl⟩
  · exact ⟨w, insertNat a s.sys.dirty, rfl⟩

theorem rwMask_castctl : rwMask MGT_CASTCTL = 0#32 := by decide +kernel
theorem rwMask_freset : rwMask MGT_FRESET = 0#32 := by decide +kernel

/-- ARBADV alone is written. -/
theorem State.mgtWrite_arbadv (s t : State) (src : BusSrc) :
    t.mgtWrite src MGT_CASTCTL (s.setWord MGT_CASTCTL [(MGT_CASTCTL_ARBADV, 1)]) = t.arbAdvance := by
  have hv : s.setWord MGT_CASTCTL [(MGT_CASTCTL_ARBADV, 1)] = 4 := by
    simp only [State.setWord, rwMask_castctl, BitVec.and_zero]
    decide
  rw [hv]; rfl

theorem State.mgtWrite_freset (s t : State) (src : BusSrc) (id : Byte) :
    t.mgtWrite src MGT_FRESET (s.setWord MGT_FRESET [(MGT_FRESET_ID, id.toNat)]) = t.functionReset id.toNat := by
  have hv : getFld (s.setWord MGT_FRESET [(MGT_FRESET_ID, id.toNat)]) MGT_FRESET_ID = id.toNat := by
    show getFld (putFld _ MGT_FRESET_ID id.toNat) MGT_FRESET_ID = _
    rw [getFld_putFld_same _ _ _ (by decide)]
    exact Nat.mod_eq_of_lt id.isLt
  show t.functionReset _ = _
  rw [hv]

/-! ### The end of a job (R56, R60, R63) -/

/-- Nothing follows the end of a job that nothing has waited for. -/
theorem State.jobEnds_idle (s : State) (hflr : s.sys.flr = false) (hreq : s.sys.heldReq = none) : s.jobEnds = s := by
  simp [State.jobEnds, State.heldRequest, hflr, hreq]

/-- What a failed load writes before its event. -/
abbrev State.failed (s : State) (f : CFail) : State := ((s.castError f).setFld MGT_CASTSTAT_STATE csFailed).setJob none

/-- A casting that fails raises one event, and the next source or the end of the job follows (R56, R64). -/
theorem State.loadFails_eq (s : State) (f : CFail) (j : LoadJob) (hjob : s.sys.job = some j) :
    ∃ v n id data, id < 256 ∧ v = ({ s.failed f with free := n } : State).raise id data
      ∧ s.loadFails f = if v.mode = modeAnneal then v.nextSource j.from_ else v.jobEnds := by
  simp only [State.loadFails, hjob]
  split
  · split
    · exact ⟨_, s.free + 1, 5, _, by decide, rfl, rfl⟩
    · exact ⟨_, s.free, 5, _, by decide, rfl, rfl⟩
  · exact ⟨_, s.free, 3, _, by decide, rfl, rfl⟩

theorem State.fld_failed (s : State) (f : CFail) :
    (s.failed f).fld MGT_CASTERR_CAUSE = f.1 % 256 ∧ (s.failed f).fld MGT_CASTERR_RECIDX = f.2 % 65536
    ∧ (s.failed f).fld MGT_CASTSTAT_STATE = csFailed ∧ (s.failed f).mode = s.mode := by
  have hjob (t : State) (g : Fld) : (t.setJob none).fld g = t.fld g := rfl
  simp only [State.failed, State.castError, State.mode, hjob]
  simp (disch := decide) only [State.fld_setFld_keeps, State.fld_setFld_same]
  exact ⟨rfl, rfl, rfl, trivial⟩

/-- A casting that fails outside ANNEAL, with nothing waiting for the loader, ends the job with its cause (R56). -/
theorem State.loadFails_ends (s : State) (f : CFail) (j : LoadJob) (hjob : s.sys.job = some j) (hmode : s.mode ≠ modeAnneal)
    (hflr : s.sys.flr = false) (hreq : s.sys.heldReq = none) :
    (s.loadFails f).sys.job = none ∧ (s.loadFails f).fld MGT_CASTSTAT_STATE = csFailed
    ∧ (s.loadFails f).fld MGT_CASTERR_CAUSE = f.1 % 256 ∧ (s.loadFails f).fld MGT_CASTERR_RECIDX = f.2 % 65536 := by
  obtain ⟨v, n, id, data, hid, rfl, hfails⟩ := s.loadFails_eq f j hjob
  obtain ⟨hcause, hidx, hstate, hkeep⟩ := s.fld_failed f
  have hfld (g : Fld) (hg : g.addr < 0x100000) := State.fld_raise ({ s.failed f with free := n } : State) id data g hid (.inl hg)
  rw [if_neg (by rw [State.mode, hfld _ (by decide)]; exact fun e => hmode (hkeep.symm.trans e)),
    State.jobEnds_idle _ (by rw [State.raise_sys]; exact hflr) (by rw [State.raise_sys]; exact hreq)] at hfails
  rw [hfails, hfld _ (by decide), hfld _ (by decide), hfld _ (by decide), State.raise_sys]
  exact ⟨rfl, hstate, hcause, hidx⟩

/-! ### The start of a sequence (R60) -/

theorem mem_insertNat (n : Nat) (l : List Nat) : n ∈ insertNat n l := by
  induction l with
  | nil => exact List.mem_singleton_self n
  | cons k l ih =>
    unfold insertNat
    split
    · exact List.mem_cons_self
    · split
      case isTrue h => exact h ▸ List.mem_cons_self
      case isFalse => exact List.mem_cons_of_mem _ ih

/-- The quiesce of a core, or of the host's queues, only holds the function (R63). -/
theorem State.quiesceStart_plain (s : State) (t : Nat) (ht : isCore t = true ∨ t = 0x13) :
    s.quiesceStart t = { s with sys := { s.sys with held := insertNat t s.sys.held } } := by
  have hrange : 0x13 ≤ t := by
    rcases ht with h | rfl
    · simp only [isCore, Bool.and_eq_true, decide_eq_true_eq] at h; omega
    · exact Nat.le_refl _
  have hne (k : Nat) (hk : k < 0x13) : ¬ t = k := by omega
  have hlane : isLane t = false := by simp only [isLane, Bool.and_eq_false_iff, decide_eq_false_iff_not]; omega
  simp [State.quiesceStart, hlane, hne]

/-- The sequence of R60 starts for a core, or for the host's queues: its job, its hold, and what MGT_CASTSTAT shows. -/
theorem State.startQuiesce_plain (s : State) (j : LoadJob) (ht : isCore j.target = true ∨ j.target = 0x13) :
    (s.startQuiesce j).sys.job = some { j with since := s.tim.ts, beat := s.beat }
    ∧ (s.startQuiesce j).isHeld j.target = true
    ∧ (s.startQuiesce j).fld MGT_CASTSTAT_STATE = csQuiesce ∧ (s.startQuiesce j).fld MGT_CASTSTAT_PTARGET = j.target
    ∧ (s.startQuiesce j).hst = s.hst ∧ ∀ a, a ≠ MGT_CASTSTAT → (s.startQuiesce j).get a = s.get a := by
  have hlt : j.target < 2 ^ 8 := by
    rcases ht with h | h
    · simp only [isCore, Bool.and_eq_true, decide_eq_true_eq] at h; omega
    · omega
  have hfld (t : State) (y : Sys) (g : Fld) : ({ t with sys := y } : State).fld g = t.fld g := rfl
  simp only [State.startQuiesce, State.quiesceStart_plain _ _ ht, hfld]
  refine ⟨rfl, ?_, ?_, ?_, rfl, fun a ha => ?_⟩
  · exact List.contains_iff_mem.mpr (mem_insertNat _ _)
  · rw [State.fld_setFld_keeps _ _ _ _ (by decide) (by decide), State.fld_setFld_same _ _ _ (by decide)]
    rfl
  · rw [State.fld_setFld_same _ _ _ (by decide)]
    exact Nat.mod_eq_of_lt hlt
  · exact (State.get_setFld_other _ MGT_CASTSTAT_PTARGET _ _ ha).trans (State.get_setFld_other _ MGT_CASTSTAT_STATE _ _ ha)

/-! ### CAST_CHECKED of a partial casting (R55, R60) -/

theorem State.mode_of_beating (s : State) (h : s.beating = true) : s.mode ≠ modeAnneal := by
  simp only [State.beating, Bool.and_eq_true, decide_eq_true_eq] at h
  unfold modeAnneal
  omega

/-- Steps 4 and 5 find nothing wrong with a partial casting: the quiesce of its target starts. -/
theorem State.castChecked_passes (s : State) (j : LoadJob) (c : Casting) (hjob : s.sys.job = some j) (hcast : j.cast = some c)
    (hstate : s.fld MGT_CASTSTAT_STATE = csChecking) (hpart : c.partialC = true) (hfail : s.checkFail j c = none) :
    s.castChecked = s.startQuiesce { j with target := c.target } := by
  unfold State.castChecked
  split
  next hnone => rw [hjob] at hnone; cases hnone
  next k hk =>
    obtain rfl := Option.some.inj (hjob.symm.trans hk)
    split
    next d hd hs =>
      obtain rfl := Option.some.inj (hcast.symm.trans hd)
      split
      next f hf => rw [hfail] at hf; cases hf
      next => exact if_pos hpart
    next hno => exact absurd (by rw [hstate]; rfl) (hno c hcast)

/-- Steps 4 and 5 find something wrong with a casting. -/
theorem State.castChecked_fails (s : State) (j : LoadJob) (c : Casting) (f : CFail) (hjob : s.sys.job = some j)
    (hcast : j.cast = some c) (hstate : s.fld MGT_CASTSTAT_STATE = csChecking) (hfail : s.checkFail j c = some f) :
    s.castChecked = s.loadFails f := by
  simp only [State.castChecked, hjob, hcast, hstate, beq_self_eq_true, hfail]

/-! ### The reset of TIC (R63) -/

/-- A function's registers return to Cold, and the others stay. -/
theorem State.get_coldFunc_other (s : State) (t a : Nat) (h : funcOf a ≠ some t) : (s.coldFunc t).get a = s.get a := by
  have key (l : List (Nat × Word)) (hl : ∀ p ∈ l, funcOf p.1 = some t) (u : State) :
      (l.foldl (fun s p => s.put p.1 (mixWord (clMask p.1) p.2 (coldReg p.1))) u).get a = u.get a := by
    induction l generalizing u with
    | nil => rfl
    | cons p l ih =>
      obtain ⟨hp, hl⟩ := List.forall_mem_cons.mp hl
      rw [List.foldl_cons, ih hl, State.get_put_other _ _ _ _ (fun e => h (by rw [e]; exact hp))]
  refine key _ (fun p hp => ?_) s
  simp only [List.mem_filter, Bool.and_eq_true, beq_iff_eq] at hp
  exact hp.2.1

theorem State.coldFunc_regs (s : State) (t : Nat) : s.coldFunc t = { s with regs := (s.coldFunc t).regs } := by
  unfold State.coldFunc
  generalize s.regs.filter _ = l
  induction l generalizing s with
  | nil => rfl
  | cons p l ih =>
    rw [List.foldl_cons, ih]
    rfl

/-- With no ingot and no casting record a restore only clears its counts (R80). -/
theorem State.restore_bare (s : State) (tgt : Option Nat) (hing : s.cru.ingots = []) (hrecs : s.sys.recs = []) :
    s.restore tgt = s.put MGT_RESTSTAT 0 := by
  simp [State.restore, State.restoreKept, State.keptIngots, initEntries, hing, hrecs]

/-- Planning is closed: SCH plans nothing. -/
theorem State.plan_closed (s : State) (h : s.sch.isOpen = false) : s.plan = { s with sch := { s.sch with owed := false } } := by
  simp [State.plan, State.planning, h]

theorem State.releaseFunc_tic (s : State) : s.releaseFunc 3 = { s with sys := { s.sys with held := s.sys.held.erase 3 } } := rfl

/-- The reset of TIC empties its FIFO, and leaves the rest of the device but its own registers. -/
theorem State.resetTarget_tic (s : State) :
    (s.resetTarget 3).sys = s.sys ∧ (s.resetTarget 3).cru = s.cru ∧ (s.resetTarget 3).sch = s.sch ∧ (s.resetTarget 3).tim.tic.fifo = []
    ∧ ∀ a, funcOf a ≠ some 3 → (s.resetTarget 3).get a = s.get a := by
  have htic : s.resetTarget 3 = s.ticReset.coldFunc 3 := rfl
  rw [htic, State.coldFunc_regs]
  exact ⟨rfl, rfl, rfl, rfl, fun a ha => s.ticReset.get_coldFunc_other 3 a ha⟩

/-- The state in which the reset of a function raises FUNC-RESET (R60, R64). -/
def State.resetDone (s : State) (t : Nat) : State :=
  let v := (((s.setFld MGT_CASTSTAT_STATE csReset).resetTarget t).setFld MGT_CASTSTAT_STATE csLoad).setFld MGT_CASTSTAT_STATE csRestore
  let v := ({ v with sys := { v.sys with held := v.sys.held.erase t } }.restore (some t)).releaseFunc t
  (v.setFld MGT_CASTSTAT_STATE csDone).setJob none

theorem State.finishQuiesce_freset (s : State) (t n b : Nat) :
    s.finishQuiesce ⟨true, .none, t, [], none, n, b⟩ = ((s.resetDone t).raise 6 t).jobEnds.plan := rfl

/-- What the reset of TIC leaves, with no ingot held and no casting record. -/
theorem State.resetDone_tic (s : State) (hing : s.cru.ingots = []) (hrecs : s.sys.recs = []) :
    (s.resetDone 3).sys = { s.sys with held := (s.sys.held.erase 3).erase 3, job := none } ∧ (s.resetDone 3).sch = s.sch
    ∧ (s.resetDone 3).tim.tic.fifo = [] ∧ (s.resetDone 3).fld MGT_CASTSTAT_STATE = csDone
    ∧ (s.resetDone 3).fld (routeCount 6) = s.fld (routeCount 6) := by
  obtain ⟨hsys, hcru, hsch, hfifo, hget⟩ := (s.setFld MGT_CASTSTAT_STATE csReset).resetTarget_tic
  have hcount : ((s.setFld MGT_CASTSTAT_STATE csReset).resetTarget 3).fld (routeCount 6) = s.fld (routeCount 6) :=
    (State.fld_of_get _ (hget _ (by decide))).trans (s.fld_setFld_other_word MGT_CASTSTAT_STATE _ _ (by decide))
  unfold State.resetDone
  generalize (s.setFld MGT_CASTSTAT_STATE csReset).resetTarget 3 = v at hsys hcru hsch hfifo hcount
  dsimp only
  rw [State.restore_bare _ _ (by exact (congrArg Cru.ingots hcru).trans hing) (by exact (congrArg Sys.recs hsys).trans hrecs),
    State.releaseFunc_tic]
  refine ⟨?_, hsch, hfifo, State.fld_setFld_same _ MGT_CASTSTAT_STATE csDone (by decide), ?_⟩
  · simp only [State.setJob, State.setFld_sys, State.put_sys, hsys]
  · refine (State.fld_setFld_other_word _ MGT_CASTSTAT_STATE _ csDone (by decide)).trans ?_
    refine (State.fld_of_get _ (State.get_put_other _ MGT_RESTSTAT _ 0 (by decide))).trans ?_
    refine (State.fld_setFld_other_word _ MGT_CASTSTAT_STATE _ csRestore (by decide)).trans ?_
    exact (State.fld_setFld_other_word _ MGT_CASTSTAT_STATE _ csLoad (by decide)).trans hcount

/-- QUIESCE_COMPLETE of the reset of TIC: its quiesce waits for nothing (R63). -/
theorem State.quiesceComplete_tic (s : State) (n b : Nat) (hjob : s.sys.job = some ⟨true, .none, 3, [], none, n, b⟩)
    (hstate : s.fld MGT_CASTSTAT_STATE = csQuiesce) (hflr : s.sys.flr = false) (hreq : s.sys.heldReq = none)
    (hing : s.cru.ingots = []) (hrecs : s.sys.recs = []) (hopen : s.sch.isOpen = false) :
    ∃ y, s.quiesceComplete = { (s.resetDone 3).raise 6 3 with sch := y } := by
  have hended : s.quiesceEnded 3 n b = true := ite_self (c := (!s.beating) = true) true
  have hfinish : s.quiesceComplete = s.finishQuiesce ⟨true, .none, 3, [], none, n, b⟩ := by
    unfold State.quiesceComplete
    rw [hjob]
    exact if_pos ⟨hstate, hended⟩
  obtain ⟨hdone, hsch, -⟩ := s.resetDone_tic hing hrecs
  have hsys := (State.raise_sys (s.resetDone 3) 6 3).trans hdone
  rw [hfinish, s.finishQuiesce_freset,
    State.jobEnds_idle _ ((congrArg Sys.flr hsys).trans hflr) ((congrArg Sys.heldReq hsys).trans hreq),
    State.plan_closed _ ((congrArg Sch.isOpen ((State.raise_sch _ 6 3).trans hsch)).trans hopen)]
  exact ⟨_, rfl⟩

theorem contains_erase_of_ne (l : List Nat) (k f : Nat) (h : f ≠ k) : (l.erase k).contains f = l.contains f := by
  rw [Bool.eq_iff_iff, List.contains_iff_mem, List.contains_iff_mem, List.mem_erase_of_ne h]

/-! ### Cores that do not yield, and the anti-rollback counter (R51, R63) -/

theorem State.quiesceForced_dormant (s : State) (c n : Nat) (howed : (s.core c).owed = true) (hjob : s.sys.job = none)
    (htrans : s.sys.trans = .dormant n) : s.quiesceForced c = s.forceCore c := by
  simp [State.quiesceForced, howed, hjob, htrans]

/-- The queue keeps its order as its ingots are captured, where no brown-out warning is in force (R85, R86). -/
theorem State.queueNames_fillQueue (s : State) (h : s.isSet MGT_PWRSTAT_BOWARN = false) : s.fillQueue.queueNames = s.queueNames := by
  have hname (q : QIngot) (d : List Nat) : ({ q with data := some d } : QIngot).name = q.name := rfl
  simp only [State.queueNames, State.fillQueue, h, Bool.false_eq_true, if_false, List.map_append, List.map_map, Function.comp_def, hname]
  rw [← List.map_append, List.take_append_drop]

/-- What stands in front with its contents is captured as it is. -/
theorem State.head_fillQueue (s : State) (q : QIngot) (l : List QIngot) (d : List Nat) (h : s.isSet MGT_PWRSTAT_BOWARN = false)
    (hq : s.cru.queue = q :: l) (hd : q.data = some d) : s.fillQueue.cru.queue.head? = some q := by
  have hsame : ({ q with data := some d } : QIngot) = q := by rw [← hd]
  simp [State.fillQueue, h, hq, queueDepth, hd, hsame]

/-- The anti-rollback counter's ingot goes to the front of the queue (R51). -/
theorem State.arbAdvance_queued (s : State) (hlt : s.fld MGT_ARBCNT_COUNT < s.fld MGT_CASTVER_ARBVER)
    (hbo : s.isSet MGT_PWRSTAT_BOWARN = false) :
    s.arbAdvance.cru.queue.head? = some ⟨1, 0, some [s.fld MGT_CASTVER_ARBVER], none⟩
    ∧ s.arbAdvance.queueNames = (1, 0, none) :: s.queueNames := by
  simp only [State.arbAdvance, if_neg (Nat.not_le.mpr hlt)]
  exact ⟨State.head_fillQueue _ _ _ _ hbo rfl rfl, State.queueNames_fillQueue _ hbo⟩

/-- Settles O16, command by command. -/
theorem functionSequence : Obligations.FunctionSequence := by
  unfold Obligations.FunctionSequence
  refine fun s src => ⟨fun j c hjob hcast hstate hpart hcore hbeat hflr hreq => ?checked, fun id hcore hjob htake => ?reset,
    fun c n howed hjob htrans => ?forced, fun n b hjob hstate hflr hreq hing hrecs hopen => ?complete,
    fun htake hlt hbo => ?advance⟩
  case checked =>
    cases hfail : s.checkFail j c with
    | none =>
      obtain ⟨hj, hheld, hst, htgt, -⟩ := s.startQuiesce_plain { j with target := c.target } (.inl hcore)
      exact ⟨_, congrArg Host.Outcome.next (s.castChecked_passes j c hjob hcast hstate hpart hfail), hj, hheld, hst, htgt⟩
    | some f =>
      obtain ⟨hj, hst, hcause, -⟩ := s.loadFails_ends f j hjob (s.mode_of_beating hbeat) hflr hreq
      exact ⟨_, congrArg Host.Outcome.next (s.castChecked_fails j c f hjob hcast hstate hfail), hj, hst, hcause⟩
  case reset =>
    obtain ⟨w, d, hw⟩ := s.write_loaderReg src MGT_FRESET _ (.inr rfl) htake
    rw [s.mgtWrite_freset] at hw
    generalize hu : ({ s with sys := { s.sys with dirty := d } } : State).put MGT_FRESET w = u at hw
    have hujob : u.sys.job = none := by rw [← hu]; exact hjob
    have hbeat : u.beat = s.beat := by rw [← hu]; exact State.fld_of_get _ (State.get_put_other _ _ _ _ (by decide))
    have hts : u.tim.ts = s.tim.ts := by rw [← hu]; rfl
    obtain ⟨hj, hheld, hst, htgt, -⟩ := u.startQuiesce_plain ⟨true, .none, id.toNat, [], none, 0, 0⟩ (.inl hcore)
    have hexec : exec (.functionReset src id) s = .next (u.startReset id.toNat) :=
      congrArg Host.Outcome.next (hw.trans (by simp [State.functionReset, hujob]))
    rw [hbeat, hts] at hj
    exact ⟨_, hexec, hj, hheld, hst, htgt⟩
  case forced =>
    generalize hu : s.setCore c { s.core c with owed := false, due := false, beatPend := none, levels := [], wait := true } = u
    have hforce : s.quiesceForced c = u.raise 7 := by rw [s.quiesceForced_dormant c n howed hjob htrans, ← hu]; rfl
    have hcore : u.core c = { s.core c with owed := false, due := false, beatPend := none, levels := [], wait := true } := by
      rw [← hu, State.core_setCore_same]
    obtain ⟨q, hq⟩ := u.raise_core 7 0 c
    refine ⟨_, congrArg Host.Outcome.next hforce, ?_⟩
    rw [hq, hcore, u.fld_routeCount_raise 7 0 (by decide), ← hu]
    exact ⟨rfl, rfl, rfl, rfl⟩
  case complete =>
    obtain ⟨y, hy⟩ := s.quiesceComplete_tic n b hjob hstate hflr hreq hing hrecs hopen
    obtain ⟨hleft, -, hfifo, hdone, hcount⟩ := s.resetDone_tic hing hrecs
    have hraise := (s.resetDone 3).fld_routeCount_raise 6 3 (by decide)
    have hsys := (State.raise_sys (s.resetDone 3) 6 3).trans hleft
    refine ⟨_, congrArg Host.Outcome.next hy, congrArg Sys.job hsys, fun hone => ?_, fun f hf => ?_, ?_, ?_, ?_⟩
    · refine (congrArg (fun x => List.contains x.held 3) hsys).trans ?_
      simp [List.contains_eq_mem, ← List.count_eq_zero]
      omega
    · exact (congrArg (fun x => List.contains x.held f) hsys).trans ((contains_erase_of_ne _ 3 f hf).trans (contains_erase_of_ne _ 3 f hf))
    · exact (State.fld_raise _ 6 3 MGT_CASTSTAT_STATE (by decide) (.inl (by decide))).trans hdone
    · exact (congrArg (fun x => x.tic.fifo) (State.raise_tim _ 6 3)).trans hfifo
    · exact hraise.trans (by rw [hcount])
  case advance =>
    obtain ⟨w, d, hw⟩ := s.write_loaderReg src MGT_CASTCTL _ (.inl rfl) htake
    rw [s.mgtWrite_arbadv] at hw
    generalize hu : ({ s with sys := { s.sys with dirty := d } } : State).put MGT_CASTCTL w = u at hw
    have hfld (f : Fld) (hf : f.addr ≠ MGT_CASTCTL) : u.fld f = s.fld f := by
      rw [← hu]; exact State.fld_of_get f (State.get_put_other _ _ _ _ hf)
    have hnames : u.queueNames = s.queueNames := by rw [← hu]; rfl
    obtain ⟨hhead, hqueue⟩ := u.arbAdvance_queued (by rw [hfld _ (by decide), hfld _ (by decide)]; exact hlt)
      (by rw [State.isSet, hfld _ (by decide)]; exact hbo)
    rw [hfld _ (by decide)] at hhead
    exact ⟨_, congrArg Host.Outcome.next hw, hhead, hnames ▸ hqueue⟩

end Sys2Proof.Machine

/-! What a failed load shows, and the one state of affairs in which its cause is lost: an ANNEAL request that waits for the loader (R56,
R70). -/

namespace Sys2Proof.Machine

open Sys2Proof.Fields

/-! ### The cause of a failed load (R56) -/

/-- What a source's turn leaves of the registers: all but MGT_CASTSTAT and MGT_MODE. -/
theorem State.get_startLoad_other (s : State) (f : CastFrom) (a : Nat) (hstat : a ≠ MGT_CASTSTAT) (hmode : a ≠ MGT_MODE) :
    (s.startLoad f).get a = s.get a := by
  have hfetch (t : State) : (t.fetchFrom f).get a = t.get a := by
    unfold State.fetchFrom
    split
    · rfl
    · rfl
    · split <;> rfl
    · rfl
  unfold State.startLoad
  rw [hfetch, State.get_setFld_other _ _ _ _ hmode, State.get_setFld_other _ _ _ _ hstat]
  rfl

theorem State.get_nextSource_other (s : State) (f : CastFrom) (a : Nat) (hstat : a ≠ MGT_CASTSTAT) (hmode : a ≠ MGT_MODE) :
    (s.nextSource f).get a = s.get a := by
  unfold State.nextSource State.takeHeld
  split
  · exact s.get_startLoad_other _ a hstat hmode
  · split
    · exact State.get_startLoad_other _ _ a hstat hmode
    · exact State.get_setFld_other _ _ _ _ hmode

/-- With no mode request held, the end of a job changes no register but MGT_CASTSTAT. -/
theorem State.get_jobEnds_other (s : State) (a : Nat) (hreq : s.sys.heldReq = none) (hstat : a ≠ MGT_CASTSTAT) :
    s.jobEnds.get a = s.get a := by
  unfold State.jobEnds
  split
  · obtain ⟨-, -, -, -, -, hget⟩ := State.startQuiesce_plain ({ s with sys := { s.sys with flr := false } } : State)
      ⟨true, .none, 0x13, [], none, 0, 0⟩ (.inr rfl)
    exact hget a hstat
  · simp only [State.heldRequest, hreq]

/-- With no mode request held, a load that fails shows its cause. -/
theorem State.castErr_loadFails (s : State) (f : CFail) (j : LoadJob) (hjob : s.sys.job = some j) (hreq : s.sys.heldReq = none) :
    (s.loadFails f).fld MGT_CASTERR_CAUSE = f.1 % 256 ∧ (s.loadFails f).fld MGT_CASTERR_RECIDX = f.2 % 65536 := by
  obtain ⟨v, n, id, data, hid, hv, hfails⟩ := s.loadFails_eq f j hjob
  obtain ⟨hcause, hidx, -⟩ := s.fld_failed f
  have hget : (s.loadFails f).get MGT_CASTERR = (s.failed f).get MGT_CASTERR := by
    have hraise : v.get MGT_CASTERR = (s.failed f).get MGT_CASTERR := by
      rw [hv]
      exact State.get_raise _ id data _ hid (.inl (by decide))
    rw [hfails, ← hraise]
    split
    · exact v.get_nextSource_other _ _ (by decide) (by decide)
    · exact v.get_jobEnds_other _ (by rw [hv, State.raise_sys]; exact hreq) (by decide)
  exact ⟨(State.fld_of_get _ hget).trans hcause, (State.fld_of_get _ hget).trans hidx⟩

/-- The clause of O15 on a source that could not be read, in every state with no mode request held. -/
theorem castStaged_unread_shows_source (s : State) (j : LoadJob) (hjob : s.sys.job = some j)
    (hstate : s.fld MGT_CASTSTAT_STATE = csStaging) (hfrom : j.from_ = .flashMain ∨ j.from_ = .flashSafe)
    (hreq : s.sys.heldReq = none) :
    ∃ t, exec (.castStaged none) s = .next t ∧ t.fld MGT_CASTERR_CAUSE = ceSource := by
  obtain ⟨hcause, -⟩ := s.castErr_loadFails (ceSource, noRec) j hjob hreq
  have hsource : s.sourceImage j.from_ none = (none, s) := by
    rcases hfrom with h | h <;> rw [h] <;> rfl
  exact ⟨_, congrArg Host.Outcome.next (by simp [State.castStaged, hjob, hstate, hsource]), hcause⟩

/-! ### A held ANNEAL request -/

/-- A device in SURVEY that stages the safe flash image, with an ANNEAL request held until the loader is free. -/
def State.annealHeld : State :=
  (State.setFld { State.reset with
      sys := { State.reset.sys with job := some ⟨false, .flashSafe, 0, [], none, 0, 0⟩, heldReq := some modeAnneal } }
    MGT_MODE_MODE modeSurvey).setFld MGT_CASTSTAT_STATE csStaging

theorem staging_annealHeld : State.annealHeld.fld MGT_CASTSTAT_STATE = csStaging := by
  decide +kernel

/-- Its flash holds 64 octets that are no header. -/
theorem flashImage_annealHeld :
    (State.annealHeld.flashImage .flashSafe (List.replicate 64 0)).1 = some (List.replicate 64 0) := by
  decide +kernel

/-- The restart that the request brings returns MGT_CASTERR to Cold. -/
theorem castErr_annealHeld : (State.annealHeld.castStaged none).fld MGT_CASTERR_CAUSE = 0 := by
  decide +kernel

/-- Refutes O15 in its clause on a source that could not be read, which speaks of every state, and so of one in which an ANNEAL request
waits for the loader: the load's end carries that request out, and the restart clears MGT_CASTERR. No command holds an ANNEAL request
(R70); with none held the clause holds, by `castStaged_unread_shows_source`. -/
theorem not_loaderStages : ¬ Obligations.LoaderStages := by
  unfold Obligations.LoaderStages
  intro h
  obtain ⟨-, -, hstaged, -⟩ := h State.annealHeld .pcie
  obtain ⟨-, -, t, hexec, hcause⟩ := hstaged _ _ _ rfl staging_annealHeld (.inr rfl) flashImage_annealHeld
  obtain rfl := Host.Outcome.next.inj hexec
  exact absurd (hcause.symm.trans castErr_annealHeld) (by decide)

end Sys2Proof.Machine

/-! Changes of the link, and a Function Level Reset: what they leave of the held records, the queues and the registers (R63, R290, R420). -/

namespace Sys2Proof.Machine

open Sys2Proof.Fields

/-! ### The held records (R432, R434) -/

/-- `t` holds the express records of `s`, and the event records of `s` with at most `k` more. -/
structure State.Holds (k : Nat) (s t : State) : Prop where
  evBuf : ∃ l, t.hst.evBuf.length = s.hst.evBuf.length + l ∧ l ≤ k
  xBuf : t.hst.xBuf = s.hst.xBuf

theorem State.holds_of_hst {s t : State} (h : t.hst = s.hst) : State.Holds 0 s t := ⟨⟨0, by rw [h]; rfl, Nat.le_refl 0⟩, by rw [h]⟩

theorem State.Holds.trans {k m : Nat} {s t u : State} (h : State.Holds k s t) (h' : State.Holds m t u) : State.Holds (k + m) s u := by
  obtain ⟨⟨l, hl, hk⟩, hx⟩ := h
  obtain ⟨⟨n, hn, hm⟩, hx'⟩ := h'
  exact ⟨⟨l + n, by omega, by omega⟩, hx'.trans hx⟩

theorem length_renumber (n : Nat) (l : List EvRec) : (renumber n l).length = l.length := by
  induction l with
  | nil => rfl
  | cons r l ih =>
    cases l with
    | nil => rfl
    | cons q l => exact congrArg (· + 1) ih

theorem length_insertRecord (x : EvRec) (l : List EvRec) : (insertRecord x l).length = l.length + 1 := by
  induction l with
  | nil => rfl
  | cons r l ih =>
    unfold insertRecord
    split
    · exact congrArg (· + 1) (length_renumber _ _)
    · exact congrArg (· + 1) ih

theorem State.holds_sendVector (s : State) (v : Nat) : State.Holds 0 s (s.sendVector v) := by
  refine ⟨⟨0, by rw [s.sendVector_evBuf]; rfl, Nat.le_refl 0⟩, ?_⟩
  unfold State.sendVector
  dsimp only
  split <;> rfl

theorem State.holds_eventVector (s : State) (id : Nat) : State.Holds 0 s (s.eventVector id) := by
  unfold State.eventVector State.signalVector
  split
  · split
    · exact State.holds_of_hst rfl
    · exact s.holds_sendVector _
  · exact State.holds_of_hst rfl

theorem State.countEvent_hst (s : State) (id data : Nat) : (s.countEvent id data).hst = s.hst := by
  have key (w : Word) (l : List Nat) (t : State) :
      (l.foldl (fun s c => if w.getLsbD (16 + c) then s.toCore c id data else s) t).hst = t.hst := by
    induction l generalizing t with
    | nil => rfl
    | cons c l ih =>
      rw [List.foldl_cons, ih]
      split
      · unfold State.toCore
        split
        · rfl
        · split <;> rfl
      · rfl
  exact key _ _ _

theorem State.holds_dropRecord (s : State) (id : Nat) : State.Holds 0 s (s.dropRecord id) := by
  have hlost : State.Holds 0 s
      { s.count HST_ERSTAT_LOST with hst := { s.hst with evLost := s.hst.evLost + 1, evFull := true } } := ⟨⟨0, rfl, Nat.le_refl 0⟩, rfl⟩
  unfold State.dropRecord
  refine State.Holds.trans (k := 0) ?_ (State.holds_eventVector _ id)
  split
  · exact hlost.trans (State.holds_of_hst (State.countEvent_hst _ _ _))
  · exact hlost

theorem State.holds_generateRecord (s : State) (id data : Nat) : State.Holds 1 s (s.generateRecord id data) := by
  have hseq : State.Holds 0 s s.takeSeq.2 := State.holds_of_hst rfl
  unfold State.generateRecord
  dsimp only
  split
  · refine ⟨⟨1, ?_, Nat.le_refl 1⟩, rfl⟩
    dsimp only
    split
    · exact length_insertRecord _ _
    · exact List.length_append
  · obtain ⟨⟨l, hl, hk⟩, hx⟩ := hseq.trans (State.holds_dropRecord s.takeSeq.2 id)
    exact ⟨⟨l, hl, by omega⟩, hx⟩

/-- An event loses no record that is held, and adds at most its own (R432). -/
theorem State.holds_raise (s : State) (id data : Nat) : State.Holds 1 s (s.raise id data) := by
  have hcount : State.Holds 0 s (s.countEvent id data) := State.holds_of_hst (s.countEvent_hst id data)
  have hmono {t : State} (h : State.Holds 0 s t) : State.Holds 1 s t := by
    obtain ⟨⟨l, hl, hk⟩, hx⟩ := h
    exact ⟨⟨l, hl, by omega⟩, hx⟩
  unfold State.raise
  dsimp only
  split
  · exact hmono hcount
  · split
    · exact hcount.trans (State.holds_generateRecord _ id data)
    · exact hmono (hcount.trans (State.holds_eventVector _ id))

/-! ### What follows a change of the link (R420, R290) -/

/-- A state with the place of the shadow pass, and all that raising an event may change, taken out. -/
def State.besidePass (s : State) : State :=
  { s.besideEvents with fwd := { s.fwd with shTab := 0, shOfs := 0 } }

theorem State.besidePass_of_besideEvents {s t : State} (h : t.besideEvents = s.besideEvents) : t.besidePass = s.besidePass := by
  have hfwd : t.fwd = s.fwd := by have hf := congrArg State.fwd h; exact hf
  unfold State.besidePass
  rw [h, hfwd]

theorem State.eq_of_besideEvents {s t : State} (h : t.besideEvents = s.besideEvents) :
    t = { s with regs := t.regs, hst := t.hst, out := t.out, cores := t.cores } := by
  cases s; cases t
  simp only [State.besideEvents, State.mk.injEq] at h
  simp [h]

theorem Fwd.eq_of_besidePlace {f g : Fwd} (h : { g with shTab := 0, shOfs := 0 } = { f with shTab := 0, shOfs := 0 }) :
    g = { f with shTab := g.shTab, shOfs := g.shOfs } := by
  cases f; cases g
  simp only [Fwd.mk.injEq] at h
  simp [h]

theorem State.eq_of_besidePass {s t : State} (h : t.besidePass = s.besidePass) :
    t = { s with regs := t.regs, hst := t.hst, out := t.out, cores := t.cores,
                 fwd := { s.fwd with shTab := t.fwd.shTab, shOfs := t.fwd.shOfs } } := by
  rw [← Fwd.eq_of_besidePlace (congrArg State.fwd h)]
  cases s; cases t
  simp only [State.besidePass, State.besideEvents, State.mk.injEq] at h
  simp [h]

/-- `t` follows from `s` by what a change of the link sets going: vectors, reads and events of the shadow compare, and its place. -/
structure State.Passes (s t : State) : Prop where
  stat : t.get HST_STAT = s.get HST_STAT
  count : t.fld (routeCount 244) = s.fld (routeCount 244)
  xBuf : t.hst.xBuf = s.hst.xBuf
  queues : t.hst.queues = s.hst.queues
  rest : t.besidePass = s.besidePass

theorem State.Passes.refl (s : State) : s.Passes s := ⟨rfl, rfl, rfl, rfl, rfl⟩

theorem State.Passes.trans {s t u : State} (h : s.Passes t) (h' : t.Passes u) : s.Passes u :=
  ⟨h'.stat.trans h.stat, h'.count.trans h.count, h'.xBuf.trans h.xBuf, h'.queues.trans h.queues, h'.rest.trans h.rest⟩

theorem State.Passes.linkUp {s t : State} (h : s.Passes t) : t.linkUp = s.linkUp := by
  simp only [State.linkUp, State.isSet, State.fld_of_get HST_STAT_LINKUP h.stat]

theorem State.passes_emit (s : State) (o : Out) : s.Passes (s.emit o) := ⟨rfl, rfl, rfl, rfl, rfl⟩

theorem State.passes_place (s : State) (t o : Nat) : s.Passes { s with fwd := { s.fwd with shTab := t, shOfs := o } } :=
  ⟨rfl, rfl, rfl, rfl, rfl⟩

theorem State.passes_setFld (s : State) (f : Fld) (v : Nat) (hstat : HST_STAT ≠ f.addr) (hcount : (routeCount 244).addr ≠ f.addr) :
    s.Passes (s.setFld f v) :=
  ⟨s.get_setFld_other f v _ hstat, s.fld_setFld_other_word f _ v hcount, rfl, rfl, rfl⟩

theorem besideSignals_hstStat : besideSignals HST_STAT := by
  refine ⟨by decide, by decide, by decide, by decide, fun c hc => ?_⟩
  simp only [HST_STAT, CHB_CEVQ]
  omega

/-- Raising an event leaves the link's registers. -/
theorem State.raise_hstStat (s : State) (id data : Nat) : (s.raise id data).get HST_STAT = s.get HST_STAT :=
  ((s.signals_raise id data).regs _ besideSignals_hstStat).trans
    (s.get_count_other _ _ (by simp only [HST_STAT, routeCount]; omega))

theorem State.raise_queues (s : State) (id data : Nat) : (s.raise id data).hst.queues = s.hst.queues := (s.signals_raise id data).queues

/-- An event other than 244 itself. -/
theorem State.passes_raise (s : State) (id data : Nat) (h : id ≠ 244) : s.Passes (s.raise id data) := by
  refine ⟨s.raise_hstStat id data, ?_, (s.holds_raise id data).xBuf, s.raise_queues id data,
    State.besidePass_of_besideEvents (s.besideEvents_raise id data)⟩
  rw [State.fld_of_get _ ((s.signals_raise id data).regs _ (besideSignals_routeCount 244 (by decide)))]
  exact s.fld_count_other_word _ _ (by simp only [routeCount]; omega)

theorem State.passes_sendVector (s : State) (v : Nat) : s.Passes (s.sendVector v) := by
  have hsignal := s.signals_sendVector v
  exact ⟨hsignal.regs _ besideSignals_hstStat, State.fld_of_get _ (hsignal.regs _ (besideSignals_routeCount 244 (by decide))),
    (s.holds_sendVector v).xBuf, hsignal.queues, State.besidePass_of_besideEvents (s.besideEvents_sendVector v)⟩

theorem State.passes_flushVectors (s : State) (l : List Nat) : s.Passes (l.foldl (fun s v => s.flushVector v) s) := by
  induction l generalizing s with
  | nil => exact .refl s
  | cons v l ih =>
    rw [List.foldl_cons]
    refine State.Passes.trans ?_ (ih _)
    unfold State.flushVector
    split
    · exact s.passes_sendVector v
    · exact .refl s

theorem State.passes_shadowStall (s : State) : s.Passes s.shadowStall := by
  unfold State.shadowStall
  split
  · exact .refl s
  · exact (s.passes_setFld FWD_SHSTAT_STALLED 1 (by decide) (by decide)).trans (State.passes_raise _ 164 0 (by decide))

theorem State.passes_shadowAsk (s : State) (t ofs len : Nat) : s.Passes (s.shadowAsk t ofs len) := by
  unfold State.shadowAsk
  split
  · exact s.passes_emit _
  · exact s.passes_shadowStall

theorem State.passes_shadowNextTable (s : State) : s.Passes s.shadowNextTable := by
  unfold State.shadowNextTable
  split
  · exact s.passes_place _ _
  · exact (s.passes_place 0 0).trans (State.passes_raise _ 163 0 (by decide))

theorem State.passes_shadowSkip (s : State) (n : Nat) : s.Passes (s.shadowSkip n) := by
  induction n generalizing s with
  | zero => exact .refl s
  | succ n ih =>
    unfold State.shadowSkip
    split
    · exact .refl s
    · exact s.passes_shadowNextTable.trans (ih _)

theorem State.passes_shadowFetch (s : State) : s.Passes s.shadowFetch := by
  have hskip := s.passes_shadowSkip 4
  unfold State.shadowFetch
  dsimp only
  split
  · exact .refl s
  · split
    · exact hskip.trans (State.passes_shadowAsk _ _ _ _)
    · exact hskip

theorem State.passes_shadowReread (s : State) (b : Option Nat) : s.Passes (s.shadowReread b) := by
  unfold State.shadowReread
  split
  · exact .refl s
  · generalize s.fwd.shMis = l
    clear * -
    induction l generalizing s with
    | nil => exact .refl s
    | cons m l ih =>
      rw [List.foldl_cons]
      refine State.Passes.trans ?_ (ih _)
      split
      · exact s.passes_shadowAsk _ _ _
      · exact .refl s

theorem State.passes_shadowReach (s : State) : s.Passes s.shadowReach := by
  unfold State.shadowReach
  split
  · exact s.passes_shadowFetch.trans (State.passes_shadowReread _ none)
  · split
    · exact s.passes_shadowStall
    · exact .refl s

/-! ### The link goes down, and comes up again (R420) -/

/-- With the link down the shadow compare at most stalls. -/
theorem State.shadowReach_down (s : State) (h : s.linkUp = false) :
    State.Holds 1 s s.shadowReach ∧ s.shadowReach.besideEvents = s.besideEvents := by
  have hnone : State.Holds 1 s s := ⟨⟨0, rfl, Nat.zero_le 1⟩, rfl⟩
  simp only [State.shadowReach, h, Bool.false_eq_true, if_false]
  split
  · unfold State.shadowStall
    split
    · exact ⟨hnone, rfl⟩
    · have hset : State.Holds 0 s (s.setFld FWD_SHSTAT_STALLED 1) := State.holds_of_hst rfl
      exact ⟨hset.trans (State.holds_raise _ 164 0), by rw [State.besideEvents_raise, State.besideEvents_setFld]⟩
  · exact ⟨hnone, rfl⟩

/-- The state in which the loss of the link raises its event. -/
def State.linkLost (s : State) : State :=
  { (s.setFld HST_STAT_LINKUP 0).setFld HST_STAT_BME 0 with hst := { s.hst with wentDown := true } }

theorem State.linkDown_up (s : State) (h : s.linkUp = true) : s.linkDown = (s.linkLost.raise 244).shadowReach := by
  simp only [State.linkDown, h, Bool.not_true, Bool.false_eq_true, if_false]
  rfl

theorem State.linkLost_linkUp (s : State) : s.linkLost.linkUp = false := by
  have hfld : s.linkLost.fld HST_STAT_LINKUP = 0 :=
    (State.fld_setFld_keeps _ HST_STAT_BME HST_STAT_LINKUP 0 (by decide) (by decide)).trans
      (s.fld_setFld_same HST_STAT_LINKUP 0 (by decide))
  simp only [State.linkUp, State.isSet, hfld]
  rfl

/-- The state in which the return of the link lets the waiting vectors go. -/
def State.linkGained (s : State) (speed width : Nat) (bme : Bool) : State :=
  let s := if s.hst.wentDown then s.count HST_STAT_DOWNS else s
  let s := { s with hst := { s.hst with wentDown := false } }
  (((s.setFld HST_STAT_LINKUP 1).setFld HST_STAT_SPEED speed).setFld HST_STAT_WIDTH width).setBit HST_STAT_BME bme

theorem State.linkRises_down (s : State) (speed width : Nat) (bme : Bool) (h : s.linkUp = false) :
    s.linkRises speed width bme
      = (((List.range 32).foldl (fun s v => s.flushVector v) (s.linkGained speed width bme)).raise 244).shadowReach := by
  simp only [State.linkRises, h, Bool.false_eq_true, if_false]
  rfl

/-- What HST_STAT shows of the link that has come up. -/
theorem State.linkGained_stat (s : State) (speed : Fin 3) (width : Fin 4) (bme : Bool) :
    (s.linkGained speed width bme).fld HST_STAT_LINKUP = 1 ∧ (s.linkGained speed width bme).fld HST_STAT_SPEED = speed.val
    ∧ (s.linkGained speed width bme).fld HST_STAT_WIDTH = width.val
    ∧ (s.linkGained speed width bme).fld HST_STAT_BME = (if bme then 1 else 0)
    ∧ (s.linkGained speed width bme).fld HST_STAT_DOWNS
      = (if s.hst.wentDown then min (s.fld HST_STAT_DOWNS + 1) (2 ^ HST_STAT_DOWNS.len - 1) else s.fld HST_STAT_DOWNS) := by
  have hspeed : speed.val % 2 ^ 2 = speed.val := Nat.mod_eq_of_lt (by omega)
  have hwidth : width.val % 2 ^ 2 = width.val := Nat.mod_eq_of_lt (by omega)
  have hst (t : State) (h : Hst) (f : Fld) : ({ t with hst := h } : State).fld f = t.fld f := rfl
  simp only [State.linkGained, State.setBit]
  simp (disch := decide) only [State.fld_setFld_keeps, State.fld_setFld_same]
  refine ⟨rfl, hspeed, hwidth, ?_, ?_⟩
  · cases bme <;> rfl
  · rw [hst]
    split
    · exact s.fld_count_same HST_STAT_DOWNS (by decide)
    · rfl

/-- What the return of the link leaves beside HST_STAT. -/
theorem State.linkGained_rest (s : State) (speed width : Nat) (bme : Bool) :
    (s.linkGained speed width bme).fld (routeCount 244) = s.fld (routeCount 244)
    ∧ (s.linkGained speed width bme).hst = { s.hst with wentDown := false }
    ∧ (s.linkGained speed width bme).besidePass = s.besidePass := by
  have hst (t : State) (h : Hst) (f : Fld) : ({ t with hst := h } : State).fld f = t.fld f := rfl
  have hcounted : ∃ u : State, u = (if s.hst.wentDown then s.count HST_STAT_DOWNS else s) ∧ u.hst = s.hst
      ∧ u.fld (routeCount 244) = s.fld (routeCount 244) ∧ u.besideEvents = s.besideEvents := by
    split
    · exact ⟨_, rfl, rfl, s.fld_count_other_word HST_STAT_DOWNS _ (by decide), s.besideEvents_count _⟩
    · exact ⟨_, rfl, rfl, rfl, rfl⟩
  obtain ⟨u, hu, huhst, hucount, hurest⟩ := hcounted
  simp only [State.linkGained, ← hu]
  refine ⟨?_, ?_, State.besidePass_of_besideEvents ?_⟩
  · simp only [State.setBit]
    simp (disch := decide) only [State.fld_setFld_keeps, hst, hucount]
  · simp only [State.setBit_hst, State.setFld_hst, huhst]
  · simp only [State.besideEvents_setBit, State.besideEvents_setFld, State.besideEvents_hst, hurest]

/-- From the return of the link on: waiting vectors, event 244, and the shadow compare. -/
theorem State.linkRises_effect (s : State) (speed width : Nat) (bme : Bool) (h : s.linkUp = false) :
    let u := s.linkGained speed width bme
    let t := s.linkRises speed width bme
    t.get HST_STAT = u.get HST_STAT ∧ t.fld (routeCount 244) = min (u.fld (routeCount 244) + 1) 0xFFFFFFFF
    ∧ t.hst.xBuf = u.hst.xBuf ∧ t.hst.queues = u.hst.queues ∧ t.besidePass = u.besidePass := by
  dsimp only
  rw [s.linkRises_down speed width bme h]
  have hflush := (s.linkGained speed width bme).passes_flushVectors (List.range 32)
  generalize (List.range 32).foldl (fun s v => s.flushVector v) (s.linkGained speed width bme) = v at hflush
  have hreach := (v.raise 244).passes_shadowReach
  refine ⟨?_, ?_, ?_, ?_, ?_⟩
  · exact hreach.stat.trans ((v.raise_hstStat 244 0).trans hflush.stat)
  · rw [hreach.count, v.fld_routeCount_raise 244 0 (by decide), hflush.count]
  · exact hreach.xBuf.trans ((v.holds_raise 244 0).xBuf.trans hflush.xBuf)
  · exact hreach.queues.trans ((v.raise_queues 244 0).trans hflush.queues)
  · exact hreach.rest.trans ((State.besidePass_of_besideEvents (v.besideEvents_raise 244 0)).trans hflush.rest)

/-! ### A Function Level Reset (R420) -/

theorem State.get_coldRange (s : State) (lo hi a : Nat) :
    (s.coldRange lo hi).get a = if lo ≤ a ∧ a < hi then coldReg a else s.get a := by
  unfold State.coldRange State.get
  dsimp only
  generalize s.regs = l
  induction l with
  | nil => exact (ite_self _).symm
  | cons p l ih =>
    obtain ⟨k, v⟩ := p
    by_cases hk : lo ≤ k ∧ k < hi
    · have hdrop : List.filter (fun p : Nat × Word => !(decide (lo ≤ p.1) && decide (p.1 < hi))) ((k, v) :: l)
          = l.filter (fun p => !(decide (lo ≤ p.1) && decide (p.1 < hi))) := List.filter_cons_of_neg (by simp [hk])
      rw [hdrop, ih]
      split
      · rfl
      · have hne : a ≠ k := by rintro rfl; contradiction
        exact (if_neg hne).symm
    · have hkeep : List.filter (fun p : Nat × Word => !(decide (lo ≤ p.1) && decide (p.1 < hi))) ((k, v) :: l)
          = (k, v) :: l.filter (fun p => !(decide (lo ≤ p.1) && decide (p.1 < hi))) :=
        List.filter_cons_of_pos (by simp; omega)
      rw [hkeep]
      by_cases hak : a = k
      · subst hak
        simp [tabGet, hk]
      · simpa [tabGet, hak] using ih

/-- Offsets that a Function Level Reset returns to Cold: the rings, the vectors, and the MSI-X table with its pending array. -/
def flrAddr (a : Nat) : Prop :=
  (0x100010 ≤ a ∧ a < 0x10002C) ∨ (0x100030 ≤ a ∧ a < 0x100048) ∨ (0x100080 ≤ a ∧ a < 0x100100) ∨ (0x101000 ≤ a ∧ a < 0x101808)

theorem State.get_flrRegisters (s : State) (a : Nat) (h : flrAddr a) : s.flrRegisters.get a = coldReg a := by
  have hhst (t : State) (x : Hst) : ({ t with hst := x } : State).get a = t.get a := rfl
  simp only [State.flrRegisters, hhst, State.get_coldRange]
  unfold flrAddr at h
  split
  · rfl
  split
  · rfl
  split
  · rfl
  · rw [if_pos (by omega)]

/-- The buffers outlive the reset, and every HOLDOFF ends with it. -/
theorem State.flrRegisters_hst (s : State) : s.flrRegisters.hst = { s.hst with holdoff := [] } := rfl

/-- The reset of 0x13 that follows starts at once or waits, and changes no register but MGT_CASTSTAT. -/
theorem State.flrReset_effect (s : State) :
    s.flrReset.hst = s.hst ∧ (∀ a, a ≠ MGT_CASTSTAT → s.flrReset.get a = s.get a)
    ∧ (s.isCast 0x13 = true → s.sys.job.isSome = false → s.flrReset.isHeld 0x13 = true ∧ s.flrReset.fld MGT_CASTSTAT_STATE = csQuiesce)
    ∧ (s.isCast 0x13 = true → s.sys.job.isSome = true → s.flrReset.sys.flr = true ∧ s.flrReset.sys.job = s.sys.job) := by
  unfold State.flrReset
  cases hcast : s.isCast 0x13 with
  | false => exact ⟨rfl, fun _ _ => rfl, nofun, nofun⟩
  | true =>
    cases hjob : s.sys.job.isSome with
    | true => exact ⟨rfl, fun _ _ => rfl, nofun, fun _ _ => ⟨rfl, rfl⟩⟩
    | false =>
      obtain ⟨-, hheld, hstate, -, hhst, hget⟩ := s.startQuiesce_plain ⟨true, .none, 0x13, [], none, 0, 0⟩ (.inr rfl)
      exact ⟨hhst, hget, fun _ _ => ⟨hheld, hstate⟩, nofun⟩

theorem exec_pcieFlr (s : State) (hon : s.sys.power = .on) : exec .pcieFlr s = .next s.flrRegisters.flrReset :=
  congrArg Host.Outcome.next (if_pos hon)

/-- Settles O47: each link change from the state in which it raises its event, and the Function Level Reset from the registers that it
clears. -/
theorem linkChanges : Obligations.LinkChanges := by
  unfold Obligations.LinkChanges
  refine fun s => ⟨fun hup => ?down, fun speed width bme hdown => ?up, fun hon => ?flr⟩
  case down =>
    have hstat := s.linkLost.raise_hstStat 244 0
    have hlinkdown : (s.linkLost.raise 244).linkUp = false := by
      rw [← s.linkLost_linkUp]
      simp only [State.linkUp, State.isSet, State.fld_of_get HST_STAT_LINKUP hstat]
    have hpass := (s.linkLost.raise 244).passes_shadowReach
    obtain ⟨hreach, hrest⟩ := (s.linkLost.raise 244).shadowReach_down hlinkdown
    have hlost : State.Holds 0 s s.linkLost := ⟨⟨0, rfl, Nat.le_refl 0⟩, rfl⟩
    obtain ⟨hev, hx⟩ := (hlost.trans (s.linkLost.holds_raise 244 0)).trans hreach
    have hcount : s.linkLost.fld (routeCount 244) = s.fld (routeCount 244) :=
      (State.fld_setFld_other_word _ HST_STAT_BME _ 0 (by decide)).trans (s.fld_setFld_other_word HST_STAT_LINKUP _ 0 (by decide))
    refine ⟨_, congrArg Host.Outcome.next (s.linkDown_up hup), hpass.linkUp.trans hlinkdown, ?_, hev, hx, ?_, ?_⟩
    · rw [hpass.count, s.linkLost.fld_routeCount_raise 244 0 (by decide), hcount]
    · exact hpass.queues.trans (s.linkLost.raise_queues 244 0)
    · exact State.eq_of_besideEvents (hrest.trans (s.linkLost.besideEvents_raise 244 0))
  case up =>
    obtain ⟨hup, hspeed, hwidth, hbme, hdowns⟩ := s.linkGained_stat speed width bme
    obtain ⟨hcount, hhst, hrest⟩ := s.linkGained_rest speed width bme
    obtain ⟨hstat, hraised, hx, hq, hpass⟩ := s.linkRises_effect speed width bme hdown
    have hfld (f : Fld) (hf : f.addr = HST_STAT) :
        (s.linkRises speed width bme).fld f = (s.linkGained speed width bme).fld f := State.fld_of_get f (by rw [hf]; exact hstat)
    refine ⟨s.linkRises speed width bme, rfl, ?_, (hfld _ rfl).trans hspeed, (hfld _ rfl).trans hwidth, ?_, (hfld _ rfl).trans hdowns,
      by rw [hraised, hcount], by rw [hx, hhst], by rw [hq, hhst], State.eq_of_besidePass (hpass.trans hrest)⟩
    · simp only [State.linkUp, State.isSet, hfld HST_STAT_LINKUP rfl, hup]
      rfl
    · rw [State.isSet, hfld HST_STAT_BME rfl, hbme]
      cases bme <;> rfl
  case flr =>
    obtain ⟨hhst, hget, hstart, hwait⟩ := s.flrRegisters.flrReset_effect
    rw [s.flrRegisters_hst] at hhst
    have hcold (a : Nat) (h : flrAddr a) : s.flrRegisters.flrReset.get a = coldReg a :=
      (hget a (by rintro rfl; unfold flrAddr at h; simp only [MGT_CASTSTAT] at h; omega)).trans (s.get_flrRegisters a h)
    refine ⟨_, exec_pcieFlr s hon, fun a ha => hcold a ?_, fun v => ⟨hcold _ ?_, fun w => hcold _ ?_⟩, ?_, ?_, ?_, hstart, hwait⟩
    · revert a; unfold flrAddr; decide
    · simp only [flrAddr, HST_VECCFG]; omega
    · simp only [flrAddr, msixEntry]; omega
    · rw [hhst]
    · rw [hhst]
    · exact ⟨0, by rw [hhst]; rfl, Nat.zero_le 1⟩

end Sys2Proof.Machine

/-! Rejected writes: what the capture of a reject leaves, and the order of the causes (R95, R96). -/

namespace Sys2Proof.Machine

open Sys2Proof.Fields

/-! ### The captured reject (R96) -/

/-- The words that a capture writes. -/
theorem State.captureReject_eq (s : State) (l : List RejIn) (n : Nat) (r : RejIn) (h : firstReject l = some r) :
    s.captureReject l n = (s.setFld MGT_REJ_ADDR_ADDR r.addr).put MGT_REJ_INFO (putAll 0 [(MGT_REJ_INFO_PEND, 1),
      (MGT_REJ_INFO_SOURCE, min r.rank 2), (MGT_REJ_INFO_CORE, r.rank - 2), (MGT_REJ_INFO_COUNT, min n 255),
      (MGT_REJ_INFO_CAUSE, r.cause)]) := by
  simp only [State.captureReject, h]

/-- What the registers of rejects show after a capture. -/
theorem State.captureReject_shows (s : State) (l : List RejIn) (n : Nat) (r : RejIn) (h : firstReject l = some r) :
    (s.captureReject l n).fld MGT_REJ_INFO_PEND = 1
    ∧ (s.captureReject l n).fld MGT_REJ_INFO_COUNT = min n 255
    ∧ (s.captureReject l n).fld MGT_REJ_INFO_CAUSE = r.cause % 2 ^ MGT_REJ_INFO_CAUSE.len
    ∧ (s.captureReject l n).fld MGT_REJ_INFO_SOURCE = min r.rank 2
    ∧ (s.captureReject l n).fld MGT_REJ_INFO_CORE = (r.rank - 2) % 2 ^ MGT_REJ_INFO_CORE.len
    ∧ (s.captureReject l n).fld MGT_REJ_ADDR_ADDR = r.addr % 2 ^ MGT_REJ_ADDR_ADDR.len := by
  have hinfo (u : State) (w : Word) (f : Fld) (hf : f.addr = MGT_REJ_INFO) : (u.put MGT_REJ_INFO w).fld f = getFld w f := by
    rw [State.fld, hf, State.get_put_same]
  rw [s.captureReject_eq l n r h]
  refine ⟨?_, ?_, ?_, ?_, ?_, ?_⟩
  · rw [hinfo _ _ _ rfl]
    simp (disch := decide) only [putAll, List.foldl, getFld_putFld_same, getFld_putFld_other]
    rfl
  · rw [hinfo _ _ _ rfl]
    simp (disch := decide) only [putAll, List.foldl, getFld_putFld_same, getFld_putFld_other]
    exact Nat.mod_eq_of_lt (by simp only [MGT_REJ_INFO_COUNT]; omega)
  · rw [hinfo _ _ _ rfl]
    simp (disch := decide) only [putAll, List.foldl, getFld_putFld_same]
  · rw [hinfo _ _ _ rfl]
    simp (disch := decide) only [putAll, List.foldl, getFld_putFld_same, getFld_putFld_other]
    exact Nat.mod_eq_of_lt (by simp only [MGT_REJ_INFO_SOURCE]; omega)
  · rw [hinfo _ _ _ rfl]
    simp (disch := decide) only [putAll, List.foldl, getFld_putFld_same, getFld_putFld_other]
  · rw [State.fld_of_get _ (State.get_put_other _ _ _ _ (by decide)), s.fld_setFld_same MGT_REJ_ADDR_ADDR _ (by decide)]

/-- A capture changes two registers and nothing else. -/
theorem State.captureReject_rest (s : State) (l : List RejIn) (n : Nat) :
    (∀ a, a ≠ MGT_REJ_INFO → a ≠ MGT_REJ_ADDR → (s.captureReject l n).get a = s.get a)
    ∧ s.captureReject l n = { s with regs := (s.captureReject l n).regs } := by
  unfold State.captureReject
  split
  · exact ⟨fun _ _ _ => rfl, rfl⟩
  · exact ⟨fun a hinfo haddr => (State.get_put_other _ _ _ _ hinfo).trans (State.get_setFld_other _ _ _ _ haddr), rfl⟩

theorem firstReject_append (l : List RejIn) (x : RejIn) : ∃ r, firstReject (l ++ [x]) = some r := by
  induction l with
  | nil => exact ⟨x, rfl⟩
  | cons y l ih =>
    obtain ⟨r, hr⟩ := ih
    simp only [List.cons_append, firstReject, hr]
    exact ⟨_, rfl⟩

/-! ### The causes of R95 -/

/-- The bank-owner words and the leap-second table aside, a judgement runs through the conditions of R95 in their order. -/
theorem State.judge_eq (s : State) (a : Nat) (w : AccWidth) (v : Word) (hbank : ¬ (0xF0100 ≤ a ∧ a < 0xF0400))
    (hleap : ¬ (0x460000 ≤ a ∧ a < 0x461000)) :
    s.judge a w v =
      if s.modeReject a v then some 6 else if !s.assigned a then some 4 else if s.heldReject a v then some 5
      else if s.busyReject a v then some 7 else if w ≠ .word then some 3 else if s.clReject a v then some 2
      else if fieldReserved a v || s.crossReserved a v then some 1 else none := by
  have hfixed : s.leapFixed a v = false := by
    simp only [State.leapFixed, ← Bool.decide_and, hleap, decide_false, Bool.false_and]
  have howner : s.sameOwner a v = false := by
    simp only [State.sameOwner, ← Bool.decide_and, hbank, decide_false, Bool.false_and]
  simp only [State.judge, hfixed, howner, Bool.or_false, Bool.false_eq_true, if_false]
  rfl

/-- Every judgement names a cause of R95 or none. -/
theorem State.judge_range (s : State) (a : Nat) (w : AccWidth) (v : Word) (c : Nat) (h : s.judge a w v = some c) : 1 ≤ c ∧ c ≤ 7 := by
  have hcause : c ∈ [rjMode, rjRange, rjNarrow, rjHeld, rjBusy, rjCl, rjReserved] := by
    unfold State.judge at h
    repeat' split at h
    all_goals cases h
    all_goals decide
  have hrange : ∀ n ∈ [rjMode, rjRange, rjNarrow, rjHeld, rjBusy, rjCl, rjReserved], 1 ≤ n ∧ n ≤ 7 := by decide
  exact hrange c hcause

/-- Settles O5: the conditions of R95 in the order in which the judgement tries them. -/
theorem rejectCauseOrder : Obligations.RejectCauseOrder := by
  unfold Obligations.RejectCauseOrder
  intro s a w v hbank hleap
  refine ⟨?_, ?_, ?_, ?_, ?_, ?_, ?_, fun c => s.judge_range a w v c⟩ <;> rw [s.judge_eq a w v hbank hleap]
  all_goals grind

/-! ### Rejected writes (R96) -/

/-- The note of a reject in the tick's record. -/
def State.noteReject (s u : State) (x : RejIn) (new : Bool) : State :=
  { u with tick := { s.now with rejects := s.now.rejects ++ [x], rejNew := new } }

theorem State.get_noteReject (s u : State) (x : RejIn) (new : Bool) (a : Nat) : (s.noteReject u x new).get a = u.get a := rfl

theorem State.reject_first (s : State) (src : BusSrc) (addr c : Nat) (h : s.isSet MGT_REJ_INFO_PEND = false) :
    s.reject src addr c = (s.noteReject (s.captureReject [⟨rejRank src, addr, c⟩] 1) ⟨rejRank src, addr, c⟩ true).raise 1 := by
  simp only [State.reject, h]
  rfl

theorem State.reject_later (s : State) (src : BusSrc) (addr c : Nat) (h : s.isSet MGT_REJ_INFO_PEND = true)
    (hnew : s.now.rejNew = false) :
    s.reject src addr c = s.noteReject (s.count MGT_REJ_INFO_COUNT) ⟨rejRank src, addr, c⟩ false := by
  simp only [State.reject, h, hnew]
  rfl

theorem State.reject_same_tick (s : State) (src : BusSrc) (addr c : Nat) (h : s.isSet MGT_REJ_INFO_PEND = true)
    (hnew : s.now.rejNew = true) :
    s.reject src addr c = s.noteReject
      (s.captureReject (s.now.rejects ++ [⟨rejRank src, addr, c⟩]) (s.fld MGT_REJ_INFO_COUNT + 1)) ⟨rejRank src, addr, c⟩ true := by
  simp only [State.reject, h, hnew]
  rfl

theorem exec_registerWrite_rejected (s : State) (src : BusSrc) (addr : BitVec 24) (w : AccWidth) (v : Word) (c : Nat)
    (hon : s.sys.power = .on) (h : s.judge (addr.toNat / 4 * 4) w v = some c) :
    exec (.registerWrite src addr w v) s
      = .next (s.reject src (if w = .word then addr.toNat / 4 * 4 else addr.toNat) c) :=
  congrArg Host.Outcome.next (s.busWrite_rejected src addr.toNat w v c hon h)

/-- What SOURCE and CORE show of a source, from its place in the order of R96. -/
theorem rejSource_of_rank (src : BusSrc) :
    min (rejRank src) 2 = (rejSource src).1 ∧ (rejRank src - 2) % 2 ^ MGT_REJ_INFO_CORE.len = (rejSource src).2 := by
  cases src with
  | pcie => decide
  | spi => decide
  | core c => revert c; decide

/-- A field of one bit that is set reads 1. -/
theorem State.fld_of_isSet (s : State) (f : Fld) (hf : f.len = 1) (h : s.isSet f = true) : s.fld f = 1 := by
  have hlt : s.fld f < 2 ^ 1 := hf ▸ getFld_lt (s.get f.addr) f
  have hne : s.fld f ≠ 0 := by simpa [State.isSet] using h
  omega

/-- An event behind the note of a reject leaves all but what events and the note may change. -/
theorem State.eq_of_noted {s u t : State} (hu : u = { s with regs := u.regs, tick := u.tick }) (ht : t.besideEvents = u.besideEvents) :
    t = { s with regs := t.regs, hst := t.hst, out := t.out, cores := t.cores, tick := t.tick } := by
  cases s; cases u; cases t
  simp only [State.besideEvents, State.mk.injEq] at hu ht
  simp [hu, ht]

/-- Settles O3: the capture, and the event that follows it. -/
theorem firstRejectIsCaptured : Obligations.FirstRejectIsCaptured := by
  unfold Obligations.FirstRejectIsCaptured
  intro s src addr w v c hon hjudge hpend
  have hexec := exec_registerWrite_rejected s src addr w v c hon hjudge
  have haddr : (if w = .word then addr.toNat / 4 * 4 else addr.toNat) < 2 ^ 24 := by
    have := addr.isLt
    split <;> omega
  generalize (if w = .word then addr.toNat / 4 * 4 else addr.toNat) = a at hexec haddr ⊢
  rw [s.reject_first src a c hpend] at hexec
  obtain ⟨-, hc⟩ := s.judge_range _ w v c hjudge
  obtain ⟨hpend, hcount, hcause, hsource, hcore, hcaptured⟩ := s.captureReject_shows [⟨rejRank src, a, c⟩] 1 _ rfl
  obtain ⟨hget, hrest⟩ := s.captureReject_rest [⟨rejRank src, a, c⟩] 1
  obtain ⟨hrank, hnum⟩ := rejSource_of_rank src
  generalize hu : s.noteReject (s.captureReject [⟨rejRank src, a, c⟩] 1) ⟨rejRank src, a, c⟩ true = u at hexec
  have hreads (b : Nat) : u.get b = (s.captureReject [⟨rejRank src, a, c⟩] 1).get b := by rw [← hu, State.get_noteReject]
  have hfld (f : Fld) (hf : f.addr < 0x100000) : (u.raise 1).fld f = (s.captureReject [⟨rejRank src, a, c⟩] 1).fld f :=
    (State.fld_raise u 1 0 f (by decide) (.inl hf)).trans (State.fld_of_get f (hreads f.addr))
  refine ⟨_, hexec, (hfld _ (by decide)).trans hpend, (hfld _ (by decide)).trans hcount, ?_, ?_, ?_, ?_, ?_, fun b hi ha hb => ?_, ?_⟩
  · exact ((hfld _ (by decide)).trans hcause).trans (Nat.mod_eq_of_lt (by simp only [MGT_REJ_INFO_CAUSE]; omega))
  · exact ((hfld _ (by decide)).trans hsource).trans hrank
  · exact ((hfld _ (by decide)).trans hcore).trans hnum
  · exact ((hfld _ (by decide)).trans hcaptured).trans (Nat.mod_eq_of_lt haddr)
  · rw [u.fld_routeCount_raise 1 0 (by decide), State.fld_of_get _ ((hreads _).trans (hget _ (by decide) (by decide)))]
  · exact (State.get_raise u 1 0 b (by decide) (by unfold quietAddr; omega)).trans ((hreads b).trans (hget b hi ha))
  · refine State.eq_of_noted ?_ (State.besideEvents_raise u 1 0)
    rw [← hu, State.noteReject, hrest]

/-- Settles O4: a count alone, or the capture anew of the tick's first reject. -/
theorem laterRejectOnlyCounts : Obligations.LaterRejectOnlyCounts := by
  unfold Obligations.LaterRejectOnlyCounts
  intro s src addr w v c hon hjudge hpend
  have hexec := exec_registerWrite_rejected s src addr w v c hon hjudge
  generalize (if w = .word then addr.toNat / 4 * 4 else addr.toNat) = a at hexec ⊢
  cases hnew : s.now.rejNew with
  | false =>
    rw [s.reject_later src a c hpend hnew] at hexec
    have hkeep (f : Fld) (h : f.addr = MGT_REJ_INFO) (hd : f.lo + f.len ≤ 8 ∨ 16 ≤ f.lo) :
        (s.count MGT_REJ_INFO_COUNT).fld f = s.fld f :=
      State.fld_setFld_other_bits s _ f _ h (by decide) (by simp only [MGT_REJ_INFO_COUNT]; omega)
    refine ⟨_, hexec, s.fld_count_same MGT_REJ_INFO_COUNT (by decide),
      (hkeep MGT_REJ_INFO_PEND rfl (by decide)).trans (s.fld_of_isSet _ rfl hpend),
      fun b hi _ => s.get_count_other _ b hi, rfl, fun _ => ⟨s.get_count_other _ _ (by decide), hkeep _ rfl (by decide),
        hkeep _ rfl (by decide), hkeep _ rfl (by decide)⟩, nofun⟩
  | true =>
    rw [s.reject_same_tick src a c hpend hnew] at hexec
    obtain ⟨r, hr⟩ := firstReject_append s.now.rejects ⟨rejRank src, a, c⟩
    obtain ⟨hpend, hcount, hcause, hsource, -, hcaptured⟩ :=
      s.captureReject_shows _ (s.fld MGT_REJ_INFO_COUNT + 1) r hr
    obtain ⟨hget, hrest⟩ := s.captureReject_rest (s.now.rejects ++ [⟨rejRank src, a, c⟩]) (s.fld MGT_REJ_INFO_COUNT + 1)
    refine ⟨_, hexec, hcount, hpend, hget, ?_, nofun, fun _ => ⟨r, hr, hcaptured, hcause, hsource⟩⟩
    unfold State.noteReject
    rw [hrest]

end Sys2Proof.Machine

/-! Operations on the way to a start, to DORMANT and back, and what they leave of the registers, the timebase and the Crucible. -/

namespace Sys2Proof.Machine

open Sys2Proof.Fields

/-! ### Folds and events -/

/-- What no step of a fold changes, the fold leaves. -/
theorem foldl_keeps {α β γ : Type} (g : β → γ) (f : β → α → β) (l : List α) (b : β) (h : ∀ x ∈ l, ∀ c, g (f c x) = g c) :
    g (l.foldl f b) = g b := by
  induction l generalizing b with
  | nil => rfl
  | cons x l ih =>
    obtain ⟨hx, hl⟩ := List.forall_mem_cons.mp h
    rw [List.foldl_cons, ih _ hl, hx]

/-- No event changes a register below HST's. -/
theorem State.get_raise_low (s : State) (id data a : Nat) (h : a < 0x100000) : (s.raise id data).get a = s.get a := by
  have hbeside : besideSignals a := by
    refine ⟨?_, ?_, ?_, ?_, fun c hc => ?_⟩ <;> simp only [msixPending, HST_ERSTAT, HST_EVSEQ, routeCount, CHB_CEVQ] <;> omega
  exact ((s.signals_raise id data).regs a hbeside).trans (s.get_count_other _ a (by simp only [routeCount]; omega))

theorem State.fld_raise_low (s : State) (id data : Nat) (f : Fld) (h : f.addr < 0x100000) : (s.raise id data).fld f = s.fld f :=
  State.fld_of_get f (s.get_raise_low id data f.addr h)

/-! ### The flags of the timebase (R175, R177) -/

theorem State.refreshDegraded_tim (s : State) : s.refreshDegraded.tim = s.tim := by
  unfold State.refreshDegraded
  dsimp only
  split
  · rfl
  · rw [State.raise_tim, State.setBit_tim]

theorem State.get_refreshDegraded (s : State) (a : Nat) (h : a < 0x100000) (hstat : a ≠ TIM_STAT) :
    s.refreshDegraded.get a = s.get a := by
  unfold State.refreshDegraded
  dsimp only
  split
  · rfl
  · rw [State.get_raise_low _ _ _ _ h, State.get_setBit_other _ _ _ _ hstat]

theorem State.setTvalid_tim (s : State) (v : Bool) : (s.setTvalid v).tim = s.tim := by
  unfold State.setTvalid
  split
  · rfl
  · dsimp only
    split <;> exact (State.raise_tim _ _ _).trans (State.setBit_tim _ _ _)

theorem State.get_setTvalid (s : State) (v : Bool) (a : Nat) (h : a < 0x100000) (hstat : a ≠ TIM_STAT) :
    (s.setTvalid v).get a = s.get a := by
  have hraise (n : Nat) : ((s.setBit TIM_STAT_TVALID v).raise n).get a = s.get a :=
    (State.get_raise_low _ _ _ _ h).trans (s.get_setBit_other _ _ _ hstat)
  unfold State.setTvalid
  split
  · rfl
  · dsimp only
    split
    · exact hraise _
    · exact hraise _

theorem State.get_judgeTvalid (s : State) (a : Nat) (h : a < 0x100000) (hstat : a ≠ TIM_STAT) :
    s.judgeTvalid.get a = s.get a := by
  unfold State.judgeTvalid
  dsimp only
  split
  · exact s.get_setTvalid _ a h hstat
  · split
    · exact State.get_setTvalid _ _ a h hstat
    · rfl

theorem State.get_selectTref (s : State) (a : Nat) (h : a < 0x100000) (hstat : a ≠ TIM_STAT) : s.selectTref.get a = s.get a := by
  unfold State.selectTref
  dsimp only
  split
  · rfl
  · exact (State.get_raise_low _ _ _ _ h).trans (s.get_setFld_other _ _ _ hstat)

/-- A time reference that appears or goes changes two registers of the timebase (R173). -/
theorem State.get_setTref (s : State) (r : Nat) (ok : Bool) (a : Nat) (h : a < 0x100000) (hstat : a ≠ TIM_STAT)
    (href : a ≠ TIM_REFSTAT) : (s.setTref r ok).get a = s.get a := by
  have hset (n : Nat) : (s.setFld (trefFld r) n).get a = s.get a := s.get_setFld_other _ _ _ href
  unfold State.setTref
  split
  · rfl
  · dsimp only
    rw [State.get_judgeTvalid _ a h hstat, State.get_selectTref _ a h hstat]
    split
    · exact (State.get_raise_low _ _ _ _ h).trans (hset _)
    · exact hset _

/-! ### Messages to the partner (R335) -/

theorem State.sendOn_tim (s : State) (q p ty : Nat) (ws : List Nat) : (s.sendOn q p ty ws).tim = s.tim := by
  unfold State.sendOn
  dsimp only
  split <;> rfl

theorem State.get_sendOn (s : State) (q p ty : Nat) (ws : List Nat) (a : Nat) (h : a ≠ PLK_EPOCH) :
    (s.sendOn q p ty ws).get a = s.get a := by
  unfold State.sendOn
  dsimp only
  split
  · exact State.get_setFld_other _ PLK_EPOCH_EPOCH _ _ h
  · rfl

theorem State.sendLeave_tim (s : State) : s.sendLeave.tim = s.tim := by
  unfold State.sendLeave
  split
  · rfl
  · split
    · exact foldl_keeps State.tim _ _ s (fun q _ t => t.sendOn_tim q _ _ _)
    · rfl

theorem State.get_sendLeave (s : State) (a : Nat) (h : a ≠ PLK_EPOCH) : s.sendLeave.get a = s.get a := by
  unfold State.sendLeave
  split
  · rfl
  · split
    · exact foldl_keeps (State.get · a) _ _ s (fun q _ t => t.get_sendOn q _ _ _ a h)
    · rfl

/-! ### Naps, snapshots and the air (R121, R155, R467) -/

theorem State.napEnd_tim (s : State) : s.napEnd.tim = s.tim := by
  unfold State.napEnd
  split
  · dsimp only
    rw [State.raise_tim]
    split <;> rfl
  · rfl

theorem State.get_snapDrop (s : State) (a : Nat) (h : a ≠ GNC_SNAPSTAT) : (s.snapDrop false).get a = s.get a := by
  unfold State.snapDrop
  split
  · exact State.get_setFld_other _ GNC_SNAPSTAT_STATE _ _ h
  · rfl

theorem State.airCut_tim (s : State) : s.airCut.tim = s.tim := by
  refine foldl_keeps State.tim _ _ s (fun n _ t => ?_)
  unfold State.airOut
  split <;> rfl

theorem State.airCut_cru (s : State) : s.airCut.cru = s.cru := by
  refine foldl_keeps State.cru _ _ s (fun n _ t => ?_)
  unfold State.airOut
  split <;> rfl

end Sys2Proof.Machine

/-! The Crucible: a copy write and what it leaves, leases, and what queueing captures (R411 to R415). -/

namespace Sys2Proof.Machine

open Sys2Proof.Fields

/-! ### Ingots and their copies (R411, R412) -/

/-- A copy is newer than the one whose sequence number precedes its own. -/
theorem Copy.newer_next (a : Copy) (d : List Nat) (h : a.seq < 2 ^ 32) :
    Copy.newer ⟨(a.seq + 1) % 2 ^ 32, d, true⟩ a = true ∧ a.newer ⟨(a.seq + 1) % 2 ^ 32, d, true⟩ = false := by
  simp only [Copy.newer, Bool.and_eq_true, bne_iff_ne, decide_eq_true_eq, Bool.and_eq_false_iff, decide_eq_false_iff_not]
  omega

/-- With both copies written, a write replaces the older one, and the new contents serve. -/
theorem Ingot.serving_write (g : Ingot) (a b : Copy) (d : List Nat) (ha : g.a = some a) (hb : g.b = some b)
    (hseqa : a.seq < 2 ^ 32) (hseqb : b.seq < 2 ^ 32) :
    ∃ g' : Ingot, g.write d = (true, g') ∧ g'.cls = g.cls ∧ g'.idx = g.idx ∧ g'.serving.map (·.data) = some d := by
  unfold Ingot.write
  simp only [ha, hb]
  split
  · refine ⟨_, rfl, rfl, rfl, ?_⟩
    simp only [Ingot.serving, (b.newer_next d hseqb).2]
    cases b.good <;> rfl
  · refine ⟨_, rfl, rfl, rfl, ?_⟩
    simp only [Ingot.serving, (a.newer_next d hseqa).1]
    cases a.good <;> rfl

theorem State.ingot_place (s : State) (c i : Nat) : (s.ingot c i).cls = c ∧ (s.ingot c i).idx = i := by
  unfold State.ingot
  cases h : s.cru.ingots.find? (fun g => g.cls == c && g.idx == i) with
  | none => exact ⟨rfl, rfl⟩
  | some g => simpa using List.find?_some h

theorem State.ingot_setIngot (s : State) (g : Ingot) : (s.setIngot g).ingot g.cls g.idx = g := by
  simp [State.ingot, State.setIngot]

theorem State.ingot_of_ingots {s t : State} (h : t.cru.ingots = s.cru.ingots) (c i : Nat) : t.ingot c i = s.ingot c i := by
  simp only [State.ingot, h]

/-! ### The queue (R85, R86) -/

/-- The state with another write queue. -/
def State.withQueue (s : State) (l : List QIngot) : State := { s with cru := { s.cru with queue := l } }

theorem State.isSet_withQueue (s : State) (l : List QIngot) (f : Fld) : (s.withQueue l).isSet f = s.isSet f := rfl

theorem State.queueAll_eq (s : State) (l : List (Nat × Nat)) :
    s.queueAll l = (s.withQueue (s.cru.queue ++ l.map (fun p => ⟨p.1, p.2, none, none⟩))).fillQueue := rfl

theorem State.queueNames_queueAll (s : State) (l : List (Nat × Nat)) (h : s.isSet MGT_PWRSTAT_BOWARN = false) :
    (s.queueAll l).queueNames = s.queueNames ++ l.map (fun p => (p.1, p.2, none)) := by
  rw [State.queueAll_eq, State.queueNames_fillQueue _ ((s.isSet_withQueue _ _).trans h)]
  simp [State.queueNames, State.withQueue, QIngot.name]

/-- With no brown-out warning the ingots in front are captured in the order in which they stand. -/
theorem State.mem_fillQueue (s : State) (q : QIngot) (h : s.isSet MGT_PWRSTAT_BOWARN = false)
    (hq : q ∈ s.cru.queue.take queueDepth) :
    { q with data := some (q.data.getD (s.payload q.cls q.idx)) } ∈ s.fillQueue.cru.queue := by
  simp only [State.fillQueue, h, Bool.false_eq_true, if_false]
  exact List.mem_append_left _ (List.mem_map.mpr ⟨q, hq, rfl⟩)

/-- An ingot that finds a place in the queue stands there with the contents that it has then. -/
theorem State.mem_queueAll (s : State) (l m : List (Nat × Nat)) (p : Nat × Nat) (h : s.isSet MGT_PWRSTAT_BOWARN = false) (hp : p ∈ l)
    (hroom : s.cru.queue.length + l.length ≤ queueDepth) :
    ∃ v, (⟨p.1, p.2, some ((s.withQueue v).payload p.1 p.2), none⟩ : QIngot) ∈ (s.queueAll (l ++ m)).cru.queue := by
  refine ⟨_, State.mem_fillQueue (s.withQueue _) ⟨p.1, p.2, none, none⟩ h ?_⟩
  show _ ∈ List.take queueDepth (s.cru.queue ++ (l ++ m).map _)
  rw [List.map_append, ← List.append_assoc, List.take_append, List.take_of_length_le (by simpa using hroom)]
  exact List.mem_append_left _ (List.mem_append_right _ (List.mem_map.mpr ⟨p, hp, rfl⟩))

/-- A record that finds a place in the queue counts as changed no more (R414). -/
theorem State.changed_queueIngot (s : State) (i : Nat) (h : s.isSet MGT_PWRSTAT_BOWARN = false)
    (hroom : s.cru.queue.length < queueDepth) : i ∉ (s.queueIngot 8 i).cru.changed := by
  have hbo : (s.withQueue (s.cru.queue ++ [⟨8, i, none, none⟩])).isSet MGT_PWRSTAT_BOWARN = false := h
  have htake : (s.cru.queue ++ [(⟨8, i, none, none⟩ : QIngot)]).take queueDepth = s.cru.queue ++ [⟨8, i, none, none⟩] :=
    List.take_of_length_le (by simpa using hroom)
  rw [State.queueIngot, State.queueAll_eq]
  simp only [List.map_cons, List.map_nil, State.fillQueue, hbo, Bool.false_eq_true, if_false]
  simp [State.withQueue, htake]

/-! ### A copy write (R411, R413, R415) -/

/-- What a copy write shows of the wear, with its event. -/
def State.wearNoted (s : State) (maxw spare : Nat) : State :=
  let worn := decide (s.fld MGT_CRU_WEAR_MAXW ≤ 80000) && decide (maxw > 80000) && !s.cru.wearMax
  let low := decide (spare < 10) && !s.cru.wearLow
  let u : State := { (s.setFld MGT_CRU_WEAR_MAXW maxw).setFld MGT_CRU_STAT_SPARE spare with
    cru := { s.cru with wearMax := s.cru.wearMax || worn, wearLow := s.cru.wearLow || low } }
  let u := if worn then u.raise 15 else u
  if low then u.raise 15 else u

/-- The end of an ingot's write: it leaves the queue, its lease is to commit, and the anti-rollback counter follows its ingot. -/
def State.ingotLeaves (s : State) (q : QIngot) (r : List QIngot) (d : List Nat) : State :=
  let s := s.withQueue r
  let s := match q.lease with
    | some kl => { s with cru := { s.cru with written := s.cru.written ++ [kl] } }
    | none => s
  let s := if q.cls = 1 then s.setFld MGT_ARBCNT_COUNT (max (s.fld MGT_ARBCNT_COUNT) (d.headD 0)) else s
  s.fillQueue

/-- A copy write whose read-back agrees, of the ingot in front. -/
def State.copyWritten (s : State) (q : QIngot) (r : List QIngot) : State :=
  let w := (s.ingot q.cls q.idx).write (s.writtenData q)
  if w.1 then ((s.setIngot w.2).noteBases q (s.writtenData q)).ingotLeaves q r (s.writtenData q) else s.setIngot w.2

theorem State.ingotWritten_empty (s : State) (ok : Bool) (maxw spare : Nat) (h : s.cru.queue = []) : s.ingotWritten ok maxw spare = s := by
  simp only [State.ingotWritten, h]

theorem State.ingotWritten_eq (s : State) (ok : Bool) (maxw spare : Nat) (q : QIngot) (r : List QIngot) (h : s.cru.queue = q :: r) :
    s.ingotWritten ok maxw spare =
      if ok then (s.wearNoted maxw spare).copyWritten q r else s.wearNoted maxw spare := by
  have hsteps : s.ingotWritten ok maxw spare =
      if !ok then s.wearNoted maxw spare
      else match ((s.wearNoted maxw spare).ingot q.cls q.idx).write ((s.wearNoted maxw spare).writtenData q) with
        | (done, g) =>
          if !done then (s.wearNoted maxw spare).setIngot g
          else (((s.wearNoted maxw spare).setIngot g).noteBases q ((s.wearNoted maxw spare).writtenData q)).ingotLeaves q r
            ((s.wearNoted maxw spare).writtenData q) := by
    simp only [State.ingotWritten, h]
    rfl
  rw [hsteps]
  generalize s.wearNoted maxw spare = u
  cases ok with
  | false => rfl
  | true =>
    simp only [State.copyWritten]
    cases ((u.ingot q.cls q.idx).write (u.writtenData q)).1 <;> rfl

/-! ### What a copy write leaves -/

/-- The record of the wear changes two registers, with the events' own, and its two marks. -/
theorem State.wearNoted_effect (s : State) (maxw spare : Nat) :
    (s.wearNoted maxw spare).fld MGT_CRU_WEAR_MAXW = maxw % 2 ^ MGT_CRU_WEAR_MAXW.len
    ∧ (∀ a, a < 0x100000 → a ≠ MGT_CRU_WEAR → a ≠ MGT_CRU_STAT → (s.wearNoted maxw spare).get a = s.get a)
    ∧ (∃ w l, (s.wearNoted maxw spare).cru = { s.cru with wearMax := w, wearLow := l })
    ∧ (s.wearNoted maxw spare).tim = s.tim := by
  have hevent (b : Bool) (u : State) : (∀ a, a < 0x100000 → (if b then u.raise 15 else u).get a = u.get a)
      ∧ (if b then u.raise 15 else u).cru = u.cru ∧ (if b then u.raise 15 else u).tim = u.tim := by
    cases b with
    | false => exact ⟨fun _ _ => rfl, rfl, rfl⟩
    | true => exact ⟨fun a ha => u.get_raise_low 15 0 a ha, u.raise_cru 15 0, u.raise_tim 15 0⟩
  have hcru (u : State) (x : Cru) (a : Nat) : ({ u with cru := x } : State).get a = u.get a := rfl
  unfold State.wearNoted
  refine ⟨?_, fun a ha hwear hstat => ?_, ?_, ?_⟩
  · refine (State.fld_of_get _ (((hevent _ _).1 _ (by decide)).trans ((hevent _ _).1 _ (by decide)))).trans ?_
    refine (State.fld_of_get _ (hcru _ _ _)).trans ?_
    rw [State.fld_setFld_other_word _ MGT_CRU_STAT_SPARE _ _ (by decide), State.fld_setFld_same _ MGT_CRU_WEAR_MAXW _ (by decide)]
  · refine ((hevent _ _).1 _ ha).trans (((hevent _ _).1 _ ha).trans ((hcru _ _ _).trans ?_))
    rw [State.get_setFld_other _ MGT_CRU_STAT_SPARE _ _ hstat, State.get_setFld_other _ MGT_CRU_WEAR_MAXW _ _ hwear]
  · exact ⟨_, _, (hevent _ _).2.1.trans (hevent _ _).2.1⟩
  · exact (hevent _ _).2.2.trans (hevent _ _).2.2

/-- Noting the bases that an ingot holds changes lease bases alone. -/
theorem State.noteBases_eq (s : State) (q : QIngot) (d : List Nat) : ∃ l, s.noteBases q d = { s with cru := { s.cru with leases := l } } := by
  unfold State.noteBases
  generalize leaseWords q.cls q.idx = ws
  induction ws generalizing s with
  | nil => exact ⟨_, rfl⟩
  | cons p ws ih =>
    rw [List.foldl_cons]
    split
    · exact ih s
    · obtain ⟨l, hl⟩ := ih (s.setLeaseBase p.2 (d.getD p.1 0))
      exact ⟨l, hl⟩

/-- The end of an ingot's write leaves the copies, the timebase, and every register but that of the anti-rollback counter. -/
theorem State.ingotLeaves_rest (s : State) (q : QIngot) (r : List QIngot) (d : List Nat) :
    (s.ingotLeaves q r d).cru.ingots = s.cru.ingots ∧ (s.ingotLeaves q r d).tim = s.tim
    ∧ ∀ a, a ≠ MGT_ARBCNT → (s.ingotLeaves q r d).get a = s.get a := by
  have hget (u : State) (n a : Nat) (h : a ≠ MGT_ARBCNT) : (u.setFld MGT_ARBCNT_COUNT n).get a = u.get a :=
    u.get_setFld_other MGT_ARBCNT_COUNT n a h
  unfold State.ingotLeaves
  dsimp only
  cases q.lease <;> dsimp only <;> split
  · exact ⟨rfl, rfl, fun a ha => hget _ _ a ha⟩
  · exact ⟨rfl, rfl, fun _ _ => rfl⟩
  · exact ⟨rfl, rfl, fun a ha => hget _ _ a ha⟩
  · exact ⟨rfl, rfl, fun _ _ => rfl⟩

theorem State.queueNames_ingotLeaves (s : State) (q : QIngot) (r : List QIngot) (d : List Nat)
    (h : s.isSet MGT_PWRSTAT_BOWARN = false) : (s.ingotLeaves q r d).queueNames = r.map QIngot.name := by
  have hset (u : State) (n : Nat) (hu : u.isSet MGT_PWRSTAT_BOWARN = false) :
      (u.setFld MGT_ARBCNT_COUNT n).isSet MGT_PWRSTAT_BOWARN = false := by
    rw [State.isSet, u.fld_setFld_other_word MGT_ARBCNT_COUNT _ _ (by decide)]
    exact hu
  unfold State.ingotLeaves
  dsimp only
  cases q.lease <;> dsimp only <;> split
  · exact State.queueNames_fillQueue _ (hset _ _ h)
  · exact State.queueNames_fillQueue _ h
  · exact State.queueNames_fillQueue _ (hset _ _ h)
  · exact State.queueNames_fillQueue _ h

theorem State.copyWritten_tim (s : State) (q : QIngot) (r : List QIngot) : (s.copyWritten q r).tim = s.tim := by
  unfold State.copyWritten
  dsimp only
  split
  · obtain ⟨-, htim, -⟩ := State.ingotLeaves_rest
      ((s.setIngot ((s.ingot q.cls q.idx).write (s.writtenData q)).2).noteBases q (s.writtenData q)) q r (s.writtenData q)
    obtain ⟨l, hl⟩ := State.noteBases_eq (s.setIngot ((s.ingot q.cls q.idx).write (s.writtenData q)).2) q (s.writtenData q)
    rw [htim, hl]
    rfl
  · rfl

theorem State.ingotWritten_tim (s : State) (ok : Bool) (maxw spare : Nat) : (s.ingotWritten ok maxw spare).tim = s.tim := by
  cases hq : s.cru.queue with
  | nil => rw [s.ingotWritten_empty ok maxw spare hq]
  | cons q r =>
    obtain ⟨-, -, -, hwear⟩ := s.wearNoted_effect maxw spare
    rw [s.ingotWritten_eq ok maxw spare q r hq]
    split
    · rw [State.copyWritten_tim, hwear]
    · exact hwear

/-- With both copies of the ingot in front written, a good read-back carries its contents and takes it off the queue (R411). -/
theorem State.copyWritten_effect (s : State) (q : QIngot) (r : List QIngot) (a b : Copy) (ha : (s.ingot q.cls q.idx).a = some a)
    (hb : (s.ingot q.cls q.idx).b = some b) (hseqa : a.seq < 2 ^ 32) (hseqb : b.seq < 2 ^ 32)
    (hbo : s.isSet MGT_PWRSTAT_BOWARN = false) :
    (s.copyWritten q r).queueNames = r.map QIngot.name
    ∧ ((s.copyWritten q r).ingot q.cls q.idx).serving.map (·.data) = some (s.writtenData q)
    ∧ ∀ a, a ≠ MGT_ARBCNT → (s.copyWritten q r).get a = s.get a := by
  obtain ⟨g, hwrite, hcls, hidx, hserves⟩ := Ingot.serving_write _ a b (s.writtenData q) ha hb hseqa hseqb
  obtain ⟨hc, hi⟩ := s.ingot_place q.cls q.idx
  obtain ⟨l, hbases⟩ := (s.setIngot g).noteBases_eq q (s.writtenData q)
  have hwritten : s.copyWritten q r = ((s.setIngot g).noteBases q (s.writtenData q)).ingotLeaves q r (s.writtenData q) := by
    simp only [State.copyWritten, hwrite, if_true]
  obtain ⟨hingots, -, hget⟩ := State.ingotLeaves_rest ((s.setIngot g).noteBases q (s.writtenData q)) q r (s.writtenData q)
  rw [hwritten]
  refine ⟨State.queueNames_ingotLeaves _ q r _ (by rw [hbases]; exact hbo), ?_, fun a h => (hget a h).trans (by rw [hbases]; rfl)⟩
  have hfound := (s.setIngot g).ingot_of_ingots (hingots.trans (by rw [hbases])) q.cls q.idx
  have hput := s.ingot_setIngot g
  rw [hcls, hidx, hc, hi] at hput
  rw [hfound, hput, hserves]

end Sys2Proof.Machine

/-! Leases and commits, and the Crucible's commands (R83 to R86, R411 to R415). -/

namespace Sys2Proof.Machine

open Sys2Proof.Fields

/-! ### Leases (R415) -/

/-- The leases that are committed and those that are to commit. -/
abbrev State.leased (s : State) : List (LeaseKey × Nat) × List (LeaseKey × Nat) := (s.cru.written, s.cru.leases)

theorem State.setHeld_leased (s : State) (k : LeaseKey) (v : Nat) : (s.setHeld k v).leased = s.leased := by
  have hmirror (t : State) (i : Nat) : (t.noteMirror i).leased = t.leased := by
    unfold State.noteMirror
    split <;> rfl
  cases k with
  | acc i => exact hmirror _ _
  | dn i => exact hmirror _ _
  | join i => exact hmirror _ _
  | beacon n => rfl
  | camp c => rfl

theorem State.leaseMark_leased (s : State) (k : LeaseKey) (l : Nat) : (s.leaseMark k l).leased = s.leased := by
  unfold State.leaseMark
  cases k <;> dsimp only <;> split <;> rfl

theorem State.applyWaiting_leased (s : State) (k : LeaseKey) (n : Nat) : (s.applyWaiting k n).leased = s.leased := by
  induction n generalizing s with
  | zero => rfl
  | succ n ih =>
    unfold State.applyWaiting
    split
    · rfl
    · split
      · exact (ih _).trans (State.setHeld_leased _ _ _)
      · rfl

theorem State.leaseBase_of_leases {s t : State} (h : t.cru.leases = s.cru.leases) (k : LeaseKey) : t.leaseBase k = s.leaseBase k := by
  simp only [State.leaseBase, h]

theorem State.leaseBase_setLeaseBase (s : State) (k : LeaseKey) (l : Nat) : (s.setLeaseBase k l).leaseBase k = l := by
  simp [State.leaseBase, State.setLeaseBase]

/-- The lease written first is committed, and counts as written no more. -/
theorem State.leaseCommitted_leased (s : State) (k : LeaseKey) (l : Nat) (r : List (LeaseKey × Nat)) (h : s.cru.written = (k, l) :: r) :
    s.leaseCommitted.leased = (State.setLeaseBase { s with cru := { s.cru with written := r } } k (max (s.leaseBase k) l)).leased := by
  simp only [State.leaseCommitted, h]
  have hbase : ({ s with cru := { s.cru with written := r } } : State).leaseBase k = s.leaseBase k := rfl
  rw [hbase]
  generalize State.setLeaseBase _ k (max (s.leaseBase k) l) = u
  have hwait := ((u.leaseMark k l).applyWaiting_leased k (u.leaseMark k l).cru.waiting.length).trans (u.leaseMark_leased k l)
  split
  · exact hwait
  · exact hwait

/-! ### Commits (R83, R85) -/

theorem mergeWord_commit (old v : Word) : mergeWord MGT_COMMIT old v = old := rfl

/-- A write of MGT_COMMIT stores nothing. -/
theorem State.storeWord_commit (s : State) (v : Word) : s.storeWord MGT_COMMIT v = s.put MGT_COMMIT (s.get MGT_COMMIT) := by
  have hsame (w n : Word) : w ||| (w &&& n) = w := by
    ext i
    simp +contextual
  have hstore : s.storeWord MGT_COMMIT v
      = s.put MGT_COMMIT (mergeWord MGT_COMMIT (s.get MGT_COMMIT) v ||| (s.get MGT_COMMIT &&& s.setNow MGT_COMMIT)) := rfl
  rw [hstore, mergeWord_commit, hsame]

/-- A field that a command's word sets. -/
theorem State.getFld_setWord (s : State) (f : Fld) (v : Nat) (hf : f.lo + f.len ≤ 32) :
    getFld (s.setWord f.addr [(f, v)]) f = v % 2 ^ f.len :=
  getFld_putFld_same _ f v hf

theorem State.applyWrite_commit (s : State) (src : BusSrc) :
    s.applyWrite src MGT_COMMIT (s.setWord MGT_COMMIT [(MGT_COMMIT_REQ, 1)])
      = (s.put MGT_COMMIT (s.get MGT_COMMIT)).startCommit 1 := by
  have hreq := s.getFld_setWord MGT_COMMIT_REQ 1 (by decide)
  rw [← State.storeWord_commit s (s.setWord MGT_COMMIT [(MGT_COMMIT_REQ, 1)])]
  exact if_pos hreq

/-- The dirty registers come first in a pass (R83). -/
theorem State.commitList_eq (s : State) : ∃ m, s.commitList = s.sys.dirty.map (fun a => (3, a / 4)) ++ m := by
  unfold State.commitList
  simp only [List.append_assoc]
  exact ⟨_, rfl⟩

/-- A commit with no pass running queues every dirty register with its value, where there is room for all (R85). -/
theorem State.startCommit_idle (s : State) (trigger : Nat) (hbusy : s.isSet MGT_COMMIT_BUSY = false)
    (hbo : s.isSet MGT_PWRSTAT_BOWARN = false) (hroom : s.cru.queue.length + s.sys.dirty.length ≤ 512) :
    (s.startCommit trigger).fld MGT_COMMIT_BUSY = 1 ∧ (s.startCommit trigger).fld MGT_COMMIT_LASTTRIG = trigger % 4
    ∧ ∀ a ∈ s.sys.dirty, 4 * (a / 4) ≠ MGT_COMMIT →
        (⟨3, a / 4, some [(s.get (4 * (a / 4))).toNat], none⟩ : QIngot) ∈ (s.startCommit trigger).cru.queue := by
  have hidle : (s.setFld MGT_COMMIT_LASTTRIG trigger).isSet MGT_COMMIT_BUSY = false := by
    rw [State.isSet, State.fld_setFld_keeps _ _ _ _ (by decide) (by decide)]
    exact hbusy
  generalize hu : (s.setFld MGT_COMMIT_LASTTRIG trigger).setFld MGT_COMMIT_BUSY 1 = u
  obtain ⟨m, hlist⟩ := (s.setFld MGT_COMMIT_LASTTRIG trigger).commitList_eq
  have hstart : s.startCommit trigger = u.queueAll (s.sys.dirty.map (fun a => (3, a / 4)) ++ m) := by
    simp only [State.startCommit, hidle, Bool.false_eq_true, if_false, hu, hlist]
    rfl
  have hfld (f : Fld) : (s.startCommit trigger).fld f = u.fld f := by rw [hstart]; rfl
  have hget (a : Nat) (ha : a ≠ MGT_COMMIT) : u.get a = s.get a := by
    rw [← hu, State.get_setFld_other _ MGT_COMMIT_BUSY _ _ ha, State.get_setFld_other _ MGT_COMMIT_LASTTRIG _ _ ha]
  refine ⟨?_, ?_, fun a ha hne => ?_⟩
  · rw [hfld, ← hu, State.fld_setFld_same _ MGT_COMMIT_BUSY _ (by decide)]
    rfl
  · rw [hfld, ← hu, State.fld_setFld_keeps _ MGT_COMMIT_BUSY _ _ (by decide) (by decide),
      State.fld_setFld_same _ MGT_COMMIT_LASTTRIG _ (by decide)]
    rfl
  · have hubo : u.isSet MGT_PWRSTAT_BOWARN = false := by rw [State.isSet, State.fld_of_get _ (hget _ (by decide))]; exact hbo
    have huroom : u.cru.queue.length + (s.sys.dirty.map (fun a => (3, a / 4))).length ≤ queueDepth := by
      rw [← hu, List.length_map]
      exact hroom
    obtain ⟨v, hmem⟩ := u.mem_queueAll _ m (3, a / 4) hubo (List.mem_map.mpr ⟨a, ha, rfl⟩) huroom
    rw [hstart, ← hget _ hne]
    exact hmem

/-! ### The Crucible's commands -/

theorem State.writtenData_of_leases {s t : State} (q : QIngot) (d : List Nat) (hd : q.data = some d) (h : t.cru.leases = s.cru.leases) :
    t.writtenData q = s.writtenData q := by
  simp only [State.writtenData, hd, Option.getD_some, State.leaseBase_of_leases h]

/-- Settles O17, command by command. -/
theorem crucibleWrites : Obligations.CrucibleWrites := by
  unfold Obligations.CrucibleWrites
  refine fun s hbo => ⟨fun src htake hbusy hroom => ?commit, fun hend hmerged => ?done,
    fun q r d a b maxw spare hq hd ha hb hseqa hseqb => ?write, fun k l r hw => ?lease, fun i r hi => ?node, ?ledger⟩
  case commit =>
    generalize hu : s.put MGT_COMMIT (s.get MGT_COMMIT) = u
    have hget (a : Nat) (h : a ≠ MGT_COMMIT) : u.get a = s.get a := by rw [← hu, State.get_put_other _ _ _ _ h]
    have hubusy : u.isSet MGT_COMMIT_BUSY = false := by
      rw [State.isSet, State.fld_of_get (s := s) _ (by rw [← hu]; exact State.get_put_same _ _ _)]
      exact hbusy
    have hubo : u.isSet MGT_PWRSTAT_BOWARN = false := by rw [State.isSet, State.fld_of_get _ (hget _ (by decide))]; exact hbo
    obtain ⟨hset, htrig, hqueued⟩ := u.startCommit_idle 1 hubusy hubo (by rw [← hu]; exact hroom)
    have hwrite : s.write src MGT_COMMIT (s.setWord MGT_COMMIT [(MGT_COMMIT_REQ, 1)]) = (u.startCommit 1).markDirty MGT_COMMIT := by
      rw [s.write_taken src MGT_COMMIT _ (by decide) htake, s.applyWrite_commit, hu, State.mgtWrite_other _ _ _ _ (by decide)]
    refine ⟨_, congrArg Host.Outcome.next hwrite, ?_, ?_, fun a ha hne => ?_⟩
    · rw [State.fld_markDirty, hset]
    · rw [State.fld_markDirty, htrig]
    · rw [State.markDirty_cru, ← hget _ hne]
      exact hqueued a (by rw [← hu]; exact ha) hne
  case done =>
    refine congrArg Host.Outcome.next ?_
    simp only [State.endPass, hend, hmerged]
    rfl
  case write =>
    obtain ⟨hmaxw, hkeep, ⟨w, l, hcru⟩, -⟩ := s.wearNoted_effect maxw.toNat spare.toNat
    refine ⟨?_, ⟨_, congrArg Host.Outcome.next (s.ingotWritten_eq false maxw.toNat spare.toNat q r hq), ?_, ?_⟩⟩
    · refine ⟨_, congrArg Host.Outcome.next (s.ingotWritten_eq true maxw.toNat spare.toNat q r hq), ?_⟩
      rw [if_pos rfl]
      generalize s.wearNoted maxw.toNat spare.toNat = u at hmaxw hkeep hcru ⊢
      have hingot := State.ingot_of_ingots (s := s) (t := u) (by rw [hcru]) q.cls q.idx
      have hubo : u.isSet MGT_PWRSTAT_BOWARN = false := by
        rw [State.isSet, State.fld_of_get _ (hkeep _ (by decide) (by decide) (by decide))]
        exact hbo
      obtain ⟨hnames, hserves, hget⟩ := u.copyWritten_effect q r a b (hingot ▸ ha) (hingot ▸ hb) hseqa hseqb hubo
      rw [State.writtenData_of_leases (s := s) q d hd (by rw [hcru])] at hserves
      exact ⟨hnames, hserves, (State.fld_of_get _ (hget _ (by decide))).trans hmaxw⟩
    · simp [hcru]
    · simp [hcru]
  case lease =>
    have hleased := s.leaseCommitted_leased k l r hw
    refine ⟨_, rfl, congrArg Prod.fst hleased, ?_⟩
    exact (State.leaseBase_of_leases (congrArg Prod.snd hleased) k).trans (State.leaseBase_setLeaseBase _ _ _)
  case node =>
    have hexec : exec .nodeCheckpoint s = .next (s.queueIngot 8 i) := by
      show Host.Outcome.next (match s.cru.changed with | [] => s | i :: _ => s.queueIngot 8 i) = _
      rw [hi]
    exact ⟨_, hexec, s.queueNames_queueAll [(8, i)] hbo, fun hroom => s.changed_queueIngot i hbo hroom⟩
  case ledger =>
    refine ⟨_, ((List.range 51).map (· + 1)).filter (s.ingotDiffers 7), rfl, ?_, fun i => ?_⟩
    · rw [State.queueNames_queueAll _ _ hbo, State.changedOf, List.map_map]
      rfl
    · simp only [List.mem_filter, List.mem_map, List.mem_range]
      constructor
      · rintro ⟨⟨n, hn, rfl⟩, hd⟩
        exact ⟨by omega, by omega, hd⟩
      · rintro ⟨h1, h51, hd⟩
        exact ⟨⟨i - 1, by omega, by omega⟩, hd⟩

end Sys2Proof.Machine

/-! Starts and modes: what a restart leaves, mode requests, wake sources, DORMANT, reset and power (R66 to R72, R447, R480). -/

namespace Sys2Proof.Machine

open Sys2Proof.Fields

/-! ### What a start leaves (R480) -/

/-- `t` is before the first stage of a start, its timebase running or not: everything is as at reset but what a start keeps, and the
registers listed. -/
structure State.Starts (dev : Bool) (l : List Nat) (run : Bool) (t : State) : Prop where
  regs : ∀ a, startMask dev a = 0 → a ∉ l → t.get a = coldReg a
  mode : t.mode = modeAnneal
  phase : t.sys.phase = .assay1
  cast : t.sys.cast = []
  run : t.tim.run = run
  queue : t.cru.queue = []
  lanes : t.lanes = []
  cores : t.cores = []
  sch : t.sch = Sch.reset

/-- A field of a kept register, or of a listed one, may be set beside the mode. -/
theorem State.Starts.setFld {dev : Bool} {l : List Nat} {run : Bool} {t : State} (h : State.Starts dev l run t) (f : Fld) (v : Nat)
    (hf : f.addr ∈ l ∨ startMask dev f.addr ≠ 0) (hlen : f.lo + f.len ≤ 32) (hmode : f.addr ≠ MGT_MODE ∨ 3 ≤ f.lo) :
    State.Starts dev l run (t.setFld f v) :=
  { h with
    regs := fun a ha hl => by
      have hne : a ≠ f.addr := by
        rintro rfl
        exact hf.elim hl (fun hmask => hmask ha)
      rw [State.get_setFld_other _ _ _ _ hne, h.regs a ha hl]
    mode := by
      rw [State.mode, State.fld_setFld_keeps _ _ _ _ hlen (hmode.imp Ne.symm .inr)]
      exact h.mode }

/-- Words put into a state change no other word than theirs. -/
theorem State.get_foldl_put (l : List (Nat × Word)) (f : Nat × Word → Word) (t : State) (a : Nat) (h : ∀ p ∈ l, p.1 ≠ a) :
    (l.foldl (fun t p => t.put p.1 (f p)) t).get a = t.get a :=
  foldl_keeps (State.get · a) _ l t (fun p hp u => u.get_put_other _ _ _ (h p hp).symm)

theorem mode_cold : getFld (coldReg MGT_MODE) MGT_MODE_MODE = modeAnneal := by decide +kernel

theorem startMask_mode (dev : Bool) : startMask dev MGT_MODE = 0 := by cases dev <;> decide

/-- Everything that a start does not keep returns to reset (R480). -/
theorem State.starts_restart (s : State) (dev : Bool) : State.Starts dev [] (!dev && s.tim.run) (s.restart dev) := by
  have hcold (a : Nat) (ha : startMask dev a = 0) : (s.restart dev).get a = coldReg a := by
    refine State.get_foldl_put _ _ _ a ?_
    rintro p hp rfl
    rw [List.mem_filter] at hp
    simp [ha] at hp
  have hsys : (s.restart dev).sys = _ := foldl_keeps State.sys _ _ _ (fun _ _ _ => rfl)
  have htim : (s.restart dev).tim = _ := foldl_keeps State.tim _ _ _ (fun _ _ _ => rfl)
  have hcru : (s.restart dev).cru = _ := foldl_keeps State.cru _ _ _ (fun _ _ _ => rfl)
  exact {
    regs := fun a ha _ => hcold a ha
    mode := (congrArg (getFld · MGT_MODE_MODE) (hcold MGT_MODE (startMask_mode dev))).trans mode_cold
    phase := congrArg Sys.phase hsys
    cast := congrArg Sys.cast hsys
    run := (congrArg Tim.run htim).trans (by cases dev <;> rfl)
    queue := congrArg Cru.queue hcru
    lanes := foldl_keeps State.lanes _ _ _ (fun _ _ _ => rfl)
    cores := foldl_keeps State.cores _ _ _ (fun _ _ _ => rfl)
    sch := foldl_keeps State.sch _ _ _ (fun _ _ _ => rfl) }

theorem State.restart_ingots (s : State) (dev : Bool) : (s.restart dev).cru.ingots = s.cru.ingots := by
  have hcru : (s.restart dev).cru = _ := foldl_keeps State.cru _ _ _ (fun _ _ _ => rfl)
  rw [hcru]

/-- More registers may be left out. -/
theorem State.Starts.mono {dev : Bool} {l m : List Nat} {run : Bool} {t : State} (h : State.Starts dev l run t) (hl : l ⊆ m) :
    State.Starts dev m run t :=
  { h with regs := fun a ha hm => h.regs a ha (fun hmem => hm (hl hmem)) }

theorem State.setMode_tim (s : State) (m cause : Nat) : (s.setMode m cause).tim = s.tim := by
  unfold State.setMode
  dsimp only
  rw [State.raise_tim]
  split <;> rfl

/-- A start without power loss, by its cause and the code of its wake source (R68). -/
theorem State.starts_startAgain (s : State) (cause code : Nat) (wake ranOn : Bool) (hcause : cause < 256) (hcode : code < 8) :
    State.Starts false [MGT_MODE, MGT_WAKESRC] s.tim.run (s.startAgain cause code wake ranOn)
    ∧ (s.startAgain cause code wake ranOn).fld MGT_MODE_CAUSE = cause
    ∧ (s.startAgain cause code wake ranOn).fld MGT_WAKESRC_SRC = code
    ∧ (s.startAgain cause code wake ranOn).sys.wake = wake := by
  generalize hu : (((((s.setFld MGT_MODE_PENDING 0).setFld MGT_MODE_WAIT 0).setMode modeAnneal cause).setTvalid false).refreshDegraded) = u
  have hrun : u.tim = s.tim := by
    rw [← hu, State.refreshDegraded_tim, State.setTvalid_tim, State.setMode_tim]
    rfl
  have hstart := (u.starts_restart false).mono (List.nil_subset [MGT_MODE, MGT_WAKESRC])
  have hshown := ((hstart.setFld MGT_MODE_CAUSE cause (.inl (by decide)) (by decide) (.inr (by decide))).setFld MGT_WAKESRC_SRC code
    (.inl (by decide)) (by decide) (.inl (by decide))).setFld BKP_STAT_ONVBAT 0 (.inr (by decide)) (by decide) (.inl (by decide))
  generalize hv : (((u.restart false).setFld MGT_MODE_CAUSE cause).setFld MGT_WAKESRC_SRC code).setFld BKP_STAT_ONVBAT 0 = v at hshown
  have hagain : s.startAgain cause code wake ranOn = { v with sys := { v.sys with wake := wake, ranOn := ranOn } } := by
    rw [← hv, ← hu]
    rfl
  rw [hagain, ← hrun]
  refine ⟨⟨hshown.regs, hshown.mode, hshown.phase, hshown.cast, hshown.run, hshown.queue, hshown.lanes, hshown.cores, hshown.sch⟩,
    ?_, ?_, rfl⟩
  · show v.fld MGT_MODE_CAUSE = cause
    rw [← hv, State.fld_setFld_other_word _ BKP_STAT_ONVBAT _ _ (by decide), State.fld_setFld_other_word _ MGT_WAKESRC_SRC _ _ (by decide),
      State.fld_setFld_same _ MGT_MODE_CAUSE _ (by decide)]
    exact Nat.mod_eq_of_lt hcause
  · show v.fld MGT_WAKESRC_SRC = code
    rw [← hv, State.fld_setFld_other_word _ BKP_STAT_ONVBAT _ _ (by decide), State.fld_setFld_same _ MGT_WAKESRC_SRC _ (by decide)]
    exact Nat.mod_eq_of_lt hcode

/-! ### Reset and power (R447, R452, R480) -/

/-- Whether the timebase runs, and its time. -/
abbrev State.clock (s : State) : Bool × Nat := (s.tim.run, s.tim.ts)

/-- A reference that begins to qualify has nothing learned and no event (R170). -/
theorem State.setFrefState_qualifying (s : State) (r : Nat) : s.setFrefState r stQualifying =
    if s.frefState r = stQualifying then s
    else (s.setFld (frefFld r) stQualifying).setFref r { (s.setFld (frefFld r) stQualifying).fref r with qual := 0 } := by
  by_cases h : s.frefState r = stQualifying
  · simp only [State.setFrefState, if_pos h]
  · rw [if_neg h]
    simp only [State.setFrefState, if_neg h]
    simp [stQualifying, stFault, stAbsent, stWarning]

theorem State.setFrefState_clock (s : State) (r : Nat) : (s.setFrefState r stQualifying).clock = s.clock := by
  rw [State.setFrefState_qualifying]
  split <;> rfl

theorem State.xoCorrect_rest (s : State) : s.xoCorrect = { s with regs := s.xoCorrect.regs } := by
  unfold State.xoCorrect
  split <;> rfl

/-- A start of a device that lost its power or was reset. -/
theorem State.Starts.cold {s t : State} (h : State.Starts true [MGT_MODE] false t) (hingots : t.cru.ingots = s.cru.ingots) :
    t.mode = modeAnneal ∧ t.sys.phase = .assay1 ∧ t.sys.cast = [] ∧ t.tim.run = false ∧ t.cru.queue = []
      ∧ t.cru.ingots = s.cru.ingots ∧ ∀ a, startMask true a = 0 → a ≠ MGT_MODE → t.get a = coldReg a :=
  ⟨h.mode, h.phase, h.cast, h.run, h.queue, hingots, fun a ha hne => h.regs a ha (by simpa using hne)⟩

/-- The restart of a device, with the parts of its state replaced that a start does not judge. -/
theorem State.starts_device (s : State) (y : Sys) (b : Bkp) (p : Pins) (hphase : y.phase = .assay1) (hcast : y.cast = []) :
    State.Starts true [MGT_MODE] false { s.restart true with sys := y, bkp := b, pins := p } :=
  have h := (s.starts_restart true).mono (List.nil_subset [MGT_MODE])
  ⟨h.regs, h.mode, hphase, hcast, h.run, h.queue, h.lanes, h.cores, h.sch⟩

/-- Settles O13: each way down or up from the restart that it makes. -/
theorem resetAndPower : Obligations.ResetAndPower := by
  unfold Obligations.ResetAndPower
  refine fun s => ⟨fun hon => ?assert, fun hup => ?fail, fun hoff b => ?release, fun hon hrun => ?lock⟩
  case assert =>
    have hstart := s.airCut.starts_restart true
    refine ⟨_, congrArg Host.Outcome.next (if_pos hon), rfl, State.Starts.cold ?_ ?_⟩
    · exact s.airCut.starts_device _ _ _ hstart.phase hstart.cast
    · exact (s.airCut.restart_ingots true).trans (congrArg Cru.ingots s.airCut_cru)
  case fail =>
    have hstart := s.airCut.starts_restart true
    have hdown := s.airCut.starts_device { (s.airCut.restart true).sys with power := .backup }
      { (s.airCut.restart true).bkp with xfer := none, vddIo := false } { (s.airCut.restart true).pins with hiZ := true }
      hstart.phase hstart.cast
    have hexec : exec .mainRailFail s = .next _ := congrArg Host.Outcome.next (if_neg hup)
    refine ⟨_, hexec, rfl, State.Starts.cold ?_ ?_, rfl, ?_, ?_⟩
    · exact ((hdown.setFld BKP_STAT_BUSY 0 (.inr (by decide)) (by decide) (.inl (by decide))).setFld BKP_STAT_ONVBAT 1
        (.inr (by decide)) (by decide) (.inl (by decide))).setFld BKP_TRICKLE_CHARGING 0 (.inr (by decide)) (by decide) (.inl (by decide))
    · exact (s.airCut.restart_ingots true).trans (congrArg Cru.ingots s.airCut_cru)
    · simp (disch := decide) only [State.fld_setFld_keeps, State.fld_setFld_same]
      rfl
    · simp (disch := decide) only [State.fld_setFld_keeps, State.fld_setFld_same]
      rfl
  case release =>
    have hstart := s.starts_restart true
    have hup := s.starts_device { (s.restart true).sys with power := .on, castSrc := b }
      { (s.restart true).bkp with vddIo := true, low := [] } { (s.restart true).pins with hiZ := false } hstart.phase hstart.cast
    have hexec : exec (.porstRelease b) s = .next _ := congrArg Host.Outcome.next (if_neg hoff)
    refine ⟨_, hexec, rfl, State.Starts.cold ?_ (s.restart_ingots true), rfl, ?_, ?_⟩
    · exact ((hup.setFld BKP_STAT_ONVBAT _ (.inr (by decide)) (by decide) (.inl (by decide))).setFld BKP_TRICKLE_CHARGING _
        (.inr (by decide)) (by decide) (.inl (by decide))).setFld MGT_MODE_CAUSE _ (.inl (by decide)) (by decide) (.inr (by decide))
    · rw [State.fld_setFld_same _ MGT_MODE_CAUSE _ (by decide)]
      cases s.sys.power <;> rfl
    · simp only [State.setBit]
      simp (disch := decide) only [State.fld_setFld_keeps, State.fld_setFld_same]
      cases s.sys.power <;> rfl
  case lock =>
    have hexec : exec .fabricSynthLock s = .next (State.xoCorrect
        (State.setFrefState { s with tim := { s.tim with run := true, ts := 0 } } 0 stQualifying)) :=
      congrArg Host.Outcome.next (if_pos (by rw [hon, hrun]; rfl))
    have hclock := State.setFrefState_clock { s with tim := { s.tim with run := true, ts := 0 } } 0
    rw [State.xoCorrect_rest] at hexec
    exact ⟨_, hexec, congrArg Prod.fst hclock, congrArg Prod.snd hclock⟩

end Sys2Proof.Machine

/-! Mode requests, wake sources, and the way into DORMANT (R66 to R72, R454). -/

namespace Sys2Proof.Machine

open Sys2Proof.Fields

/-! ### SURVEY-TIMEOUT (R71) -/

/-- Settles O12. -/
theorem surveyTimeoutOnce : Obligations.SurveyTimeoutOnce := by
  unfold Obligations.SurveyTimeoutOnce
  refine fun s hmode => ⟨fun hmax hlate => ?_, fun hnone => ?_⟩
  · have hraise : s.surveyTimeout = State.raise { s with sys := { s.sys with surveyLate := true } } 12 :=
      if_pos ⟨hmode, hmax, by rw [hlate]; rfl⟩
    have hsys := State.raise_sys { s with sys := { s.sys with surveyLate := true } } 12 0
    refine ⟨_, congrArg Host.Outcome.next hraise, rfl, ?_, congrArg Host.Outcome.next (if_neg ?_)⟩
    · exact (State.fld_raise_low _ 12 0 MGT_MODE_MODE (by decide)).trans hmode
    · rw [hsys]
      simp
  · refine congrArg Host.Outcome.next (if_neg ?_)
    rintro ⟨-, hmax, hlate⟩
    rcases hnone with h | h
    · exact hmax h
    · rw [h] at hlate
      cases hlate

/-! ### Mode requests (R68, R69) -/

/-- An accepted write that only stores a word there and notes it, before MGT acts. -/
theorem State.write_stored (s : State) (src : BusSrc) (a : Nat) (v : Word) (h4 : a % 4 = 0) (hput : ∃ w, s.applyWrite src a v = s.put a w)
    (h : s.takes a v) :
    ∃ w d, s.write src a v = (({ s with sys := { s.sys with dirty := d } } : State).put a w).mgtWrite src a v := by
  obtain ⟨w, hw⟩ := hput
  rw [s.write_taken src a v h4 h, hw]
  rcases (s.put a w).markDirty_eq a with hd | hd <;> rw [hd]
  · exact ⟨w, s.sys.dirty, rfl⟩
  · exact ⟨w, insertNat a s.sys.dirty, rfl⟩

theorem State.req_setWord (s : State) (m : Nat) (hm : m < 8) :
    getFld (s.setWord MGT_MODEREQ [(MGT_MODEREQ_REQ, m)]) MGT_MODEREQ_REQ = m :=
  (s.getFld_setWord MGT_MODEREQ_REQ m (by decide)).trans (Nat.mod_eq_of_lt hm)

theorem State.mgtWrite_modeReq (s : State) (src : BusSrc) (v : Word) :
    s.mgtWrite src MGT_MODEREQ v = s.modeRequest (getFld v MGT_MODEREQ_REQ) := rfl

/-- A mode request acts on a state that differs in MGT_MODEREQ and in the list of dirty registers alone. -/
theorem State.write_modeReq (s : State) (src : BusSrc) (m : Nat) (hm : m < 8)
    (h : s.takes MGT_MODEREQ (s.setWord MGT_MODEREQ [(MGT_MODEREQ_REQ, m)])) :
    ∃ w d, s.write src MGT_MODEREQ (s.setWord MGT_MODEREQ [(MGT_MODEREQ_REQ, m)])
      = State.modeRequest (State.put { s with sys := { s.sys with dirty := d } } MGT_MODEREQ w) m := by
  obtain ⟨w, d, hw⟩ := s.write_stored src MGT_MODEREQ _ (by decide) ⟨_, rfl⟩ h
  refine ⟨w, d, hw.trans ?_⟩
  rw [State.mgtWrite_modeReq, s.req_setWord m hm]

/-- The departure of a transition leaves the mode. -/
theorem State.get_beginTrans (s : State) (m a : Nat) (hepoch : a ≠ PLK_EPOCH) (hsnap : a ≠ GNC_SNAPSTAT) :
    (s.beginTrans m).get a = s.get a := by
  have hleave : (if s.serving then s.sendLeave else s).get a = s.get a := by
    split
    · exact s.get_sendLeave a hepoch
    · rfl
  unfold State.beginTrans
  dsimp only
  split
  · exact (State.get_snapDrop _ a hsnap).trans hleave
  · exact hleave

theorem State.beating_of_mode {s t : State} (h : t.get MGT_MODE = s.get MGT_MODE) : t.beating = s.beating := by
  have hmode : t.mode = s.mode := State.fld_of_get MGT_MODE_MODE h
  rw [State.beating, State.beating, hmode]

/-- A DORMANT request where beats run waits for the next commit point, and a SURVEY request too (R68, R72). -/
theorem State.beginTrans_trans (s : State) (h : s.beating = true) :
    (s.beginTrans modeDormant).sys.trans = .dormant 0 ∧ (s.beginTrans modeSurvey).sys.trans = .survey := by
  refine ⟨?_, rfl⟩
  have hmode : ((if s.serving then s.sendLeave else s).snapDrop false).get MGT_MODE = s.get MGT_MODE :=
    s.get_beginTrans modeDormant MGT_MODE (by decide) (by decide)
  have hbeat := (State.beating_of_mode hmode).trans h
  show Trans.dormant (if ((if s.serving then s.sendLeave else s).snapDrop false).beating then 0 else 1) = _
  rw [hbeat]
  rfl

theorem State.dormantStep_other (s : State) (h : s.sys.trans ≠ .dormant 1) : s.dormantStep = s :=
  if_neg (fun hc => h hc.1)

/-- With no job of the loader, a DORMANT or SURVEY request where beats run begins its transition (R68, R69, R72). -/
theorem State.modeRequest_begins (s : State) (m : Nat) (hm : m = modeDormant ∨ m = modeSurvey) (hne : m ≠ s.mode)
    (hbeat : s.beating = true) (hjob : s.sys.job = none) : s.modeRequest m = s.beginTrans m := by
  have hanneal : s.mode ≠ modeAnneal := s.mode_of_beating hbeat
  have hmode : m ≠ modeAnneal := by rcases hm with rfl | rfl <;> decide
  have hseq : s.inSequence = false := by simp only [State.inSequence, hjob]
  obtain ⟨hdormant, hsurvey⟩ := s.beginTrans_trans hbeat
  have htrans : (s.beginTrans m).sys.trans ≠ .dormant 1 := by
    rcases hm with rfl | rfl
    · rw [hdormant]; decide
    · rw [hsurvey]; decide
  simp only [State.modeRequest, if_neg hne, if_neg hmode, hseq, Bool.false_eq_true, if_false]
  rw [if_neg (fun h => hanneal h.1), State.dormantStep_other _ htrans]

/-- Settles O8: the write ends in the start of the transition. -/
theorem modeRequestBeginsTransition : Obligations.ModeRequestBeginsTransition := by
  unfold Obligations.ModeRequestBeginsTransition
  intro s src hjob
  have hbegins (m : Nat) (hm : m = modeDormant ∨ m = modeSurvey) (hne : m ≠ s.mode) (hbeat : s.beating = true)
      (htake : s.takes MGT_MODEREQ (s.setWord MGT_MODEREQ [(MGT_MODEREQ_REQ, m)])) :
      ∃ u : State, u.get MGT_MODE = s.get MGT_MODE
        ∧ s.write src MGT_MODEREQ (s.setWord MGT_MODEREQ [(MGT_MODEREQ_REQ, m)]) = u.beginTrans m := by
    obtain ⟨w, d, hw⟩ := s.write_modeReq src m (by rcases hm with rfl | rfl <;> decide) htake
    generalize hu : State.put { s with sys := { s.sys with dirty := d } } MGT_MODEREQ w = u at hw
    have hmode : u.get MGT_MODE = s.get MGT_MODE := by rw [← hu]; exact State.get_put_other _ _ _ _ (by decide)
    refine ⟨u, hmode, hw.trans (u.modeRequest_begins m hm ?_ ((State.beating_of_mode hmode).trans hbeat) (by rw [← hu]; exact hjob))⟩
    rw [State.mode, State.fld_of_get _ hmode]
    exact hne
  refine ⟨fun htake hbeat => ?_, fun htake hserve => ?_⟩
  · have hne : modeDormant ≠ s.mode := by
      rintro h
      simp [State.beating, ← h, modeDormant] at hbeat
    obtain ⟨u, hmode, hw⟩ := hbegins modeDormant (.inl rfl) hne hbeat htake
    obtain ⟨htrans, -⟩ := u.beginTrans_trans ((State.beating_of_mode hmode).trans hbeat)
    exact ⟨_, congrArg Host.Outcome.next hw, htrans, (u.get_beginTrans _ _ (by decide) (by decide)).trans hmode⟩
  · have hserving : s.mode = modeService ∨ s.mode = modeHoldover := by simpa [State.serving] using hserve
    have hne : modeSurvey ≠ s.mode := by rcases hserving with h | h <;> rw [h] <;> decide
    have hbeat : s.beating = true := by rcases hserving with h | h <;> rw [State.beating, h] <;> decide
    obtain ⟨u, hmode, hw⟩ := hbegins modeSurvey (.inr rfl) hne hbeat htake
    obtain ⟨-, htrans⟩ := u.beginTrans_trans ((State.beating_of_mode hmode).trans hbeat)
    exact ⟨_, congrArg Host.Outcome.next hw, htrans, (u.get_beginTrans _ _ (by decide) (by decide)).trans hmode⟩

end Sys2Proof.Machine

/-! Restarts by request, wake sources, and the last step into DORMANT (R66, R68, R72, R87, R454). -/

namespace Sys2Proof.Machine

open Sys2Proof.Fields

/-! ### Restarts by request (R68) -/

theorem State.drainQueue_tim (s : State) : s.drainQueue.tim = s.tim :=
  foldl_keeps State.tim _ _ _ (fun _ _ t => t.ingotWritten_tim _ _ _)

/-- An ANNEAL request where beats run restarts for cause host with no wake source, and the timebase runs on. -/
theorem State.annealRestart_eq (s : State) : ∃ (u : State) (ranOn : Bool), u.tim = s.tim ∧ s.annealRestart = u.startAgain causeHost 0 false ranOn := by
  refine ⟨_, _, ?_, rfl⟩
  rw [State.airCut_tim, State.drainQueue_tim, State.napEnd_tim]
  split
  · exact s.sendLeave_tim
  · rfl

theorem State.modeRequest_anneal (s : State) (h : s.mode ≠ modeAnneal) :
    s.modeRequest modeAnneal = if s.mode = modeDormant then s.wakeUp causeHost 6 else s.annealRestart := by
  rw [State.modeRequest, if_neg h.symm, if_pos rfl]

/-- Settles O9: the restart, from the state that the write leaves. -/
theorem annealRequestRestarts : Obligations.AnnealRequestRestarts := by
  unfold Obligations.AnnealRequestRestarts
  intro s src hbeat htake
  obtain ⟨w, d, hw⟩ := s.write_modeReq src modeAnneal (by decide) htake
  generalize hu : State.put { s with sys := { s.sys with dirty := d } } MGT_MODEREQ w = u at hw
  have hget : u.get MGT_MODE = s.get MGT_MODE := by rw [← hu]; exact State.get_put_other _ _ _ _ (by decide)
  have hubeat := (State.beating_of_mode hget).trans hbeat
  have hdormant : u.mode ≠ modeDormant := by
    intro h
    simp [State.beating, h, modeDormant] at hubeat
  rw [u.modeRequest_anneal (u.mode_of_beating hubeat), if_neg hdormant] at hw
  obtain ⟨v, ranOn, htim, hrestart⟩ := u.annealRestart_eq
  obtain ⟨hstart, hcause, hsrc, hwake⟩ := v.starts_startAgain causeHost 0 false ranOn (by decide) (by decide)
  have hrun : v.tim.run = s.tim.run := by rw [htim, ← hu]; rfl
  refine ⟨_, congrArg Host.Outcome.next (hw.trans hrestart), hstart.mode, hcause, hsrc, hstart.phase, hwake, hstart.cast,
    hstart.run.trans hrun, hstart.lanes, hstart.cores, hstart.sch, hstart.queue, fun a ha hmode hwakesrc => hstart.regs a ha ?_⟩
  simp [hmode, hwakesrc]

/-! ### Wake sources (R72, R454) -/

/-- The enabled sources of those that fire. -/
abbrev State.enabled (s : State) (codes : List Nat) : List Nat := codes.filter (fun w => s.isSet (wakeEnable w))

theorem State.wakeFire_none (s : State) (codes : List Nat) (h : s.enabled codes = []) : s.wakeFire codes = s := by
  simp only [State.wakeFire, h]

theorem State.wakeFire_wakes (s : State) (codes : List Nat) (w : Nat) (r : List Nat) (h : s.enabled codes = w :: r)
    (htrans : s.sys.trans = .none) (hmode : s.mode = modeDormant) : s.wakeFire codes = s.wakeUp causeWake w := by
  simp only [State.wakeFire, h, htrans]
  exact if_pos hmode

theorem State.wakeFire_held (s : State) (codes : List Nat) (w n : Nat) (r : List Nat) (h : s.enabled codes = w :: r)
    (htrans : s.sys.trans = .dormant n) :
    s.wakeFire codes = { s with sys := { s.sys with heldWake := insertNat w s.sys.heldWake } } := by
  simp only [State.wakeFire, h, htrans]

/-- Settles O10: each way out of DORMANT ends in a wake start with the code of its source. -/
theorem wakeSourceEndsDormant : Obligations.WakeSourceEndsDormant := by
  unfold Obligations.WakeSourceEndsDormant
  intro s wakes
  have hwakes (c : Instr) (u : State) (code : Nat) (hcode : code < 8)
      (hexec : exec c s = .next (u.wakeUp (if code = 6 then causeHost else causeWake) code)) : wakes c code := by
    obtain ⟨hstart, hcause, hsrc, hwake⟩ :=
      u.starts_startAgain (if code = 6 then causeHost else causeWake) code true true (by split <;> decide) hcode
    exact ⟨_, hexec, hstart.mode, hcause, hsrc, hstart.phase, hwake, fun a ha hmode hwakesrc =>
      hstart.regs a ha (by simp [hmode, hwakesrc])⟩
  refine ⟨fun hmode htrans => ⟨fun fired w r hfired => ?_, fun htimer => ?_, fun src htake => ?_⟩, fun fired hoff => ?_,
    fun n w fired r htrans hfired => congrArg Host.Outcome.next (s.wakeFire_held _ w n r hfired htrans)⟩
  · have hmem : w ∈ (((List.range 4).filter fired.getLsbD).map (· + 1)).filter (fun w => s.isSet (wakeEnable w)) := by
      rw [hfired]; exact List.mem_cons_self
    have hw : w < 5 := by
      simp only [List.mem_filter, List.mem_map, List.mem_range] at hmem
      omega
    refine hwakes _ s w (by omega) ?_
    rw [if_neg (by omega)]
    exact congrArg Host.Outcome.next (s.wakeFire_wakes _ w r hfired htrans hmode)
  · have henabled : s.enabled [5] = [5] := List.filter_cons_of_pos htimer
    exact hwakes _ s 5 (by decide) (congrArg Host.Outcome.next (s.wakeFire_wakes [5] 5 [] henabled htrans hmode))
  · obtain ⟨w, d, hw⟩ := s.write_modeReq src modeAnneal (by decide) htake
    generalize hu : State.put { s with sys := { s.sys with dirty := d } } MGT_MODEREQ w = u at hw
    have humode : u.mode = modeDormant := by
      rw [← hmode, ← hu]; exact State.fld_of_get _ (State.get_put_other _ _ _ _ (by decide))
    rw [u.modeRequest_anneal (by rw [humode]; decide), if_pos humode] at hw
    exact hwakes _ u 6 (by decide) (congrArg Host.Outcome.next hw)
  · refine congrArg Host.Outcome.next (s.wakeFire_none _ (List.filter_eq_nil_iff.mpr ?_))
    intro w hw
    simp only [List.mem_map, List.mem_filter, List.mem_range] at hw
    obtain ⟨k, ⟨hk, hset⟩, rfl⟩ := hw
    rw [hoff ⟨k, hk⟩ hset]
    decide

/-! ### The stations lose their power (R66, R87) -/

theorem State.get_ptpLock (s : State) (p : Nat) (ok : Bool) (a : Nat) (h : a < 0x100000) (hstat : a ≠ TIM_STAT) (href : a ≠ TIM_REFSTAT)
    (hport : a ≠ PLK_PSTAT p) : (s.ptpLock p ok).get a = s.get a := by
  have htref (u : State) : (if u.fld TIM_TREFCFG_PTPPORT = p then u.setTref 2 ok else u).get a = u.get a := by
    split
    · exact u.get_setTref 2 ok a h hstat href
    · rfl
  unfold State.ptpLock
  dsimp only
  rw [htref]
  split
  · rfl
  · exact (State.get_raise_low _ _ _ _ h).trans (s.get_setBit_other _ _ _ hport)

theorem State.get_ptpStop (s : State) (p a : Nat) (h : a < 0x100000) (hstat : a ≠ TIM_STAT) (href : a ≠ TIM_REFSTAT)
    (hport : a ≠ PLK_PSTAT p) : (s.ptpStop p).get a = s.get a :=
  (State.get_ptpLock _ p false a h hstat href hport).trans (State.get_setFld_other _ (PLK_PSTAT_PTPSTATE p) 0 a hport)

/-- The status fields that fall with the stations' power. -/
def offFields : List Fld := [PLK_PSTAT_LINK 0, PLK_PSTAT_LINK 1, GNF_STAT_LOLOCK 0, GNF_STAT_LOLOCK 1]

theorem State.stationsOff_regs (s : State) :
    s.stationsOff.regs = (offFields.foldl (fun s f => s.setFld f 0) (((s.ptpStop 0).ptpStop 1).acqDiscard.pulsesLow)).regs := rfl

/-- The loss of power changes no register of MGT, nor the beat position. -/
theorem State.get_stationsOff (s : State) (a : Nat) (h : a < 0x20000) (hstat : a ≠ TIM_STAT) (href : a ≠ TIM_REFSTAT) :
    s.stationsOff.get a = s.get a := by
  have hport (p : Nat) : a ≠ PLK_PSTAT p := by simp only [PLK_PSTAT]; omega
  have hoff : ∀ f ∈ offFields, 0x20000 ≤ f.addr := by decide
  have hptp : ((s.ptpStop 0).ptpStop 1).get a = s.get a :=
    (State.get_ptpStop _ 1 a (by omega) hstat href (hport 1)).trans (s.get_ptpStop 0 a (by omega) hstat href (hport 0))
  rw [State.get_of_regs s.stationsOff_regs, ← hptp]
  generalize (s.ptpStop 0).ptpStop 1 = u
  have hlow : u.acqDiscard.pulsesLow.get a = u.get a := rfl
  rw [← hlow]
  exact foldl_keeps (State.get · a) _ _ _ (fun f hf t => t.get_setFld_other f 0 a (by have := hoff f hf; omega))

theorem State.setMode_mode (s : State) (m cause : Nat) (hm : m < 8) (hanneal : m ≠ modeAnneal) : (s.setMode m cause).mode = m := by
  unfold State.setMode
  dsimp only
  rw [if_neg hanneal, State.mode, State.fld_raise_low _ _ _ _ (by decide)]
  simp (disch := decide) only [State.fld_setFld_keeps, State.fld_setFld_same]
  exact Nat.mod_eq_of_lt hm

/-- Settles O11: what MGT writes before the stations lose their power outlives the loss. -/
theorem dormantPowersStationsDown : Obligations.DormantPowersStationsDown := by
  unfold Obligations.DormantPowersStationsDown
  intro s htrans hwritten hheld
  generalize hu : (s.napEnd.squashQuiet.setMode modeDormant causeHost).setFld TIM_BEATPOS_VALID 0 = u
  have hdown : s.powerDown = u.refreshDegraded.stationsOff := by
    rw [State.powerDown, if_pos ⟨htrans, hwritten⟩]
    simp only [hheld, hu]
  have hget (a : Nat) (h : a < 0x20000) (hstat : a ≠ TIM_STAT) (href : a ≠ TIM_REFSTAT) :
      u.refreshDegraded.stationsOff.get a = u.get a :=
    (State.get_stationsOff _ a h hstat href).trans (u.get_refreshDegraded a (by omega) hstat)
  refine ⟨_, congrArg Host.Outcome.next hdown, ?_, rfl, ?_, rfl, rfl, rfl, rfl, rfl, rfl⟩
  · rw [State.mode, State.fld_of_get _ (hget _ (by decide) (by decide) (by decide)), ← hu,
      State.fld_setFld_other_word _ TIM_BEATPOS_VALID _ _ (by decide)]
    exact State.setMode_mode _ modeDormant causeHost (by decide) (by decide)
  · rw [State.fld_of_get _ (hget _ (by decide) (by decide) (by decide)), ← hu]
    exact State.fld_setFld_same _ TIM_BEATPOS_VALID 0 (by decide)

end Sys2Proof.Machine

/-! The stages of a start: Assay, the index scan, calibration (R73, R76, R77, R402, R412). -/

namespace Sys2Proof.Machine

open Sys2Proof.Fields

/-! ### The first stage of Assay (R76) -/

theorem getFld_low (n : Nat) (f : Fld) (hlo : f.lo = 0) (hlen : f.len ≤ 32) : getFld (BitVec.ofNat 32 n) f = n % 2 ^ f.len := by
  have hdvd : 2 ^ f.len ∣ 2 ^ 32 := Nat.pow_dvd_pow 2 hlen
  rw [getFld, hlo, BitVec.extractLsb'_toNat, Nat.shiftRight_zero, BitVec.toNat_ofNat, Nat.mod_mod_of_dvd _ hdvd]

/-- Failures of the first stage stand in MGT_ASSAY, and ASSAY-FAIL is raised once. -/
theorem State.assayStage1_fails (s : State) (fail : BitVec 5) (hon : s.sys.power = .on) (hphase : s.sys.phase = .assay1)
    (hfail : fail ≠ 0) :
    (s.assayStage1 fail.toNat).sys.phase = .assay1Failed
    ∧ (s.assayStage1 fail.toNat).fld ⟨MGT_ASSAY, 0, 5⟩ = fail.toNat
    ∧ (s.assayStage1 fail.toNat).fld (routeCount 8) = min (s.fld (routeCount 8) + 1) 0xFFFFFFFF := by
  have hlt : fail.toNat < 2 ^ 5 := fail.isLt
  have hne : ¬ fail.toNat % 32 = 0 := by
    intro h
    exact hfail (BitVec.eq_of_toNat_eq (by simp; omega))
  generalize hu : (s.put MGT_ASSAY (BitVec.ofNat 32 (fail.toNat % 32))).setBit MGT_ASSAY_SHORT s.sys.wake = u
  have hend : s.assayStage1 fail.toNat = (u.setPhaseOf .assay1Failed).raise 8 := by
    rw [State.assayStage1, if_pos ⟨hon, hphase⟩]
    dsimp only
    rw [if_neg hne, hu]
  have hphased (f : Fld) : (u.setPhaseOf .assay1Failed).fld f = u.fld f := rfl
  rw [hend]
  refine ⟨congrArg Sys.phase (State.raise_sys _ 8 0), ?_, ?_⟩
  · rw [State.fld_raise_low _ _ _ _ (by decide), hphased, ← hu, State.setBit,
      State.fld_setFld_other_bits _ MGT_ASSAY_SHORT ⟨MGT_ASSAY, 0, 5⟩ _ rfl (by decide) (by decide), State.fld,
      State.get_put_same, getFld_low _ _ rfl (by decide)]
    show fail.toNat % 32 % 32 = fail.toNat
    omega
  · rw [State.fld_routeCount_raise _ 8 0 (by decide), hphased, ← hu, State.setBit,
      State.fld_setFld_other_word _ MGT_ASSAY_SHORT _ _ (by decide), State.fld_of_get _ (State.get_put_other _ MGT_ASSAY _ _ (by decide))]

/-! ### The index scan (R412) -/

theorem State.leapJudge_cru (s : State) : s.leapJudge.cru = s.cru := by
  unfold State.leapJudge
  split
  · unfold State.leapRaise
    dsimp only
    split
    · rfl
    · exact State.raise_cru _ 32 0
  · rfl

theorem State.startLoad_phase (s : State) (f : CastFrom) : (s.startLoad f).sys.phase = s.sys.phase := by
  unfold State.startLoad State.fetchFrom
  split
  · rfl
  · rfl
  · split <;> rfl
  · rfl

theorem State.enterLoad_phase (s : State) : s.enterLoad.sys.phase = .load := by
  unfold State.enterLoad State.takeHeld
  dsimp only
  split
  · split
    · exact State.startLoad_phase _ _
    · rfl
  · exact State.startLoad_phase _ _

/-- With a good copy of the anti-rollback counter the scan leads to the load of a casting. -/
theorem State.scanDone_loads (s : State) (bad : List (Nat × Nat × Bool)) (hon : s.sys.power = .on) (hphase : s.sys.phase = .scan)
    (hgood : ((s.indexScan bad).ingot 1 0).bothBad = false) :
    s.scanDone bad = (s.indexScan bad).xoCorrect.leapJudge.enterLoad := by
  have hcru : (s.indexScan bad).xoCorrect.leapJudge.cru = (s.indexScan bad).cru := by rw [State.leapJudge_cru, State.xoCorrect_rest]
  have hingot := State.ingot_of_ingots (congrArg Cru.ingots hcru) 1 0
  rw [State.scanDone, if_pos ⟨hon, hphase⟩]
  dsimp only
  rw [hingot, hgood]
  rfl

/-! ### The second stage of Assay (R76, R402) -/

theorem State.fence_sys (s : State) (b : Nat) : (s.fence b).sys = s.sys := by
  rw [State.fence, State.raise_sys, State.setFld_sys]

/-- Banks that are fenced are fenced afterwards, and stay so whichever others are. -/
theorem State.fenced_fences (s : State) (l : List Nat) (b : Nat) (hb : b < 192) (h : b ∈ l ∨ s.fenced b = true) :
    (l.foldl (fun s b => s.fence b) s).fenced b = true := by
  have hlow : (MEM_BANK_OWN_FENCED b).addr < 0x100000 := by simp only [MEM_BANK_OWN_FENCED, MEM_BANK_OWN]; omega
  induction l generalizing s with
  | nil => exact h.resolve_left (by simp)
  | cons c l ih =>
    refine ih (s.fence c) ?_
    by_cases hc : b = c
    · subst hc
      right
      rw [State.fenced, State.isSet, State.fence, State.fld_raise_low _ _ _ _ hlow,
          State.fld_setFld_same _ (MEM_BANK_OWN_FENCED b) _ (Nat.le_refl 32)]
      rfl
    · refine h.imp (fun hmem => (List.mem_cons.mp hmem).resolve_left hc) (fun hf => ?_)
      rw [State.fenced, State.isSet, State.fence, State.fld_raise_low _ _ _ _ hlow,
        State.fld_setFld_other_word _ _ _ _ (by simp only [MEM_BANK_OWN_FENCED, MEM_BANK_OWN]; omega)]
      exact hf

/-- The functions that stay in reset after stage 2: those of its failed tests, and those of the banks that it fences. -/
def State.stage2Gone (s : State) (fail : Nat) (banks : List Nat) : List Nat :=
  (assayFunctions.filter (fun t => fail.testBit t.1 && t.2.any s.isCast)).flatMap (·.2)
    ++ (banks.filter (fun b => decide (32 ≤ b) && !s.fenced b)).flatMap s.bankFunctions

/-- Stage 2 fences the failed banks from 32 on, and takes the functions that failed out of the casting. -/
theorem State.stage2_effect (s : State) (fail : Nat) (banks : List Nat) :
    (s.stage2 fail banks).sys.cast = s.sys.cast.filter (fun f => !(s.stage2Gone fail banks).contains f)
    ∧ ∀ b ∈ banks, 32 ≤ b → b < 192 → (s.stage2 fail banks).fenced b = true := by
  generalize hu : (banks.filter (fun b => decide (32 ≤ b) && !s.fenced b)).foldl (fun s b => s.fence b) s = u
  generalize hv : (assayFunctions.filter (fun t => fail.testBit t.1 && t.2.any s.isCast)).foldl
    (fun s t => s.setFld ⟨MGT_ASSAY, t.1, 1⟩ 1) u = v
  generalize hw : (if (banks.filter (fun b => decide (32 ≤ b) && !s.fenced b)).isEmpty then v else v.setFld MGT_ASSAY_BANKS 1) = w
  have husys : u.sys = s.sys := by rw [← hu]; exact foldl_keeps State.sys _ _ s (fun b _ t => t.fence_sys b)
  have hvsys : v.sys = u.sys := by rw [← hv]; exact foldl_keeps State.sys _ _ u (fun _ _ _ => rfl)
  have hwsys : w.sys = s.sys := by rw [← hw, ← husys, ← hvsys]; split <;> rfl
  have hvget (a : Nat) (ha : a ≠ MGT_ASSAY) : v.get a = u.get a := by
    rw [← hv]
    exact foldl_keeps (State.get · a) _ _ u (fun t _ c => c.get_setFld_other ⟨MGT_ASSAY, t.1, 1⟩ 1 a ha)
  have hwget (a : Nat) (ha : a ≠ MGT_ASSAY) : w.get a = u.get a := by
    rw [← hw, ← hvget a ha]
    split
    · rfl
    · exact v.get_setFld_other MGT_ASSAY_BANKS 1 a ha
  have hend : ∃ x : State, (x = s.stage2 fail banks) ∧ x.sys.cast = w.sys.cast.filter (fun f => !(s.stage2Gone fail banks).contains f)
      ∧ ∀ a, a < 0x100000 → x.get a = w.get a := by
    refine ⟨_, rfl, ?_⟩
    unfold State.stage2
    dsimp only
    rw [hu, hv, hw]
    split
    · exact ⟨rfl, fun _ _ => rfl⟩
    · exact ⟨congrArg Sys.cast (State.raise_sys _ 8 0), fun a ha => State.get_raise_low _ 8 0 a ha⟩
  obtain ⟨x, hx, hcast, hget⟩ := hend
  rw [← hx]
  refine ⟨by rw [hcast, hwsys], fun b hb h32 h192 => ?_⟩
  have hfence : u.fenced b = true := by
    rw [← hu]
    refine s.fenced_fences _ b h192 ?_
    cases hf : s.fenced b with
    | true => exact .inr rfl
    | false => exact .inl (List.mem_filter.mpr ⟨hb, by simp [h32, hf]⟩)
  have hlow : MEM_BANK_OWN b < 0x100000 ∧ MEM_BANK_OWN b ≠ MGT_ASSAY := by simp only [MEM_BANK_OWN, MGT_ASSAY]; omega
  rw [State.fenced, State.isSet, State.fld_of_get _ ((hget _ hlow.1).trans (hwget _ hlow.2))]
  exact hfence

/-- A core that is cast and whose test fails stays in reset. -/
theorem State.core_gone (s : State) (fail : Nat) (banks : List Nat) (c : Fin 16) (hfail : fail.testBit (16 + c) = true)
    (hcast : s.isCast (0x20 + c) = true) : 0x20 + c.val ∈ s.stage2Gone fail banks := by
  refine List.mem_append_left _ (List.mem_flatMap.mpr ⟨(16 + c.val, [0x20 + c.val]), List.mem_filter.mpr ⟨?_, ?_⟩, by simp⟩)
  · exact List.mem_append_right _ (List.mem_map.mpr ⟨c.val, List.mem_range.mpr c.isLt, rfl⟩)
  · simp [hfail, hcast]

/-! ### Calibration (R73, R207, R209) -/

theorem State.get_temperWrite (s : State) (n e : Nat) (tx : Bool) (hz : Nat) (seeds iq : Word) (a : Nat) (h : a < 0x50000) :
    (s.temperWrite n e tx hz seeds iq).get a = s.get a := by
  have hne (w : Nat) : a ≠ temperAddr n e w := by simp only [temperAddr]; omega
  unfold State.temperWrite
  dsimp only
  rw [State.get_put_other _ _ _ _ (hne 3), State.get_put_other _ _ _ _ (hne 2), State.get_setFld_other _ (T_TCAL n e) _ _ (hne 1),
    State.get_setBit_other _ (T_SYN n e) _ _ (hne 1), State.get_setFld_other _ (T_VALID n e) _ _ (hne 1),
    State.get_put_other _ _ _ _ (hne 1), State.get_put_other _ _ _ _ (hne 0)]

theorem State.get_nextCal (s : State) (l : List (Word × Word)) (a : Nat) : (s.nextCal l).2.2.get a = s.get a := by
  cases l <;> rfl

/-- One calibration changes the temper table alone, and draws free values. -/
theorem State.get_calibrate (n : Nat) (x : List (Word × Word) × State) (t : Bool × Nat) (a : Nat) (h : a < 0x50000) :
    (State.calibrate n x t).2.get a = x.2.get a := by
  obtain ⟨l, s⟩ := x
  unfold State.calibrate
  dsimp only
  split
  · exact s.get_count_other _ a (by simp only [T_USES, temperAddr]; omega)
  · exact (State.get_temperWrite _ _ _ _ _ _ _ a h).trans (s.get_nextCal l a)

/-- The calibration of the lanes changes no register of MGT. -/
theorem State.get_calibrateLanes (s : State) (cals : List (Word × Word)) (irr : List (BitVec 16)) (a : Nat) (h : a < 0x50000) :
    (s.calibrateLanes cals irr).get a = s.get a := by
  unfold State.calibrateLanes
  refine foldl_keeps (fun x : List (Word × Word) × List (BitVec 16) × State => x.2.2.get a) _ _ (cals, irr, s) ?_
  rintro n - ⟨l, r, u⟩
  have hplan := foldl_keeps (fun y : List (Word × Word) × State => y.2.get a) (fun y t => State.calibrate n y t) (u.calPlan n) (l, u)
    (fun t _ y => State.get_calibrate n y t a h)
  have hlane (v : State) (x y : Nat) : (((v.setFld (RFL_IQ_TTRIM n) x).setFld (RFL_IQ_IRR n) y).setFld (RFL_STAT_TRIMDUE n) 0).get a
      = v.get a := by
    have hiq : a ≠ RFL_IQ n := by simp only [RFL_IQ]; omega
    have hstat : a ≠ RFL_STAT n := by simp only [RFL_STAT]; omega
    rw [State.get_setFld_other _ (RFL_STAT_TRIMDUE n) _ _ hstat, State.get_setFld_other _ (RFL_IQ_IRR n) _ _ hiq,
      State.get_setFld_other _ (RFL_IQ_TTRIM n) _ _ hiq]
  dsimp only
  rw [← hplan, hlane]
  cases r <;> rfl

theorem State.get_raiseLatched (s : State) (a : Nat) (h : a < 0x100000) : s.raiseLatched.get a = s.get a := by
  have hall (l : List Nat) (t : State) : (l.foldl (fun s id => s.raise id) t).get a = t.get a :=
    foldl_keeps (State.get · a) _ l t (fun id _ u => u.get_raise_low id 0 a h)
  unfold State.raiseLatched
  dsimp only
  split
  · exact (State.get_raise_low _ 255 0 a h).trans (hall _ _)
  · exact hall _ _

/-- With no SURVEY request pending and AUTOSURVEY 0 the device waits when it is ready. -/
theorem State.becomeReady_waits (s : State) (hpend : s.fld MGT_MODE_PENDING ≠ modeSurvey)
    (hauto : s.isSet MGT_ASSAYCTL_AUTOSURVEY = false) : s.becomeReady = (s.setPhaseOf .ready).setFld MGT_MODE_WAIT 1 := by
  have hpend' : ¬ (s.setPhaseOf .ready).fld MGT_MODE_PENDING = modeSurvey := hpend
  have hauto' : ¬ (s.setPhaseOf .ready).isSet MGT_ASSAYCTL_AUTOSURVEY = true := by
    rw [Bool.not_eq_true]; exact hauto
  rw [State.becomeReady, if_neg hpend', if_neg hauto']

/-! ### The commands of a start -/

theorem State.mgtWrite_rerun (s : State) (src : BusSrc) (v : Word) (h : getFld v MGT_ASSAYCTL_RUN = 1)
    (hphase : s.sys.phase = .ready) :
    s.mgtWrite src MGT_ASSAYCTL v = s.setPhaseOf (.rerun true) := by
  have hrerun : s.assayRerun = s.setPhaseOf (.rerun true) := by simp only [State.assayRerun, hphase]
  have hwrite : s.mgtWrite src MGT_ASSAYCTL v = (if getFld v MGT_ASSAYCTL_RUN = 1 then s.assayRerun else s).autoSurvey := rfl
  rw [hwrite, if_pos h, hrerun]
  exact if_neg (fun hc => Phase.noConfusion hc.2.1)

/-- Settles O14, stage by stage. -/
theorem startStages : Obligations.StartStages := by
  unfold Obligations.StartStages
  refine fun s hon => ⟨fun hphase => ⟨?first, fun fail hfail => ?failed⟩, fun hphase bad hgood => ?scan,
    fun hphase fail banks => ?second, fun hphase hpend hauto cals irr => ?calibrated, fun hphase src htake => ?rerun⟩
  case first =>
    exact ⟨_, congrArg Host.Outcome.next (if_pos ⟨hon, hphase⟩), rfl⟩
  case failed => exact ⟨_, rfl, s.assayStage1_fails fail hon hphase hfail⟩
  case scan => exact ⟨_, congrArg Host.Outcome.next (s.scanDone_loads bad hon hphase hgood), State.enterLoad_phase _⟩
  case second =>
    have hexec : exec (.assayStage2Done fail banks) s = .next ((s.stage2 fail.toNat (banks.map (·.val))).setPhaseOf .calibrate) :=
      congrArg Host.Outcome.next (by simp only [State.assayStage2, hphase])
    obtain ⟨hcast, hfenced⟩ := s.stage2_effect fail.toNat (banks.map (·.val))
    generalize s.stage2 fail.toNat (banks.map (·.val)) = u at hexec hcast hfenced
    have hiscast (f : Nat) : (u.setPhaseOf .calibrate).isCast f = true ↔
        s.isCast f = true ∧ f ∉ s.stage2Gone fail.toNat (banks.map (·.val)) := by
      show u.sys.cast.contains f = true ↔ _
      rw [hcast]
      simp [State.isCast]
    refine ⟨_, hexec, rfl, fun f hf => ((hiscast f).mp hf).1, fun c hc => ?_, fun b hb h32 => ?_, fun hfail hnone => ?_⟩
    · rw [Bool.eq_false_iff]
      intro h
      obtain ⟨hs, hkept⟩ := (hiscast _).mp h
      exact hkept (s.core_gone fail.toNat _ c hc hs)
    · exact hfenced b.val (List.mem_map.mpr ⟨b, hb, rfl⟩) h32 b.isLt
    · have hgone : s.stage2Gone fail.toNat (banks.map (·.val)) = [] := by
        rw [hfail, hnone]
        simp [State.stage2Gone]
      show u.sys.cast = s.sys.cast
      rw [hcast, hgone]
      simp
  case calibrated =>
    have hget (a : Nat) (h : a < 0x50000) : (s.calibrateLanes cals irr).raiseLatched.get a = s.get a :=
      (State.get_raiseLatched _ a (by omega)).trans (s.get_calibrateLanes cals irr a h)
    have hready : s.calibrationDone cals irr = _ := (if_pos hphase).trans (State.becomeReady_waits _
      (by rw [State.fld_of_get _ (hget _ (by decide))]; exact hpend)
      (by rw [State.isSet, State.fld_of_get _ (hget _ (by decide))]; exact hauto))
    exact ⟨_, congrArg Host.Outcome.next hready, rfl, State.fld_setFld_same _ MGT_MODE_WAIT 1 (by decide)⟩
  case rerun =>
    obtain ⟨w, d, hw⟩ := s.write_stored src MGT_ASSAYCTL _ (by decide) ⟨_, rfl⟩ htake
    have hrun : getFld (s.setWord MGT_ASSAYCTL [(MGT_ASSAYCTL_RUN, 1)]) MGT_ASSAYCTL_RUN = 1 :=
      s.getFld_setWord MGT_ASSAYCTL_RUN 1 (by decide)
    exact ⟨_, congrArg Host.Outcome.next (hw.trans (State.mgtWrite_rerun _ _ _ hrun hphase)), rfl⟩

end Sys2Proof.Machine

/-! INPUT_OVERLOAD for a second time: it changes nothing where the registers stand in their canonical order, and what it changes where
they do not (R5, R126). -/

namespace Sys2Proof.Machine

open Sys2Proof.Fields Sys2Proof.Laws

/-! ### Tables in canonical order -/

theorem tabErase_of_above {β : Type} {a n : Nat} (hn : a < n) : ∀ (m : List (Nat × β)), tabSorted n m = true → tabErase a m = m
  | [], _ => rfl
  | (k, v) :: r, h => by
    simp only [tabSorted, Bool.and_eq_true, decide_eq_true_eq] at h
    rw [tabErase, if_neg (by omega), tabErase_of_above (by omega) r h.2]

theorem tabInsert_of_above {β : Type} {a n : Nat} (v : β) (hn : a < n) (m : List (Nat × β)) (h : tabSorted n m = true) :
    tabInsert a v m = (a, v) :: m := by
  cases m with
  | nil => rfl
  | cons p r =>
    simp only [tabSorted, Bool.and_eq_true, decide_eq_true_eq] at h
    exact if_pos (by omega)

theorem tabGet_of_above {β : Type} (d : β) {a n : Nat} (hn : a < n) : ∀ (m : List (Nat × β)), tabSorted n m = true → tabGet d m a = d
  | [], _ => rfl
  | (k, v) :: r, h => by
    simp only [tabSorted, Bool.and_eq_true, decide_eq_true_eq] at h
    rw [tabGet, if_neg (by omega), tabGet_of_above d (by omega) r h.2]

/-- In a table in order, the value that a key holds is written without any change. -/
theorem tabSet_held {β : Type} [DecidableEq β] (d v : β) (a : Nat) (hv : v ≠ d) : ∀ (n : Nat) (m : List (Nat × β)),
    tabSorted n m = true → tabGet d m a = v → tabSet d a v m = m := by
  intro n m hm hget
  rw [tabSet, if_neg hv]
  induction m generalizing n with
  | nil => exact absurd hget.symm hv
  | cons p r ih =>
    obtain ⟨k, w⟩ := p
    simp only [tabSorted, Bool.and_eq_true, decide_eq_true_eq] at hm
    obtain ⟨-, hr⟩ := hm
    by_cases hk : k = a
    · subst hk
      obtain rfl : w = v := by simpa [tabGet] using hget
      rw [tabErase, if_pos rfl, tabErase_of_above (Nat.lt_succ_self k) r hr, tabInsert_of_above w (Nat.lt_succ_self k) r hr]
    · rw [tabGet, if_neg (Ne.symm hk)] at hget
      have hlt : ¬ a < k := fun h => hv (hget.symm.trans (tabGet_of_above d (by omega) r hr))
      rw [tabErase, if_neg hk, tabInsert, if_neg hlt, ih _ hr hget]

theorem tabSorted_set {β : Type} [DecidableEq β] (d : β) (a : Nat) (v : β) (m : List (Nat × β)) (h : tabSorted 0 m = true) :
    tabSorted 0 (tabSet d a v m) = true := by
  have herase := tabSorted_erase a 0 m h
  rw [tabSet]
  split
  · exact herase
  · exact tabSorted_insert a v 0 _ herase (Nat.zero_le a) (tabErase_no_key a m)

theorem tabErase_insert {β : Type} (a : Nat) (v : β) (m : List (Nat × β)) : tabErase a (tabInsert a v m) = tabErase a m := by
  induction m with
  | nil => exact if_pos rfl
  | cons p r ih =>
    obtain ⟨k, w⟩ := p
    rw [tabInsert]
    split
    · exact if_pos rfl
    · rw [tabErase, tabErase, ih]

theorem tabErase_erase {β : Type} (a : Nat) (m : List (Nat × β)) : tabErase a (tabErase a m) = tabErase a m := by
  induction m with
  | nil => rfl
  | cons p r ih =>
    obtain ⟨k, w⟩ := p
    by_cases hk : k = a <;> simp [tabErase, hk, ih]

/-- A value written twice running is as one written once, whatever the order of the table. -/
theorem tabSet_again {β : Type} [DecidableEq β] (d : β) (a : Nat) (v : β) (m : List (Nat × β)) :
    tabSet d a v (tabSet d a v m) = tabSet d a v m := by
  by_cases hv : v = d
  · simp only [tabSet, if_pos hv, tabErase_erase]
  · simp only [tabSet, if_neg hv, tabErase_insert, tabErase_erase]

/-! ### The order of the registers -/

/-- The registers stand in ascending order. -/
abbrev State.ordered (s : State) : Prop := tabSorted 0 s.regs = true

theorem State.ordered_put (s : State) (a : Nat) (w : Word) (h : s.ordered) : (s.put a w).ordered := tabSorted_set _ a w _ h

theorem State.ordered_sendVector (s : State) (v : Nat) (h : s.ordered) : (s.sendVector v).ordered := by
  have hpending : (s.setPending v false).ordered := s.ordered_put _ _ h
  unfold State.sendVector
  dsimp only
  split
  · exact hpending
  · exact hpending

theorem State.ordered_eventVector (s : State) (id : Nat) (h : s.ordered) : (s.eventVector id).ordered := by
  unfold State.eventVector State.signalVector
  split
  · split
    · exact s.ordered_put _ _ h
    · exact s.ordered_sendVector _ h
  · exact h

theorem State.ordered_toCore (s : State) (c id data : Nat) (h : s.ordered) : (s.toCore c id data).ordered := by
  unfold State.toCore
  split
  · exact h
  · split
    · exact h
    · exact s.ordered_put _ _ h

theorem State.ordered_countEvent (s : State) (id data : Nat) (h : s.ordered) : (s.countEvent id data).ordered := by
  have hcores (w : Word) (l : List Nat) (t : State) (ht : t.ordered) :
      (l.foldl (fun s c => if w.getLsbD (16 + c) then s.toCore c id data else s) t).ordered := by
    induction l generalizing t with
    | nil => exact ht
    | cons c l ih =>
      refine ih _ ?_
      dsimp only
      split
      · exact t.ordered_toCore c id data ht
      · exact ht
  exact hcores _ _ _ (s.ordered_put _ _ h)

theorem State.ordered_dropRecord (s : State) (id : Nat) (h : s.ordered) : (s.dropRecord id).ordered := by
  have hlost : (s.count HST_ERSTAT_LOST).ordered := s.ordered_put _ _ h
  unfold State.dropRecord
  dsimp only
  refine State.ordered_eventVector _ _ ?_
  split
  · exact State.ordered_countEvent _ _ _ hlost
  · exact hlost

theorem State.ordered_generateRecord (s : State) (id data : Nat) (h : s.ordered) : (s.generateRecord id data).ordered := by
  have hseq : s.takeSeq.2.ordered := s.ordered_put _ _ h
  unfold State.generateRecord
  dsimp only
  split
  · exact hseq
  · exact State.ordered_dropRecord _ _ hseq

/-- Raising an event keeps the order of the registers. -/
theorem State.ordered_raise (s : State) (id data : Nat) (h : s.ordered) : (s.raise id data).ordered := by
  have hcount := s.ordered_countEvent id data h
  unfold State.raise
  dsimp only
  split
  · exact hcount
  · split
    · exact State.ordered_generateRecord _ _ _ hcount
    · exact State.ordered_eventVector _ _ hcount

/-! ### A bit that is latched twice in a tick (R5) -/

theorem putFld_getFld (w : Word) (f : Fld) (h : f.lo + f.len ≤ 32) : putFld w f (getFld w f) = w := by
  refine BitVec.eq_of_getLsbD_eq (fun i _ => ?_)
  rw [getLsbD_putFld _ _ _ _ h]
  split
  · rename_i hi
    rw [getFld, BitVec.testBit_toNat, BitVec.getLsbD_extractLsb', show f.lo + (i - f.lo) = i by omega]
    simp [show i - f.lo < f.len by omega]
  · rfl

theorem State.now_ts (s : State) : s.now.ts = s.tickNow := by
  unfold State.now
  split
  · rename_i h
    simp only [Bool.and_eq_true, beq_iff_eq] at h
    exact h.2
  · rfl

/-- The flags of a tick with the bits of a field noted. -/
def noteFlag (f : Fld) (l : List (Nat × Word)) : List (Nat × Word) :=
  tabSet 0 f.addr (tabGet 0 l f.addr ||| fldMask f.lo f.len) l

theorem noteFlag_again (f : Fld) (l : List (Nat × Word)) : noteFlag f (noteFlag f l) = noteFlag f l := by
  simp only [noteFlag, tabGet_set_same, BitVec.or_assoc, BitVec.or_self, tabSet_again]

theorem State.latch_eq (s : State) (f : Fld) :
    s.latch f = { s.setFld f 1 with tick := { s.now with flags := noteFlag f s.now.flags } } := rfl

/-- A flag that is noted in the tick is noted again without any change. -/
theorem State.tick_latch_again (s t : State) (f : Fld) (htim : t.tim = s.tim) (htick : t.tick = (s.latch f).tick) :
    (t.latch f).tick = t.tick := by
  have hnow : t.tickNow = s.tickNow := by simp only [State.tickNow, htim]
  have hts : t.tick.ts = t.tickNow := by rw [htick, hnow]; exact s.now_ts
  cases hrun : t.tim.run with
  | true =>
    have h : t.now = t.tick := by simp [State.now, hrun, hts]
    rw [State.latch_eq]
    dsimp only
    rw [h, htick, State.latch_eq]
    dsimp only
    rw [noteFlag_again]
  | false =>
    have h : t.now = s.now := by simp [State.now, hnow, hrun, ← htim]
    rw [State.latch_eq, htick, State.latch_eq, h]

/-- A bit that was latched in this tick, in a register that is not as at a start, is latched again without any change. -/
theorem State.latch_again (s t : State) (f : Fld) (hf : f.lo + f.len ≤ 32) (hset : t.fld f = 1) (hcold : t.get f.addr ≠ coldReg f.addr)
    (hordered : t.ordered) (htim : t.tim = s.tim) (htick : t.tick = (s.latch f).tick) : t.latch f = t := by
  have hput : putFld (t.get f.addr) f 1 = t.get f.addr := by
    rw [← hset]; exact putFld_getFld _ f hf
  have hregs : (t.latch f).regs = t.regs := by
    show tabSet (coldReg f.addr) f.addr (putFld (t.get f.addr) f 1) t.regs = t.regs
    rw [hput]
    exact tabSet_held _ _ _ hcold 0 t.regs hordered rfl
  calc t.latch f = { t with regs := (t.latch f).regs, tick := (t.latch f).tick } := rfl
    _ = t := by rw [hregs, s.tick_latch_again t f htim htick]

/-! ### INPUT_OVERLOAD (R126) -/

theorem coldReg_gnfStat (b : Fin 2) : coldReg (GNF_STAT b) = 0#32 := by
  revert b; decide +kernel

theorem exec_inputOverload_first (s : State) (b : Fin 2) (h : s.isSet (GNF_STAT_OVERLOAD b) = false) :
    exec (.inputOverload b) s = .next ((s.latch (GNF_STAT_OVERLOAD b)).raise 47) :=
  congrArg Host.Outcome.next (if_neg (Bool.eq_false_iff.mp h))

theorem exec_inputOverload_again (s : State) (b : Fin 2) (h : s.isSet (GNF_STAT_OVERLOAD b) = true) :
    exec (.inputOverload b) s = .next (s.latch (GNF_STAT_OVERLOAD b)) :=
  congrArg Host.Outcome.next (if_pos h)

/-- The effect that O24 states of INPUT_OVERLOAD, in every state whose registers stand in ascending order. -/
theorem inputOverload_once (s : State) (b : Fin 2) (hordered : s.ordered) (hclear : s.isSet (GNF_STAT_OVERLOAD b) = false) :
    ∃ t, exec (.inputOverload b) s = .next t ∧ t.fld (GNF_STAT_OVERLOAD b) = 1
      ∧ t.fld (routeCount 47) = min (s.fld (routeCount 47) + 1) 0xFFFFFFFF ∧ exec (.inputOverload b) t = .next t := by
  have hlow : (GNF_STAT_OVERLOAD b).addr < 0x100000 := by simp only [GNF_STAT_OVERLOAD, GNF_STAT]; omega
  refine ⟨_, exec_inputOverload_first s b hclear, ?_⟩
  generalize ht : (s.latch (GNF_STAT_OVERLOAD b)).raise 47 = t
  have hset : t.fld (GNF_STAT_OVERLOAD b) = 1 := by
    rw [← ht, State.fld_raise_low _ 47 0 _ hlow]
    exact s.fld_setFld_same (GNF_STAT_OVERLOAD b) 1 (by decide : (25 : Nat) + 1 ≤ 32)
  have hcold : t.get (GNF_STAT_OVERLOAD b).addr ≠ coldReg (GNF_STAT_OVERLOAD b).addr := by
    intro h
    rw [State.fld, h, show (GNF_STAT_OVERLOAD b).addr = GNF_STAT b from rfl, coldReg_gnfStat] at hset
    exact absurd hset (by simp [getFld])
  have hlatch : t.latch (GNF_STAT_OVERLOAD b) = t :=
    s.latch_again t _ (by decide : (25 : Nat) + 1 ≤ 32) hset hcold
      (by rw [← ht]; exact State.ordered_raise _ 47 0 (s.ordered_put _ _ hordered))
      (by rw [← ht, State.raise_tim]; rfl) (by rw [← ht, State.raise_tick])
  refine ⟨hset, ?_, ?_⟩
  · have hcount : (s.latch (GNF_STAT_OVERLOAD b)).fld (routeCount 47) = s.fld (routeCount 47) :=
      s.fld_setFld_other_word _ _ 1 (by simp only [routeCount, GNF_STAT_OVERLOAD, GNF_STAT]; omega)
    rw [← ht, State.fld_routeCount_raise _ 47 0 (by decide), hcount]
  · rw [exec_inputOverload_again t b (by rw [State.isSet, hset]; rfl), hlatch]

/-! ### Registers that are out of order -/

/-- The state after reset with two register words in descending order: the count of event 47, and that of the beats. -/
def State.unordered : State := { State.reset with regs := [((routeCount 47).addr, 1), (TIM_BEATCNT, 1)] }

theorem overload_unordered : State.unordered.isSet (GNF_STAT_OVERLOAD (0 : Fin 2)) = false := by
  decide +kernel

/-- After the first INPUT_OVERLOAD the word of GNF_STAT stands before that of TIM_BEATCNT, and after a second one behind it. -/
theorem latch_again_unordered :
    let t := (State.unordered.latch (GNF_STAT_OVERLOAD (0 : Fin 2))).raise 47
    t.isSet (GNF_STAT_OVERLOAD (0 : Fin 2)) = true ∧ (t.latch (GNF_STAT_OVERLOAD (0 : Fin 2))).regs ≠ t.regs := by
  decide +kernel

/-- Refutes O24 in its clause on INPUT_OVERLOAD, which speaks of every state, and so of one whose registers are not listed in ascending
order: a second INPUT_OVERLOAD then changes no word but moves one in the list. Every write keeps the order (`State.ordered_put`), and
where it holds so does the clause, by `inputOverload_once`. -/
theorem not_gnssChains : ¬ Obligations.GnssChains := by
  unfold Obligations.GnssChains
  intro h
  obtain ⟨-, -, -, -, -, hoverload⟩ := h State.unordered 0
  obtain ⟨t, hexec, -, -, hagain⟩ := hoverload overload_unordered
  obtain rfl := Host.Outcome.next.inj ((exec_inputOverload_first _ 0 overload_unordered).symm.trans hexec)
  obtain ⟨hset, hmoved⟩ := latch_again_unordered
  have hsame := Host.Outcome.next.inj ((exec_inputOverload_again _ 0 hset).symm.trans hagain)
  exact hmoved (congrArg State.regs hsame)

end Sys2Proof.Machine

/-! A write of a slice's word, and the one state of affairs in which a field differs from what was written: the device has latched one of
its bits in the same tick (R5). -/

namespace Sys2Proof.Machine

open Sys2Proof.Fields

/-! ### A write of a slice's word (R110) -/

/-- The place of word `w` of slice `i`. -/
abbrev sliceAddr (i : Fin 192) (w : Fin 64) : Nat := 0x440000 + 256 * i.val + 4 * w.val

theorem sliceAddr_place (i : Fin 192) (w : Fin 64) : 0x440000 ≤ sliceAddr i w ∧ sliceAddr i w < 0x450000 ∧ sliceAddr i w % 4 = 0
    ∧ (sliceAddr i w - 0x440000) / 256 = i.val ∧ sliceAddr i w % 256 / 4 = w.val := by
  simp only [sliceAddr]
  omega

theorem fieldsApart_slice : ∀ r ∈ regsSlice, fieldsApart r.flds := by
  decide

theorem fieldsApart_sliceAddr (i : Fin 192) (w : Fin 64) (r : RSpec) (h : regAt (sliceAddr i w) = some r) : fieldsApart r.flds := by
  have hregs : regsOf (sliceAddr i w) = regsSlice := by
    obtain ⟨hlo, hhi, -⟩ := sliceAddr_place i w
    have hwindow : sliceAddr i w / 0x10000 = 0x44 := by omega
    simp [regsOf, hwindow, show ¬ sliceAddr i w < 0x300000 by omega]
  rw [regAt, hregs] at h
  exact fieldsApart_slice r (List.mem_of_find?_eq_some h)

theorem State.storeWord_slice (s : State) (i : Fin 192) (w : Fin 64) (v : Word) (hn : s.setNow (sliceAddr i w) = 0#32) :
    s.storeWord (sliceAddr i w) v = s.put (sliceAddr i w) (mergeWord (sliceAddr i w) (s.get (sliceAddr i w)) v) := by
  obtain ⟨hlo, -⟩ := sliceAddr_place i w
  have hnotch : ¬ sliceAddr i w < 0x200A0 := by omega
  have hcore : ¬ sliceAddr i w < 0x300000 := by omega
  simp [State.storeWord, hnotch, hcore, hn]

theorem State.holdGain_slice (s : State) (i : Fin 192) (w : Fin 64) (v : Word) : s.holdGain (sliceAddr i w) v = s := by
  obtain ⟨hlo, -⟩ := sliceAddr_place i w
  have hchain : ¬ (sliceAddr i w = GNF_CTL 0 ∨ sliceAddr i w = GNF_CTL 1) := by simp only [GNF_CTL]; omega
  have hlane : ¬ sliceAddr i w / 0x10000 < 9 := by omega
  simp only [State.holdGain, hchain, hlane, false_and, and_false, if_false]

/-- A write of a slice's word stores it, and the slice acts on it. -/
theorem State.applyWrite_slice (s : State) (src : BusSrc) (i : Fin 192) (w : Fin 64) (v : Word) :
    s.applyWrite src (sliceAddr i w) v
      = (s.storeWord (sliceAddr i w) v).sliceWritten i w (s.get (sliceAddr i w)) := by
  obtain ⟨hlo, hhi, -, hslice, hword⟩ := sliceAddr_place i w
  rw [State.applyWrite, if_neg (by omega), if_neg (by omega), if_neg (by omega), if_neg (by omega), if_neg (by omega),
    State.plainWrite, s.holdGain_slice, if_neg (by omega), if_neg (by omega), if_neg (by omega), if_neg (by omega), if_pos (by omega), hslice, hword]

theorem State.sliceWritten_plain (s : State) (i w : Nat) (old : Word) (h : 3 ≤ w) (hloop : w ≠ 0x20) : s.sliceWritten i w old = s := by
  rw [State.sliceWritten, if_neg (by omega), if_neg (by omega), if_neg (by omega), if_neg hloop]

/-- The effect that O25 states of a write of a word that starts no action, in every state in whose tick the device has latched no bit of
the word. -/
theorem sliceStateWrite_sets_fields (s : State) (src : BusSrc) (i : Fin 192) (w : Fin 64) (v : Word) (htake : s.takes (sliceAddr i w) v)
    (h : 3 ≤ w.val) (hloop : w.val ≠ 0x20) (hn : s.setNow (sliceAddr i w) = 0#32) :
    ∃ t, exec (.sliceStateWrite src i w v) s = .next t
      ∧ (∀ r, regAt (sliceAddr i w) = some r → ∀ f ∈ r.flds, f.ty = .RW →
          getFld (t.get (sliceAddr i w)) ⟨sliceAddr i w, f.lo, f.len⟩ = getFld v ⟨sliceAddr i w, f.lo, f.len⟩)
      ∧ (∀ b, b ≠ sliceAddr i w → t.get b = s.get b) ∧ t.gnss = s.gnss := by
  obtain ⟨hlo, -, h4, -⟩ := sliceAddr_place i w
  have hmgt : sliceAddr i w ≠ MGT_MODEREQ ∧ sliceAddr i w ≠ MGT_CASTCTL ∧ sliceAddr i w ≠ MGT_FRESET ∧ sliceAddr i w ≠ MGT_ASSAYCTL := by
    simp only [MGT_MODEREQ, MGT_CASTCTL, MGT_FRESET, MGT_ASSAYCTL]; omega
  have hwrite : exec (.sliceStateWrite src i w v) s
      = .next ((s.put (sliceAddr i w) (mergeWord (sliceAddr i w) (s.get (sliceAddr i w)) v)).markDirty (sliceAddr i w)) := by
    refine congrArg Host.Outcome.next ((s.write_taken src _ v h4 htake).trans ?_)
    rw [State.mgtWrite_other _ _ _ _ hmgt, s.applyWrite_slice, s.storeWord_slice i w v hn, State.sliceWritten_plain _ _ _ _ h hloop]
  refine ⟨_, hwrite, fun r hr f hm hf => ?_, fun b hb => ?_, State.markDirty_gnss _ _⟩
  · rw [State.get_markDirty, State.get_put_same]
    exact getFld_mergeWord_RW _ _ v r hr (fieldsApart_sliceAddr i w r hr) f hm hf
  · rw [State.get_markDirty, State.get_put_other _ _ _ _ hb]

/-! ### A slice's word with a latched bit -/

/-- The state after reset with the timebase running and slice 0 allocated, in whose tick the device has latched bit 0 of the slice's
ANCHORCNT. -/
def State.anchorLatched : State :=
  State.latch (State.setFld { State.reset with
      sys := { State.reset.sys with phase := .running, cast := [7, 8] }
      tim := { State.reset.tim with run := true } } GNC_PLAN_NSLICES 1)
    ⟨SL_ANCHORCNT 0, 0, 1⟩

theorem takes_anchorLatched : State.anchorLatched.takes (sliceAddr 0 0x22) 0 := by
  decide +kernel

/-- The latched bit outlives the 0 that is written over it. -/
theorem anchorCnt_of_write_anchorLatched :
    getFld ((State.anchorLatched.write .pcie (sliceAddr 0 0x22) 0).get (sliceAddr 0 0x22)) (SL_ANCHORCNT_CNT 0) = 1 := by
  decide +kernel

theorem anchorCnt_RW : ∃ r, regAt (sliceAddr 0 0x22) = some r ∧ ∃ f ∈ r.flds, f.ty = .RW
    ∧ (⟨sliceAddr 0 0x22, f.lo, f.len⟩ : Fld) = SL_ANCHORCNT_CNT 0 :=
  ⟨_, rfl, _, List.mem_singleton_self _, rfl, rfl⟩

/-- Refutes O25 in its clause on SLICE_STATE_WRITE, which speaks of every state, and so of one in whose tick the device has latched a bit
of an RW field of the word: that bit stays set (R5). No operation of the model latches a bit there; where none is latched the effect
holds, by `sliceStateWrite_sets_fields`. -/
theorem not_slicesAndPredictions : ¬ Obligations.SlicesAndPredictions := by
  unfold Obligations.SlicesAndPredictions
  intro h
  obtain ⟨-, -, -, -, hwrite, -⟩ := h State.anchorLatched 0
  obtain ⟨t, hexec, hfld, -⟩ := (hwrite .pcie 0x22 0 takes_anchorLatched).1 (by decide) (by decide)
  obtain rfl : State.anchorLatched.write .pcie (sliceAddr 0 0x22) 0 = t := Host.Outcome.next.inj hexec
  obtain ⟨r, hr, f, hm, hf, haddr⟩ := anchorCnt_RW
  have hread := hfld r hr f hm hf
  rw [haddr, anchorCnt_of_write_anchorLatched] at hread
  exact absurd hread (by decide)

end Sys2Proof.Machine

/-! The acquisition engine: its queue and FIFO, what a write of GNC_ACQCTL does, and the end of requests (R115 to R119). -/

namespace Sys2Proof.Machine

open Sys2Proof.Fields

/-! ### A write of GNC_ACQCTL (R115, R118, R119) -/

/-- An accepted write of GNC_ACQCTL changes that register, and the engine acts on it. -/
theorem State.write_acqCtl (s : State) (src : BusSrc) (v : Word) (h : s.takes GNC_ACQCTL v) :
    ∃ w, s.write src GNC_ACQCTL v = (s.put GNC_ACQCTL w).acqCtl v := by
  have hkept (t : State) : t.markDirty GNC_ACQCTL = t := by
    have hmask : keptMask GNC_ACQCTL = 0 := by decide +kernel
    simp [State.markDirty, State.isKept, hmask]
  obtain ⟨w, hw⟩ : ∃ w, s.applyWrite src GNC_ACQCTL v = (s.put GNC_ACQCTL w).acqCtl v := ⟨_, rfl⟩
  exact ⟨w, by rw [s.write_taken src _ v (by decide) h, State.mgtWrite_other _ _ _ _ (by decide), hkept, hw]⟩

theorem rwMask_acqctl : rwMask GNC_ACQCTL = 0#32 := by decide +kernel

/-- One bit alone is written. -/
theorem State.setWord_acqctl (s : State) (f : Fld) : s.setWord GNC_ACQCTL [(f, 1)] = putFld 0 f 1 := by
  rw [State.setWord, rwMask_acqctl, BitVec.and_zero]
  rfl

theorem State.acqCtl_push (s t : State) : t.acqCtl (s.setWord GNC_ACQCTL [(GNC_ACQCTL_PUSH, 1)]) = t.acqPush := by
  rw [s.setWord_acqctl]; rfl

theorem State.acqCtl_pop (s t : State) : t.acqCtl (s.setWord GNC_ACQCTL [(GNC_ACQCTL_POP, 1)]) = t.acqPop := by
  rw [s.setWord_acqctl]; rfl

theorem State.acqCtl_flush (s t : State) : t.acqCtl (s.setWord GNC_ACQCTL [(GNC_ACQCTL_FLUSH, 1)]) = t.acqCancel (fun _ => true) := by
  rw [s.setWord_acqctl]; rfl

theorem State.acqCtl_cancel (s t : State) :
    t.acqCtl (s.setWord GNC_ACQCTL [(GNC_ACQCTL_CANCEL, 1)]) = t.acqCancel (fun r => r.tag == t.fld GNC_ACQW1_TAG) := by
  rw [s.setWord_acqctl]; rfl

/-! ### When the engine takes no request (R116) -/

theorem State.acqGo_busy (s : State) (h : s.gnss.acqPhase ≠ .idle) : s.acqGo = s := by
  simp [State.acqGo, State.acqStart, h]

theorem State.acqGo_empty (s : State) (h : s.gnss.acqQ = []) : s.acqGo = s := by
  simp [State.acqGo, State.acqStart, h]

/-! ### Results move into the FIFO (R118) -/

/-- The engine after results have moved into the FIFO as far as it has places. -/
def Gnss.drained (g : Gnss) : Gnss :=
  let moved := g.acqWait.take (64 - g.acqRes.length)
  let h := { g with acqRes := g.acqRes ++ moved.map (·.2), acqWait := g.acqWait.drop (64 - g.acqRes.length) }
  if moved.any (·.1) then { h with acqQ := h.acqQ.drop 1, acqPhase := .idle, acqFresh := false } else h

theorem State.raiseIf_gnss (s : State) (c : Prop) [Decidable c] (id : Nat) : (if c then s.raise id else s).gnss = s.gnss := by
  split
  · exact s.raise_gnss id 0
  · rfl

theorem State.acqDrain_gnss (s : State) : s.acqDrain.gnss = s.gnss.drained := by
  unfold State.acqDrain Gnss.drained
  dsimp only
  split
  · split <;> rfl
  · rw [State.raiseIf_gnss, State.raiseIf_gnss]
    split <;> rfl

/-- Results of requests that are not in progress only move. -/
theorem Gnss.drained_of_ended (g : Gnss) (h : g.acqWait.any (·.1) = false) :
    g.drained.acqQ = g.acqQ ∧ g.drained.acqPhase = g.acqPhase
    ∧ g.drained.acqRes ++ g.drained.acqWait.map (·.2) = g.acqRes ++ g.acqWait.map (·.2) := by
  have hmoved : (g.acqWait.take (64 - g.acqRes.length)).any (·.1) = false := by
    simp only [List.any_eq_false] at h ⊢
    exact fun p hp => h p (List.mem_of_mem_take hp)
  have hdrained : g.drained = { g with
      acqRes := g.acqRes ++ (g.acqWait.take (64 - g.acqRes.length)).map (·.2)
      acqWait := g.acqWait.drop (64 - g.acqRes.length) } := by
    rw [Gnss.drained, hmoved]; rfl
  rw [hdrained]
  refine ⟨rfl, rfl, ?_⟩
  rw [List.append_assoc, ← List.map_append, List.take_append_drop]

theorem Gnss.drained_of_none (g : Gnss) (h : g.acqWait = []) : g.drained = g := by
  simp only [Gnss.drained, h, List.take_nil, List.any_nil, List.map_nil, List.append_nil, List.drop_nil, Bool.false_eq_true, if_false]
  rw [← h]

/-! ### The search ends (R117) -/

/-- The result of the one request queued goes into the FIFO, which leaves the engine idle, or waits for a place there. -/
theorem State.acqFinish_only (s : State) (r : AcqReq) (x : AcqRes) (hq : s.gnss.acqQ = [r]) (hwait : s.gnss.acqWait = []) :
    (s.gnss.acqRes.length < 64 → (s.acqFinish x).gnss.acqRes = s.gnss.acqRes ++ [x] ∧ (s.acqFinish x).gnss.acqQ = []
      ∧ (s.acqFinish x).gnss.acqPhase = .idle)
    ∧ (64 ≤ s.gnss.acqRes.length → (s.acqFinish x).gnss.acqRes = s.gnss.acqRes ∧ (s.acqFinish x).gnss.acqQ = [r]
      ∧ (s.acqFinish x).gnss.acqPhase = .stalled ∧ (s.acqFinish x).gnss.acqWait = [(true, x)]) := by
  rw [State.acqFinish, State.acqDrain_gnss]
  refine ⟨fun hroom => ?_, fun hfull => ?_⟩
  · obtain ⟨k, hk⟩ : ∃ k, 64 - s.gnss.acqRes.length = k + 1 := ⟨63 - s.gnss.acqRes.length, by omega⟩
    simp [Gnss.drained, hwait, hk, hq]
  · have hk : 64 - s.gnss.acqRes.length = 0 := by omega
    simp [Gnss.drained, hwait, hk, hq]

/-- The engine takes no other request after the end of the only one. -/
theorem State.acqFinish_go (s : State) (r : AcqReq) (x : AcqRes) (hq : s.gnss.acqQ = [r]) (hwait : s.gnss.acqWait = []) :
    (s.acqFinish x).acqGo = s.acqFinish x := by
  obtain ⟨hroom, hfull⟩ := s.acqFinish_only r x hq hwait
  by_cases h : s.gnss.acqRes.length < 64
  · exact State.acqGo_empty _ (hroom h).2.1
  · obtain ⟨-, -, hphase, -⟩ := hfull (by omega)
    exact State.acqGo_busy _ (by rw [hphase]; decide)

theorem State.acqDone_only (s : State) (r : AcqReq) (pnr ratio codeph dopp : Nat) (hphase : s.gnss.acqPhase = .searching)
    (hq : s.gnss.acqQ = [r]) (hwait : s.gnss.acqWait = []) :
    ∃ n, s.acqDone pnr ratio codeph dopp = s.acqFinish
      ⟨r.tag, if getFld r.w1 GNC_ACQW1_THRESH ≤ pnr then acqDetected else acqNotFound, pnr, ratio, codeph, dopp, n⟩ := by
  simp only [State.acqDone, hphase, hq]
  exact ⟨_, s.acqFinish_go r _ hq hwait⟩

/-! ### Requests end CANCELLED (R119) -/

/-- One more request has ended CANCELLED. -/
def addCancelled (x : List (Bool × AcqRes) × State) (r : AcqReq) : List (Bool × AcqRes) × State :=
  (x.1 ++ [(false, (x.2.bareResult r acqCancelled).1)], (x.2.bareResult r acqCancelled).2)

/-- Each request that ends has one result of its tag, CANCELLED, in the order of the queue; its other figures are drawn. -/
theorem foldl_addCancelled (q : List AcqReq) (l : List (Bool × AcqRes)) (s : State) :
    ∃ (rs : List AcqRes) (n : Nat), q.foldl addCancelled (l, s) = (l ++ rs.map (fun x => (false, x)), { s with free := n })
      ∧ rs.map (fun x => (x.tag, x.status)) = q.map (fun r => (r.tag, acqCancelled)) := by
  induction q generalizing l s with
  | nil => exact ⟨[], s.free, by simp, rfl⟩
  | cons r q ih =>
    obtain ⟨rs, n, hfold, hrs⟩ := ih (addCancelled (l, s) r).1 (addCancelled (l, s) r).2
    refine ⟨(s.bareResult r acqCancelled).1 :: rs, n, ?_, ?_⟩
    · rw [List.foldl_cons, hfold]
      simp [addCancelled, State.bareResult, State.fresh]
    · rw [List.map_cons, List.map_cons, hrs]
      rfl

/-- The engine without the requests that end, their results behind those that wait. -/
def State.cancelled (s : State) (p : AcqReq → Bool) (rs : List AcqRes) (n : Nat) : State :=
  { s with free := n, gnss := { s.gnss with
      acqQ := s.gnss.acqQ.filter (fun r => !p r), acqWait := s.gnss.acqWait ++ rs.map (fun x => (false, x)) } }

/-- A cancellation stops the request in progress where that is to end, and ends those chosen. -/
theorem State.acqCancel_eq (s : State) (p : AcqReq → Bool) :
    ∃ rs n, s.acqCancel p = ((if s.gnss.acqQ.head?.any p then s.acqStop else s).cancelled p rs n).acqDrain.acqGo
      ∧ rs.map (fun x : AcqRes => (x.tag, x.status)) = (s.gnss.acqQ.filter p).map (fun r => (r.tag, acqCancelled)) := by
  obtain ⟨rs, n, hfold, hrs⟩ := foldl_addCancelled (s.gnss.acqQ.filter p) [] (if s.gnss.acqQ.head?.any p then s.acqStop else s)
  refine ⟨rs, n, ?_, hrs⟩
  have hcancel (u : State) (x : List (Bool × AcqRes) × State) (hu : u = if s.gnss.acqQ.head?.any p then s.acqStop else s)
      (hx : x = (s.gnss.acqQ.filter p).foldl addCancelled ([], u)) :
      s.acqCancel p = (State.acqDrain { x.2 with gnss := { x.2.gnss with
        acqQ := x.2.gnss.acqQ.filter (fun r => !p r), acqWait := x.2.gnss.acqWait ++ x.1 } }).acqGo := by
    subst hu hx
    unfold State.acqCancel
    cases s.gnss.acqQ <;> rfl
  rw [hcancel _ _ rfl rfl, hfold]
  rfl

/-- A stop takes the result of the request in progress from those that wait. -/
theorem State.acqStop_gnss (s : State) : s.acqStop.gnss.acqQ = s.gnss.acqQ ∧ s.acqStop.gnss.acqRes = s.gnss.acqRes
    ∧ s.acqStop.gnss.acqWait = s.gnss.acqWait.filter (fun r => !r.1) := by
  have hcut : s.acqCut.gnss.acqQ = s.gnss.acqQ ∧ s.acqCut.gnss.acqRes = s.gnss.acqRes ∧ s.acqCut.gnss.acqWait = s.gnss.acqWait := by
    unfold State.acqCut
    split
    · exact ⟨rfl, rfl, rfl⟩
    · exact ⟨rfl, rfl, rfl⟩
  obtain ⟨hq, hres, hwait⟩ := hcut
  exact ⟨hq, hres, congrArg (List.filter _) hwait⟩

/-- Where no result of a request in progress waits, the cancelled requests leave the queue and their results come last. -/
theorem State.cancelled_drains (s : State) (p : AcqReq → Bool) (rs : List AcqRes) (n : Nat) (h : s.gnss.acqWait.any (·.1) = false) :
    (s.cancelled p rs n).acqDrain.gnss.acqQ = s.gnss.acqQ.filter (fun r => !p r)
    ∧ (s.cancelled p rs n).acqDrain.gnss.acqPhase = s.gnss.acqPhase
    ∧ (s.cancelled p rs n).acqDrain.gnss.acqRes ++ (s.cancelled p rs n).acqDrain.gnss.acqWait.map (·.2)
      = s.gnss.acqRes ++ s.gnss.acqWait.map (·.2) ++ rs := by
  have hany : (s.cancelled p rs n).gnss.acqWait.any (·.1) = false := by
    show (s.gnss.acqWait ++ rs.map (fun x => (false, x))).any (·.1) = false
    rw [List.any_append, h, List.any_map]
    simp
  obtain ⟨hq, hphase, hres⟩ := (s.cancelled p rs n).gnss.drained_of_ended hany
  rw [State.acqDrain_gnss]
  refine ⟨hq, hphase, hres.trans ?_⟩
  simp [State.cancelled]

/-- FLUSH of a queue that is not empty. -/
theorem State.acqFlush_queued (s : State) (h : s.gnss.acqQ ≠ []) :
    (s.acqCancel (fun _ => true)).gnss.acqQ = []
    ∧ ∃ rs : List AcqRes,
      (s.acqCancel (fun _ => true)).gnss.acqRes ++ (s.acqCancel (fun _ => true)).gnss.acqWait.map (·.2)
        = s.gnss.acqRes ++ (s.gnss.acqWait.filter (fun p => !p.1)).map (·.2) ++ rs
      ∧ rs.map (fun x : AcqRes => (x.tag, x.status)) = s.gnss.acqQ.map (fun r => (r.tag, acqCancelled)) := by
  obtain ⟨rs, n, hcancel, hrs⟩ := s.acqCancel_eq (fun _ => true)
  have hhead : s.gnss.acqQ.head?.any (fun _ => true) = true := by
    cases hq : s.gnss.acqQ with
    | nil => exact absurd hq h
    | cons r q => rfl
  rw [if_pos hhead] at hcancel
  rw [List.filter_true] at hrs
  obtain ⟨-, hres, hwait⟩ := s.acqStop_gnss
  obtain ⟨hq', -, hres'⟩ := s.acqStop.cancelled_drains (fun _ => true) rs n (by rw [hwait]; simp)
  have hempty : (s.acqStop.cancelled (fun _ => true) rs n).acqDrain.gnss.acqQ = [] := by rw [hq']; simp
  rw [hcancel, State.acqGo_empty _ hempty]
  exact ⟨hempty, rs, by rw [hres', hres, hwait], hrs⟩

/-- FLUSH with no request queued and no result waiting. -/
theorem State.acqFlush_empty (s : State) (hq : s.gnss.acqQ = []) (hwait : s.gnss.acqWait = []) :
    (s.acqCancel (fun _ => true)).gnss = s.gnss := by
  obtain ⟨rs, n, hcancel, hrs⟩ := s.acqCancel_eq (fun _ => true)
  rw [hq] at hcancel hrs
  obtain rfl : rs = [] := List.map_eq_nil_iff.mp hrs
  have hsame : (s.cancelled (fun _ => true) [] n).gnss = s.gnss := by
    calc (s.cancelled (fun _ => true) [] n).gnss = { s.gnss with acqQ := [], acqWait := [] } := by
          simp [State.cancelled, hq, hwait]
      _ = { s.gnss with acqQ := s.gnss.acqQ, acqWait := s.gnss.acqWait } := by rw [hq, hwait]
  have hdrain : (s.cancelled (fun _ => true) [] n).acqDrain.gnss = s.gnss := by
    rw [State.acqDrain_gnss, hsame, Gnss.drained_of_none _ hwait]
  rw [hcancel]
  refine (congrArg State.gnss (State.acqGo_empty _ ?_)).trans hdrain
  exact (congrArg Gnss.acqQ hdrain).trans hq

/-- CANCEL of requests behind the one in progress, whose result does not wait. -/
theorem State.acqCancel_behind (s : State) (p : AcqReq → Bool) (r : AcqReq) (q : List AcqReq) (hq : s.gnss.acqQ = r :: q)
    (hr : p r = false) (hphase : s.gnss.acqPhase ≠ .idle) (hwait : s.gnss.acqWait.any (·.1) = false) :
    (s.acqCancel p).gnss.acqQ = s.gnss.acqQ.filter (fun r => !p r)
    ∧ ∃ rs : List AcqRes,
      (s.acqCancel p).gnss.acqRes ++ (s.acqCancel p).gnss.acqWait.map (·.2) = s.gnss.acqRes ++ s.gnss.acqWait.map (·.2) ++ rs
      ∧ rs.map (fun x : AcqRes => (x.tag, x.status)) = (s.gnss.acqQ.filter p).map (fun r => (r.tag, acqCancelled)) := by
  obtain ⟨rs, n, hcancel, hrs⟩ := s.acqCancel_eq p
  have hhead : s.gnss.acqQ.head?.any p = false := by rw [hq]; exact hr
  rw [hhead, if_neg Bool.false_ne_true] at hcancel
  obtain ⟨hq', hphase', hres'⟩ := s.cancelled_drains p rs n hwait
  rw [hcancel, State.acqGo_busy _ (by rw [hphase']; exact hphase)]
  exact ⟨hq', rs, hres', hrs⟩

/-! ### The commands of the engine -/

/-- ACQ_PUSH with a place in the queue and a request in progress (R115). -/
theorem State.acqPush_queues (s : State) (hroom : s.acqQueued < 64) (hphase : s.gnss.acqPhase ≠ .idle) :
    s.acqPush.gnss
      = { s.gnss with acqQ := s.gnss.acqQ ++ [⟨s.get GNC_ACQW0, s.get GNC_ACQW1, s.get GNC_ACQW2⟩] } := by
  rw [State.acqPush, if_neg (by omega)]
  dsimp only
  rw [State.acqGo_busy]
  exact hphase

theorem State.acqPush_full (s : State) (h : 64 ≤ s.acqQueued) : s.acqPush = (s.count GNC_ACQSTAT_REFUSED).raise 50 := if_pos h

/-- ACQ_BLOCKS_COMPLETE of a request whose band has samples (R116). -/
theorem State.acqFilled_searches (s : State) (r : AcqReq) (q : List AcqReq) (hphase : s.gnss.acqPhase = .filling)
    (hq : s.gnss.acqQ = r :: q) (hsamp : s.gnss.noSamp.getD r.band true = false) : s.acqFilled = s.setPhase .searching := by
  obtain ⟨m, hfilling⟩ : ∃ m, s.acqFilling = some (r, m) := ⟨_, by simp only [State.acqFilling, hphase, hq]; rfl⟩
  simp only [State.acqFilled, hfilling, hsamp]
  rfl

/-- ACQ_POP with no result waiting and a request in progress (R118). -/
theorem State.acqPop_drops (s : State) (hwait : s.gnss.acqWait = []) (hphase : s.gnss.acqPhase ≠ .idle) :
    s.acqPop.gnss = { s.gnss with acqRes := s.gnss.acqRes.drop 1 } := by
  have hdrain : (State.acqDrain { s with gnss := { s.gnss with acqRes := s.gnss.acqRes.drop 1 } }).gnss
      = { s.gnss with acqRes := s.gnss.acqRes.drop 1 } := by
    rw [State.acqDrain_gnss]
    exact Gnss.drained_of_none _ hwait
  rw [State.acqPop, State.acqGo_busy _ (by rw [hdrain]; exact hphase), hdrain]

/-- Settles O26, command by command: each write of GNC_ACQCTL has its effect from a state that differs in that register alone. -/
theorem acquisitionEngine : Obligations.AcquisitionEngine := by
  unfold Obligations.AcquisitionEngine
  intro s src
  have hwrite (c : Instr) (f : Fld) (hexec : exec c s = .next (s.write src GNC_ACQCTL (s.setWord GNC_ACQCTL [(f, 1)])))
      (htake : s.takes GNC_ACQCTL (s.setWord GNC_ACQCTL [(f, 1)])) :
      ∃ u : State, exec c s = .next (u.acqCtl (s.setWord GNC_ACQCTL [(f, 1)])) ∧ u.gnss = s.gnss
        ∧ ∀ a, a ≠ GNC_ACQCTL → u.get a = s.get a := by
    obtain ⟨w, hw⟩ := s.write_acqCtl src _ htake
    exact ⟨s.put GNC_ACQCTL w, hexec.trans (congrArg Host.Outcome.next hw), rfl, fun a ha => s.get_put_other _ a w ha⟩
  refine ⟨fun htake => ?push, fun r q hphase hq hsamp => ?filled, fun r pnr ratio codeph dopp hphase hq hwait => ?done,
    fun htake hwait hphase => ?pop, fun htake => ?flush, fun r q htake hq htag hphase hwait => ?cancel⟩
  case push =>
    obtain ⟨u, hexec, hgnss, hget⟩ := hwrite (.acqPush src) GNC_ACQCTL_PUSH rfl htake
    rw [s.acqCtl_push] at hexec
    have hqueued : u.acqQueued = s.acqQueued := by simp only [State.acqQueued, hgnss]
    refine ⟨fun hroom hphase => ⟨_, hexec, ?_⟩, fun hfull => ⟨_, hexec, ?_⟩⟩
    · rw [u.acqPush_queues (by omega) (by rw [hgnss]; exact hphase), hgnss, hget _ (by decide), hget _ (by decide), hget _ (by decide)]
    · rw [u.acqPush_full (by omega), State.raise_gnss, State.fld_raise_low _ _ _ _ (by decide), State.fld_count_same _ _ (by decide),
        State.fld_of_get _ (hget _ (by decide))]
      exact ⟨hgnss, rfl⟩
  case filled =>
    exact congrArg Host.Outcome.next (s.acqFilled_searches r q hphase hq hsamp)
  case done =>
    obtain ⟨n, hdone⟩ := s.acqDone_only r pnr.toNat ratio.toNat codeph.toNat dopp.toNat hphase hq hwait
    exact ⟨_, _, congrArg Host.Outcome.next hdone, rfl, rfl, rfl, rfl, rfl, rfl, s.acqFinish_only r _ hq hwait⟩
  case pop =>
    obtain ⟨u, hexec, hgnss, -⟩ := hwrite (.acqPop src) GNC_ACQCTL_POP rfl htake
    rw [s.acqCtl_pop] at hexec
    refine ⟨_, hexec, ?_⟩
    rw [u.acqPop_drops (by rw [hgnss]; exact hwait) (by rw [hgnss]; exact hphase), hgnss]
  case flush =>
    obtain ⟨u, hexec, hgnss, -⟩ := hwrite (.acqFlush src) GNC_ACQCTL_FLUSH rfl htake
    rw [s.acqCtl_flush] at hexec
    rw [← hgnss]
    exact ⟨fun hq => ⟨_, hexec, u.acqFlush_queued hq⟩, fun hq hwait => ⟨_, hexec, u.acqFlush_empty hq hwait⟩⟩
  case cancel =>
    obtain ⟨u, hexec, hgnss, hget⟩ := hwrite (.acqCancel src) GNC_ACQCTL_CANCEL rfl htake
    rw [s.acqCtl_cancel, State.fld_of_get _ (hget _ (by decide))] at hexec
    rw [← hgnss] at hq hphase hwait ⊢
    exact ⟨_, hexec, u.acqCancel_behind _ r q hq (beq_false_of_ne htag) hphase hwait⟩

end Sys2Proof.Machine

/-! What every write of octets into the banks leaves alone, served or refused (R400, R406). -/

namespace Sys2Proof.Machine

open Sys2Proof.Fields

/-! ### Registers and units that no write of the banks changes -/

/-- The registers of the stations before MEM, and the counts of the events before MEM's. -/
def besideStores (a : Nat) : Prop := a < 0xF0000 ∨ ∃ id < 232, a = (routeCount id).addr

/-- `t` follows from `s` by writes of the banks. -/
structure State.Stores (s t : State) : Prop where
  regs : ∀ a, besideStores a → t.get a = s.get a
  gnss : t.gnss = s.gnss
  sys : t.sys = { s.sys with lastRaise := t.sys.lastRaise }

theorem State.Stores.refl (s : State) : s.Stores s := ⟨fun _ _ => rfl, rfl, rfl⟩

theorem State.Stores.trans {s t u : State} (h : s.Stores t) (h' : t.Stores u) : s.Stores u := by
  refine ⟨fun a ha => (h'.regs a ha).trans (h.regs a ha), h'.gnss.trans h.gnss, ?_⟩
  rw [h'.sys, h.sys]

theorem State.Stores.fld {s t : State} (h : s.Stores t) (f : Fld) (hf : besideStores f.addr) : t.fld f = s.fld f :=
  State.fld_of_get f (h.regs f.addr hf)

theorem not_besideStores (a : Nat) (h : 0xF0000 ≤ a) (h' : a < 0x100000) : ¬ besideStores a := by
  rintro (hlt | ⟨id, -, heq⟩)
  · omega
  · simp only [routeCount] at heq; omega

theorem State.stores_put (s : State) (a : Nat) (w : Word) (h : 0xF0000 ≤ a) (h' : a < 0x100000) : s.Stores (s.put a w) :=
  ⟨fun b hb => s.get_put_other a b w (fun e => not_besideStores a h h' (e ▸ hb)), rfl, rfl⟩

/-- An event of MEM. -/
theorem State.stores_raise (s : State) (id data : Nat) (h : 232 ≤ id) : s.Stores (s.raise id data) := by
  refine ⟨fun a ha => ?_, s.raise_gnss id data, by rw [State.raise_sys]⟩
  have hbeside : besideSignals a ∧ a ≠ (routeCount id).addr := by
    have hplace : a < 0xF0000 ∨ (0x450004 ≤ a ∧ a < 0x450744) := by
      obtain hlow | ⟨k, hk, rfl⟩ := ha
      · exact .inl hlow
      · simp only [routeCount]; omega
    refine ⟨⟨?_, ?_, ?_, ?_, fun c hc => ?_⟩, ?_⟩ <;> simp only [msixPending, HST_ERSTAT, HST_EVSEQ, CHB_CEVQ, routeCount] <;> omega
  obtain ⟨hsignal, hcount⟩ := hbeside
  exact ((s.signals_raise id data).regs a hsignal).trans (s.get_count_other _ a hcount)

theorem State.stores_raiseLimited (s : State) (key id data : Nat) (h : 232 ≤ id) : s.Stores (s.raiseLimited key id data) := by
  have hnote : s.Stores (s.noteRaise key) := ⟨fun _ _ => rfl, rfl, rfl⟩
  unfold State.raiseLimited
  split
  · exact hnote.trans (State.stores_raise _ id data h)
  · exact .refl s

/-! ### One word -/

theorem bankStat_place (b : Nat) (h : b < bankCount) : 0xF0000 ≤ MEM_BANK_STAT b ∧ MEM_BANK_STAT b < 0x100000 := by
  simp only [MEM_BANK_STAT, bankCount] at *
  omega

theorem State.stores_countCe (s : State) (w : Nat) (h : w / 32768 < bankCount) : s.Stores (s.countCe w) := by
  obtain ⟨hlo, hhi⟩ := bankStat_place _ h
  exact ((s.stores_put MEM_CECNT _ (by decide) (by decide)).trans (State.stores_put _ _ _ hlo hhi)).trans
    (State.stores_raiseLimited _ 233 233 0 (by decide))

theorem State.stores_countUe (s : State) (w o : Nat) (sc : Bool) (h : w / 32768 < bankCount) : s.Stores (s.countUe w o sc) := by
  obtain ⟨hlo, hhi⟩ := bankStat_place _ h
  have hset (u : State) (v : Word) : u.Stores (u.put MEM_UEADDR v) := u.stores_put _ v (by decide) (by decide)
  exact ((((((s.stores_put MEM_UECNT _ (by decide) (by decide)).trans (State.stores_put _ _ _ hlo hhi)).trans (hset _ _)).trans
    (hset _ _)).trans (hset _ _)).trans (hset _ _)).trans (State.stores_raise _ 234 0 (by decide))

theorem State.stores_readWord (s : State) (o : Nat) (sc : Bool) (w : Nat) (h : w / 32768 < bankCount) :
    s.Stores (s.readWord o sc w).2 := by
  unfold State.readWord
  split
  · exact .refl s
  · exact s.stores_countCe w h
  · exact s.stores_countUe w o sc h

theorem State.stores_inject (s : State) (w : Nat) : s.Stores (s.inject w) := by
  have hset (m : Nat) : s.Stores (s.setEcc w m) := ⟨fun _ _ => rfl, rfl, rfl⟩
  unfold State.inject
  split
  · exact (hset _).trans (State.stores_put _ MEM_ECCINJ _ (by decide) (by decide))
  · exact .refl s

theorem State.stores_writeWord (s : State) (o a : Nat) (bs : List Byte) (w : Nat) (h : w / 32768 < bankCount) :
    s.Stores (s.writeWord o a bs w) := by
  have hpart (u : State) (lo : Nat) (part : List Byte) : u.Stores ((u.storeBlock lo part).setEcc w 0) := ⟨fun _ _ => rfl, rfl, rfl⟩
  have hread := s.stores_readWord o false w h
  unfold State.writeWord
  dsimp only
  split
  · exact (hpart s _ _).trans (State.stores_inject _ w)
  · split
    · exact hread.trans (hpart _ _ _)
    · exact hread

/-! ### Writes (R400, R406) -/

theorem State.stores_nonOwner (s : State) (o b off : Nat) (write : Bool) : s.Stores (s.nonOwner o b off write) := by
  have hnown (u : State) (v : Word) : u.Stores (u.put MEM_NOWN v) := u.stores_put _ v (by decide) (by decide)
  have hcapture : s.Stores (s.captureNown [⟨b, write, o, off⟩] 1) :=
    (((((hnown s _).trans (hnown _ _)).trans (hnown _ _)).trans (hnown _ _)).trans (hnown _ _)).trans
      (State.stores_put _ MEM_NOWNADDR _ (by decide) (by decide))
  have htick (u : State) (t : Tick) (h : s.Stores u) : s.Stores { u with tick := t } := ⟨h.regs, h.gnss, h.sys⟩
  unfold State.nonOwner
  refine (htick _ _ ?_).trans (State.stores_raise _ 232 0 (by decide))
  split
  · exact hnown s _
  · exact hcapture

/-- The words of octets that no bank refuses lie in banks. -/
theorem State.bank_of_word (s : State) (o a n : Nat) (h : s.firstRefused o a n = none) : ∀ w ∈ wordsOf a n, w / 32768 < bankCount := by
  intro w hw
  rw [State.firstRefused_eq_none] at h
  rw [mem_wordsOf] at hw
  have hbank : max a (8 * w) / bankSize ∈ banksOf a n := by
    rw [mem_banksOf]; simp only [bankSize]; omega
  have hmay := h _ hbank
  simp only [State.mayAccess, Bool.and_eq_true, decide_eq_true_eq] at hmay
  obtain ⟨⟨hlt, -⟩, -⟩ := hmay
  simp only [bankSize] at hlt
  omega

/-- A write of the banks, served or refused. -/
theorem State.stores_bankWrite (s : State) (o a : Nat) (bs : List Byte) : s.Stores (s.bankWrite o a bs).2 := by
  have hwords (l : List Nat) (hl : ∀ w ∈ l, w / 32768 < bankCount) (u : State) :
      u.Stores (l.foldl (fun s w => s.writeWord o a bs w) u) := by
    induction l generalizing u with
    | nil => exact .refl u
    | cons w l ih =>
      obtain ⟨hw, hl⟩ := List.forall_mem_cons.mp hl
      exact (u.stores_writeWord o a bs w hw).trans (ih hl _)
  cases h : s.firstRefused o a bs.length with
  | some b => simp only [State.bankWrite, h]; exact s.stores_nonOwner _ _ _ _
  | none => simp only [State.bankWrite, h]; exact hwords _ (s.bank_of_word o a _ h) s

end Sys2Proof.Machine

/-! Snapshots: what a write of GNC_SNAPCTL does, the first sample, and the end of a capture with its result (R121, R122, R125). -/

namespace Sys2Proof.Machine

open Sys2Proof.Fields

/-! ### A write of GNC_SNAPCTL (R121, R125) -/

/-- What the capture does at a written word. -/
def State.snapCtl (s : State) (v : Word) : State :=
  if s.gnss.snap.isSome then (if getFld v GNC_SNAPCTL_ABORT = 1 then s.snapAbort [] else s)
  else if getFld v GNC_SNAPCTL_START = 1 then s.snapStart v
  else s

/-- An accepted write of GNC_SNAPCTL changes that register, and the capture acts on it. -/
theorem State.write_snapCtl (s : State) (src : BusSrc) (v : Word) (h : s.takes GNC_SNAPCTL v) :
    ∃ w, s.write src GNC_SNAPCTL v = (s.put GNC_SNAPCTL w).snapCtl v := by
  have hkept (t : State) : t.markDirty GNC_SNAPCTL = t := by
    have hmask : keptMask GNC_SNAPCTL = 0 := by decide +kernel
    simp [State.markDirty, State.isKept, hmask]
  obtain ⟨w, hw⟩ : ∃ w, s.applyWrite src GNC_SNAPCTL v = (s.put GNC_SNAPCTL w).snapCtl v := ⟨_, rfl⟩
  exact ⟨w, by rw [s.write_taken src _ v (by decide) h, State.mgtWrite_other _ _ _ _ (by decide), hkept, hw]⟩

/-- What rejects a write of GNC_SNAPCTL (R95). -/
theorem State.judge_snapCtl (s : State) (v : Word) :
    s.judge GNC_SNAPCTL .word v =
      if s.modeReject GNC_SNAPCTL v then some 6 else if !s.live 7 then some 5
      else if s.gnss.snap.isSome && (getFld v GNC_SNAPCTL_ABORT == 0 || getFld v GNC_SNAPCTL_START == 1) then some 7
      else if fieldReserved GNC_SNAPCTL v then some 1 else none := by
  have hassigned : s.assigned GNC_SNAPCTL = true := by
    have hreg : (regAt GNC_SNAPCTL).isSome = true := by decide +kernel
    show ((regAt GNC_SNAPCTL).isSome && s.sliceWord GNC_SNAPCTL) = true
    rw [hreg]
    rfl
  have hheld : s.heldReject GNC_SNAPCTL v = !s.live 7 := by
    show (!s.live 7 || false && !s.live 7 || false && _ && _ || false && _ && _) = _
    simp
  have hbusy : s.busyReject GNC_SNAPCTL v
      = (s.gnss.snap.isSome && (getFld v GNC_SNAPCTL_ABORT == 0 || getFld v GNC_SNAPCTL_START == 1)) := rfl
  have hcl : s.clReject GNC_SNAPCTL v = false := rfl
  have hcross : s.crossReserved GNC_SNAPCTL v = false := rfl
  rw [s.judge_eq _ _ _ (by decide) (by decide), hassigned, hheld, hbusy, hcl, hcross]
  simp

/-- A write of ABORT stays accepted when the capture is over: nothing else is judged but the mode and the slice fabric. -/
theorem State.takes_snapCtl_of_over (s t : State) (v : Word) (h : s.takes GNC_SNAPCTL v) (hsnap : t.gnss.snap = none)
    (hmode : t.mode = s.mode) (hsys : t.sys = { s.sys with lastRaise := t.sys.lastRaise }) : t.takes GNC_SNAPCTL v := by
  obtain ⟨hon, hnone⟩ := h
  have hphase : t.sys.phase = s.sys.phase := by rw [hsys]
  have hlive : t.live 7 = s.live 7 := by
    have hcast : t.sys.cast = s.sys.cast := by rw [hsys]
    have hheld : t.sys.held = s.sys.held := by rw [hsys]
    simp only [State.live, State.isCast, State.isHeld, hcast, hheld]
  have hreject : t.modeReject GNC_SNAPCTL v = s.modeReject GNC_SNAPCTL v := by
    simp only [State.modeReject, State.mayRequest, State.serving, State.beating, hmode, hphase]
  rw [State.judge_snapCtl] at hnone
  refine ⟨by rw [hsys]; exact hon, ?_⟩
  rw [t.judge_snapCtl, hsnap, hlive, hreject]
  simp only [Option.isSome_none, Bool.false_and, Bool.false_eq_true, if_false]
  grind

/-! ### The start of a capture (R121) -/

/-- A capture that is refused leaves its result and event 53. -/
theorem State.snapRefuse_effect (s : State) (r : Nat) (h : r < 16) :
    (s.snapRefuse r).fld GNC_SNAPSTAT_RESULT = r ∧ (s.snapRefuse r).gnss = s.gnss
    ∧ (s.snapRefuse r).fld (routeCount 53) = min (s.fld (routeCount 53) + 1) 0xFFFFFFFF := by
  refine ⟨?_, State.raise_gnss _ 53 0, ?_⟩
  · rw [State.snapRefuse, State.fld_raise_low _ _ _ _ (by decide),
      State.fld_setFld_other_bits _ GNC_SNAPSTAT_WRITTEN GNC_SNAPSTAT_RESULT _ rfl (by decide) (by decide),
      State.fld_setFld_same _ GNC_SNAPSTAT_RESULT _ (by decide)]
    exact Nat.mod_eq_of_lt h
  · rw [State.snapRefuse, State.fld_routeCount_raise _ 53 0 (by decide),
      State.fld_setFld_other_word _ GNC_SNAPSTAT_WRITTEN _ _ (by decide),
      State.fld_setFld_other_word _ GNC_SNAPSTAT_RESULT _ _ (by decide)]

theorem State.snapStart_beyond (s : State) (w : Word) (h : 191 < snapBank w + snapBanks w - 1) : s.snapStart w = s.snapRefuse 3 :=
  if_pos h

theorem State.snapStart_foreign (s : State) (w : Word) (hfit : snapBank w + snapBanks w - 1 ≤ 191)
    (h : ∃ k < snapBanks w, s.owner (snapBank w + k) ≠ ownGnc) : s.snapStart w = s.snapRefuse 2 := by
  have howner : ((List.range (snapBanks w)).all (fun k => s.owner (snapBank w + k) == ownGnc)) = false := by
    simpa [List.all_eq_false] using h
  rw [State.snapStart, if_neg (by omega), howner]
  rfl

theorem State.snapStart_waits (s : State) (w : Word) (hfit : snapBank w + snapBanks w - 1 ≤ 191)
    (h : ∀ k < snapBanks w, s.owner (snapBank w + k) = ownGnc) :
    (s.snapStart w).fld GNC_SNAPSTAT_STATE = 1 ∧ (s.snapStart w).fld GNC_SNAPSTAT_RESULT = 0
    ∧ (s.snapStart w).gnss.snap
      = some ⟨w, s.tim.ts + (if s.napping then 983040 else 0), false, s.napping, false, false, [], []⟩ := by
  have howner : ((List.range (snapBanks w)).all (fun k => s.owner (snapBank w + k) == ownGnc)) = true := by
    simpa [List.all_eq_true] using h
  generalize ht : (((s.setFld GNC_SNAPSTAT_STATE 1).setFld GNC_SNAPSTAT_RESULT 0).setFld GNC_SNAPSTAT_WRITTEN 0) = t
  have htim : t.tim = s.tim := by rw [← ht]; rfl
  have hnap : t.napping = s.napping := by
    have hget : t.get GNT_NAPSTAT = s.get GNT_NAPSTAT := by
      rw [← ht]
      simp (disch := decide) only [State.get_setFld_other]
    simp only [State.napping, State.isSet, State.fld_of_get GNT_NAPSTAT_NAPPING hget]
  have hstart : s.snapStart w = { t with gnss := { t.gnss with
      snap := some ⟨w, s.tim.ts + (if s.napping then 983040 else 0), false, s.napping, false, false, [], []⟩ } } := by
    rw [State.snapStart, if_neg (by omega), howner, Bool.not_true, if_neg Bool.false_ne_true]
    dsimp only
    rw [ht, htim, hnap]
    cases s.napping <;> rfl
  rw [hstart]
  refine ⟨?_, ?_, rfl⟩
  · show t.fld GNC_SNAPSTAT_STATE = 1
    rw [← ht]
    simp (disch := decide) only [State.fld_setFld_keeps, State.fld_setFld_same]
    rfl
  · show t.fld GNC_SNAPSTAT_RESULT = 0
    rw [← ht]
    simp (disch := decide) only [State.fld_setFld_keeps, State.fld_setFld_same]
    rfl

/-! ### The first sample (R122) -/

/-- The gain of a chain is read with at most a free value drawn. -/
theorem State.gainNow_draws (s : State) (b : Nat) : ∃ n, (s.gainNow b).2 = { s with free := n } := by
  unfold State.gainNow
  split
  · exact ⟨_, rfl⟩
  · exact ⟨s.free, rfl⟩

/-- The first sample of a capture that waits, with no beat edge up to its instant. -/
theorem State.snapFirst_effect (s : State) (p : Snap) (hsnap : s.gnss.snap = some p) (hfirst : p.first = false) (hlost : p.lost = false)
    (hedge : s.tim.ts < s.snapInstant p → s.snapInstant p < s.tim.edge) :
    ∃ (u : State) (cuts : List (Nat × Nat × Bool)) (head : List Byte), u.tim.ts = max s.tim.ts (s.snapInstant p)
      ∧ s.snapFirst = State.setFld { u with gnss := { u.gnss with snap := some { p with
          start := s.snapInstant p, first := true, prov := s.mode == modeSurvey, cuts := cuts, head := head } } } GNC_SNAPSTAT_STATE 2 := by
  have hdraw (t : State) (b : Nat) : ∃ n, (if (snapBands p.ctl).contains b then t.gainNow b else (0, t)).2 = { t with free := n } := by
    split
    · exact t.gainNow_draws b
    · exact ⟨t.free, rfl⟩
  have htaken : (p.first || p.lost || (decide (s.tim.ts < s.snapInstant p) && decide (s.tim.edge ≤ s.snapInstant p))) = false := by
    rw [hfirst, hlost]
    simpa using hedge
  have htime := s.timeTo_eq (s.snapInstant p)
  simp only [State.snapFirst, hsnap, htaken, Bool.false_eq_true, if_false]
  generalize s.timeTo (s.snapInstant p) = t at htime ⊢
  obtain ⟨n0, h0⟩ := hdraw t 0
  generalize (if (snapBands p.ctl).contains 0 = true then t.gainNow 0 else (0, t)) = x at h0 ⊢
  obtain ⟨n1, h1⟩ := hdraw x.2 1
  generalize (if (snapBands p.ctl).contains 1 = true then x.2.gainNow 1 else (0, x.2)) = y at h1 ⊢
  have hy : y.2 = { s with free := n1, tim := { s.tim with ts := max s.tim.ts (s.snapInstant p) } } := by rw [h1, h0, htime]
  have hmode : y.2.mode = s.mode := by rw [hy]; rfl
  rw [hmode]
  exact ⟨y.2, _, _, by rw [hy], rfl⟩

/-! ### The end of a capture (R122, R125) -/

theorem State.stores_snapWrite (n : Nat) (s : State) (a : Nat) (bs : List Byte) : s.Stores (State.snapWrite n s a bs).2 := by
  induction n generalizing s a bs with
  | zero => exact .refl s
  | succ n ih =>
    rw [State.snapWrite]
    split
    · exact .refl s
    · exact (s.stores_bankWrite ownGnc a _).trans (ih _ _ _)

theorem stores_foldl {β : Type} (f : Nat × State → β → Nat × State) (hf : ∀ (x : Nat × State) (b : β), x.2.Stores (f x b).2) (l : List β) (x : Nat × State) :
    x.2.Stores (l.foldl f x).2 := by
  induction l generalizing x with
  | nil => exact .refl _
  | cons b l ih => exact (hf x b).trans (ih (f x b))

/-- The registers and the capture once a capture has ended, before its event. -/
def State.snapClosed (u : State) (r n : Nat) : State :=
  let t := ((u.setFld GNC_SNAPSTAT_STATE 0).setFld GNC_SNAPSTAT_RESULT r).setFld GNC_SNAPSTAT_WRITTEN n
  { t with gnss := { t.gnss with snap := none } }

theorem State.fld_snapClosed (u : State) (r n : Nat) (f : Fld) :
    (u.snapClosed r n).fld f = (((u.setFld GNC_SNAPSTAT_STATE 0).setFld GNC_SNAPSTAT_RESULT r).setFld GNC_SNAPSTAT_WRITTEN n).fld f := rfl

theorem State.snapClosed_state (u : State) (r n : Nat) : (u.snapClosed r n).fld GNC_SNAPSTAT_STATE = 0 := by
  rw [State.fld_snapClosed]
  simp (disch := decide) only [State.fld_setFld_keeps, State.fld_setFld_same]
  rfl

theorem State.snapClosed_result (u : State) (r n : Nat) (h : r < 16) : (u.snapClosed r n).fld GNC_SNAPSTAT_RESULT = r := by
  rw [State.fld_snapClosed]
  simp (disch := decide) only [State.fld_setFld_keeps, State.fld_setFld_same]
  exact Nat.mod_eq_of_lt h

theorem State.snapClosed_other_word (u : State) (r n : Nat) (f : Fld) (h : f.addr ≠ GNC_SNAPSTAT_STATE.addr) :
    (u.snapClosed r n).fld f = u.fld f := by
  rw [State.fld_snapClosed, State.fld_setFld_other_word _ GNC_SNAPSTAT_WRITTEN _ _ h,
    State.fld_setFld_other_word _ GNC_SNAPSTAT_RESULT _ _ h, State.fld_setFld_other_word _ GNC_SNAPSTAT_STATE _ _ h]

/-- A capture that ends writes banks, and then its result and its event. -/
theorem State.snapEnd_eq (s : State) (p : Snap) (samples : List Byte) (result : Nat) :
    ∃ (u : State) (r n : Nat), s.Stores u ∧ r = (if p.lost || (s.snapLost p).isSome then 4 else result)
      ∧ s.snapEnd p samples result = (u.snapClosed r n).raise (if r = 1 then 52 else 53) := by
  have hoctets := State.stores_snapWrite 9
  have hheader (t : State) := t.stores_bankWrite ownGnc
  -- The writes are variables of a lemma of its own, and the definition is unfolded as a function: the kernel would else evaluate them.
  generalize hdef : @State.snapEnd = f
  delta State.snapEnd at hdef
  subst hdef
  generalize State.snapWrite = octets at hoctets ⊢
  generalize State.bankWrite = header at hheader ⊢
  as_aux_lemma =>
    dsimp only
    generalize hbands : List.foldl _ (0, s) _ = x
    have hx : s.Stores x.2 := by
      rw [← hbands]
      refine stores_foldl _ (fun x b => ?_) _ (0, s)
      exact hoctets x.2 _ _
    exact ⟨_, _, _, hx.trans (hheader x.2 _ _), rfl, rfl⟩

/-- What a capture leaves that ends with result `r`. -/
structure State.SnapOver (s t : State) (r : Nat) : Prop where
  snap : t.gnss.snap = none
  state : t.fld GNC_SNAPSTAT_STATE = 0
  result : t.fld GNC_SNAPSTAT_RESULT = r
  event : t.fld (routeCount (if r = 1 then 52 else 53)) = min (s.fld (routeCount (if r = 1 then 52 else 53)) + 1) 0xFFFFFFFF
  mode : t.mode = s.mode
  sys : t.sys = { s.sys with lastRaise := t.sys.lastRaise }

/-- A capture ends with the result given, or with 4 where it has lost a bank. -/
theorem State.snapEnd_over (s : State) (p : Snap) (samples : List Byte) (result r : Nat)
    (hr : r = if p.lost || (s.snapLost p).isSome then 4 else result) (hlt : r < 16) : s.SnapOver (s.snapEnd p samples result) r := by
  obtain ⟨u, r', n, hstores, hr', hend⟩ := s.snapEnd_eq p samples result
  obtain rfl : r' = r := hr'.trans hr.symm
  have hcount (id : Nat) (hid : id = 52 ∨ id = 53) :
      ((u.snapClosed r' n).raise id).fld (routeCount id) = min (s.fld (routeCount id) + 1) 0xFFFFFFFF := by
    have hother : (routeCount id).addr ≠ GNC_SNAPSTAT_STATE.addr := by obtain rfl | rfl := hid <;> decide
    rw [State.fld_routeCount_raise _ id 0 (by omega), u.snapClosed_other_word r' n _ hother,
      hstores.fld _ (.inr ⟨id, by omega, rfl⟩)]
  have hsys : ((u.snapClosed r' n).raise (if r' = 1 then 52 else 53)).sys = u.sys := State.raise_sys _ _ _
  rw [hend]
  refine ⟨by rw [State.raise_gnss]; rfl, ?_, ?_, ?_, ?_, by rw [hsys]; exact hstores.sys⟩
  · rw [State.fld_raise_low _ _ _ _ (by decide), u.snapClosed_state]
  · rw [State.fld_raise_low _ _ _ _ (by decide), u.snapClosed_result r' n hlt]
  · by_cases h1 : r' = 1
    · rw [if_pos h1]; exact hcount 52 (.inl rfl)
    · rw [if_neg h1]; exact hcount 53 (.inr rfl)
  · rw [State.mode, State.fld_raise_low _ _ _ _ (by decide), u.snapClosed_other_word r' n _ (by decide)]
    exact hstores.fld _ (.inl (by decide))

theorem State.snapLost_none (s : State) (p : Snap) (h : ∀ k < snapBanks p.ctl, s.mayAccess ownGnc (snapBank p.ctl + k) = true) :
    s.snapLost p = none := by
  rw [State.snapLost, List.find?_eq_none]
  intro b hb
  obtain ⟨k, hk, rfl⟩ := List.mem_map.mp hb
  rw [Nat.add_comm, h k (List.mem_range.mp hk)]
  exact Bool.false_ne_true

/-- A capture that has lost no bank ends with the result given. -/
theorem State.snapEnd_kept (s : State) (p : Snap) (samples : List Byte) (r : Nat) (hlost : p.lost = false)
    (h : ∀ k < snapBanks p.ctl, s.mayAccess ownGnc (snapBank p.ctl + k) = true) (hlt : r < 16) :
    s.SnapOver (s.snapEnd p samples r) r :=
  s.snapEnd_over p samples r r (by rw [hlost, s.snapLost_none p h]; rfl) hlt

/-! ### The commands of the capture -/

/-- No word of GNC_SNAPCTL kept for a write of ABORT holds START. -/
theorem State.start_of_abortWord (s : State) : getFld (s.setWord GNC_SNAPCTL [(GNC_SNAPCTL_ABORT, 1)]) GNC_SNAPCTL_START = 0 := by
  have hmask : rwMask GNC_SNAPCTL = 0x1FFFF#32 := by decide +kernel
  have hset : s.setWord GNC_SNAPCTL [(GNC_SNAPCTL_ABORT, 1)] = putFld (s.get GNC_SNAPCTL &&& 0x1FFFF#32) GNC_SNAPCTL_ABORT 1 := by
    rw [← hmask]; rfl
  have hclear (x : Word) : (x &&& 0x1FFFF#32).extractLsb' 31 1 = 0 := by
    ext i hi
    obtain rfl : i = 0 := by omega
    simp
  rw [hset, getFld_putFld_other _ _ _ _ (by decide) (by decide)]
  exact congrArg BitVec.toNat (hclear _)

/-- SNAP_START of no capture in progress: the capture acts on the word written. -/
theorem State.snapStart_write (s : State) (src : BusSrc) (v : Word) (h : s.takes GNC_SNAPCTL v) (hsnap : s.gnss.snap = none)
    (hstart : getFld v GNC_SNAPCTL_START = 1) : ∃ w, s.write src GNC_SNAPCTL v = (s.put GNC_SNAPCTL w).snapStart v := by
  obtain ⟨w, hw⟩ := s.write_snapCtl src v h
  have hnone : (s.put GNC_SNAPCTL w).gnss.snap.isSome = false := by
    show s.gnss.snap.isSome = false
    rw [hsnap]; rfl
  refine ⟨w, ?_⟩
  rw [hw, State.snapCtl, hnone, if_neg Bool.false_ne_true, if_pos hstart]

/-- SNAP_ABORT of a capture in progress, accepted: it ends with 5 before the register takes the word (R125). -/
theorem State.snapAbort_over (s : State) (src : BusSrc) (samples : List Byte) (p : Snap) (hsnap : s.gnss.snap = some p)
    (htakes : s.takes GNC_SNAPCTL (s.setWord GNC_SNAPCTL [(GNC_SNAPCTL_ABORT, 1)])) (hlost : p.lost = false)
    (hbanks : ∀ k < snapBanks p.ctl, s.mayAccess ownGnc (snapBank p.ctl + k) = true) :
    ∃ t, exec (.snapAbort src samples) s = .next t ∧ s.SnapOver t 5 := by
  generalize hv : s.setWord GNC_SNAPCTL [(GNC_SNAPCTL_ABORT, 1)] = v at htakes
  have hover : s.SnapOver (s.snapAbort samples) 5 := by
    simp only [State.snapAbort, hsnap]
    exact s.snapEnd_kept p _ 5 hlost hbanks (by decide)
  obtain ⟨w, hw⟩ := (s.snapAbort samples).write_snapCtl src v (s.takes_snapCtl_of_over _ v htakes hover.snap hover.mode hover.sys)
  have hidle (u : State) (hu : u.gnss.snap = none) : u.snapCtl v = u := by
    rw [State.snapCtl, hu, ← hv, s.start_of_abortWord]; rfl
  have haccepted : (s.sys.power = .on && (s.judge GNC_SNAPCTL .word v).isNone) = true := by
    obtain ⟨hon, hnone⟩ := htakes
    rw [hon, hnone]; rfl
  have hexec : exec (.snapAbort src samples) s = .next ((s.snapAbort samples).put GNC_SNAPCTL w) := by
    rw [← hidle ((s.snapAbort samples).put GNC_SNAPCTL w) hover.snap, ← hw]
    show execSnapAbort src samples s = _
    have habort : execSnapAbort src samples s = .next (if s.sys.power = .on && (s.judge GNC_SNAPCTL .word v).isNone then
        (s.snapAbort samples).write src GNC_SNAPCTL v else s.write src GNC_SNAPCTL v) := by rw [← hv]; rfl
    rw [habort, haccepted, if_pos rfl]
  have hkeeps (f : Fld) (hf : f.addr ≠ GNC_SNAPCTL) : ((s.snapAbort samples).put GNC_SNAPCTL w).fld f = (s.snapAbort samples).fld f :=
    State.fld_of_get f (State.get_put_other _ _ _ _ hf)
  obtain ⟨hnone, hstate, hresult, hevent, hmode, hsys⟩ := hover
  exact ⟨_, hexec, hnone, (hkeeps _ (by decide)).trans hstate, (hkeeps _ (by decide)).trans hresult,
    (hkeeps _ (by decide)).trans hevent, (hkeeps _ (by decide)).trans hmode, hsys⟩

/-- Settles O27, by what a write of GNC_SNAPCTL does, the first sample and the end of a capture. -/
theorem snapshots : Obligations.Snapshots := by
  unfold Obligations.Snapshots
  intro s src counted over_
  refine ⟨?_, fun p hsnap => ⟨fun hfirst hlost hedge => ?_, fun samples hfirst hlost hlen hbanks => ?_,
    fun samples hlost => ?_, fun samples htakes hlost hbanks => ?_⟩⟩
  · intro v w htakes hnone
    have hstart : getFld w GNC_SNAPCTL_START = 1 := by
      show getFld (putFld (putFld v GNC_SNAPCTL_START 1) GNC_SNAPCTL_ABORT 0) GNC_SNAPCTL_START = 1
      rw [getFld_putFld_other _ _ _ _ (by decide) (by decide), getFld_putFld_same _ _ _ (by decide)]; rfl
    obtain ⟨x, hwrite⟩ := s.snapStart_write src w htakes hnone hstart
    generalize hu : s.put GNC_SNAPCTL x = u at hwrite
    have hfld (f : Fld) (hf : f.addr ≠ GNC_SNAPCTL) : u.fld f = s.fld f := by
      rw [← hu]; exact State.fld_of_get f (State.get_put_other _ _ _ _ hf)
    have hgnss : u.gnss = s.gnss := by rw [← hu]; rfl
    have htim : u.tim = s.tim := by rw [← hu]; rfl
    have hnap : u.napping = s.napping := by simp only [State.napping, State.isSet, hfld GNT_NAPSTAT_NAPPING (by decide)]
    have howner (b : Nat) : u.owner b = s.owner b := hfld _ (by
      show MEM_BANK_OWN b ≠ GNC_SNAPCTL
      simp only [MEM_BANK_OWN, GNC_SNAPCTL]; omega)
    have hrefused (r : Nat) (hr : r < 16) : (u.snapRefuse r).fld GNC_SNAPSTAT_RESULT = r ∧ (u.snapRefuse r).gnss.snap = none
        ∧ counted (u.snapRefuse r) 53 := by
      obtain ⟨hres, hg, hcount⟩ := u.snapRefuse_effect r hr
      exact ⟨hres, by rw [hg, hgnss, hnone], hcount.trans (by rw [hfld _ (by decide)])⟩
    refine ⟨u.snapStart w, congrArg Host.Outcome.next hwrite, fun hbeyond => ?_, fun hfit hforeign => ?_, fun hfit hown => ?_⟩
    · rw [u.snapStart_beyond w hbeyond]; exact hrefused 3 (by decide)
    · rw [u.snapStart_foreign w hfit (by simpa only [howner] using hforeign)]; exact hrefused 2 (by decide)
    · obtain ⟨hstate, hres, hp⟩ := u.snapStart_waits w hfit (by simpa only [howner] using hown)
      rw [htim, hnap] at hp
      exact ⟨hstate, hres, _, hp, rfl, rfl, rfl, rfl⟩
  · obtain ⟨u, cuts, head, htime, heq⟩ := s.snapFirst_effect p hsnap hfirst hlost hedge
    have hsome : s.snapFirst.gnss.snap = some { p with
        start := s.snapInstant p, first := true, prov := s.mode == modeSurvey, cuts := cuts, head := head } := by rw [heq]; rfl
    refine ⟨s.snapFirst, _, rfl, hsome, rfl, rfl, rfl, rfl, ?_, ?_⟩
    · rw [heq]; exact htime
    · rw [heq, State.fld_setFld_same _ _ _ (by decide)]; rfl
  · have hdone : s.snapDone samples = s.snapEnd p samples 1 := by simp [State.snapDone, hsnap, hlost, hfirst, hlen]
    obtain ⟨hnone, hstate, hresult, hevent, -, -⟩ := s.snapEnd_kept p samples 1 hlost hbanks (by decide)
    exact ⟨_, congrArg Host.Outcome.next hdone, ⟨hnone, hstate, hresult⟩, hevent⟩
  · have hdone : s.snapDone samples = s.snapEnd p (if p.first then samples else []) 4 := by simp only [State.snapDone, hsnap, hlost, if_true]
    obtain ⟨hnone, hstate, hresult, hevent, -, -⟩ := s.snapEnd_over p (if p.first then samples else []) 4 4 (by split <;> rfl) (by decide)
    exact ⟨_, congrArg Host.Outcome.next hdone, ⟨hnone, hstate, hresult⟩, hevent⟩
  · obtain ⟨t, hexec, hnone, hstate, hresult, hevent, -, -⟩ := s.snapAbort_over src samples p hsnap htakes hlost hbanks
    exact ⟨t, hexec, ⟨hnone, hstate, hresult⟩, hevent⟩

end Sys2Proof.Machine

/-! The fix and the health of GNSS as a time reference: what an accepted TSOL_POST leaves, and the one state of affairs in which it judges
another accuracy than the one written: the device has latched a bit of GNT_TSOL_CTL in the same tick (R5, R151, R173). -/

namespace Sys2Proof.Machine

open Sys2Proof.Fields

/-! ### What the discipline of the timebase leaves alone (R173 to R177) -/

/-- `t` follows from `s` by steps of the discipline: the states of the references and the fix stay. -/
structure State.Steers (s t : State) : Prop where
  refs : t.get TIM_REFSTAT = s.get TIM_REFSTAT
  fix : t.gnss.fix = s.gnss.fix
  lastPost : t.gnss.lastPost = s.gnss.lastPost

theorem State.Steers.refl (s : State) : s.Steers s := ⟨rfl, rfl, rfl⟩

theorem State.Steers.trans {s t u : State} (h : s.Steers t) (h' : t.Steers u) : s.Steers u :=
  ⟨h'.refs.trans h.refs, h'.fix.trans h.fix, h'.lastPost.trans h.lastPost⟩

theorem State.Steers.trefHealthy {s t : State} (h : s.Steers t) (r : Nat) : t.trefHealthy r = s.trefHealthy r :=
  congrArg (· == stHealthy) (State.fld_of_get (trefFld r) h.refs)

theorem State.steers_setFld (s : State) (f : Fld) (v : Nat) (h : f.addr ≠ TIM_REFSTAT) : s.Steers (s.setFld f v) :=
  ⟨s.get_setFld_other f v _ h.symm, rfl, rfl⟩

theorem State.steers_raise (s : State) (id data : Nat) : s.Steers (s.raise id data) :=
  ⟨s.get_raise_low id data _ (by decide), by rw [State.raise_gnss], by rw [State.raise_gnss]⟩

theorem State.steers_tim (s : State) (x : Tim) : s.Steers { s with tim := x } := ⟨rfl, rfl, rfl⟩

theorem State.steers_setTvalid (s : State) (v : Bool) : s.Steers (s.setTvalid v) := by
  have hset : s.Steers (s.setBit TIM_STAT_TVALID v) := s.steers_setFld _ _ (by decide)
  unfold State.setTvalid
  split
  · exact .refl s
  · dsimp only
    split <;> exact hset.trans ((State.steers_raise _ _ _).trans ⟨rfl, rfl, rfl⟩)

theorem State.steers_refreshDegraded (s : State) : s.Steers s.refreshDegraded := by
  unfold State.refreshDegraded
  dsimp only
  split
  · exact .refl s
  · exact (s.steers_setFld TIM_STAT_DEGRADED _ (by decide)).trans (State.steers_raise _ _ _)

theorem State.steers_judgeJump (s : State) (x : Int) : s.Steers (s.judgeJump x) := by
  unfold State.judgeJump
  split
  · exact .refl s
  · dsimp only
    split
    · exact (State.steers_tim s _).trans ((State.steers_raise _ 19 0).trans ((State.steers_tim _ _).trans (State.steers_refreshDegraded _)))
    · exact s.steers_tim _

theorem State.steers_setSlew (s : State) (x : Int) : s.Steers (s.setSlew x) :=
  (s.steers_tim _).trans (State.steers_setFld _ TIM_STAT_SLEWING _ (by decide))

theorem State.steers_surveyCount (s : State) (x : Int) : s.Steers (s.surveyCount x) := by
  unfold State.surveyCount
  generalize (if x.natAbs ≤ 1000000 then s.tim.good + 1 else 0) = n
  dsimp only
  split
  · exact (s.steers_tim _).trans (State.steers_setTvalid _ true)
  · exact s.steers_tim _

theorem State.steers_leapJudge (s : State) : s.Steers s.leapJudge := by
  have hset (u : State) (f : Fld) (v : Nat) (h : f.addr = TIM_LEAP ∨ f.addr = BKP_CTL) : u.Steers (u.setFld f v) :=
    u.steers_setFld f v (by obtain h | h := h <;> rw [h] <;> decide)
  unfold State.leapJudge
  split
  · unfold State.leapRaise
    dsimp only
    split
    · exact hset s TIM_LEAP_NEG _ (.inl rfl)
    · exact ((((hset s TIM_LEAP_PENDING _ (.inl rfl)).trans (hset _ TIM_LEAP_NEG _ (.inl rfl))).trans (State.steers_raise _ 32 0)).trans
        (hset _ BKP_CTL_LEAPARM _ (.inr rfl))).trans (hset _ BKP_CTL_LEAPNEG _ (.inr rfl))
  · exact (hset s TIM_LEAP_PENDING _ (.inl rfl)).trans (hset _ TIM_LEAP_NEG _ (.inl rfl))

theorem State.steers_surveyStep (s : State) (x : Int) : s.Steers (s.surveyStep x) := by
  have hstep (d : Int) : s.Steers (s.stepTime d) := ⟨rfl, rfl, rfl⟩
  exact (hstep _).trans ((State.steers_tim _ _).trans ((State.steers_setFld _ TIM_STAT_SLEWING _ (by decide)).trans
    (State.steers_leapJudge _)))

theorem State.steers_free (s : State) (n : Nat) : s.Steers { s with free := n } := ⟨rfl, rfl, rfl⟩

theorem State.steers_applyUpdate (s : State) (u : TimeUpd) : s.Steers (s.applyUpdate u) := by
  have hseen : s.Steers (s.seenRef u.ref) := by
    unfold State.seenRef
    split
    · exact s.steers_tim _
    · exact .refl s
  have happlied (first : Bool) (t : State) (h : s.Steers t) : s.Steers (if t.mode = modeSurvey then
      if first && decide (1000000 < u.x.natAbs) then { t with tim := { t.tim with good := 0 } }.surveyStep u.x
      else (t.setSlew u.x).surveyCount u.x else t.setSlew u.x) := by
    refine h.trans ?_
    split
    · split
      · exact (t.steers_tim _).trans (State.steers_surveyStep _ _)
      · exact (t.steers_setSlew _).trans (State.steers_surveyCount _ _)
    · exact t.steers_setSlew _
  unfold State.applyUpdate State.fresh
  dsimp only
  split
  · exact hseen
  · refine happlied _ _ (State.Steers.trans ?_ (State.steers_judgeJump _ _))
    refine State.Steers.trans ?_ (State.steers_setFld _ TIM_FRQ_Y _ (by decide))
    exact (hseen.trans (State.steers_setFld _ TIM_OFS_X _ (by decide))).trans (State.steers_free _ _)

theorem State.steers_timeUpdate (s : State) (u : TimeUpd) : s.Steers (s.timeUpdate u) := by
  unfold State.timeUpdate
  split
  · exact s.steers_tim _
  · exact s.steers_applyUpdate u

theorem State.steers_selectTref (s : State) : s.Steers s.selectTref := by
  unfold State.selectTref
  dsimp only
  split
  · exact .refl s
  · exact ((s.steers_setFld TIM_STAT_TREF _ (by decide)).trans (State.steers_raise _ 18 0)).trans (State.steers_tim _ _)

theorem State.steers_judgeTvalid (s : State) : s.Steers s.judgeTvalid := by
  unfold State.judgeTvalid
  dsimp only
  split
  · exact s.steers_setTvalid _
  · split
    · exact (s.steers_tim _).trans (State.steers_setTvalid _ false)
    · exact .refl s

/-! ### GNSS as a time reference (R173) -/

/-- GNSS becomes a healthy reference, and the fix stays. -/
theorem State.setTref_gnss_healthy (s : State) : (s.setTref 1 true).trefHealthy 1 = true
    ∧ (s.setTref 1 true).gnss.fix = s.gnss.fix ∧ (s.setTref 1 true).gnss.lastPost = s.gnss.lastPost := by
  unfold State.setTref
  split
  next h => exact ⟨h, rfl, rfl⟩
  · have hset : (s.setFld (trefFld 1) stHealthy).trefHealthy 1 = true := by
      rw [State.trefHealthy, State.fld_setFld_same _ _ _ (by decide)]
      decide
    have hsteers (t : State) : t.Steers t.selectTref.judgeTvalid := t.steers_selectTref.trans (State.steers_judgeTvalid _)
    exact ⟨((hsteers _).trefHealthy 1).trans hset, (hsteers _).fix, (hsteers _).lastPost⟩

/-! ### A valid POST (R151, R152) -/

theorem State.steers_firstFix (s : State) : s.Steers s.firstFix := by
  unfold State.firstFix
  split
  · exact .refl s
  · exact ⟨s.get_setFld_other GNT_START_TTFF _ _ (by decide), rfl, rfl⟩

/-- A valid POST is noted, with its accuracy and the clock's bias. -/
def State.noteValid (s : State) : State :=
  let o := s.fldInt GNT_TSOL_OFS_OFS
  { s with gnss := { s.gnss with
    napAwait := false, lastPost := some s.tim.ts, postGood := decide (s.fld GNT_TSOL_CTL_ACC ≤ s.fld TIM_TREFCFG_ACCMAX),
    bias := some (if s.isSet GNT_TSOL_CTL_COARSE then o * 1000000 else o) } }

/-- The fix stands. -/
def State.takeFix (s : State) : State := if s.gnss.fix then s else { s with gnss := { s.gnss with fix := true } }.raise 71

/-- A valid POST is passed on to TIM; `good` says that its accuracy lies within ACCMAX. -/
def State.passTime (s : State) (good : Bool) : State :=
  let s := if good then s.setTref 1 true else s
  if s.trefHealthy 1 then s.timeUpdate ⟨1, s.gnssOffset, some (s.fldInt GNT_TSOL_FRQ_FRQ)⟩ else s

theorem State.validPost_eq (s : State) : s.validPost
    = s.noteValid.takeFix.firstFix.passTime (decide (s.fld GNT_TSOL_CTL_ACC ≤ s.fld TIM_TREFCFG_ACCMAX)) := rfl

theorem State.takeFix_gnss (s : State) : s.takeFix.gnss = { s.gnss with fix := true } := by
  unfold State.takeFix
  split
  next h => rw [← h]
  · rw [State.raise_gnss]

theorem State.passTime_effect (s : State) (good : Bool) : (s.passTime good).gnss.fix = s.gnss.fix
    ∧ (s.passTime good).gnss.lastPost = s.gnss.lastPost ∧ (good = true → (s.passTime good).trefHealthy 1 = true) := by
  have hupdate (t : State) (u : TimeUpd) : t.Steers (if t.trefHealthy 1 then t.timeUpdate u else t) := by
    split
    · exact t.steers_timeUpdate u
    · exact .refl t
  cases good with
  | false => exact ⟨(hupdate s _).fix, (hupdate s _).lastPost, fun h => absurd h Bool.false_ne_true⟩
  | true =>
    obtain ⟨hhealthy, hfix, hpost⟩ := s.setTref_gnss_healthy
    exact ⟨(hupdate _ _).fix.trans hfix, (hupdate _ _).lastPost.trans hpost, fun _ => ((hupdate _ _).trefHealthy 1).trans hhealthy⟩

/-- A valid POST sets the fix and its time, and with an ACC within ACCMAX makes GNSS healthy. -/
theorem State.validPost_effect (s : State) : s.validPost.gnss.fix = true ∧ s.validPost.gnss.lastPost = some s.tim.ts
    ∧ (s.fld GNT_TSOL_CTL_ACC ≤ s.fld TIM_TREFCFG_ACCMAX → s.validPost.trefHealthy 1 = true) := by
  have hfirst := s.noteValid.takeFix.steers_firstFix
  obtain ⟨hfix, hpost, hhealthy⟩ := s.noteValid.takeFix.firstFix.passTime_effect
    (decide (s.fld GNT_TSOL_CTL_ACC ≤ s.fld TIM_TREFCFG_ACCMAX))
  rw [s.validPost_eq]
  refine ⟨hfix.trans ?_, hpost.trans ?_, fun h => hhealthy (decide_eq_true h)⟩
  · rw [hfirst.fix, State.takeFix_gnss]
  · rw [hfirst.lastPost, State.takeFix_gnss]
    rfl

theorem State.post_valid (s : State) (hnap : s.napping = false) (hvalid : s.fld GNT_TSOL_CTL_VALID = 1) : s.post = s.validPost := by
  have hset : s.isSet GNT_TSOL_CTL_VALID = true := by rw [State.isSet, hvalid]; rfl
  rw [State.post, hnap, if_neg Bool.false_ne_true, if_pos hset]

/-! ### A write of GNT_TSOL_CTL (R151) -/

/-- The fields of GNT_TSOL_CTL share no bit. -/
theorem fieldsApart_tsolCtl : ∀ r ∈ regAt GNT_TSOL_CTL, fieldsApart r.flds := by
  decide +kernel

/-- ACC and VALID are kept as written. -/
theorem getFld_merge_tsolCtl (old v : Word) (f : Fld) (hf : f = GNT_TSOL_CTL_ACC ∨ f = GNT_TSOL_CTL_VALID) :
    getFld (mergeWord GNT_TSOL_CTL old v) f = getFld v f := by
  obtain ⟨r, hr, hacc, hvalid⟩ : ∃ r, regAt GNT_TSOL_CTL = some r ∧ ⟨8, 8, .RW, 255, false, .any⟩ ∈ r.flds
      ∧ ⟨1, 1, .RW, 0, false, .any⟩ ∈ r.flds := ⟨_, rfl, by decide, by decide⟩
  have hapart := fieldsApart_tsolCtl r hr
  obtain rfl | rfl := hf
  · exact getFld_mergeWord_RW _ old v r hr hapart _ hacc rfl
  · exact getFld_mergeWord_RW _ old v r hr hapart _ hvalid rfl

/-- An accepted write of GNT_TSOL_CTL with POST set stores the word and posts. -/
theorem State.write_tsolCtl (s : State) (src : BusSrc) (v : Word) (h : s.takes GNT_TSOL_CTL v) (hpost : getFld v GNT_TSOL_CTL_POST = 1)
    (hlive7 : s.live 7 = true) (hlive8 : s.live 8 = true) (hn : s.setNow GNT_TSOL_CTL = 0#32) :
    s.write src GNT_TSOL_CTL v = (s.put GNT_TSOL_CTL (mergeWord GNT_TSOL_CTL (s.get GNT_TSOL_CTL) v)).post := by
  have hkept (t : State) : t.markDirty GNT_TSOL_CTL = t := by
    have hmask : keptMask GNT_TSOL_CTL = 0 := by decide +kernel
    simp [State.markDirty, State.isKept, hmask]
  have hstore : s.storeWord GNT_TSOL_CTL v = s.put GNT_TSOL_CTL (mergeWord GNT_TSOL_CTL (s.get GNT_TSOL_CTL) v) := by
    simp only [State.storeWord, hn, BitVec.and_zero, BitVec.or_zero]
    rw [if_neg (fun h => absurd h.1 (by decide)), if_neg (fun h => absurd h.2.1 (by decide))]
  have hacts : s.applyWrite src GNT_TSOL_CTL v = (if getFld v GNT_TSOL_CTL_POST = 1 && (s.storeWord GNT_TSOL_CTL v).live 7
      && (s.storeWord GNT_TSOL_CTL v).live 8 then (s.storeWord GNT_TSOL_CTL v).post else s.storeWord GNT_TSOL_CTL v) := rfl
  have hlive (i : Nat) : (s.storeWord GNT_TSOL_CTL v).live i = s.live i := rfl
  rw [s.write_taken src _ v (by decide) h, State.mgtWrite_other _ _ _ _ (by decide), hkept, hacts, hlive, hlive, hlive7, hlive8, hpost,
    hstore]
  rfl

/-- The effect that O28 states of TSOL_POST, in every state in whose tick the device has latched no bit of GNT_TSOL_CTL. -/
theorem tsolPost_fixes (s : State) (src : BusSrc) (v : Word) (h : s.takes GNT_TSOL_CTL (putFld v GNT_TSOL_CTL_POST 1))
    (hvalid : getFld v GNT_TSOL_CTL_VALID = 1) (hnap : s.napping = false) (hlive7 : s.live 7 = true) (hlive8 : s.live 8 = true)
    (hn : s.setNow GNT_TSOL_CTL = 0#32) :
    ∃ t, exec (.tsolPost src v none) s = .next t ∧ t.gnss.fix = true ∧ t.gnss.lastPost = some s.tim.ts
      ∧ (getFld v GNT_TSOL_CTL_ACC ≤ s.fld TIM_TREFCFG_ACCMAX → t.trefHealthy 1 = true) := by
  have hmerged (f : Fld) (hf : f = GNT_TSOL_CTL_ACC ∨ f = GNT_TSOL_CTL_VALID) :
      getFld (mergeWord GNT_TSOL_CTL (s.get GNT_TSOL_CTL) (putFld v GNT_TSOL_CTL_POST 1)) f = getFld v f := by
    rw [getFld_merge_tsolCtl _ _ f hf]
    obtain rfl | rfl := hf <;> exact getFld_putFld_other _ _ _ _ (by decide) (by decide)
  have hwrite := s.write_tsolCtl src _ h (getFld_putFld_same _ _ _ (by decide)) hlive7 hlive8 hn
  generalize mergeWord GNT_TSOL_CTL (s.get GNT_TSOL_CTL) (putFld v GNT_TSOL_CTL_POST 1) = w at hmerged hwrite
  have hkept (f : Fld) (hf : f.addr ≠ GNT_TSOL_CTL) : (s.put GNT_TSOL_CTL w).fld f = s.fld f :=
    State.fld_of_get f (State.get_put_other _ _ _ _ hf)
  have hstored (f : Fld) (hf : f = GNT_TSOL_CTL_ACC ∨ f = GNT_TSOL_CTL_VALID) : (s.put GNT_TSOL_CTL w).fld f = getFld v f := by
    have haddr : f.addr = GNT_TSOL_CTL := by obtain rfl | rfl := hf <;> rfl
    rw [State.fld, haddr, State.get_put_same, hmerged f hf]
  have hposted : (s.put GNT_TSOL_CTL w).post = (s.put GNT_TSOL_CTL w).validPost := by
    have hawake : (s.put GNT_TSOL_CTL w).napping = false := by
      rw [← hnap]
      exact congrArg (· != 0) (hkept GNT_NAPSTAT_NAPPING (by decide))
    exact State.post_valid _ hawake ((hstored _ (.inr rfl)).trans hvalid)
  obtain ⟨hfix, hpost, hhealthy⟩ := (s.put GNT_TSOL_CTL w).validPost_effect
  rw [hstored _ (.inl rfl), hkept TIM_TREFCFG_ACCMAX (by decide)] at hhealthy
  exact ⟨_, congrArg Host.Outcome.next (hwrite.trans hposted), hfix, hpost, hhealthy⟩

/-! ### A word of GNT_TSOL_CTL with a latched bit -/

/-- The state after reset with the timebase running, both GNSS functions cast and an ACCMAX of 0, in whose tick the device has latched bit 0
of GNT_TSOL_CTL.ACC. -/
def State.accLatched : State :=
  State.latch (State.setFld { State.reset with
      sys := { State.reset.sys with phase := .running, cast := [7, 8] }
      tim := { State.reset.tim with run := true } } TIM_TREFCFG_ACCMAX 0)
    ⟨GNT_TSOL_CTL, 8, 1⟩

/-- The word of a valid solution with an ACC of 0. -/
def validSolution : Word := putFld 0 GNT_TSOL_CTL_VALID 1

theorem takes_accLatched : State.accLatched.takes GNT_TSOL_CTL (putFld validSolution GNT_TSOL_CTL_POST 1) := by
  decide +kernel

/-- The latched bit outlives the 0 that is written over it: ACC is above ACCMAX, and GNSS does not become healthy. -/
theorem trefHealthy_of_post_accLatched :
    (State.accLatched.write .pcie GNT_TSOL_CTL (putFld validSolution GNT_TSOL_CTL_POST 1)).trefHealthy 1 = false := by
  decide +kernel

/-- Refutes O28 in its clause on TSOL_POST, which speaks of every state, and so of one in whose tick the device has latched a bit of ACC:
that bit stays set (R5), and the accuracy judged is not the one written. No operation of the model latches a bit there; where none is
latched the effect holds, by `tsolPost_fixes`. -/
theorem not_measurementsFixAndNaps : ¬ Obligations.MeasurementsFixAndNaps := by
  unfold Obligations.MeasurementsFixAndNaps
  intro h
  obtain ⟨-, hpost, -⟩ := h State.accLatched .pcie
  obtain ⟨t, hexec, -, -, hhealthy⟩ := hpost validSolution takes_accLatched (by decide) (by decide +kernel) (by decide +kernel) (by decide +kernel)
  obtain rfl := Host.Outcome.next.inj hexec
  have hlow : getFld validSolution GNT_TSOL_CTL_ACC ≤ State.accLatched.fld TIM_TREFCFG_ACCMAX := by decide +kernel
  exact absurd (hhealthy hlow) (by rw [trefHealthy_of_post_accLatched]; exact Bool.false_ne_true)

end Sys2Proof.Machine

/-! The time-interval counter: how an edge pairs with the one that is held, and what ends a measurement (R187, R188). -/

namespace Sys2Proof.Machine

open Sys2Proof.Fields

/-! ### What the counter leaves alone -/

/-- `t` follows from `s` by the counter's work: its own hidden state and TIM_TICSTAT aside, nothing below HST's registers changes. -/
structure State.Counts (s t : State) : Prop where
  regs : ∀ a, a < 0x100000 → a ≠ TIM_TICSTAT → t.get a = s.get a
  tim : { t.tim with tic := s.tim.tic } = s.tim
  sys : t.sys = s.sys

theorem State.Counts.refl (s : State) : s.Counts s := ⟨fun _ _ _ => rfl, rfl, rfl⟩

theorem State.Counts.trans {s t u : State} (h : s.Counts t) (h' : t.Counts u) : s.Counts u :=
  ⟨fun a ha hstat => (h'.regs a ha hstat).trans (h.regs a ha hstat),
    (congrArg (fun x : Tim => { x with tic := s.tim.tic }) h'.tim).trans h.tim, h'.sys.trans h.sys⟩

theorem State.Counts.fld {s t : State} (h : s.Counts t) (f : Fld) (hf : f.addr < 0x100000) (hstat : f.addr ≠ TIM_TICSTAT) :
    t.fld f = s.fld f := State.fld_of_get f (h.regs f.addr hf hstat)

theorem State.counts_tic (s : State) (x : Tic) : s.Counts { s with tim := { s.tim with tic := x } } := ⟨fun _ _ _ => rfl, rfl, rfl⟩

theorem State.counts_setFld (s : State) (f : Fld) (v : Nat) (h : f.addr = TIM_TICSTAT) : s.Counts (s.setFld f v) :=
  ⟨fun a _ hstat => s.get_setFld_other f v a (h ▸ hstat), rfl, rfl⟩

theorem State.counts_raise (s : State) (id data : Nat) : s.Counts (s.raise id data) :=
  ⟨fun a ha _ => s.get_raise_low id data a ha, by rw [State.raise_tim], by rw [State.raise_sys]⟩

/-! ### The FIFO of results (R188) -/

/-- With room in the FIFO a result enters it, with the mark of an overflow before it. -/
theorem State.ticPush_room (s : State) (r : TicRes) (h : s.tim.tic.fifo.length < 16) :
    (s.ticPush r).tim.tic.half = s.tim.tic.half
    ∧ (s.ticPush r).tim.tic.fifo = s.tim.tic.fifo ++ [{ r with ovf := s.tim.tic.ovf }]
    ∧ ∀ a, a < 0x100000 → (s.ticPush r).get a = s.get a := by
  unfold State.ticPush
  dsimp only
  rw [if_pos h]
  split
  · rw [State.raise_tim]
    exact ⟨rfl, rfl, fun a ha => State.get_raise_low _ _ _ _ ha⟩
  · exact ⟨rfl, rfl, fun _ _ => rfl⟩

theorem State.counts_ticPush (s : State) (r : TicRes) : s.Counts (s.ticPush r) := by
  unfold State.ticPush
  dsimp only
  split
  · split
    · exact (s.counts_tic _).trans (State.counts_raise _ 37 0)
    · exact s.counts_tic _
  · exact ((s.counts_tic _).trans (State.counts_setFld _ TIM_TICSTAT_DROPS _ rfl)).trans (State.counts_raise _ 38 0)

/-- A result ends the measurement; the counter stays armed in CONT mode alone (R187). -/
theorem State.ticEnd_effect (s : State) (r : TicRes) (h : s.tim.tic.fifo.length < 16) :
    (s.ticEnd r).tim.tic.half = none
    ∧ (s.ticEnd r).tim.tic.fifo = s.tim.tic.fifo ++ [{ r with ovf := s.tim.tic.ovf }]
    ∧ (s.ticEnd r).fld TIM_TICSTAT_ARMED = if s.isSet TIM_TICCFG_CONT then s.fld TIM_TICSTAT_ARMED else 0 := by
  generalize hu : ({ s with tim := { s.tim with tic := { s.tim.tic with half := none } } } : State).setFld TIM_TICSTAT_HALF 0 = u
  have hend : s.ticEnd r = (if u.isSet TIM_TICCFG_CONT then u else u.setFld TIM_TICSTAT_ARMED 0).ticPush r := by rw [← hu]; rfl
  have hcont : u.isSet TIM_TICCFG_CONT = s.isSet TIM_TICCFG_CONT := by
    rw [State.isSet, ← hu, State.fld_setFld_other_word _ TIM_TICSTAT_HALF _ _ (by decide)]; rfl
  have harmed : u.fld TIM_TICSTAT_ARMED = s.fld TIM_TICSTAT_ARMED := by
    rw [← hu, State.fld_setFld_keeps _ TIM_TICSTAT_HALF _ _ (by decide) (by decide)]; rfl
  have htic : u.tim.tic = { s.tim.tic with half := none } := by rw [← hu]; rfl
  have hpush (t : State) (ht : t.tim.tic = { s.tim.tic with half := none }) : (t.ticPush r).tim.tic.half = none
      ∧ (t.ticPush r).tim.tic.fifo = s.tim.tic.fifo ++ [{ r with ovf := s.tim.tic.ovf }]
      ∧ (t.ticPush r).fld TIM_TICSTAT_ARMED = t.fld TIM_TICSTAT_ARMED := by
    obtain ⟨hhalf, hfifo, hget⟩ := t.ticPush_room r (by rw [ht]; exact h)
    rw [ht] at hhalf hfifo
    exact ⟨hhalf, hfifo, State.fld_of_get _ (hget _ (by decide))⟩
  rw [hend, hcont]
  split
  · rw [← harmed]
    exact hpush u htic
  · have hoff := u.fld_setFld_same TIM_TICSTAT_ARMED 0 (by decide)
    obtain ⟨hhalf, hfifo, hkept⟩ := hpush (u.setFld TIM_TICSTAT_ARMED 0) htic
    exact ⟨hhalf, hfifo, hkept.trans hoff⟩

theorem State.counts_ticEnd (s : State) (r : TicRes) : s.Counts (s.ticEnd r) := by
  have hhalf (x : Tic) : s.Counts (({ s with tim := { s.tim with tic := x } } : State).setFld TIM_TICSTAT_HALF 0) :=
    (s.counts_tic x).trans (State.counts_setFld _ _ _ rfl)
  unfold State.ticEnd
  dsimp only
  refine State.Counts.trans ?_ (State.counts_ticPush _ r)
  split
  · exact hhalf _
  · exact (hhalf _).trans (State.counts_setFld _ TIM_TICSTAT_ARMED _ rfl)

/-! ### Edges (R187) -/

/-- The counter notes the instant of an edge on an input, whether or not it takes the edge. -/
def Tic.note (x : Tic) (stop : Bool) (ps : Nat) : Tic :=
  if stop then { x with lastB := some ps } else { x with lastA := some ps }

def State.noteEdge (s : State) (stop : Bool) (ps : Nat) : State :=
  { s with tim := { s.tim with tic := s.tim.tic.note stop ps } }

theorem Tic.note_rest (x : Tic) (stop : Bool) (ps : Nat) :
    (x.note stop ps).half = x.half ∧ (x.note stop ps).fifo = x.fifo ∧ (x.note stop ps).ovf = x.ovf := by
  cases stop <;> exact ⟨rfl, rfl, rfl⟩

/-- The counter runs, is armed, and the edge does not follow within 100 ns of another one on its input. -/
structure State.TakesEdge (s : State) (stop : Bool) (ps : Nat) : Prop where
  live : s.live 3 = true
  armed : s.isSet TIM_TICSTAT_ARMED = true
  apart : ∀ q, (if stop then s.tim.tic.lastB else s.tim.tic.lastA) = some q → q + 100000 ≤ ps / 50 * 50

/-- What the counter does with an edge that it takes: it holds the edge, or pairs it with one of the other kind. -/
def State.takeEdge (s : State) (stop : Bool) (ps : Nat) : State :=
  match s.tim.tic.half with
  | none => { s with tim := { s.tim with tic := { s.tim.tic with half := some (stop, ps) } } }.setFld TIM_TICSTAT_HALF 1
  | some (k, p) => if k = stop then s else s.ticEnd (if stop then ticPair p ps else ticPair ps p)

theorem State.ticEdge_taken (s : State) (stop : Bool) (ps : Nat) (h : s.TakesEdge stop ps) :
    s.ticEdge stop ps = (s.noteEdge stop (ps / 50 * 50)).takeEdge stop (ps / 50 * 50) := by
  obtain ⟨hlive, harmed, hapart⟩ := h
  refine (if_neg ?_).trans rfl
  have hlive' : (s.noteEdge stop (ps / 50 * 50)).live 3 = true := hlive
  have harmed' : (s.noteEdge stop (ps / 50 * 50)).isSet TIM_TICSTAT_ARMED = true := harmed
  simp only [State.noteEdge, Tic.note] at hlive' harmed'
  rw [hlive', harmed']
  split
  next q hq =>
    have hlate := hapart q hq
    simp only [Bool.not_true, Bool.or_false, decide_eq_true_eq]
    omega
  · decide

/-- Every edge is noted, and some are taken. -/
theorem State.ticEdge_cases (s : State) (stop : Bool) (ps : Nat) :
    s.ticEdge stop ps = s.noteEdge stop (ps / 50 * 50)
    ∨ s.ticEdge stop ps = (s.noteEdge stop (ps / 50 * 50)).takeEdge stop (ps / 50 * 50) :=
  ite_eq_or_eq _ _ _

theorem State.counts_takeEdge (s : State) (stop : Bool) (ps : Nat) : s.Counts (s.takeEdge stop ps) := by
  unfold State.takeEdge
  split
  · exact (s.counts_tic _).trans (State.counts_setFld _ TIM_TICSTAT_HALF _ rfl)
  · split
    · exact .refl s
    · exact s.counts_ticEnd _

theorem State.counts_ticEdge (s : State) (stop : Bool) (ps : Nat) : s.Counts (s.ticEdge stop ps) := by
  have hnote : s.Counts (s.noteEdge stop (ps / 50 * 50)) := s.counts_tic _
  obtain he | he := s.ticEdge_cases stop ps <;> rw [he]
  · exact hnote
  · exact hnote.trans (State.counts_takeEdge _ _ _)

theorem State.counts_ticSource (s : State) (src ps : Nat) : s.Counts (s.ticSource src ps) := by
  have hinput (t : State) (c : Prop) [Decidable c] (stop : Bool) : t.Counts (if c then t.ticEdge stop ps else t) := by
    split
    · exact t.counts_ticEdge stop ps
    · exact .refl t
  exact (hinput s _ false).trans (hinput _ _ true)

theorem State.ticSource_none (s : State) (src ps : Nat) (hstart : s.fld TIM_TICCFG_STARTSRC ≠ src) (hstop : s.fld TIM_TICCFG_STOPSRC ≠ src) :
    s.ticSource src ps = s := by
  simp only [State.ticSource, hstart, hstop, if_false]

/-- A source that one input alone has chosen gives its edges to that input. -/
theorem State.ticSource_one (s : State) (src ps : Nat) (stop : Bool) (hstart : s.fld TIM_TICCFG_STARTSRC = src ↔ stop = false)
    (hstop : s.fld TIM_TICCFG_STOPSRC = src ↔ stop = true) : s.ticSource src ps = s.ticEdge stop ps := by
  cases stop with
  | false =>
    have hother : (s.ticEdge false ps).fld TIM_TICCFG_STOPSRC ≠ src := by
      rw [(s.counts_ticEdge false ps).fld _ (by decide) (by decide)]
      exact fun h => Bool.false_ne_true (hstop.mp h)
    simp only [State.ticSource, hstart.mpr rfl, hother, if_true, if_false]
  | true =>
    have hother : s.fld TIM_TICCFG_STARTSRC ≠ src := fun h => Bool.false_ne_true (hstart.mp h).symm
    simp only [State.ticSource, hother, hstop.mpr rfl, if_true, if_false]

/-- The result of a pair: its interval, resolved to 50 ps, and its order. -/
theorem ticPair_effect (start stop : Nat) (d : Int) (hd : d = (stop : Int) - (start : Int)) :
    (ticPair start stop).iv = (if d.natAbs < 50 then 0 else d) ∧ (ticPair start stop).unresolved = decide (d.natAbs < 50)
    ∧ (ticPair start stop).order = decide (d ≤ -50) ∧ (ticPair start stop).timeout = false := by
  unfold ticPair
  rw [← hd]
  dsimp only
  split
  next h => exact ⟨rfl, (decide_eq_true h).symm, (decide_eq_false (by omega)).symm, rfl⟩
  next h => exact ⟨rfl, (decide_eq_false h).symm, rfl, rfl⟩

/-! ### A write of TIM_TICCTL (R187, R188) -/

/-- An accepted write of TIM_TICCTL changes that register, and the counter acts on it. -/
theorem State.write_ticCtl (s : State) (src : BusSrc) (v : Word) (h : s.takes TIM_TICCTL v) :
    ∃ w, s.write src TIM_TICCTL v = (s.put TIM_TICCTL w).ticCtl v := by
  have hkept (t : State) : t.markDirty TIM_TICCTL = t := by
    have hmask : keptMask TIM_TICCTL = 0 := by decide +kernel
    simp [State.markDirty, State.isKept, hmask]
  obtain ⟨w, hw⟩ : ∃ w, s.applyWrite src TIM_TICCTL v = (s.put TIM_TICCTL w).ticCtl v := ⟨_, rfl⟩
  exact ⟨w, by rw [s.write_taken src _ v (by decide) h, State.mgtWrite_other _ _ _ _ (by decide), hkept, hw]⟩

/-- One bit alone is written. -/
theorem State.setWord_ticctl (s : State) (f : Fld) : s.setWord TIM_TICCTL [(f, 1)] = putFld 0 f 1 := by
  have hmask : rwMask TIM_TICCTL = 0#32 := by decide +kernel
  rw [State.setWord, hmask, BitVec.and_zero]
  rfl

/-- The counter holds no edge. -/
def State.dropEdge (s : State) : State := { s with tim := { s.tim with tic := { s.tim.tic with half := none } } }

theorem State.ticCtl_arm (s t : State) : t.ticCtl (s.setWord TIM_TICCTL [(TIM_TICCTL_ARM, 1)]) = t.setFld TIM_TICSTAT_ARMED 1 := by
  rw [s.setWord_ticctl]; rfl

theorem State.ticCtl_disarm (s t : State) : t.ticCtl (s.setWord TIM_TICCTL [(TIM_TICCTL_DISARM, 1)])
    = (t.dropEdge.setFld TIM_TICSTAT_HALF 0).setFld TIM_TICSTAT_ARMED 0 := by
  rw [s.setWord_ticctl]; rfl

theorem State.ticCtl_pop (s t : State) : t.ticCtl (s.setWord TIM_TICCTL [(TIM_TICCTL_POP, 1)])
    = { t with tim := { t.tim with tic := { t.tim.tic with fifo := t.tim.tic.fifo.drop 1 } } } := by
  rw [s.setWord_ticctl]; rfl

/-! ### The commands of the counter -/

/-- A first edge is held (R187). -/
theorem State.ticEdge_first (s : State) (stop : Bool) (ps : Nat) (h : s.TakesEdge stop ps) (hnone : s.tim.tic.half = none) :
    (s.ticEdge stop ps).tim.tic.half = some (stop, ps / 50 * 50) ∧ (s.ticEdge stop ps).fld TIM_TICSTAT_HALF = 1
    ∧ (s.ticEdge stop ps).tim.tic.fifo = s.tim.tic.fifo := by
  obtain ⟨hhalf, hfifo, -⟩ := Tic.note_rest s.tim.tic stop (ps / 50 * 50)
  have hheld : (s.noteEdge stop (ps / 50 * 50)).tim.tic.half = none := hhalf.trans hnone
  rw [s.ticEdge_taken stop ps h, State.takeEdge, hheld]
  exact ⟨rfl, State.fld_setFld_same _ TIM_TICSTAT_HALF 1 (by decide), hfifo⟩

/-- An edge of the other kind than the one held gives the interval of the two (R187). -/
theorem State.ticEdge_second (s : State) (stop : Bool) (ps p : Nat) (d : Int) (h : s.TakesEdge stop ps)
    (hhalf : s.tim.tic.half = some (!stop, p)) (hroom : s.tim.tic.fifo.length < 16)
    (hd : d = if stop then (ps / 50 * 50 : Nat) - (p : Int) else (p : Int) - (ps / 50 * 50 : Nat)) :
    ∃ r, (s.ticEdge stop ps).tim.tic.half = none ∧ (s.ticEdge stop ps).tim.tic.fifo = s.tim.tic.fifo ++ [r]
      ∧ r.iv = (if d.natAbs < 50 then 0 else d) ∧ r.unresolved = decide (d.natAbs < 50) ∧ r.order = decide (d ≤ -50) ∧ r.timeout = false
      ∧ (s.ticEdge stop ps).fld TIM_TICSTAT_ARMED = if s.isSet TIM_TICCFG_CONT then s.fld TIM_TICSTAT_ARMED else 0 := by
  obtain ⟨hnoted, hfifo, -⟩ := Tic.note_rest s.tim.tic stop (ps / 50 * 50)
  have hother : (!stop) ≠ stop := by cases stop <;> decide
  generalize hr : (if stop then ticPair p (ps / 50 * 50) else ticPair (ps / 50 * 50) p) = r
  have hend : s.ticEdge stop ps = (s.noteEdge stop (ps / 50 * 50)).ticEnd r := by
    have hheld : (s.noteEdge stop (ps / 50 * 50)).tim.tic.half = some (!stop, p) := hnoted.trans hhalf
    rw [s.ticEdge_taken stop ps h, State.takeEdge, hheld, ← hr]
    exact if_neg hother
  have hres : r.iv = (if d.natAbs < 50 then 0 else d) ∧ r.unresolved = decide (d.natAbs < 50) ∧ r.order = decide (d ≤ -50)
      ∧ r.timeout = false := by
    rw [← hr]
    cases stop with
    | false => exact ticPair_effect _ _ d hd
    | true => exact ticPair_effect _ _ d hd
  have hfifo' : (s.noteEdge stop (ps / 50 * 50)).tim.tic.fifo = s.tim.tic.fifo := hfifo
  obtain ⟨hnone, hpushed, harmed⟩ := (s.noteEdge stop (ps / 50 * 50)).ticEnd_effect r (by rw [hfifo']; exact hroom)
  rw [hfifo'] at hpushed
  obtain ⟨hiv, hunres, horder, htmo⟩ := hres
  rw [hend]
  exact ⟨_, hnone, hpushed, hiv, hunres, horder, htmo, harmed⟩

/-- The second edge stays out: the result names the edge that is held (R187). -/
theorem State.ticTimeout_effect (s : State) (k : Bool) (p : Nat) (hhalf : s.tim.tic.half = some (k, p))
    (hroom : s.tim.tic.fifo.length < 16) :
    ∃ r, s.ticTimeout.tim.tic.half = none ∧ s.ticTimeout.tim.tic.fifo = s.tim.tic.fifo ++ [r]
      ∧ r.timeout = true ∧ r.which = k ∧ r.ts = psTicks p := by
  have hend : s.ticTimeout = s.fresh.2.ticEnd ⟨toSigned 48 s.fresh.1, false, false, true, false, k, psTicks p⟩ := by
    rw [State.ticTimeout, hhalf]
  obtain ⟨hnone, hpushed, -⟩ := s.fresh.2.ticEnd_effect ⟨toSigned 48 s.fresh.1, false, false, true, false, k, psTicks p⟩ hroom
  rw [hend]
  exact ⟨_, hnone, hpushed, rfl, rfl, rfl⟩

/-- Settles O20, command by command. -/
theorem intervalCounter : Obligations.IntervalCounter := by
  unfold Obligations.IntervalCounter
  refine fun s src => ⟨fun input ps hstart hstop => ?_, fun input stop ps hlive harmed hstart hstop hapart => ?_,
    fun k p hhalf hroom => ?_, fun h => ?_, fun h => ?_, fun h => ?_⟩
  · exact congrArg Host.Outcome.next (s.ticSource_none _ ps hstart hstop)
  · have htake : s.TakesEdge stop ps := ⟨hlive, harmed, hapart⟩
    have hexec : exec (.ticEdge input ps) s = .next (s.ticEdge stop ps) :=
      congrArg Host.Outcome.next (s.ticSource_one _ ps stop hstart hstop)
    refine ⟨fun hnone => ⟨_, hexec, s.ticEdge_first stop ps htake hnone⟩, fun p hhalf hroom => ?_⟩
    obtain ⟨r, hnone, hfifo, hiv, hunres, horder, htmo, hcont⟩ := s.ticEdge_second stop ps p _ htake hhalf hroom rfl
    refine ⟨_, r, hexec, hnone, hfifo, hiv, hunres, horder, htmo, fun hoff => ?_, fun hon => ?_⟩
    · rw [hcont, hoff]; rfl
    · rw [State.isSet, hcont, hon]; exact harmed
  · obtain ⟨r, heffect⟩ := s.ticTimeout_effect k p hhalf hroom
    exact ⟨_, r, rfl, heffect⟩
  · obtain ⟨w, hw⟩ := s.write_ticCtl src _ h
    rw [State.ticCtl_arm] at hw
    exact ⟨_, congrArg Host.Outcome.next hw, State.fld_setFld_same _ TIM_TICSTAT_ARMED 1 (by decide), rfl⟩
  · obtain ⟨w, hw⟩ := s.write_ticCtl src _ h
    rw [State.ticCtl_disarm] at hw
    refine ⟨_, congrArg Host.Outcome.next hw, State.fld_setFld_same _ TIM_TICSTAT_ARMED 0 (by decide), ?_, rfl⟩
    rw [State.fld_setFld_keeps _ TIM_TICSTAT_ARMED _ _ (by decide) (by decide)]
    exact State.fld_setFld_same _ TIM_TICSTAT_HALF 0 (by decide)
  · obtain ⟨w, hw⟩ := s.write_ticCtl src _ h
    rw [State.ticCtl_pop] at hw
    exact ⟨_, congrArg Host.Outcome.next hw, rfl⟩

end Sys2Proof.Machine

/-! What the discipline of the timebase changes: the fields that updates, changes of health and the end of a nap set, and what they leave
(R155, R172 to R179). -/

namespace Sys2Proof.Machine

open Sys2Proof.Fields Sys2Proof.Laws

/-! ### The fields of the discipline -/

/-- The fields that the discipline of the timebase sets, with those that the end of a nap clears. -/
def disciplineFlds : List Fld :=
  [TIM_STAT_TVALID, TIM_STAT_DEGRADED, TIM_STAT_SLEWING, TIM_STAT_TREF, TIM_STAT_NAPHOLD, TIM_OFS_X, TIM_FRQ_Y, TIM_HOLDERR_ERR,
    TIM_LEAP_PENDING, TIM_LEAP_NEG, BKP_CTL_LEAPARM, BKP_CTL_LEAPNEG, GNT_NAPSTAT_NAPPING]

/-- A field in another word than `f`, or with no bit of it. -/
abbrev bitsApart (f g : Fld) : Prop := g.addr ≠ f.addr ∨ f.lo + f.len ≤ g.lo ∨ g.lo + g.len ≤ f.lo

/-- A field below HST's registers with no bit of a field of the discipline. -/
abbrev undisciplined (g : Fld) : Prop := g.addr < 0x100000 ∧ ∀ f ∈ disciplineFlds, bitsApart f g

/-- `t` follows from `s` by steps of the discipline. -/
structure State.Disciplines (s t : State) : Prop where
  fld : ∀ g : Fld, undisciplined g → t.fld g = s.fld g
  ppsLast : t.tim.ppsLast = s.tim.ppsLast
  heldUpd : t.tim.heldUpd = s.tim.heldUpd
  frefs : t.tim.frefs = s.tim.frefs
  transition : t.sys.trans = s.sys.trans

theorem State.Disciplines.refl (s : State) : s.Disciplines s := ⟨fun _ _ => rfl, rfl, rfl, rfl, rfl⟩

theorem State.Disciplines.trans {s t u : State} (h : s.Disciplines t) (h' : t.Disciplines u) : s.Disciplines u :=
  ⟨fun g hg => (h'.fld g hg).trans (h.fld g hg), h'.ppsLast.trans h.ppsLast, h'.heldUpd.trans h.heldUpd, h'.frefs.trans h.frefs,
    h'.transition.trans h.transition⟩

theorem State.disciplines_ite {c : Prop} [Decidable c] {s t u : State} (ht : s.Disciplines t) (hu : s.Disciplines u) :
    s.Disciplines (if c then t else u) := by
  split
  · exact ht
  · exact hu

theorem State.disciplines_setFld (s : State) (f : Fld) (v : Nat) (h : f ∈ disciplineFlds) : s.Disciplines (s.setFld f v) :=
  have hlen : ∀ f ∈ disciplineFlds, f.lo + f.len ≤ 32 := by decide
  ⟨fun g hg => s.fld_setFld_keeps f g v (hlen f h) (hg.2 f h), rfl, rfl, rfl, rfl⟩

theorem State.disciplines_raise (s : State) (id data : Nat) : s.Disciplines (s.raise id data) :=
  ⟨fun g hg => s.fld_raise_low id data g hg.1, by rw [State.raise_tim], by rw [State.raise_tim], by rw [State.raise_tim],
    by rw [State.raise_sys]⟩

/-- The discipline's own counts and marks. -/
theorem State.disciplines_tim (s : State) (x : Tim) (hpps : x.ppsLast = s.tim.ppsLast := by rfl)
    (hupd : x.heldUpd = s.tim.heldUpd := by rfl) (hfrefs : x.frefs = s.tim.frefs := by rfl) : s.Disciplines { s with tim := x } :=
  ⟨fun _ _ => rfl, hpps, hupd, hfrefs, rfl⟩

/-! ### Flags (R175, R177) -/

theorem State.disciplines_setTvalid (s : State) (v : Bool) : s.Disciplines (s.setTvalid v) := by
  have hraise (id : Nat) : s.Disciplines ((s.setBit TIM_STAT_TVALID v).raise id) :=
    (s.disciplines_setFld TIM_STAT_TVALID _ (by decide)).trans (State.disciplines_raise _ _ _)
  unfold State.setTvalid
  exact State.disciplines_ite (.refl s) (State.disciplines_ite ((hraise _).trans ⟨fun _ _ => rfl, rfl, rfl, rfl, rfl⟩) (hraise _))

theorem State.disciplines_refreshDegraded (s : State) : s.Disciplines s.refreshDegraded :=
  State.disciplines_ite (.refl s) ((s.disciplines_setFld TIM_STAT_DEGRADED _ (by decide)).trans (State.disciplines_raise _ _ _))

/-! ### Leap seconds (R165) -/

theorem State.disciplines_leapRaise (s : State) (e : Nat) : s.Disciplines (s.leapRaise e) := by
  unfold State.leapRaise
  refine State.disciplines_ite (s.disciplines_setFld TIM_LEAP_NEG _ (by decide)) ?_
  exact ((((s.disciplines_setFld TIM_LEAP_PENDING _ (by decide)).trans (State.disciplines_setFld _ TIM_LEAP_NEG _ (by decide))).trans
    (State.disciplines_raise _ 32 0)).trans (State.disciplines_setFld _ BKP_CTL_LEAPARM _ (by decide))).trans
      (State.disciplines_setFld _ BKP_CTL_LEAPNEG _ (by decide))

theorem State.disciplines_leapJudge (s : State) : s.Disciplines s.leapJudge := by
  unfold State.leapJudge
  split
  · exact s.disciplines_leapRaise _
  · exact (s.disciplines_setFld TIM_LEAP_PENDING _ (by decide)).trans (State.disciplines_setFld _ TIM_LEAP_NEG _ (by decide))

/-! ### Time updates (R175 to R177) -/

theorem State.disciplines_surveyStep (s : State) (x : Int) : s.Disciplines (s.surveyStep x) := by
  have hstep (d : Int) : s.Disciplines (s.stepTime d) := ⟨fun _ _ => rfl, rfl, rfl, rfl, rfl⟩
  exact ((hstep _).trans (State.disciplines_tim _ _)).trans
    ((State.disciplines_setFld _ TIM_STAT_SLEWING _ (by decide)).trans (State.disciplines_leapJudge _))

theorem State.disciplines_setSlew (s : State) (x : Int) : s.Disciplines (s.setSlew x) :=
  (s.disciplines_tim _).trans (State.disciplines_setFld _ TIM_STAT_SLEWING _ (by decide))

theorem State.disciplines_surveyCount (s : State) (x : Int) : s.Disciplines (s.surveyCount x) :=
  State.disciplines_ite ((s.disciplines_tim _).trans (State.disciplines_setTvalid _ true)) (s.disciplines_tim _)

theorem State.disciplines_judgeJump (s : State) (x : Int) : s.Disciplines (s.judgeJump x) := by
  have hjump (u : State) : u.Disciplines { u.raise 19 with tim := { (u.raise 19).tim with degJump := true } } :=
    (u.disciplines_raise 19 0).trans (State.disciplines_tim _ _)
  have hjudged : s.Disciplines { s with tim := { s.tim with judgeJump := false } } := s.disciplines_tim _ rfl rfl rfl
  exact State.disciplines_ite (.refl s)
    (State.disciplines_ite (hjudged.trans ((hjump _).trans (State.disciplines_refreshDegraded _))) hjudged)

theorem State.disciplines_seenRef (s : State) (r : Nat) : s.Disciplines (s.seenRef r) :=
  State.disciplines_ite (s.disciplines_tim _) (.refl s)

theorem State.disciplines_applyUpdate (s : State) (u : TimeUpd) : s.Disciplines (s.applyUpdate u) := by
  have hseen := s.disciplines_seenRef u.ref
  have hfree (t : State) (n : Nat) : t.Disciplines { t with free := n } := ⟨fun _ _ => rfl, rfl, rfl, rfl, rfl⟩
  have hmoved (first : Bool) (t : State) : t.Disciplines (if t.mode = modeSurvey then
      if first && decide (1000000 < u.x.natAbs) then { t with tim := { t.tim with good := 0 } }.surveyStep u.x
      else (t.setSlew u.x).surveyCount u.x else t.setSlew u.x) :=
    State.disciplines_ite (State.disciplines_ite ((t.disciplines_tim _).trans (State.disciplines_surveyStep _ _))
      ((t.disciplines_setSlew _).trans (State.disciplines_surveyCount _ _))) (t.disciplines_setSlew _)
  unfold State.applyUpdate State.fresh
  dsimp only
  split
  · exact hseen
  · refine State.Disciplines.trans (State.Disciplines.trans ?_ (State.disciplines_judgeJump _ u.x)) (hmoved _ _)
    refine State.Disciplines.trans ?_ (State.disciplines_setFld _ TIM_FRQ_Y _ (by decide))
    exact (hseen.trans (State.disciplines_setFld _ TIM_OFS_X _ (by decide))).trans (hfree _ _)

/-- An update is applied, or held while a switch of frequency reference is in progress. -/
theorem State.timeUpdate_effect (s : State) (u : TimeUpd) :
    (∀ g : Fld, undisciplined g → (s.timeUpdate u).fld g = s.fld g) ∧ (s.timeUpdate u).tim.ppsLast = s.tim.ppsLast
    ∧ (s.timeUpdate u).sys.trans = s.sys.trans := by
  unfold State.timeUpdate
  split
  · exact ⟨fun _ _ => rfl, rfl, rfl⟩
  · have h := s.disciplines_applyUpdate u
    exact ⟨h.fld, h.ppsLast, h.transition⟩

/-! ### The health of time references (R173, R174) -/

theorem State.disciplines_judgeTvalid (s : State) : s.Disciplines s.judgeTvalid :=
  State.disciplines_ite (s.disciplines_setTvalid _)
    (State.disciplines_ite ((s.disciplines_tim _).trans (State.disciplines_setTvalid _ false)) (.refl s))

theorem State.disciplines_selectTref (s : State) : s.Disciplines s.selectTref :=
  State.disciplines_ite (.refl s) (((s.disciplines_setFld TIM_STAT_TREF _ (by decide)).trans (State.disciplines_raise _ 18 0)).trans
    (State.disciplines_tim _ _))

theorem refstat_undisciplined (lo len : Nat) : undisciplined ⟨TIM_REFSTAT, lo, len⟩ := by
  have haddr : ∀ f ∈ disciplineFlds, TIM_REFSTAT ≠ f.addr := by decide
  exact ⟨(by decide : TIM_REFSTAT < 0x100000), fun f hf => .inl (haddr f hf)⟩

/-- A change of health beside the field that shows it. -/
theorem State.setTref_changes (s : State) (r : Nat) (ok : Bool) (h : s.trefHealthy r ≠ ok) :
    (s.setFld (trefFld r) (if ok then stHealthy else stAbsent)).Disciplines (s.setTref r ok) := by
  unfold State.setTref
  rw [if_neg h]
  generalize s.setFld (trefFld r) (if ok then stHealthy else stAbsent) = u
  have hraised : u.Disciplines (if r = 3 then u.raise (if ok then 26 else 27) else u) :=
    State.disciplines_ite (State.disciplines_raise _ _ _) (.refl u)
  exact ((hraised.trans (State.disciplines_tim _ _)).trans (State.disciplines_selectTref _)).trans (State.disciplines_judgeTvalid _)

/-- A time reference shows the health that it is given, and beside its own field the discipline alone sets any. -/
theorem State.setTref_effect (s : State) (r : Nat) (ok : Bool) (hr : r ≤ 3) :
    (s.setTref r ok).trefHealthy r = ok ∧ (∀ g : Fld, undisciplined g → bitsApart (trefFld r) g → (s.setTref r ok).fld g = s.fld g)
    ∧ (s.setTref r ok).tim.ppsLast = s.tim.ppsLast ∧ (s.setTref r ok).sys.trans = s.sys.trans := by
  have hlen : (trefFld r).lo + (trefFld r).len ≤ 32 := by simp only [trefFld]; omega
  by_cases h : s.trefHealthy r = ok
  · rw [State.setTref, if_pos h]
    exact ⟨h, fun _ _ _ => rfl, rfl, rfl⟩
  · have hchange := s.setTref_changes r ok h
    refine ⟨?_, fun g hg hapart => (hchange.fld g hg).trans (s.fld_setFld_keeps _ _ _ hlen hapart), hchange.ppsLast, hchange.transition⟩
    have hshown := (hchange.fld (trefFld r) (refstat_undisciplined _ _)).trans (s.fld_setFld_same (trefFld r) _ hlen)
    rw [State.trefHealthy, hshown]
    cases ok <;> rfl

/-! ### Naps and the choice of a frequency reference (R155, R167, R172, R179) -/

theorem State.disciplines_napEnd (s : State) : s.Disciplines s.napEnd := by
  have hcleared : s.Disciplines ((s.setFld GNT_NAPSTAT_NAPPING 0).setFld TIM_STAT_NAPHOLD 0) :=
    (s.disciplines_setFld _ _ (by decide)).trans (State.disciplines_setFld _ TIM_STAT_NAPHOLD _ (by decide))
  have hraised (t : State) : t.Disciplines { t.raise 76 with
      gnss := { t.gnss with settling := true, napAwait := true }, sys := { t.sys with awakeFrom := t.tim.ts } } :=
    have hraise := t.disciplines_raise 76 0
    ⟨hraise.fld, hraise.ppsLast, hraise.heldUpd, hraise.frefs, rfl⟩
  unfold State.napEnd
  exact State.disciplines_ite (hcleared.trans ((State.disciplines_ite (.refl _)
    (State.disciplines_setFld _ TIM_HOLDERR_ERR _ (by decide))).trans (hraised _))) (.refl s)

theorem State.disciplines_wakeRequest (s : State) : s.Disciplines s.wakeRequest :=
  State.disciplines_ite ((s.disciplines_raise 31 0).trans (State.disciplines_napEnd _)) (.refl s)

theorem State.disciplines_modelSteer (s : State) : s.Disciplines s.modelSteer :=
  State.disciplines_ite (s.disciplines_setFld TIM_FRQ_Y _ (by decide)) (.refl s)

theorem State.disciplines_selectFref (s : State) : s.Disciplines s.selectFref := by
  have hjudge : s.Disciplines s.judgeFref := (s.disciplines_tim _).trans (State.disciplines_refreshDegraded _)
  exact hjudge.trans (State.disciplines_ite (.refl _)
    ((State.disciplines_tim _ _).trans (State.disciplines_wakeRequest _)))

end Sys2Proof.Machine

/-! Time references: how PPS_IN, GNSS and PTP become healthy and are lost, and when the time is degraded (R173 to R177, R320). -/

namespace Sys2Proof.Machine

open Sys2Proof.Fields

/-! ### Signed fields -/

theorem ofSigned_lt (n : Nat) (i : Int) : ofSigned n i < 2 ^ n := by
  have hpos : (0 : Int) < (2 ^ n : Nat) := by exact_mod_cast Nat.two_pow_pos n
  have hlt := Int.emod_lt_of_pos i hpos
  have hnonneg := Int.emod_nonneg i hpos.ne'
  rw [ofSigned]
  omega

/-- A value within 32 bits reads back from its encoding. -/
theorem toSigned_ofSigned (i : Int) (h : -2147483648 ≤ i) (h' : i ≤ 2147483647) : toSigned 32 (ofSigned 32 i) = i := by
  have hval : ofSigned 32 i % 2 ^ 32 = ofSigned 32 i := Nat.mod_eq_of_lt (ofSigned_lt 32 i)
  have hmod : (ofSigned 32 i : Int) = i % 4294967296 := Int.toNat_of_nonneg (Int.emod_nonneg i (by decide))
  rw [toSigned, hval]
  by_cases hneg : ofSigned 32 i < 2 ^ (32 - 1)
  · rw [if_pos hneg]
    omega
  · rw [if_neg hneg]
    omega

theorem satSigned_range (i : Int) : -2147483648 ≤ satSigned 32 i ∧ satSigned 32 i ≤ 2147483647 := by
  unfold satSigned
  split
  · decide
  · split
    · decide
    · omega

theorem satSigned_within (i : Int) (h : -2147483648 ≤ i) (h' : i ≤ 2147483647) : satSigned 32 i = i := by
  rw [satSigned, if_neg (by omega), if_neg (by omega)]

/-- A signed field of 32 bits shows the value set, held at the ends of its range. -/
theorem State.fldInt_setInt_sat (s : State) (f : Fld) (i : Int) (hlo : f.lo = 0) (hlen : f.len = 32) :
    (s.setInt f (satSigned 32 i)).fldInt f = satSigned 32 i := by
  obtain ⟨hmin, hmax⟩ := satSigned_range i
  rw [State.fldInt, State.setInt, State.fld_setFld_same _ _ _ (by omega), hlen, Nat.mod_eq_of_lt (ofSigned_lt 32 _)]
  exact toSigned_ofSigned _ hmin hmax

/-! ### PPS_IN (R173) -/

/-- A wake source does nothing to a device that is awake and not on its way to DORMANT (R72). -/
theorem State.wakeFire_awake (s : State) (codes : List Nat) (htrans : s.sys.trans = .none) (hmode : s.mode ≠ modeDormant) :
    s.wakeFire codes = s := by
  unfold State.wakeFire
  rw [htrans]
  split
  · rfl
  next h => cases h
  · exact if_neg hmode

/-- With the third good interval in a row PPS_IN becomes healthy, and its offset is a time update. -/
theorem State.ppsEdge_third (s : State) (ps p : Nat) (hhealth : s.trefHealthy 3 = false) (hknown : s.tim.secKnown = true)
    (hlast : s.tim.ppsLast = some p) (hgood : 2 ≤ s.tim.ppsGood)
    (hnear : ((ps / 50 * 50 : Nat) - (p : Int) - 1000000000000).natAbs ≤ s.fld TIM_PPSCFG_PPSWIN * 50000) :
    ∃ x : Tim, x.ppsLast = some (ps / 50 * 50)
      ∧ s.ppsEdge ps = (({ s with tim := x } : State).setTref 3 true).timeUpdate ⟨3, ppsOffset (ps / 50 * 50), none⟩ := by
  have hthird : (decide (3 ≤ s.tim.ppsGood + 1) && s.tim.secKnown) = true := by simp [hknown]; omega
  have hnow (x : Tim) : ({ s with tim := x } : State).trefHealthy 3 = false := hhealth
  have hthen (x : Tim) : (({ s with tim := x } : State).setTref 3 true).trefHealthy 3 = true :=
    (State.setTref_effect _ 3 true (Nat.le_refl 3)).1
  refine ⟨{ s.tim with ppsLast := some (ps / 50 * 50), ppsGood := s.tim.ppsGood + 1, ppsBad := 0 }, rfl, ?_⟩
  simp only [State.ppsEdge, hlast, hnear, decide_true, Bool.true_or, if_true, hnow, hthird, hthen, Bool.false_eq_true, if_false]

theorem State.mode_of_serving (s : State) (h : s.serving = true) : s.mode ≠ modeDormant := by
  intro hmode
  rw [State.serving, hmode] at h
  exact absurd h (by decide)

/-! ### PTP (R320) -/

/-- The words of a peer port that show its client are none of the discipline's. -/
theorem ptpFlds_undisciplined : ∀ p : Fin 2, ∀ f ∈ [PLK_PSTAT_LOCKED p, PLK_PSTAT_PTPSTATE p, PLK_POFS_OFS p],
    undisciplined f ∧ bitsApart (trefFld 2) f := by
  decide

/-- A port's client shows whether it is locked, and beside that bit the discipline and PTP's health alone change. -/
theorem State.ptpLock_effect (s : State) (p : Fin 2) (ok : Bool) :
    (s.ptpLock p ok).fld (PLK_PSTAT_LOCKED p) = (if ok then 1 else 0)
    ∧ ∀ g : Fld, undisciplined g → bitsApart (trefFld 2) g → bitsApart (PLK_PSTAT_LOCKED p) g → (s.ptpLock p ok).fld g = s.fld g := by
  have hlen : (PLK_PSTAT_LOCKED p).lo + (PLK_PSTAT_LOCKED p).len ≤ 32 := (by decide : (16 : Nat) + 1 ≤ 32)
  have hbit : s.fld (PLK_PSTAT_LOCKED p) < 2 := getFld_lt _ _
  generalize hu : (if s.isSet (PLK_PSTAT_LOCKED p) = ok then s
    else (s.setBit (PLK_PSTAT_LOCKED p) ok).raise (if ok then 189 else 190)) = u
  have hfld : u.fld (PLK_PSTAT_LOCKED p) = (if ok then 1 else 0)
      ∧ ∀ g : Fld, undisciplined g → bitsApart (PLK_PSTAT_LOCKED p) g → u.fld g = s.fld g := by
    rw [← hu]
    split
    next h =>
      refine ⟨?_, fun _ _ _ => rfl⟩
      rw [← h, State.isSet]
      generalize s.fld (PLK_PSTAT_LOCKED p) = n at hbit
      obtain rfl | rfl : n = 0 ∨ n = 1 := by omega
      · rfl
      · rfl
    · refine ⟨?_, fun g hg hapart => (State.fld_raise_low _ _ _ _ hg.1).trans (s.fld_setFld_keeps _ _ _ hlen hapart)⟩
      rw [State.fld_raise_low _ _ _ _ (ptpFlds_undisciplined p _ (by simp)).1.1, State.setBit, State.fld_setFld_same _ _ _ hlen]
      cases ok <;> rfl
  have hlock : s.ptpLock p ok = if u.fld TIM_TREFCFG_PTPPORT = p then u.setTref 2 ok else u := by rw [← hu]; rfl
  have hkept : ∀ g : Fld, undisciplined g → bitsApart (trefFld 2) g → (s.ptpLock p ok).fld g = u.fld g := by
    intro g hg hapart
    rw [hlock]
    split
    · exact (u.setTref_effect 2 ok (by decide)).2.1 g hg hapart
    · rfl
  obtain ⟨hundis, htref⟩ := ptpFlds_undisciplined p (PLK_PSTAT_LOCKED p) (by simp)
  exact ⟨(hkept _ hundis htref).trans hfld.1, fun g hg htref hapart => (hkept g hg htref).trans (hfld.2 g hg hapart)⟩

/-- A port in SLAVE shows its state and an offset, and counts the offset as good. -/
def State.ptpGood (s : State) (p : Nat) (x : Int) : State :=
  ((s.setFld (PLK_PSTAT_PTPSTATE p) 4).setInt (PLK_POFS_OFS p) (satSigned 32 x)).setPtpPort p ⟨(s.ptpPort p).good + 1, some s.tim.ts⟩

/-- The fourth offset in a row within 1 µs locks the port, and the offset is a time update where TIM follows the port. -/
theorem State.ptpMessage_locks (s : State) (p : Nat) (x : Int) (f : Option Int) (hlive : s.live (0x11 + p) = true)
    (hlink : s.isSet (PLK_PSTAT_LINK p) = true) (hrole : 2 ≤ s.fld (PLK_PCFG_PTPROLE p)) (hx : x.natAbs ≤ 1000000)
    (hgood : 3 ≤ (s.ptpPort p).good) :
    s.ptpMessage p 4 (some x) f =
      (if ((s.ptpGood p x).ptpLock p true).fld TIM_TREFCFG_PTPPORT = p then ((s.ptpGood p x).ptpLock p true).timeUpdate ⟨2, x, f⟩
       else (s.ptpGood p x).ptpLock p true) := by
  have hclient : s.fld (PLK_PCFG_PTPROLE p) ≠ 0 ∧ s.fld (PLK_PCFG_PTPROLE p) ≠ 1 := by omega
  obtain ⟨hon, hmaster⟩ := hclient
  have hport (v : Nat) : (s.setFld (PLK_PSTAT_PTPSTATE p) v).ptpPort p = s.ptpPort p := rfl
  have hfourth : 4 ≤ (s.ptpPort p).good + 1 := by omega
  simp only [State.ptpMessage, hlive, hlink, Bool.and_self, Bool.not_true, hon, hmaster, if_false,
    Nat.reduceEqDiff, and_false, ne_eq, not_true_eq_false, hx, if_true, hport, hfourth, State.setFld_tim]
  rfl

theorem State.fld_setPtpPort (s : State) (p : Nat) (x : PtpPort) (f : Fld) : (s.setPtpPort p x).fld f = s.fld f := rfl

theorem State.fld_ptpGood_state (s : State) (p : Nat) (x : Int) : (s.ptpGood p x).fld (PLK_PSTAT_PTPSTATE p) = 4 := by
  have hword : (PLK_PSTAT_PTPSTATE p).addr ≠ (PLK_POFS_OFS p).addr := by
    simp only [PLK_POFS_OFS, PLK_PSTAT_PTPSTATE, PLK_POFS, PLK_PSTAT]; omega
  rw [State.ptpGood, State.fld_setPtpPort, State.setInt, State.fld_setFld_other_word _ _ _ _ hword,
    s.fld_setFld_same (PLK_PSTAT_PTPSTATE p) 4 (by decide : (20 : Nat) + 4 ≤ 32)]
  rfl

theorem State.fldInt_ptpGood (s : State) (p : Nat) (x : Int) (hx : x.natAbs ≤ 1000000) :
    (s.ptpGood p x).fldInt (PLK_POFS_OFS p) = x := by
  rw [State.ptpGood, State.fldInt, State.fld_setPtpPort, ← State.fldInt, State.fldInt_setInt_sat _ (PLK_POFS_OFS p) x rfl rfl]
  exact satSigned_within x (by omega) (by omega)

/-- The words of the port after such a message. -/
theorem State.ptpMessage_shows (s : State) (p : Fin 2) (x : Int) (f : Option Int) (hlive : s.live (0x11 + p) = true)
    (hlink : s.isSet (PLK_PSTAT_LINK p) = true) (hrole : 2 ≤ s.fld (PLK_PCFG_PTPROLE p)) (hx : x.natAbs ≤ 1000000)
    (hgood : 3 ≤ (s.ptpPort p).good) :
    (s.ptpMessage p 4 (some x) f).fld (PLK_PSTAT_LOCKED p) = 1 ∧ (s.ptpMessage p 4 (some x) f).fld (PLK_PSTAT_PTPSTATE p) = 4
    ∧ (s.ptpMessage p 4 (some x) f).fldInt (PLK_POFS_OFS p) = x := by
  obtain ⟨hlocked, hrest⟩ := (s.ptpGood p x).ptpLock_effect p true
  have hflds := ptpFlds_undisciplined p
  obtain ⟨hLocked, -⟩ := hflds (PLK_PSTAT_LOCKED p) (by simp)
  obtain ⟨hState, hStateApart⟩ := hflds (PLK_PSTAT_PTPSTATE p) (by simp)
  obtain ⟨hOfs, hOfsApart⟩ := hflds (PLK_POFS_OFS p) (by simp)
  have hword : (PLK_POFS_OFS p).addr ≠ (PLK_PSTAT_LOCKED p).addr := by
    simp only [PLK_POFS_OFS, PLK_PSTAT_LOCKED, PLK_POFS, PLK_PSTAT]; omega
  have hmessage (g : Fld) (hg : undisciplined g) :
      (s.ptpMessage p 4 (some x) f).fld g = ((s.ptpGood p x).ptpLock p true).fld g := by
    rw [s.ptpMessage_locks p x f hlive hlink hrole hx hgood]
    split
    · exact (State.timeUpdate_effect _ _).1 g hg
    · rfl
  refine ⟨(hmessage _ hLocked).trans hlocked, ?_, ?_⟩
  · rw [hmessage _ hState, hrest _ hState hStateApart (.inr (.inl (by decide : (16 : Nat) + 1 ≤ 20)))]
    exact s.fld_ptpGood_state p x
  · rw [State.fldInt, hmessage _ hOfs, hrest _ hOfs hOfsApart (.inl hword)]
    exact s.fldInt_ptpGood p x hx

/-! ### DEGRADED (R177) -/

theorem State.isSet_setBit (s : State) (f : Fld) (b : Bool) (hf : f.lo + f.len ≤ 32) (hlen : f.len = 1) :
    (s.setBit f b).isSet f = b := by
  rw [State.isSet, State.setBit, State.fld_setFld_same _ _ _ hf, hlen]
  cases b <;> rfl

theorem State.isSet_refreshDegraded (s : State) :
    s.refreshDegraded.isSet TIM_STAT_DEGRADED = (s.tim.degJump || s.tim.degFault || s.mode == modeHoldover) := by
  unfold State.refreshDegraded
  dsimp only
  split
  next h => exact h
  · rw [State.isSet, State.fld_raise_low _ _ _ _ (by decide)]
    exact s.isSet_setBit TIM_STAT_DEGRADED _ (by decide) rfl

/-- Settles O22, reference by reference. -/
theorem timeReferences : Obligations.TimeReferences := by
  unfold Obligations.TimeReferences
  refine fun s => ⟨fun ps p hserving htrans hhealth hknown hlast hgood hnear => ?_, ?_, fun hnap hawait => ?_,
    fun p x f hlive hlink hrole hx hgood => ?_, fun p => ?_, fun hx => ?_⟩
  · obtain ⟨x, hx, hedge⟩ := s.ppsEdge_third ps p hhealth hknown hlast hgood hnear
    obtain ⟨hhealthy, hkept, hpps, htrans'⟩ := State.setTref_effect { s with tim := x } 3 true (Nat.le_refl 3)
    generalize State.setTref { s with tim := x } 3 true = u at hedge hhealthy hkept hpps htrans'
    obtain ⟨hupd, hupdpps, hupdtrans⟩ := u.timeUpdate_effect ⟨3, ppsOffset (ps / 50 * 50), none⟩
    rw [← hedge] at hupd hupdpps hupdtrans
    have hcounts := (s.ppsEdge ps).counts_ticSource 2 ps
    have hawake : ((s.ppsEdge ps).ticSource 2 ps).mode ≠ modeDormant := by
      rw [State.mode, hcounts.fld _ (by decide) (by decide), hupd _ (by decide), hkept _ (by decide) (by decide)]
      exact s.mode_of_serving hserving
    have hstays : ((s.ppsEdge ps).ticSource 2 ps).sys.trans = .none := by
      rw [hcounts.sys, hupdtrans, htrans']; exact htrans
    have hexec : exec (.ppsInEdge ps) s = .next ((s.ppsEdge ps).ticSource 2 ps) :=
      congrArg Host.Outcome.next (State.wakeFire_awake _ [4] hstays hawake)
    refine ⟨_, hexec, ?_, ?_⟩
    · rw [State.trefHealthy, hcounts.fld _ (by decide) (by decide), hupd _ (by decide)]
      exact hhealthy
    · exact (congrArg Tim.ppsLast hcounts.tim).trans (hupdpps.trans (hpps.trans hx))
  · obtain ⟨hhealth, -, hpps, -⟩ := State.setTref_effect
      { s with tim := { s.tim with ppsLast := none, ppsGood := 0, ppsBad := 0 } } 3 false (Nat.le_refl 3)
    exact ⟨_, rfl, hhealth, hpps⟩
  · have hexpire : s.gnssExpire = s.setTref 1 false := by simp [State.gnssExpire, hnap, hawait]
    exact ⟨_, congrArg Host.Outcome.next hexpire, (s.setTref_effect 1 false (by decide)).1⟩
  · exact ⟨_, rfl, s.ptpMessage_shows p x f hlive hlink hrole hx hgood⟩
  · exact ⟨_, rfl, (State.ptpLock_effect _ p false).1⟩
  · refine ⟨_, congrArg Host.Outcome.next (if_pos hx), ?_, State.isSet_refreshDegraded _⟩
    rw [State.refreshDegraded_tim]

end Sys2Proof.Machine

/-! Frequency references: their states, the switch between them, the monitor's second, and the marks of the oscillator models (R168 to
R172, R178). -/

namespace Sys2Proof.Machine

open Sys2Proof.Fields Sys2Proof.Laws

/-! ### The state of a frequency reference (R170) -/

theorem frefFld_fits (r : Nat) (hr : r < 3) : (frefFld r).lo + (frefFld r).len ≤ 32 := by
  simp only [frefFld]; omega

theorem frefFld_apart (r j : Nat) (h : j ≠ r) : bitsApart (frefFld j) (frefFld r) := by
  simp only [bitsApart, frefFld]; omega

theorem State.fref_setFref_same (s : State) (r : Nat) (x : FRef) : (s.setFref r x).fref r = x :=
  tabGet_set_same FRef.cold r x s.tim.frefs

theorem State.frefPresent_iff (s : State) (r : Nat) : s.frefPresent r = true ↔ s.frefState r ≠ 0 ∧ s.frefState r ≠ 1 := by
  simp [State.frefPresent, stAbsent]

/-- `t` follows from `s` by steps of the discipline and changes of references' models: of the fields the discipline's alone change. -/
def State.Learns (s t : State) : Prop := ∀ g : Fld, undisciplined g → t.fld g = s.fld g

theorem State.Learns.trans {s t u : State} (h : s.Learns t) (h' : t.Learns u) : s.Learns u :=
  fun g hg => (h' g hg).trans (h g hg)

theorem State.learns_of_regs {s t : State} (h : t.regs = s.regs) : s.Learns t :=
  fun g _ => State.fld_of_get g (State.get_of_regs h g.addr)

theorem State.learns_ite {c : Prop} [Decidable c] {s t u : State} (ht : s.Learns t) (hu : s.Learns u) : s.Learns (if c then t else u) := by
  split
  · exact ht
  · exact hu

/-- A change of state beside the field that shows it. -/
theorem State.setFrefState_changes (s : State) (r st : Nat) (h : s.frefState r ≠ st) :
    (s.setFld (frefFld r) st).Learns (s.setFrefState r st) := by
  have hraise (t : State) (id : Nat) : t.Learns (t.raise id) := (t.disciplines_raise id 0).fld
  have hmodel (t : State) (x : FRef) : t.Learns (t.setFref r x) := State.learns_of_regs rfl
  have hsame (t : State) : t.Learns t := fun _ _ => rfl
  have hwake (t : State) : t.Learns t.wakeRequest := t.disciplines_wakeRequest.fld
  unfold State.setFrefState
  rw [if_neg h]
  refine State.Learns.trans ?_ (State.learns_ite (hwake _) (hsame _))
  refine State.Learns.trans ?_ (State.learns_ite (hraise _ 22) (State.learns_ite (hraise _ 23) (State.learns_ite (hraise _ 24) (hsame _))))
  refine State.Learns.trans ?_ (State.learns_ite (hmodel _ _) (hsame _))
  exact State.learns_ite (hmodel _ _) (hsame _)

/-- A frequency reference shows the state that it enters, and beside its own field the discipline alone sets any. -/
theorem State.setFrefState_effect (s : State) (r st : Nat) (hr : r < 3) (hst : st < 8) :
    (s.setFrefState r st).frefState r = st
    ∧ ∀ g : Fld, undisciplined g → bitsApart (frefFld r) g → (s.setFrefState r st).fld g = s.fld g := by
  have hlen := frefFld_fits r hr
  by_cases h : s.frefState r = st
  · rw [State.setFrefState, if_pos h]
    exact ⟨h, fun _ _ _ => rfl⟩
  · have hchange := s.setFrefState_changes r st h
    refine ⟨(hchange (frefFld r) (refstat_undisciplined _ _)).trans ?_,
      fun g hg hapart => (hchange g hg).trans (s.fld_setFld_keeps _ _ _ hlen hapart)⟩
    rw [s.fld_setFld_same (frefFld r) _ hlen]
    exact Nat.mod_eq_of_lt hst

/-- The model of a reference that becomes absent has learned nothing (R178). -/
theorem State.learned_of_absent (s : State) (r : Nat) (h : s.frefState r ≠ stAbsent) :
    ((s.setFrefState r stAbsent).fref r).learned = 0 := by
  have hkept (t u : State) (hd : t.Disciplines u) : u.fref r = t.fref r := congrArg (tabGet FRef.cold · r) hd.frefs
  unfold State.setFrefState
  rw [if_neg h]
  simp only [stAbsent, stFault, stQualifying, stWarning, Nat.reduceEqDiff, or_true, if_true, if_false, and_true]
  rw [hkept _ _ (State.disciplines_ite (State.disciplines_wakeRequest _) (.refl _)), hkept _ _ (State.disciplines_raise _ 24 0),
    State.fref_setFref_same]

/-- A reference that returns begins to qualify (R170). -/
theorem State.qual_of_qualifying (s : State) (r : Nat) (h : s.frefState r ≠ stQualifying) :
    ((s.setFrefState r stQualifying).fref r).qual = 0 := by
  rw [State.setFrefState_qualifying, if_neg h, State.fref_setFref_same]

/-! ### The switch (R168) -/

/-- The updates held during a switch are applied, and none is held any more. -/
theorem State.disciplines_updates (s : State) (us : List TimeUpd) : s.Disciplines (us.foldl (fun s u => s.applyUpdate u) s) := by
  induction us generalizing s with
  | nil => exact .refl s
  | cons u us ih => exact (s.disciplines_applyUpdate u).trans (ih _)

theorem State.switchDone_effect (s : State) (r : Nat) (h : s.tim.switchTo = some r) (hr : r < 3) :
    s.switchDone.selFref = r ∧ s.switchDone.tim.heldUpd = [] := by
  generalize hu : (s.setFld TIM_STAT_FREF r).raise 21 = u
  have hfref : u.fld TIM_STAT_FREF = r := by
    rw [← hu, State.fld_raise_low _ _ _ _ (by decide), s.fld_setFld_same TIM_STAT_FREF r (by decide)]
    exact Nat.mod_eq_of_lt (by simp only [TIM_STAT_FREF]; omega)
  generalize hv : ({ u with tim := { u.tim with switchTo := none, heldUpd := [] } } : State) = v
  have hdone : s.switchDone = (s.tim.heldUpd.foldl (fun s u => s.applyUpdate u) v.modelSteer).selectFref := by
    rw [State.switchDone, h, ← hv, ← hu]
  have hall := (v.disciplines_modelSteer.trans (State.disciplines_updates _ s.tim.heldUpd)).trans (State.disciplines_selectFref _)
  rw [← hdone] at hall
  refine ⟨(hall.fld TIM_STAT_FREF (by decide)).trans ?_, hall.heldUpd.trans ?_⟩
  · rw [← hv]; exact hfref
  · rw [← hv]

/-! ### A second of the monitor (R169 to R172) -/

/-- What a measurement makes of a reference: it stays in its state, where it may count, or enters one in which it is present. -/
inductive State.FrefMoves (s : State) (r : Nat) : State → Prop where
  | stays : State.FrefMoves s r s
  | counts (x : FRef) : State.FrefMoves s r (s.setFref r x)
  | enters (st : Nat) (h : 2 ≤ st ∧ st < 8) : State.FrefMoves s r (s.setFrefState r st)

theorem State.frefMoves_ite {c : Prop} [Decidable c] {s t u : State} {r : Nat} (ht : s.FrefMoves r t) (hu : s.FrefMoves r u) :
    s.FrefMoves r (if c then t else u) := by
  split
  · exact ht
  · exact hu

theorem State.moveFref_moves (s : State) (r : Nat) (d : Drift) : s.FrefMoves r (s.moveFref r d) := by
  have henter (st : Nat) (h : 2 ≤ st ∧ st < 8) : s.FrefMoves r (s.setFrefState r st) := .enters st h
  have hqualifying : s.FrefMoves r (s.setFrefState r stQualifying) := henter _ (by decide)
  have hhealthy : s.FrefMoves r (s.setFrefState r stHealthy) := henter _ (by decide)
  have hwarning : s.FrefMoves r (s.setFrefState r stWarning) := henter _ (by decide)
  have hfault : s.FrefMoves r (s.setFrefState r stFault) := henter _ (by decide)
  have hcounts (x : FRef) : s.FrefMoves r (s.setFref r x) := .counts x
  unfold State.moveFref
  refine State.frefMoves_ite (State.frefMoves_ite .stays hqualifying) (State.frefMoves_ite hfault (State.frefMoves_ite ?_ ?_))
  · exact State.frefMoves_ite (hcounts _) (State.frefMoves_ite hhealthy (hcounts _))
  · exact State.frefMoves_ite (State.frefMoves_ite hwarning .stays) (State.frefMoves_ite (State.frefMoves_ite .stays hhealthy)
      (State.frefMoves_ite hwarning hhealthy))

/-- A present reference stays present, and beside its state the discipline alone sets a field. -/
theorem State.FrefMoves.effect {s t : State} {r : Nat} (h : s.FrefMoves r t) (hr : r < 3) (hpresent : s.frefPresent r = true) :
    t.frefPresent r = true ∧ ∀ g : Fld, undisciplined g → bitsApart (frefFld r) g → t.fld g = s.fld g := by
  cases h with
  | stays => exact ⟨hpresent, fun _ _ _ => rfl⟩
  | counts x => exact ⟨hpresent, fun _ _ _ => rfl⟩
  | enters st hst =>
    obtain ⟨hstate, hrest⟩ := s.setFrefState_effect r st hr hst.2
    refine ⟨(State.frefPresent_iff _ r).mpr ?_, hrest⟩
    omega

/-- The words of measured offsets are none of the discipline's, nor those of the references' states. -/
theorem refyFlds_undisciplined : ∀ r : Fin 3, undisciplined (TIM_REFY_Y r) ∧ ∀ j : Fin 3, bitsApart (frefFld j) (TIM_REFY_Y r)
    ∧ bitsApart (TIM_REFY_Y j) (frefFld r) ∧ (j ≠ r → bitsApart (TIM_REFY_Y j) (TIM_REFY_Y r)) := by
  decide

/-- What the monitor shows of a reference: whether it is present, and the offset measured. -/
def State.measured (s : State) (r : Nat) : Bool × Nat := (s.frefPresent r, s.fld (TIM_REFY_Y r))

theorem State.measured_of_fld {s t : State} (r : Nat) (hstate : t.fld (frefFld r) = s.fld (frefFld r))
    (hy : t.fld (TIM_REFY_Y r) = s.fld (TIM_REFY_Y r)) : t.measured r = s.measured r := by
  simp only [State.measured, State.frefPresent, State.frefState, hstate, hy]

/-- The offset that a second shows of a reference. -/
def shownOffset (x : RefMeas) (present : Bool) : Nat := if present then ofSigned 32 (satSigned 32 x.y) else 0x80000000

/-- A measurement sets a reference's own offset and state, and beside them the discipline alone sets a field. -/
theorem State.measureFref_effect (s : State) (m : Nat → RefMeas) (r : Fin 3) :
    (s.measureFref m r).measured r = (s.frefPresent r, shownOffset (m r) (s.frefPresent r))
    ∧ ∀ g : Fld, undisciplined g → bitsApart (frefFld r) g → bitsApart (TIM_REFY_Y r) g → (s.measureFref m r).fld g = s.fld g := by
  obtain ⟨hundis, hapart⟩ := refyFlds_undisciplined r
  obtain ⟨hstateY, hYstate, -⟩ := hapart r
  have hlen : (TIM_REFY_Y r).lo + (TIM_REFY_Y r).len ≤ 32 := Nat.le_refl 32
  have hstate (v : Nat) : (s.setFld (TIM_REFY_Y r) v).frefPresent r = s.frefPresent r := by
    simp only [State.frefPresent, State.frefState, s.fld_setFld_keeps _ _ v hlen hYstate]
  unfold State.measureFref
  cases hp : s.frefPresent r with
  | false =>
    refine ⟨?_, fun g _ _ hg => s.fld_setFld_keeps _ _ _ hlen hg⟩
    rw [Bool.not_false, if_pos rfl, State.measured, hstate, hp, s.fld_setFld_same _ _ hlen]
    rfl
  | true =>
    rw [Bool.not_true, if_neg Bool.false_ne_true]
    obtain ⟨hstays, hrest⟩ := (State.moveFref_moves (s.setInt (TIM_REFY_Y r) (satSigned 32 (m r).y)) r (s.drift r)).effect r.isLt
      ((hstate _).trans hp)
    refine ⟨?_, fun g hg hfref hy => (hrest g hg hfref).trans (s.fld_setFld_keeps _ _ _ hlen hy)⟩
    rw [State.measured, hstays, hrest _ hundis hstateY, State.setInt, s.fld_setFld_same _ _ hlen]
    exact congrArg (Prod.mk true) (Nat.mod_eq_of_lt (ofSigned_lt 32 _))

/-- In a fold over different keys, what one key's step alone changes is as that step leaves it. -/
theorem foldl_of_own_step {α β γ : Type} (g : β → γ) (φ : γ → γ) (f : β → α → β) (k : α) (l : List α) (hl : l.Nodup) (hk : k ∈ l)
    (hown : ∀ b, g (f b k) = φ (g b)) (hother : ∀ j ∈ l, j ≠ k → ∀ b, g (f b j) = g b) (b : β) : g (l.foldl f b) = φ (g b) := by
  induction l generalizing b with
  | nil => cases hk
  | cons j l ih =>
    obtain ⟨hj, hl⟩ := List.nodup_cons.mp hl
    obtain ⟨hfirst, hrest⟩ := List.forall_mem_cons.mp hother
    rw [List.foldl_cons]
    by_cases hjk : j = k
    · subst hjk
      rw [foldl_keeps g f l _ (fun i hi => hrest i hi (fun e => hj (e ▸ hi))), hown]
    · rw [ih hl ((List.mem_cons.mp hk).resolve_left (Ne.symm hjk)) hrest, hfirst hjk]

theorem mem_frefs (r : Fin 3) : r.val ∈ [0, 1, 2] := by revert r; decide

theorem lt_of_mem_frefs {r : Nat} (h : r ∈ [0, 1, 2]) : r < 3 := by
  simp only [List.mem_cons, List.not_mem_nil, or_false] at h; omega

/-- The three references are measured, each in its own step. -/
theorem State.measureAll_effect (s : State) (m : Nat → RefMeas) (r : Fin 3) :
    ([0, 1, 2].foldl (fun s r => s.measureFref m r) s).measured r = (s.frefPresent r, shownOffset (m r) (s.frefPresent r)) := by
  refine foldl_of_own_step (State.measured · r) (fun x => (x.1, shownOffset (m r) x.1)) _ r.val [0, 1, 2] (by decide)
    (mem_frefs r) (fun t => (t.measureFref_effect m r).1) (fun j hj hne t => ?_) s
  have hj3 := lt_of_mem_frefs hj
  obtain ⟨-, hrest⟩ := t.measureFref_effect m ⟨j, hj3⟩
  obtain ⟨hundis, hapart⟩ := refyFlds_undisciplined r
  obtain ⟨hstateY, hYstate, hY⟩ := hapart ⟨j, hj3⟩
  exact State.measured_of_fld r (hrest _ (refstat_undisciplined _ _) (frefFld_apart r j hne) hYstate)
    (hrest _ hundis hstateY (hY (fun e => hne (congrArg Fin.val e))))

/-- A present reference with a rate error is in fault (R169). -/
def State.faultRate (s : State) (m : Nat → RefMeas) (r : Nat) : State :=
  if s.frefPresent r && (m r).rate then s.setFrefState r stFault else s

theorem State.faultRates_eq (s : State) (m : Nat → RefMeas) : s.faultRates m = [0, 1, 2].foldl (fun s r => s.faultRate m r) s := rfl

theorem State.faultRate_effect (s : State) (m : Nat → RefMeas) (r : Nat) (hr : r < 3) :
    (s.faultRate m r).frefState r = (if s.frefState r != 0 && s.frefState r != stAbsent && (m r).rate then stFault else s.frefState r)
    ∧ ∀ g : Fld, undisciplined g → bitsApart (frefFld r) g → (s.faultRate m r).fld g = s.fld g := by
  obtain ⟨hfault, hrest⟩ := s.setFrefState_effect r stFault hr (by decide)
  unfold State.faultRate
  split
  next h => exact ⟨hfault.trans (if_pos h).symm, hrest⟩
  next h => exact ⟨(if_neg h).symm, fun _ _ _ => rfl⟩

/-- Of the references those with a rate error are faulted, and beside their states the discipline alone sets a field. -/
theorem State.faultRates_effect (s : State) (m : Nat → RefMeas) :
    (∀ r : Fin 3, s.frefPresent r = true → (m r).rate = true → (s.faultRates m).frefState r = stFault)
    ∧ ∀ g : Fld, undisciplined g → (∀ r : Fin 3, bitsApart (frefFld r) g) → (s.faultRates m).fld g = s.fld g := by
  rw [s.faultRates_eq m]
  refine ⟨fun r hp hrate => ?_, fun g hg hapart => ?_⟩
  · have hfold := foldl_of_own_step (State.frefState · r) (fun x => if x != 0 && x != stAbsent && (m r).rate then stFault else x)
      (fun s r => s.faultRate m r) r.val [0, 1, 2] (by decide) (mem_frefs r)
      (fun t => (t.faultRate_effect m r r.isLt).1)
      (fun j hj hne t => (t.faultRate_effect m j (lt_of_mem_frefs hj)).2 _ (refstat_undisciplined _ _) (frefFld_apart r j hne)) s
    exact hfold.trans (if_pos (by rw [hrate, Bool.and_true]; exact hp))
  · exact foldl_keeps (State.fld · g) _ _ s (fun j hj t => (t.faultRate_effect m j (lt_of_mem_frefs hj)).2 g hg (hapart ⟨j, lt_of_mem_frefs hj⟩))

/-- The work that ends a second of the monitor sets the discipline's fields alone. -/
theorem State.learns_learnSecond (s : State) : s.Learns s.learnSecond :=
  State.learns_ite (State.learns_of_regs rfl) (fun _ _ => rfl)

theorem State.learns_holdSecond (s : State) : s.Learns s.holdSecond := by
  have hsame (t : State) : t.Learns t := fun _ _ => rfl
  have hfree (t : State) : t.Learns t.fresh.2 := State.learns_of_regs rfl
  have herr (t : State) (n : Nat) : t.Learns (t.setFld TIM_HOLDERR_ERR n) := (t.disciplines_setFld _ n (by decide)).fld
  have hraise (t : State) (x : Tim) : t.Learns (({ t with tim := x } : State).raise 30) := (State.disciplines_raise { t with tim := x } 30 0).fld
  have hwake (t : State) : t.Learns t.wakeRequest := t.disciplines_wakeRequest.fld
  unfold State.holdSecond
  refine State.learns_ite (hsame s) ?_
  refine State.Learns.trans (State.Learns.trans ?_ (State.learns_ite (hraise _ _) (hsame _))) (State.learns_ite (hwake _) (hsame _))
  exact (State.Learns.trans s.disciplines_modelSteer.fld (hfree _)).trans (herr _ _)

/-- With GNSS healthy each reference is measured against it (R169): MONBLIND is 0, and the second's measurements are noted. -/
theorem State.monitorSecond_healthy (s : State) (m : Nat → RefMeas) (h : s.trefHealthy 1 = true) :
    ∃ u : State, u.regs = (s.setBit TIM_STAT_MONBLIND false).regs
      ∧ s.monitorSecond m = (([0, 1, 2].foldl (fun s r => s.measureFref m r) u).faultRates m).selectFref.learnSecond.holdSecond := by
  refine ⟨[0, 1, 2].foldl (fun s r => s.pushY r (if s.frefPresent r && !false then some ((m r).y, true) else none))
    (s.setBit TIM_STAT_MONBLIND false), foldl_keeps State.regs _ _ _ (fun _ _ _ => rfl), ?_⟩
  simp only [State.monitorSecond, h, Bool.not_true, Bool.false_and, if_true]

theorem State.monitorSecond_effect (s : State) (m : Nat → RefMeas) (h : s.trefHealthy 1 = true) :
    (s.monitorSecond m).fld TIM_STAT_MONBLIND = 0 ∧ ∀ r : Fin 3,
      (s.monitorSecond m).fld (TIM_REFY_Y r) = shownOffset (m r) (s.frefPresent r)
      ∧ (s.frefPresent r = true → (m r).rate = true → (s.monitorSecond m).frefState r = stFault) := by
  obtain ⟨u, hregs, hmonitor⟩ := s.monitorSecond_healthy m h
  have hu (g : Fld) : u.fld g = (s.setBit TIM_STAT_MONBLIND false).fld g := State.fld_of_get g (State.get_of_regs hregs g.addr)
  generalize hv : [0, 1, 2].foldl (fun s r => s.measureFref m r) u = v at hmonitor
  obtain ⟨hfault, hrest⟩ := v.faultRates_effect m
  have hend (g : Fld) (hg : undisciplined g) : (s.monitorSecond m).fld g = (v.faultRates m).fld g := by
    rw [hmonitor]
    exact ((State.Learns.trans (State.disciplines_selectFref _).fld (State.learns_learnSecond _)).trans (State.learns_holdSecond _)) g hg
  have hpresent (r : Fin 3) : u.frefPresent r = s.frefPresent r := by
    have hstate : u.fld (frefFld r) = s.fld (frefFld r) :=
      (hu _).trans (s.fld_setFld_other_word TIM_STAT_MONBLIND (frefFld r) _ (by decide : TIM_REFSTAT ≠ TIM_STAT))
    simp only [State.frefPresent, State.frefState, hstate]
  have hmeasured (r : Fin 3) : v.measured r = (s.frefPresent r, shownOffset (m r) (s.frefPresent r)) := by
    rw [← hv, u.measureAll_effect m r, hpresent]
  refine ⟨?_, fun r => ⟨?_, fun hp hrate => ?_⟩⟩
  · rw [hend _ (by decide), hrest _ (by decide) (by decide), ← hv,
      foldl_keeps (State.fld · TIM_STAT_MONBLIND) _ [0, 1, 2] u (fun r hr t => ?_), hu, State.setBit,
      s.fld_setFld_same TIM_STAT_MONBLIND _ (by decide)]
    · rfl
    · have hapart : ∀ r : Fin 3, bitsApart (frefFld r) TIM_STAT_MONBLIND ∧ bitsApart (TIM_REFY_Y r) TIM_STAT_MONBLIND := by decide
      obtain ⟨hfref, hy⟩ := hapart ⟨r, lt_of_mem_frefs hr⟩
      exact (t.measureFref_effect m ⟨r, lt_of_mem_frefs hr⟩).2 _ (by decide) hfref hy
  · obtain ⟨hundis, hapart⟩ := refyFlds_undisciplined r
    rw [hend _ hundis, hrest _ hundis (fun j => (hapart j).1)]
    exact congrArg Prod.snd (hmeasured r)
  · exact (hend _ (refstat_undisciplined _ _)).trans (hfault r ((congrArg Prod.fst (hmeasured r)).trans hp) hrate)

/-! ### The marks of the oscillator models (R178) -/

/-- The selected reference's model has learned for a given time. -/
def State.learnedFor (s : State) (n : Nat) : State := s.setFref s.selFref { s.fref s.selFref with learned := n }

theorem State.learnedFor_raise (s : State) (n id : Nat) (h : id ≠ 246) :
    (((s.learnedFor n).raise id).fref s.selFref).learned = n
    ∧ ((s.learnedFor n).raise id).fld (routeCount id) = min (s.fld (routeCount id) + 1) 0xFFFFFFFF := by
  refine ⟨?_, State.fld_routeCount_raise _ id 0 h⟩
  rw [State.fref, State.raise_tim]
  exact congrArg FRef.learned (s.fref_setFref_same s.selFref _)

/-- Settles O21, command by command. -/
theorem frequencyReferences : Obligations.FrequencyReferences := by
  unfold Obligations.FrequencyReferences
  refine fun s => ⟨fun r => ⟨fun hp => ?_, fun hp => ?_⟩, fun r hswitch hr => ⟨_, rfl, s.switchDone_effect r hswitch hr⟩,
    fun xo refa refb hgnss => ?_, fun hmode hvalid => ?_⟩
  · have hexec : exec (.refAbsent r) s = .next (s.setFrefState r stAbsent).selectFref := congrArg Host.Outcome.next (if_pos hp)
    have hselect := (s.setFrefState r stAbsent).disciplines_selectFref
    obtain ⟨-, hne⟩ := (s.frefPresent_iff r).mp hp
    refine ⟨_, hexec, (hselect.fld _ (refstat_undisciplined _ _)).trans (s.setFrefState_effect r stAbsent r.isLt (by decide)).1, ?_⟩
    rw [State.fref, hselect.frefs]
    exact s.learned_of_absent r hne
  · have hexec : exec (.refEdgesReturn r) s = .next (s.setFrefState r stQualifying).selectFref :=
      congrArg Host.Outcome.next (if_neg (Bool.eq_false_iff.mp hp))
    have hselect := (s.setFrefState r stQualifying).disciplines_selectFref
    have hne : s.frefState r ≠ stQualifying := by
      intro he
      rw [State.frefPresent, he] at hp
      exact absurd hp (by decide)
    refine ⟨_, hexec, (hselect.fld _ (refstat_undisciplined _ _)).trans (s.setFrefState_effect r stQualifying r.isLt (by decide)).1, ?_⟩
    rw [State.fref, hselect.frefs]
    exact s.qual_of_qualifying r hne
  · obtain ⟨hblind, hshown⟩ := s.monitorSecond_effect (fun r => if r = 0 then xo else if r = 1 then refa else refb) hgnss
    refine ⟨_, rfl, hblind, fun r => ?_⟩
    obtain ⟨hy, hfault⟩ := hshown r
    refine ⟨fun hp => ⟨?_, hfault hp⟩, fun hp => ?_⟩
    · obtain ⟨hmin, hmax⟩ := satSigned_range (if r.val = 0 then xo else if r.val = 1 then refa else refb).y
      rw [State.fldInt, hy, hp]
      exact toSigned_ofSigned _ hmin hmax
    · rw [hy, hp]; rfl
  · have hon : (decide (s.mode = modeService) && s.isSet TIM_STAT_TVALID) = true := by rw [decide_eq_true hmode, hvalid]; rfl
    refine ⟨fun hlt => ?_, fun hge hlt => ?_⟩
    · have hmark : s.modelMark = (s.learnedFor 3600).raise 28 := (if_pos hon).trans (if_pos hlt)
      exact ⟨_, congrArg Host.Outcome.next hmark, s.learnedFor_raise 3600 28 (by decide)⟩
    · have hmark : s.modelMark = (s.learnedFor 86400).raise 29 := (if_pos hon).trans ((if_neg (Nat.not_lt.mpr hge)).trans (if_pos hlt))
      exact ⟨_, congrArg Host.Outcome.next hmark, s.learnedFor_raise 86400 29 (by decide)⟩

end Sys2Proof.Machine

/-! Words that are written while the device has latched a bit of them in the same tick (R5): delays of time pulses, and entries of the
leap-second table. -/

namespace Sys2Proof.Machine

open Sys2Proof.Fields

/-! ### Where no bit is latched, a write stores what the field types say (R5) -/

theorem State.storeWord_unlatched (s : State) (a : Nat) (v : Word) (hnotch : a < 0x20010 ∨ 0x200A0 ≤ a)
    (hcore : a < 0x200000 ∨ 0x300000 ≤ a) (hn : s.setNow a = 0#32) : s.storeWord a v = s.put a (mergeWord a (s.get a) v) := by
  simp only [State.storeWord, hn, BitVec.and_zero, BitVec.or_zero]
  rw [if_neg (fun h => by omega), if_neg (fun h => by omega)]

/-- A word that is one field of 32 bits is that field. -/
theorem putFld_whole (a : Nat) (w v : Word) : putFld w ⟨a, 0, 32⟩ (getFld v ⟨a, 0, 32⟩) = v := by
  refine BitVec.eq_of_getLsbD_eq (fun i hi => ?_)
  rw [getLsbD_putFld w ⟨a, 0, 32⟩ _ i (Nat.le_refl 32), if_pos ⟨Nat.zero_le i, by simpa using hi⟩, getFld, BitVec.testBit_toNat,
    BitVec.getLsbD_extractLsb']
  simp [hi]

/-! ### TP_DLYA_WRITE (R184) -/

theorem mergeWord_tpdlya (n : Fin 2) (old v : Word) : mergeWord (TIM_TPDLYA n) old v = v :=
  match n with
  | 0 => putFld_whole _ old v
  | 1 => putFld_whole _ old v

/-- A write of the first delay register stores it and does no more. -/
theorem State.applyWrite_tpdlya (s : State) (src : BusSrc) (n : Fin 2) (v : Word) :
    s.applyWrite src (TIM_TPDLYA n) v = s.storeWord (TIM_TPDLYA n) v :=
  match n with
  | 0 => rfl
  | 1 => rfl

/-- The effect that O19 states of TP_DLYA_WRITE, in every state in whose tick the device has latched no bit of the register. -/
theorem tpDlyaWrite_stores (s : State) (src : BusSrc) (n : Fin 2) (v : Word) (h : s.takes (TIM_TPDLYA n) v)
    (hn : s.setNow (TIM_TPDLYA n) = 0#32) :
    ∃ t, exec (.tpDlyaWrite src n v) s = .next t ∧ t.get (TIM_TPDLYA n) = v ∧ (∀ a, a ≠ TIM_TPDLYA n → t.get a = s.get a)
      ∧ t.tim = s.tim := by
  have hplace : TIM_TPDLYA n < 0x20000 ∧ TIM_TPDLYA n % 4 = 0 ∧ MGT_ASSAYCTL < TIM_TPDLYA n := by
    simp only [TIM_TPDLYA, MGT_ASSAYCTL]; omega
  obtain ⟨hlow, h4, hmgt⟩ := hplace
  have hother : TIM_TPDLYA n ≠ MGT_MODEREQ ∧ TIM_TPDLYA n ≠ MGT_CASTCTL ∧ TIM_TPDLYA n ≠ MGT_FRESET ∧ TIM_TPDLYA n ≠ MGT_ASSAYCTL := by
    simp only [TIM_TPDLYA, MGT_MODEREQ, MGT_CASTCTL, MGT_FRESET, MGT_ASSAYCTL]; omega
  have hwrite : s.write src (TIM_TPDLYA n) v = (s.put (TIM_TPDLYA n) v).markDirty (TIM_TPDLYA n) := by
    rw [s.write_taken src _ v h4 h, State.mgtWrite_other _ _ _ _ hother, s.applyWrite_tpdlya,
      s.storeWord_unlatched _ v (.inl (by omega)) (.inl (by omega)) hn, mergeWord_tpdlya]
  refine ⟨_, congrArg Host.Outcome.next hwrite, ?_, fun a ha => ?_, State.markDirty_tim _ _⟩
  · rw [State.get_markDirty, State.get_put_same]
  · rw [State.get_markDirty, State.get_put_other _ _ _ _ ha]

/-- The state after reset with the timebase running and time pulse 0 cast, in whose tick the device has latched bit 0 of the pulse's
first delay register. -/
def State.delayLatched : State :=
  State.latch { State.reset with
      sys := { State.reset.sys with phase := .running, cast := [1] }
      tim := { State.reset.tim with run := true } }
    ⟨TIM_TPDLYA 0, 0, 1⟩

theorem takes_delayLatched : State.delayLatched.takes (TIM_TPDLYA (0 : Fin 2)) 0 := by
  decide +kernel

/-- The latched bit outlives the 0 that is written over it. -/
theorem delay_of_write_delayLatched : (State.delayLatched.write .pcie (TIM_TPDLYA (0 : Fin 2)) 0).get (TIM_TPDLYA (0 : Fin 2)) = 1 := by
  decide +kernel

/-- Refutes O19 in its clause on TP_DLYA_WRITE, which speaks of every state, and so of one in whose tick the device has latched a bit of
the register: that bit stays set (R5). No operation of the model latches a bit there; where none is latched the effect holds, by
`tpDlyaWrite_stores`. -/
theorem not_timePulses : ¬ Obligations.TimePulses := by
  unfold Obligations.TimePulses
  intro h
  obtain ⟨-, -, -, hwrite, -⟩ := h State.delayLatched 0
  obtain ⟨t, hexec, hstored, -⟩ := hwrite .pcie 0 takes_delayLatched
  obtain rfl : State.delayLatched.write .pcie (TIM_TPDLYA (0 : Fin 2)) 0 = t := Host.Outcome.next.inj hexec
  rw [delay_of_write_delayLatched] at hstored
  exact absurd hstored (by decide)

end Sys2Proof.Machine

/-! The leap-second table (R164, R165): what a write of it changes. -/

namespace Sys2Proof.Machine

open Sys2Proof.Fields

theorem leapAddr_place (e : Fin 256) (w : Fin 4) : 0x460000 ≤ leapAddr e w ∧ leapAddr e w < 0x461000 ∧ leapAddr e w % 4 = 0 := by
  simp only [leapAddr]; omega

/-- The table has no register of the index, so a write stores the bits that its mask gives. -/
theorem mergeWord_leapAddr (e : Fin 256) (w : Fin 4) (old v : Word) :
    mergeWord (leapAddr e w) old v = (old &&& ~~~(tableMask (leapAddr e w))) ||| (v &&& tableMask (leapAddr e w)) := by
  obtain ⟨hlo, hhi, -⟩ := leapAddr_place e w
  have hregs : regsOf (leapAddr e w) = [] := by
    have hwindow : leapAddr e w / 0x10000 = 0x46 := by omega
    simp [regsOf, hwindow, show ¬ leapAddr e w < 0x300000 by omega]
  rw [mergeWord, regAt, hregs, List.find?_nil]

theorem State.holdGain_leapAddr (s : State) (e : Fin 256) (w : Fin 4) (v : Word) : s.holdGain (leapAddr e w) v = s := by
  obtain ⟨hlo, -⟩ := leapAddr_place e w
  have hchain : ¬ (leapAddr e w = GNF_CTL 0 ∨ leapAddr e w = GNF_CTL 1) := by simp only [GNF_CTL]; omega
  have hlane : ¬ leapAddr e w / 0x10000 < 9 := by omega
  simp only [State.holdGain, hchain, hlane, false_and, and_false, if_false]

/-- A write of the table stores the word, and PENDING is judged anew. -/
theorem State.applyWrite_leapAddr (s : State) (src : BusSrc) (e : Fin 256) (w : Fin 4) (v : Word) :
    s.applyWrite src (leapAddr e w) v = (s.storeWord (leapAddr e w) v).leapJudge := by
  obtain ⟨hlo, hhi, -⟩ := leapAddr_place e w
  rw [State.applyWrite, if_neg (by omega), if_neg (by omega), if_neg (by omega), if_neg (by omega), if_neg (by omega),
    State.plainWrite, s.holdGain_leapAddr, if_neg (by omega), if_neg (by omega), if_neg (by omega), if_neg (by omega), if_neg (by omega),
    if_pos (by omega)]

/-! ### PENDING is judged anew (R165) -/

theorem State.get_leapRaise (s : State) (e a : Nat) (h : quietAddr a) (hleap : a ≠ TIM_LEAP) (hctl : a ≠ BKP_CTL) :
    (s.leapRaise e).get a = s.get a := by
  unfold State.leapRaise
  split
  · exact s.get_setBit_other TIM_LEAP_NEG _ a hleap
  · rw [State.get_setBit_other _ BKP_CTL_LEAPNEG _ a hctl, State.get_setFld_other _ BKP_CTL_LEAPARM _ a hctl,
      State.get_raise _ 32 0 a (by decide) h, State.get_setBit_other _ TIM_LEAP_NEG _ a hleap,
      State.get_setFld_other _ TIM_LEAP_PENDING _ a hleap]

theorem State.get_leapJudge (s : State) (a : Nat) (h : quietAddr a) (hleap : a ≠ TIM_LEAP) (hctl : a ≠ BKP_CTL) :
    s.leapJudge.get a = s.get a := by
  unfold State.leapJudge
  split
  · exact s.get_leapRaise _ a h hleap hctl
  · rw [State.get_setFld_other _ TIM_LEAP_NEG _ a hleap, State.get_setFld_other _ TIM_LEAP_PENDING _ a hleap]

theorem State.fld_leapRaise_pending (s : State) (e : Nat) : (s.leapRaise e).fld TIM_LEAP_PENDING = 1 := by
  unfold State.leapRaise
  split
  case isTrue h =>
    have hone : s.fld TIM_LEAP_PENDING = 1 := by
      have hlt : s.fld TIM_LEAP_PENDING < 2 := getFld_lt (s.get TIM_LEAP) TIM_LEAP_PENDING
      have hne : s.fld TIM_LEAP_PENDING ≠ 0 := by simpa [State.isSet] using h
      omega
    exact (s.fld_setFld_keeps TIM_LEAP_NEG TIM_LEAP_PENDING _ (by decide) (by decide)).trans hone
  · rw [State.setBit, State.fld_setFld_keeps _ BKP_CTL_LEAPNEG TIM_LEAP_PENDING _ (by decide) (by decide),
      State.fld_setFld_keeps _ BKP_CTL_LEAPARM TIM_LEAP_PENDING _ (by decide) (by decide), State.fld_raise_low _ _ _ _ (by decide),
      State.setBit, State.fld_setFld_keeps _ TIM_LEAP_NEG TIM_LEAP_PENDING _ (by decide) (by decide)]
    exact s.fld_setFld_same TIM_LEAP_PENDING 1 (by decide)

theorem State.fld_leapJudge_pending (s : State) : s.leapJudge.fld TIM_LEAP_PENDING = if s.leapSoon.isSome then 1 else 0 := by
  unfold State.leapJudge
  split
  case h_1 e h => rw [s.fld_leapRaise_pending, h]; rfl
  case h_2 h =>
    rw [State.fld_setFld_keeps _ TIM_LEAP_NEG TIM_LEAP_PENDING _ (by decide) (by decide), h]
    exact s.fld_setFld_same TIM_LEAP_PENDING 0 (by decide)

theorem State.leapRaise_tim (s : State) (e : Nat) : (s.leapRaise e).tim = s.tim := by
  unfold State.leapRaise
  split
  · rfl
  · exact State.raise_tim _ 32 0

theorem State.leapJudge_tim (s : State) : s.leapJudge.tim = s.tim := by
  unfold State.leapJudge
  split
  · exact s.leapRaise_tim _
  · rfl

/-- The next entry within 24 h depends on the table and the second alone. -/
theorem State.leapSoon_congr {s t : State} (htab : ∀ a, 0x460000 ≤ a → t.get a = s.get a) (htim : t.tim = s.tim) :
    t.leapSoon = s.leapSoon := by
  have haddr (e w : Nat) : t.get (leapAddr e w) = s.get (leapAddr e w) := htab _ (by simp only [leapAddr]; omega)
  have hvalid : t.leapValid = s.leapValid := funext fun e => by rw [State.leapValid, State.leapValid, haddr]
  have hsec : t.leapSec = s.leapSec := funext fun e => by rw [State.leapSec, State.leapSec, haddr, haddr]
  have hsecond : t.second = s.second := by rw [State.second, State.second, htim]
  rw [State.leapSoon, State.leapSoon, State.leapNext, State.leapNext, State.leapCount, State.leapCount, hvalid, hsec, hsecond]

/-- The effect that O23 states of LEAP_TABLE_WRITE, in every state in whose tick the device has latched no bit of the word. -/
theorem leapTableWrite_stores (s : State) (src : BusSrc) (e : Fin 256) (w : Fin 4) (v : Word) (h : s.takes (leapAddr e w) v)
    (hn : s.setNow (leapAddr e w) = 0#32) :
    ∃ t, exec (.leapTableWrite src e w v) s = .next t
      ∧ t.get (leapAddr e w) = (s.get (leapAddr e w) &&& ~~~(tableMask (leapAddr e w))) ||| (v &&& tableMask (leapAddr e w))
      ∧ t.fld TIM_LEAP_PENDING = (if t.leapSoon.isSome then 1 else 0)
      ∧ ∀ a, a ≠ leapAddr e w → a ≠ TIM_LEAP → a ≠ BKP_CTL →
          a < 0x100000 ∨ (0x102000 ≤ a ∧ a < 0x200000) ∨ 0x460000 ≤ a → t.get a = s.get a := by
  obtain ⟨hlo, -, h4⟩ := leapAddr_place e w
  have hmgt : leapAddr e w ≠ MGT_MODEREQ ∧ leapAddr e w ≠ MGT_CASTCTL ∧ leapAddr e w ≠ MGT_FRESET ∧ leapAddr e w ≠ MGT_ASSAYCTL := by
    simp only [MGT_MODEREQ, MGT_CASTCTL, MGT_FRESET, MGT_ASSAYCTL]; omega
  have hwrite : s.write src (leapAddr e w) v
      = (s.put (leapAddr e w) (mergeWord (leapAddr e w) (s.get (leapAddr e w)) v)).leapJudge.markDirty (leapAddr e w) := by
    rw [s.write_taken src _ v h4 h, State.mgtWrite_other _ _ _ _ hmgt, s.applyWrite_leapAddr,
      s.storeWord_unlatched _ v (.inr (by omega)) (.inr (by omega)) hn]
  have hkeep (t : State) (a : Nat) (ha : a < 0x100000 ∨ (0x102000 ≤ a ∧ a < 0x200000) ∨ 0x460000 ≤ a) (hleap : a ≠ TIM_LEAP)
      (hctl : a ≠ BKP_CTL) : (t.leapJudge.markDirty (leapAddr e w)).get a = t.get a := by
    rw [State.get_markDirty]
    exact t.get_leapJudge a (by simp only [quietAddr]; omega) hleap hctl
  have hsoon (t : State) : (t.leapJudge.markDirty (leapAddr e w)).leapSoon = t.leapSoon :=
    State.leapSoon_congr (fun a ha => hkeep t a (.inr (.inr ha)) (by simp only [TIM_LEAP]; omega) (by simp only [BKP_CTL]; omega))
      (by rw [State.markDirty_tim, State.leapJudge_tim])
  refine ⟨_, congrArg Host.Outcome.next hwrite, ?_, ?_, fun a ha hleap hctl hquiet => ?_⟩
  · rw [hkeep _ _ (.inr (.inr hlo)) (by simp only [TIM_LEAP]; omega) (by simp only [BKP_CTL]; omega), State.get_put_same,
      mergeWord_leapAddr]
  · rw [hsoon, State.fld_markDirty, State.fld_leapJudge_pending]
  · rw [hkeep _ a hquiet hleap hctl, State.get_put_other _ _ _ _ ha]

/-! ### A word of the table with a latched bit -/

/-- The state after reset with the timebase running, in whose tick the device has latched bit 0 of the table's first word. -/
def State.leapLatched : State :=
  State.latch { State.reset with
      sys := { State.reset.sys with phase := .running, cast := [1] }
      tim := { State.reset.tim with run := true } }
    ⟨leapAddr 0 0, 0, 1⟩

theorem takes_leapLatched : State.leapLatched.takes (leapAddr 0 0) 0 := by
  decide +kernel

/-- The latched bit outlives the 0 that is written over it. -/
theorem leapWord_of_write_leapLatched : (State.leapLatched.write .pcie (leapAddr 0 0) 0).get (leapAddr 0 0) = 1 := by
  decide +kernel

theorem leapWord_leapLatched : State.leapLatched.get (leapAddr 0 0) = 1 := by
  decide +kernel

/-- Refutes O23 in its clause on LEAP_TABLE_WRITE, which speaks of every state, and so of one in whose tick the device has latched a bit
of the written word: that bit stays set (R5). No operation of the model latches a bit of the table; where none is latched the effect
holds, by `leapTableWrite_stores`. -/
theorem not_secondsAndLeaps : ¬ Obligations.SecondsAndLeaps := by
  unfold Obligations.SecondsAndLeaps
  intro h
  obtain ⟨-, hwrite, -⟩ := h State.leapLatched .pcie
  obtain ⟨t, hexec, hstored, -⟩ := hwrite 0 0 0 takes_leapLatched
  obtain rfl : State.leapLatched.write .pcie (leapAddr 0 0) 0 = t := Host.Outcome.next.inj hexec
  rw [show leapAddr (0 : Fin 256) (0 : Fin 4) = leapAddr 0 0 from rfl, leapWord_of_write_leapLatched, leapWord_leapLatched] at hstored
  exact absurd hstored (by decide)

end Sys2Proof.Machine

/-! The real-time clock at a start: its registers are kept where each stands once in the list, and one that stands twice is not
(R450, R454). -/

namespace Sys2Proof.Machine

open Sys2Proof.Fields Sys2Proof.Laws

/-! ### The registers that a start keeps (R450) -/

/-- Words written in ascending order of their places: one that is written unchanged is held. -/
theorem State.get_foldl_put_sorted (f : Nat × Word → Word) (a : Nat) (hf : ∀ w, f (a, w) = w) (l : List (Nat × Word)) :
    ∀ (n : Nat) (t : State), tabSorted n l = true → (l.foldl (fun t p => t.put p.1 (f p)) t).get a = tabGet (t.get a) l a := by
  induction l with
  | nil => exact fun _ _ _ => rfl
  | cons p r ih =>
    obtain ⟨k, w⟩ := p
    intro n t h
    simp only [tabSorted, Bool.and_eq_true, decide_eq_true_eq] at h
    obtain ⟨-, hrest⟩ := h
    rw [List.foldl_cons, ih (k + 1) _ hrest, tabGet]
    by_cases hk : a = k
    · subst hk
      rw [if_pos rfl, tabGet_of_above _ (Nat.lt_succ_self a) r hrest, State.get_put_same, hf]
    · rw [if_neg hk, State.get_put_other _ _ _ _ hk]

/-- A start keeps the backup domain's registers, where the registers stand in ascending order. -/
theorem State.get_restart_backup (s : State) (dev : Bool) (a : Nat) (hordered : s.ordered) (hlo : 0x110000 ≤ a) (hhi : a < 0x120000) :
    (s.restart dev).get a = s.get a := by
  have hmask : startMask dev a = 0xFFFFFFFF#32 := if_pos ⟨hlo, hhi⟩
  have hmix (w : Word) : mixWord (startMask dev a) w (coldReg a) = w := by
    rw [mixWord, hmask, show ~~~(0xFFFFFFFF#32) = 0#32 from rfl, BitVec.and_zero, BitVec.or_zero,
      show (0xFFFFFFFF#32 : Word) = BitVec.allOnes 32 from rfl, BitVec.and_allOnes]
  unfold State.restart
  refine (State.get_foldl_put_sorted _ a hmix _ 0 _ (tabSorted_filter _ 0 s.regs hordered)).trans ?_
  rw [tabGet_filter _ (fun k => startMask dev k != 0), if_pos (by rw [hmask]; decide)]
  rfl

/-! ### A register that is listed twice -/

/-- The state after reset in DORMANT with alarm 0 enabled for every second and as a wake source, BKP_DATE listed twice: as 2001-01-01,
the word that a read gives, and behind it as 2002-01-01. -/
def State.twoDates : State :=
  { State.reset with
    sys := { State.reset.sys with power := .on, trans := .none }
    bkp := { State.reset.bkp with vddIo := false }
    regs := [(MGT_MODE, 1), (MGT_WAKECFG, fldMask MGT_WAKECFG_RTCA0.lo 1), (BKP_DATE, 0x00010101), (BKP_DATE, 0x00020101),
      (BKP_ALMTIME 0, 0x81808000), (BKP_ALMDATE 0, 0x80008080)] }

theorem mode_twoDates : State.twoDates.mode = modeDormant := by
  decide +kernel

theorem rtc_twoDates : State.twoDates.rtcTime < 86398 ∧ State.twoDates.get BKP_DATE = 0x00010101 := by
  decide +kernel

/-- The alarm wakes the device, and the restart writes each kept word of the list in turn, so that the last one stays. -/
theorem date_after_wake : (State.twoDates.rtcSecond.wakeAlarms State.twoDates).get BKP_DATE = 0x00020101 := by
  decide +kernel

/-- Refutes O58 in its clause on RTC_SECOND, which speaks of every state, and so of one that lists a register twice: where an alarm wakes
the device, the start keeps the last of the two words. Every write keeps the registers in ascending order (`State.ordered_put`), and
then a start keeps the words, by `State.get_restart_backup`. -/
theorem not_realTimeClock : ¬ Obligations.RealTimeClock := by
  unfold Obligations.RealTimeClock
  intro h
  obtain ⟨-, -, -, -, -, -, hsecond, -⟩ := h State.twoDates .pcie
  obtain ⟨t, hexec, hwithin, -⟩ := hsecond
  obtain rfl : State.twoDates.rtcSecond.wakeAlarms State.twoDates = t := Host.Outcome.next.inj hexec
  obtain ⟨hearly, hdate⟩ := rtc_twoDates
  obtain ⟨-, hkept, -⟩ := hwithin (.inl hearly)
  rw [date_after_wake, hdate] at hkept
  exact absurd hkept (by decide)

end Sys2Proof.Machine

/-! The radio lanes: what the operations on lanes, tickets, pins and results leave alone (R200, R201, R210, R211). -/

namespace Sys2Proof.Machine

open Sys2Proof.Fields Sys2Proof.Laws

/-! ### Lanes, tickets and fields of states that share them -/

theorem State.lane_of_lanes {s t : State} (h : t.lanes = s.lanes) (n : Nat) : t.lane n = s.lane n :=
  congrArg (tabGet Lane.cold · n) h

theorem State.ticket_of_sch {s t : State} (h : t.sch = s.sch) (e : Nat) : t.ticket e = s.ticket e :=
  congrArg (fun x : Sch => tabGet Ticket.cold x.tickets e) h

theorem State.fld_of_regs {s t : State} (h : t.regs = s.regs) (f : Fld) : t.fld f = s.fld f :=
  State.fld_of_get f (State.get_of_regs h f.addr)

@[simp] theorem State.lane_setTicket (s : State) (e : Nat) (x : Ticket) (n : Nat) : (s.setTicket e x).lane n = s.lane n := rfl
@[simp] theorem State.fld_setTicket (s : State) (e : Nat) (x : Ticket) (f : Fld) : (s.setTicket e x).fld f = s.fld f := rfl
@[simp] theorem State.ticket_setLane (s : State) (n : Nat) (l : Lane) (e : Nat) : (s.setLane n l).ticket e = s.ticket e := rfl
@[simp] theorem State.fld_setLane (s : State) (n : Nat) (l : Lane) (f : Fld) : (s.setLane n l).fld f = s.fld f := rfl
@[simp] theorem State.lane_setFld (s : State) (f : Fld) (v n : Nat) : (s.setFld f v).lane n = s.lane n := rfl
@[simp] theorem State.lane_count (s : State) (f : Fld) (n : Nat) : (s.count f).lane n = s.lane n := rfl
@[simp] theorem State.ticket_count (s : State) (f : Fld) (e : Nat) : (s.count f).ticket e = s.ticket e := rfl
@[simp] theorem State.lane_emit (s : State) (o : Out) (n : Nat) : (s.emit o).lane n = s.lane n := rfl
theorem State.fld_mac (s : State) (m : Mac) (f : Fld) : ({ s with mac := m } : State).fld f = s.fld f := rfl
theorem State.ticket_mac (s : State) (m : Mac) (e : Nat) : ({ s with mac := m } : State).ticket e = s.ticket e := rfl

@[simp] theorem Lane.tap_setTap (l : Lane) (k : Nat) (x : TapSt) : (l.setTap k x).tap k = x := tabGet_set_same _ _ _ _

/-! ### Balls (R210) -/

/-- LNAEN and ANTSEL follow the tickets, and nothing else changes. -/
theorem State.updateLna_eq (s : State) :
    s.updateLna = { s with pins := { s.pins with lnaen := s.updateLna.pins.lnaen, antsel := s.updateLna.pins.antsel } } := by
  unfold State.updateLna
  split <;> rfl

@[simp] theorem State.updateLna_regs (s : State) : s.updateLna.regs = s.regs := by rw [s.updateLna_eq]
@[simp] theorem State.updateLna_lanes (s : State) : s.updateLna.lanes = s.lanes := by rw [s.updateLna_eq]
@[simp] theorem State.updateLna_sch (s : State) : s.updateLna.sch = s.sch := by rw [s.updateLna_eq]
@[simp] theorem State.updateLna_mac (s : State) : s.updateLna.mac = s.mac := by rw [s.updateLna_eq]
@[simp] theorem State.updateLna_paen (s : State) : s.updateLna.pins.paen = s.pins.paen := by rw [s.updateLna_eq]
@[simp] theorem State.lane_updateLna (s : State) (n : Nat) : s.updateLna.lane n = s.lane n := State.lane_of_lanes s.updateLna_lanes n
@[simp] theorem State.ticket_updateLna (s : State) (e : Nat) : s.updateLna.ticket e = s.ticket e :=
  State.ticket_of_sch s.updateLna_sch e
@[simp] theorem State.fld_updateLna (s : State) (f : Fld) : s.updateLna.fld f = s.fld f := State.fld_of_regs s.updateLna_regs f

/-! ### Results (R200) -/

@[simp] theorem State.ticket_upTicket (s : State) (e : Nat) (f : Ticket → Ticket) : (s.upTicket e f).ticket e = f (s.ticket e) :=
  s.ticket_setTicket_same e _

@[simp] theorem State.upTicket_lanes (s : State) (e : Nat) (f : Ticket → Ticket) : (s.upTicket e f).lanes = s.lanes := rfl
@[simp] theorem State.upTicket_pins (s : State) (e : Nat) (f : Ticket → Ticket) : (s.upTicket e f).pins = s.pins := rfl
@[simp] theorem State.fld_upTicket (s : State) (e : Nat) (f : Ticket → Ticket) (g : Fld) : (s.upTicket e f).fld g = s.fld g := rfl

@[simp] theorem State.finish_lanes (s : State) (e r : Nat) : (s.finish e r).lanes = s.lanes := rfl
@[simp] theorem State.finish_pins (s : State) (e r : Nat) : (s.finish e r).pins = s.pins := rfl
@[simp] theorem State.finish_mac (s : State) (e r : Nat) : (s.finish e r).mac = s.mac := rfl
@[simp] theorem State.fld_finish (s : State) (e r : Nat) (f : Fld) : (s.finish e r).fld f = s.fld f := rfl
@[simp] theorem State.ticket_finish (s : State) (e r : Nat) :
    (s.finish e r).ticket e = { s.ticket e with result := r, final := true } := s.ticket_upTicket e _

/-- A ticket that does not run, before its event and its overrun are reported. -/
def State.retireNotReady (s : State) (e : Nat) (why : NrCause) : State :=
  ((s.upTicket e (fun t => { t with why := some why })).finish e rsNotReady).count (RFL_NOTREADY_COUNT (s.ticket e).lane)

theorem State.notReady_eq (s : State) (e : Nat) (why : NrCause) : s.notReady e why
    = ((s.retireNotReady e why).raise (80 + 8 * (s.ticket e).lane)).overrunBit (2 + (s.ticket e).lane) := rfl

theorem State.overrunBit_lanes (s : State) (n : Nat) : (s.overrunBit n).lanes = s.lanes := rfl
theorem State.overrunBit_sch (s : State) (n : Nat) : (s.overrunBit n).sch = s.sch := rfl
theorem State.overrunBit_pins (s : State) (n : Nat) : (s.overrunBit n).pins = s.pins := rfl

theorem State.fld_overrunBit (s : State) (n : Nat) (f : Fld) (hstat : f.addr ≠ MGT_OVRSTAT) (hbeat : f.addr ≠ MGT_OVRBEAT) :
    (s.overrunBit n).fld f = s.fld f :=
  (State.fld_setFld_other_word _ MGT_OVRBEAT_BEAT f _ hbeat).trans (s.fld_setFld_other_word ⟨MGT_OVRSTAT, n, 1⟩ f _ hstat)

@[simp] theorem State.notReady_lanes (s : State) (e : Nat) (why : NrCause) : (s.notReady e why).lanes = s.lanes := by
  rw [s.notReady_eq, State.overrunBit_lanes, State.raise_lanes]
  simp only [State.retireNotReady, State.count_lanes, State.finish_lanes, State.upTicket_lanes]

@[simp] theorem State.notReady_pins (s : State) (e : Nat) (why : NrCause) : (s.notReady e why).pins = s.pins := by
  rw [s.notReady_eq, State.overrunBit_pins, State.raise_pins]
  simp only [State.retireNotReady, State.count_pins, State.finish_pins, State.upTicket_pins]

@[simp] theorem State.ticket_notReady (s : State) (e : Nat) (why : NrCause) :
    (s.notReady e why).ticket e = { s.ticket e with why := some why, result := rsNotReady, final := true } := by
  have hsch : (s.notReady e why).sch = (s.retireNotReady e why).sch := by
    rw [s.notReady_eq, State.overrunBit_sch, State.raise_sch]
  rw [State.ticket_of_sch hsch]
  simp [State.retireNotReady]

/-- The lane's counter of tickets that did not run counts (R200). -/
theorem State.fld_notReady_count (s : State) (e : Nat) (why : NrCause) (n : Fin 4) (hlane : (s.ticket e).lane = n.val) :
    (s.notReady e why).fld (RFL_NOTREADY_COUNT n) = min (s.fld (RFL_NOTREADY_COUNT n) + 1) 0xFFFFFFFF := by
  have hplace : 0x50000 ≤ RFL_NOTREADY n ∧ RFL_NOTREADY n < 0x100000 := by simp only [RFL_NOTREADY]; omega
  obtain ⟨hlow, hhigh⟩ := hplace
  rw [s.notReady_eq, hlane, State.fld_overrunBit _ _ _ (by simp only [RFL_NOTREADY_COUNT, MGT_OVRSTAT]; omega)
    (by simp only [RFL_NOTREADY_COUNT, MGT_OVRBEAT]; omega), State.fld_raise_low _ _ _ _ hhigh, State.retireNotReady, hlane,
    State.fld_count_same _ (RFL_NOTREADY_COUNT n) (Nat.le_refl 32), State.fld_finish, State.fld_upTicket]
  rfl

/-- Event 80 + 8n counts. -/
theorem State.fld_notReady_routeCount (s : State) (e : Nat) (why : NrCause) (n : Fin 4) (hlane : (s.ticket e).lane = n.val) :
    (s.notReady e why).fld (routeCount (80 + 8 * n)) = min (s.fld (routeCount (80 + 8 * n)) + 1) 0xFFFFFFFF := by
  rw [s.notReady_eq, hlane, State.fld_overrunBit _ _ _ (by simp only [routeCount, MGT_OVRSTAT]; omega)
    (by simp only [routeCount, MGT_OVRBEAT]; omega), State.fld_routeCount_raise _ _ _ (by omega), State.retireNotReady,
    State.fld_count_other_word _ _ _ (by simp only [routeCount, RFL_NOTREADY_COUNT, RFL_NOTREADY]; omega),
    State.fld_finish, State.fld_upTicket]

/-! ### A tap lets its ticket go (R201) -/

/-- The result that a receive ticket ends with becomes final. -/
theorem State.ticket_endRx (s : State) (n k e : Nat) :
    (s.endRx n k e).ticket e = { s.ticket e with result := (s.ticket e).rxResult, final := true } := by
  simp [State.endRx]

theorem State.lane_endRx (s : State) (n k e : Nat) : (s.endRx n k e).lane n = (s.lane n).setTap k TapSt.cold := by
  simp only [State.endRx, State.lane_updateLna]
  exact s.lane_setLane_same n _

theorem State.fld_endRx (s : State) (n k e : Nat) (f : Fld) : (s.endRx n k e).fld f = s.fld f := by
  simp only [State.endRx, State.fld_updateLna, State.fld_finish, State.fld_setLane]

theorem State.endRx_mac (s : State) (n k e : Nat) : (s.endRx n k e).mac = s.mac := by
  simp only [State.endRx, State.updateLna_mac, State.finish_mac, State.setLane_mac]

end Sys2Proof.Machine

/-! Receive tickets: windows, frames and results (R27, R200 to R202). -/

namespace Sys2Proof.Machine

open Sys2Proof.Fields Sys2Proof.Laws

/-! ### The window opens (R200, R201) -/

theorem State.rxWindowStart_free (s : State) (e : Nat) (hrun : s.canRun e false = true) (hnew : (s.ticket e).started = false)
    (hfree : s.rxBlocked (s.ticket e) = none) :
    s.rxWindowStart e = ((s.setTicket e { s.ticket e with started := true }).setLane (s.ticket e).lane
      ((s.lane (s.ticket e).lane).setTap (s.ticket e).tap ⟨some e, none, false⟩)).updateLna := by
  simp [State.rxWindowStart, hrun, hnew, hfree]

theorem State.rxWindowStart_blocked (s : State) (e : Nat) (why : NrCause) (hrun : s.canRun e false = true)
    (hnew : (s.ticket e).started = false) (hwhy : s.rxBlocked (s.ticket e) = some why) : s.rxWindowStart e = s.notReady e why := by
  simp [State.rxWindowStart, hrun, hnew, hwhy]

/-- A ticket that nothing blocks has started, and holds its tap. -/
theorem State.exec_rxWindowStart_free (s : State) (e : Fin 2048) (n : Fin 4) (hlane : (s.ticket e).lane = n.val)
    (hrun : s.canRun e false = true) (hnew : (s.ticket e).started = false) (hfree : s.rxBlocked (s.ticket e) = none) :
    ∃ t, exec (.rxWindowStart e) s = .next t ∧ (t.ticket e).started = true
      ∧ (t.lane n).tap (s.ticket e).tap = ⟨some e.val, none, false⟩ := by
  refine ⟨_, congrArg Host.Outcome.next (s.rxWindowStart_free e hrun hnew hfree), ?_, ?_⟩
  · simp
  · rw [hlane]
    simp

/-- A blocked ticket ends NOTREADY with the first cause, and the lane stays as it is. -/
theorem State.exec_rxWindowStart_blocked (s : State) (e : Fin 2048) (n : Fin 4) (hlane : (s.ticket e).lane = n.val)
    (hrun : s.canRun e false = true) (hnew : (s.ticket e).started = false) (hblocked : s.rxBlocked (s.ticket e) ≠ none) :
    ∃ t, exec (.rxWindowStart e) s = .next t ∧ (t.ticket e).final = true
      ∧ (t.ticket e).result = rsNotReady ∧ (t.ticket e).why = s.rxBlocked (s.ticket e) ∧ t.lanes = s.lanes
      ∧ t.fld (RFL_NOTREADY_COUNT n) = min (s.fld (RFL_NOTREADY_COUNT n) + 1) 0xFFFFFFFF
      ∧ t.fld (routeCount (80 + 8 * n)) = min (s.fld (routeCount (80 + 8 * n)) + 1) 0xFFFFFFFF := by
  obtain ⟨why, hwhy⟩ := Option.ne_none_iff_exists'.mp hblocked
  have hticket := s.ticket_notReady e why
  refine ⟨_, congrArg Host.Outcome.next (s.rxWindowStart_blocked e why hrun hnew hwhy), ?_, ?_, ?_, s.notReady_lanes e why,
    s.fld_notReady_count e why n hlane, s.fld_notReady_routeCount e why n hlane⟩
  · rw [hticket]
  · rw [hticket]
  · rw [hticket, hwhy]

/-! ### A frame begins (R201) -/

/-- On an open tap that is not blanked a frame begins, with its timestamp. -/
theorem State.exec_sfdDetect_open (s : State) (e : Fin 2048) (n : Fin 4) (tap : Fin 32) (ts : BitVec 64)
    (htap : (s.lane n).tap tap = ⟨some e.val, none, false⟩) (hblank : s.laneBlanked n = false) :
    ∃ t, exec (.sfdDetect n tap ts) s = .next t ∧ (t.lane n).tap tap = ⟨some e.val, some ts.toNat, false⟩ := by
  have hbegin : s.sfdDetect n tap ts.toNat = ((s.laneGain n).2.setFld (RFL_AGC_GAIN n) (s.laneGain n).1).setLane n
      ((((s.laneGain n).2.setFld (RFL_AGC_GAIN n) (s.laneGain n).1).lane n).setTap tap ⟨some e.val, some ts.toNat, false⟩) := by
    simp [State.sfdDetect, htap, hblank]
  exact ⟨_, congrArg Host.Outcome.next hbegin, by simp⟩

/-! ### A frame ends (R202) -/

theorem length_fcsOf (four : Bool) (bs : List Byte) : (fcsOf four bs).length = if four then 4 else 2 := by
  cases four <;> exact length_leBytes _ _

/-- A body with its FCS, of the length that a supported PHR gives, passes. -/
theorem State.checkFrame_whole (s : State) (n k : Nat) (h : RxPhr) (body : List Byte) (hphr : s.phrOk n k h = true)
    (hlen : h.len = (body ++ fcsOf h.fcs4 body).length) : s.checkFrame n k h (body ++ fcsOf h.fcs4 body) = some body := by
  have hfcs := length_fcsOf h.fcs4 body
  have hpos : 0 < (fcsOf h.fcs4 body).length := by
    rw [hfcs]; split <;> decide
  have hbody : (body ++ fcsOf h.fcs4 body).length - (if h.fcs4 then 4 else 2) = body.length := by
    rw [List.length_append, hfcs, Nat.add_sub_cancel]
  simp only [State.checkFrame, hbody, List.take_left, List.drop_left]
  simp only [hphr, hlen, beq_self_eq_true, Bool.and_true, Bool.true_and, decide_eq_true_eq, List.length_append]
  exact if_pos (by omega)

/-- A frame that fails its check counts and marks its ticket; the tap of an open window searches on. -/
theorem State.exec_frameReceived_fails (s : State) (e : Fin 2048) (n : Fin 4) (tap : Fin 32) (ts : Nat) (phr : RxPhr) (psdu : List Byte)
    (rssi : Byte) (cfo : Int) (htap : (s.lane n).tap tap = ⟨some e.val, some ts, false⟩) (hfail : s.checkFrame n tap phr psdu = none) :
    ∃ t, exec (.frameReceived n tap phr psdu rssi cfo) s = .next t
      ∧ t.fld (RFL_RXFCS_COUNT n) = min (s.fld (RFL_RXFCS_COUNT n) + 1) (2 ^ (RFL_RXFCS_COUNT n).len - 1)
      ∧ (t.ticket e).bad = true ∧ (t.lane n).tap tap = ⟨some e.val, none, false⟩ ∧ t.mac = s.mac := by
  have hframe : exec (.frameReceived n tap phr psdu rssi cfo) s
      = .next (((s.setLane n ((s.lane n).setTap tap ⟨some e.val, none, false⟩)).count (RFL_RXFCS_COUNT n)).setTicket e
          { s.ticket e with bad := true }) := by
    show Host.Outcome.next (s.frameReceived n tap (s.checkFrame n tap phr psdu).isSome _ _ _ _ _) = _
    simp [State.frameReceived, htap, hfail]
  refine ⟨_, hframe, ?_, ?_, ?_, rfl⟩
  · rw [State.fld_setTicket, State.fld_count_same _ (RFL_RXFCS_COUNT n) (Nat.le_refl 32), State.fld_setLane]
  · simp
  · simp

/-- The frame that a tap of an open window hands over for its ticket. -/
def State.tapFrame (s : State) (t : Ticket) (n k e ts : Nat) (body : List Byte) (rssi : Nat) (cfo : Int) (phr : RxPhr) : RxFrame :=
  { lane := n, tap := k, ch := t.ch, entry := e, tid := t.tid, psdu := body, ts := ts, rssi := rssi, cfo := cfo, fcs4 := phr.fcs4,
    whiten := phr.whiten, beat := s.beat, node := none, body := [], oldKey := false, rep := none }

/-- A good frame is counted by its lane and its ticket, and its tap is free of it. -/
def State.countGood (s : State) (n k e : Nat) : State :=
  ((s.setLane n ((s.lane n).setTap k ⟨some e, none, false⟩)).count (RFL_RXOK_COUNT n)).setTicket e
    { s.ticket e with nframes := min ((s.ticket e).nframes + 1) 255 }

/-- While MAC and SEC work, a frame goes to the express engine or to MAC, and its ticket has one frame more under way. -/
theorem State.handOver_live (s : State) (f : RxFrame) (sent : Bool) (hmac : s.live 0xD = true) (hsec : s.live 0x10 = true) :
    s.handOver f sent =
      { s.upTicket f.entry (fun t => { t with open_ := t.open_ + 1 }) with
        mac := if sent then { s.mac with express := s.mac.express ++ [f] } else { s.mac with input := s.mac.input ++ [f] } } := by
  obtain ⟨hcast, hheld⟩ : s.isCast 0x10 = true ∧ s.isHeld 0x10 = false := by simpa [State.live] using hsec
  unfold State.handOver
  rw [hmac, hcast, hheld, Bool.and_false]
  cases sent <;> rfl

/-- A good frame of a ticket that does not listen on is handed over, and ends the ticket. -/
theorem State.exec_frameReceived_good (s : State) (e ts : Nat) (n : Fin 4) (tap : Fin 32) (phr : RxPhr) (psdu body : List Byte)
    (rssi : Byte) (cfo : Int) (htap : (s.lane n).tap tap = ⟨some e, some ts, false⟩) (hlisten : (s.ticket e).listen = false)
    (hpass : s.checkFrame n tap phr psdu = some body) :
    exec (.frameReceived n tap phr psdu rssi cfo) s = .next (((s.countGood n tap e).handOver
      ((s.countGood n tap e).tapFrame (s.ticket e) n tap e ts body rssi.toNat cfo phr) (s.ticket e).sent).endRx n tap e) := by
  show Host.Outcome.next (s.frameReceived n tap (s.checkFrame n tap phr psdu).isSome _ _ _ _ _) = _
  simp [State.frameReceived, htap, hpass, hlisten, State.countGood, State.tapFrame]

/-- Such a frame: its body with its times and its place leaves for the express engine or for MAC, and the ticket ends DONE. -/
theorem State.exec_frameReceived_done (s : State) (e : Fin 2048) (n : Fin 4) (tap : Fin 32) (ts : Nat) (phr : RxPhr) (psdu body : List Byte)
    (rssi : Byte) (cfo : Int) (htap : (s.lane n).tap tap = ⟨some e.val, some ts, false⟩) (hmac : s.live 0xD = true)
    (hsec : s.live 0x10 = true) (hlisten : (s.ticket e).listen = false) (hphr : s.phrOk n tap phr = true)
    (hpsdu : psdu = body ++ fcsOf phr.fcs4 body) (hlen : phr.len = psdu.length) :
    ∃ t f, exec (.frameReceived n tap phr psdu rssi cfo) s = .next t
      ∧ t.fld (RFL_RXOK_COUNT n) = min (s.fld (RFL_RXOK_COUNT n) + 1) (2 ^ (RFL_RXOK_COUNT n).len - 1)
      ∧ (t.ticket e).result = rsDone ∧ (t.ticket e).final = true ∧ (t.lane n).tap tap = TapSt.cold
      ∧ f.psdu = body ∧ f.ts = ts ∧ f.rssi = rssi.toNat ∧ f.cfo = cfo ∧ f.lane = n.val ∧ f.tap = tap.val ∧ f.entry = e.val
      ∧ ((s.ticket e).sent = true → t.mac = { s.mac with express := s.mac.express ++ [f] })
      ∧ ((s.ticket e).sent = false → t.mac = { s.mac with input := s.mac.input ++ [f] }) := by
  subst hpsdu
  have hcounted : (((s.countGood n tap e).upTicket e (fun t => { t with open_ := t.open_ + 1 })).ticket e).nframes ≠ 0 := by
    rw [State.ticket_upTicket, State.countGood, State.ticket_setTicket_same]
    dsimp only
    omega
  refine ⟨_, (s.countGood n tap e).tapFrame (s.ticket e) n tap e ts body rssi.toNat cfo phr,
    s.exec_frameReceived_good e ts n tap phr _ body rssi cfo htap hlisten (s.checkFrame_whole n tap phr body hphr hlen),
    ?_, ?_, ?_, ?_, rfl, rfl, rfl, rfl, rfl, rfl, rfl, fun hsent => ?_, fun hsent => ?_⟩
  all_goals rw [State.handOver_live (s.countGood n tap e) _ _ hmac hsec]
  · rw [State.fld_endRx, State.fld_mac, State.fld_upTicket, State.countGood, State.fld_setTicket,
      State.fld_count_same _ (RFL_RXOK_COUNT n) (Nat.le_refl 32), State.fld_setLane]
  · rw [State.ticket_endRx, State.ticket_mac]
    exact if_pos hcounted
  · rw [State.ticket_endRx]
  · rw [State.lane_endRx, Lane.tap_setTap]
  · rw [State.endRx_mac, hsent]
    rfl
  · rw [State.endRx_mac, hsent]
    rfl

/-! ### The window ends (R201) -/

/-- With no frame in progress the ticket ends; with one the tap is closed to further frames. -/
theorem State.exec_rxWindowEnd (s : State) (e : Fin 2048) (x : Option Nat) (hrun : s.canRun e false = true)
    (hstarted : (s.ticket e).started = true) (htap : (s.lane (s.ticket e).lane).tap (s.ticket e).tap = ⟨some e.val, x, false⟩) :
    ∃ t, exec (.rxWindowEnd e) s = .next t
      ∧ (x = none → (t.lane (s.ticket e).lane).tap (s.ticket e).tap = TapSt.cold ∧ (t.ticket e).final = true
        ∧ (t.ticket e).result = (s.ticket e).rxResult)
      ∧ (x ≠ none → (t.lane (s.ticket e).lane).tap (s.ticket e).tap = ⟨some e.val, x, true⟩ ∧ t.ticket e = s.ticket e) := by
  cases x with
  | none =>
    have hend : s.rxWindowEnd e = s.endRx (s.ticket e).lane (s.ticket e).tap e := by
      simp [State.rxWindowEnd, hrun, hstarted, htap]
    refine ⟨_, congrArg Host.Outcome.next hend, fun _ => ⟨?_, ?_, ?_⟩, fun h => absurd rfl h⟩
    · rw [State.lane_endRx, Lane.tap_setTap]
    · rw [State.ticket_endRx]
    · rw [State.ticket_endRx]
  | some ts =>
    have hclose : s.rxWindowEnd e = s.setLane (s.ticket e).lane
        ((s.lane (s.ticket e).lane).setTap (s.ticket e).tap ⟨some e.val, some ts, true⟩) := by
      simp [State.rxWindowEnd, hrun, hstarted, htap]
    refine ⟨_, congrArg Host.Outcome.next hclose, fun h => absurd h (by simp), fun _ => ⟨?_, rfl⟩⟩
    rw [State.lane_setLane_same, Lane.tap_setTap]

/-- Settles O29, clause by clause. -/
theorem receiveTickets : Obligations.ReceiveTickets := by
  unfold Obligations.ReceiveTickets
  intro s e
  refine ⟨fun n hlane hrun hnew => ⟨s.exec_rxWindowStart_free e n hlane hrun hnew, s.exec_rxWindowStart_blocked e n hlane hrun hnew⟩,
    fun n tap ts htap hblank => s.exec_sfdDetect_open e n tap ts htap hblank, fun n tap ts phr psdu rssi cfo htap => ⟨?_, ?_⟩,
    fun x hrun hstarted htap => s.exec_rxWindowEnd e x hrun hstarted htap⟩
  · exact s.exec_frameReceived_fails e n tap ts phr psdu rssi cfo htap
  · intro body hmac hsec hlisten hphr hpsdu hlen
    exact s.exec_frameReceived_done e n tap ts phr psdu body rssi cfo htap hmac hsec hlisten hphr hpsdu hlen

end Sys2Proof.Machine

/-! Transmit tickets: retunes, blanking, antennas, PAEN, frames on air and results (R200, R203, R204, R207, R210 to R212). -/

namespace Sys2Proof.Machine

open Sys2Proof.Fields Sys2Proof.Laws

/-! ### What building a frame leaves of the lanes and the balls -/

/-- `t` has the lanes and the balls of `s`. -/
structure State.LanesStay (s t : State) : Prop where
  lanes : t.lanes = s.lanes
  pins : t.pins = s.pins

theorem State.LanesStay.refl (s : State) : s.LanesStay s := ⟨rfl, rfl⟩

theorem State.LanesStay.trans {s t u : State} (h : s.LanesStay t) (h' : t.LanesStay u) : s.LanesStay u :=
  ⟨h'.lanes.trans h.lanes, h'.pins.trans h.pins⟩

theorem State.LanesStay.lane {s t : State} (h : s.LanesStay t) (n : Nat) : t.lane n = s.lane n := State.lane_of_lanes h.lanes n

theorem State.lanesStay_raise (s : State) (id data : Nat) : s.LanesStay (s.raise id data) :=
  ⟨s.raise_lanes id data, s.raise_pins id data⟩

@[simp] theorem State.noteRaise_lanes (s : State) (key : Nat) : (s.noteRaise key).lanes = s.lanes := rfl
@[simp] theorem State.noteRaise_pins (s : State) (key : Nat) : (s.noteRaise key).pins = s.pins := rfl

theorem State.lanesStay_raiseLimited (s : State) (key id data : Nat) : s.LanesStay (s.raiseLimited key id data) := by
  unfold State.raiseLimited
  split
  · exact ⟨by rw [State.raise_lanes, State.noteRaise_lanes], by rw [State.raise_pins, State.noteRaise_pins]⟩
  · exact .refl s

theorem State.lanesStay_count (s : State) (f : Fld) : s.LanesStay (s.count f) := ⟨s.count_lanes f, s.count_pins f⟩

theorem State.lanesStay_countCe (s : State) (w : Nat) : s.LanesStay (s.countCe w) := by
  unfold State.countCe
  exact ((s.lanesStay_count _).trans (State.lanesStay_count _ _)).trans (State.lanesStay_raiseLimited _ 233 233 0)

theorem State.lanesStay_countUe (s : State) (w o : Nat) (sc : Bool) : s.LanesStay (s.countUe w o sc) := by
  constructor <;> simp [State.countUe]

theorem State.lanesStay_readWord (s : State) (o : Nat) (sc : Bool) (w : Nat) : s.LanesStay (s.readWord o sc w).2 := by
  unfold State.readWord
  split
  · exact .refl s
  · exact s.lanesStay_countCe w
  · exact s.lanesStay_countUe w o sc

theorem State.lanesStay_readWords (s : State) (o : Nat) (ws : List Nat) : s.LanesStay (s.readWords o ws).2 := by
  induction ws generalizing s with
  | nil => exact .refl s
  | cons w ws ih => exact (s.lanesStay_readWord o false w).trans (ih _)

theorem State.lanesStay_captureNown (s : State) (l : List NownIn) (n : Nat) : s.LanesStay (s.captureNown l n) := by
  cases l with
  | nil => exact .refl s
  | cons x l => constructor <;> simp [State.captureNown]

theorem State.lanesStay_nonOwner (s : State) (o b off : Nat) (write : Bool) : s.LanesStay (s.nonOwner o b off write) := by
  have htick (u : State) (k : Tick) (h : s.LanesStay u) : s.LanesStay { u with tick := k } := ⟨h.lanes, h.pins⟩
  unfold State.nonOwner
  refine (htick _ _ ?_).trans (State.lanesStay_raise _ 232 0)
  split
  · exact s.lanesStay_count _
  · exact s.lanesStay_captureNown _ _

theorem State.lanesStay_bankRead (s : State) (o a n : Nat) : s.LanesStay (s.bankRead o a n).2 := by
  unfold State.bankRead
  split
  · exact s.lanesStay_nonOwner _ _ _ _
  · exact s.lanesStay_readWords o _

theorem State.lanesStay_freshBytes (s : State) (n : Nat) : s.LanesStay (s.freshBytes n).2 := by
  induction n generalizing s with
  | zero => exact .refl s
  | succ n ih =>
    have hdraw : s.LanesStay s.fresh.2 := ⟨s.fresh_lanes, s.fresh_pins⟩
    exact hdraw.trans (ih s.fresh.2)

theorem State.lanesStay_symbol (s : State) (k esi : Nat) : s.LanesStay (s.symbol k esi).2 := by
  unfold State.symbol
  dsimp only
  split
  · exact s.lanesStay_readWords _ _
  · exact s.lanesStay_freshBytes _

theorem State.lanesStay_buildFrame (s : State) (t : Ticket) : s.LanesStay (s.buildFrame t).2 := by
  unfold State.buildFrame
  split
  · exact s.lanesStay_bankRead _ _ _
  · exact s.lanesStay_bankRead _ _ _
  · exact s.lanesStay_symbol _ _
  · exact .refl s

/-! ### The end of a PAEN window (R203, R210) -/

@[simp] theorem State.ticket_paenFall (s : State) (n e x : Nat) : (s.paenFall n e).ticket x = s.ticket x := by
  rw [State.paenFall, State.ticket_updateLna]
  split <;> rfl

@[simp] theorem State.fld_paenFall (s : State) (n e : Nat) (f : Fld) : (s.paenFall n e).fld f = s.fld f := by
  rw [State.paenFall, State.fld_updateLna]
  split <;> rfl

/-- The window's ticket leaves the list, and the antenna is let go with the last one. -/
theorem State.lane_paenFall (s : State) (n e : Nat) :
    (s.paenFall n e).lane n = { s.lane n with
      pa := (s.lane n).pa.filter (· != e)
      txAnt := if ((s.lane n).pa.filter (· != e)).isEmpty then none else (s.lane n).txAnt } := by
  rw [State.paenFall, State.lane_updateLna]
  split <;> exact s.lane_setLane_same n _

/-- PAEN goes low with the lane's last window. -/
theorem State.paen_paenFall_last (s : State) (n e : Nat) (h : (s.lane n).pa = [e]) :
    (s.paenFall n e).pins.paen = setAt s.pins.paen n false := by
  have hlast : ((s.lane n).pa.filter (· != e)).isEmpty = true := by simp [h]
  rw [State.paenFall, State.updateLna_paen, if_pos hlast]
  rfl

/-! ### The retune (R207) -/

theorem State.canRun_cast {s : State} {e : Nat} {tx : Bool} (h : s.canRun e tx = true) : s.isCast (9 + (s.ticket e).lane) = true := by
  simp only [State.canRun, Bool.and_eq_true] at h
  exact h.2

/-- A retune goes to the frequency named. -/
theorem State.beginTune_freq (s : State) (n : Nat) (tx : Bool) (hz : Nat) : (s.beginTune n tx hz).1.freq = hz := by
  unfold State.beginTune
  split <;> rfl

/-- A retune to another valid channel begins, and the lock is lost. -/
theorem State.exec_txRetuneStart (s : State) (e : Fin 2048) (n : Fin 4) (hlane : (s.ticket e).lane = n.val) (hrun : s.canRun e true = true)
    (hch : (s.lane n).lastCh ≠ some (s.ticket e).ch) (hidle : (s.lane n).txTune = none) (hvalid : s.chValid n (s.ticket e).ch = true) :
    ∃ t r, exec (.txRetuneStart e) s = .next t ∧ (t.lane n).txTune = some r ∧ r.freq = s.chHz n (s.ticket e).ch
      ∧ (t.lane n).lastCh = some (s.ticket e).ch ∧ t.fld (RFL_STAT_TXLOCK n) = 0 := by
  have hstart : s.txRetuneStart e =
      ((s.beginTune n true (s.chHz n (s.ticket e).ch)).2.setLane n
        { (s.beginTune n true (s.chHz n (s.ticket e).ch)).2.lane n with
          txTune := some (s.beginTune n true (s.chHz n (s.ticket e).ch)).1, lastCh := some (s.ticket e).ch }).setFld (RFL_STAT_TXLOCK n) 0 := by
    simp [State.txRetuneStart, hlane, hrun, hch, hidle, hvalid]
  refine ⟨_, _, congrArg Host.Outcome.next hstart, ?_, s.beginTune_freq n true _, ?_, ?_⟩
  · rw [State.lane_setFld, State.lane_setLane_same]
  · rw [State.lane_setFld, State.lane_setLane_same]
  · exact State.fld_setFld_same _ (RFL_STAT_TXLOCK n) 0 (by simp [RFL_STAT_TXLOCK])

/-! ### Blanking (R211) -/

theorem State.win_setTap (s : State) (n k m : Nat) (x : TapSt) :
    ((s.setLane n ((s.lane n).setTap k x)).lane m).win = (s.lane m).win := by
  by_cases hm : m = n
  · subst hm
    rw [State.lane_setLane_same]
    rfl
  · rw [State.lane_setLane_other _ _ _ _ hm]

theorem State.win_endRx (s : State) (n k e m : Nat) : ((s.endRx n k e).lane m).win = (s.lane m).win := by
  rw [State.endRx, State.lane_updateLna]
  exact s.win_setTap n k m TapSt.cold

/-- Blanking a tap leaves the windows that blank. -/
theorem State.win_blankTap (s : State) (n k m : Nat) : ((s.blankTap n k).lane m).win = (s.lane m).win := by
  unfold State.blankTap
  dsimp only
  split
  · split
    · exact State.win_endRx _ _ _ _ _
    · exact State.win_setTap _ _ _ _ _
  · rfl

theorem State.win_blankGroup (s : State) (n m : Nat) : ((s.blankGroup n).lane m).win = (s.lane m).win := by
  rw [State.blankGroup, State.lane_updateLna]
  exact foldl_keeps (fun t : State => (t.lane m).win) _ _ s (fun i _ t =>
    foldl_keeps (fun t : State => (t.lane m).win) _ _ t (fun k _ u => u.win_blankTap i k m))

theorem State.exec_txBlankStart (s : State) (e : Fin 2048) (n : Fin 4) (hlane : (s.ticket e).lane = n.val) (hrun : s.canRun e true = true)
    (hfence : s.txFenced n = false) (hnew : e.val ∉ (s.lane n).win) :
    ∃ t, exec (.txBlankStart e) s = .next t ∧ (t.lane n).win = (s.lane n).win ++ [e.val] ∧ (t.lane n).blank = true := by
  have hstart : s.txBlankStart e = if (s.lane n).blank then s.setLane n { s.lane n with win := (s.lane n).win ++ [e.val] }
      else (s.setLane n { s.lane n with win := (s.lane n).win ++ [e.val] }).blankGroup n := by
    simp [State.txBlankStart, hlane, hrun, hfence, hnew]
  have hwin : ((s.txBlankStart e).lane n).win = (s.lane n).win ++ [e.val] := by
    rw [hstart]
    split
    · rw [State.lane_setLane_same]
    · rw [State.win_blankGroup, State.lane_setLane_same]
  exact ⟨_, rfl, hwin, by simp [Lane.blank, hwin]⟩

/-- TX_BLANK_END ends the lane's only window once its PAEN window is over. -/
theorem State.exec_txBlankEnd (s : State) (e : Nat) (n : Fin 4) (hwin : (s.lane n).win = [e]) (hpa : (s.lane n).pa = [])
    (htx : (s.lane n).tx ≠ some e) :
    ∃ t, exec (.txBlankEnd n) s = .next t ∧ (t.lane n).win = [] ∧ (t.lane n).blank = false := by
  have hend : s.txBlankEnd n = (s.setLane n { s.lane n with win := [] }).updateLna := by
    simp [State.txBlankEnd, hwin, hpa, htx]
  exact ⟨_, congrArg Host.Outcome.next hend, by simp, by simp [Lane.blank]⟩

/-! ### The antenna and PAEN (R203, R210) -/

/-- While beats run, ANTSEL of a cast lane is the antenna that its transmit ticket holds. -/
theorem State.antsel_updateLna (s : State) (n : Fin 4) (a : Nat) (hbeat : s.beating = true) (hcast : s.isCast (9 + n) = true)
    (hant : (s.lane n).txAnt = some a) : s.updateLna.pins.antsel.getD n 0 = a := by
  have hwant : s.antWanted n = a := by rw [State.antWanted, hant]; rfl
  simp [State.updateLna, hbeat, hcast, hwant, n.isLt]

theorem State.exec_txAntsel (s : State) (e : Fin 2048) (n : Fin 4) (hlane : (s.ticket e).lane = n.val) (hrun : s.canRun e true = true)
    (hfence : s.txFenced n = false) :
    ∃ t, exec (.txAntsel e) s = .next t ∧ (t.lane n).txAnt = some (s.ticket e).ant
      ∧ (s.beating = true → t.pins.antsel.getD n 0 = (s.ticket e).ant) := by
  have hcast : s.isCast (9 + n) = true := hlane ▸ State.canRun_cast hrun
  have hset : s.txAntsel e = (s.setLane n { s.lane n with txAnt := some (s.ticket e).ant }).updateLna := by
    simp [State.txAntsel, hlane, hrun, hfence]
  exact ⟨_, congrArg Host.Outcome.next hset, by simp, fun hbeat => State.antsel_updateLna _ n _ hbeat hcast (by simp)⟩

theorem State.exec_txPaenRise (s : State) (e : Fin 2048) (n : Fin 4) (hlane : (s.ticket e).lane = n.val) (hrun : s.canRun e true = true)
    (hfence : s.txFenced n = false) (hwin : e.val ∈ (s.lane n).win) (hpa : e.val ∉ (s.lane n).pa) :
    ∃ t, exec (.txPaenRise e) s = .next t ∧ (t.lane n).pa = (s.lane n).pa ++ [e.val]
      ∧ t.pins.paen = setAt s.pins.paen n (s.isSet (RFL_FECTL_EXTPA n)) := by
  have hrise : s.txPaenRise e
      = ((s.setLane n { s.lane n with pa := (s.lane n).pa ++ [e.val], txAnt := some (s.ticket e).ant }).setPaen n
        (s.isSet (RFL_FECTL_EXTPA n))).updateLna := by
    simp [State.txPaenRise, hlane, hrun, hfence, hwin, hpa]
    rfl
  refine ⟨_, congrArg Host.Outcome.next hrise, ?_, State.updateLna_paen _⟩
  rw [State.lane_updateLna]
  exact congrArg Lane.pa (s.lane_setLane_same n _)

/-! ### The frame on air (R200, R203) -/

/-- The frame begins where nothing blocks it. -/
theorem State.exec_txRampUp_free (s u : State) (f : Option (List Byte)) (e : Fin 2048) (n : Fin 4) (hlane : (s.ticket e).lane = n.val)
    (hrun : s.canRun e true = true) (hnew : (s.ticket e).started = false) (hframe : s.buildFrame (s.ticket e) = (f, u))
    (hfree : u.txBlocked (s.ticket e) f = none) :
    ∃ t, exec (.txRampUp e) s = .next t ∧ (t.ticket e).started = true ∧ (t.lane n).tx = some e.val
      ∧ (t.lane n).rampUp = some (s.ticket e).lo ∧ (t.lane n).abort = false ∧ (t.lane n).rampDn = false
      ∧ (t.lane n).air = some (u.airTx n (u.chProf n (s.ticket e).ch) (f.getD [])) := by
  have hup : s.txRampUp e = (u.setTicket e { s.ticket e with started := true }).setLane n { u.lane n with
      tx := some e.val, rampUp := some (s.ticket e).lo, rampDn := false, abort := false
      air := some (u.airTx n (u.chProf n (s.ticket e).ch) (f.getD [])) } := by
    simp only [State.txRampUp, hrun, hnew, hframe, hfree, hlane]
    rfl
  exact ⟨_, congrArg Host.Outcome.next hup, by simp, by simp, by simp, by simp, by simp, by simp⟩

/-- A blocked ticket ends NOTREADY with the first cause, and its PAEN window is over. -/
theorem State.exec_txRampUp_blocked (s u : State) (f : Option (List Byte)) (e : Fin 2048) (n : Fin 4) (hlane : (s.ticket e).lane = n.val)
    (hrun : s.canRun e true = true) (hnew : (s.ticket e).started = false) (hframe : s.buildFrame (s.ticket e) = (f, u))
    (hblocked : u.txBlocked (s.ticket e) f ≠ none) :
    ∃ t, exec (.txRampUp e) s = .next t ∧ (t.ticket e).result = rsNotReady ∧ (t.ticket e).why = u.txBlocked (s.ticket e) f
      ∧ (t.ticket e).final = true ∧ (t.lane n).pa = (s.lane n).pa.filter (· != e.val)
      ∧ ((s.lane n).pa = [e.val] → t.pins.paen = setAt s.pins.paen n false) := by
  obtain ⟨why, hwhy⟩ := Option.ne_none_iff_exists'.mp hblocked
  have hstay : s.LanesStay u := by
    have h := s.lanesStay_buildFrame (s.ticket e)
    rwa [hframe] at h
  have hup : s.txRampUp e = (u.notReady e why).paenFall n e := by
    simp only [State.txRampUp, hrun, hnew, hframe, hwhy, hlane]
    rfl
  have hlaneOf : (u.notReady e why).lane n = s.lane n := (State.lane_of_lanes (u.notReady_lanes e why) n).trans (hstay.lane n)
  refine ⟨_, congrArg Host.Outcome.next hup, by simp, by simp [hwhy], by simp, ?_, fun hpa => ?_⟩
  · rw [State.lane_paenFall, hlaneOf]
  · rw [State.paen_paenFall_last _ _ _ (hlaneOf ▸ hpa), State.notReady_pins, hstay.pins]

theorem State.airOut_on (s : State) (n e : Nat) (a : AirTx) (whole : Bool) (htx : (s.lane n).tx = some e) (hair : (s.lane n).air = some a) :
    s.airOut n whole = (s.setLane n { s.lane n with air := none }).emit
      (.air n (s.ticket e).ch ((s.ticket e).edge + (s.ticket e).offset) a whole) := by
  simp [State.airOut, htx, hair]

/-- The frame has been sent whole, and the ramp-down begins. -/
theorem State.exec_txRampDown (s : State) (e : Fin 2048) (n : Fin 4) (hlane : (s.ticket e).lane = n.val) (hrun : s.canRun e true = true)
    (t0 : Nat) (a : AirTx) (htx : (s.lane n).tx = some e.val) (hup : (s.lane n).rampUp = some t0) (hdn : (s.lane n).rampDn = false)
    (hair : (s.lane n).air = some a) :
    ∃ t, exec (.txRampDown e) s = .next t ∧ t.lane n = { s.lane n with rampDn := true, air := none }
      ∧ t.out = s.out ++ [.air n (s.ticket e).ch ((s.ticket e).edge + (s.ticket e).offset) a true] := by
  have hdown : s.txRampDown e = (s.airOut n true).setLane n { (s.airOut n true).lane n with rampDn := true } := by
    simp [State.txRampDown, hlane, hrun, htx, hup, hdn]
  have hout := s.airOut_on n e a true htx hair
  have hlaneOf : (s.airOut n true).lane n = { s.lane n with air := none } := by
    rw [hout, State.lane_emit, State.lane_setLane_same]
  refine ⟨_, congrArg Host.Outcome.next hdown, ?_, ?_⟩
  · rw [State.lane_setLane_same, hlaneOf]
  · rw [State.setLane_out, hout, State.emit, State.setLane_out]

/-! ### The outcome (R204, R212) -/

/-- The ticket of a transmission whose ramp-down has ended, t0 being the instant of its ramp-up. -/
def Ticket.radiated (t : Ticket) (cut : Bool) (t0 ts : Nat) : Ticket :=
  if cut then { t with result := rsAborted, final := true, charge := min (ticksUs (ts - t0)) t.air }
  else { t with result := rsDone, final := true, charge := t.air }

/-- A transmission that was not cut counts. -/
def State.countSent (s : State) (n : Nat) (cut : Bool) : State := if cut then s else s.count (RFL_TXDONE_COUNT n)

@[simp] theorem State.ticket_countSent (s : State) (n : Nat) (cut : Bool) (e : Nat) : (s.countSent n cut).ticket e = s.ticket e := by
  cases cut <;> rfl

@[simp] theorem State.countSent_pins (s : State) (n : Nat) (cut : Bool) : (s.countSent n cut).pins = s.pins := by
  cases cut <;> rfl

theorem State.txPaenFall_eq (s : State) (e ts t0 n : Nat) (hlane : (s.ticket e).lane = n) (hrun : s.canRun e true = true)
    (htx : (s.lane n).tx = some e) (hup : (s.lane n).rampUp = some t0) (hdn : (s.lane n).rampDn = true) :
    s.txPaenFall e ts = (((s.setTicket e ((s.ticket e).radiated (s.lane n).abort t0 ts)).countSent n (s.lane n).abort).setLane n
      { s.lane n with tx := none, rampUp := none, rampDn := false, abort := false }).paenFall n e := by
  subst hlane
  cases hab : (s.lane (s.ticket e).lane).abort <;>
    simp [State.txPaenFall, hrun, htx, hup, hdn, hab, Ticket.radiated, State.countSent]

theorem State.exec_txPaenFall (s : State) (e : Fin 2048) (n : Fin 4) (hlane : (s.ticket e).lane = n.val) (hrun : s.canRun e true = true)
    (t0 : Nat) (htx : (s.lane n).tx = some e.val) (hup : (s.lane n).rampUp = some t0) (hdn : (s.lane n).rampDn = true) (ts : BitVec 64) :
    ∃ t, exec (.txPaenFall e ts) s = .next t
      ∧ (t.lane n).pa = (s.lane n).pa.filter (· != e.val) ∧ (t.lane n).rampUp = none ∧ (t.ticket e).final = true
      ∧ ((s.lane n).pa = [e.val] → t.pins.paen = setAt s.pins.paen n false)
      ∧ ((s.lane n).abort = false → (t.ticket e).result = rsDone ∧ (t.ticket e).charge = (s.ticket e).air
        ∧ t.fld (RFL_TXDONE_COUNT n) = min (s.fld (RFL_TXDONE_COUNT n) + 1) (2 ^ (RFL_TXDONE_COUNT n).len - 1))
      ∧ ((s.lane n).abort = true → (t.ticket e).result = rsAborted
        ∧ (t.ticket e).charge = min (ticksUs (ts.toNat - t0)) (s.ticket e).air) := by
  refine ⟨_, congrArg Host.Outcome.next (s.txPaenFall_eq e ts.toNat t0 n hlane hrun htx hup hdn), ?_, ?_, ?_, fun hpa => ?_,
    fun hab => ?_, fun hab => ?_⟩
  · rw [State.lane_paenFall, State.lane_setLane_same]
  · rw [State.lane_paenFall, State.lane_setLane_same]
  · rw [State.ticket_paenFall, State.ticket_setLane, State.ticket_countSent, State.ticket_setTicket_same, Ticket.radiated]
    split <;> rfl
  · rw [State.paen_paenFall_last _ _ _ (by rw [State.lane_setLane_same]; exact hpa), State.setLane_pins, State.countSent_pins,
      State.setTicket_pins]
  · refine ⟨?_, ?_, ?_⟩
    · simp [hab, Ticket.radiated]
    · simp [hab, Ticket.radiated]
    · rw [State.fld_paenFall, State.fld_setLane, hab]
      exact State.fld_count_same _ (RFL_TXDONE_COUNT n) (Nat.le_refl 32)
  · simp [hab, Ticket.radiated]

/-- Settles O30, clause by clause. -/
theorem transmitTickets : Obligations.TransmitTickets := by
  unfold Obligations.TransmitTickets
  intro s e n hlane hrun
  refine ⟨s.exec_txRetuneStart e n hlane hrun, fun hfence => ⟨s.exec_txBlankStart e n hlane hrun hfence,
    s.exec_txAntsel e n hlane hrun hfence, s.exec_txPaenRise e n hlane hrun hfence⟩, fun hnew f u hframe => ⟨?_, ?_⟩,
    fun t0 htx hup => ⟨fun a => s.exec_txRampDown e n hlane hrun t0 a htx hup, s.exec_txPaenFall e n hlane hrun t0 htx hup⟩,
    s.exec_txBlankEnd e n⟩
  · exact s.exec_txRampUp_free u f e n hlane hrun hnew hframe
  · exact s.exec_txRampUp_blocked u f e n hlane hrun hnew hframe

end Sys2Proof.Machine

/-! The temper table and the transfer register of the front-end bus: what a write of them does, and the one state of affairs in which
they hold another value than the one written: the device has latched a bit of the word in the same tick (R5, R208, R213). -/

namespace Sys2Proof.Machine

open Sys2Proof.Fields

/-! ### The temper table (R208) -/

theorem temperAddr_place (n : Fin 4) (e : Fin 512) (w : Fin 8) :
    0x420000 ≤ temperAddr n e w ∧ temperAddr n e w < 0x430000 ∧ temperAddr n e w % 4 = 0 := by
  simp only [temperAddr]; omega

/-- The table has no register of the index, so a write stores the bits that its mask gives. -/
theorem mergeWord_temperAddr (n : Fin 4) (e : Fin 512) (w : Fin 8) (old v : Word) : mergeWord (temperAddr n e w) old v
    = (old &&& ~~~(tableMask (temperAddr n e w))) ||| (v &&& tableMask (temperAddr n e w)) := by
  obtain ⟨hlo, hhi, -⟩ := temperAddr_place n e w
  have hregs : regsOf (temperAddr n e w) = [] := by
    have hwindow : temperAddr n e w / 0x10000 = 0x42 := by omega
    simp [regsOf, hwindow, show ¬ temperAddr n e w < 0x300000 by omega]
  rw [mergeWord, regAt, hregs, List.find?_nil]

theorem State.holdGain_temperAddr (s : State) (n : Fin 4) (e : Fin 512) (w : Fin 8) (v : Word) :
    s.holdGain (temperAddr n e w) v = s := by
  obtain ⟨hlo, -⟩ := temperAddr_place n e w
  have hchain : ¬ (temperAddr n e w = GNF_CTL 0 ∨ temperAddr n e w = GNF_CTL 1) := by simp only [GNF_CTL]; omega
  have hlane : ¬ temperAddr n e w / 0x10000 < 9 := by omega
  simp only [State.holdGain, hchain, hlane, false_and, and_false, if_false]

/-- A write of the table stores the word and does no more. -/
theorem State.applyWrite_temperAddr (s : State) (src : BusSrc) (n : Fin 4) (e : Fin 512) (w : Fin 8) (v : Word) :
    s.applyWrite src (temperAddr n e w) v = s.storeWord (temperAddr n e w) v := by
  obtain ⟨hlo, hhi, -⟩ := temperAddr_place n e w
  rw [State.applyWrite, if_neg (by omega), if_neg (by omega), if_neg (by omega), if_neg (by omega), if_neg (by omega),
    State.plainWrite, s.holdGain_temperAddr, if_neg (by omega), if_neg (by omega), if_neg (by omega), if_neg (by omega), if_neg (by omega),
    if_neg (by omega)]

/-- The effect that O31 states of TEMPER_TABLE_WRITE, in every state in whose tick the device has latched no bit of the word. -/
theorem temperTableWrite_stores (s : State) (src : BusSrc) (n : Fin 4) (e : Fin 512) (w : Fin 8) (v : Word)
    (h : s.takes (temperAddr n e w) v) (hn : s.setNow (temperAddr n e w) = 0#32) :
    ∃ t, exec (.temperTableWrite src n e w v) s = .next t
      ∧ t.get (temperAddr n e w) = (s.get (temperAddr n e w) &&& ~~~(tableMask (temperAddr n e w)))
          ||| (v &&& tableMask (temperAddr n e w))
      ∧ ∀ a, a ≠ temperAddr n e w → t.get a = s.get a := by
  obtain ⟨hlo, -, h4⟩ := temperAddr_place n e w
  have hmgt : temperAddr n e w ≠ MGT_MODEREQ ∧ temperAddr n e w ≠ MGT_CASTCTL ∧ temperAddr n e w ≠ MGT_FRESET
      ∧ temperAddr n e w ≠ MGT_ASSAYCTL := by
    simp only [MGT_MODEREQ, MGT_CASTCTL, MGT_FRESET, MGT_ASSAYCTL]; omega
  have hwrite : s.write src (temperAddr n e w) v
      = (s.put (temperAddr n e w) (mergeWord (temperAddr n e w) (s.get (temperAddr n e w)) v)).markDirty (temperAddr n e w) := by
    rw [s.write_taken src _ v h4 h, State.mgtWrite_other _ _ _ _ hmgt, s.applyWrite_temperAddr,
      s.storeWord_unlatched _ v (.inr (by omega)) (.inr (by omega)) hn]
  refine ⟨_, congrArg Host.Outcome.next hwrite, ?_, fun a ha => ?_⟩
  · rw [State.get_markDirty, State.get_put_same, mergeWord_temperAddr]
  · rw [State.get_markDirty, State.get_put_other _ _ _ _ ha]

/-- The state after reset, ready in ANNEAL with the timebase running and lane 0 cast, in whose tick the device has latched bit 0 of the
lane's first temper word. -/
def State.temperLatched : State :=
  State.latch { State.reset with
      sys := { State.reset.sys with phase := .ready, cast := [9] }
      tim := { State.reset.tim with run := true } }
    ⟨temperAddr 0 0 0, 0, 1⟩

theorem takes_temperLatched : State.temperLatched.takes (temperAddr (0 : Fin 4) (0 : Fin 512) (0 : Fin 8)) 0 := by
  decide +kernel

/-- The latched bit outlives the 0 that is written over it. -/
theorem temperWord_of_write_temperLatched :
    (State.temperLatched.write .pcie (temperAddr (0 : Fin 4) (0 : Fin 512) (0 : Fin 8)) 0).get
      (temperAddr (0 : Fin 4) (0 : Fin 512) (0 : Fin 8)) = 1 := by
  decide +kernel

/-- The word that O31 states for that write. -/
theorem temperWord_stated : (State.temperLatched.get (temperAddr (0 : Fin 4) (0 : Fin 512) (0 : Fin 8))
      &&& ~~~(tableMask (temperAddr (0 : Fin 4) (0 : Fin 512) (0 : Fin 8))))
    ||| ((0 : Word) &&& tableMask (temperAddr (0 : Fin 4) (0 : Fin 512) (0 : Fin 8))) = 0 := by
  decide +kernel

/-- Refutes O31 in its clause on TEMPER_TABLE_WRITE, which speaks of every state, and so of one in whose tick the device has latched a
bit of the written word: that bit stays set (R5). No operation of the model latches a bit of the table; where none is latched the clause
holds, by `temperTableWrite_stores`. -/
theorem not_laneUpkeep : ¬ Obligations.LaneUpkeep := by
  unfold Obligations.LaneUpkeep
  intro h
  obtain ⟨-, -, -, -, hwrite⟩ := h State.temperLatched .pcie 0
  obtain ⟨t, hexec, hstored, -⟩ := hwrite 0 0 0 takes_temperLatched
  obtain rfl : State.temperLatched.write .pcie (temperAddr (0 : Fin 4) (0 : Fin 512) (0 : Fin 8)) 0 = t := Host.Outcome.next.inj hexec
  rw [temperWord_of_write_temperLatched, temperWord_stated] at hstored
  exact absurd hstored (by decide)

/-! ### The transfer register of the front-end bus (R213) -/

theorem regAt_fmbxfer : regAt RFL0_FMBXFER = some ⟨"RFL0_FMBXFER", 0x50304, 0x0, 1, 0x0, 1,
    [⟨31, 1, .W1P, 0, false, .any⟩, ⟨30, 1, .RW, 0, false, .any⟩, ⟨16, 7, .RW, 0, false, .any⟩, ⟨8, 8, .RW, 0, false, .any⟩,
      ⟨0, 8, .RW, 0, false, .any⟩]⟩ := by
  decide +kernel

/-- The host's transaction that a written word of the register names. -/
def xferOp (v : Word) : FmbOp :=
  ⟨none, getFld v RFL0_FMBXFER_READ != 0, getFld v RFL0_FMBXFER_ADDR, getFld v RFL0_FMBXFER_REG, getFld v RFL0_FMBXFER_DATA, 0⟩

/-- The register as merged names the transaction that was written. -/
theorem xferOp_mergeWord (old v : Word) : xferOp (mergeWord RFL0_FMBXFER old v) = xferOp v := by
  have hfld (lo len : Nat) (hm : (⟨lo, len, .RW, 0, false, .any⟩ : FSpec) ∈ [(⟨31, 1, .W1P, 0, false, .any⟩ : FSpec),
      ⟨30, 1, .RW, 0, false, .any⟩, ⟨16, 7, .RW, 0, false, .any⟩, ⟨8, 8, .RW, 0, false, .any⟩, ⟨0, 8, .RW, 0, false, .any⟩]) :
      getFld (mergeWord RFL0_FMBXFER old v) ⟨RFL0_FMBXFER, lo, len⟩ = getFld v ⟨RFL0_FMBXFER, lo, len⟩ :=
    getFld_mergeWord_RW _ old v _ regAt_fmbxfer (by decide) _ hm rfl
  have hread := hfld 30 1 (by decide)
  have haddr := hfld 16 7 (by decide)
  have hreg := hfld 8 8 (by decide)
  have hdata := hfld 0 8 (by decide)
  simp only [xferOp, RFL0_FMBXFER_READ, RFL0_FMBXFER_ADDR, RFL0_FMBXFER_REG, RFL0_FMBXFER_DATA, hread, haddr, hreg, hdata]

/-- GO starts the transaction that the register names. -/
theorem State.applyWrite_fmbxfer (s : State) (src : BusSrc) (v : Word) (hgo : getFld v RFL0_FMBXFER_GO = 1) :
    s.applyWrite src RFL0_FMBXFER v = (s.storeWord RFL0_FMBXFER v).fmbSend (xferOp ((s.storeWord RFL0_FMBXFER v).get RFL0_FMBXFER)) :=
  if_pos hgo

theorem State.fmbSend_beating (s : State) (o : FmbOp) (h : s.beating = true) :
    s.fmbSend o = State.emit { s with fmb := { s.fmb with cur := some o } } (.fmb o.read o.addr o.reg o.val) :=
  if_pos h

/-- While beats run, an accepted GO puts the named transaction on the bus, where the device has latched no bit of the register in this
tick. -/
theorem State.write_fmbxfer (s : State) (src : BusSrc) (v : Word) (o : FmbOp) (h : s.takes RFL0_FMBXFER v)
    (hgo : getFld v RFL0_FMBXFER_GO = 1) (ho : xferOp v = o) (hbeat : s.beating = true) (hn : s.setNow RFL0_FMBXFER = 0#32) :
    (s.write src RFL0_FMBXFER v).fmb = ⟨some o, s.fmb.todo⟩
    ∧ (s.write src RFL0_FMBXFER v).out = s.out ++ [.fmb o.read o.addr o.reg o.val] := by
  have hstore := s.storeWord_unlatched RFL0_FMBXFER v (.inr (by decide)) (.inl (by decide)) hn
  have hbeat' : (s.storeWord RFL0_FMBXFER v).beating = true := by
    have hmode : (s.storeWord RFL0_FMBXFER v).mode = s.mode := by
      rw [hstore]
      exact State.fld_of_get _ (s.get_put_other _ _ _ (by decide))
    rwa [State.beating, hmode]
  have hop : xferOp ((s.storeWord RFL0_FMBXFER v).get RFL0_FMBXFER) = o := by
    rw [hstore, State.get_put_same, xferOp_mergeWord, ho]
  have hwrite : s.write src RFL0_FMBXFER v = (State.emit { s.storeWord RFL0_FMBXFER v with
      fmb := { (s.storeWord RFL0_FMBXFER v).fmb with cur := some o } } (.fmb o.read o.addr o.reg o.val)).markDirty RFL0_FMBXFER := by
    rw [s.write_taken src _ v (by decide) h, State.mgtWrite_other _ _ _ _ (by decide), s.applyWrite_fmbxfer src v hgo, hop,
      State.fmbSend_beating _ o hbeat']
  rw [hwrite, State.markDirty_fmb, State.markDirty_out, hstore]
  exact ⟨rfl, rfl⟩

/-- The word of FMB_WRITE. -/
abbrev fmbWriteWord (addr : BitVec 7) (reg val : Byte) : Word :=
  putAll 0 [(RFL0_FMBXFER_GO, 1), (RFL0_FMBXFER_READ, 0), (RFL0_FMBXFER_ADDR, addr.toNat), (RFL0_FMBXFER_REG, reg.toNat),
    (RFL0_FMBXFER_DATA, val.toNat)]

/-- The word of FMB_READ. -/
abbrev fmbReadWord (addr : BitVec 7) (reg : Byte) : Word :=
  putAll 0 [(RFL0_FMBXFER_GO, 1), (RFL0_FMBXFER_READ, 1), (RFL0_FMBXFER_ADDR, addr.toNat), (RFL0_FMBXFER_REG, reg.toNat)]

theorem fmbWriteWord_flds (addr : BitVec 7) (reg val : Byte) : getFld (fmbWriteWord addr reg val) RFL0_FMBXFER_GO = 1
    ∧ xferOp (fmbWriteWord addr reg val) = ⟨none, false, addr.toNat, reg.toNat, val.toNat, 0⟩ := by
  have haddr : addr.toNat % 2 ^ 7 = addr.toNat := Nat.mod_eq_of_lt addr.isLt
  have hreg : reg.toNat % 2 ^ 8 = reg.toNat := Nat.mod_eq_of_lt reg.isLt
  have hval : val.toNat % 2 ^ 8 = val.toNat := Nat.mod_eq_of_lt val.isLt
  simp (disch := decide) only [xferOp, fmbWriteWord, putAll, List.foldl_cons, List.foldl_nil, getFld_putFld_same, getFld_putFld_other]
  simp only [RFL0_FMBXFER_GO, RFL0_FMBXFER_READ, RFL0_FMBXFER_ADDR, RFL0_FMBXFER_REG, RFL0_FMBXFER_DATA, haddr, hreg, hval]
  exact ⟨rfl, rfl⟩

theorem fmbReadWord_flds (addr : BitVec 7) (reg : Byte) : getFld (fmbReadWord addr reg) RFL0_FMBXFER_GO = 1
    ∧ xferOp (fmbReadWord addr reg) = ⟨none, true, addr.toNat, reg.toNat, 0, 0⟩ := by
  have haddr : addr.toNat % 2 ^ 7 = addr.toNat := Nat.mod_eq_of_lt addr.isLt
  have hreg : reg.toNat % 2 ^ 8 = reg.toNat := Nat.mod_eq_of_lt reg.isLt
  simp (disch := decide) only [xferOp, fmbReadWord, putAll, List.foldl_cons, List.foldl_nil, getFld_putFld_same, getFld_putFld_other]
  simp only [RFL0_FMBXFER_GO, RFL0_FMBXFER_READ, RFL0_FMBXFER_ADDR, RFL0_FMBXFER_REG, RFL0_FMBXFER_DATA, haddr, hreg]
  exact ⟨rfl, rfl⟩

/-- The effect that O32 states of FMB_WRITE, in every state in whose tick the device has latched no bit of the register. -/
theorem fmbWrite_sends (s : State) (src : BusSrc) (addr : BitVec 7) (reg val : Byte) (hbeat : s.beating = true)
    (h : s.takes RFL0_FMBXFER (fmbWriteWord addr reg val)) (hn : s.setNow RFL0_FMBXFER = 0#32) :
    ∃ t, exec (.fmbWrite src addr reg val) s = .next t
      ∧ t.fmb = ⟨some ⟨none, false, addr.toNat, reg.toNat, val.toNat, 0⟩, s.fmb.todo⟩
      ∧ t.out = s.out ++ [.fmb false addr.toNat reg.toNat val.toNat] := by
  obtain ⟨hgo, hop⟩ := fmbWriteWord_flds addr reg val
  exact ⟨_, rfl, s.write_fmbxfer src _ _ h hgo hop hbeat hn⟩

/-- The effect that O32 states of FMB_READ, in every state in whose tick the device has latched no bit of the register. -/
theorem fmbRead_sends (s : State) (src : BusSrc) (addr : BitVec 7) (reg : Byte) (hbeat : s.beating = true)
    (h : s.takes RFL0_FMBXFER (fmbReadWord addr reg)) (hn : s.setNow RFL0_FMBXFER = 0#32) :
    ∃ t, exec (.fmbRead src addr reg) s = .next t
      ∧ t.fmb = ⟨some ⟨none, true, addr.toNat, reg.toNat, 0, 0⟩, s.fmb.todo⟩
      ∧ t.out = s.out ++ [.fmb true addr.toNat reg.toNat 0] := by
  obtain ⟨hgo, hop⟩ := fmbReadWord_flds addr reg
  exact ⟨_, rfl, s.write_fmbxfer src _ _ h hgo hop hbeat hn⟩

/-- The state after reset in SERVICE, with the timebase running and lane 0 cast, in whose tick the device has latched bit 0 of
RFL0_FMBXFER.DATA. -/
def State.xferLatched : State :=
  State.latch (State.setFld { State.reset with
      sys := { State.reset.sys with phase := .running, cast := [9] }
      tim := { State.reset.tim with run := true } } MGT_MODE_MODE modeService)
    ⟨RFL0_FMBXFER, 0, 1⟩

theorem beating_xferLatched : State.xferLatched.beating = true := by
  decide +kernel

theorem takes_xferLatched : State.xferLatched.takes RFL0_FMBXFER (fmbWriteWord 0 0 0) := by
  decide +kernel

/-- The transaction that goes out there for FMB_WRITE of 0: the latched bit makes its data 1. -/
theorem fmb_of_write_xferLatched : (State.xferLatched.write .pcie RFL0_FMBXFER (fmbWriteWord 0 0 0)).fmb.cur
    = some ⟨none, false, 0, 0, 1, 0⟩ := by
  decide +kernel

/-- Refutes O32 in its clause on FMB_WRITE, which speaks of every state, and so of one in whose tick the device has latched a bit of
RFL0_FMBXFER.DATA: that bit stays set (R5), and the transaction carries it. No operation of the model latches a bit of the register; where
none is latched the clauses on the host's transactions hold, by `fmbWrite_sends` and `fmbRead_sends`. -/
theorem not_frontEndBus : ¬ Obligations.FrontEndBus := by
  unfold Obligations.FrontEndBus
  intro h
  obtain ⟨hwrite, -⟩ := h State.xferLatched .pcie beating_xferLatched
  obtain ⟨t, hexec, hfmb, -⟩ := hwrite 0 0 0 takes_xferLatched
  obtain rfl := Host.Outcome.next.inj hexec
  have hcur := fmb_of_write_xferLatched.symm.trans (congrArg Fmb.cur hfmb)
  exact absurd hcur (by decide)

end Sys2Proof.Machine

/-! Received frames: what the reports that a frame sets off leave alone, events, counts, and the neighbour that it refreshes (R237, R277). -/

namespace Sys2Proof.Machine

open Sys2Proof.Fields Sys2Proof.Laws

/-! ### What events and writes of the banks leave alone -/

/-- `t` follows from `s` by events and by writes of the banks: outputs are only added, and what frames are judged and delivered by stays. -/
structure State.Spares (s t : State) : Prop where
  nodes : t.nodes = s.nodes
  sch : t.sch = s.sch
  mac : t.mac = s.mac
  tim : t.tim = s.tim
  fwd : t.fwd = s.fwd
  xBuf : t.hst.xBuf = s.hst.xBuf
  xSeq : t.hst.xSeq = s.hst.xSeq
  out : s.out <+: t.out

theorem State.Spares.refl (s : State) : s.Spares s := ⟨rfl, rfl, rfl, rfl, rfl, rfl, rfl, List.prefix_rfl⟩

theorem State.Spares.trans {s t u : State} (h : s.Spares t) (h' : t.Spares u) : s.Spares u :=
  ⟨h'.nodes.trans h.nodes, h'.sch.trans h.sch, h'.mac.trans h.mac, h'.tim.trans h.tim, h'.fwd.trans h.fwd, h'.xBuf.trans h.xBuf,
    h'.xSeq.trans h.xSeq, h.out.trans h'.out⟩

theorem State.spares_put (s : State) (a : Nat) (w : Word) : s.Spares (s.put a w) := ⟨rfl, rfl, rfl, rfl, rfl, rfl, rfl, List.prefix_rfl⟩

theorem State.sendVector_xSeq (s : State) (v : Nat) : (s.sendVector v).hst.xSeq = s.hst.xSeq := by
  unfold State.sendVector
  dsimp only
  split <;> rfl

theorem State.eventVector_xSeq (s : State) (id : Nat) : (s.eventVector id).hst.xSeq = s.hst.xSeq := by
  unfold State.eventVector State.signalVector
  split
  · split
    · rfl
    · exact s.sendVector_xSeq _
  · rfl

theorem State.dropRecord_xSeq (s : State) (id : Nat) : (s.dropRecord id).hst.xSeq = s.hst.xSeq := by
  have hcount (u : State) : (u.countEvent 246 0).hst.xSeq = u.hst.xSeq := congrArg Hst.xSeq (u.countEvent_hst 246 0)
  unfold State.dropRecord
  refine (State.eventVector_xSeq _ id).trans ?_
  split
  · exact hcount _
  · rfl

/-- No event takes a SEQ of the express records. -/
theorem State.raise_xSeq (s : State) (id data : Nat) : (s.raise id data).hst.xSeq = s.hst.xSeq := by
  have hcount : (s.countEvent id data).hst.xSeq = s.hst.xSeq := by rw [s.countEvent_hst]
  have hrecord (u : State) : (u.generateRecord id data).hst.xSeq = u.hst.xSeq := by
    unfold State.generateRecord
    dsimp only
    split
    · rfl
    · exact State.dropRecord_xSeq _ id
  unfold State.raise
  dsimp only
  split
  · exact hcount
  · split
    · exact (hrecord _).trans hcount
    · exact (State.eventVector_xSeq _ id).trans hcount

theorem State.spares_raise (s : State) (id data : Nat) : s.Spares (s.raise id data) :=
  ⟨s.raise_nodes id data, s.raise_sch id data, s.raise_mac id data, s.raise_tim id data, s.raise_fwd id data, (s.holds_raise id data).xBuf,
    s.raise_xSeq id data, s.raise_out id data⟩

theorem State.spares_raiseLimited (s : State) (key id data : Nat) : s.Spares (s.raiseLimited key id data) := by
  have hnote : s.Spares (s.noteRaise key) := ⟨rfl, rfl, rfl, rfl, rfl, rfl, rfl, List.prefix_rfl⟩
  unfold State.raiseLimited
  split
  · exact hnote.trans (State.spares_raise _ id data)
  · exact .refl s

theorem State.spares_readWord (s : State) (o : Nat) (sc : Bool) (w : Nat) : s.Spares (s.readWord o sc w).2 := by
  have haddr (u : State) (v : Word) : u.Spares (u.put MEM_UEADDR v) := u.spares_put _ v
  have hcounts (f g : Fld) : s.Spares ((s.count f).count g) := (s.spares_put _ _).trans (State.spares_put _ _ _)
  unfold State.readWord
  split
  · exact .refl s
  · exact (hcounts _ _).trans (State.spares_raiseLimited _ 233 233 0)
  · exact (((((hcounts _ _).trans (haddr _ _)).trans (haddr _ _)).trans (haddr _ _)).trans (haddr _ _)).trans (State.spares_raise _ 234 0)

theorem State.spares_writeWord (s : State) (o a : Nat) (bs : List Byte) (w : Nat) : s.Spares (s.writeWord o a bs w) := by
  have hmem (u : State) (m : Mem) : u.Spares { u with mem := m } := ⟨rfl, rfl, rfl, rfl, rfl, rfl, rfl, List.prefix_rfl⟩
  have hinject (u : State) : u.Spares (u.inject w) := by
    unfold State.inject
    split
    · exact (hmem u _).trans (State.spares_put _ _ _)
    · exact .refl u
  have hread := s.spares_readWord o false w
  unfold State.writeWord
  dsimp only
  split
  · exact ((hmem s _).trans (hmem _ _)).trans (hinject _)
  · split
    · exact hread.trans ((hmem _ _).trans (hmem _ _))
    · exact hread

theorem State.spares_nonOwner (s : State) (o b off : Nat) (write : Bool) : s.Spares (s.nonOwner o b off write) := by
  have htick (u : State) (t : Tick) (h : s.Spares u) : s.Spares { u with tick := t } :=
    ⟨h.nodes, h.sch, h.mac, h.tim, h.fwd, h.xBuf, h.xSeq, h.out⟩
  have hput (u : State) (a : Nat) (v : Word) : u.Spares (u.put a v) := u.spares_put a v
  unfold State.nonOwner
  refine (htick _ _ ?_).trans (State.spares_raise _ 232 0)
  split
  · exact hput s _ _
  · exact ((((hput s _ _).trans (hput _ _ _)).trans (hput _ _ _)).trans (hput _ _ _)).trans ((hput _ _ _).trans (hput _ _ _))

theorem State.spares_bankWrite (s : State) (o a : Nat) (bs : List Byte) : s.Spares (s.bankWrite o a bs).2 := by
  have hwords (l : List Nat) (u : State) : u.Spares (l.foldl (fun s w => s.writeWord o a bs w) u) := by
    induction l generalizing u with
    | nil => exact .refl u
    | cons w l ih => exact (u.spares_writeWord o a bs w).trans (ih _)
  cases h : s.firstRefused o a bs.length with
  | some b => simp only [State.bankWrite, h]; exact s.spares_nonOwner _ _ _ _
  | none => simp only [State.bankWrite, h]; exact hwords _ s

theorem State.spares_putEntry (s : State) (t i : Nat) (ws : List Nat) : s.Spares (s.putEntry t i ws) := s.spares_bankWrite _ _ _

/-! ### Registers that no judgement of a frame changes -/

/-- The registers of the stations before MAC, and the counts of JOIN-UNKNOWN and SENTINEL. -/
def besideJudgement (a : Nat) : Prop := a < 0x90000 ∨ a = (routeCount 114).addr ∨ a = (routeCount 124).addr

theorem besideSignals_of_besideJudgement (a : Nat) (h : besideJudgement a) : besideSignals a := by
  unfold besideJudgement at h
  refine ⟨?_, ?_, ?_, ?_, fun c hc => ?_⟩ <;> simp only [routeCount, msixPending, HST_ERSTAT, HST_EVSEQ, CHB_CEVQ] at * <;> omega

theorem State.get_raise_besideJudgement (s : State) (id data a : Nat) (h114 : id ≠ 114) (h124 : id ≠ 124) (h : besideJudgement a) :
    (s.raise id data).get a = s.get a := by
  refine ((s.signals_raise id data).regs a (besideSignals_of_besideJudgement a h)).trans (s.get_count_other _ a ?_)
  simp only [besideJudgement, routeCount] at *
  omega

theorem State.get_raiseLimited (s : State) (key id data a : Nat) (h : ∀ u : State, (u.raise id data).get a = u.get a) :
    (s.raiseLimited key id data).get a = s.get a := by
  unfold State.raiseLimited
  split
  · exact h _
  · rfl

/-- A count of MAC or of FWD. -/
theorem State.get_count_besideJudgement (s : State) (f : Fld) (a : Nat) (hlo : 0x90000 ≤ f.addr) (hhi : f.addr < 0x450000)
    (h : besideJudgement a) : (s.count f).get a = s.get a := by
  refine s.get_count_other f a ?_
  simp only [besideJudgement, routeCount] at h
  omega

theorem State.get_putEntry (s : State) (t i : Nat) (ws : List Nat) (a : Nat) (h : besideJudgement a) :
    (s.putEntry t i ws).get a = s.get a := by
  refine (s.stores_bankWrite _ _ _).regs a ?_
  obtain hlow | rfl | rfl := h
  · exact .inl (by omega)
  · exact .inr ⟨114, by decide, rfl⟩
  · exact .inr ⟨124, by decide, rfl⟩

/-! ### A router's neighbour (R277) -/

theorem State.spares_learnDrop (s : State) : s.Spares s.learnDrop := (s.spares_put _ _).trans (State.spares_raiseLimited _ 159 159 0)

theorem State.get_learnDrop (s : State) (a : Nat) (h : besideJudgement a) : s.learnDrop.get a = s.get a :=
  (State.get_raiseLimited _ 159 159 0 a (fun u => u.get_raise_besideJudgement 159 0 a (by decide) (by decide) h)).trans
    (s.get_count_besideJudgement FWD_LEARNDROP_COUNT a (by decide) (by decide) h)

theorem State.spares_nbrRefresh (s : State) (i lane rssi : Nat) : s.Spares (s.nbrRefresh i lane rssi) := by
  unfold State.nbrRefresh State.nbrLearn
  dsimp only
  split
  · exact s.spares_learnDrop
  · split
    · split
      · exact s.spares_learnDrop
      · exact s.spares_putEntry _ _ _
    · split
      · exact (s.spares_put _ _).trans (State.spares_raise _ 156 0)
      · exact s.spares_putEntry _ _ _

theorem State.get_nbrRefresh (s : State) (i lane rssi a : Nat) (h : besideJudgement a) : (s.nbrRefresh i lane rssi).get a = s.get a := by
  unfold State.nbrRefresh State.nbrLearn
  dsimp only
  split
  · exact s.get_learnDrop a h
  · split
    · split
      · exact s.get_learnDrop a h
      · exact s.get_putEntry _ _ _ a h
    · split
      · exact (State.get_raise_besideJudgement _ 156 0 a (by decide) (by decide) h).trans
          (s.get_count_besideJudgement FWD_NBRMOVE_COUNT a (by decide) (by decide) h)
      · exact s.get_putEntry _ _ _ a h

end Sys2Proof.Machine

/-! How a received frame is judged: the counter rule, and what its ticket notes (R237, R240). -/

namespace Sys2Proof.Machine

open Sys2Proof.Fields Sys2Proof.Laws

/-! ### Words of node records (R227) -/

theorem State.nodeWord_setNodeWord_same (s : State) (i w : Nat) (v : Word) : (s.setNodeWord i w v).nodeWord i w = v :=
  tabGet_set_same 0 _ v s.nodes

theorem State.nodeWord_setNodeWord_other (s : State) (i w x : Nat) (v : Word) (h : x ≠ w) :
    (s.setNodeWord i w v).nodeWord i x = s.nodeWord i x := tabGet_set_other 0 0 (by omega) v s.nodes

theorem State.nr_setNr_same (s : State) (i : Nat) (f : Fld) (v : Nat) (h : f.lo + f.len ≤ 32) :
    (s.setNr i f v).nr i f = v % 2 ^ f.len := by
  rw [State.nr, State.setNr, State.nodeWord_setNodeWord_same, getFld_putFld_same _ _ _ h]

/-- A field of the same record that shares no bit keeps its value. -/
theorem State.nr_setNr_keeps (s : State) (i : Nat) (f g : Fld) (v : Nat) (hf : f.lo + f.len ≤ 32)
    (h : g.addr / 4 ≠ f.addr / 4 ∨ f.lo + f.len ≤ g.lo ∨ g.lo + g.len ≤ f.lo) : (s.setNr i f v).nr i g = s.nr i g := by
  by_cases ha : g.addr / 4 = f.addr / 4
  · rw [State.nr, State.setNr, ha, State.nodeWord_setNodeWord_same, getFld_putFld_other _ _ _ _ hf (h.resolve_left (fun n => n ha)),
      State.nr, ha]
  · rw [State.nr, State.setNr, State.nodeWord_setNodeWord_other _ _ _ _ _ ha, State.nr]

theorem ofLeBytes_lt (l : List Byte) : ofLeBytes l < 256 ^ l.length := by
  induction l with
  | nil => exact Nat.one_pos
  | cons b l ih =>
    have hb := b.isLt
    rw [ofLeBytes, List.length_cons, Nat.pow_succ]
    omega

theorem ofLeBytes_take_four (l : List Byte) : ofLeBytes (l.take 4) < 2 ^ 32 :=
  (ofLeBytes_lt _).trans_le (Nat.pow_le_pow_right (n := 256) (by decide) (List.length_take_le 4 l))

theorem parseMhr_fcnt (p : List Byte) (h : Mhr) (hp : parseMhr p = some h) : h.fcnt < 2 ^ 32 := by
  simp only [parseMhr, Option.ite_none_left_eq_some, Option.some.injEq] at hp
  obtain ⟨-, rfl⟩ := hp
  exact ofLeBytes_take_four _

/-! ### What a judgement leaves alone -/

/-- `t` follows from `s` by the judgement of a frame: records, tickets and outputs aside, what the frame is delivered by stays. -/
structure State.Judges (s t : State) : Prop where
  mac : t.mac = s.mac
  tim : t.tim = s.tim
  fwd : t.fwd = s.fwd
  xBuf : t.hst.xBuf = s.hst.xBuf
  xSeq : t.hst.xSeq = s.hst.xSeq
  out : s.out <+: t.out
  regs : ∀ a, besideJudgement a → t.get a = s.get a

theorem State.Judges.trans {s t u : State} (h : s.Judges t) (h' : t.Judges u) : s.Judges u :=
  ⟨h'.mac.trans h.mac, h'.tim.trans h.tim, h'.fwd.trans h.fwd, h'.xBuf.trans h.xBuf, h'.xSeq.trans h.xSeq, h.out.trans h'.out,
    fun a ha => (h'.regs a ha).trans (h.regs a ha)⟩

theorem State.Spares.judges {s t : State} (h : s.Spares t) (hregs : ∀ a, besideJudgement a → t.get a = s.get a) : s.Judges t :=
  ⟨h.mac, h.tim, h.fwd, h.xBuf, h.xSeq, h.out, hregs⟩

theorem State.judges_setNr (s : State) (i : Nat) (f : Fld) (v : Nat) : s.Judges (s.setNr i f v) :=
  ⟨rfl, rfl, rfl, rfl, rfl, List.prefix_rfl, fun _ _ => rfl⟩

theorem State.judges_sch (s : State) (c : Sch) : s.Judges { s with sch := c } :=
  ⟨rfl, rfl, rfl, rfl, rfl, List.prefix_rfl, fun _ _ => rfl⟩

/-! ### The ticket of a frame -/

theorem State.noteTicket_eq (s : State) (f : RxFrame) (g : Ticket → Ticket) : ∃ c, s.noteTicket f g = { s with sch := c } := by
  unfold State.noteTicket
  split
  · exact ⟨_, rfl⟩
  · exact ⟨s.sch, rfl⟩

theorem State.frameDone_eq (s : State) (f : RxFrame) : ∃ c, s.frameDone f = { s with sch := c } := s.noteTicket_eq f _

theorem State.judges_noteTicket (s : State) (f : RxFrame) (g : Ticket → Ticket) : s.Judges (s.noteTicket f g) := by
  obtain ⟨c, hc⟩ := s.noteTicket_eq f g
  rw [hc]
  exact s.judges_sch c

/-- The ticket of a frame notes that a frame of a record has passed. -/
def State.hears (s : State) (f : RxFrame) (i : Nat) (bit : Bool) : State :=
  s.noteTicket f (fun t => { t with heard := i :: t.heard, mapBit := t.mapBit || bit })

/-! ### The counter rule (R237) -/

/-- A counter lies above both counters of a record. -/
def State.newer (s : State) (i fcnt : Nat) : Bool := decide (max (s.nextValue (.acc i)) (s.nr i NR_PENDCTR) < fcnt)

theorem State.newer_sch (s : State) (c : Sch) (i fcnt : Nat) : ({ s with sch := c } : State).newer i fcnt = s.newer i fcnt := rfl

/-- A frame that the rule accepts moves PENDCTR, and its ticket notes it. -/
def State.accepts (s : State) (f : RxFrame) (h : Mhr) (i : Nat) : State :=
  (s.setNr i NR_PENDCTR h.fcnt).noteTicket f (fun t => { t with accepted := (i, f.ts, h.ftype == ftJoinReq) :: t.accepted })

theorem State.meetRule_repeat (s : State) (f : RxFrame) (h : Mhr) (i : Nat) (hold : s.newer i h.fcnt = false) :
    s.meetRule f h i = (false, (s.count MAC_REPEAT_COUNT).raiseLimited 119 119 i) := by
  have hrule : s.counterRule i h.fcnt = (false, (s.count MAC_REPEAT_COUNT).raiseLimited 119 119 i) := if_neg (of_decide_eq_false hold)
  simp [State.meetRule, hrule]

/-- An accepted frame of a router refreshes its neighbour besides (R277). -/
theorem State.meetRule_newer (s : State) (f : RxFrame) (h : Mhr) (i : Nat) (hnew : s.newer i h.fcnt = true) :
    s.meetRule f h i = (true, s.accepts f h i) ∨ s.meetRule f h i = (true, (s.accepts f h i).nbrRefresh i f.lane f.rssi) := by
  have hrule : s.counterRule i h.fcnt = (true, s.setNr i NR_PENDCTR h.fcnt) := if_pos (of_decide_eq_true hnew)
  by_cases hrouter : h.hops = 0 ∧ (s.accepts f h i).nr i NR_ROUTER = 1
  · exact .inr (by simp only [State.meetRule, hrule]; exact congrArg (Prod.mk true) (if_pos hrouter))
  · exact .inl (by simp only [State.meetRule, hrule]; exact congrArg (Prod.mk true) (if_neg hrouter))

theorem State.spares_repeat (s : State) (i : Nat) : s.Spares ((s.count MAC_REPEAT_COUNT).raiseLimited 119 119 i) :=
  (s.spares_put _ _).trans (State.spares_raiseLimited _ 119 119 i)

theorem State.judges_repeat (s : State) (i : Nat) : s.Judges ((s.count MAC_REPEAT_COUNT).raiseLimited 119 119 i) :=
  (s.spares_repeat i).judges fun a ha =>
    (State.get_raiseLimited _ 119 119 i a (fun u => u.get_raise_besideJudgement 119 i a (by decide) (by decide) ha)).trans
      (s.get_count_besideJudgement MAC_REPEAT_COUNT a (by decide) (by decide) ha)

theorem State.judges_accepts (s : State) (f : RxFrame) (h : Mhr) (i : Nat) : s.Judges (s.accepts f h i) :=
  (s.judges_setNr i _ _).trans (State.judges_noteTicket _ f _)

theorem State.judges_nbrRefresh (s : State) (i lane rssi : Nat) : s.Judges (s.nbrRefresh i lane rssi) :=
  (s.spares_nbrRefresh i lane rssi).judges (fun a ha => s.get_nbrRefresh i lane rssi a ha)

theorem State.meetRule_verdict (s : State) (f : RxFrame) (h : Mhr) (i : Nat) : (s.meetRule f h i).1 = s.newer i h.fcnt := by
  cases hnew : s.newer i h.fcnt with
  | false => rw [s.meetRule_repeat f h i hnew]
  | true => obtain hm | hm := s.meetRule_newer f h i hnew <;> rw [hm]

theorem State.judges_meetRule (s : State) (f : RxFrame) (h : Mhr) (i : Nat) : s.Judges (s.meetRule f h i).2 := by
  cases hnew : s.newer i h.fcnt with
  | false => rw [s.meetRule_repeat f h i hnew]; exact s.judges_repeat i
  | true =>
    obtain hm | hm := s.meetRule_newer f h i hnew <;> rw [hm]
    · exact s.judges_accepts f h i
    · exact (s.judges_accepts f h i).trans (State.judges_nbrRefresh _ _ _ _)

/-- The counter of an accepted frame becomes PENDCTR. -/
theorem State.meetRule_pendctr (s : State) (f : RxFrame) (h : Mhr) (i : Nat) (hnew : s.newer i h.fcnt = true) (hfcnt : h.fcnt < 2 ^ 32) :
    (s.meetRule f h i).2.nr i NR_PENDCTR = h.fcnt := by
  have haccept : (s.accepts f h i).nr i NR_PENDCTR = h.fcnt := by
    obtain ⟨c, hc⟩ := (s.setNr i NR_PENDCTR h.fcnt).noteTicket_eq f
      (fun t => { t with accepted := (i, f.ts, h.ftype == ftJoinReq) :: t.accepted })
    rw [State.accepts, hc]
    exact (s.nr_setNr_same i NR_PENDCTR h.fcnt (by decide)).trans (Nat.mod_eq_of_lt hfcnt)
  have hnodes (t u : State) (hn : u.nodes = t.nodes) : u.nr i NR_PENDCTR = t.nr i NR_PENDCTR := by
    simp only [State.nr, State.nodeWord, hn]
  obtain hm | hm := s.meetRule_newer f h i hnew <;> rw [hm]
  · exact haccept
  · exact (hnodes _ _ (State.spares_nbrRefresh _ _ _ _).nodes).trans haccept

/-- A repeat counts, and changes no record. -/
theorem State.meetRule_counts (s : State) (f : RxFrame) (h : Mhr) (i : Nat) (hold : s.newer i h.fcnt = false) :
    (s.meetRule f h i).2.nodes = s.nodes
    ∧ (s.meetRule f h i).2.fld MAC_REPEAT_COUNT = min (s.fld MAC_REPEAT_COUNT + 1) 0xFFFFFFFF := by
  rw [s.meetRule_repeat f h i hold]
  refine ⟨(s.spares_repeat i).nodes, ?_⟩
  rw [State.fld_of_get _ (State.get_raiseLimited _ 119 119 i _ (fun u => u.get_raise_low 119 i _ (by decide)))]
  exact s.fld_count_same MAC_REPEAT_COUNT (by decide)

/-! ### The judgement (R237, R240) -/

/-- A frame is not judged yet, and none of its record that waits in a list was received before it. -/
def RxFrame.isNext (f : RxFrame) (i : Nat) (l : List RxFrame) : Prop :=
  f.rep = none ∧ ∀ g ∈ l, g.node = some i → g.rep = none → f.ts ≤ g.ts

theorem State.judgeEarlier_none (s : State) (i ts n : Nat) (h : ∀ g ∈ s.mac.passed, g.node = some i → g.rep = none → ts ≤ g.ts) :
    s.judgeEarlier i ts n = s := by
  have hnone : s.mac.passed.filter (fun f => f.node == some i && f.rep.isNone && decide (f.ts < ts)) = [] := by
    refine List.filter_eq_nil_iff.mpr fun g hg => ?_
    have hts := h g hg
    simp only [Bool.and_eq_true, beq_iff_eq, Option.isNone_iff_eq_none, decide_eq_true_eq]
    rintro ⟨⟨hnode, hrep⟩, hlt⟩
    have := hts hnode hrep
    omega
  cases n with
  | zero => rfl
  | succ n => rw [State.judgeEarlier, hnone]; rfl

/-- A frame with no earlier one left to judge meets the counter rule at once. -/
theorem State.judgeFrame_next (s : State) (f : RxFrame) (h : Mhr) (i : Nat) (bit : Bool) (hnext : f.isNext i s.mac.passed) :
    s.judgeFrame f h i bit = (s.hears f i bit).meetRule f h i := by
  obtain ⟨hrep, hearlier⟩ := hnext
  have hmac := (s.judges_noteTicket f (fun t => { t with heard := i :: t.heard, mapBit := t.mapBit || bit })).mac
  simp only [State.judgeFrame, hrep]
  rw [State.judgeEarlier_none _ i f.ts _ (by rwa [hmac]), State.hears]

theorem State.newer_hears (s : State) (f : RxFrame) (i : Nat) (bit : Bool) (fcnt : Nat) : (s.hears f i bit).newer i fcnt = s.newer i fcnt := by
  obtain ⟨c, hc⟩ := s.noteTicket_eq f (fun t => { t with heard := i :: t.heard, mapBit := t.mapBit || bit })
  rw [State.hears, hc, State.newer_sch]

/-- The judgement of a frame with no earlier one left to judge: its verdict, and what stays. -/
theorem State.judgeFrame_verdict (s : State) (f : RxFrame) (h : Mhr) (i : Nat) (bit : Bool) (hnext : f.isNext i s.mac.passed) :
    (s.judgeFrame f h i bit).1 = s.newer i h.fcnt ∧ s.Judges (s.judgeFrame f h i bit).2 := by
  rw [s.judgeFrame_next f h i bit hnext]
  exact ⟨(State.meetRule_verdict _ f h i).trans (s.newer_hears f i bit h.fcnt),
    (s.judges_noteTicket f _).trans (State.judges_meetRule _ f h i)⟩

theorem State.judgeFrame_pendctr (s : State) (f : RxFrame) (h : Mhr) (i : Nat) (bit : Bool) (hnext : f.isNext i s.mac.passed)
    (hnew : s.newer i h.fcnt = true) (hfcnt : h.fcnt < 2 ^ 32) : (s.judgeFrame f h i bit).2.nr i NR_PENDCTR = h.fcnt := by
  rw [s.judgeFrame_next f h i bit hnext]
  exact State.meetRule_pendctr _ f h i ((s.newer_hears f i bit h.fcnt).trans hnew) hfcnt

theorem State.judgeFrame_counts (s : State) (f : RxFrame) (h : Mhr) (i : Nat) (bit : Bool) (hnext : f.isNext i s.mac.passed)
    (hold : s.newer i h.fcnt = false) :
    (s.judgeFrame f h i bit).2.nodes = s.nodes
    ∧ (s.judgeFrame f h i bit).2.fld MAC_REPEAT_COUNT = min (s.fld MAC_REPEAT_COUNT + 1) 0xFFFFFFFF := by
  obtain ⟨c, hc⟩ := s.noteTicket_eq f (fun t => { t with heard := i :: t.heard, mapBit := t.mapBit || bit })
  have hrule := (s.hears f i bit).meetRule_counts f h i ((s.newer_hears f i bit h.fcnt).trans hold)
  rw [s.judgeFrame_next f h i bit hnext]
  rw [State.hears, hc] at hrule ⊢
  exact hrule

/-- A frame that has been judged keeps its verdict. -/
theorem State.judgeFrame_judged (s : State) (f : RxFrame) (h : Mhr) (i : Nat) (bit q : Bool) (hq : f.rep = some q) :
    s.judgeFrame f h i bit = (!q, s.hears f i bit) := by
  simp only [State.judgeFrame, hq, State.hears]

end Sys2Proof.Machine

/-! A ticket whose NODEACK has come stays acknowledged while its outcome is delivered, squashes included (R255 to R260). -/

namespace Sys2Proof.Machine

open Sys2Proof.Fields Sys2Proof.Laws

/-! ### An acknowledged ticket -/

theorem mem_tabSet {β : Type} [DecidableEq β] (d : β) (a : Nat) (v : β) (l : List (Nat × β)) :
    ∀ p ∈ tabSet d a v l, p = (a, v) ∨ (p ∈ l ∧ p.1 ≠ a) := by
  intro p hp
  unfold tabSet at hp
  split at hp
  · exact .inr ⟨mem_tabErase a l p hp, tabErase_no_key a l p hp⟩
  · obtain rfl | hp := mem_tabInsert a v _ p hp
    · exact .inl rfl
    · exact .inr ⟨mem_tabErase a l p hp, tabErase_no_key a l p hp⟩

/-- Entry `e` holds an acknowledged ticket, in each of its listings, and MAC's record is `m`. -/
structure State.Acked (e : Nat) (m : Mac) (s : State) : Prop where
  mac : s.mac = m
  ticket : (s.ticket e).acked = true
  listed : ∀ p ∈ s.sch.tickets, p.1 = e → p.2.acked = true

section
variable {e : Nat} {m : Mac} {s : State}

theorem State.Acked.of_tickets {t : State} (h : s.Acked e m) (hmac : t.mac = s.mac) (ht : t.sch.tickets = s.sch.tickets) : t.Acked e m :=
  ⟨hmac.trans h.mac, by rw [State.ticket, ht]; exact h.ticket, by rw [ht]; exact h.listed⟩

/-- An acknowledged ticket takes the entry. -/
theorem State.acked_setTicket_same (hmac : s.mac = m) (x : Ticket) (hx : x.acked = true) : (s.setTicket e x).Acked e m := by
  refine ⟨hmac, by rw [s.ticket_setTicket_same]; exact hx, fun p hp hpe => ?_⟩
  obtain rfl | ⟨-, hne⟩ := mem_tabSet Ticket.cold e x s.sch.tickets p hp
  · exact hx
  · exact absurd hpe hne

theorem State.Acked.setTicket (h : s.Acked e m) (k : Nat) (x : Ticket) (hx : k = e → x.acked = true) : (s.setTicket k x).Acked e m := by
  by_cases hk : k = e
  · subst hk
    exact State.acked_setTicket_same h.mac x (hx rfl)
  · refine ⟨h.mac, by rw [s.ticket_setTicket_other k e x (Ne.symm hk)]; exact h.ticket, fun p hp hpe => ?_⟩
    obtain rfl | ⟨hp, -⟩ := mem_tabSet Ticket.cold k x s.sch.tickets p hp
    · exact hx hpe
    · exact h.listed p hp hpe

theorem State.Acked.setFld (h : s.Acked e m) (f : Fld) (v : Nat) : (s.setFld f v).Acked e m := h.of_tickets rfl rfl
theorem State.Acked.addSat (h : s.Acked e m) (f : Fld) (n : Nat) : (s.addSat f n).Acked e m := h.of_tickets rfl rfl

theorem State.Acked.raise (h : s.Acked e m) (id data : Nat) : (s.raise id data).Acked e m :=
  h.of_tickets (s.raise_mac id data) (by rw [s.raise_sch])

theorem State.Acked.oncePerBeat (h : s.Acked e m) (last : Option Nat) (id : Nat) : (s.oncePerBeat last id).Acked e m := by
  unfold State.oncePerBeat
  split
  · exact h
  · exact h.raise id 0

theorem State.Acked.unstall (h : s.Acked e m) : s.unstall.Acked e m := by
  unfold State.unstall
  split
  · exact h.setFld _ _
  · exact h

theorem State.Acked.ungrant (h : s.Acked e m) (t : Ticket) : (s.ungrant t).Acked e m := by
  unfold State.ungrant
  split
  · split
    · exact h.of_tickets rfl rfl
    · exact h
  · exact h

theorem State.Acked.foldl {α : Type} (f : State → α → State) (l : List α)
    (hf : ∀ x ∈ l, ∀ u : State, u.Acked e m → (f u x).Acked e m)
    (h : s.Acked e m) : (l.foldl f s).Acked e m := by
  induction l generalizing s with
  | nil => exact h
  | cons x l ih =>
    obtain ⟨hx, hl⟩ := List.forall_mem_cons.mp hf
    exact ih hl (hx s h)

theorem State.Acked.ite {c : Prop} [Decidable c] {t : State} (h : s.Acked e m) (ht : s.Acked e m → t.Acked e m) :
    (if c then s else t).Acked e m := by
  split
  · exact h
  · exact ht h

/-! ### Requests (R259, R430) -/

theorem State.Acked.setRequest (h : s.Acked e m) (r : Request) : (s.setRequest r).Acked e m := h.of_tickets rfl rfl

theorem State.Acked.unplan (h : s.Acked e m) (r : Request) : (s.unplan r).Acked e m := by
  unfold State.unplan
  split <;> exact h.setRequest _

theorem State.Acked.complete (h : s.Acked e m) (q tag status detail tries : Nat) (ws : List Nat) :
    (s.complete q tag status detail tries ws).Acked e m := by
  unfold State.complete
  split
  · exact h
  · exact h.of_tickets rfl rfl

/-- Some tickets are marked late. -/
theorem State.Acked.markLate (h : s.Acked e m) (c : Nat × Ticket → Bool) :
    ({ s with sch := { s.sch with tickets := s.sch.tickets.map (fun p => if c p then (p.1, { p.2 with late := true }) else p) } } :
      State).Acked e m := by
  have hmark (p : Nat × Ticket) : (if c p then (p.1, { p.2 with late := true }) else p).1 = p.1
      ∧ (if c p then (p.1, { p.2 with late := true }) else p).2.acked = p.2.acked := by
    split <;> exact ⟨rfl, rfl⟩
  have hget (l : List (Nat × Ticket)) :
      (tabGet Ticket.cold (l.map (fun p => if c p then (p.1, { p.2 with late := true }) else p)) e).acked
        = (tabGet Ticket.cold l e).acked := by
    induction l with
    | nil => rfl
    | cons p l ih =>
      obtain ⟨hkey, hacked⟩ := hmark p
      rw [List.map_cons, tabGet, tabGet, hkey]
      split
      · exact hacked
      · exact ih
  refine ⟨h.mac, (hget _).trans h.ticket, fun p hp hpe => ?_⟩
  obtain ⟨q, hq, rfl⟩ := List.mem_map.mp hp
  obtain ⟨hkey, hacked⟩ := hmark q
  exact hacked.trans (h.listed q hq (hkey.symm.trans hpe))

theorem State.Acked.pruneReqs (h : s.Acked e m) : s.pruneReqs.Acked e m := h.of_tickets rfl rfl

theorem State.Acked.endReq (h : s.Acked e m) (r : Request) (status : Nat) (last : Option Nat) : (s.endReq r status last).Acked e m := by
  have hlate := (h.setRequest { r with state := .ended }).markLate (fun p => p.2.state == tkCommitted && (match p.2.req with
    | some q => q.1 == r.id
    | none => false))
  unfold State.endReq
  dsimp only
  refine State.Acked.pruneReqs ?_
  split
  · exact hlate.complete _ _ _ _ _ _
  · exact hlate

theorem State.Acked.failReq (h : s.Acked e m) (r : Request) (status k : Nat) : (s.failReq r status k).Acked e m := by
  unfold State.failReq
  split
  · exact h.unplan r
  · split
    · exact h.unplan _
    · exact h.endReq _ _ _

/-! ### Squashes (R257 to R260) -/

theorem State.Acked.squashWith (h : s.Acked e m) (cause : Nat) (whole : Bool) (stays : Ticket → Bool) (scope : Nat → Ticket → Bool) :
    (s.squashWith cause whole stays scope).Acked e m := by
  have hkeep (c : Nat × Ticket → Bool) : ∀ p ∈ s.sch.tickets.filter c, p.1 = e → p.2.acked = true :=
    fun p hp => h.listed p (List.mem_of_mem_filter hp)
  unfold State.squashWith
  dsimp only
  refine h.ite (fun _ => ?_)
  refine State.Acked.unstall (State.Acked.foldl _ _ (fun p _ u hu => ?unplan) (State.Acked.ite (State.Acked.ite ?marks
    (fun hu => ?squash)) (fun hu => ?stale)))
  case marks =>
    have hstart (c : Sch) (hc : c.tickets = s.sch.tickets) : ({ s with sch := c } : State).Acked e m := h.of_tickets rfl hc
    refine State.Acked.foldl _ _ (fun p hp u hu => ?_) (State.Acked.foldl _ _ (fun p hp u hu => ?_)
      (State.Acked.foldl _ _ (fun p hp u hu => ?_) (hstart _ rfl)))
    · exact hu.setTicket _ _ (hkeep _ p (List.mem_of_mem_filter hp))
    · refine (hu.setTicket _ _ ?_).ungrant _
      exact hkeep _ p hp
    · exact hu.setTicket _ _ (hkeep _ p hp)
  case squash =>
    exact ((((((hu.addSat _ _).addSat _ _).setFld _ _).setFld _ _).setFld _ _).oncePerBeat _ _).of_tickets rfl rfl
  case stale => exact ((hu.addSat _ _).oncePerBeat _ _).of_tickets rfl rfl
  case unplan =>
    split
    · exact hu.unplan _
    · exact hu

theorem State.Acked.squashExp (h : s.Acked e m) (cause k tid x : Nat) : (s.squashExp cause k tid x).Acked e m :=
  h.squashWith cause false s.pastCommit (fun _ t => t.expects k tid x)

/-! ### Delivery (R256 to R259, R266) -/

theorem State.Acked.deliver (h : s.Acked e m) : (s.deliver e).Acked e m := by
  have hres : (s.setTicket e { s.ticket e with state := tkResolved }).Acked e m := h.setTicket e _ (fun _ => h.ticket)
  unfold State.deliver
  dsimp only
  refine h.ite (fun _ => ?_)
  split
  · refine State.Acked.ite ?_ (fun hu => hu.squashExp _ _ _ _)
    split
    · exact hres
    · split
      · exact hres.failReq _ _ _
      · exact hres.ite (fun hu => hu.setRequest _)
  · refine State.Acked.ite ?_ (fun hu => State.Acked.ite (hu.ite (fun hv => hv.squashExp _ _ _ _)) (fun hv => hv.squashExp _ _ _ _))
    split
    · exact hres
    · split
      · exact hres.setRequest _
      · exact hres.failReq _ _ _

end
end Sys2Proof.Machine

/-! Authentication, uplinks and acknowledgements: what becomes of the frame received first (R223, R225, R237, R255, R300). -/

namespace Sys2Proof.Machine

open Sys2Proof.Fields Sys2Proof.Laws

/-! ### Authentication (R223, R300) -/

theorem State.authenticate_opens (s : State) (f : RxFrame) (h : Mhr) (i : Nat) (b : List Byte) (old : Bool)
    (hsender : s.sender h f.lane = some i) (hopen : s.openFrame i h f.psdu = some (b, old)) :
    s.authenticate f h = (some { f with node := some i, body := b, oldKey := old }, s) := by
  simp only [State.authenticate, hsender, hopen]

/-- A frame of no record, or one that its record's keys do not open, fails. -/
theorem State.authenticate_fails (s : State) (f : RxFrame) (h : Mhr)
    (hopen : ∀ i, s.sender h f.lane = some i → s.openFrame i h f.psdu = none) :
    ∃ node, s.authenticate f h = (none, (s.authFail node).frameDone f) := by
  cases hsender : s.sender h f.lane with
  | none => exact ⟨none, by simp only [State.authenticate, hsender]⟩
  | some i => exact ⟨some i, by simp only [State.authenticate, hsender, hopen i hsender]⟩

/-- A failed authentication counts. -/
theorem State.authFail_counts (s : State) (node : Option Nat) :
    (s.authFail node).mac = s.mac ∧ (s.authFail node).fld MAC_AUTHFAIL_COUNT = min (s.fld MAC_AUTHFAIL_COUNT + 1) 0xFFFFFFFF := by
  have hraise (u : State) (v : Nat) : (u.raiseLimited 118 118 v).mac = u.mac
      ∧ (u.raiseLimited 118 118 v).fld MAC_AUTHFAIL_COUNT = u.fld MAC_AUTHFAIL_COUNT :=
    ⟨(u.spares_raiseLimited 118 118 v).mac,
      State.fld_of_get _ (u.get_raiseLimited 118 118 v _ (fun t => t.get_raise_low 118 v _ (by decide)))⟩
  have hcount := s.fld_count_same MAC_AUTHFAIL_COUNT (by decide)
  cases node with
  | none => exact ⟨(hraise _ _).1, (hraise _ _).2.trans hcount⟩
  | some i => exact ⟨(hraise _ _).1, (hraise _ _).2.trans hcount⟩

/-- Other frames wait in MAC's input. -/
def State.setInput (s : State) (r : List RxFrame) : State := { s with mac := { s.mac with input := r } }

/-- A frame that opens under its record's key passes. -/
theorem State.rxAuthDone_opens (s : State) (f : RxFrame) (r : List RxFrame) (h : Mhr) (i : Nat) (b : List Byte) (old : Bool)
    (hparse : parseMhr f.psdu = some h)
    (htake : takeFrame (fun f => s.macWork false f && s.worksOn 0x10 f.beat) s.mac.input = some (f, r)) (hhome : s.foreign f.psdu = false)
    (hsender : s.sender h f.lane = some i) (hopen : s.openFrame i h f.psdu = some (b, old)) :
    s.rxAuthDone = { s with mac := { s.mac with
      input := r, passed := s.mac.passed ++ [{ f with node := some i, body := b, oldKey := old }] } } := by
  have hhome' : (s.setInput r).foreign f.psdu = false := hhome
  have hauth := (s.setInput r).authenticate_opens f h i b old hsender hopen
  rw [State.setInput] at hhome' hauth
  simp only [State.rxAuthDone, htake, hhome', hparse, hauth, Bool.false_eq_true, if_false]

/-- Another frame is dropped and counted. -/
theorem State.rxAuthDone_fails (s : State) (f : RxFrame) (r : List RxFrame) (h : Mhr) (hparse : parseMhr f.psdu = some h)
    (htake : takeFrame (fun f => s.macWork false f && s.worksOn 0x10 f.beat) s.mac.input = some (f, r)) (hhome : s.foreign f.psdu = false)
    (hopen : ∀ i, s.sender h f.lane = some i → s.openFrame i h f.psdu = none) :
    s.rxAuthDone.mac = { s.mac with input := r }
    ∧ s.rxAuthDone.fld MAC_AUTHFAIL_COUNT = min (s.fld MAC_AUTHFAIL_COUNT + 1) 0xFFFFFFFF := by
  have hhome' : (s.setInput r).foreign f.psdu = false := hhome
  obtain ⟨node, hauth⟩ := (s.setInput r).authenticate_fails f h hopen
  have hrun : s.rxAuthDone = ((s.setInput r).authFail node).frameDone f := by
    rw [State.setInput] at hhome' hauth ⊢
    simp only [State.rxAuthDone, htake, hhome', hparse, hauth, Bool.false_eq_true, if_false]
  obtain ⟨c, hdone⟩ := ((s.setInput r).authFail node).frameDone_eq f
  rw [hrun, hdone]
  exact (s.setInput r).authFail_counts node

/-! ### Uplinks (R225, R237, R269) -/

/-- Other frames are the ones that have passed and wait. -/
def State.setPassed (s : State) (r : List RxFrame) : State := { s with mac := { s.mac with passed := r } }

theorem State.takePassed_some (s : State) (ft : Nat) (f : RxFrame) (r : List RxFrame) (h : Mhr) (i : Nat)
    (hparse : parseMhr f.psdu = some h) (htake : takeFrame (fun f => f.ftype == some ft) s.mac.passed = some (f, r)) (hnode : f.node = some i) :
    s.takePassed ft = (some (f, h, i), s.setPassed r) := by
  simp only [State.takePassed, htake, hparse, hnode, State.setPassed]

/-- An uplink's payload as FWD takes it, with its REPEAT flag. -/
def RxFrame.toFwd (f : RxFrame) (h : Mhr) (rep : Bool) : FwdFrame := ⟨f.body, if h.hops = 0 then 0 else 2, rep, f.beat⟩

/-- An uplink is judged and goes to FWD, which has room for it. -/
theorem State.uplinkReceived_eq (s : State) (f : RxFrame) (r : List RxFrame) (h : Mhr) (i : Nat) (u : State) (ok : Bool)
    (hparse : parseMhr f.psdu = some h) (hwork : s.works 0xD = true)
    (htake : takeFrame (fun f => f.ftype == some ftUplink) s.mac.passed = some (f, r)) (hnode : f.node = some i)
    (hroom : s.fwd.input.length < 1024)
    (hjudge : (s.setPassed r).judgeFrame f h i true = (ok, u)) (hfwd : u.fwd = s.fwd) :
    s.uplinkReceived = ({ u with fwd := { s.fwd with input := s.fwd.input ++ [f.toFwd h !ok] } } : State).frameDone f := by
  have hput : u.fwdEnqueue (f.toFwd h !ok) = { u with fwd := { s.fwd with input := s.fwd.input ++ [f.toFwd h !ok] } } := by
    rw [State.fwdEnqueue, hfwd, if_pos hroom]
  simp only [State.uplinkReceived, hwork, s.takePassed_some ftUplink f r h i hparse htake hnode, hjudge, Bool.not_true, Bool.false_eq_true,
    if_false]
  exact congrArg (State.frameDone · f) hput

/-- The first uplink of its node is judged by the counter rule: a newer one becomes PENDCTR, a repeat is counted. -/
theorem State.uplinkReceived_next (s : State) (f : RxFrame) (r : List RxFrame) (h : Mhr) (i : Nat) (hparse : parseMhr f.psdu = some h)
    (hwork : s.works 0xD = true) (htake : takeFrame (fun f => f.ftype == some ftUplink) s.mac.passed = some (f, r))
    (hnode : f.node = some i) (hroom : s.fwd.input.length < 1024) (hnext : f.isNext i r) :
    s.uplinkReceived.mac = { s.mac with passed := r }
    ∧ s.uplinkReceived.fwd.input = s.fwd.input ++ [f.toFwd h !s.newer i h.fcnt]
    ∧ (s.newer i h.fcnt = true → s.uplinkReceived.nr i NR_PENDCTR = h.fcnt)
    ∧ (s.newer i h.fcnt = false → s.uplinkReceived.nodes = s.nodes
      ∧ s.uplinkReceived.fld MAC_REPEAT_COUNT = min (s.fld MAC_REPEAT_COUNT + 1) 0xFFFFFFFF) := by
  obtain ⟨hverdict, hjudge⟩ := (s.setPassed r).judgeFrame_verdict f h i true hnext
  have hnewer := (s.setPassed r).judgeFrame_pendctr f h i true hnext
  have hrepeat := (s.setPassed r).judgeFrame_counts f h i true hnext
  rw [s.uplinkReceived_eq f r h i ((s.setPassed r).judgeFrame f h i true).2 (s.newer i h.fcnt) hparse hwork htake hnode hroom
    (Prod.ext hverdict rfl) hjudge.fwd]
  obtain ⟨c, hdone⟩ := State.frameDone_eq ({ ((s.setPassed r).judgeFrame f h i true).2 with
    fwd := { s.fwd with input := s.fwd.input ++ [f.toFwd h !s.newer i h.fcnt] } } : State) f
  rw [hdone]
  exact ⟨hjudge.mac, rfl, fun hnew => hnewer hnew (parseMhr_fcnt _ h hparse), hrepeat⟩

/-- An uplink that has been judged is delivered with its verdict. -/
theorem State.uplinkReceived_judged (s : State) (f : RxFrame) (r : List RxFrame) (h : Mhr) (i : Nat) (q : Bool)
    (hparse : parseMhr f.psdu = some h) (hwork : s.works 0xD = true)
    (htake : takeFrame (fun f => f.ftype == some ftUplink) s.mac.passed = some (f, r)) (hnode : f.node = some i)
    (hroom : s.fwd.input.length < 1024) (hq : f.rep = some q) :
    s.uplinkReceived.mac = { s.mac with passed := r } ∧ s.uplinkReceived.fwd.input = s.fwd.input ++ [f.toFwd h q]
    ∧ s.uplinkReceived.nodes = s.nodes := by
  obtain ⟨c, hhears⟩ := (s.setPassed r).noteTicket_eq f (fun t => { t with heard := i :: t.heard, mapBit := t.mapBit || true })
  have hjudge : (s.setPassed r).judgeFrame f h i true = (!q, { s.setPassed r with sch := c }) := by
    rw [(s.setPassed r).judgeFrame_judged f h i true q hq, State.hears, hhears]
  rw [s.uplinkReceived_eq f r h i _ _ hparse hwork htake hnode hroom hjudge rfl, Bool.not_not]
  obtain ⟨c', hdone⟩ := State.frameDone_eq ({ s.setPassed r with
    sch := c, fwd := { s.fwd with input := s.fwd.input ++ [f.toFwd h q] } } : State) f
  rw [hdone]
  exact ⟨rfl, rfl, rfl⟩

/-! ### Acknowledgements (R222, R255) -/

/-- What a ticket waits for. -/
def Ticket.sameJob (t u : Ticket) : Prop := u.tid = t.tid ∧ u.purpose = t.purpose ∧ u.node = t.node ∧ u.fcnt = t.fcnt

theorem State.sameJob_noteTicket (s : State) (f : RxFrame) (g : Ticket → Ticket) (hg : ∀ t : Ticket, t.sameJob (g t)) :
    (s.ticket f.entry).sameJob ((s.noteTicket f g).ticket f.entry) := by
  unfold State.noteTicket
  split
  · rw [State.ticket_upTicket]
    exact hg _
  · exact ⟨rfl, rfl, rfl, rfl⟩

theorem Ticket.sameJob.trans {t u v : Ticket} (h : t.sameJob u) (h' : u.sameJob v) : t.sameJob v := by
  obtain ⟨htid, hpurpose, hnode, hfcnt⟩ := h
  obtain ⟨htid', hpurpose', hnode', hfcnt'⟩ := h'
  exact ⟨htid'.trans htid, hpurpose'.trans hpurpose, hnode'.trans hnode, hfcnt'.trans hfcnt⟩

theorem State.sameJob_meetRule (s : State) (f : RxFrame) (h : Mhr) (i : Nat) :
    (s.ticket f.entry).sameJob ((s.meetRule f h i).2.ticket f.entry) := by
  have haccept : (s.ticket f.entry).sameJob ((s.accepts f h i).ticket f.entry) :=
    State.sameJob_noteTicket (s.setNr i NR_PENDCTR h.fcnt) f _ (fun _ => ⟨rfl, rfl, rfl, rfl⟩)
  cases hnew : s.newer i h.fcnt with
  | false =>
    rw [s.meetRule_repeat f h i hnew, State.ticket_of_sch (s.spares_repeat i).sch]
    exact ⟨rfl, rfl, rfl, rfl⟩
  | true =>
    obtain hm | hm := s.meetRule_newer f h i hnew <;> rw [hm]
    · exact haccept
    · rw [State.ticket_of_sch (State.spares_nbrRefresh _ _ _ _).sch]
      exact haccept

/-- A judgement leaves what the frame's ticket waits for. -/
theorem State.sameJob_judgeFrame (s : State) (f : RxFrame) (h : Mhr) (i : Nat) (bit : Bool) (hnext : f.isNext i s.mac.passed) :
    (s.ticket f.entry).sameJob ((s.judgeFrame f h i bit).2.ticket f.entry) := by
  have hhears : (s.ticket f.entry).sameJob ((s.hears f i bit).ticket f.entry) :=
    s.sameJob_noteTicket f _ (fun _ => ⟨rfl, rfl, rfl, rfl⟩)
  rw [s.judgeFrame_next f h i bit hnext]
  exact hhears.trans (State.sameJob_meetRule _ f h i)

theorem State.Acked.frameDone {e : Nat} {m : Mac} {s : State} (h : s.Acked e m) (f : RxFrame) : (s.frameDone f).Acked e m := by
  unfold State.frameDone
  split
  · exact h.setTicket _ _ (fun he => he ▸ h.ticket)
  · exact h

theorem State.Acked.planLater {e : Nat} {m : Mac} {s : State} (h : s.Acked e m) : s.planLater.Acked e m := h.of_tickets rfl rfl

theorem State.planLater_owed (s : State) : s.planLater.sch.owed = true := rfl

/-- The awaited NODEACK is judged, its ticket is acknowledged, and the outcome is delivered. -/
theorem State.nodeackReceived_eq (s : State) (f : RxFrame) (r : List RxFrame) (h : Mhr) (i : Nat) (u : State) (ok : Bool)
    (hparse : parseMhr f.psdu = some h) (hwork : s.works 0xD = true)
    (htake : takeFrame (fun f => f.ftype == some ftNodeAck) s.mac.passed = some (f, r)) (hnode : f.node = some i)
    (hjudge : (s.setPassed r).judgeFrame f h i false = (ok, u)) (hpurpose : (u.ticket f.entry).purpose = .nodeAck)
    (howner : (u.ticket f.entry).node = some i) (hlen : f.body.length = 4) (hfcnt : ofLeBytes f.body = (u.ticket f.entry).fcnt) :
    s.nodeackReceived = (((u.noteTicket f (fun t => { t with acked := true })).frameDone f).deliver f.entry).planLater := by
  have hmatch : ((u.ticket f.entry).purpose == .nodeAck && (u.ticket f.entry).node == some i && decide (f.body.length = 4)
      && ofLeBytes f.body == (u.ticket f.entry).fcnt) = true := by
    simp only [hpurpose, howner, hlen, hfcnt, beq_self_eq_true, decide_true, Bool.and_self]
  simp only [State.nodeackReceived, hwork, s.takePassed_some ftNodeAck f r h i hparse htake hnode, hjudge, hmatch, Bool.not_true,
    Bool.false_eq_true, if_false, if_true]

/-- A NODEACK with the downlink's counter acknowledges it. -/
theorem State.nodeackReceived_acks (s : State) (f : RxFrame) (r : List RxFrame) (h : Mhr) (i : Nat) (hparse : parseMhr f.psdu = some h)
    (hwork : s.works 0xD = true) (htake : takeFrame (fun f => f.ftype == some ftNodeAck) s.mac.passed = some (f, r))
    (hnode : f.node = some i) (hnext : f.isNext i r) (htid : (s.ticket f.entry).tid = f.tid)
    (hpurpose : (s.ticket f.entry).purpose = .nodeAck) (howner : (s.ticket f.entry).node = some i) (hlen : f.body.length = 4)
    (hfcnt : ofLeBytes f.body = (s.ticket f.entry).fcnt) :
    s.nodeackReceived.Acked f.entry { s.mac with passed := r } ∧ s.nodeackReceived.sch.owed = true := by
  have hmac := ((s.setPassed r).judgeFrame_verdict f h i false hnext).2.mac
  obtain ⟨htid', hpurpose', hnode', hfcnt'⟩ := (s.setPassed r).sameJob_judgeFrame f h i false hnext
  generalize hjudge : (s.setPassed r).judgeFrame f h i false = j at hmac htid' hpurpose' hnode' hfcnt'
  obtain ⟨ok, u⟩ := j
  rw [s.nodeackReceived_eq f r h i u ok hparse hwork htake hnode hjudge (hpurpose'.trans hpurpose) (hnode'.trans howner) hlen
    (hfcnt.trans hfcnt'.symm)]
  have hack : (u.noteTicket f (fun t => { t with acked := true })).Acked f.entry { s.mac with passed := r } := by
    rw [State.noteTicket, if_pos (htid'.trans htid)]
    exact State.acked_setTicket_same hmac _ rfl
  exact ⟨(hack.frameDone f).deliver.planLater, State.planLater_owed _⟩

end Sys2Proof.Machine

/-! Join requests and sentinels: where they go, and what is recorded of them (R230, R236, R306, R434). -/

namespace Sys2Proof.Machine

open Sys2Proof.Fields Sys2Proof.Laws

/-! ### Join requests (R230, R306) -/

theorem State.joinreqReceived_joinFrame (s : State) (f : RxFrame) (r : List RxFrame) (h : Mhr) (i : Nat) (hparse : parseMhr f.psdu = some h)
    (hwork : s.works 0xD = true)
    (htake : takeFrame (fun f => s.macWork true f && s.worksOn 0x10 f.beat) s.mac.input = some (f, r)) (hhome : s.foreign f.psdu = false)
    (hjoiner : s.joiner h = some i) (hstate : s.nodeState i ≠ nodeFree) : s.joinreqReceived = (s.setInput r).joinFrame f h i := by
  have hhome' : (s.setInput r).foreign f.psdu = false := hhome
  have hjoiner' : (s.setInput r).joiner h = some i := hjoiner
  have hstate' : (s.setInput r).nodeState i ≠ nodeFree := hstate
  rw [State.setInput] at hhome' hjoiner' hstate' ⊢
  simp only [State.joinreqReceived, hwork, htake, hhome', hparse, hjoiner', hstate', Bool.not_true, Bool.false_eq_true, if_false]

/-- A join request of no record, or of a FREE one. -/
theorem State.joinreqReceived_joinUnknown (s : State) (f : RxFrame) (r : List RxFrame) (h : Mhr) (hparse : parseMhr f.psdu = some h)
    (hwork : s.works 0xD = true)
    (htake : takeFrame (fun f => s.macWork true f && s.worksOn 0x10 f.beat) s.mac.input = some (f, r)) (hhome : s.foreign f.psdu = false)
    (hfree : ∀ i, s.joiner h = some i → s.nodeState i = nodeFree) : s.joinreqReceived = (s.setInput r).joinUnknown f (s.joiner h) := by
  have hhome' : (s.setInput r).foreign f.psdu = false := hhome
  have hfree' : ∀ i, (s.setInput r).joiner h = some i → (s.setInput r).nodeState i = nodeFree := hfree
  rw [show s.joiner h = (s.setInput r).joiner h from rfl]
  rw [State.setInput] at hhome' hfree' ⊢
  simp only [State.joinreqReceived, hwork, htake, hhome', hparse, Bool.not_true, Bool.false_eq_true, if_false]
  split
  next i hjoiner => rw [hjoiner, if_pos (hfree' i hjoiner)]
  next hjoiner => rw [hjoiner]

/-- A join request of no record counts, and raises JOIN-UNKNOWN. -/
theorem State.joinUnknown_counts (s : State) (f : RxFrame) (n : Option Nat) :
    (s.joinUnknown f n).mac = s.mac
    ∧ (s.joinUnknown f n).fld (routeCount 114) = min (s.fld (routeCount 114) + 1) 0xFFFFFFFF
    ∧ (s.joinUnknown f n).fld MAC_JOINUNK_COUNT = min (s.fld MAC_JOINUNK_COUNT + 1) 0xFFFFFFFF := by
  have hcount := s.fld_count_same MAC_JOINUNK_COUNT (by decide)
  have hother := s.fld_count_other_word MAC_JOINUNK_COUNT (routeCount 114) (by decide)
  have hraise (u : State) (v : Nat) (hmac : u.mac = s.mac) (hregs : u.regs = (s.count MAC_JOINUNK_COUNT).regs) :
      ((u.raise 114 v).frameDone f).mac = s.mac
      ∧ ((u.raise 114 v).frameDone f).fld (routeCount 114) = min (s.fld (routeCount 114) + 1) 0xFFFFFFFF
      ∧ ((u.raise 114 v).frameDone f).fld MAC_JOINUNK_COUNT = min (s.fld MAC_JOINUNK_COUNT + 1) 0xFFFFFFFF := by
    obtain ⟨c, hdone⟩ := (u.raise 114 v).frameDone_eq f
    rw [hdone]
    refine ⟨(u.raise_mac 114 v).trans hmac, (u.fld_routeCount_raise 114 v (by decide)).trans ?_,
      (u.fld_raise_low 114 v MAC_JOINUNK_COUNT (by decide)).trans ((State.fld_of_regs hregs _).trans hcount)⟩
    rw [State.fld_of_regs hregs, hother]
  cases n with
  | none => exact hraise _ _ rfl rfl
  | some i => exact hraise _ _ rfl rfl

/-- What SEC records of a join request whose payload holds a whole NNONCE. -/
theorem State.recordJoin_records (s : State) (i ts : Nat) (rep : Bool) (b : List Byte) (hlen : 4 ≤ b.length) :
    (s.recordJoin i ts rep b).mac = s.mac ∧ (s.recordJoin i ts rep b).out = s.out
    ∧ (s.recordJoin i ts rep b).nr i NR_NNONCE = ofLeBytes (b.take 4) ∧ (s.recordJoin i ts rep b).nr i NR_JRUSED = 0
    ∧ (s.recordJoin i ts rep b).nr i NR_JRREP = (if rep then 1 else 0)
    ∧ (i, s.sfSecond ts) ∈ (s.recordJoin i ts rep b).sec.joinReqs := by
  have hmem (v : Nat) (l : List (Nat × Nat)) : (i, v) ∈ tabInsert i v l := by
    induction l with
    | nil => exact List.mem_singleton.mpr rfl
    | cons p l ih =>
      unfold tabInsert
      split
      · exact List.mem_cons_self
      · exact List.mem_cons_of_mem _ ih
  have hdraw : s.freshBytes (4 - b.length) = ([], s) := by rw [Nat.sub_eq_zero_of_le hlen]; rfl
  let u : State := { s.setNr i NR_NNONCE (ofLeBytes (b.take 4)) with
    sec := { s.sec with joinReqs := tabInsert i (s.sfSecond ts) (tabErase i s.sec.joinReqs) } }
  have hrun : s.recordJoin i ts rep b = (u.setNr i NR_JRREP (if rep then 1 else 0)).setNr i NR_JRUSED 0 := by
    simp only [State.recordJoin, hdraw, List.append_nil]
    rfl
  have hnonce : u.nr i NR_NNONCE = ofLeBytes (b.take 4) :=
    (s.nr_setNr_same i NR_NNONCE _ (by decide)).trans (Nat.mod_eq_of_lt (ofLeBytes_take_four b))
  rw [hrun]
  refine ⟨rfl, rfl, ?_, State.nr_setNr_same _ i NR_JRUSED 0 (by decide), ?_, hmem _ _⟩
  · rw [State.nr_setNr_keeps _ i NR_JRUSED NR_NNONCE _ (by decide) (by decide),
      State.nr_setNr_keeps _ i NR_JRREP NR_NNONCE _ (by decide) (by decide), hnonce]
  · rw [State.nr_setNr_keeps _ i NR_JRUSED NR_JRREP _ (by decide) (by decide), State.nr_setNr_same _ i NR_JRREP _ (by decide)]
    cases rep <;> rfl

theorem State.noteMirror_eq (s : State) (i : Nat) : ∃ p, s.noteMirror i = { s with plk := p } := by
  unfold State.noteMirror
  split
  · exact ⟨_, rfl⟩
  · exact ⟨s.plk, rfl⟩

/-- A join request that its join key opens is judged, recorded and handed to Q1. -/
theorem State.joinFrame_eq (s : State) (f : RxFrame) (h : Mhr) (i : Nat) (b : List Byte) (u : State) (ok : Bool) (hkey : s.nr i NR_JKV = 1)
    (hopen : unprotect (s.joinKey i) (nonce (s.eui i) h.fcnt h.ftype false 0) h f.psdu = some b)
    (hjudge : s.judgeFrame f h i false = (ok, u)) :
    s.joinFrame f h i = (((u.recordJoin i f.ts (!ok) b).noteMirror i).emit (.toQ1 i (!ok) b)).frameDone f := by
  have hbody : (if s.nr i NR_JKV = 0 then none
      else unprotect (s.joinKey i) (nonce (s.eui i) h.fcnt h.ftype false 0) h f.psdu) = some b := by
    rw [hkey, if_neg (by decide), hopen]
  simp only [State.joinFrame, hbody, hjudge]

theorem State.joinFrame_delivers (s : State) (f : RxFrame) (h : Mhr) (i : Nat) (b : List Byte) (hkey : s.nr i NR_JKV = 1)
    (hlen : 4 ≤ b.length) (hnext : f.isNext i s.mac.passed)
    (hopen : unprotect (s.joinKey i) (nonce (s.eui i) h.fcnt h.ftype false 0) h f.psdu = some b) :
    (s.joinFrame f h i).mac = s.mac ∧ (∃ l, (s.joinFrame f h i).out = s.out ++ l ++ [.toQ1 i (!s.newer i h.fcnt) b])
    ∧ (s.joinFrame f h i).nr i NR_NNONCE = ofLeBytes (b.take 4) ∧ (s.joinFrame f h i).nr i NR_JRUSED = 0
    ∧ (s.joinFrame f h i).nr i NR_JRREP = (if s.newer i h.fcnt then 0 else 1)
    ∧ (i, s.sfSecond f.ts) ∈ (s.joinFrame f h i).sec.joinReqs := by
  obtain ⟨hverdict, hstays⟩ := s.judgeFrame_verdict f h i false hnext
  generalize hjudge : s.judgeFrame f h i false = j at hverdict hstays
  obtain ⟨ok, u⟩ := j
  obtain rfl : ok = s.newer i h.fcnt := hverdict
  obtain ⟨hmac, hout, hnonce, hused, hrep, hreq⟩ := u.recordJoin_records i f.ts (!s.newer i h.fcnt) b hlen
  obtain ⟨p, hmirror⟩ := (u.recordJoin i f.ts (!s.newer i h.fcnt) b).noteMirror_eq i
  obtain ⟨l, hl⟩ := hstays.out
  have hsecond : u.sfSecond f.ts = s.sfSecond f.ts := by
    simp only [State.sfSecond, State.phaseTicks, State.fld_of_get TIM_SFPHASE_PHASE (hstays.regs TIM_SFPHASE (.inl (by decide)))]
  rw [s.joinFrame_eq f h i b u _ hkey hopen hjudge, hmirror]
  obtain ⟨c, hdone⟩ := State.frameDone_eq (({ u.recordJoin i f.ts (!s.newer i h.fcnt) b with plk := p } : State).emit
    (.toQ1 i (!s.newer i h.fcnt) b)) f
  rw [hdone]
  refine ⟨hmac.trans hstays.mac, ⟨l, ?_⟩, hnonce, hused, hrep.trans ?_, hsecond ▸ hreq⟩
  · show (u.recordJoin i f.ts (!s.newer i h.fcnt) b).out ++ _ = _
    rw [hout, ← hl]
  · cases s.newer i h.fcnt <;> rfl

/-! ### Sentinels (R236, R336, R434) -/

/-- An ALARM that goes to a peer leaves MAC's and HST's records, and every register but our EPOCH. -/
theorem State.sendAlarm_leaves (s : State) (a : Alarm) (p : Nat) :
    (s.sendAlarm a p).mac = s.mac ∧ (s.sendAlarm a p).hst = s.hst ∧ ∀ x, x ≠ PLK_EPOCH → (s.sendAlarm a p).get x = s.get x := by
  have hsend (ws : List Nat) : (s.sendUpl p uplAlarm ws).mac = s.mac ∧ (s.sendUpl p uplAlarm ws).hst = s.hst
      ∧ ∀ x, x ≠ PLK_EPOCH → (s.sendUpl p uplAlarm ws).get x = s.get x := by
    unfold State.sendUpl
    split
    · exact ⟨rfl, rfl, fun _ _ => rfl⟩
    · split
      · unfold State.sendOn
        dsimp only
        split
        · exact ⟨rfl, rfl, fun x hx => State.get_setFld_other _ PLK_EPOCH_EPOCH _ x hx⟩
        · exact ⟨rfl, rfl, fun _ _ => rfl⟩
      · exact ⟨rfl, rfl, fun _ _ => rfl⟩
  exact hsend a.values

/-- SENTINEL counts, whatever alarms follow. -/
theorem State.raise_sendAlarms (u : State) (i : Nat) (a : State → Alarm) (l : List Nat) :
    (l.foldl (fun s p => s.sendAlarm (a s) p) (u.raise 124 i)).mac = u.mac
    ∧ (l.foldl (fun s p => s.sendAlarm (a s) p) (u.raise 124 i)).fld (routeCount 124) = min (u.fld (routeCount 124) + 1) 0xFFFFFFFF
    ∧ (l.foldl (fun s p => s.sendAlarm (a s) p) (u.raise 124 i)).hst.xBuf = u.hst.xBuf := by
  have hmac := foldl_keeps State.mac (fun s p => s.sendAlarm (a s) p) l (u.raise 124 i) (fun p _ c => (c.sendAlarm_leaves (a c) p).1)
  have hhst := foldl_keeps State.hst (fun s p => s.sendAlarm (a s) p) l (u.raise 124 i) (fun p _ c => (c.sendAlarm_leaves (a c) p).2.1)
  have hget := foldl_keeps (State.get · (routeCount 124).addr) (fun s p => s.sendAlarm (a s) p) l (u.raise 124 i)
    (fun p _ c => (c.sendAlarm_leaves (a c) p).2.2 _ (by decide))
  exact ⟨hmac.trans (u.raise_mac 124 i), (State.fld_of_get _ hget).trans (u.fld_routeCount_raise 124 i (by decide)),
    (congrArg Hst.xBuf hhst).trans (u.holds_raise 124 i).xBuf⟩

/-- A record has taken its place among the express records, and with it a SEQ. -/
def State.posts (s : State) (x : XRec) : State :=
  { s with hst := { s.hst with xSeq := (s.hst.xSeq + 1) % 2 ^ 32, xBuf := s.hst.xBuf ++ [x] } }

theorem State.postExpress_room (s : State) (x : XRec) (hroom : s.hst.xBuf.length < 16) :
    s.postExpress x = s.posts { x with seq := s.hst.xSeq, postTs := s.tim.ts } := if_pos hroom

/-- A sentinel's express record: its place, its record and counter, and the instants at which it came and was posted. -/
def State.sentinelRecord (s : State) (f : RxFrame) (h : Mhr) (i : Nat) (rep : Bool) : XRec :=
  ⟨f.lane, f.tap, false, s.mac.cellid, s.hst.xSeq, i, h.fcnt, f.ts, s.tim.ts, f.rssi, rep, f.body⟩

/-- A sentinel is posted, and raises SENTINEL. -/
theorem State.postSentinel_posts (s : State) (f : RxFrame) (h : Mhr) (i : Nat) (rep : Bool) (hroom : s.hst.xBuf.length < 16) :
    (s.postSentinel f h i rep).mac = s.mac
    ∧ (s.postSentinel f h i rep).fld (routeCount 124) = min (s.fld (routeCount 124) + 1) 0xFFFFFFFF
    ∧ (s.postSentinel f h i rep).hst.xBuf = s.hst.xBuf ++ [s.sentinelRecord f h i rep] := by
  unfold State.postSentinel
  rw [State.postExpress_room _ _ hroom]
  exact State.raise_sendAlarms (s.posts (s.sentinelRecord f h i rep)) i
    (fun s => ⟨f.lane, f.tap, s.mac.cellid, i, h.fcnt, f.ts, f.rssi, rep, f.body⟩) _

/-- Other frames wait for the express engine. -/
def State.setExpress (s : State) (r : List RxFrame) : State := { s with mac := { s.mac with express := r } }

/-- The express engine judges and posts a sentinel that opens under its record's key. -/
theorem State.sentinelReceived_eq (s : State) (f : RxFrame) (r : List RxFrame) (h : Mhr) (i : Nat) (b : List Byte) (old : Bool) (u : State)
    (ok : Bool) (hparse : parseMhr f.psdu = some h) (hwork : s.works 0x10 = true) (htake : s.mac.express = f :: r)
    (hhome : s.foreign f.psdu = false) (htype : h.ftype = ftSentinel) (hsender : s.sender h f.lane = some i)
    (hopen : s.openFrame i h f.psdu = some (b, old))
    (hjudge : (s.setExpress r).judgeFrame { f with node := some i, body := b, oldKey := old } h i true = (ok, u)) :
    s.sentinelReceived = (u.postSentinel { f with node := some i, body := b, oldKey := old } h i (!ok)).frameDone
      { f with node := some i, body := b, oldKey := old } := by
  have hhome' : (s.setExpress r).foreign f.psdu = false := hhome
  have hauth := (s.setExpress r).authenticate_opens f h i b old hsender hopen
  rw [State.setExpress] at hhome' hauth hjudge
  simp only [State.sentinelReceived, htake, hwork, hhome', hparse, htype, hauth, Option.getD_some, hjudge, Bool.not_true,
    Bool.false_eq_true, if_false, ne_eq, not_true_eq_false]

/-- SENTINEL_RECEIVED posts the express record with its verdict, and raises SENTINEL. -/
theorem State.sentinelReceived_posts (s : State) (f : RxFrame) (r : List RxFrame) (h : Mhr) (i : Nat) (b : List Byte) (old : Bool)
    (hparse : parseMhr f.psdu = some h) (hwork : s.works 0x10 = true) (htake : s.mac.express = f :: r) (hhome : s.foreign f.psdu = false)
    (htype : h.ftype = ftSentinel) (hsender : s.sender h f.lane = some i) (hopen : s.openFrame i h f.psdu = some (b, old))
    (hroom : s.hst.xBuf.length < 16) (hnext : f.isNext i s.mac.passed) :
    s.sentinelReceived.mac = { s.mac with express := r }
    ∧ s.sentinelReceived.fld (routeCount 124) = min (s.fld (routeCount 124) + 1) 0xFFFFFFFF
    ∧ s.sentinelReceived.hst.xBuf = s.hst.xBuf ++ [s.sentinelRecord { f with body := b } h i !s.newer i h.fcnt] := by
  let g : RxFrame := { f with node := some i, body := b, oldKey := old }
  obtain ⟨hverdict, hstays⟩ := (s.setExpress r).judgeFrame_verdict g h i true hnext
  generalize hjudge : (s.setExpress r).judgeFrame g h i true = j at hverdict hstays
  obtain ⟨ok, u⟩ := j
  obtain rfl : ok = s.newer i h.fcnt := hverdict
  obtain ⟨hmac, hcount, hbuf⟩ := u.postSentinel_posts g h i (!s.newer i h.fcnt) (hstays.xBuf ▸ hroom)
  obtain ⟨c, hdone⟩ := (u.postSentinel g h i (!s.newer i h.fcnt)).frameDone_eq g
  have hrecord : u.sentinelRecord g h i (!s.newer i h.fcnt) = s.sentinelRecord { f with body := b } h i !s.newer i h.fcnt := by
    rw [State.sentinelRecord, hstays.mac, hstays.tim, hstays.xSeq]
    rfl
  rw [s.sentinelReceived_eq f r h i b old u _ hparse hwork htake hhome htype hsender hopen hjudge, hdone]
  refine ⟨hmac.trans hstays.mac, hcount.trans ?_, hbuf.trans ?_⟩
  · rw [State.fld_of_get _ (hstays.regs _ (.inr (.inr rfl)))]
    rfl
  · rw [hrecord, hstays.xBuf]
    rfl

/-- Settles O33, command by command. -/
theorem receivedFrames : Obligations.ReceivedFrames := by
  unfold Obligations.ReceivedFrames
  intro s f r h hparse counted fresh first
  refine ⟨fun htake hhome => ⟨fun i b old hsender hopen => ?auth, fun hopen => ?fail⟩,
    fun i hwork htake hnode hroom => ⟨fun hnext => ?uplink, fun q hq => ?judged⟩,
    fun i hwork htake hnode hnext htid hpurpose howner hlen hfcnt => ?nodeack,
    fun hwork htake hhome => ⟨fun hfree => ?unknown, fun i b hjoiner hstate hkey hlen hnext hopen => ?join⟩,
    fun i b old hwork htake hhome htype hsender hopen hroom hnext => ?sentinel⟩
  case auth => exact congrArg Host.Outcome.next (s.rxAuthDone_opens f r h i b old hparse htake hhome hsender hopen)
  case fail => exact ⟨_, rfl, s.rxAuthDone_fails f r h hparse htake hhome hopen⟩
  case uplink => exact ⟨_, rfl, s.uplinkReceived_next f r h i hparse hwork htake hnode hroom hnext⟩
  case judged => exact ⟨_, rfl, s.uplinkReceived_judged f r h i q hparse hwork htake hnode hroom hq⟩
  case nodeack =>
    obtain ⟨hacked, howed⟩ := s.nodeackReceived_acks f r h i hparse hwork htake hnode hnext htid hpurpose howner hlen hfcnt
    exact ⟨_, rfl, hacked.ticket, congrArg Mac.passed hacked.mac, howed⟩
  case unknown =>
    exact ⟨_, congrArg Host.Outcome.next (s.joinreqReceived_joinUnknown f r h hparse hwork htake hhome hfree),
      (s.setInput r).joinUnknown_counts f _⟩
  case join =>
    obtain ⟨hmac, ⟨l, hout⟩, hrest⟩ := (s.setInput r).joinFrame_delivers f h i b hkey hlen hnext hopen
    exact ⟨_, l, congrArg Host.Outcome.next (s.joinreqReceived_joinFrame f r h i hparse hwork htake hhome hjoiner hstate), hmac, hout, hrest⟩
  case sentinel =>
    exact ⟨_, rfl, s.sentinelReceived_posts f r h i b old hparse hwork htake hhome htype hsender hopen hroom hnext⟩

end Sys2Proof.Machine

/-! Squashes: the marks that they leave on tickets, what they leave of the tickets of one request, and that they leave the command queues
(R257 to R260, R265). -/

namespace Sys2Proof.Machine

open Sys2Proof.Fields Sys2Proof.Laws

/-! ### Tickets and queues that stay -/

/-- `t` has the tickets and the command queues of `s`. -/
structure State.TicketsStay (s t : State) : Prop where
  tickets : t.sch.tickets = s.sch.tickets
  queues : t.hst.queues = s.hst.queues

theorem State.TicketsStay.refl (s : State) : s.TicketsStay s := ⟨rfl, rfl⟩

theorem State.TicketsStay.trans {s t u : State} (h : s.TicketsStay t) (h' : t.TicketsStay u) : s.TicketsStay u :=
  ⟨h'.tickets.trans h.tickets, h'.queues.trans h.queues⟩

theorem State.TicketsStay.ite {c : Prop} [Decidable c] {s t u : State} (h : s.TicketsStay t) (h' : t.TicketsStay u) :
    s.TicketsStay (if c then t else u) := by
  split
  · exact h
  · exact h.trans h'

theorem State.TicketsStay.ticket {s t : State} (h : s.TicketsStay t) (e : Nat) : t.ticket e = s.ticket e :=
  congrArg (tabGet Ticket.cold · e) h.tickets

theorem State.queue_of_queues {s t : State} (h : t.hst.queues = s.hst.queues) (q : Nat) : t.queue q = s.queue q :=
  congrArg (tabGet HQueue.cold · q) h

theorem State.inflight_of_queues {s t : State} (h : t.hst.queues = s.hst.queues) (q tag : Nat) : t.inflight q tag = s.inflight q tag := by
  simp only [State.inflight, State.queue_of_queues h]

theorem State.ticketsStay_put (s : State) (a : Nat) (w : Word) : s.TicketsStay (s.put a w) := ⟨rfl, rfl⟩

theorem State.ticketsStay_raise (s : State) (id data : Nat) : s.TicketsStay (s.raise id data) :=
  ⟨by rw [s.raise_sch], s.raise_queues id data⟩

theorem State.ticketsStay_oncePerBeat (s : State) (last : Option Nat) (id : Nat) : s.TicketsStay (s.oncePerBeat last id) := by
  unfold State.oncePerBeat
  split
  · exact .refl s
  · exact s.ticketsStay_raise id 0

theorem State.ticketsStay_unplan (s : State) (r : Request) : s.TicketsStay (s.unplan r) := by
  unfold State.unplan
  split <;> exact ⟨rfl, rfl⟩

theorem State.ticketsStay_unstall (s : State) : s.TicketsStay s.unstall := by
  unfold State.unstall
  split
  · exact s.ticketsStay_put _ _
  · exact .refl s

theorem State.ticketsStay_ungrant (s : State) (t : Ticket) : s.TicketsStay (s.ungrant t) := by
  unfold State.ungrant
  split
  · split <;> exact ⟨rfl, rfl⟩
  · exact .refl s

theorem State.ticketsStay_foldl {α : Type} (f : State → α → State) (hf : ∀ (u : State) (x : α), u.TicketsStay (f u x)) (l : List α)
    (s : State) : s.TicketsStay (l.foldl f s) := by
  induction l generalizing s with
  | nil => exact .refl s
  | cons x l ih => exact (hf s x).trans (ih _)

/-! ### The marks of a squash (R257 to R260) -/

/-- The tickets, with their TIDs, that are in the scope of a squash. -/
def State.squashHits (s : State) (whole : Bool) (scope : Nat → Ticket → Bool) : List (Nat × Nat) :=
  (s.sch.tickets.filter (fun p => (p.2.executes || s.sqNow p) && !(whole && p.2.fixed) && scope p.1 p.2)).map (fun p => (p.1, p.2.tid))

/-- The listed tickets that a squash reaches: those in its scope, and those that depend on them. -/
def State.squashReaches (s : State) (whole : Bool) (scope : Nat → Ticket → Bool) (p : Nat × Ticket) : Bool :=
  (s.dependants s.sch.tickets.length (s.squashHits whole scope)).contains (p.1, p.2.tid)

/-- The tickets that another trigger of the tick has reached too. -/
def State.squashBoth (s : State) (whole : Bool) (scope : Nat → Ticket → Bool) : List (Nat × Ticket) :=
  s.sch.tickets.filter (fun p => s.squashReaches whole scope p && s.sqNow p)

/-- The tickets that a squash takes away. -/
def State.squashGone (s : State) (whole : Bool) (stays : Ticket → Bool) (scope : Nat → Ticket → Bool) : List (Nat × Ticket) :=
  s.sch.tickets.filter (fun p => s.squashReaches whole scope p && p.2.state == tkPlanned && !stays p.2)

/-- The tickets that a squash makes stale. -/
def State.squashStale (s : State) (whole : Bool) (stays : Ticket → Bool) (scope : Nat → Ticket → Bool) : List (Nat × Ticket) :=
  (s.sch.tickets.filter (fun p => s.squashReaches whole scope p
    && (p.2.state == tkCommitted || (p.2.state == tkPlanned && stays p.2)))).filter (fun p => !p.2.stale)

/-- The tickets that a trigger reaches are kept with those of its tick (R260). -/
def State.noteSquash (s : State) (reached : List (Nat × Nat)) : State :=
  { s with sch := { s.sch with sqTick := s.tim.ts,
                               sqSet := (if s.sch.sqTick == s.tim.ts && !s.sch.sqSet.isEmpty then s.sch.sqSet else []) ++ reached } }

/-- A squash marks the three kinds of tickets, one kind after the other. -/
def State.markSquash (s : State) (cause : Nat) (both gone stale : List (Nat × Ticket)) : State :=
  let s := both.foldl (fun s p => s.setTicket p.1 { p.2 with cause := lowerCause cause p.2.cause }) s
  let s := gone.foldl (fun s p =>
    (s.setTicket p.1 { p.2 with state := tkSquashed, cause := cause, endBeat := s.beat }).ungrant p.2) s
  stale.foldl (fun s p => s.setTicket p.1 { p.2 with stale := true, cause := cause }) s

/-- A squash that reaches no ticket does nothing; any other only marks tickets, beside counts, events and requests. -/
theorem State.squashWith_marks (s : State) (cause : Nat) (whole : Bool) (stays : Ticket → Bool) (scope : Nat → Ticket → Bool) :
    (s.squashHits whole scope = [] ∧ s.squashWith cause whole stays scope = s)
    ∨ ∃ u : State, s.TicketsStay u ∧ (u.markSquash cause (s.squashBoth whole scope) (s.squashGone whole stays scope)
        (s.squashStale whole stays scope)).TicketsStay (s.squashWith cause whole stays scope) := by
  by_cases hhit : s.squashHits whole scope = []
  · exact .inl ⟨hhit, if_pos (List.isEmpty_iff.mpr hhit)⟩
  · refine .inr ⟨s.noteSquash (s.dependants s.sch.tickets.length (s.squashHits whole scope)), ⟨rfl, rfl⟩, ?_⟩
    have hsch (u : State) (c : Sch) (h : c.tickets = u.sch.tickets) : u.TicketsStay { u with sch := c } := ⟨h, rfl⟩
    have hput (u : State) (a : Nat) (w : Word) := u.ticketsStay_put a w
    unfold State.squashWith
    dsimp only
    split
    case isTrue hnone => exact absurd (List.isEmpty_iff.mp hnone) hhit
    refine State.TicketsStay.trans (State.TicketsStay.ite (State.TicketsStay.ite (.refl _) ?gone) ?stale)
      ((State.ticketsStay_foldl _ (fun u p => ?unplan) _ _).trans (State.ticketsStay_unstall _))
    case gone =>
      exact ((((((hput _ _ _).trans (hput _ _ _)).trans (hput _ _ _)).trans (hput _ _ _)).trans (hput _ _ _)).trans
        (State.ticketsStay_oncePerBeat _ _ _)).trans (hsch _ _ rfl)
    case stale => exact ((hput _ _ _).trans (State.ticketsStay_oncePerBeat _ _ _)).trans (hsch _ _ rfl)
    case unplan =>
      split
      · exact u.ticketsStay_unplan _
      · exact .refl u

theorem State.markSquash_queues (s : State) (cause : Nat) (both gone stale : List (Nat × Ticket)) :
    (s.markSquash cause both gone stale).hst.queues = s.hst.queues := by
  have hqueues := foldl_keeps (α := Nat × Ticket) (fun u : State => u.hst.queues)
  unfold State.markSquash
  refine (hqueues _ stale _ ?stale).trans ((hqueues _ gone _ ?gone).trans (hqueues _ both _ ?both))
  case stale => exact fun _ _ _ => rfl
  case gone => exact fun p _ u => (State.ticketsStay_ungrant _ p.2).queues
  case both => exact fun _ _ _ => rfl

/-- No squash touches the command queues. -/
theorem State.squashWith_queues (s : State) (cause : Nat) (whole : Bool) (stays : Ticket → Bool) (scope : Nat → Ticket → Bool) :
    (s.squashWith cause whole stays scope).hst.queues = s.hst.queues := by
  obtain ⟨-, hnone⟩ | ⟨u, hnote, hmark⟩ := s.squashWith_marks cause whole stays scope
  · rw [hnone]
  · exact hmark.queues.trans ((u.markSquash_queues _ _ _ _).trans hnote.queues)

/-! ### The tickets of a request that is withdrawn (R259, R265) -/

/-- A ticket that is no planned one of request `i`, but as stale. -/
def Ticket.freeOf (t : Ticket) (i : Nat) : Prop := t.state = tkPlanned → t.stale = false → t.req.map (·.1) ≠ some i

theorem Ticket.freeOf_squashed (t : Ticket) (i : Nat) (h : t.state = tkSquashed) : t.freeOf i := fun hplanned =>
  absurd (h.symm.trans hplanned) (by decide)

theorem Ticket.freeOf_stale (t : Ticket) (i : Nat) (h : t.stale = true) : t.freeOf i := fun _ hfresh =>
  absurd (h.symm.trans hfresh) (by decide)

theorem tabGet_eq_or_mem {β : Type} (d : β) (l : List (Nat × β)) (a : Nat) : tabGet d l a = d ∨ (a, tabGet d l a) ∈ l := by
  induction l with
  | nil => exact .inl rfl
  | cons p l ih =>
    obtain ⟨k, v⟩ := p
    by_cases h : a = k
    · subst h
      exact .inr (by simp [tabGet])
    · rw [tabGet, if_neg h]
      exact ih.imp_right (List.mem_cons_of_mem _)

/-- An entry holds a listed ticket, or none. -/
theorem State.ticket_freeOf (s : State) (i e : Nat) (h : ∀ p ∈ s.sch.tickets, p.1 = e → p.2.freeOf i) : (s.ticket e).freeOf i := by
  obtain hcold | hmem := tabGet_eq_or_mem Ticket.cold s.sch.tickets e
  · rw [State.ticket, hcold]
    exact fun hplanned => absurd hplanned (by decide)
  · exact h _ hmem rfl

/-- A fold that sets the tickets of some entries frees entry `e` where it reaches `e`, and leaves it where it does not. -/
theorem State.freeOf_foldl (i e : Nat) (f : State → Nat × Ticket → State) (l : List (Nat × Ticket)) (s : State)
    (hset : ∀ p ∈ l, p.1 = e → ∀ u : State, ((f u p).ticket e).freeOf i)
    (hother : ∀ p, p.1 ≠ e → ∀ u : State, (f u p).ticket e = u.ticket e)
    (h : (∀ p ∈ l, p.1 ≠ e) → (s.ticket e).freeOf i) : ((l.foldl f s).ticket e).freeOf i := by
  induction l generalizing s with
  | nil => exact h (fun p hp => absurd hp List.not_mem_nil)
  | cons p l ih =>
    obtain ⟨hp, hl⟩ := List.forall_mem_cons.mp hset
    refine ih (f s p) hl (fun hrest => ?_)
    by_cases hpe : p.1 = e
    · exact hp hpe s
    · rw [hother p hpe s]
      exact h (List.forall_mem_cons.mpr ⟨hpe, hrest⟩)

theorem State.mem_dependants (s : State) (n : Nat) (es : List (Nat × Nat)) (x : Nat × Nat) (h : x ∈ es) : x ∈ s.dependants n es := by
  induction n generalizing es with
  | zero => exact h
  | succ n ih =>
    unfold State.dependants
    dsimp only
    split
    · exact h
    · exact ih _ (List.mem_append_left _ h)

/-- A planned ticket in the scope of a squash. -/
theorem State.squashReaches_of_scope (s : State) (scope : Nat → Ticket → Bool) (p : Nat × Ticket) (hp : p ∈ s.sch.tickets)
    (hplanned : p.2.state = tkPlanned) (hscope : scope p.1 p.2 = true) :
    (p.1, p.2.tid) ∈ s.squashHits false scope ∧ s.squashReaches false scope p = true := by
  have hhit : (p.1, p.2.tid) ∈ s.squashHits false scope :=
    List.mem_map.mpr ⟨p, List.mem_filter.mpr ⟨hp, by simp [Ticket.executes, hplanned, hscope]⟩, rfl⟩
  exact ⟨hhit, List.contains_iff_mem.mpr (s.mem_dependants _ _ _ hhit)⟩

/-- A listed ticket is no planned one of request `i`, or a squash of the tickets of `i` takes it away or makes it stale. -/
theorem State.mem_squash_of_not_freeOf (s : State) (stays : Ticket → Bool) (scope : Nat → Ticket → Bool) (i : Nat)
    (hscope : ∀ k (t : Ticket), t.req.map (·.1) = some i → scope k t = true) (p : Nat × Ticket) (hp : p ∈ s.sch.tickets)
    (h : ¬ p.2.freeOf i) : p ∈ s.squashGone false stays scope ∨ p ∈ s.squashStale false stays scope := by
  simp only [Ticket.freeOf, not_forall, not_not] at h
  obtain ⟨hplanned, hfresh, hreq⟩ := h
  obtain ⟨-, hreach⟩ := s.squashReaches_of_scope scope p hp hplanned (hscope p.1 p.2 hreq)
  cases hstays : stays p.2 with
  | false => exact .inl (List.mem_filter.mpr ⟨hp, by simp [hreach, hplanned, hstays]⟩)
  | true => exact .inr (List.mem_filter.mpr ⟨List.mem_filter.mpr ⟨hp, by simp [hreach, hplanned, hstays]⟩, by simp [hfresh]⟩)

/-- A squash whose scope has the tickets of request `i` leaves no planned ticket of `i` but as stale. -/
theorem State.squashWith_frees (s : State) (cause : Nat) (stays : Ticket → Bool) (scope : Nat → Ticket → Bool) (i : Nat)
    (hscope : ∀ k (t : Ticket), t.req.map (·.1) = some i → scope k t = true) (e : Nat) :
    ((s.squashWith cause false stays scope).ticket e).freeOf i := by
  obtain ⟨hempty, hnone⟩ | ⟨u, hnote, hmark⟩ := s.squashWith_marks cause false stays scope
  · rw [hnone]
    refine s.ticket_freeOf i e (fun p hp _ hplanned _ hreq => ?_)
    obtain ⟨hhit, -⟩ := s.squashReaches_of_scope scope p hp hplanned (hscope p.1 p.2 hreq)
    rw [hempty] at hhit
    exact absurd hhit List.not_mem_nil
  · have hset (v : State) (p : Nat × Ticket) (x : Ticket) (hpe : p.1 = e) : (v.setTicket p.1 x).ticket e = x := by
      rw [hpe, v.ticket_setTicket_same]
    have hother (v : State) (p : Nat × Ticket) (x : Ticket) (hpe : p.1 ≠ e) : (v.setTicket p.1 x).ticket e = v.ticket e :=
      v.ticket_setTicket_other p.1 e x (Ne.symm hpe)
    have hungrant (v : State) (t : Ticket) : (v.ungrant t).ticket e = v.ticket e := (v.ticketsStay_ungrant t).ticket e
    rw [hmark.ticket e]
    refine State.freeOf_foldl i e _ _ _ (fun p _ hpe v => ?stale) (fun p hpe v => hother v p _ hpe) (fun hstale => ?_)
    case stale =>
      rw [hset v p _ hpe]
      exact Ticket.freeOf_stale _ i rfl
    refine State.freeOf_foldl i e _ _ _ (fun p _ hpe v => ?gone) (fun p hpe v => (hungrant _ _).trans (hother v p _ hpe))
      (fun hgone => ?_)
    case gone =>
      rw [hungrant, hset v p _ hpe]
      exact Ticket.freeOf_squashed _ i rfl
    have hlisted : ∀ p ∈ s.sch.tickets, p.1 = e → p.2.freeOf i := fun p hp hpe => by
      by_contra hbad
      obtain hmem | hmem := s.mem_squash_of_not_freeOf stays scope i hscope p hp hbad
      · exact hgone p hmem hpe
      · exact hstale p hmem hpe
    refine State.freeOf_foldl i e _ _ _ (fun p hp hpe v => ?both) (fun p hpe v => hother v p _ hpe) (fun _ => ?_)
    case both =>
      rw [hset v p _ hpe]
      exact hlisted p (List.mem_of_mem_filter hp) hpe
    rw [hnote.ticket e]
    exact s.ticket_freeOf i e hlisted

end Sys2Proof.Machine

/-! The commands of the queues: completions, MESH requests, their cancellation, and the frames that FWD is offered (R265, R266, R272, R406,
R424, R425, R427, R430). -/

namespace Sys2Proof.Machine

open Sys2Proof.Fields Sys2Proof.Laws

/-! ### Commands in flight (R423) -/

theorem State.inflight_tag (s : State) (q tag : Nat) (c : HCmd) (h : s.inflight q tag = some c) : c.tag = tag :=
  beq_iff_eq.mp (List.find?_some (p := fun c : HCmd => c.tag == tag) h)

theorem State.inflight_of_flying (s : State) (q tag cls op : Nat) (c : HCmd) (h : s.flying q tag cls op = some c) :
    s.inflight q tag = some c := by
  unfold State.flying at h
  split at h
  case h_1 d hd =>
    rw [hd]
    exact (Option.ite_none_right_eq_some.mp h).2
  case h_2 => cases h

/-- A command that begins stays in flight. -/
theorem State.inflight_markStarted (s : State) (q tag : Nat) (c : HCmd) (h : s.inflight q tag = some c) :
    (s.markStarted q tag).inflight q tag = some { c with started := true } := by
  have hkeep : (fun d : HCmd => d.tag == tag) ∘ (fun d => if d.tag = tag then { d with started := true } else d)
      = fun d => d.tag == tag := by
    funext d
    dsimp only [Function.comp_apply]
    split <;> rfl
  have hfind : (s.queue q).inflight.find? (fun d => d.tag == tag) = some c := h
  simp only [State.inflight, State.markStarted, State.queue_setQueue_same, List.find?_map, hkeep, hfind, Option.map_some,
    s.inflight_tag q tag c h, if_true]

/-! ### Completions (R427) -/

/-- `t` holds the completion of a command with a status and a detail, and has the command no more. -/
structure State.Completes (s : State) (q tag status detail : Nat) (t : State) : Prop where
  held : ∃ c ∈ (t.queue q).held, c.tag = tag ∧ c.status = status ∧ c.detail = detail ∧ c.dup = false
  inflight : (t.queue q).inflight = dropTag tag (s.queue q).inflight

theorem State.complete_queue (s : State) (q tag status detail tries : Nat) (ws : List Nat) (h : s.inflight q tag ≠ none) :
    (∃ c ∈ ((s.complete q tag status detail tries ws).queue q).held,
      c.tag = tag ∧ c.status = status ∧ c.detail = detail % 256 ∧ c.dup = false ∧ c.late = false)
    ∧ ((s.complete q tag status detail tries ws).queue q).inflight = dropTag tag (s.queue q).inflight := by
  obtain ⟨c, hc⟩ := Option.ne_none_iff_exists'.mp h
  simp only [State.complete, hc, State.queue_setQueue_same]
  exact ⟨⟨⟨tag, q, false, false, status, detail % 256, min tries 255, ws⟩, by simp, rfl, rfl, rfl, rfl, rfl⟩, trivial⟩

/-- A completion changes nothing but HST's records. -/
theorem State.complete_beside (s : State) (q tag status detail tries : Nat) (ws : List Nat) :
    (s.complete q tag status detail tries ws).sch = s.sch ∧ (s.complete q tag status detail tries ws).fwd = s.fwd := by
  unfold State.complete
  split <;> exact ⟨rfl, rfl⟩

/-- A command completes after steps that leave the queues. -/
theorem State.completes_after {s u : State} (hqueues : u.hst.queues = s.hst.queues) (q tag status detail : Nat)
    (h : s.inflight q tag ≠ none) (hdetail : detail < 256) : s.Completes q tag status detail (u.complete q tag status detail) := by
  obtain ⟨⟨c, hmem, htag, hst, hdet, hdup, -⟩, hrest⟩ :=
    u.complete_queue q tag status detail 0 [] (by rw [State.inflight_of_queues hqueues]; exact h)
  exact ⟨⟨c, hmem, htag, hst, hdet.trans (Nat.mod_eq_of_lt hdetail), hdup⟩, by rw [hrest, State.queue_of_queues hqueues]⟩

/-- A command that completes at once. -/
theorem State.completes_now (s : State) (q tag status : Nat) (h : s.inflight q tag ≠ none) :
    s.Completes q tag status 0 (s.complete q tag status 0) ∧ (s.complete q tag status 0).sch = s.sch :=
  ⟨State.completes_after rfl q tag status 0 h (by decide), (s.complete_beside _ _ _ _ _ _).1⟩

/-! ### Accesses to the banks leave the queues (R400, R406) -/

theorem State.raiseLimited_queues (s : State) (key id data : Nat) : (s.raiseLimited key id data).hst.queues = s.hst.queues := by
  unfold State.raiseLimited
  split
  · exact State.raise_queues _ id data
  · rfl

theorem State.nonOwner_queues (s : State) (o b off : Nat) (write : Bool) : (s.nonOwner o b off write).hst.queues = s.hst.queues := by
  unfold State.nonOwner
  refine (State.raise_queues _ 232 0).trans ?_
  dsimp only
  split <;> rfl

theorem State.readWord_queues (s : State) (o : Nat) (sc : Bool) (w : Nat) : (s.readWord o sc w).2.hst.queues = s.hst.queues := by
  unfold State.readWord
  split
  · rfl
  · exact State.raiseLimited_queues _ 233 233 0
  · exact State.raise_queues _ 234 0

theorem State.readWords_queues (s : State) (o : Nat) (ws : List Nat) :
    (s.readWords o ws).2.hst.queues = s.hst.queues ∧ s.Spares (s.readWords o ws).2 := by
  induction ws generalizing s with
  | nil => exact ⟨rfl, .refl s⟩
  | cons w ws ih =>
    obtain ⟨hqueues, hspares⟩ := ih (s.readWord o false w).2
    exact ⟨hqueues.trans (s.readWord_queues o false w), (s.spares_readWord o false w).trans hspares⟩

/-- A read of the banks, served or refused, leaves the queues and FWD. -/
theorem State.bankRead_queues (s : State) (o a n : Nat) :
    (s.bankRead o a n).2.hst.queues = s.hst.queues ∧ s.Spares (s.bankRead o a n).2 := by
  unfold State.bankRead
  split
  · exact ⟨s.nonOwner_queues _ _ _ _, s.spares_nonOwner _ _ _ _⟩
  · exact s.readWords_queues o _

/-! ### DOWNLINK (R425) -/

/-- The first condition that a DOWNLINK fails, before its buffer is checked. -/
theorem State.downlinkStatus_first (s : State) (r : Request) :
    let known : Prop := r.target < 131072 ∧ (s.nodeState r.target = nodeActive ∨ s.nodeState r.target = nodeAdrift)
    let n := s.nr r.target NR_LANE
    let ch := s.nr r.target NR_CH
    let fits : Prop := s.psduLen n ch 10 r.len ≤ s.psduMax n (s.chProf n ch)
    let room : Prop := r.insKind = 0 ∨ r.insOfs + 16 ≤ r.len
    (s.beating = false → s.downlinkStatus r = stMode)
    ∧ (s.beating = true → ¬ known → s.downlinkStatus r = stBadNode)
    ∧ (s.beating = true → known → ¬ fits → s.downlinkStatus r = stBadLen)
    ∧ (s.beating = true → known → fits → ¬ room → s.downlinkStatus r = stBadInsert)
    ∧ (s.beating = true → known → fits → room → s.downlinkStatus r = stOk) := by
  intro known n ch fits room
  have hmode (hb : s.beating = true) : ¬ (!s.beating) = true := by simp [hb]
  have hnode : known ↔
      ¬ (recordCount ≤ r.target ∨ (!(s.nodeState r.target == nodeActive || s.nodeState r.target == nodeAdrift)) = true) := by
    simp only [known, recordCount, not_or, Nat.not_le, Bool.not_eq_true', Bool.not_eq_false, Bool.or_eq_true, beq_iff_eq]
  have hfits : fits ↔ ¬ s.psduMax n (s.chProf n ch) < s.psduLen n ch 10 r.len := Nat.not_lt.symm
  have hroom : room ↔ ¬ (r.insKind ≠ 0 ∧ r.len < r.insOfs + 16) := by
    simp only [room]
    omega
  refine ⟨fun hb => if_pos (by simp [hb]), fun hb hk => ?node, fun hb hk hf => ?len, fun hb hk hf hr => ?insert,
    fun hb hk hf hr => ?ok⟩
  case node => exact (if_neg (hmode hb)).trans (if_pos (not_not.mp (mt hnode.mpr hk)))
  case len => exact (if_neg (hmode hb)).trans ((if_neg (hnode.mp hk)).trans (if_pos (not_not.mp (mt hfits.mpr hf))))
  case insert =>
    exact (if_neg (hmode hb)).trans ((if_neg (hnode.mp hk)).trans ((if_neg (hfits.mp hf)).trans
      (if_pos (not_not.mp (mt hroom.mpr hr)))))
  case ok =>
    exact (if_neg (hmode hb)).trans ((if_neg (hnode.mp hk)).trans ((if_neg (hfits.mp hf)).trans (if_neg (hroom.mp hr))))

/-- A DOWNLINK that fails a condition completes with its status. -/
theorem State.meshDownlink_fails (s : State) (q tag : Nat) (c : HCmd) (st : Nat) (hfly : s.flying q tag 1 1 = some c)
    (hst : s.downlinkStatus (c.request q .downlink (s.submitter q)) = st) (hbad : st ≠ stOk) :
    s.Completes q tag st 0 (s.meshDownlink q tag) ∧ (s.meshDownlink q tag).sch = s.sch := by
  have hrun : s.meshDownlink q tag = s.complete q tag st 0 := by
    simp only [State.meshDownlink, hfly, hst, if_pos hbad]
  rw [hrun]
  exact s.completes_now q tag st (by simp [s.inflight_of_flying q tag 1 1 c hfly])

/-- A DOWNLINK whose submitter does not own its buffer's bank completes BADBUF. -/
theorem State.meshDownlink_refused (s : State) (q tag : Nat) (c : HCmd) (r : Request) (hfly : s.flying q tag 1 1 = some c)
    (hr : c.request q .downlink (s.submitter q) = r) (hst : s.downlinkStatus r = stOk)
    (hbuf : s.firstRefused r.origin (bufAddr r.bank r.bofs) r.len ≠ none) :
    s.Completes q tag stBadBuf 0 (s.meshDownlink q tag) ∧ (s.meshDownlink q tag).sch = s.sch := by
  obtain ⟨b, hb⟩ := Option.ne_none_iff_exists'.mp hbuf
  obtain ⟨off, hrun⟩ : ∃ off, s.meshDownlink q tag = (s.nonOwner r.origin b off false).complete q tag stBadBuf 0 := by
    simp only [State.meshDownlink, hfly, hr, hst, hb, ne_eq, not_true_eq_false, if_false]
    exact ⟨_, rfl⟩
  rw [hrun]
  exact ⟨State.completes_after (s.nonOwner_queues _ b off false) q tag stBadBuf 0 (by simp [s.inflight_of_flying q tag 1 1 c hfly])
      (by decide),
    (State.complete_beside _ _ _ _ _ _ _).1.trans (s.spares_nonOwner _ b off false).sch⟩

/-- A DOWNLINK that fails no condition begins. -/
theorem State.meshDownlink_begins (s : State) (q tag : Nat) (c : HCmd) (r : Request) (hfly : s.flying q tag 1 1 = some c)
    (hr : c.request q .downlink (s.submitter q) = r) (hst : s.downlinkStatus r = stOk)
    (hbuf : s.firstRefused r.origin (bufAddr r.bank r.bofs) r.len = none) :
    s.meshDownlink q tag = ((s.markStarted q tag).pushRequest r).plan := by
  simp only [State.meshDownlink, hfly, hr, hst, hbuf, ne_eq, not_true_eq_false, if_false, State.addRequest]

/-- The command of a request that has joined the table is in flight and has begun. -/
theorem State.inflight_submitted (s : State) (q tag : Nat) (c : HCmd) (r : Request) (h : s.inflight q tag = some c) :
    ∃ d, ((s.markStarted q tag).pushRequest r).inflight q tag = some d ∧ d.started = true ∧ d.words = c.words :=
  ⟨_, s.inflight_markStarted q tag c h, rfl, rfl⟩

/-! ### BROADCAST (R425) -/

/-- A BROADCAST needs beats and an ACTIVE campaign. -/
theorem State.meshBroadcast_cases (s : State) (q tag : Nat) (c : HCmd) (r : Request) (hfly : s.flying q tag 1 2 = some c)
    (hr : c.request q .broadcast (s.submitter q) = r) :
    (s.beating = false → s.meshBroadcast q tag = s.complete q tag stMode 0)
    ∧ (s.beating = true → s.camp r.target ≠ campActive → s.meshBroadcast q tag = s.complete q tag stBadCamp 0)
    ∧ (s.beating = true → s.camp r.target = campActive → s.meshBroadcast q tag = ((s.markStarted q tag).pushRequest r).plan) := by
  simp only [State.meshBroadcast, hfly, hr]
  exact ⟨fun hb => by simp [hb], fun hb hcamp => by simp [hb, hcamp], fun hb hcamp => by simp [hb, hcamp, State.addRequest]⟩

/-! ### Cancellation (R265, R424, R430) -/

theorem State.openReq_spec (s : State) (q tag : Nat) (r : Request) (h : s.openReq q tag = some r) :
    r.hasTag = true ∧ r.queue = q ∧ r.tag = tag := by
  have hfound := List.find?_some h
  simp only [Bool.and_eq_true, beq_iff_eq] at hfound
  obtain ⟨⟨⟨htagged, hqueue⟩, htag⟩, -⟩ := hfound
  exact ⟨htagged, hqueue, htag⟩

/-- A request that ends completes its command. -/
theorem State.endReq_completes (s : State) (r : Request) (status : Nat) (last : Option Nat) (htagged : r.hasTag = true)
    (hc : s.inflight r.queue r.tag ≠ none) :
    ∃ e ∈ ((s.endReq r status last).queue r.queue).held, e.tag = r.tag ∧ e.status = status ∧ e.late = false := by
  obtain ⟨u, detail, ws, hrun, hqueues⟩ : ∃ (u : State) (detail : Nat) (ws : List Nat),
      s.endReq r status last = (u.complete r.queue r.tag status detail r.tries ws).pruneReqs ∧ u.hst.queues = s.hst.queues :=
    ⟨_, _, _, congrArg State.pruneReqs (if_pos htagged), rfl⟩
  obtain ⟨⟨e, hmem, htag, hst, -, -, hlate⟩, -⟩ := u.complete_queue r.queue r.tag status detail r.tries ws
    (by rw [State.inflight_of_queues hqueues]; exact hc)
  rw [hrun]
  exact ⟨e, hmem, htag, hst, hlate⟩

/-- A cancelled request: its command has completed with the status, and no ticket of it is planned but as stale. -/
theorem State.cancelReq_ends (s : State) (q tag : Nat) (r : Request) (status : Nat) (hopen : s.openReq q tag = some r)
    (hc : s.inflight q tag ≠ none) :
    (∃ e ∈ ((s.cancelReq r status).queue q).held, e.tag = tag ∧ e.status = status ∧ e.late = false)
    ∧ ∀ e, ((s.cancelReq r status).ticket e).freeOf r.id := by
  obtain ⟨htagged, rfl, rfl⟩ := s.openReq_spec q tag r hopen
  refine ⟨?_, fun e => State.squashWith_frees _ cCancel _ _ r.id (fun k t h => beq_iff_eq.mpr h) e⟩
  rw [State.cancelReq, State.squash, State.queue_of_queues (State.squashWith_queues _ _ _ _ _)]
  exact s.endReq_completes r status none htagged hc

/-! ### OFFER (R272, R406) -/

/-- What becomes of a frame that is read, at a queue with room, at a full queue, and of one that is refused. -/
theorem State.offerFrame_cases (s : State) (o bank bofs len : Nat) :
    let x := (s.bankRead o (bufAddr bank bofs) len).1
    let u := (s.bankRead o (bufAddr bank bofs) len).2
    (∀ bs, x = .ok bs → u.fwd.input.length < 1024 → s.offerFrame o bank bofs len = (0, u.fwdEnqueue ⟨bs, 0, false, u.beat⟩))
    ∧ (∀ bs, x = .ok bs → 1024 ≤ u.fwd.input.length → s.offerFrame o bank bofs len = (1, u.queueDrop))
    ∧ (x = .refused → s.offerFrame o bank bofs len = (2, u)) := by
  dsimp only
  unfold State.offerFrame
  generalize s.bankRead o (bufAddr bank bofs) len = p
  obtain ⟨x, u⟩ := p
  refine ⟨fun bs hx hroom => ?_, fun bs hx hfull => ?_, fun hx => ?_⟩
  · simp only at hx hroom; subst hx; exact if_pos hroom
  · simp only at hx hfull; subst hx; exact if_neg (Nat.not_lt.mpr hfull)
  · simp only at hx; subst hx; rfl

theorem State.queueDrop_beside (s : State) : s.queueDrop.hst.queues = s.hst.queues ∧ s.queueDrop.fwd = s.fwd :=
  ⟨State.raiseLimited_queues _ 161 161 0, (State.spares_raiseLimited _ 161 161 0).fwd⟩

theorem State.fwdEnqueue_room (s : State) (f : FwdFrame) (h : s.fwd.input.length < 1024) :
    s.fwdEnqueue f = { s with fwd := { s.fwd with input := s.fwd.input ++ [f] } } := if_pos h

/-- An OFFER completes OK with what became of its frame as the detail. -/
theorem State.queueOffer_completes (s : State) (q tag : Nat) (c : HCmd) (k : Nat) (u : State) (hfly : s.flying q tag 2 8 = some c)
    (hoffer : s.offerFrame (s.submitter q) (c.w 3 % 256) (c.w 3 / 256 % 2 ^ 15) (c.w 4) = (k, u)) (hk : k < 256)
    (hqueues : u.hst.queues = s.hst.queues) :
    s.Completes q tag stOk k (s.queueOffer q tag) ∧ (s.queueOffer q tag).fwd = u.fwd := by
  have hrun : s.queueOffer q tag = u.complete q tag stOk k := by
    simp only [State.queueOffer, hfly, hoffer]
  rw [hrun]
  exact ⟨State.completes_after hqueues q tag stOk k (by simp [s.inflight_of_flying q tag 2 8 c hfly]) hk,
    (u.complete_beside _ _ _ _ _ _).2⟩

/-- Settles O45, command by command: each case from what its command does. -/
theorem queueOperations : Obligations.QueueOperations := by
  unfold Obligations.QueueOperations
  intro s q tag ends
  have hends {st dt : Nat} {t : State} (h : s.Completes q tag.toNat st dt t) : ends t st dt := ⟨h.held, h.inflight⟩
  refine ⟨fun c hfly => ?downlink, fun c hfly => ?broadcast, fun c r hfly hopen hc => ?abort, fun c r hc hcls htime hopen => ?timeout,
    fun c hfly => ?offer⟩
  case downlink =>
    intro node prof len known fits kind room refused ran
    have hc := s.inflight_of_flying q tag.toNat 1 1 c hfly
    obtain ⟨hmode, hnode, hlen, hinsert, hok⟩ := s.downlinkStatus_first (c.request q .downlink (s.submitter q))
    have hran {st : Nat} (hst : s.downlinkStatus (c.request q .downlink (s.submitter q)) = st) (hbad : st ≠ stOk) : ran st := by
      obtain ⟨hcompletes, hsch⟩ := s.meshDownlink_fails q tag.toNat c st hfly hst hbad
      exact ⟨_, rfl, hends hcompletes, hsch⟩
    refine ⟨fun hb => hran (hmode hb) (by decide), fun hb hk => hran (hnode hb hk) (by decide),
      fun hb hk hf => hran (hlen hb hk hf) (by decide), fun hb hk hf hr => hran (hinsert hb hk hf hr) (by decide),
      fun hb hk hf hr hbuf => ?refused, fun hb hk hf hr hbuf => ?begins⟩
    case refused =>
      obtain ⟨hcompletes, hsch⟩ := s.meshDownlink_refused q tag.toNat c _ hfly rfl (hok hb hk hf hr) hbuf
      exact ⟨_, rfl, hends hcompletes, hsch⟩
    case begins =>
      exact ⟨_, congrArg Host.Outcome.next (s.meshDownlink_begins q tag.toNat c _ hfly rfl (hok hb hk hf hr) hbuf), rfl,
        s.inflight_submitted q tag.toNat c _ hc, _, rfl, rfl, rfl, rfl, rfl, rfl,
        s.inflight_tag q tag.toNat c hc, rfl, rfl, rfl, rfl, rfl, Iff.rfl, rfl⟩
  case broadcast =>
    have hc := s.inflight_of_flying q tag.toNat 1 2 c hfly
    obtain ⟨hmode, hcamp, hbegins⟩ := s.meshBroadcast_cases q tag.toNat c _ hfly rfl
    have hran (st : Nat) (hrun : s.meshBroadcast q tag.toNat = s.complete q tag.toNat st 0) :
        ∃ t, exec (.meshBroadcast q tag) s = .next t ∧ ends t st 0 ∧ t.sch = s.sch := by
      obtain ⟨hcompletes, hsch⟩ := s.completes_now q tag.toNat st (by simp [hc])
      exact ⟨_, congrArg Host.Outcome.next hrun, hends hcompletes, hsch⟩
    refine ⟨fun hb => hran stMode (hmode hb), fun hb hstate => hran stBadCamp (hcamp hb hstate), fun hb hstate =>
      ⟨_, congrArg Host.Outcome.next (hbegins hb hstate), s.inflight_submitted q tag.toNat c _ hc, _, rfl, rfl, rfl, rfl, rfl,
        s.inflight_tag q tag.toNat c hc, rfl, fun n => ?_⟩⟩
    exact List.mem_filter.trans (and_iff_right (List.mem_range.mpr n.isLt))
  case abort =>
    obtain ⟨hheld, hfree⟩ := s.cancelReq_ends _ _ r stCancelled hopen hc
    have hrun : s.adminAbort q tag.toNat = (s.cancelReq r stCancelled).planLater.complete q tag.toNat stOk 0 := by
      simp only [State.adminAbort, hfly, hopen]
    exact ⟨_, congrArg Host.Outcome.next hrun, rfl, hheld, hfree⟩
  case timeout =>
    obtain ⟨hheld, hfree⟩ := s.cancelReq_ends _ _ r stTimeout hopen (by simp [hc])
    have hrun : s.commandTimeout q tag.toNat = (s.cancelReq r stTimeout).planLater := by
      simp [State.commandTimeout, hc, hcls, htime, hopen]
    exact ⟨_, congrArg Host.Outcome.next hrun, rfl, hheld, hfree⟩
  case offer =>
    intro a x u
    obtain ⟨hroom, hfull, hrefused⟩ := s.offerFrame_cases (s.submitter q) (c.w 3 % 256) (c.w 3 / 256 % 2 ^ 15) (c.w 4)
    obtain ⟨hqueues, hspares⟩ : u.hst.queues = s.hst.queues ∧ s.Spares u := s.bankRead_queues (s.submitter q) a (c.w 4)
    refine ⟨fun bs hx hlen => ?room, fun bs hx hlen => ?full, fun hx => ?refused⟩
    case room =>
      rw [← hspares.fwd] at hlen
      have hput := u.fwdEnqueue_room ⟨bs, 0, false, u.beat⟩ hlen
      obtain ⟨hcompletes, hfwd⟩ := s.queueOffer_completes q tag.toNat c 0 _ hfly (hroom bs hx hlen) (by decide)
        (by rw [hput]; exact hqueues)
      exact ⟨_, rfl, hends hcompletes, _, by rw [hfwd, hput], rfl⟩
    case full =>
      rw [← hspares.fwd] at hlen
      obtain ⟨hkeep, hdrop⟩ := u.queueDrop_beside
      obtain ⟨hcompletes, hfwd⟩ := s.queueOffer_completes q tag.toNat c 1 _ hfly (hfull bs hx hlen) (by decide)
        (hkeep.trans hqueues)
      exact ⟨_, rfl, hends hcompletes, congrArg Fwd.input (hfwd.trans (hdrop.trans hspares.fwd))⟩
    case refused =>
      obtain ⟨hcompletes, hfwd⟩ := s.queueOffer_completes q tag.toNat c 2 u hfly (hrefused hx) (by decide) hqueues
      exact ⟨_, rfl, hends hcompletes, hfwd.trans hspares.fwd⟩

end Sys2Proof.Machine

/-! The entries of the forwarding tables: their words, and what a write of one stores and leaves (R274, R275, R277, R400). -/

namespace Sys2Proof.Machine

open Sys2Proof.Fields Sys2Proof.Laws

/-! ### Octets and words -/

theorem ofLeBytes_leBytes (n v : Nat) : ofLeBytes (leBytes n v) = v % 256 ^ n := by
  induction n generalizing v with
  | zero => rw [leBytes, ofLeBytes, Nat.pow_zero, Nat.mod_one]
  | succ n ih =>
    have hpow : 256 ^ (n + 1) = 256 * 256 ^ n := Nat.pow_succ'
    rw [leBytes, ofLeBytes, ih, BitVec.toNat_ofNat, hpow]
    exact Nat.mod_mul.symm

theorem length_wordsBytes (ws : List Nat) : (wordsBytes ws).length = 4 * ws.length := by
  simp [wordsBytes, List.length_flatMap, length_leBytes, Nat.mul_comm]

/-- Words read back from their octets. -/
theorem bytesWords_wordsBytes (ws : List Nat) (h : ∀ w ∈ ws, w < 2 ^ 32) : bytesWords ws.length (wordsBytes ws) = ws := by
  induction ws with
  | nil => rfl
  | cons w ws ih =>
    obtain ⟨hw, hws⟩ := List.forall_mem_cons.mp h
    have hsplit : wordsBytes (w :: ws) = leBytes 4 w ++ wordsBytes ws := rfl
    rw [List.length_cons, bytesWords, hsplit, List.take_left' (length_leBytes 4 w), List.drop_left' (length_leBytes 4 w),
      ofLeBytes_leBytes, ih hws]
    congr 1
    exact Nat.mod_eq_of_lt hw

theorem length_bytesWords (n : Nat) (bs : List Byte) : (bytesWords n bs).length = n := by
  induction n generalizing bs with
  | zero => rfl
  | succ n ih => rw [bytesWords, List.length_cons, ih]

theorem getD_bytesWords (n m : Nat) (bs : List Byte) (h : m < n) :
    (bytesWords n bs).getD m 0 = ofLeBytes ((bs.drop (4 * m)).take 4) := by
  induction n generalizing m bs with
  | zero => omega
  | succ n ih =>
    cases m with
    | zero => rfl
    | succ m =>
      rw [bytesWords, List.getD_cons_succ, ih m _ (by omega), List.drop_drop]
      congr 3
      omega

theorem testBit_mod_word (v : Nat) : (v % 2 ^ 32).testBit 31 = v.testBit 31 := by
  rw [Nat.testBit_mod_two_pow]; rfl

theorem testBit_withBit (w b : Nat) (v : Bool) : (withBit w b v).testBit b = v := by
  unfold withBit
  split
  next h => exact h
  next h =>
    rw [Nat.testBit_xor, Nat.testBit_two_pow_self, Bool.xor_true]
    cases v <;> simp_all

/-! ### Reading an entry -/

theorem State.length_cells (s : State) (a n : Nat) : (s.cells a n).length = n := by simp [State.cells]

/-- Four octets out of a longer run. -/
theorem State.cells_word (s : State) (a n k : Nat) (h : k + 4 ≤ n) : ((s.cells a n).drop k).take 4 = s.cells (a + k) 4 := by
  obtain ⟨m, rfl⟩ : ∃ m, n = k + (4 + m) := ⟨n - k - 4, by omega⟩
  rw [State.cells_add, List.drop_left' (State.length_cells s a k), State.cells_add, List.take_left' (State.length_cells s _ 4)]

/-- The words of an entry are those that are read one by one. -/
theorem State.getD_entry (s : State) (t i m : Nat) (h : m < entryBytes t / 4) : (s.entry t i).getD m 0 = s.entryWord t i m := by
  rw [State.entry, getD_bytesWords _ _ _ h, s.cells_word _ _ _ (by omega), State.entryWord]

theorem State.entryWord_lt (s : State) (t i w : Nat) : s.entryWord t i w < 2 ^ 32 := by
  have h := ofLeBytes_lt (s.cells (s.entryAddr t i + 4 * w) 4)
  rwa [State.length_cells] at h

theorem State.cells_congr {s u : State} (a n : Nat) (h : ∀ x, a ≤ x → x < a + n → u.cell x = s.cell x) : u.cells a n = s.cells a n := by
  refine List.map_congr_left fun i hi => ?_
  have := List.mem_range.mp hi
  exact h _ (by omega) (by omega)

/-- The place of the tables hangs on a register of FWD alone. -/
theorem State.tabBase_of_geom {s u : State} (h : u.get FWD_GEOM = s.get FWD_GEOM) (t : Nat) : u.tabBase t = s.tabBase t := by
  simp only [State.tabBase, State.fwdBank, State.fld_of_get FWD_GEOM_FIRSTBANK h]

theorem State.entryAddr_of_geom {s u : State} (h : u.get FWD_GEOM = s.get FWD_GEOM) (t i : Nat) : u.entryAddr t i = s.entryAddr t i := by
  rw [State.entryAddr, State.entryAddr, State.tabBase_of_geom h]

theorem State.entryWord_congr {s u : State} (hgeom : u.get FWD_GEOM = s.get FWD_GEOM) (t i w : Nat)
    (h : ∀ x, s.entryAddr t i + 4 * w ≤ x → x < s.entryAddr t i + 4 * w + 4 → u.cell x = s.cell x) :
    u.entryWord t i w = s.entryWord t i w := by
  rw [State.entryWord, State.entryWord, State.entryAddr_of_geom hgeom, State.cells_congr _ _ h]

theorem State.Serves.geom {s u : State} (h : s.Serves u) : u.get FWD_GEOM = s.get FWD_GEOM := h.regs _ (.inl (by decide))

/-! ### Writing an entry -/

/-- A word of an owned table of banks without errors takes what is written, and no octet beside it changes. -/
theorem State.putEntryWord_served (s : State) (t i w v : Nat) (howned : s.firstRefused ownFwd (s.entryAddr t i + 4 * w) 4 = none)
    (hclean : ∀ x, s.eccMask x = 0) :
    s.Serves (s.putEntryWord t i w v) ∧ (∀ x, (s.putEntryWord t i w v).eccMask x = 0)
    ∧ (s.putEntryWord t i w v).entryWord t i w = v % 2 ^ 32
    ∧ ∀ x, x < s.entryAddr t i + 4 * w ∨ s.entryAddr t i + 4 * w + 4 ≤ x → (s.putEntryWord t i w v).cell x = s.cell x := by
  have hlen := length_leBytes 4 v
  obtain ⟨hserves, hcell, hecc, hzero⟩ : s.Serves (s.putEntryWord t i w v) ∧ _ :=
    s.bankWrite_served ownFwd (s.entryAddr t i + 4 * w) (leBytes 4 v) (by rw [hlen]; exact howned) (fun x _ => by rw [hclean]; decide)
  rw [hlen] at hcell
  obtain ⟨hread, hbeside⟩ := s.stored_of_cell (s.putEntryWord t i w v) _ 4 (leBytes 4 v) hlen hcell
  refine ⟨hserves, fun x => ?_, ?_, hbeside⟩
  · by_cases hx : x ∈ wordsOf (s.entryAddr t i + 4 * w) (leBytes 4 v).length
    · exact hzero (by rw [hlen]; decide) x hx
    · exact (hecc x hx).trans (hclean x)
  · rw [State.entryWord, State.entryAddr_of_geom hserves.geom, hread]
    exact ofLeBytes_leBytes 4 v

/-- A whole stored word is written, whatever its error was. -/
theorem State.writeWord_whole (s : State) (o a : Nat) (bs : List Byte) (w : Nat) (h : a ≤ 8 * w) (h' : 8 * w + 8 ≤ a + bs.length) :
    s.Serves (s.writeWord o a bs w)
    ∧ ∀ x, (s.writeWord o a bs w).cell x = if x / 8 = w then bs.getD (x - a) 0#8 else s.cell x := by
  have hfull : min (a + bs.length) (8 * w + 8) - max a (8 * w) = 8 := by omega
  have hw : s.writeWord o a bs w = (s.storePart a bs w).inject w := by
    simp only [State.writeWord, if_pos hfull, State.storePart]
  obtain ⟨hinj, hcell, -⟩ := (s.storePart a bs w).inject_effect w
  rw [hw]
  refine ⟨(s.serves_storePart a bs w).trans hinj, fun x => ?_⟩
  rw [hcell, s.cell_storePart]
  by_cases hx : x / 8 = w
  · rw [if_pos ⟨by omega, hx⟩, if_pos hx]
  · rw [if_neg (fun h => hx h.2), if_neg hx]

/-- A write of whole stored words that no bank refuses takes place, whatever their errors were. -/
theorem State.bankWrite_whole (s : State) (o a : Nat) (bs : List Byte) (h : s.firstRefused o a bs.length = none)
    (ha : a % 8 = 0) (hlen : bs.length % 8 = 0) :
    s.Serves (s.bankWrite o a bs).2
    ∧ ∀ x, (s.bankWrite o a bs).2.cell x = if a ≤ x ∧ x < a + bs.length then bs.getD (x - a) 0#8 else s.cell x := by
  have hwords (l : List Nat) (hl : ∀ w ∈ l, w ∈ wordsOf a bs.length) (u : State) :
      u.Serves (l.foldl (fun s w => s.writeWord o a bs w) u)
      ∧ ∀ x, (l.foldl (fun s w => s.writeWord o a bs w) u).cell x = if x / 8 ∈ l then bs.getD (x - a) 0#8 else u.cell x := by
    induction l generalizing u with
    | nil => exact ⟨.refl u, fun x => by simp⟩
    | cons w l ih =>
      obtain ⟨hw, hl⟩ := List.forall_mem_cons.mp hl
      rw [mem_wordsOf] at hw
      obtain ⟨hserve, hcell⟩ := u.writeWord_whole o a bs w (by omega) (by omega)
      obtain ⟨hserves, hcells⟩ := ih hl (u.writeWord o a bs w)
      refine ⟨hserve.trans hserves, fun x => ?_⟩
      rw [List.foldl_cons, hcells, hcell]
      by_cases hx : x / 8 = w <;> simp [hx]
  obtain ⟨hserves, hcells⟩ := hwords _ (fun _ hw => hw) s
  simp only [State.bankWrite, h]
  refine ⟨hserves, fun x => ?_⟩
  rw [hcells]
  refine if_congr ?_ rfl rfl
  rw [mem_wordsOf]
  omega

/-- An entry of whole stored words takes its image, and no octet beside it changes. -/
theorem State.putEntry_served (s : State) (t i : Nat) (ws : List Nat) (hlen : entryBytes t = 4 * ws.length)
    (halign : s.entryAddr t i % 8 = 0 ∧ entryBytes t % 8 = 0) (howned : s.firstRefused ownFwd (s.entryAddr t i) (entryBytes t) = none)
    (hws : ∀ w ∈ ws, w < 2 ^ 32) :
    s.Serves (s.putEntry t i ws) ∧ (s.putEntry t i ws).entry t i = ws
    ∧ ∀ x, x < s.entryAddr t i ∨ s.entryAddr t i + entryBytes t ≤ x → (s.putEntry t i ws).cell x = s.cell x := by
  obtain ⟨haddr, hbytes⟩ := halign
  have hbs : (wordsBytes ws).length = entryBytes t := by rw [length_wordsBytes, hlen]
  obtain ⟨hserves, hcell⟩ : s.Serves (s.putEntry t i ws) ∧ _ :=
    s.bankWrite_whole ownFwd (s.entryAddr t i) (wordsBytes ws) (by rw [hbs]; exact howned) haddr (by rw [hbs]; exact hbytes)
  rw [hbs] at hcell
  obtain ⟨hread, hbeside⟩ := s.stored_of_cell (s.putEntry t i ws) _ (entryBytes t) (wordsBytes ws) hbs hcell
  refine ⟨hserves, ?_, hbeside⟩
  rw [State.entry, State.entryAddr_of_geom hserves.geom, hread, hlen, Nat.mul_div_cancel_left _ (by decide),
    bytesWords_wordsBytes ws hws]

end Sys2Proof.Machine

/-! What FWD's work leaves alone: its queues, its registers and the count of its commands' event, whatever it reads, stores, raises or
has squashed (R260, R276, R400). -/

namespace Sys2Proof.Machine

open Sys2Proof.Fields Sys2Proof.Laws

/-! ### FWD's registers -/

/-- FWD's registers, and the count of the event that ends its commands (153). -/
def ofForwarding (a : Nat) : Prop := (0xB0000 ≤ a ∧ a < 0xC0000) ∨ a = (routeCount 153).addr

theorem ofForwarding_besideStores (a : Nat) (h : ofForwarding a) : besideStores a := by
  obtain ⟨-, hlt⟩ | rfl := h
  · exact .inl (by omega)
  · exact .inr ⟨153, by decide, rfl⟩

theorem ofForwarding_besideSignals (a : Nat) (h : ofForwarding a) : besideSignals a := by
  unfold ofForwarding at h
  refine ⟨?_, ?_, ?_, ?_, fun c hc => ?_⟩ <;> simp only [routeCount, msixPending, HST_ERSTAT, HST_EVSEQ, CHB_CEVQ] at * <;> omega

/-- `t` follows from `s` by FWD's work: FWD's queues and registers stay. -/
structure State.Forwards (s t : State) : Prop where
  fwd : t.fwd = s.fwd
  regs : ∀ a, ofForwarding a → t.get a = s.get a

/-- `t` follows from `s` by work of FWD that leaves the banks too. -/
structure State.Reports (s t : State) : Prop extends State.Forwards s t where
  mem : t.mem = s.mem

theorem State.Forwards.refl (s : State) : s.Forwards s := ⟨rfl, fun _ _ => rfl⟩

theorem State.Forwards.trans {s t u : State} (h : s.Forwards t) (h' : t.Forwards u) : s.Forwards u :=
  ⟨h'.fwd.trans h.fwd, fun a ha => (h'.regs a ha).trans (h.regs a ha)⟩

theorem State.Forwards.fld {s t : State} (h : s.Forwards t) (f : Fld) (hf : ofForwarding f.addr) : t.fld f = s.fld f :=
  State.fld_of_get f (h.regs f.addr hf)

theorem State.Forwards.geom {s t : State} (h : s.Forwards t) : t.get FWD_GEOM = s.get FWD_GEOM := h.regs _ (.inl (by decide))

theorem State.Reports.refl (s : State) : s.Reports s := ⟨.refl s, rfl⟩

theorem State.Reports.trans {s t u : State} (h : s.Reports t) (h' : t.Reports u) : s.Reports u :=
  ⟨h.toForwards.trans h'.toForwards, h'.mem.trans h.mem⟩

theorem State.Reports.ite {c : Prop} [Decidable c] {s t u : State} (h : s.Reports t) (h' : t.Reports u) :
    s.Reports (if c then t else u) := by
  split
  · exact h
  · exact h.trans h'

theorem State.reports_foldl {α : Type} (f : State → α → State) (hf : ∀ (u : State) (x : α), u.Reports (f u x)) (l : List α) (s : State) :
    s.Reports (l.foldl f s) := by
  induction l generalizing s with
  | nil => exact .refl s
  | cons x l ih => exact (hf s x).trans (ih _)

/-! ### Events -/

theorem State.reports_raise (s : State) (id data : Nat) (h : id ≠ 153) (hid : id < 256) : s.Reports (s.raise id data) := by
  refine ⟨⟨s.raise_fwd id data, fun a ha => ?_⟩, s.raise_mem id data⟩
  refine ((s.signals_raise id data).regs a (ofForwarding_besideSignals a ha)).trans (s.get_count_other _ a ?_)
  unfold ofForwarding at ha
  simp only [routeCount] at ha ⊢
  omega

theorem State.reports_raiseLimited (s : State) (key id data : Nat) (h : id ≠ 153) (hid : id < 256) :
    s.Reports (s.raiseLimited key id data) := by
  have hnote : s.Reports (s.noteRaise key) := ⟨⟨rfl, fun _ _ => rfl⟩, rfl⟩
  unfold State.raiseLimited
  split
  · exact hnote.trans (State.reports_raise _ id data h hid)
  · exact .refl s

/-- A counter of FWD counts once, and its event, raised at most once per second, leaves FWD and the banks. -/
theorem State.count_raiseLimited (s : State) (f : Fld) (id : Nat) (hf : ofForwarding f.addr) (hlen : f.lo + f.len ≤ 32)
    (hid : id ≠ 153) (hlt : id < 256) :
    ((s.count f).raiseLimited id id).fwd = s.fwd ∧ ((s.count f).raiseLimited id id).mem = s.mem
    ∧ ((s.count f).raiseLimited id id).fld f = min (s.fld f + 1) (2 ^ f.len - 1) := by
  have h := (s.count f).reports_raiseLimited id id 0 hid hlt
  exact ⟨h.fwd, h.mem, (h.fld f hf).trans (s.fld_count_same f hlen)⟩

/-! ### Reads and writes of the tables (R400, R406) -/

theorem State.stores_readWords (s : State) (o : Nat) (ws : List Nat) (h : ∀ w ∈ ws, w / 32768 < bankCount) :
    s.Stores (s.readWords o ws).2 := by
  induction ws generalizing s with
  | nil => exact .refl s
  | cons w ws ih =>
    obtain ⟨hw, hws⟩ := List.forall_mem_cons.mp h
    exact (s.stores_readWord o false w hw).trans (ih _ hws)

/-- A read of the banks, served or refused. -/
theorem State.stores_bankRead (s : State) (o a n : Nat) : s.Stores (s.bankRead o a n).2 := by
  cases h : s.firstRefused o a n with
  | some b => simp only [State.bankRead, h]; exact s.stores_nonOwner _ _ _ _
  | none => simp only [State.bankRead, h]; exact s.stores_readWords o _ (s.bank_of_word o a n h)

theorem State.reports_bankRead (s : State) (o a n : Nat) : s.Reports (s.bankRead o a n).2 :=
  ⟨⟨(s.bankRead_queues o a n).2.fwd, fun _ ha => (s.stores_bankRead o a n).regs _ (ofForwarding_besideStores _ ha)⟩,
    s.bankRead_mem o a n⟩

theorem State.forwards_bankWrite (s : State) (o a : Nat) (bs : List Byte) : s.Forwards (s.bankWrite o a bs).2 :=
  ⟨(s.spares_bankWrite o a bs).fwd, fun _ ha => (s.stores_bankWrite o a bs).regs _ (ofForwarding_besideStores _ ha)⟩

theorem State.forwards_putEntry (s : State) (t i : Nat) (ws : List Nat) : s.Forwards (s.putEntry t i ws) := s.forwards_bankWrite _ _ _

theorem State.forwards_putEntryWord (s : State) (t i w v : Nat) : s.Forwards (s.putEntryWord t i w v) := s.forwards_bankWrite _ _ _

theorem State.forwards_setHit (s : State) (t i : Nat) : s.Forwards (s.setHit t i) := s.forwards_putEntryWord _ _ _ _

/-! ### Squashes (R257 to R260, R276) -/

/-- SCH's registers. -/
theorem State.reports_put_sch (s : State) (a : Nat) (w : Word) (h : 0xA0000 ≤ a) (h' : a < 0xB0000) : s.Reports (s.put a w) := by
  refine ⟨⟨rfl, fun b hb => s.get_put_other a b w fun e => ?_⟩, rfl⟩
  unfold ofForwarding at hb
  simp only [routeCount] at hb
  omega

theorem State.reports_sch (s : State) (c : Sch) : s.Reports { s with sch := c } := ⟨⟨rfl, fun _ _ => rfl⟩, rfl⟩

theorem State.reports_ungrant (s : State) (t : Ticket) : s.Reports (s.ungrant t) := by
  unfold State.ungrant
  split
  · split
    · exact s.reports_sch _
    · exact .refl s
  · exact .refl s

theorem State.reports_unplan (s : State) (r : Request) : s.Reports (s.unplan r) := by
  unfold State.unplan
  split <;> exact s.reports_sch _

theorem State.reports_unstall (s : State) : s.Reports s.unstall := by
  unfold State.unstall
  split
  · exact s.reports_put_sch SCH_STAT _ (by decide) (by decide)
  · exact .refl s

theorem State.reports_oncePerBeat (s : State) (last : Option Nat) (id : Nat) (h : id ≠ 153) (hid : id < 256) :
    s.Reports (s.oncePerBeat last id) := by
  unfold State.oncePerBeat
  split
  · exact .refl s
  · exact s.reports_raise id 0 h hid

/-- A squash works on the tickets, their requests, and SCH's registers and events. -/
theorem State.reports_squashWith (s : State) (cause : Nat) (whole : Bool) (stays : Ticket → Bool) (scope : Nat → Ticket → Bool) :
    s.Reports (s.squashWith cause whole stays scope) := by
  have hput (f : Fld) (hf : 0xA0000 ≤ f.addr ∧ f.addr < 0xB0000) (u : State) (v : Word) : u.Reports (u.put f.addr v) :=
    u.reports_put_sch _ v hf.1 hf.2
  have hsch (u : State) (c : Sch) := u.reports_sch c
  unfold State.squashWith
  dsimp only
  refine State.Reports.ite (.refl s) ?_
  refine State.Reports.trans (State.Reports.ite (State.Reports.ite ?marks ?gone) ?stale)
    ((State.reports_foldl _ (fun u p => ?unplan) _ _).trans (State.reports_unstall _))
  case marks =>
    refine (hsch s _).trans (State.Reports.trans (State.Reports.trans (State.reports_foldl _ (fun u p => ?_) _ _)
      (State.reports_foldl _ (fun u p => ?_) _ _)) (State.reports_foldl _ (fun u p => ?_) _ _))
    · exact hsch u _
    · exact (hsch u _).trans (State.reports_ungrant _ p.2)
    · exact hsch u _
  case gone =>
    exact ((((((hput SCH_NSQUASH_COUNT (by decide) _ _).trans (hput SCH_NBURNED_COUNT (by decide) _ _)).trans
      (hput SCH_LASTSQ_CAUSE (by decide) _ _)).trans (hput SCH_LASTSQ_COUNT (by decide) _ _)).trans
      (hput SCH_LASTSQBEAT_BEAT (by decide) _ _)).trans (State.reports_oncePerBeat _ _ 137 (by decide) (by decide))).trans (hsch _ _)
  case stale =>
    exact ((hput SCH_NSTALE_COUNT (by decide) _ _).trans (State.reports_oncePerBeat _ _ 138 (by decide) (by decide))).trans (hsch _ _)
  case unplan =>
    split
    · exact u.reports_unplan _
    · exact .refl u

theorem State.reports_squash (s : State) (cause : Nat) (scope : Nat → Ticket → Bool) : s.Reports (s.squash cause scope) :=
  s.reports_squashWith _ _ _ _

/-- FWD's report of a changed next hop (R276). -/
theorem State.reports_routeChange (s : State) (i : Nat) : s.Reports (s.routeChange i) :=
  (s.reports_raise 158 i (by decide) (by decide)).trans (State.reports_squash _ _ _)

end Sys2Proof.Machine

/-! Lookups, from the input queue to an egress, and the mesh egress queue (R269 to R271, R280, R282). -/

namespace Sys2Proof.Machine

open Sys2Proof.Fields Sys2Proof.Laws

/-! ### What probes and hits leave alone -/

theorem State.reports_readEntry (s : State) (t i : Nat) : s.Reports (s.readEntry t i).2 := by
  have hread := s.reports_bankRead ownFwd (s.entryAddr t i) (entryBytes t)
  unfold State.readEntry
  dsimp only
  split <;> exact hread

/-- The search of a bucket, entry by entry, for any way of reading an entry. -/
def probeWith (read : State → Nat → Nat → List Nat × State) (s : State) (len : Nat) (d : List Byte) :
    List Nat → Option Nat × State
  | [] => (none, s)
  | i :: r =>
    let (ws, s) := read s 2 i
    if (ws.getD 4 0).testBit 31 && routeLen ws == len && prefixOf ws == maskAddr len d then (some i, s)
    else probeWith read s len d r

/-- The search of the buckets, slot by slot, for any way of searching one. -/
def probeSlotsWith (probe : State → Nat → List Byte → List Nat → Option Nat × State) (s : State) (d : List Byte) :
    List Nat → Option Nat × State
  | [] => (none, s)
  | k :: r =>
    let (x, s) := probe s (s.fld (FWD_LEN_LEN k)) d ((List.range 8).map (· + s.bucketOf k d))
    match x with
    | some i => (some i, s)
    | none => probeSlotsWith probe s d r

theorem State.probeBucket_eq (read : State → Nat → Nat → List Nat × State) (hread : read = State.readEntry) (s : State) (len : Nat)
    (d : List Byte) (l : List Nat) : s.probeBucket len d l = probeWith read s len d l := by
  delta State.probeBucket State.probeBucket._f probeWith probeWith._f
  rewrite [← hread]
  rfl

theorem State.probeAll_eq (probe : State → Nat → List Byte → List Nat → Option Nat × State) (hprobe : probe = State.probeBucket)
    (s : State) (d : List Byte) (l : List Nat) : s.probeAll d l = probeSlotsWith probe s d l := by
  delta State.probeAll State.probeAll._f probeSlotsWith probeSlotsWith._f
  rewrite [← hprobe]
  rfl

theorem reports_probeWith (read : State → Nat → Nat → List Nat × State) (hread : ∀ (s : State) (t i : Nat), s.Reports (read s t i).2)
    (s : State) (len : Nat) (d : List Byte) (l : List Nat) : s.Reports (probeWith read s len d l).2 := by
  induction l generalizing s with
  | nil => exact .refl s
  | cons i l ih =>
    have hi := hread s 2 i
    unfold probeWith
    dsimp only
    split
    · exact hi
    · exact hi.trans (ih _)

theorem reports_probeSlotsWith (probe : State → Nat → List Byte → List Nat → Option Nat × State)
    (hprobe : ∀ (s : State) (len : Nat) (d : List Byte) (l : List Nat), s.Reports (probe s len d l).2) (s : State)
    (d : List Byte) (l : List Nat) : s.Reports (probeSlotsWith probe s d l).2 := by
  induction l generalizing s with
  | nil => exact .refl s
  | cons k l ih =>
    have hk := hprobe s (s.fld (FWD_LEN_LEN k)) d ((List.range 8).map (· + s.bucketOf k d))
    unfold probeSlotsWith
    dsimp only
    split
    · exact hk
    · exact hk.trans (ih _)

/-- A search for the longest match reads the banks, and no more. -/
theorem State.reports_probeAll (s : State) (d : List Byte) (l : List Nat) : s.Reports (s.probeAll d l).2 := by
  rw [State.probeAll_eq _ rfl]
  refine reports_probeSlotsWith _ (fun s len d l => ?_) s d l
  rw [State.probeBucket_eq _ rfl]
  exact reports_probeWith _ State.reports_readEntry s len d l

theorem State.forwards_hitNeighbour (s : State) (key : Nat) : s.Forwards (s.hitNeighbour key).2 := by
  obtain ⟨read, hdef⟩ : ∃ read, read = State.readEntry := ⟨_, rfl⟩
  have hread (e : Nat) : s.Reports (read s 1 e).2 := hdef ▸ s.reports_readEntry 1 e
  unfold State.hitNeighbour
  rw [← hdef]
  split
  · exact .refl s
  next e _ =>
    dsimp only
    split
    · exact (hread e).toForwards.trans (State.forwards_setHit _ 1 e)
    · exact (hread e).toForwards

/-! ### The oldest frame (R269, R282) -/

/-- A frame has been taken from the input queue. -/
def State.takeFrame (s : State) (r : List FwdFrame) : State := { s with fwd := { s.fwd with input := r } }

/-- The route that the search has found is hit and acts; without one the frame is counted. -/
def State.resolve (s : State) (f : FwdFrame) (d : List Byte) : Option Nat → State
  | some e => (s.setHit 2 e).act f d e
  | none => (s.count FWD_NOROUTE_COUNT).raiseLimited 154 154

/-- A packet with a whole IPv6 header spells its destination. -/
theorem State.destOf_whole (s : State) (p : List Byte) (h : 40 ≤ p.length) : s.destOf p = ((p.drop 24).take 16, s) := by
  have hlen : 16 - ((p.drop 24).take 16).length = 0 := by simp only [List.length_take, List.length_drop]; omega
  simp only [State.destOf, hlen, State.freshBytes, List.append_nil]

theorem packet_ipv6 (p : List Byte) (hv6 : (p.headD 0#8).toNat / 16 = 6) (hlen : 40 ≤ p.length) :
    (p.isEmpty || (p.headD 0#8).toNat / 16 != 6) = false := by
  have hne : p ≠ [] := fun h => by simp [h] at hlen
  rw [hv6, List.isEmpty_eq_false_iff.mpr hne]
  rfl

section
variable {s : State} {f : FwdFrame} {r : List FwdFrame} (hin : s.fwd.input = f :: r) (hworks : s.worksOn 0xF f.beat = true)
include hin hworks

/-- A packet without an IPv6 header goes to the host. -/
theorem State.fwdLookup_plain (h : f.packet = [] ∨ (f.packet.headD 0#8).toNat / 16 ≠ 6) :
    s.fwdLookup = (s.takeFrame r).emit (.toHost f.rep f.body) := by
  have hplain : (f.packet.isEmpty || (f.packet.headD 0#8).toNat / 16 != 6) = true := by
    refine Bool.or_eq_true _ _ |>.mpr (h.imp (fun h => ?_) bne_iff_ne.mpr)
    rw [h, List.isEmpty_nil]
  have hfree : ¬ (!s.worksOn 0xF f.beat) = true := by simp [hworks]
  unfold State.fwdLookup
  rw [hin]
  exact (if_neg hfree).trans (if_pos hplain)

variable (hv6 : (f.packet.headD 0#8).toNat / 16 = 6) (hlen : 40 ≤ f.packet.length)
include hv6 hlen

/-- Where the search in the slots that the destination's filter entry and the counts name ends, the frame is resolved (R280). -/
theorem State.fwdLookup_ipv6 (b : BankRes) (x : Option Nat) (w u : State)
    (hw : (s.takeFrame r).bankRead ownFwd ((s.takeFrame r).entryAddr 3 (foldAddr ((f.packet.drop 24).take 16))) 2 = (b, w))
    (hu : w.probeAll ((f.packet.drop 24).take 16) (w.probeSlots (((b.bytes?).map ofLeBytes).getD 0)) = (x, u)) :
    s.fwdLookup = u.resolve f ((f.packet.drop 24).take 16) x := by
  have hpacket := packet_ipv6 f.packet hv6 hlen
  have hdest := (s.takeFrame r).destOf_whole f.packet hlen
  unfold State.takeFrame at hdest hw
  generalize (f.packet.drop 24).take 16 = d at *
  -- Reads and searches stay opaque: as terms they are too large for the kernel to compare.
  obtain ⟨read, hread⟩ : ∃ read, read = State.bankRead := ⟨_, rfl⟩
  obtain ⟨probe, hprobe⟩ : ∃ probe, probe = State.probeAll := ⟨_, rfl⟩
  obtain ⟨dest, hdestOf⟩ : ∃ dest, dest = State.destOf := ⟨_, rfl⟩
  obtain ⟨works, hworksOn⟩ : ∃ works, works = State.worksOn := ⟨_, rfl⟩
  rw [← hread] at hw
  rw [← hprobe] at hu
  rw [← hdestOf] at hdest
  rw [← hworksOn] at hworks
  unfold State.fwdLookup
  rewrite [← hread, ← hprobe, ← hdestOf, ← hworksOn, hin]
  dsimp only at hdest hw ⊢
  simp only [hworks, hpacket, hdest, hw, hu, Bool.not_true, Bool.false_eq_true, if_false]
  cases x with
  | none => rfl
  | some e => rfl

end

/-! ### Actions (R270) -/

/-- A frame that no node's address brings along joins the mesh egress queue. -/
theorem State.toMesh_queues (s : State) (f : FwdFrame) (lane node : Nat) (h : s.fwd.meq.length < 4096) :
    ∃ m : MeqDesc, (s.toMesh f lane node none).fwd = { s.fwd with meq := s.fwd.meq ++ [m] }
      ∧ m.lane = lane ∧ m.node = node ∧ m.dest = none ∧ m.rep = f.rep ∧ m.body = f.packet := by
  refine ⟨⟨lane, node, none, f.rep, s.fresh.1 % 192, s.fresh.2.fresh.1 % 4096, f.packet⟩, ?_, rfl, rfl, rfl, rfl, rfl⟩
  unfold State.toMesh
  rw [if_neg (by omega)]
  dsimp only
  split
  · rw [State.raise_fwd]; rfl
  · rfl

theorem State.act_host (s : State) (f : FwdFrame) (d : List Byte) (e : Nat) (h : s.entryWord 2 e 4 / 256 % 16 = 3) :
    s.act f d e = s.emit (.toHost f.rep f.body) := by
  simp only [State.act, h]

theorem State.act_drop (s : State) (f : FwdFrame) (d : List Byte) (e : Nat) (h : s.entryWord 2 e 4 / 256 % 16 = 4) :
    s.act f d e = s.count FWD_ACTDROP_COUNT := by
  simp only [State.act, h]

theorem State.act_router (s v : State) (f : FwdFrame) (d : List Byte) (e lane node : Nat) (h : s.entryWord 2 e 4 / 256 % 16 = 1)
    (hhit : s.hitNeighbour (s.entryWord 2 e 5 % 2 ^ 16) = (some (lane, node), v)) :
    s.act f d e = v.toMesh f lane (node % 2 ^ 18) none := by
  simp only [State.act, h, hhit]

/-- The route leads to a cell in which no node has the destination's address. -/
theorem State.act_noCell (s : State) (f : FwdFrame) (d : List Byte) (e : Nat) (h : s.entryWord 2 e 4 / 256 % 16 = 0)
    (hnone : s.nodeByEui (beNat (((d.drop 8).headD 0#8 ^^^ 2#8) :: (d.drop 9))) = none) : s.act f d e = s.noHop := by
  have htail : (d.drop 8).tail = d.drop 9 := List.tail_drop
  simp only [State.act, h, State.toCell, htail, hnone]

/-! ### POP of the mesh egress queue (R271) -/

/-- An accepted write of FWD_MEQCTL that sets POP changes that register, and the queue. -/
theorem State.write_meqCtl (s : State) (src : BusSrc) (v : Word) (h : s.takes FWD_MEQCTL v) (hpop : getFld v FWD_MEQCTL_POP = 1) :
    ∃ w, s.write src FWD_MEQCTL v = (s.put FWD_MEQCTL w).meqPop := by
  have hkept (t : State) : t.markDirty FWD_MEQCTL = t := by
    have hmask : keptMask FWD_MEQCTL = 0 := by decide +kernel
    simp [State.markDirty, State.isKept, hmask]
  obtain ⟨w, hw⟩ : ∃ w, s.applyWrite src FWD_MEQCTL v = (s.put FWD_MEQCTL w).meqPop := ⟨_, if_pos hpop⟩
  exact ⟨w, by rw [s.write_taken src _ v (by decide) h, State.mgtWrite_other _ _ _ _ (by decide), hkept, hw]⟩

/-- Settles O35, by the action that the matching route names, and by what probes, hits and counts leave alone. -/
theorem forwardLookup : Obligations.ForwardLookup := by
  unfold Obligations.ForwardLookup
  intro s
  refine ⟨fun f r hin hworks => ⟨fun hplain => ?plain, fun hv6 hlen => ?routed⟩, fun src htake => ?pop⟩
  case plain => exact congrArg Host.Outcome.next (State.fwdLookup_plain hin hworks hplain)
  case routed =>
    intro d w p
    have hw : (s.takeFrame r).bankRead ownFwd ((s.takeFrame r).entryAddr 3 (foldAddr d)) 2 = w := rfl
    have hp : w.2.probeAll d (w.2.probeSlots (((w.1.bytes?).map ofLeBytes).getD 0)) = p := rfl
    clear_value p w
    obtain ⟨b, w⟩ := w
    obtain ⟨x, v⟩ := p
    have hrun : s.fwdLookup = v.resolve f d x := State.fwdLookup_ipv6 hin hworks hv6 hlen b x w v hw hp
    have hprobed : (s.takeFrame r).Reports v := by
      have hread := (s.takeFrame r).reports_bankRead ownFwd ((s.takeFrame r).entryAddr 3 (foldAddr d)) 2
      have hprobe := w.reports_probeAll d (w.probeSlots (((b.bytes?).map ofLeBytes).getD 0))
      rw [hw] at hread
      rw [hp] at hprobe
      exact hread.trans hprobe
    clear_value d
    clear hw hp
    refine ⟨fun hx => ?noRoute, fun e hx => ?route⟩
    case noRoute =>
      obtain rfl : x = none := hx
      obtain ⟨hfwd, hmem, hcount⟩ := v.count_raiseLimited FWD_NOROUTE_COUNT 154 (.inl (by decide)) (by decide) (by decide) (by decide)
      rw [hprobed.fld FWD_NOROUTE_COUNT (.inl (by decide))] at hcount
      exact ⟨_, congrArg Host.Outcome.next hrun, hfwd.trans hprobed.fwd, hmem.trans hprobed.mem, hcount⟩
    case route =>
      obtain rfl : x = some e := hx
      intro u action
      have hu : (s.takeFrame r).Forwards u := hprobed.toForwards.trans (v.forwards_setHit 2 e)
      replace hrun : s.fwdLookup = u.act f d e := hrun
      refine ⟨fun hact => ?host, fun hact => ?drop, fun lane node v hact hhit hroom => ?router, fun hact hcell => ?cell⟩
      case host => exact congrArg Host.Outcome.next (hrun.trans (u.act_host f d e hact))
      case drop => exact congrArg Host.Outcome.next (hrun.trans (u.act_drop f d e hact))
      case router =>
        have hv : v.fwd = (s.takeFrame r).fwd := by
          have hneighbour := u.forwards_hitNeighbour (u.entryWord 2 e 5 % 2 ^ 16)
          rw [hhit] at hneighbour
          exact hneighbour.fwd.trans hu.fwd
        obtain ⟨m, hfwd, hdesc⟩ := v.toMesh_queues f lane (node % 2 ^ 18) (by rw [hv]; exact hroom)
        rw [hv] at hfwd
        exact ⟨_, m, congrArg Host.Outcome.next (hrun.trans (u.act_router v f d e lane node hact hhit)), congrArg Fwd.meq hfwd,
          congrArg Fwd.input hfwd, hdesc⟩
      case cell =>
        obtain ⟨hfwd, -, hcount⟩ := u.count_raiseLimited FWD_NOHOP_COUNT 155 (.inl (by decide)) (by decide) (by decide) (by decide)
        rw [hu.fld FWD_NOHOP_COUNT (.inl (by decide))] at hcount
        exact ⟨_, congrArg Host.Outcome.next (hrun.trans (u.act_noCell f d e hact hcell)), hfwd.trans hu.fwd, hcount⟩
  case pop =>
    obtain ⟨w, hw⟩ := s.write_meqCtl src _ htake (s.getFld_setWord FWD_MEQCTL_POP 1 (by decide))
    exact ⟨_, congrArg Host.Outcome.next hw, rfl, rfl⟩

end Sys2Proof.Machine

/-! The commands of the forwarding tables: how one ends, and what searches, insertions, deletions and flushes do (R285, R286). -/

namespace Sys2Proof.Machine

open Sys2Proof.Fields Sys2Proof.Laws

/-! ### Entries of equal banks -/

section
variable {s u : State} (hmem : u.mem = s.mem) (hgeom : u.get FWD_GEOM = s.get FWD_GEOM)
include hmem hgeom

theorem State.entry_of_mem (t i : Nat) : u.entry t i = s.entry t i := by
  rw [State.entry, State.entry, State.entryAddr_of_geom hgeom, State.cells_of_mem hmem]

theorem State.entryWord_of_mem (t i w : Nat) : u.entryWord t i w = s.entryWord t i w := by
  rw [State.entryWord, State.entryWord, State.entryAddr_of_geom hgeom, State.cells_of_mem hmem]

theorem State.entryValid_of_mem (t i : Nat) : u.entryValid t i = s.entryValid t i := by
  rw [State.entryValid, State.entryValid, State.entryWord_of_mem hmem hgeom]

end

/-! ### The end of a command -/

/-- The command in front has ended with a status, and has left the banks and the tables' place. -/
structure State.Ends (s : State) (r : List FwdCmd) (status : Nat) (t : State) : Prop where
  cmds : t.fwd.cmds = r
  flushing : t.fwd.flushing = false
  status : t.fld FWD_CMD_STATUS = status
  busy : t.fld FWD_CMD_BUSY = 0
  count : t.fld (routeCount 153) = min (s.fld (routeCount 153) + 1) 0xFFFFFFFF
  mem : t.mem = s.mem
  geom : t.get FWD_GEOM = s.get FWD_GEOM

theorem State.Ends.ended {s u t : State} {r : List FwdCmd} {status : Nat} (h : u.Ends r status t) (hu : s.Forwards u) :
    t.fwd.cmds = r ∧ t.fwd.flushing = false ∧ t.fld FWD_CMD_STATUS = status ∧ t.fld FWD_CMD_BUSY = 0
      ∧ t.fld (routeCount 153) = min (s.fld (routeCount 153) + 1) 0xFFFFFFFF :=
  ⟨h.cmds, h.flushing, h.status, h.busy, by rw [h.count, hu.fld _ (.inr rfl)]⟩

/-- The front command has left the queue. -/
def State.popCmd (s : State) : State := { s with fwd := { s.fwd with cmds := s.fwd.cmds.tail, flushing := false, waiting := false } }

/-- The data registers take an image. -/
def State.setDatas (s : State) (img : List Nat) (n : Nat) : State :=
  (List.range n).foldl (fun s m => s.setFld (FWD_CD_DATA m) (img.getD m 0)) s

/-- BUSY falls, the status stands in STATUS, and event 153 is raised. -/
def State.reportEnd (s : State) (status : Nat) : State := ((s.setFld FWD_CMD_BUSY 0).setFld FWD_CMD_STATUS status).raise 153

theorem State.setDatas_succ (s : State) (img : List Nat) (n : Nat) :
    s.setDatas img (n + 1) = (s.setDatas img n).setFld (FWD_CD_DATA n) (img.getD n 0) := by
  rw [State.setDatas, List.range_succ, List.foldl_append]
  rfl

theorem State.setDatas_fwd (s : State) (img : List Nat) (n : Nat) : (s.setDatas img n).fwd = s.fwd :=
  foldl_keeps State.fwd _ _ _ fun _ _ _ => rfl

theorem State.setDatas_mem (s : State) (img : List Nat) (n : Nat) : (s.setDatas img n).mem = s.mem :=
  foldl_keeps State.mem _ _ _ fun _ _ _ => rfl

theorem State.get_setDatas_other (s : State) (img : List Nat) (n a : Nat) (h : a < FWD_CD 0 ∨ FWD_CD n ≤ a) :
    (s.setDatas img n).get a = s.get a := by
  refine foldl_keeps (fun u => State.get u a) _ _ _ fun m hm u => u.get_setFld_other _ _ _ ?_
  have := List.mem_range.mp hm
  simp only [FWD_CD, FWD_CD_DATA] at h ⊢
  omega

theorem State.fld_setDatas (s : State) (img : List Nat) (n m : Nat) (h : m < n) :
    (s.setDatas img n).fld (FWD_CD_DATA m) = img.getD m 0 % 2 ^ 32 := by
  induction n with
  | zero => omega
  | succ n ih =>
    rw [State.setDatas_succ]
    by_cases hm : m = n
    · subst hm
      exact State.fld_setFld_same _ _ _ (by simp [FWD_CD_DATA])
    · rw [State.fld_setFld_other_word _ _ _ _ (by simp only [FWD_CD, FWD_CD_DATA]; omega)]
      exact ih (by omega)

theorem State.fld_reportEnd_other (s : State) (status : Nat) (f : Fld) (hf : f.addr < 0x100000) (h : f.addr ≠ FWD_CMD) :
    (s.reportEnd status).fld f = s.fld f := by
  rw [State.reportEnd, State.fld_raise_low _ _ _ _ hf, State.fld_setFld_other_word _ _ _ _ h, State.fld_setFld_other_word _ _ _ _ h]

/-- A command of the registers that ends reports its status. -/
theorem State.ends_reportEnd (s : State) (status : Nat) (hstatus : status < 16) (hflushing : s.fwd.flushing = false) :
    s.Ends s.fwd.cmds status (s.reportEnd status) where
  cmds := congrArg Fwd.cmds (State.raise_fwd _ _ _)
  flushing := (congrArg Fwd.flushing (State.raise_fwd _ _ _)).trans hflushing
  status := by
    rw [State.reportEnd, State.fld_raise_low _ _ _ _ (by decide), State.fld_setFld_same _ _ _ (by decide)]
    exact Nat.mod_eq_of_lt hstatus
  busy := by
    rw [State.reportEnd, State.fld_raise_low _ _ _ _ (by decide), State.fld_setFld_keeps _ _ _ _ (by decide) (by decide),
      State.fld_setFld_same _ _ _ (by decide)]
    rfl
  count := by
    rw [State.reportEnd, State.fld_routeCount_raise _ _ _ (by decide), State.fld_setFld_other_word _ _ _ _ (by decide),
      State.fld_setFld_other_word _ _ _ _ (by decide)]
  mem := State.raise_mem _ _ _
  geom := by
    rw [State.reportEnd, State.get_raise_low _ _ _ _ (by decide), State.get_setFld_other _ _ _ _ (by decide),
      State.get_setFld_other _ _ _ _ (by decide)]

section
variable {s : State} {c : FwdCmd} {r : List FwdCmd} (hcmds : s.fwd.cmds = c :: r) (hqueue : c.queue = none)
include hcmds hqueue

/-- A command of the registers that returns no image. -/
theorem State.endFwdCmd_plain (status idx : Nat) (hstatus : status < 16) : s.Ends r status (s.endFwdCmd c status idx []) := by
  have hend : s.endFwdCmd c status idx [] = s.popCmd.reportEnd status := by
    unfold State.endFwdCmd
    rw [hqueue]
    rfl
  have htail : s.popCmd.fwd.cmds = r := congrArg List.tail hcmds
  have h := s.popCmd.ends_reportEnd status hstatus rfl
  rw [hend]
  exact ⟨h.cmds.trans htail, h.flushing, h.status, h.busy, h.count, h.mem, h.geom⟩

/-- A command of the registers that returns an index and an image. -/
theorem State.endFwdCmd_image (status idx : Nat) (img : List Nat) (hstatus : status < 16) (himg : img ≠ []) (hlen : img.length ≤ 8) :
    s.Ends r status (s.endFwdCmd c status idx img) ∧ (s.endFwdCmd c status idx img).fld FWD_CIDX_INDEX = idx % 2 ^ 18
    ∧ ∀ m, m < img.length → (s.endFwdCmd c status idx img).fld (FWD_CD_DATA m) = img.getD m 0 % 2 ^ 32 := by
  generalize hu : (s.popCmd.setDatas img img.length).setFld FWD_CIDX_INDEX idx = u
  have hend : s.endFwdCmd c status idx img = u.reportEnd status := by
    unfold State.endFwdCmd
    rw [hqueue, ← hu]
    cases img with
    | nil => exact absurd rfl himg
    | cons w ws => rfl
  have hfwd : u.fwd = s.popCmd.fwd := by
    rw [← hu]
    exact s.popCmd.setDatas_fwd img img.length
  have hmem : u.mem = s.mem := by
    rw [← hu]
    exact s.popCmd.setDatas_mem img img.length
  have hget (a : Nat) (ha : a < FWD_CIDX ∨ FWD_CD 8 ≤ a) : u.get a = s.get a := by
    simp only [FWD_CIDX, FWD_CD] at ha
    rw [← hu, State.get_setFld_other _ _ _ _ (by simp only [FWD_CIDX_INDEX, FWD_CIDX]; omega)]
    exact s.popCmd.get_setDatas_other img _ a (by simp only [FWD_CD]; omega)
  have h := u.ends_reportEnd status hstatus (by rw [hfwd]; rfl)
  have htail : u.fwd.cmds = r := by
    rw [hfwd]
    exact congrArg List.tail hcmds
  rw [hend]
  refine ⟨⟨h.cmds.trans htail, h.flushing, h.status, h.busy, ?_, h.mem.trans hmem, ?_⟩, ?_, fun m hm => ?_⟩
  · rw [h.count, State.fld_of_get _ (hget _ (.inr (by decide)))]
  · rw [h.geom, hget _ (.inl (by decide))]
  · rw [u.fld_reportEnd_other _ _ (by decide) (by decide), ← hu, State.fld_setFld_same _ _ _ (by decide)]
    rfl
  · have haddr : (FWD_CD_DATA m).addr = 0xB0080 + 4 * m := rfl
    rw [u.fld_reportEnd_other _ _ (by omega) (by simp only [haddr, FWD_CMD]; omega), ← hu,
      State.fld_setFld_other_word _ _ _ _ (by rw [haddr]; simp only [FWD_CIDX_INDEX, FWD_CIDX]; omega)]
    exact State.fld_setDatas _ _ _ _ hm

/-- A command that has found an entry returns its index and its words. -/
theorem State.endFwdCmd_found (i : Nat) (htable : c.table ≤ 2) :
    s.Ends r fsOk (s.endFwdCmd c fsOk i (s.entry c.table i))
    ∧ (s.endFwdCmd c fsOk i (s.entry c.table i)).fld FWD_CIDX_INDEX = i % 2 ^ 18
    ∧ ∀ m, m < entryBytes c.table / 4 →
      (s.endFwdCmd c fsOk i (s.entry c.table i)).fld (FWD_CD_DATA m) = s.entryWord c.table i m := by
  have hlen : (s.entry c.table i).length = entryBytes c.table / 4 := length_bytesWords _ _
  have hbytes : 0 < entryBytes c.table / 4 ∧ entryBytes c.table / 4 ≤ 8 := by
    generalize c.table = k at htable
    interval_cases k <;> decide
  obtain ⟨hpos, hle⟩ := hbytes
  obtain ⟨hends, hidx, hdata⟩ := State.endFwdCmd_image hcmds hqueue fsOk i (s.entry c.table i) (by decide)
    (List.ne_nil_of_length_pos (by rw [hlen]; exact hpos)) (by rw [hlen]; exact hle)
  refine ⟨hends, hidx, fun m hm => ?_⟩
  rw [hdata m (by rw [hlen]; exact hm), s.getD_entry _ _ _ hm]
  exact Nat.mod_eq_of_lt (s.entryWord_lt _ _ _)

end

end Sys2Proof.Machine

/-! Searches, insertions, deletions and flushes by the commands of the forwarding tables (R276, R281, R286). -/

namespace Sys2Proof.Machine

open Sys2Proof.Fields Sys2Proof.Laws

/-! ### Changes of a node entry (R276) -/

theorem State.entryAddr_node (s : State) (i : Nat) : s.entryAddr 0 i = (s.fld FWD_GEOM_FIRSTBANK + 0) * 0x40000 + 16 * i := rfl

theorem State.entryAddr_nbr (s : State) (i : Nat) : s.entryAddr 1 i = s.tabBase 1 + 16 * i := rfl

/-- A changed next hop is reported, and another not. -/
theorem State.reports_nodeChange (u : State) (old : Option (Nat × Nat)) (i : Nat) :
    u.Reports (if old.isSome && old != u.nextHopOf i then u.routeChange i else u) := by
  split
  · exact u.reports_routeChange i
  · exact .refl u

theorem State.reports_putNodeEntry (s : State) (i : Nat) (ws : List Nat) :
    (s.putEntry 0 i (nodeImage ws)).Reports (s.putNodeEntry i ws) := State.reports_nodeChange _ _ _

theorem State.reports_putNodeWord (s : State) (i w v : Nat) :
    (s.putEntryWord 0 i w (v &&& (entryMasks 0).getD w 0)).Reports (s.putNodeWord i w v) := State.reports_nodeChange _ _ _

/-- An owned node entry takes an image without its reserved bits. -/
theorem State.putNodeEntry_served (s : State) (i w0 w1 w2 w3 : Nat) (howned : s.firstRefused ownFwd (s.entryAddr 0 i) 16 = none)
    (h0 : w0 < 2 ^ 32) (h1 : w1 < 2 ^ 32) (h2 : w2 < 2 ^ 31) :
    s.Forwards (s.putNodeEntry i [w0, w1, w2 + 2 ^ 31, w3])
    ∧ (s.putNodeEntry i [w0, w1, w2 + 2 ^ 31, w3]).entry 0 i = [w0, w1, w2 % 2 ^ 18 + 2 ^ 31, w3 % 2 ^ 16]
    ∧ ∀ a, a < s.entryAddr 0 i ∨ s.entryAddr 0 i + 16 ≤ a → (s.putNodeEntry i [w0, w1, w2 + 2 ^ 31, w3]).cell a = s.cell a := by
  have hbit : (w2 + 2 ^ 31).testBit 31 = true := by
    rw [Nat.add_comm, Nat.testBit_two_pow_add_eq, Nat.testBit_lt_two_pow h2]
    rfl
  have himg : nodeImage [w0, w1, w2 + 2 ^ 31, w3] = [w0, w1, w2 % 2 ^ 18 + 2 ^ 31, w3 % 2 ^ 16] := by
    have hlow : (w2 + 2 ^ 31) % 2 ^ 18 = w2 % 2 ^ 18 := by omega
    simp only [nodeImage, List.getD_cons_zero, List.getD_cons_succ, hlow, hbit, if_true]
  have hreports := s.reports_putNodeEntry i [w0, w1, w2 + 2 ^ 31, w3]
  rw [himg] at hreports
  obtain ⟨-, hentry, hbeside⟩ := s.putEntry_served 0 i [w0, w1, w2 % 2 ^ 18 + 2 ^ 31, w3 % 2 ^ 16] rfl
    ⟨by rw [s.entryAddr_node]; omega, rfl⟩ howned (by
      simp only [List.mem_cons, List.not_mem_nil, or_false, forall_eq_or_imp, forall_eq]
      omega)
  exact ⟨(s.forwards_putEntry _ _ _).trans hreports.toForwards, (State.entry_of_mem hreports.mem hreports.geom 0 i).trans hentry,
    fun a ha => (State.cell_of_mem hreports.mem a).trans (hbeside a ha)⟩

/-- An owned node entry of banks without errors loses VALID. -/
theorem State.putNodeWord_invalid (s : State) (i v : Nat) (hv : v < 2 ^ 31)
    (howned : s.firstRefused ownFwd (s.entryAddr 0 i + 8) 4 = none) (hclean : ∀ x, s.eccMask x = 0) :
    s.Forwards (s.putNodeWord i 2 v) ∧ (s.putNodeWord i 2 v).entryValid 0 i = false
    ∧ ∀ a, a < s.entryAddr 0 i + 8 ∨ s.entryAddr 0 i + 12 ≤ a → (s.putNodeWord i 2 v).cell a = s.cell a := by
  have hreports := s.reports_putNodeWord i 2 v
  obtain ⟨-, -, hword, hbeside⟩ := s.putEntryWord_served 0 i 2 (v &&& (entryMasks 0).getD 2 0) howned hclean
  refine ⟨(s.forwards_putEntryWord _ _ _ _).trans hreports.toForwards, ?_,
    fun a ha => (State.cell_of_mem hreports.mem a).trans (hbeside a ha)⟩
  have hbit : v.testBit 31 = false := Nat.testBit_lt_two_pow hv
  have hvalid : (s.putNodeWord i 2 v).entryValid 0 i = ((s.putNodeWord i 2 v).entryWord 0 i 2).testBit 31 := rfl
  rw [hvalid, State.entryWord_of_mem hreports.mem hreports.geom, hword, testBit_mod_word, Nat.testBit_and, hbit, Bool.false_and]

/-! ### Flushes of the neighbour table -/

theorem State.lt_of_mem_validEntries_nbr (s : State) (i : Nat) (h : i ∈ s.validEntries 1) : i < 16384 := by
  have hbytes : s.tabBytes 1 = 262144 := rfl
  have hentry : entryBytes 1 = 16 := rfl
  simp only [State.validEntries, List.mem_filterMap, Option.ite_none_right_eq_some, Option.some.injEq, hbytes, hentry] at h
  obtain ⟨c, -, ⟨hlo, hhi, -⟩, rfl⟩ := h
  omega

/-- `t` follows from `s` by the removal of neighbours, the listed ones among them, from banks without errors. -/
structure State.Prunes (s : State) (l : List Nat) (t : State) : Prop where
  forwards : s.Forwards t
  serves : s.Serves t
  clean : ∀ x, t.eccMask x = 0
  valid : ∀ j, t.entryValid 1 j = true → s.entryValid 1 j = true ∧ j ∉ l
  beside : ∀ x, x < s.tabBase 1 ∨ s.tabBase 1 + 262144 ≤ x → t.cell x = s.cell x

/-- An owned neighbour goes. -/
theorem State.prunes_nbrRemove (s : State) (i : Nat) (hi : i < 16384) (howned : s.firstRefused ownFwd (s.entryAddr 1 i) 16 = none)
    (hclean : ∀ x, s.eccMask x = 0) : s.Prunes [i] (s.nbrRemove i) := by
  have hvalid (u : State) (j : Nat) : u.entryValid 1 j = (u.entryWord 1 j 0).testBit 31 := rfl
  have haddr := s.entryAddr_nbr
  obtain ⟨hserves, hecc, hword, hbeside⟩ : s.Serves (s.nbrRemove i) ∧ _ :=
    s.putEntryWord_served 1 i 0 (withBit (s.entryWord 1 i 0) 31 false)
      (s.firstRefused_within ownFwd _ 16 _ _ (by omega) (by omega) howned) hclean
  refine ⟨s.forwards_putEntryWord _ _ _ _, hserves, hecc, fun j hj => ?_, fun x hx => hbeside x (by rw [haddr]; omega)⟩
  have hne : j ≠ i := by
    rintro rfl
    have hgone : (s.nbrRemove j).entryWord 1 j 0 = withBit (s.entryWord 1 j 0) 31 false % 2 ^ 32 := hword
    rw [hvalid, hgone, testBit_mod_word, testBit_withBit] at hj
    exact Bool.false_ne_true hj
  have hkeep : (s.nbrRemove i).entryWord 1 j 0 = s.entryWord 1 j 0 :=
    State.entryWord_congr hserves.geom 1 j 0 fun x hlo hhi => hbeside x (by rw [haddr] at hlo hhi ⊢; omega)
  rw [hvalid, hkeep] at hj
  exact ⟨hj, fun h => hne (List.mem_singleton.mp h)⟩

theorem State.Prunes.cons {s t u : State} {i : Nat} {l : List Nat} (h : s.Prunes [i] t) (h' : t.Prunes l u) : s.Prunes (i :: l) u where
  forwards := h.forwards.trans h'.forwards
  serves := h.serves.trans h'.serves
  clean := h'.clean
  valid j hj := by
    obtain ⟨ht, hl⟩ := h'.valid j hj
    obtain ⟨hs, hi⟩ := h.valid j ht
    exact ⟨hs, fun hm => (List.mem_cons.mp hm).elim (fun e => hi (List.mem_singleton.mpr e)) hl⟩
  beside x hx := by
    exact (h'.beside x (by rw [State.tabBase_of_geom h.serves.geom]; exact hx)).trans (h.beside x hx)

/-- Owned neighbours go one after the other. -/
theorem State.prunes_nbrRemoves (l : List Nat) (s : State) (hl : ∀ i ∈ l, i < 16384)
    (howned : ∀ i, i < 16384 → s.firstRefused ownFwd (s.entryAddr 1 i) 16 = none) (hclean : ∀ x, s.eccMask x = 0) :
    s.Prunes l (l.foldl (fun s i => s.nbrRemove i) s) := by
  induction l generalizing s with
  | nil => exact ⟨.refl s, .refl s, hclean, fun j hj => ⟨hj, List.not_mem_nil⟩, fun _ _ => rfl⟩
  | cons i l ih =>
    obtain ⟨hi, hl⟩ := List.forall_mem_cons.mp hl
    have hone := s.prunes_nbrRemove i hi (howned i hi) hclean
    refine hone.cons (ih _ hl (fun j hj => ?_) hone.clean)
    rw [State.entryAddr_of_geom hone.serves.geom, hone.serves.firstRefused]
    exact howned j hj

/-! ### The command in front runs -/

section
variable {s : State} {c : FwdCmd} {r : List FwdCmd} (hcmds : s.fwd.cmds = c :: r) (hlive : s.live 0xF = true)
  (hflushing : s.fwd.flushing = false) (hwaiting : s.fwd.waiting = false)
include hcmds hlive hflushing hwaiting

theorem State.runFwd_front (op : Nat) (hop : c.op = op) :
    s.runFwd op = match (generalizing := false) op with
      | 0 => s.cmdSearch c
      | 1 => s.cmdNext c
      | 2 => s.cmdInsert c
      | 3 => s.cmdDelete c
      | _ => s.cmdFlush c := by
  have hruns : ¬ (c.op ≠ op ∨ s.fwd.flushing = true ∨ s.fwd.waiting = true ∨ (!s.live 0xF) = true) := by
    simp [hop, hlive, hflushing, hwaiting]
  unfold State.runFwd
  rw [hcmds]
  exact if_neg hruns

theorem State.fwdSearch_runs (hop : c.op = 0) : exec .fwdSearch s = .next (s.cmdSearch c) :=
  congrArg Host.Outcome.next (State.runFwd_front hcmds hlive hflushing hwaiting 0 hop)

theorem State.fwdNext_runs (hop : c.op = 1) : exec .fwdNext s = .next (s.cmdNext c) :=
  congrArg Host.Outcome.next (State.runFwd_front hcmds hlive hflushing hwaiting 1 hop)

theorem State.fwdInsert_runs (hop : c.op = 2) : exec .fwdInsert s = .next (s.cmdInsert c) :=
  congrArg Host.Outcome.next (State.runFwd_front hcmds hlive hflushing hwaiting 2 hop)

theorem State.fwdDelete_runs (hop : c.op = 3) : exec .fwdDelete s = .next (s.cmdDelete c) :=
  congrArg Host.Outcome.next (State.runFwd_front hcmds hlive hflushing hwaiting 3 hop)

theorem State.fwdFlushByPort_runs (hop : c.op = 4) : exec .fwdFlushByPort s = .next (s.cmdFlush c) :=
  congrArg Host.Outcome.next (State.runFwd_front hcmds hlive hflushing hwaiting 4 hop)

end

/-! ### What the commands do -/

theorem State.cmdSearch_found (s : State) (c : FwdCmd) (i : Nat) (h : s.findKey c = some (some i)) :
    s.cmdSearch c = s.endFwdCmd c fsOk i (s.entry c.table i) := by
  simp only [State.cmdSearch, h]

theorem State.cmdSearch_notFound (s : State) (c : FwdCmd) (h : s.findKey c = some none) :
    s.cmdSearch c = s.endFwdCmd c fsNotFound c.cidx [] := by
  simp only [State.cmdSearch, h]

theorem State.cmdSearch_badKey (s : State) (c : FwdCmd) (h : s.findKey c = none) : s.cmdSearch c = s.endFwdCmd c fsBadKey c.cidx [] := by
  simp only [State.cmdSearch, h]

section
variable {s : State} {c : FwdCmd} (htable : c.table ≤ 2)
include htable

/-- A walk ends at the next VALID entry. -/
theorem State.cmdNext_found (i : Nat) (h : (s.validEntries c.table).find? (fun i => c.start || decide (c.cidx < i)) = some i) :
    s.cmdNext c = s.endFwdCmd c fsOk i (s.entry c.table i) := by
  simp only [State.cmdNext, h, if_neg (show ¬ 3 ≤ c.table by omega)]

/-- A walk ends behind the last VALID entry. -/
theorem State.cmdNext_end (h : (s.validEntries c.table).find? (fun i => c.start || decide (c.cidx < i)) = none) :
    s.cmdNext c = s.endFwdCmd c fsEnd c.cidx [] := by
  simp only [State.cmdNext, h, if_neg (show ¬ 3 ≤ c.table by omega)]

end

theorem State.cmdFlush_nbr (s : State) (c : FwdCmd) (htable : c.table = 1) (hport : c.ck.getD 0 0 % 8 ≠ 7) :
    s.cmdFlush c = { s with fwd := { s.fwd with flushing := true } } := if_neg (by omega)

/-- An insertion of a node whose index and short address are good. -/
theorem State.cmdInsert_node (s : State) (c : FwdCmd) (w0 w1 w2 w3 : Nat) (htable : c.table = 0) (hcd : c.cd.take 4 = [w0, w1, w2, w3])
    (hidx : c.cidx < 131072) (hshort : w2 % 2 ^ 16 < 0xFF00) (h2 : w2 < 2 ^ 31) :
    s.cmdInsert c = if s.nodeDup c.cidx [w0, w1, w2 + 2 ^ 31, w3] then s.endFwdCmd c fsDupKey c.cidx []
      else (s.putNodeEntry c.cidx [w0, w1, w2 + 2 ^ 31, w3]).endFwdCmd c fsOk c.cidx [] := by
  obtain ⟨rest, hrest⟩ : ∃ rest, c.cd = w0 :: w1 :: w2 :: w3 :: rest :=
    ⟨c.cd.drop 4, (List.take_append_drop 4 c.cd).symm.trans (congrArg (· ++ c.cd.drop 4) hcd)⟩
  have hvalid : withBit w2 31 true = w2 + 2 ^ 31 := by
    have hclear : w2.testBit 31 = false := Nat.testBit_lt_two_pow h2
    rw [withBit, hclear, if_neg Bool.false_ne_true]
    have hdiv : (w2 ^^^ 2 ^ 31) / 2 ^ 31 = 1 := by rw [Nat.xor_div_two_pow, Nat.div_eq_of_lt h2]; rfl
    have hmod : (w2 ^^^ 2 ^ 31) % 2 ^ 31 = w2 := by rw [Nat.xor_mod_two_pow, Nat.mod_eq_of_lt h2, Nat.mod_self, Nat.xor_zero]
    omega
  have himg : c.cd.take 2 ++ [withBit (c.cd.getD 2 0) 31 true, c.cd.getD 3 0] = [w0, w1, w2 + 2 ^ 31, w3] := by
    rw [hrest, ← hvalid]
    rfl
  have hgood : ¬ (131072 ≤ c.cidx ∨ 0xFF00 ≤ c.cd.getD 2 0 % 2 ^ 16) := by
    have hword : c.cd.getD 2 0 = w2 := by rw [hrest]; rfl
    rw [hword]
    omega
  unfold State.cmdInsert
  rw [htable]
  unfold State.insertNode
  rw [himg]
  exact if_neg hgood

/-- A deletion in the node table goes by the index. -/
theorem State.cmdDelete_node (s : State) (c : FwdCmd) (htable : c.table = 0) :
    s.cmdDelete c = if s.entryValid 0 c.cidx then (s.putNodeWord c.cidx 2 (s.entryWord 0 c.cidx 2 % 2 ^ 31)).endFwdCmd c fsOk c.cidx []
      else s.endFwdCmd c fsNotFound c.cidx [] := by
  have hfind : s.findKey { c with keysel := 2 } = some (if s.entryValid 0 c.cidx then some c.cidx else none) := by
    simp only [State.findKey, htable]
  unfold State.cmdDelete
  rw [hfind, htable]
  cases s.entryValid 0 c.cidx with
  | false => rfl
  | true => rfl

theorem State.removeEntry_nbr (s : State) (i : Nat) : s.removeEntry 1 i = s.nbrRemove i := by
  obtain ⟨remove, hdef⟩ : ∃ remove, remove = State.nbrRemove := ⟨_, rfl⟩
  unfold State.removeEntry
  rewrite [← hdef]
  rfl

/-- A flush of the neighbour table ends with the removal of its entries. -/
theorem State.flushDone_nbr (s : State) (c : FwdCmd) (r : List FwdCmd) (hcmds : s.fwd.cmds = c :: r) (hflushing : s.fwd.flushing = true)
    (htable : c.table = 1) :
    s.flushDone = ((s.flushed c 1).foldl (fun s i => s.nbrRemove i) s).endFwdCmd c fsOk c.cidx [] := by
  have hruns : ¬ (!s.fwd.flushing) = true := by simp [hflushing]
  have hremove : (fun (u : State) (i : Nat) => u.nbrRemove i) = fun u i => u.removeEntry c.table i := by
    funext u i
    rw [htable, State.removeEntry_nbr]
  -- Removals stay opaque: as terms they are too large for the kernel to compare.
  obtain ⟨remove, hdef⟩ : ∃ remove, remove = State.removeEntry := ⟨_, rfl⟩
  unfold State.flushDone
  rewrite [hremove, ← hdef, hcmds, ← htable]
  exact if_neg hruns

/-- Settles O36, by what each command does to its entry and by the end that it comes to. -/
theorem forwardCommands : Obligations.ForwardCommands := by
  unfold Obligations.ForwardCommands
  intro s c r hcmds hqueue hlive ended found owned
  have hplain (status idx : Nat) (h : status < 16) := State.endFwdCmd_plain hcmds hqueue status idx h
  have hfound (i : Nat) (htable : c.table ≤ 2) : found (s.endFwdCmd c fsOk i (s.entry c.table i)) i := by
    obtain ⟨hends, hindex⟩ := State.endFwdCmd_found hcmds hqueue i htable
    exact ⟨hends.ended (.refl s), hends.mem, hindex⟩
  have hclean (h : s.mem.ecc = []) (x : Nat) : s.eccMask x = 0 := by rw [State.eccMask, h]; rfl
  refine ⟨fun hflushing hwaiting => ⟨fun hop => ?search, fun hop htable => ?next,
    fun w0 w1 w2 w3 hop htable hcd hidx hshort h0 h1 h2 => ?insert, fun hop htable => ?delete, fun hop htable hport => ?flush⟩, fun hflushing htable hecc howned => ?flushDone⟩
  case search =>
    have hrun := State.fwdSearch_runs hcmds hlive hflushing hwaiting hop
    refine ⟨fun i hfind htable => ⟨_, ?_, hfound i htable⟩, fun hfind => ?_, fun hfind => ?_⟩
    · rw [hrun, s.cmdSearch_found c i hfind]
    · have hend := hplain fsNotFound c.cidx (by decide)
      exact ⟨_, by rw [hrun, s.cmdSearch_notFound c hfind], hend.ended (.refl s), hend.mem⟩
    · have hend := hplain fsBadKey c.cidx (by decide)
      exact ⟨_, by rw [hrun, s.cmdSearch_badKey c hfind], hend.ended (.refl s), hend.mem⟩
  case next =>
    have hrun := State.fwdNext_runs hcmds hlive hflushing hwaiting hop
    refine ⟨fun i hfind => ⟨_, ?_, hfound i htable⟩, fun hfind => ?_⟩
    · rw [hrun, State.cmdNext_found htable i hfind]
    · have hend := hplain fsEnd c.cidx (by decide)
      exact ⟨_, by rw [hrun, State.cmdNext_end htable hfind], hend.ended (.refl s), hend.mem⟩
  case insert =>
    intro img
    have hrun := State.fwdInsert_runs hcmds hlive hflushing hwaiting hop
    rw [s.cmdInsert_node c w0 w1 w2 w3 htable hcd hidx hshort h2] at hrun
    refine ⟨fun hdup => ?_, fun hdup hown => ?_⟩
    · have hend := hplain fsDupKey c.cidx (by decide)
      rw [if_pos hdup] at hrun
      exact ⟨_, hrun, hend.ended (.refl s), hend.mem⟩
    · obtain ⟨hforwards, hentry, hbeside⟩ := s.putNodeEntry_served c.cidx w0 w1 w2 w3 hown h0 h1 h2
      have hend := State.endFwdCmd_plain (by rw [hforwards.fwd]; exact hcmds) hqueue fsOk c.cidx (by decide)
      rw [if_neg (by rw [hdup]; exact Bool.false_ne_true)] at hrun
      exact ⟨_, hrun, hend.ended hforwards,
        (State.entry_of_mem hend.mem hend.geom 0 c.cidx).trans hentry, fun a ha => (State.cell_of_mem hend.mem a).trans (hbeside a ha)⟩
  case delete =>
    have hrun := State.fwdDelete_runs hcmds hlive hflushing hwaiting hop
    rw [s.cmdDelete_node c htable] at hrun
    refine ⟨fun hvalid => ?_, fun hvalid hown hecc => ?_⟩
    · have hend := hplain fsNotFound c.cidx (by decide)
      rw [if_neg (by rw [hvalid]; exact Bool.false_ne_true)] at hrun
      exact ⟨_, hrun, hend.ended (.refl s), hend.mem⟩
    · obtain ⟨hforwards, hinvalid, hbeside⟩ := s.putNodeWord_invalid c.cidx _ (Nat.mod_lt (s.entryWord 0 c.cidx 2) (by decide))
        hown (hclean hecc)
      have hend := State.endFwdCmd_plain (by rw [hforwards.fwd]; exact hcmds) hqueue fsOk c.cidx (by decide)
      rw [if_pos hvalid] at hrun
      exact ⟨_, hrun, hend.ended hforwards,
        (State.entryValid_of_mem hend.mem hend.geom 0 c.cidx).trans hinvalid,
        fun a ha => (State.cell_of_mem hend.mem a).trans (hbeside a ha)⟩
  case flush => rw [State.fwdFlushByPort_runs hcmds hlive hflushing hwaiting hop, s.cmdFlush_nbr c htable hport]
  case flushDone =>
    have hprunes := s.prunes_nbrRemoves (s.flushed c 1) (fun i hi => s.lt_of_mem_validEntries_nbr i (List.mem_filter.mp hi).1) howned
      (hclean hecc)
    have hend := State.endFwdCmd_plain (by rw [hprunes.forwards.fwd]; exact hcmds) hqueue fsOk c.cidx (by decide)
    refine ⟨_, congrArg Host.Outcome.next (s.flushDone_nbr c r hcmds hflushing htable), hend.ended hprunes.forwards, fun i hi => ?_,
      fun a ha => (State.cell_of_mem hend.mem a).trans (hprunes.beside a ha)⟩
    rw [State.entryValid_of_mem hend.mem hend.geom, ← Bool.not_eq_true]
    exact fun hvalid => (hprunes.valid i hvalid).2 hi

end Sys2Proof.Machine

/-! The locks of the forwarding tables (R287): what a request stores, and what a bit latched in its tick keeps (R5). -/

namespace Sys2Proof.Machine

open Sys2Proof.Fields

/-- A request keeps LOCKED, and leaves in REQ what was asked for, as no bit of the word is latched in the tick. -/
theorem State.storeWord_lock (s : State) (v : Word) (hn : s.setNow FWD_LOCK = 0#32) :
    (s.storeWord FWD_LOCK v).fld FWD_LOCK_REQ = getFld v FWD_LOCK_REQ
    ∧ (s.storeWord FWD_LOCK v).fld FWD_LOCK_LOCKED = s.fld FWD_LOCK_LOCKED := by
  have hset : s.storeWord FWD_LOCK v = s.setFld FWD_LOCK_REQ (getFld v FWD_LOCK_REQ) :=
    s.storeWord_unlatched _ v (.inr (by decide)) (.inl (by decide)) hn
  rw [hset, State.fld_setFld_same _ _ _ (by decide), State.fld_setFld_keeps _ _ _ _ (by decide) (by decide)]
  exact ⟨Nat.mod_eq_of_lt (getFld_lt v _), rfl⟩

/-- The effect that O37 states of FWD_LOCK_REQUEST, in every state in whose tick the device has latched no bit of the register. -/
theorem fwdLockRequest_stores (s : State) (src : BusSrc) (req : BitVec 4)
    (htake : s.takes FWD_LOCK (s.setWord FWD_LOCK [(FWD_LOCK_REQ, req.toNat)])) (hn : s.setNow FWD_LOCK = 0#32) :
    ∃ t, exec (.fwdLockRequest src req) s = .next t ∧ t.fld FWD_LOCK_REQ = req.toNat
      ∧ t.fld FWD_LOCK_LOCKED = s.fld FWD_LOCK_LOCKED &&& req.toNat := by
  have hkept (t : State) : t.markDirty FWD_LOCK = t := by
    have hmask : keptMask FWD_LOCK = 0 := by decide +kernel
    simp [State.markDirty, State.isKept, hmask]
  have hreq : getFld (s.setWord FWD_LOCK [(FWD_LOCK_REQ, req.toNat)]) FWD_LOCK_REQ = req.toNat :=
    (s.getFld_setWord FWD_LOCK_REQ _ (by decide)).trans (Nat.mod_eq_of_lt req.isLt)
  generalize hv : s.setWord FWD_LOCK [(FWD_LOCK_REQ, req.toNat)] = v at htake hreq
  obtain ⟨hstored, hlocked⟩ := s.storeWord_lock v hn
  generalize hu : s.storeWord FWD_LOCK v = u at hstored hlocked
  have happly : s.applyWrite src FWD_LOCK v = u.lockRequest (u.fld FWD_LOCK_REQ) := hu ▸ rfl
  refine ⟨u.lockRequest req.toNat, congrArg Host.Outcome.next ?_, ?_, ?_⟩
  · refine (congrArg (s.write src FWD_LOCK) hv).trans ((s.write_taken src _ v (by decide) htake).trans ?_)
    rw [State.mgtWrite_other _ _ _ _ (by decide), hkept, happly, hstored, hreq]
  · rw [State.lockRequest, State.fld_setFld_keeps _ _ _ _ (by decide) (by decide), State.fld_setFld_same _ _ _ (by decide)]
    exact Nat.mod_eq_of_lt req.isLt
  · rw [State.lockRequest, State.fld_setFld_same _ _ _ (by decide), hlocked]
    exact Nat.mod_eq_of_lt (Nat.lt_of_le_of_lt Nat.and_le_right req.isLt)

/-- The state after reset with FWD cast and the timebase running, in whose tick the device has latched bit 0 of FWD_LOCK. -/
def State.lockLatched : State :=
  State.latch { State.reset with
      sys := { State.reset.sys with phase := .running, cast := [0xF] }
      tim := { State.reset.tim with run := true } }
    ⟨FWD_LOCK, 0, 1⟩

theorem takes_lockLatched : State.lockLatched.takes FWD_LOCK (State.lockLatched.setWord FWD_LOCK [(FWD_LOCK_REQ, 0)]) := by
  decide +kernel

/-- The latched bit outlives the 0 that is written over it. -/
theorem lockReq_of_request_lockLatched : (State.lockLatched.writeFlds .pcie FWD_LOCK [(FWD_LOCK_REQ, 0)]).fld FWD_LOCK_REQ = 1 := by
  decide +kernel

/-- Refutes O37 in its clause on FWD_LOCK_REQUEST, which speaks of every state, and so of one in whose tick the device has latched a bit
of the register: that bit stays set (R5). No operation of the model latches a bit there; where none is latched the effect holds, by
`fwdLockRequest_stores`. -/
theorem not_forwardUpkeep : ¬ Obligations.ForwardUpkeep := by
  unfold Obligations.ForwardUpkeep
  intro h
  obtain ⟨-, -, hlock, -⟩ := h State.lockLatched .pcie
  obtain ⟨t, hexec, hreq, -⟩ := hlock 0 takes_lockLatched
  obtain rfl : State.lockLatched.writeFlds .pcie FWD_LOCK [(FWD_LOCK_REQ, 0)] = t := Host.Outcome.next.inj hexec
  rw [lockReq_of_request_lockLatched] at hreq
  exact absurd hreq (by decide)

end Sys2Proof.Machine

/-! The syllables of a Chaser core: each unit's decoder gives back what its encoder wrote (R343, R347 to R351). -/

namespace Sys2Proof.Machine

/-! ### Syllables: the parts of an encoded word (R343) -/

theorem opcode_opFields (op : Nat) (f : BitVec 20) (h : op < 256) : ((opFields op f).extractLsb' 20 8).toNat = op := by
  rw [opFields, BitVec.extractLsb'_append_eq_left, BitVec.toNat_ofNat, Nat.mod_eq_of_lt h]

theorem fields_opFields (op : Nat) (f : BitVec 20) : (opFields op f).extractLsb' 0 20 = f := BitVec.extractLsb'_append_eq_right

/-- The 28 bits below the stop bit and UNIT. -/
def Syl.body : Syl → BitVec 28
  | .m _ y => encodeM y
  | .a y => encodeA y
  | .l y => encodeL y
  | .c y => encodeC y
  | .lit i => 0#13 ++ i

theorem encodeSyl_eq (stop : Bool) (y : Syl) : encodeSyl stop y = (bit1 stop ++ BitVec.ofNat 3 y.unit) ++ y.body := by
  cases y <;> rfl

theorem msb_encodeSyl (stop : Bool) (y : Syl) : (encodeSyl stop y).msb = stop := by
  rw [encodeSyl_eq]
  refine BitVec.msb_append.trans (BitVec.msb_append.trans ?_)
  simp [bit1]

theorem Syl.unit_lt (y : Syl) : y.unit < 8 := by
  rcases y with ⟨_ | _, _⟩ | _ | _ | _ | _ <;> simp [Syl.unit]

theorem unit_encodeSyl (stop : Bool) (y : Syl) : ((encodeSyl stop y).extractLsb' 28 3).toNat = y.unit := by
  rw [encodeSyl_eq, BitVec.extractLsb'_append_eq_of_le (Nat.le_refl 28), BitVec.extractLsb'_append_eq_right, BitVec.toNat_ofNat,
    Nat.mod_eq_of_lt y.unit_lt]

theorem part_encodeSyl (stop : Bool) (y : Syl) (start len : Nat) (h : start + len ≤ 28) :
    (encodeSyl stop y).extractLsb' start len = y.body.extractLsb' start len := by
  rw [encodeSyl_eq, BitVec.extractLsb'_append_eq_of_add_le h]

/-- What decodes the opcode and the fields of 28 bits. -/
abbrev decodesBy {β : Type} (d : Nat → BitVec 20 → Option β) (b : BitVec 28) : Option β :=
  d (b.extractLsb' 20 8).toNat (b.extractLsb' 0 20)

theorem decodesBy_opFields {β : Type} (d : Nat → BitVec 20 → Option β) (op : Nat) (f : BitVec 20) (h : op < 256) :
    decodesBy d (opFields op f) = d op f := by
  rw [decodesBy, opcode_opFields op f h, fields_opFields]

/-! ### Fields that end in zeros -/

theorem lowZero_append {m n : Nat} (x : BitVec m) (f : BitVec 20) (h : f.toNat = (x ++ 0#n).toNat) : lowZero n f = true := by
  rw [lowZero, h, BitVec.toNat_append, BitVec.toNat_zero, Nat.or_zero, Nat.shiftLeft_eq, Nat.mul_mod_left]
  rfl

theorem append_zero_lt {m n : Nat} (x : BitVec n) : (0#m ++ x).toNat < 2 ^ n := by
  rw [BitVec.toNat_append, BitVec.toNat_zero, Nat.zero_shiftLeft, Nat.zero_or]
  exact x.isLt

/-! ### The units, each decoded -/

theorem decodeM_encodeM (y : MSyl) : decodesBy decodeM (encodeM y) = some y := by
  cases y with
  | bin op sat hx hy int kx ky =>
    rw [encodeM, decodesBy_opFields _ _ _ (by cases op <;> decide)]
    cases op <;> revert sat hx hy int kx ky <;> decide
  | sqac sat hx int kx =>
    rw [encodeM, decodesBy_opFields _ _ _ (by decide)]
    revert sat hx int kx
    decide

theorem decodeACust_plain (o : AOp) : decodeACust o.code 0 = some (.plain o) := by cases o <;> decide

theorem decodeACust_sat (o : SatOp) (s : Bool) : decodeACust o.code (0#1 ++ bit1 s ++ 0#18) = some (.sat o s) := by
  cases o <;> cases s <;> decide

theorem decodeACust_shift (o : ShOp) (n : BitVec 5) : decodeACust o.code (0#15 ++ n) = some (.shift o n) := by
  have hlt : (0#15 ++ n).toNat < 32 := append_zero_lt n
  have hn : (0#15 ++ n).extractLsb' 0 5 = n := BitVec.extractLsb'_append_eq_right
  cases o <;> simp [decodeACust, decodeA, ShOp.code, aOpOf, shOpOf, allAOps, AOp.code, allShOps, hlt, hn]

theorem decodeACust_cust (k : BitVec 5) (arg : BitVec 20) : decodeACust (0xE0 + k.toNat) arg = some (.cust k arg) := by
  have hk := k.isLt
  rw [decodeACust, if_pos (by omega), Nat.add_sub_cancel_left, BitVec.ofNat_toNat, BitVec.setWidth_eq]

theorem decodeA_encodeA (y : ASyl) : decodesBy decodeACust (encodeA y) = some y := by
  cases y with
  | pushi i => rw [encodeA, decodesBy_opFields _ _ _ (by decide)]; rfl
  | pushh i => rw [encodeA, decodesBy_opFields _ _ _ (by decide)]; rfl
  | plain o => rw [encodeA, decodesBy_opFields _ _ _ (by cases o <;> decide), decodeACust_plain]
  | shift o n => rw [encodeA, decodesBy_opFields _ _ _ (by cases o <;> decide)]; exact decodeACust_shift o n
  | sat o s => rw [encodeA, decodesBy_opFields _ _ _ (by cases o <;> decide)]; exact decodeACust_sat o s
  | cust k arg =>
    have hk := k.isLt
    rw [encodeA, decodesBy_opFields _ _ _ (by omega), decodeACust_cust]

theorem fields_three {a b c : Nat} (x : BitVec a) (y : BitVec b) (z : BitVec c) :
    (x ++ y ++ z).extractLsb' (c + b) a = x ∧ (x ++ y ++ z).extractLsb' c b = y ∧ (x ++ y ++ z).extractLsb' 0 c = z := by
  refine ⟨?_, ?_, BitVec.extractLsb'_append_eq_right⟩
  · rw [BitVec.extractLsb'_append_eq_of_le (Nat.le_add_right c b), Nat.add_sub_cancel_left, BitVec.extractLsb'_append_eq_left]
  · rw [BitVec.extractLsb'_append_eq_of_le (Nat.le_refl c), Nat.sub_self, BitVec.extractLsb'_append_eq_right]

theorem decodeL_acc (o : LdOp) (p : BitVec 3) (u : BitVec 2) (st : BitVec 15) : decodeL o.code (p ++ u ++ st) = some (.acc o p u st) := by
  obtain ⟨hp, hu, hst⟩ := fields_three p u st
  generalize p ++ u ++ st = f at hp hu hst ⊢
  subst hp hu hst
  cases o <;> rfl

theorem decodeL_ld2 (pa pb : BitVec 3) (ua ub : BitVec 2) : decodeL 0x10 (pa ++ pb ++ ua ++ ub ++ 0#10) = some (.ld2 pa pb ua ub) := by
  have hlow : lowZero 10 (pa ++ pb ++ ua ++ ub ++ 0#10) = true := lowZero_append (pa ++ pb ++ ua ++ ub) _ rfl
  have hpa : (pa ++ pb ++ ua ++ ub ++ 0#10).extractLsb' 17 3 = pa := by
    rw [BitVec.extractLsb'_append_eq_of_le (by decide), BitVec.extractLsb'_append_eq_of_le (by decide)]
    exact (fields_three pa pb ua).1
  have hpb : (pa ++ pb ++ ua ++ ub ++ 0#10).extractLsb' 14 3 = pb := by
    rw [BitVec.extractLsb'_append_eq_of_le (by decide), BitVec.extractLsb'_append_eq_of_le (by decide)]
    exact (fields_three pa pb ua).2.1
  have hua : (pa ++ pb ++ ua ++ ub ++ 0#10).extractLsb' 12 2 = ua := by
    rw [BitVec.extractLsb'_append_eq_of_le (by decide), BitVec.extractLsb'_append_eq_of_le (by decide)]
    exact (fields_three pa pb ua).2.2
  have hub : (pa ++ pb ++ ua ++ ub ++ 0#10).extractLsb' 10 2 = ub := (fields_three (pa ++ pb ++ ua) ub 0#10).2.1
  generalize pa ++ pb ++ ua ++ ub ++ 0#10 = f at hlow hpa hpb hua hub ⊢
  subst hpa hpb hua hub
  exact if_pos hlow

theorem decodeL_pointer (p : BitVec 3) :
    decodeL 0x20 (p ++ 0#17) = some (.pset p) ∧ decodeL 0x21 (p ++ 0#17) = some (.bset p)
    ∧ decodeL 0x22 (p ++ 0#17) = some (.lset p) ∧ decodeL 0x23 (p ++ 0#17) = some (.pget p) := by
  have hlow : lowZero 17 (p ++ 0#17) = true := lowZero_append p _ rfl
  have hp : (p ++ 0#17).extractLsb' 17 3 = p := BitVec.extractLsb'_append_eq_left
  generalize p ++ 0#17 = f at hlow hp ⊢
  subst hp
  exact ⟨if_pos hlow, if_pos hlow, if_pos hlow, if_pos hlow⟩

/-- CIRC stands in both bits of its field. -/
theorem append_circ (circ : Bool) : ∀ p : BitVec 3, p ++ bit1 circ ++ bit1 circ = p ++ (if circ then 3#2 else 0#2) := by
  cases circ <;> decide

theorem decodeL_padd (p : BitVec 3) (circ : Bool) (st : BitVec 15) :
    decodeL 0x24 (p ++ bit1 circ ++ bit1 circ ++ st) = some (.padd p circ st) := by
  obtain ⟨hp, hu, hst⟩ := fields_three p (if circ then 3#2 else 0#2) st
  rw [append_circ circ p]
  generalize p ++ (if circ then 3#2 else 0#2) ++ st = f at hp hu hst ⊢
  subst hp hst
  cases circ
  · exact if_pos hu
  · have h : f.extractLsb' 15 2 ≠ 0#2 := fun hz => absurd (hu.symm.trans hz) (by decide)
    exact (if_neg h).trans (if_pos hu)

theorem decodeL_encodeL (y : LSyl) : decodesBy decodeL (encodeL y) = some y := by
  cases y with
  | acc o p u st => rw [encodeL, decodesBy_opFields _ _ _ (by cases o <;> decide)]; exact decodeL_acc o p u st
  | ld2 pa pb ua ub => rw [encodeL, decodesBy_opFields _ _ _ (by decide)]; exact decodeL_ld2 pa pb ua ub
  | pset p => rw [encodeL, decodesBy_opFields _ _ _ (by decide)]; exact (decodeL_pointer p).1
  | bset p => rw [encodeL, decodesBy_opFields _ _ _ (by decide)]; exact (decodeL_pointer p).2.1
  | lset p => rw [encodeL, decodesBy_opFields _ _ _ (by decide)]; exact (decodeL_pointer p).2.2.1
  | pget p => rw [encodeL, decodesBy_opFields _ _ _ (by decide)]; exact (decodeL_pointer p).2.2.2
  | padd p circ st => rw [encodeL, decodesBy_opFields _ _ _ (by decide)]; exact decodeL_padd p circ st

theorem condOf_bits (q : Cond) : condOf q.bits.toNat = some q := by cases q <;> rfl

theorem decodeC_cond (q : Cond) :
    decodeC 0x03 (q.bits ++ 0#18) = some (.brx q) ∧ decodeC 0x0B (q.bits ++ 0#18) = some (.guard q) := by
  cases q <;> decide

theorem decodeC_br (q : Cond) (off : BitVec 16) : decodeC 0x02 (q.bits ++ 0#2 ++ off) = some (.br q off) := by
  obtain ⟨hq, hz, hoff⟩ := fields_three q.bits 0#2 off
  generalize q.bits ++ 0#2 ++ off = f at hq hz hoff ⊢
  subst hoff
  have hcond : condOf (f.extractLsb' 18 2).toNat = some q := by rw [← condOf_bits q]; exact congrArg (fun b => condOf b.toNat) hq
  exact (if_pos hz).trans (congrArg (Option.map _) hcond)

/-- A C syllable whose fields are one number at their low end. -/
theorem decodeC_low (m : BitVec 15) (e : BitVec 10) (k : BitVec 8) :
    decodeC 0x04 (0#5 ++ m) = some (.call m) ∧ decodeC 0x05 (0#5 ++ m) = some (.callx m)
    ∧ decodeC 0x07 (0#10 ++ e) = some (.loop false e) ∧ decodeC 0x08 (0#10 ++ e) = some (.loop true e)
    ∧ decodeC 0x0D (0#12 ++ k) = some (.trap k) := by
  have hm : (0#5 ++ m).extractLsb' 0 15 = m := BitVec.extractLsb'_append_eq_right
  have he : (0#10 ++ e).extractLsb' 0 10 = e := BitVec.extractLsb'_append_eq_right
  have hk : (0#12 ++ k).extractLsb' 0 8 = k := BitVec.extractLsb'_append_eq_right
  refine ⟨(if_pos (append_zero_lt m)).trans ?_, (if_pos (append_zero_lt m)).trans ?_, (if_pos (append_zero_lt e)).trans ?_,
    (if_pos (append_zero_lt e)).trans ?_, (if_pos (append_zero_lt k)).trans ?_⟩
  · exact congrArg (some ∘ CSyl.call) hm
  · exact congrArg (some ∘ CSyl.callx) hm
  · exact congrArg (some ∘ CSyl.loop false) he
  · exact congrArg (some ∘ CSyl.loop true) he
  · exact congrArg (some ∘ CSyl.trap) hk

theorem decodeC_loopi (n e : BitVec 10) :
    decodeC 0x09 (n ++ e) = some (.loopi false n e) ∧ decodeC 0x0A (n ++ e) = some (.loopi true n e) := by
  have hn : (n ++ e).extractLsb' 10 10 = n := BitVec.extractLsb'_append_eq_left
  have he : (n ++ e).extractLsb' 0 10 = e := BitVec.extractLsb'_append_eq_right
  exact ⟨congrArg₂ (fun a b => some (CSyl.loopi false a b)) hn he, congrArg₂ (fun a b => some (CSyl.loopi true a b)) hn he⟩

theorem decodeC_creg (r : CReg) :
    decodeC 0x0F (BitVec.ofNat 20 r.code) = some (.movtc r) ∧ decodeC 0x10 (BitVec.ofNat 20 r.code) = some (.movfc r) := by
  cases r <;> decide

theorem decodeC_encodeC (y : CSyl) : decodesBy decodeC (encodeC y) = some y := by
  cases y with
  | nop | ret | yield | reti => rw [encodeC, decodesBy_opFields _ _ _ (by decide)]; rfl
  | br q off => rw [encodeC, decodesBy_opFields _ _ _ (by decide)]; exact decodeC_br q off
  | brx q => rw [encodeC, decodesBy_opFields _ _ _ (by decide)]; exact (decodeC_cond q).1
  | guard q => rw [encodeC, decodesBy_opFields _ _ _ (by decide)]; exact (decodeC_cond q).2
  | call m => rw [encodeC, decodesBy_opFields _ _ _ (by decide)]; exact (decodeC_low m 0 0).1
  | callx m => rw [encodeC, decodesBy_opFields _ _ _ (by decide)]; exact (decodeC_low m 0 0).2.1
  | loop one e =>
    rw [encodeC, decodesBy_opFields _ _ _ (by cases one <;> decide)]
    cases one
    · exact (decodeC_low 0 e 0).2.2.1
    · exact (decodeC_low 0 e 0).2.2.2.1
  | loopi one n e =>
    rw [encodeC, decodesBy_opFields _ _ _ (by cases one <;> decide)]
    cases one
    · exact (decodeC_loopi n e).1
    · exact (decodeC_loopi n e).2
  | trap k => rw [encodeC, decodesBy_opFields _ _ _ (by decide)]; exact (decodeC_low 0 0 k).2.2.2.2
  | movtc r => rw [encodeC, decodesBy_opFields _ _ _ (by cases r <;> decide)]; exact (decodeC_creg r).1
  | movfc r => rw [encodeC, decodesBy_opFields _ _ _ (by cases r <;> decide)]; exact (decodeC_creg r).2

/-- Settles O54: the stop bit and UNIT stand above 28 bits that each unit decodes by its opcode and its fields. -/
theorem syllableRoundTrip : Obligations.SyllableRoundTrip := by
  unfold Obligations.SyllableRoundTrip
  intro stop y
  refine ⟨?_, msb_encodeSyl stop y⟩
  have hunit := unit_encodeSyl stop y
  have hop := part_encodeSyl stop y 20 8 (by decide)
  have hf := part_encodeSyl stop y 0 20 (by decide)
  rw [decodeSyl, hunit, hop, hf]
  cases y with
  | m m1 y => cases m1 <;> exact congrArg (Option.map _) (decodeM_encodeM y)
  | a y => exact congrArg (Option.map _) (decodeA_encodeA y)
  | l y => exact congrArg (Option.map _) (decodeL_encodeL y)
  | c y => exact congrArg (Option.map _) (decodeC_encodeC y)
  | lit i =>
    have hz : (encodeSyl stop (.lit i)).extractLsb' 15 13 = 0 :=
      (part_encodeSyl stop (.lit i) 15 13 (by decide)).trans BitVec.extractLsb'_append_eq_left
    have hi : (encodeSyl stop (.lit i)).extractLsb' 0 15 = i :=
      (part_encodeSyl stop (.lit i) 0 15 (by decide)).trans BitVec.extractLsb'_append_eq_right
    exact (if_pos hz).trans (congrArg (some ∘ Syl.lit) hi)

end Sys2Proof.Machine

/-! The step itself, the state at reset, and the TAP (R162, R403, R437). -/

namespace Sys2Proof.Machine

open Sys2Proof.Fields

/-! ### A step -/

theorem step_cons (c : Instr) (r : List Instr) (s : State) : step { s with pending := c :: r } = exec c { s with pending := r } := rfl

/-- Settles O1: the queue's front is taken off before the command runs. -/
theorem stepRunsFrontCommand : Obligations.StepRunsFrontCommand := by
  unfold Obligations.StepRunsFrontCommand
  exact step_cons

/-- Either branch of a test answers. -/
theorem answers_ite {p : Prop} [Decidable p] {a b : Host.Outcome State Fault Refusal} (ha : ∃ t, a = .next t) (hb : ∃ t, b = .next t) :
    ∃ t, (if p then a else b) = .next t := by
  split
  · exact ha
  · exact hb

/-- Settles O60, command by command: a meaning is one next state, but that four commands of the receive chains choose between two. -/
theorem everyCommandAnswers : Obligations.EveryCommandAnswers := by
  unfold Obligations.EveryCommandAnswers
  intro c s
  cases c with
  | agcLimit | blankFractionHigh | notchChange | loUnlock => exact answers_ite ⟨_, rfl⟩ ⟨_, rfl⟩
  | _ => exact ⟨_, rfl⟩

/-! ### The tick that passes with no command waiting (R162) -/

/-- Whether a set fills does not depend on the time. -/
theorem State.acqDue_idle (s : State) (t : Nat) (h : s.acqFilling = none) : (s.timeTo t).acqDue = s.timeTo t := by
  have hgnss : (s.timeTo t).gnss = s.gnss := by rw [State.timeTo_eq]
  have hnone : (s.timeTo t).acqFilling = none := by
    simp only [State.acqFilling, hgnss] at h ⊢
    split at h
    · exact absurd h (by simp)
    · rfl
  rw [State.acqDue, hnone]

theorem State.updateLna_pins (s : State) :
    ∃ l a, s.updateLna = { s with pins := { s.pins with lnaen := l, antsel := a } }
      ∧ (s.beating = false → l = List.replicate 4 false ∧ a = s.pins.antsel) := by
  cases hb : s.beating with
  | false => exact ⟨_, _, if_pos (by rw [hb]; rfl), fun _ => ⟨rfl, rfl⟩⟩
  | true => exact ⟨_, _, if_neg (by rw [hb]; decide), fun h => absurd h (by decide)⟩

theorem State.idle_running (s : State) (hrun : s.tim.run = true) (hacq : s.acqFilling = none) (howed : s.sch.owed = false)
    (htrans : s.sys.trans ≠ .dormant 1) : s.idle = (s.timeTo (s.tim.ts + 1)).updateLna := by
  have ht : (s.timeTo (s.tim.ts + 1)).planOwed = s.timeTo (s.tim.ts + 1) :=
    if_neg (by rw [State.timeTo_eq]; simp [howed])
  rw [State.idle, if_pos hrun, State.acqDue_idle s _ hacq, ht]
  obtain ⟨l, a, hlna, -⟩ := (s.timeTo (s.tim.ts + 1)).updateLna_pins
  refine State.dormantStep_other _ ?_
  rw [hlna, State.timeTo_eq]
  exact htrans

/-- Settles O2: of what a tick may do, only the count of TS64 and the front-end balls remain. -/
theorem emptyQueueTicks : Obligations.EmptyQueueTicks := by
  unfold Obligations.EmptyQueueTicks
  intro s hempty
  have hstep : step s = .next s.idle := by rw [step, hempty]
  refine ⟨fun hstop => ?_, fun hrun hacq howed htrans => ?_⟩
  · rw [hstep, State.idle, hstop]
    rfl
  · have htick : s.timeTo (s.tim.ts + 1) = { s with tim := { s.tim with ts := s.tim.ts + 1 } } := if_pos (Nat.lt_succ_self _)
    obtain ⟨l, a, hlna, hlow⟩ := (s.timeTo (s.tim.ts + 1)).updateLna_pins
    refine ⟨l, a, ?_, fun hbeat => ?_⟩
    · rw [hstep, s.idle_running hrun hacq howed htrans, hlna, htick]
    · rw [htick] at hlow
      exact hlow hbeat

/-! ### The state at reset (R403) -/

/-- Settles O51: nothing is listed at reset, so every word has its Cold value and every bank the owner that Cold gives. -/
theorem resetState : Obligations.ResetState := by
  unfold Obligations.ResetState
  exact ⟨rfl, fun _ => rfl, by decide, rfl, by decide +kernel⟩

/-! ### The TAP (R437) -/

/-- What PORST_N low gives the three instructions that drive the balls. -/
theorem State.tapSelect_drives (s : State) (i : Nat) (h : 3 ≤ i) :
    s.tapSelect i = { s with hst := { s.hst with tapIr := if s.sys.power = .inReset then i else tapBypass } } := by
  have hi : decide (3 ≤ i) = true := decide_eq_true h
  by_cases hp : s.sys.power = .inReset <;> simp [State.tapSelect, hi, hp]

/-- Settles O53: an instruction below EXTEST comes into force as it is, and the three that drive the balls by PORST_N. -/
theorem tapInstructions : Obligations.TapInstructions := by
  unfold Obligations.TapInstructions
  intro s
  refine ⟨rfl, rfl, rfl, ?_, ?_, ?_⟩
  · exact congrArg Host.Outcome.next (s.tapSelect_drives tapExtest (by decide))
  · exact congrArg Host.Outcome.next (s.tapSelect_drives tapClamp (by decide))
  · exact congrArg Host.Outcome.next (s.tapSelect_drives tapHighz (by decide))

end Sys2Proof.Machine

/-! The end of a bank's handover: what it leaves of the device's banks, and the number of no bank at which the statement fails (R404). -/

namespace Sys2Proof.Machine

open Sys2Proof.Fields Sys2Proof.Laws

/-! ### HANDOVER_COMPLETE (R404) -/

/-- A handover is taken out of the list of those that are pending. -/
def State.dropHandover (s : State) (b : Nat) : State := { s with mem := { s.mem with handover := tabErase b s.mem.handover } }

theorem State.endHandover_pending (s : State) (b o : Nat) (h : s.newOwner b = some o) :
    s.endHandover b = (((s.dropHandover b).setFld (MEM_BANK_OWN_PENDING b) 0).setFld (MEM_BANK_OWN_OWNER b) o).raise 235 b := by
  rw [State.endHandover, h]
  rfl

theorem State.newOwner_dropHandover (s : State) {b k : Nat} (h : k ≠ b) : (s.dropHandover b).newOwner k = s.newOwner k := by
  simp only [State.newOwner, State.dropHandover, find_tabErase_other h]

theorem quietAddr_bankOwn {k : Nat} (h : k < bankCount) : quietAddr (MEM_BANK_OWN k) := by
  simp only [quietAddr, MEM_BANK_OWN, bankCount] at *
  omega

/-- The effect that O49 states of HANDOVER_COMPLETE, with the other banks taken among those that the device has. -/
theorem handoverComplete_ends (s : State) (b : Fin 192) (o : Nat) (h : s.newOwner b = some o) (ho : o < 32) :
    ∃ t, exec (.handoverComplete b) s = .next t ∧ t.owner b = o ∧ t.isSet (MEM_BANK_OWN_PENDING b) = false
      ∧ t.mem.cells = s.mem.cells ∧ t.mem.ecc = s.mem.ecc
      ∧ t.fld (routeCount 235) = min (s.fld (routeCount 235) + 1) 0xFFFFFFFF
      ∧ ∀ k, k ≠ b.val → k < bankCount → t.newOwner k = s.newOwner k ∧ t.get (MEM_BANK_OWN k) = s.get (MEM_BANK_OWN k) := by
  have hquiet := quietAddr_bankOwn b.isLt
  refine ⟨_, congrArg Host.Outcome.next (s.endHandover_pending b o h), ?_, ?_, by simp [State.dropHandover], by simp [State.dropHandover], ?_,
    fun k hk hlt => ⟨?_, ?_⟩⟩
  · rw [State.owner, State.fld_raise _ _ _ _ (by decide) hquiet, State.fld_setFld_same _ _ _ (by simp [MEM_BANK_OWN_OWNER])]
    exact Nat.mod_eq_of_lt ho
  · rw [State.isSet, State.fld_raise _ _ _ _ (by decide) hquiet, State.fld_setFld_keeps _ _ _ _ (by simp [MEM_BANK_OWN_OWNER])
        (by simp [MEM_BANK_OWN_OWNER, MEM_BANK_OWN_PENDING]), State.fld_setFld_same _ _ _ (by simp [MEM_BANK_OWN_PENDING])]
    rfl
  · have hne (f : Fld) (hf : f.addr = MEM_BANK_OWN b) : (routeCount 235).addr ≠ f.addr := by
      rw [hf]
      simp only [routeCount, MEM_BANK_OWN]
      omega
    rw [State.fld_routeCount_raise _ _ _ (by decide), State.fld_setFld_other_word _ _ _ _ (hne _ rfl),
      State.fld_setFld_other_word _ _ _ _ (hne _ rfl)]
    rfl
  · simp only [State.newOwner, State.raise_mem, State.setFld_mem]
    exact s.newOwner_dropHandover hk
  · have hne : MEM_BANK_OWN k ≠ MEM_BANK_OWN b := by simp only [MEM_BANK_OWN]; omega
    rw [State.get_raise _ _ _ _ (by decide) (quietAddr_bankOwn hlt), State.get_setFld_other _ _ _ _ hne, State.get_setFld_other _ _ _ _ hne]
    rfl

/-! ### A number of no bank -/

/-- The state after reset with bank 0 on its way to owner 1. -/
def State.bankOnItsWay : State := { State.reset with mem := { State.reset.mem with handover := [(0, 1)] } }

/-- The number whose word, reckoned like a bank's, is the count of OWN-CHANGE. -/
def ownChangeAsBank : Nat := 0xD8197

theorem bankOwn_ownChangeAsBank : MEM_BANK_OWN ownChangeAsBank = (routeCount 235).addr := by decide

/-- Refutes O49 in its clause on HANDOVER_COMPLETE: it speaks of every number beside the bank's, and at `ownChangeAsBank` the word is the
event count that the command raises. For the 192 banks the effect holds, by `handoverComplete_ends`. -/
theorem not_scrubAndHandover : ¬ Obligations.ScrubAndHandover := by
  unfold Obligations.ScrubAndHandover
  intro h
  obtain ⟨-, -, -, -, hend, -⟩ := h State.bankOnItsWay .pcie 0
  obtain ⟨t, -, -, -, -, -, hcount, hkeep⟩ := hend 1 (by decide) (by decide)
  have hstays : t.fld (routeCount 235) = State.bankOnItsWay.fld (routeCount 235) :=
    State.fld_of_get _ (bankOwn_ownChangeAsBank ▸ (hkeep ownChangeAsBank (by decide)).2)
  rw [hstays] at hcount
  exact absurd hcount (by decide +kernel)

end Sys2Proof.Machine

/-! A vector that is unmasked, and the one state of affairs in which it stays masked: the device has latched its mask bit in the same tick
(R5, R433). -/

namespace Sys2Proof.Machine

open Sys2Proof.Fields

/-! ### The write of Vector Control (R419, R433) -/

theorem regAt_msixControl : ∀ v : Fin 32, regAt (msixEntry v 3) = none := by decide +kernel

theorem tableMask_msixControl : ∀ v : Fin 32, tableMask (msixEntry v 3) = 1#32 := by decide +kernel

theorem keptMask_msixControl : ∀ v : Fin 32, keptMask (msixEntry v 3) = 0#32 := by decide +kernel

theorem msixEntry_place (v : Fin 32) (w : Nat) (h : w < 4) : 0x101000 ≤ msixEntry v w ∧ msixEntry v w < 0x101200 := by
  simp only [msixEntry]
  omega

/-- Vector Control as a write of 0 leaves it. -/
def State.unmasked (s : State) (v : Fin 32) : State := s.put (msixEntry v 3) (s.get (msixEntry v 3) &&& ~~~1#32)

theorem State.storeWord_unmask (s : State) (v : Fin 32) (hn : s.setNow (msixEntry v 3) = 0#32) :
    s.storeWord (msixEntry v 3) 0 = s.unmasked v := by
  obtain ⟨hlo, hhi⟩ := msixEntry_place v 3 (by decide)
  have hmerge (old : Word) : mergeWord (msixEntry v 3) old 0 = old &&& ~~~1#32 := by
    simp [mergeWord, regAt_msixControl, tableMask_msixControl]
  simp only [State.storeWord, hmerge, hn, BitVec.and_zero, BitVec.or_zero]
  rw [if_neg (by omega), if_neg (by omega)]
  rfl

theorem State.applyWrite_unmask (s : State) (src : BusSrc) (v : Fin 32) (hn : s.setNow (msixEntry v 3) = 0#32) :
    s.applyWrite src (msixEntry v 3) 0 = (s.unmasked v).flushVector v := by
  obtain ⟨hlo, hhi⟩ := msixEntry_place v 3 (by decide)
  have hindex : (msixEntry v 3 - 0x101000) / 16 = v := by simp only [msixEntry]; omega
  have hgain : s.holdGain (msixEntry v 3) 0 = s := by
    rw [State.holdGain, if_neg (by simp only [GNF_CTL]; omega), if_neg (by omega)]
  have hplain : s.applyWrite src (msixEntry v 3) 0 = s.plainWrite src (msixEntry v 3) 0 := by
    rw [State.applyWrite, if_neg (by omega), if_neg (by omega), if_neg (by omega), if_neg (by omega), if_neg (by omega)]
  rw [hplain, State.plainWrite, hgain, s.storeWord_unmask v hn, if_neg (by omega), if_neg (by omega), if_neg (by omega),
    if_pos (by omega), State.wroteCore, if_neg (by simp only [MEM_NOWN]; omega), if_neg (by omega), if_pos ⟨hlo, hhi⟩, hindex]

theorem State.write_unmask (s : State) (src : BusSrc) (v : Fin 32) (h : s.takes (msixEntry v 3) 0) (hn : s.setNow (msixEntry v 3) = 0#32) :
    s.write src (msixEntry v 3) 0 = (s.unmasked v).flushVector v := by
  obtain ⟨hlo, hhi⟩ := msixEntry_place v 3 (by decide)
  have hkept (t : State) : t.markDirty (msixEntry v 3) = t := by simp [State.markDirty, State.isKept, keptMask_msixControl]
  rw [State.write_taken _ _ _ _ (by simp only [msixEntry]; omega) h, State.mgtWrite_other _ _ _ _ ?_, hkept, s.applyWrite_unmask src v hn]
  simp only [MGT_MODEREQ, MGT_CASTCTL, MGT_FRESET, MGT_ASSAYCTL]
  omega

/-! ### Vectors that send (R433) -/

theorem State.vecPending_setPending (s : State) (v : Fin 32) (b : Bool) : (s.setPending v b).vecPending v = b := by
  rw [State.setPending, State.setBit, State.vecPending, State.get_setFld_same, getLsbD_putFld _ _ _ _ (by simp only; omega),
    if_pos (by simp only; omega)]
  cases b <;> simp

theorem State.sendVector_sends (s : State) (v : Fin 32) :
    (s.sendVector v).out = s.out ++ [.msix v.val] ∧ (s.sendVector v).vecPending v = false
    ∧ ∀ a, a ≠ msixPending → (s.sendVector v).get a = s.get a := by
  have hpend := s.vecPending_setPending v false
  have hget (a : Nat) (ha : a ≠ msixPending) : (s.setPending v false).get a = s.get a := State.get_setBit_other _ _ _ _ ha
  simp only [State.sendVector]
  split
  · exact ⟨rfl, hpend, hget⟩
  · exact ⟨rfl, hpend, hget⟩

theorem State.flushVector_sends (s : State) (v : Fin 32)
    (h : (s.vecPending v && !s.hst.holdoff.contains v.val && !s.vecMasked v && s.linkUp) = true) : s.flushVector v = s.sendVector v := if_pos h

theorem State.flushVector_rests (s : State) (v : Fin 32)
    (h : (s.vecPending v && !s.hst.holdoff.contains v.val && !s.vecMasked v && s.linkUp) = false) : s.flushVector v = s :=
  if_neg (by rw [h]; decide)

theorem State.unmasked_opens (s : State) (v : Fin 32) :
    (s.unmasked v).vecMasked v = false ∧ ∀ a, a ≠ msixEntry v 3 → (s.unmasked v).get a = s.get a := by
  refine ⟨?_, fun a ha => State.get_put_other _ _ _ _ ha⟩
  rw [State.vecMasked, State.unmasked, State.get_put_same]
  simp

/-- The effect that O46 states of MSIX_UNMASK, in every state in whose tick the device has latched no bit of Vector Control. -/
theorem msixUnmask_sends (s : State) (src : BusSrc) (v : Fin 32) (htake : s.takes (msixEntry v 3) 0)
    (hn : s.setNow (msixEntry v 3) = 0#32) :
    ∃ t, exec (.msixUnmask src v) s = .next t ∧ t.vecMasked v = false
      ∧ ((s.vecPending v && !s.hst.holdoff.contains v.val && s.linkUp) = true → t.out = s.out ++ [.msix v.val] ∧ t.vecPending v = false)
      ∧ ((s.vecPending v && !s.hst.holdoff.contains v.val && s.linkUp) = false → t.out = s.out ∧ t.hst = s.hst) := by
  obtain ⟨hopen, hget⟩ := s.unmasked_opens v
  obtain ⟨hlo, hhi⟩ := msixEntry_place v 3 (by decide)
  have hgate : ((s.unmasked v).vecPending v && !(s.unmasked v).hst.holdoff.contains v.val && !(s.unmasked v).vecMasked v
      && (s.unmasked v).linkUp) = (s.vecPending v && !s.hst.holdoff.contains v.val && s.linkUp) := by
    have hpend : (s.unmasked v).vecPending v = s.vecPending v := by
      rw [State.vecPending, hget _ (by simp only [msixPending]; omega), State.vecPending]
    have hlink : (s.unmasked v).linkUp = s.linkUp := by
      rw [State.linkUp, State.isSet, State.fld_of_get _ (hget _ (by simp only [HST_STAT_LINKUP, HST_STAT]; omega)), State.linkUp, State.isSet]
    rw [hopen, hpend, hlink, Bool.not_false, Bool.and_true]
    rfl
  refine ⟨(s.unmasked v).flushVector v, congrArg Host.Outcome.next (s.write_unmask src v htake hn), ?_⟩
  cases hsend : (s.vecPending v && !s.hst.holdoff.contains v.val && s.linkUp) with
  | true =>
    obtain ⟨hout, hpend, hkeep⟩ := (s.unmasked v).sendVector_sends v
    rw [State.flushVector_sends _ v (hgate.trans hsend)]
    refine ⟨?_, fun _ => ⟨hout, hpend⟩, fun h => absurd h (by decide)⟩
    rw [State.vecMasked, hkeep _ (by simp only [msixPending]; omega)]
    exact hopen
  | false =>
    rw [State.flushVector_rests _ v (hgate.trans hsend)]
    exact ⟨hopen, fun h => absurd h (by decide), fun _ => ⟨rfl, rfl⟩⟩

/-! ### A mask bit that is latched -/

/-- The state after reset with the timebase running, in whose tick the device has latched the mask bit of vector 0. -/
def State.maskLatched : State := State.latch { State.reset with tim := { State.reset.tim with run := true } } ⟨msixEntry 0 3, 0, 1⟩

theorem takes_maskLatched : State.maskLatched.takes (msixEntry (0 : Fin 32) 3) 0 := by decide +kernel

theorem vecMasked_of_write_maskLatched : (State.maskLatched.write .pcie (msixEntry (0 : Fin 32) 3) 0).vecMasked (0 : Fin 32) = true := by
  decide +kernel

/-- Refutes O46 in its clause on MSIX_UNMASK, which speaks of every state, and so of one in whose tick the device has latched the mask
bit: that bit stays set (R5). No operation of the model latches a bit there; where none is latched the effect holds, by
`msixUnmask_sends`. -/
theorem not_ringsAndVectors : ¬ Obligations.RingsAndVectors := by
  unfold Obligations.RingsAndVectors
  intro h
  obtain ⟨-, -, -, -, hunmask, -⟩ := h State.maskLatched .pcie
  obtain ⟨t, hexec, hopen, -⟩ := hunmask 0 takes_maskLatched
  obtain rfl : State.maskLatched.write .pcie (msixEntry (0 : Fin 32) 3) 0 = t := Host.Outcome.next.inj hexec
  rw [vecMasked_of_write_maskLatched] at hopen
  exact absurd hopen (by decide)

end Sys2Proof.Machine

/-! The submission doorbell, and the one state of affairs in which its pointer differs from what was written: the device has latched one of
its bits in the same tick (R5, R421). -/

namespace Sys2Proof.Machine

open Sys2Proof.Fields

/-! ### SQ_DOORBELL (R421) -/

theorem regAt_sqTail (q : Fin 8) : regAt (HST_QSQTAIL q) = some ⟨"HST_QSQTAIL", 0x100114, 0x20, 8, 0x0, 1, [⟨0, 8, .RW, 0, false, .any⟩]⟩ := by
  revert q
  decide +kernel

theorem keptMask_sqTail : ∀ q : Fin 8, keptMask (HST_QSQTAIL q) = 0#32 := by decide +kernel

theorem sqTail_place (q : Fin 8) : HST_QSQTAIL q % 4 = 0 ∧ 0x100100 ≤ HST_QSQTAIL q ∧ HST_QSQTAIL q < 0x100200
    ∧ (HST_QSQTAIL q - 0x100100) / 0x20 = q := by
  simp only [HST_QSQTAIL]
  omega

/-- The word of SQTAIL as a write leaves it. -/
def State.sqTailed (s : State) (q : Fin 8) (v : Word) : State :=
  s.put (HST_QSQTAIL q) (mergeWord (HST_QSQTAIL q) (s.get (HST_QSQTAIL q)) v)

theorem State.storeWord_sqTail (s : State) (q : Fin 8) (v : Word) (hn : s.setNow (HST_QSQTAIL q) = 0#32) :
    s.storeWord (HST_QSQTAIL q) v = s.sqTailed q v := by
  obtain ⟨-, hlo, hhi, -⟩ := sqTail_place q
  simp only [State.storeWord, hn, BitVec.and_zero, BitVec.or_zero]
  rw [if_neg (by omega), if_neg (by omega)]
  rfl

theorem State.applyWrite_sqTail (s : State) (src : BusSrc) (q : Fin 8) (v : Word) (hn : s.setNow (HST_QSQTAIL q) = 0#32) :
    s.applyWrite src (HST_QSQTAIL q) v = s.sqTailed q v := by
  obtain ⟨-, hlo, hhi, hindex⟩ := sqTail_place q
  have hgain : s.holdGain (HST_QSQTAIL q) v = s := by
    rw [State.holdGain, if_neg (by simp only [GNF_CTL]; omega), if_neg (by omega)]
  have hplain : s.applyWrite src (HST_QSQTAIL q) v = s.plainWrite src (HST_QSQTAIL q) v := by
    rw [State.applyWrite, if_neg (by omega), if_neg (by omega), if_neg (by omega), if_neg (by omega), if_neg (by omega)]
  rw [hplain, State.plainWrite, hgain, s.storeWord_sqTail q v hn, if_neg (by omega), if_neg (by omega), if_neg (by omega),
    if_pos (by omega), State.wroteCore, if_neg (by simp only [MEM_NOWN]; omega), if_pos ⟨hlo, hhi⟩, hindex,
    if_neg (by simp only [HST_QSQTAIL, HST_QCFG]; omega), if_neg (by simp only [HST_QSQTAIL, HST_QCQHEAD]; omega)]

theorem State.write_sqTail (s : State) (src : BusSrc) (q : Fin 8) (v : Word) (h : s.takes (HST_QSQTAIL q) v)
    (hn : s.setNow (HST_QSQTAIL q) = 0#32) : s.write src (HST_QSQTAIL q) v = s.sqTailed q v := by
  obtain ⟨h4, hlo, -⟩ := sqTail_place q
  have hkept (t : State) : t.markDirty (HST_QSQTAIL q) = t := by simp [State.markDirty, State.isKept, keptMask_sqTail]
  rw [State.write_taken _ _ _ _ h4 h, State.mgtWrite_other _ _ _ _ ?_, hkept, s.applyWrite_sqTail src q v hn]
  simp only [MGT_MODEREQ, MGT_CASTCTL, MGT_FRESET, MGT_ASSAYCTL]
  omega

/-- The effect that O44 states of SQ_DOORBELL, in every state in whose tick the device has latched no bit of the register. -/
theorem sqDoorbell_sets_pointer (s : State) (src : BusSrc) (q : Fin 8) (ptr : Byte)
    (htake : s.takes (HST_QSQTAIL q) (BitVec.ofNat 32 ptr.toNat)) (hn : s.setNow (HST_QSQTAIL q) = 0#32) :
    ∃ t, exec (.sqDoorbell src q ptr) s = .next t ∧ t.fld (HST_QSQTAIL_PTR q) = ptr.toNat ∧ t.hst = s.hst := by
  refine ⟨_, congrArg Host.Outcome.next (s.write_sqTail src q _ htake hn), ?_, rfl⟩
  have hfld : (s.sqTailed q (BitVec.ofNat 32 ptr.toNat)).fld (HST_QSQTAIL_PTR q)
      = getFld (BitVec.ofNat 32 ptr.toNat) (HST_QSQTAIL_PTR q) := by
    refine (congrArg (getFld · (HST_QSQTAIL_PTR q)) (State.get_put_same s _ _)).trans ?_
    exact getFld_mergeWord_RW _ _ _ _ (regAt_sqTail q) (by decide) ⟨0, 8, .RW, 0, false, .any⟩ (List.mem_singleton_self _) rfl
  rw [hfld, getFld_low _ _ rfl (by simp [HST_QSQTAIL_PTR])]
  exact Nat.mod_eq_of_lt ptr.isLt

/-! ### A pointer with a latched bit -/

/-- The state after reset with HST cast and the timebase running, in whose tick the device has latched bit 0 of Q0's SQTAIL. -/
def State.sqTailLatched : State :=
  State.latch { State.reset with
      sys := { State.reset.sys with phase := .running, cast := [0x13] }
      tim := { State.reset.tim with run := true } }
    ⟨HST_QSQTAIL 0, 0, 1⟩

theorem takes_sqTailLatched : State.sqTailLatched.takes (HST_QSQTAIL (0 : Fin 8)) 0 := by decide +kernel

theorem sqTail_of_write_sqTailLatched : (State.sqTailLatched.write .pcie (HST_QSQTAIL (0 : Fin 8)) 0).fld (HST_QSQTAIL_PTR (0 : Fin 8)) = 1 := by
  decide +kernel

/-- Refutes O44 in its clause on SQ_DOORBELL, which speaks of every state, and so of one in whose tick the device has latched a bit of the
pointer: that bit stays set (R5). No operation of the model latches a bit there; where none is latched the effect holds, by
`sqDoorbell_sets_pointer`. -/
theorem not_queueTraffic : ¬ Obligations.QueueTraffic := by
  unfold Obligations.QueueTraffic
  intro h
  obtain ⟨hdoorbell, -⟩ := h State.sqTailLatched .pcie 0
  obtain ⟨t, hexec, hptr, -⟩ := hdoorbell 0 takes_sqTailLatched
  obtain rfl : State.sqTailLatched.write .pcie (HST_QSQTAIL (0 : Fin 8)) 0 = t := Host.Outcome.next.inj hexec
  rw [sqTail_of_write_sqTailLatched] at hptr
  exact absurd hptr (by decide)

end Sys2Proof.Machine

/-! Accepted writes of the registers of SEC and PLK: the word is stored, and the station acts (R5, R93). -/

namespace Sys2Proof.Machine

open Sys2Proof.Fields

/-! ### The stored word (R5) -/

/-- Between the notches of GNF and the cores' windows the merged word is stored, with the bits that the device has latched in this tick. -/
theorem State.storeWord_between (s : State) (a : Nat) (v : Word) (hlo : 0x200A0 ≤ a) (hhi : a < 0x200000) :
    s.storeWord a v = s.put a (mergeWord a (s.get a) v ||| (s.get a &&& s.setNow a)) := by
  simp only [State.storeWord]
  rw [if_neg (by omega), if_neg (by omega)]

/-- A register none of whose fields a write stores keeps its word. -/
theorem State.storeWord_keeps (s : State) (a : Nat) (v : Word) (hlo : 0x200A0 ≤ a) (hhi : a < 0x200000)
    (hmerge : mergeWord a (s.get a) v = s.get a) : s.storeWord a v = s.put a (s.get a) := by
  have hword : s.get a ||| (s.get a &&& s.setNow a) = s.get a := by
    ext i
    cases hbit : (s.get a).getLsbD i <;> simp [← BitVec.getLsbD_eq_getElem, hbit]
  rw [s.storeWord_between a v hlo hhi, hmerge, hword]

/-! ### SEC and PLK act -/

theorem State.applyWrite_sec (s : State) (src : BusSrc) (a : Nat) (v : Word) (hlo : 0xC0000 ≤ a) (hhi : a < 0xE0000) :
    s.applyWrite src a v = (s.storeWord a v).wroteSec src a v := by
  have hgain : s.holdGain a v = s := by
    rw [State.holdGain, if_neg (by simp only [GNF_CTL]; omega), if_neg (by omega)]
  have hplain : s.applyWrite src a v = s.plainWrite src a v := by
    rw [State.applyWrite, if_neg (by omega), if_neg (by omega), if_neg (by omega), if_neg (by omega), if_neg (by omega)]
  rw [hplain, State.plainWrite, hgain, if_neg (by omega), if_neg (by omega), if_pos hhi]

/-- What an accepted write of a register that is not kept leaves. -/
theorem State.write_sec (s : State) (src : BusSrc) (a : Nat) (v : Word) (h4 : a % 4 = 0) (hlo : 0xC0000 ≤ a) (hhi : a < 0xE0000)
    (hkept : keptMask a = 0#32) (h : s.takes a v) : s.write src a v = (s.storeWord a v).wroteSec src a v := by
  have hdirty (t : State) : t.markDirty a = t := by simp [State.markDirty, State.isKept, hkept]
  have hmgt : a ≠ MGT_MODEREQ ∧ a ≠ MGT_CASTCTL ∧ a ≠ MGT_FRESET ∧ a ≠ MGT_ASSAYCTL := by
    simp only [MGT_MODEREQ, MGT_CASTCTL, MGT_FRESET, MGT_ASSAYCTL]
    omega
  rw [s.write_taken src a v h4 h, State.mgtWrite_other _ _ _ _ hmgt, hdirty, s.applyWrite_sec src a v hlo hhi]

end Sys2Proof.Machine

/-! The key commands, and the one state of affairs in which another operation runs than the one written: the device has latched a bit of
SEC_KEYCMD.OP in the same tick (R5, R302). -/

namespace Sys2Proof.Machine

open Sys2Proof.Fields

/-! ### KEY_PROVISION (R302, R303) -/

/-- The word that asks for KEY_PROVISION. -/
def State.provisionWord (s : State) : Word := s.setWord SEC_KEYCMD [(SEC_KEYCMD_GO, 1), (SEC_KEYCMD_OP, 1)]

theorem regAt_keyCmd : regAt SEC_KEYCMD = some ⟨"SEC_KEYCMD", 0xC00A0, 0x0, 1, 0x0, 1, [⟨31, 1, .W1P, 0, false, .any⟩,
    ⟨30, 1, .RO, 0, false, .any⟩, ⟨24, 4, .RO, 0, false, .any⟩, ⟨0, 3, .RW, 0, false, .among [1, 2, 3, 4, 5]⟩]⟩ := by
  decide +kernel

theorem State.provisionWord_asks (s : State) :
    getFld s.provisionWord SEC_KEYCMD_GO = 1 ∧ getFld s.provisionWord SEC_KEYCMD_OP = 1 :=
  ⟨(getFld_putFld_other _ _ _ _ (by decide) (.inl (by decide))).trans (getFld_putFld_same _ _ _ (by decide)),
    getFld_putFld_same _ _ _ (by decide)⟩

/-- SEC_KEYCMD as the write of KEY_PROVISION leaves it. -/
def State.provisionAsked (s : State) : State := s.put SEC_KEYCMD (mergeWord SEC_KEYCMD (s.get SEC_KEYCMD) s.provisionWord)

theorem State.op_provisionAsked (s : State) : s.provisionAsked.fld SEC_KEYCMD_OP = 1 := by
  refine (congrArg (getFld · SEC_KEYCMD_OP) (State.get_put_same s _ _)).trans ?_
  exact (getFld_mergeWord_RW _ _ _ _ regAt_keyCmd (by decide) ⟨0, 3, .RW, 0, false, .among [1, 2, 3, 4, 5]⟩ (by decide) rfl).trans
    s.provisionWord_asks.2

theorem State.fld_provisionAsked (s : State) (f : Fld) (h : f.addr ≠ SEC_KEYCMD) : s.provisionAsked.fld f = s.fld f :=
  State.fld_of_get f (State.get_put_other _ _ _ _ h)

theorem State.unwrapped_provisionAsked (s : State) : s.provisionAsked.unwrapped = s.unwrapped := by
  have hdata : s.provisionAsked.keyData = s.keyData := by
    refine congrArg wordsBytes (List.map_congr_left fun w hw => s.fld_provisionAsked _ ?_)
    simp only [SEC_KEYDATA_WRAP, SEC_KEYDATA, SEC_KEYCMD]
    omega
  simp only [State.unwrapped, hdata]
  rfl

theorem State.write_provision (s : State) (src : BusSrc) (h : s.takes SEC_KEYCMD s.provisionWord) (hn : s.setNow SEC_KEYCMD = 0#32) :
    s.write src SEC_KEYCMD s.provisionWord = s.provisionAsked.keyGo := by
  rw [s.write_sec src _ _ (by decide) (by decide) (by decide) (by decide +kernel) h, s.storeWord_unlatched _ _ (.inr (by decide)) (.inl (by decide)) hn]
  exact if_pos s.provisionWord_asks.1

/-- A key operation that leaves the state as it is ends with its status. -/
theorem State.keyGo_provision_refused (s : State) (st : Nat) (k : List Byte) (hop : s.fld SEC_KEYCMD_OP = 1)
    (hi : s.fld SEC_KEYARG_INDEX < recordCount) (hk : s.unwrapped = (st, k)) (hst : st ≠ ksOk) :
    s.keyGo = (s.setFld SEC_KEYCMD_STATUS st).raise 169 := by
  have hrun : s.provision (s.fld SEC_KEYARG_INDEX) = (st, s) := by
    rw [State.provision, if_neg (by omega), hk]
    exact if_pos hst
  simp only [State.keyGo, hop, hrun]

theorem State.unwrapped_status (s : State) : s.unwrapped.1 < 16 := by
  unfold State.unwrapped
  split
  · decide
  · split
    · exact (by decide : ksBadWrap < 16)
    · exact (by decide : ksOk < 16)

/-- The effect that O38 states of a KEY_PROVISION that is refused, in every state in whose tick the device has latched no bit of the
register. -/
theorem keyProvision_refused (s : State) (src : BusSrc) (st : Nat) (k : List Byte) (htake : s.takes SEC_KEYCMD s.provisionWord)
    (hn : s.setNow SEC_KEYCMD = 0#32) (hi : s.fld SEC_KEYARG_INDEX < recordCount) (hk : s.unwrapped = (st, k)) (hst : st ≠ ksOk) :
    ∃ t, exec (.keyProvision src) s = .next t ∧ t.fld SEC_KEYCMD_STATUS = st
      ∧ t.fld (routeCount 169) = min (s.fld (routeCount 169) + 1) 0xFFFFFFFF ∧ t.sec.keys = s.sec.keys ∧ t.nodes = s.nodes := by
  have hgo := s.provisionAsked.keyGo_provision_refused st k s.op_provisionAsked
    ((s.fld_provisionAsked SEC_KEYARG_INDEX (by decide)).symm ▸ hi) (s.unwrapped_provisionAsked.trans hk) hst
  have hlt : st < 16 := by
    have := s.unwrapped_status
    rwa [hk] at this
  refine ⟨_, congrArg Host.Outcome.next ((s.write_provision src htake hn).trans hgo), ?_, ?_, by simp [State.provisionAsked],
    by simp [State.provisionAsked]⟩
  · rw [State.fld_raise_low _ _ _ _ (by decide), State.fld_setFld_same _ _ _ (by decide)]
    exact Nat.mod_eq_of_lt hlt
  · rw [State.fld_routeCount_raise _ _ _ (by decide), State.fld_setFld_other_word _ _ _ _ (by decide), s.fld_provisionAsked _ (by decide)]

/-! ### A key operation with a latched bit -/

/-- The state after reset with SEC cast and the timebase running, in whose tick the device has latched bit 1 of SEC_KEYCMD.OP. -/
def State.keyOpLatched : State :=
  State.latch { State.reset with
      sys := { State.reset.sys with phase := .running, cast := [0x10] }
      tim := { State.reset.tim with run := true } }
    ⟨SEC_KEYCMD, 1, 1⟩

theorem takes_keyOpLatched : State.keyOpLatched.takes SEC_KEYCMD State.keyOpLatched.provisionWord := by decide +kernel

theorem unwrapped_keyOpLatched : State.keyOpLatched.unwrapped = (ksNoKey, []) := by decide +kernel

theorem status_of_write_keyOpLatched :
    (State.keyOpLatched.write .pcie SEC_KEYCMD State.keyOpLatched.provisionWord).fld SEC_KEYCMD_STATUS = ksBadSlot := by
  decide +kernel

/-- Refutes O38 in its clause on a KEY_PROVISION without slot 1's key, which speaks of every state, and so of one in whose tick the
device has latched a bit of OP: the operation that runs is BKEY_IMPORT, which ends with BADSLOT (R5). No operation of the model latches a
bit there; where none is latched the effect holds, by `keyProvision_refused`. -/
theorem not_keysAndJoins : ¬ Obligations.KeysAndJoins := by
  unfold Obligations.KeysAndJoins
  intro h
  obtain ⟨hprovision, -⟩ := h State.keyOpLatched .pcie
  obtain ⟨-, hrefused⟩ := hprovision takes_keyOpLatched (by decide +kernel)
  obtain ⟨t, hexec, ⟨hstatus, -⟩, -⟩ := hrefused ksNoKey [] unwrapped_keyOpLatched (by decide)
  obtain rfl : State.keyOpLatched.write .pcie SEC_KEYCMD State.keyOpLatched.provisionWord = t := Host.Outcome.next.inj hexec
  rw [status_of_write_keyOpLatched] at hstatus
  exact absurd hstatus (by decide)

end Sys2Proof.Machine

/-! HO_PULL, and the one state of affairs in which it asks another peer than the one written: the device has latched a bit of
PLK_HOCMD.PEER in the same tick (R5, R327). -/

namespace Sys2Proof.Machine

open Sys2Proof.Fields

/-! ### A pull whose record is not ready (R327, R330) -/

/-- The word that asks for a PULL from a peer. -/
def State.pullWord (s : State) (p : Fin 64) : Word :=
  s.setWord PLK_HOCMD [(PLK_HOCMD_GO, 1), (PLK_HOCMD_PEER, p.val), (PLK_HOCMD_OP, 1)]

theorem regAt_hoCmd : regAt PLK_HOCMD = some ⟨"PLK_HOCMD", 0xD0120, 0x0, 1, 0x0, 1, [⟨31, 1, .W1P, 0, false, .any⟩,
    ⟨30, 1, .RO, 0, false, .any⟩, ⟨24, 4, .RO, 0, false, .any⟩, ⟨8, 6, .RW, 0, false, .any⟩, ⟨0, 2, .RW, 0, false, .among [1]⟩]⟩ := by
  decide +kernel

theorem State.pullWord_asks (s : State) (p : Fin 64) :
    getFld (s.pullWord p) PLK_HOCMD_GO = 1 ∧ getFld (s.pullWord p) PLK_HOCMD_PEER = p := by
  have hop (w : Word) (f : Fld) (h : 2 ≤ f.lo) : getFld (putFld w PLK_HOCMD_OP 1) f = getFld w f :=
    getFld_putFld_other _ _ _ _ (by decide) (.inl h)
  have hset (w : Word) : getFld (putFld w PLK_HOCMD_PEER p) PLK_HOCMD_PEER = p :=
    (getFld_putFld_same _ _ _ (by decide)).trans (Nat.mod_eq_of_lt p.isLt)
  have hgo (w : Word) : getFld (putFld (putFld w PLK_HOCMD_GO 1) PLK_HOCMD_PEER p) PLK_HOCMD_GO = 1 :=
    (getFld_putFld_other _ _ _ _ (by decide) (.inl (by decide))).trans (getFld_putFld_same _ _ _ (by decide))
  exact ⟨(hop _ _ (by decide)).trans (hgo _), (hop _ _ (by decide)).trans (hset _)⟩

/-- PLK_HOCMD as the write of HO_PULL leaves it. -/
def State.pullAsked (s : State) (p : Fin 64) : State := s.put PLK_HOCMD (mergeWord PLK_HOCMD (s.get PLK_HOCMD) (s.pullWord p))

theorem State.peer_pullAsked (s : State) (p : Fin 64) : (s.pullAsked p).fld PLK_HOCMD_PEER = p := by
  refine (congrArg (getFld · PLK_HOCMD_PEER) (State.get_put_same s _ _)).trans ?_
  exact (getFld_mergeWord_RW _ _ _ _ regAt_hoCmd (by decide) ⟨8, 6, .RW, 0, false, .any⟩ (by decide) rfl).trans (s.pullWord_asks p).2

theorem State.fld_pullAsked (s : State) (p : Fin 64) (f : Fld) (h : f.addr ≠ PLK_HOCMD) : (s.pullAsked p).fld f = s.fld f :=
  State.fld_of_get f (State.get_put_other _ _ _ _ h)

theorem State.hoReady_pullAsked (s : State) (p : Fin 64) (i eui : Nat) : (s.pullAsked p).hoReady i eui = s.hoReady i eui := by
  have hgeom : (s.pullAsked p).get FWD_GEOM = s.get FWD_GEOM := State.get_put_other _ _ _ _ (by decide)
  have hmem : (s.pullAsked p).mem = s.mem := by simp [State.pullAsked]
  simp only [State.hoReady, State.nodeKeyOf, State.entryValid_of_mem hmem hgeom, State.entryWord_of_mem hmem hgeom]
  rfl

theorem State.write_pull (s : State) (src : BusSrc) (p : Fin 64) (h : s.takes PLK_HOCMD (s.pullWord p)) (hn : s.setNow PLK_HOCMD = 0#32) :
    s.write src PLK_HOCMD (s.pullWord p) = (s.pullAsked p).hoPull := by
  rw [s.write_sec src _ _ (by decide) (by decide) (by decide) (by decide +kernel) h,
    s.storeWord_unlatched _ _ (.inr (by decide)) (.inl (by decide)) hn]
  exact if_pos (s.pullWord_asks p).1

/-- The effect that O42 states of a HO_PULL whose record is not ready, in every state in whose tick the device has latched no bit of the
register. -/
theorem hoPull_badTarget (s : State) (src : BusSrc) (p : Fin 64) (htake : s.takes PLK_HOCMD (s.pullWord p)) (hn : s.setNow PLK_HOCMD = 0#32)
    (hpeer : (s.peer p).st = peerKeyed)
    (hready : s.hoReady (s.fld PLK_HOIDX_INDEX) (s.fld PLK_HOEUI_HI_EUI * 2 ^ 32 + s.fld PLK_HOEUI_LO_EUI) = false) :
    ∃ t, exec (.hoPull src p) s = .next t ∧ t.plk.pull = none ∧ t.fld PLK_HOCMD_STATUS = hoBadTarget ∧ t.fld PLK_HOCMD_BUSY = 0 := by
  have hpull : (s.pullAsked p).hoPull = (s.pullAsked p).endPull hoBadTarget := by
    rw [State.hoPull]
    simp only [s.peer_pullAsked, s.fld_pullAsked p PLK_HOIDX_INDEX (by decide), s.fld_pullAsked p PLK_HOEUI_HI_EUI (by decide),
      s.fld_pullAsked p PLK_HOEUI_LO_EUI (by decide), s.hoReady_pullAsked, hready]
    rw [if_neg (not_not_intro (show ((s.pullAsked p).peer p).st = peerKeyed from hpeer)), if_pos (.inr (by decide))]
  refine ⟨_, congrArg Host.Outcome.next ((s.write_pull src p htake hn).trans hpull), by simp [State.endPull, hoBadTarget], ?_, ?_⟩
  · rw [State.endPull, if_neg (by decide), State.fld_of_get _ (State.get_count_other _ _ _ (by decide)), State.fld_setFld_same _ _ _ (by decide)]
    rfl
  · rw [State.endPull, if_neg (by decide), State.fld_of_get _ (State.get_count_other _ _ _ (by decide)),
      State.fld_setFld_keeps _ _ _ _ (by decide) (by decide), State.fld_setFld_same _ _ _ (by decide)]
    rfl

/-! ### A peer number with a latched bit -/

/-- The state after reset with the peer port's station cast, peer 0 keyed and the timebase running, in whose tick the device has latched
bit 0 of PLK_HOCMD.PEER. -/
def State.pullLatched : State :=
  State.latch { State.reset with
      sys := { State.reset.sys with phase := .running, cast := [0x11, 0x12] }
      tim := { State.reset.tim with run := true }
      plk := { State.reset.plk with peers := [(0, { Peer.cold with st := peerKeyed })] } }
    ⟨PLK_HOCMD, 8, 1⟩

theorem takes_pullLatched : State.pullLatched.takes PLK_HOCMD (State.pullLatched.pullWord 0) := by decide +kernel

theorem status_of_write_pullLatched :
    (State.pullLatched.write .pcie PLK_HOCMD (State.pullLatched.pullWord 0)).fld PLK_HOCMD_STATUS = hoPeerDown := by
  decide +kernel

/-- Refutes O42 in its clause on a HO_PULL whose record is not ready, which speaks of every state, and so of one in whose tick the device
has latched a bit of PEER: peer 1 is asked, which is not keyed, and the command ends with PEERDOWN (R5). No operation of the model latches
a bit there; where none is latched the effect holds, by `hoPull_badTarget`. -/
theorem not_handover : ¬ Obligations.Handover := by
  unfold Obligations.Handover
  intro h
  obtain ⟨hpull, -⟩ := h State.pullLatched .pcie ⟨0, 0, 0, false⟩
  obtain ⟨-, hrefused⟩ := hpull takes_pullLatched (by decide +kernel)
  obtain ⟨t, hexec, -, hstatus, -⟩ := hrefused (by decide +kernel)
  obtain rfl : State.pullLatched.write .pcie PLK_HOCMD (State.pullLatched.pullWord 0) = t := Host.Outcome.next.inj hexec
  rw [status_of_write_pullLatched] at hstatus
  exact absurd hstatus (by decide)

end Sys2Proof.Machine

/-! The key store and the mailboxes: what a read returns after a write (R293, R302). -/

namespace Sys2Proof.Machine

open Sys2Proof.Fields Sys2Proof.Laws

/-! ### The key store (R302) -/

/-- The key of a slot after the store has taken one. -/
theorem State.key_setKey_same (s : State) (k : Nat) (v : List Byte) (hk : k ≠ 0) : (s.setKey k v).key k = some v := by
  rw [State.key, if_neg hk, State.setKey]
  simp only [find_tabInsert_same k v _ (tabErase_no_key k s.sec.keys), Option.map_some]

theorem State.key_setKey_other (s : State) {j k : Nat} (v : List Byte) (h : j ≠ k) : (s.setKey k v).key j = s.key j := by
  simp only [State.key, State.setKey, find_tabInsert_other h, find_tabErase_other h]

theorem State.key_eraseKey_same (s : State) (k : Nat) (hk : k ≠ 0) : (s.eraseKey k).key k = none := by
  rw [State.key, if_neg hk, State.eraseKey, Option.map_eq_none_iff, List.find?_eq_none]
  intro p hp
  simpa using tabErase_no_key k s.sec.keys p hp

theorem State.key_eraseKey_other (s : State) {j k : Nat} (h : j ≠ k) : (s.eraseKey k).key j = s.key j := by
  simp only [State.key, State.eraseKey, find_tabErase_other h]

/-- The keys are those of SEC's store. -/
theorem State.key_of_keys {s t : State} (h : t.sec.keys = s.sec.keys) (k : Nat) : t.key k = s.key k := by
  simp only [State.key, h]

theorem State.key_of_sec {s t : State} (h : t.sec = s.sec) (k : Nat) : t.key k = s.key k := State.key_of_keys (congrArg Sec.keys h) k

/-! ### Digests -/

theorem length_shaRound (h : List Nat) (kw : Nat × Nat) : (shaRound h kw).length = h.length := by
  unfold shaRound
  split <;> rfl

theorem length_foldl_shaRound (l : List (Nat × Nat)) (h : List Nat) : (l.foldl shaRound h).length = h.length := by
  induction l generalizing h with
  | nil => rfl
  | cons kw l ih => rw [List.foldl_cons, ih, length_shaRound]

theorem length_shaBlock (h : List Nat) (blk : List Byte) : (shaBlock h blk).length = h.length := by
  simp only [shaBlock, List.length_zipWith, length_foldl_shaRound, Nat.min_self]

theorem length_shaBlocks (n : Nat) (h : List Nat) (bs : List Byte) : (shaBlocks n h bs).length = h.length := by
  induction n generalizing h bs with
  | zero => rfl
  | succ n ih => rw [shaBlocks, ih, length_shaBlock]

theorem length_sha256 (m : List Byte) : (sha256 m).length = 32 := by
  have hword (w : Nat) : (beBytes 4 w).length = 4 := by rw [beBytes, List.length_reverse, length_leBytes]
  simp [sha256, List.length_flatMap, hword, length_shaBlocks, shaInit]

theorem length_hmacSha256 (key m : List Byte) : (hmacSha256 key m).length = 32 := length_sha256 _

/-! ### Mailboxes (R293) -/

theorem leBytes_ofLeBytes (bs : List Byte) : leBytes bs.length (ofLeBytes bs) = bs := by
  induction bs with
  | nil => rfl
  | cons b r ih =>
    have hdiv : (b.toNat + 256 * ofLeBytes r) / 256 = ofLeBytes r := by have := b.isLt; omega
    have hmod : BitVec.ofNat 8 (b.toNat + 256 * ofLeBytes r) = b :=
      BitVec.eq_of_toNat_eq (by rw [BitVec.toNat_ofNat, Nat.add_mul_mod_self_left, Nat.mod_eq_of_lt b.isLt])
    rw [List.length_cons, leBytes, ofLeBytes, hmod, hdiv, ih]

theorem leBytes_mod (n v : Nat) : leBytes n (v % 256 ^ n) = leBytes n v := by
  have h := leBytes_ofLeBytes (leBytes n v)
  rwa [length_leBytes, ofLeBytes_leBytes] at h

/-- The octets of a word in which a part of a message was written. -/
theorem leBytes_imgWord (bs : List Byte) (w : Nat) (h : 4 * w + 4 ≤ bs.length) :
    leBytes 4 (BitVec.ofNat 32 (imgWord bs (4 * w))).toNat = (bs.drop (4 * w)).take 4 := by
  have hlen : ((bs.drop (4 * w)).take 4).length = 4 := by simp only [List.length_take, List.length_drop]; omega
  have hmod : (BitVec.ofNat 32 (imgWord bs (4 * w))).toNat = imgWord bs (4 * w) % 256 ^ 4 := BitVec.toNat_ofNat _ _
  have hread := leBytes_ofLeBytes ((bs.drop (4 * w)).take 4)
  rw [hlen] at hread
  rw [hmod, leBytes_mod, imgWord, hread]

/-- The words of a message in a mailbox. -/
theorem State.get_putMail (s : State) (m : Nat) (bs : List Byte) (a : Nat) :
    (s.putMail m bs).get a = if mailAddr m 0 ≤ a ∧ (a - mailAddr m 0) % 4 = 0 ∧ (a - mailAddr m 0) / 4 < bs.length / 4 then
      BitVec.ofNat 32 (imgWord bs (4 * ((a - mailAddr m 0) / 4))) else s.get a := by
  have hall (n : Nat) : ((List.range n).foldl (fun s w => s.put (mailAddr m (4 * w)) (BitVec.ofNat 32 (imgWord bs (4 * w)))) s).get a
      = if mailAddr m 0 ≤ a ∧ (a - mailAddr m 0) % 4 = 0 ∧ (a - mailAddr m 0) / 4 < n then
          BitVec.ofNat 32 (imgWord bs (4 * ((a - mailAddr m 0) / 4))) else s.get a := by
    induction n with
    | zero => simp
    | succ n ih =>
      rw [List.range_succ, List.foldl_append, List.foldl_cons, List.foldl_nil]
      by_cases ha : a = mailAddr m (4 * n)
      · have hn : (a - mailAddr m 0) / 4 = n := by simp only [ha, mailAddr]; omega
        rw [ha, State.get_put_same, ← ha, hn, if_pos]
        simp only [ha, mailAddr]
        omega
      · rw [State.get_put_other _ _ _ _ ha, ih]
        refine if_congr ?_ rfl rfl
        simp only [mailAddr] at ha ⊢
        omega
  exact hall _

theorem State.get_putMail_other (s : State) (m : Nat) (bs : List Byte) (a : Nat) (hm : m < 16) (hlen : bs.length ≤ 256)
    (h : a < 0xC1000 ∨ 0xC2000 ≤ a) : (s.putMail m bs).get a = s.get a := by
  rw [State.get_putMail, if_neg]
  simp only [mailAddr]
  omega

theorem State.putMail_besides (s : State) (m : Nat) (bs : List Byte) :
    (s.putMail m bs).sec = s.sec ∧ (s.putMail m bs).nodes = s.nodes :=
  ⟨foldl_keeps State.sec _ _ _ fun _ _ _ => rfl, foldl_keeps State.nodes _ _ _ fun _ _ _ => rfl⟩

/-- The words of a mailbox are its contents. -/
theorem State.mail_congr {s t : State} (m ofs n : Nat) (h : ∀ w, w ≤ n / 4 → t.get (mailAddr m (ofs + 4 * w)) = s.get (mailAddr m (ofs + 4 * w))) :
    t.mail m ofs n = s.mail m ofs n := by
  refine congrArg (List.take n) (List.flatMap_congr fun w hw => ?_)
  have := List.mem_range.mp hw
  rw [h w (by omega)]

theorem flatMap_range_words (bs : List Byte) (n : Nat) (h : 4 * n ≤ bs.length) :
    (List.range n).flatMap (fun w => (bs.drop (4 * w)).take 4) = bs.take (4 * n) := by
  induction n with
  | zero => simp
  | succ n ih =>
    rw [List.range_succ, List.flatMap_append, ih (by omega), List.flatMap_singleton, ← List.take_add]
    rfl

/-- A message put into a mailbox stands there. -/
theorem State.mail_putMail (s : State) (m : Nat) (bs : List Byte) (hlen : bs.length % 4 = 0) :
    (s.putMail m bs).mail m 0 bs.length = bs := by
  have hread (w : Nat) (hw : w < bs.length / 4) : leBytes 4 ((s.putMail m bs).get (mailAddr m (0 + 4 * w))).toNat = (bs.drop (4 * w)).take 4 := by
    have hindex : (mailAddr m (0 + 4 * w) - mailAddr m 0) / 4 = w := by simp only [mailAddr]; omega
    rw [State.get_putMail, if_pos (by simp only [mailAddr] at hindex ⊢; omega), hindex, leBytes_imgWord bs w (by omega)]
  have hwords : (List.range (bs.length / 4)).flatMap (fun w => leBytes 4 ((s.putMail m bs).get (mailAddr m (0 + 4 * w))).toNat) = bs := by
    rw [List.flatMap_congr (g := fun w => (bs.drop (4 * w)).take 4) fun w hw => hread w (List.mem_range.mp hw),
      flatMap_range_words bs _ (by omega), List.take_of_length_le (by omega)]
  rw [State.mail, List.range_succ, List.flatMap_append, hwords, List.take_left' rfl]

end Sys2Proof.Machine

/-! SEC's jobs and the entropy source: the queue and its results, and what a failure of the source ends (R293, R308, R314). -/

namespace Sys2Proof.Machine

open Sys2Proof.Fields Sys2Proof.Laws

/-! ### Registers of pulses alone (R5) -/

theorem mergeWord_pulses (a : Nat) (old v : Word) (r : RSpec) (hr : regAt a = some r) (hty : ∀ f ∈ r.flds, f.ty = .RO ∨ f.ty = .W1P) :
    mergeWord a old v = old := by
  simp only [mergeWord, hr]
  refine foldl_keeps id _ _ _ fun f hf w => ?_
  obtain h | h := hty f hf <;> simp [FSpec.store, h]

/-- A pulse of a register of SEC that stores nothing. -/
theorem State.pulse_sec (s : State) (src : BusSrc) (f : Fld) (r : RSpec) (h4 : f.addr % 4 = 0) (hlo : 0xC0000 ≤ f.addr)
    (hhi : f.addr < 0xE0000) (hr : regAt f.addr = some r) (hty : ∀ f ∈ r.flds, f.ty = .RO ∨ f.ty = .W1P) (hkept : keptMask f.addr = 0#32)
    (h : s.takes f.addr (s.setWord f.addr [(f, 1)])) :
    s.pulse src f = (s.put f.addr (s.get f.addr)).wroteSec src f.addr (s.setWord f.addr [(f, 1)]) := by
  rw [← s.storeWord_keeps f.addr (s.setWord f.addr [(f, 1)]) (by omega) (by omega) (mergeWord_pulses _ _ _ r hr hty)]
  exact s.write_sec src _ _ h4 hlo hhi hkept h

theorem State.get_put_self (s : State) (a b : Nat) : (s.put a (s.get a)).get b = s.get b := by
  by_cases h : b = a
  · rw [h, State.get_put_same]
  · exact State.get_put_other _ _ _ _ h

theorem State.fld_put_self (s : State) (a : Nat) (f : Fld) : (s.put a (s.get a)).fld f = s.fld f := State.fld_of_get f (s.get_put_self a _)

/-! ### PUSH and POP (R293) -/

theorem regAt_jobCtl : regAt SEC_JOBCTL = some ⟨"SEC_JOBCTL", 0xC0108, 0x0, 1, 0x0, 1, [⟨1, 1, .W1P, 0, false, .any⟩,
    ⟨0, 1, .W1P, 0, false, .any⟩]⟩ := by
  decide +kernel

theorem setWord_jobCtl (s : State) (f : Fld) : s.setWord SEC_JOBCTL [(f, 1)] = putFld 0 f 1 := by
  have hmask : rwMask SEC_JOBCTL = 0#32 := by decide +kernel
  simp [State.setWord, hmask, putAll]

theorem State.pulse_jobPush (s : State) (src : BusSrc) (h : s.takes SEC_JOBCTL (s.setWord SEC_JOBCTL [(SEC_JOBCTL_PUSH, 1)])) :
    s.pulse src SEC_JOBCTL_PUSH = (s.put SEC_JOBCTL (s.get SEC_JOBCTL)).jobPush := by
  refine (s.pulse_sec src SEC_JOBCTL_PUSH _ (by decide) (by decide) (by decide) regAt_jobCtl (by decide) (by decide +kernel) h).trans ?_
  have hword : s.setWord SEC_JOBCTL_PUSH.addr [(SEC_JOBCTL_PUSH, 1)] = 1#32 := setWord_jobCtl s _
  rw [hword]
  rfl

theorem State.pulse_jobPop (s : State) (src : BusSrc) (h : s.takes SEC_JOBCTL (s.setWord SEC_JOBCTL [(SEC_JOBCTL_POP, 1)])) :
    s.pulse src SEC_JOBCTL_POP = (s.put SEC_JOBCTL (s.get SEC_JOBCTL)).jobPop := by
  refine (s.pulse_sec src SEC_JOBCTL_POP _ (by decide) (by decide) (by decide) regAt_jobCtl (by decide) (by decide +kernel) h).trans ?_
  have hword : s.setWord SEC_JOBCTL_POP.addr [(SEC_JOBCTL_POP, 1)] = 2#32 := setWord_jobCtl s _
  rw [hword]
  rfl

/-- The job that the descriptor's registers hold. -/
def State.nextJob (s : State) : Job :=
  ⟨s.fld SEC_JOBD0_OP, s.fld SEC_JOBD0_TAG, s.fld SEC_JOBD0_MBOX, s.fld SEC_JOBD0_KEYSLOT, s.fld SEC_JOBD1_LEN⟩

theorem State.jobPush_queues (s : State) (h : s.sec.jobs.length < 16) :
    s.jobPush = { s with sec := { s.sec with jobs := s.sec.jobs ++ [s.nextJob] } } := if_neg (by omega)

theorem State.jobPush_full (s : State) (h : 16 ≤ s.sec.jobs.length) : s.jobPush = s.count SEC_JOBSTAT_REFUSED := if_pos h

theorem State.nextJob_put_self (s : State) (a : Nat) : (s.put a (s.get a)).nextJob = s.nextJob := by
  simp only [State.nextJob, State.fld_put_self]

/-! ### JOB_DONE (R293) -/

/-- The oldest job leaves, and its result is appended. -/
def State.endJob (s : State) (r : List Job) (tag st : Nat) : State :=
  { s with sec := { s.sec with jobs := r, results := s.sec.results ++ [(tag, st)] } }

theorem State.jobDone_ends (s : State) (j : Job) (r : List Job) (hjobs : s.sec.jobs = j :: r) (hroom : s.sec.results.length < 16)
    (hlive : s.live 0x10 = true) :
    s.jobDone = if (s.runJob j).2.sec.results.isEmpty then ((s.runJob j).2.endJob r j.tag (s.runJob j).1).raise 171
      else (s.runJob j).2.endJob r j.tag (s.runJob j).1 := by
  have hgo : ¬ (16 ≤ s.sec.results.length ∨ (!s.live 0x10) = true) := by rw [hlive]; simp; omega
  simp only [State.jobDone, hjobs, if_neg hgo]
  rfl

/-- A job leaves the results, and every word beside the mailboxes, as they are. -/
theorem State.runJob_keeps (s : State) (j : Job) (hm : j.mbox < 16) :
    (s.runJob j).2.sec.results = s.sec.results ∧ ∀ a, a < 0xC1000 ∨ 0xC2000 ≤ a → (s.runJob j).2.get a = s.get a := by
  have hput (d : List Byte) (hd : d.length = 32) : (s.putMail j.mbox d).sec.results = s.sec.results
      ∧ ∀ a, a < 0xC1000 ∨ 0xC2000 ≤ a → (s.putMail j.mbox d).get a = s.get a :=
    ⟨congrArg Sec.results (s.putMail_besides j.mbox d).1, fun a ha => s.get_putMail_other _ _ _ hm (by omega) ha⟩
  unfold State.runJob
  dsimp only
  split
  · split
    · exact ⟨rfl, fun _ _ => rfl⟩
    · exact hput _ (length_sha256 _)
  · split
    · exact ⟨rfl, fun _ _ => rfl⟩
    · exact hput _ (length_hmacSha256 _ _)
  · split
    · exact ⟨rfl, fun _ _ => rfl⟩
    · split <;> exact ⟨rfl, fun _ _ => rfl⟩
  · split
    · exact ⟨rfl, fun _ _ => rfl⟩
    · split <;> exact ⟨rfl, fun _ _ => rfl⟩

/-- The end of a job leaves what the job has done, takes it off the queue, and raises 171 with the first result. -/
theorem State.jobDone_effect (s : State) (j : Job) (r : List Job) (hjobs : s.sec.jobs = j :: r) (hroom : s.sec.results.length < 16)
    (hlive : s.live 0x10 = true) (hm : j.mbox < 16) :
    s.jobDone.sec = ((s.runJob j).2.endJob r j.tag (s.runJob j).1).sec
    ∧ (∀ a, a < 0x100000 → s.jobDone.get a = (s.runJob j).2.get a)
    ∧ (s.sec.results = [] → s.jobDone.fld (routeCount 171) = min (s.fld (routeCount 171) + 1) 0xFFFFFFFF) := by
  obtain ⟨hresults, hget⟩ := s.runJob_keeps j hm
  rw [s.jobDone_ends j r hjobs hroom hlive, hresults]
  split
  next hfirst =>
    refine ⟨State.raise_sec _ _ _, fun a ha => (State.get_raise_low _ _ _ _ ha).trans rfl, fun _ => ?_⟩
    rw [State.fld_routeCount_raise _ _ _ (by decide)]
    exact congrArg (fun n => min (n + 1) 0xFFFFFFFF) (State.fld_of_get (routeCount 171) (hget _ (.inr (by decide))))
  next hmore =>
    refine ⟨rfl, fun _ _ => rfl, fun hnone => ?_⟩
    rw [hnone] at hmore
    exact absurd rfl hmore

section
variable (s : State) (j : Job)

theorem State.runJob_sha256 (h : j.op = 1) (hlen : j.len ≤ 248) : s.runJob j = (0, s.putMail j.mbox (sha256 (s.mail j.mbox 0 j.len))) := by
  simp only [State.runJob, h]
  exact if_neg (by omega)

theorem State.runJob_hmac (h : j.op = 2) (hlen : j.len ≤ 216) :
    s.runJob j = (0, s.putMail j.mbox (hmacSha256 (s.mail j.mbox 0 32) (s.mail j.mbox 32 j.len))) := by
  simp only [State.runJob, h]
  exact if_neg (by omega)

/-- Of an ECDSA job the mailbox's numbers, each of 32 octets. -/
def State.jobNum (s : State) (j : Job) (ofs : Nat) : Nat := be32At (s.mail j.mbox 0 256) ofs

theorem State.runJob_ecdsa (h : j.op = 3) :
    s.runJob j = (if onCurve (s.jobNum j 32) (s.jobNum j 64) = false then 2
      else if ecdsaVerify (s.jobNum j 32) (s.jobNum j 64) (s.jobNum j 96) (s.jobNum j 128) (s.mail j.mbox 0 32) then 0 else 1, s) := by
  have hrun : s.runJob j = if (!onCurve (s.jobNum j 32) (s.jobNum j 64)) = true then (2, s)
      else if ecdsaVerify (s.jobNum j 32) (s.jobNum j 64) (s.jobNum j 96) (s.jobNum j 128) (s.mail j.mbox 0 32) then (0, s) else (1, s) := by
    simp only [State.runJob, h]
    rfl
  rw [hrun]
  cases onCurve (s.jobNum j 32) (s.jobNum j 64)
  · rfl
  · cases ecdsaVerify (s.jobNum j 32) (s.jobNum j 64) (s.jobNum j 96) (s.jobNum j 128) (s.mail j.mbox 0 32) <;> rfl

theorem State.runJob_ecdh (h : j.op = 4) :
    s.runJob j = if onCurve (s.jobNum j 0) (s.jobNum j 32) = false then (2, s) else if s.trngOk = false then (4, s)
      else (0, s.setKey j.slot ((sha256 (ecdhX Config.touchmark.toNat (s.jobNum j 0) (s.jobNum j 32) ++ s.mail j.mbox 64 8)).take 16)) := by
  have hrun : s.runJob j = if (!onCurve (s.jobNum j 0) (s.jobNum j 32)) = true then (2, s) else if (!s.trngOk) = true then (4, s)
      else (0, s.setKey j.slot ((sha256 (ecdhX Config.touchmark.toNat (s.jobNum j 0) (s.jobNum j 32) ++ s.mail j.mbox 64 8)).take 16)) := by
    simp only [State.runJob, h]
    rfl
  simp only [hrun, Bool.not_eq_true']

end

end Sys2Proof.Machine

/-! The commands of SEC's jobs and of the entropy source, in every state (R293, R308, R314). -/

namespace Sys2Proof.Machine

open Sys2Proof.Fields Sys2Proof.Laws

/-! ### Counts of other events (R431) -/

theorem State.fld_routeCount_raise_other (s : State) (id data n : Nat) (hn : n ≠ 246) (h : n ≠ id) :
    (s.raise id data).fld (routeCount n) = s.fld (routeCount n) := by
  refine State.fld_of_get _ (((s.signals_raise id data).regs _ (besideSignals_routeCount n hn)).trans ?_)
  exact s.get_count_other _ _ (by simp only [routeCount]; omega)

/-! ### A campaign that returns to IDLE (R314) -/

/-- A campaign that is PREPARING ends with NOENTROPY. -/
def State.dropPreparing (s : State) (k : Nat) : State := if s.camp k = campPreparing then s.campToIdle k 2 else s

/-- A campaign is in IDLE for want of entropy, and has no key. -/
def State.lostEntropy (s : State) (k : Nat) : Prop :=
  s.camp k = stIdle ∧ s.fld (SEC_CAMPSTAT_CAUSE k) = 2 ∧ s.key (4 + k) = none

theorem campStat_place (k : Fin 4) : SEC_CAMPSTAT k < 0x100000 := by
  simp only [SEC_CAMPSTAT]
  omega

theorem State.fld_eraseKey (s : State) (k : Nat) (f : Fld) : (s.eraseKey k).fld f = s.fld f := rfl

theorem State.campToIdle_ends (s : State) (k : Fin 4) (cause : Nat) (hc : cause < 16) :
    (s.campToIdle k cause).camp k = stIdle ∧ (s.campToIdle k cause).fld (SEC_CAMPSTAT_CAUSE k) = cause
    ∧ (s.campToIdle k cause).key (4 + k) = none
    ∧ (s.campToIdle k cause).fld (routeCount 176) = min (s.fld (routeCount 176) + 1) 0xFFFFFFFF := by
  have hplace := campStat_place k
  refine ⟨?_, ?_, ?_, ?_⟩
  · rw [State.camp, State.campToIdle, State.fld_raise_low _ _ _ _ hplace, State.fld_eraseKey]
    refine (State.fld_setFld_keeps _ (SEC_CAMPSTAT_CAUSE k) _ _ ?_ ?_).trans ((State.fld_setFld_same _ _ _ ?_).trans (Nat.zero_mod _))
    · simp [SEC_CAMPSTAT_CAUSE]
    · simp [SEC_CAMPSTAT_CAUSE, SEC_CAMPSTAT_STATE]
    · simp [SEC_CAMPSTAT_STATE]
  · rw [State.campToIdle, State.fld_raise_low _ _ _ _ hplace, State.fld_eraseKey]
    exact (State.fld_setFld_same _ (SEC_CAMPSTAT_CAUSE k) _ (by simp [SEC_CAMPSTAT_CAUSE])).trans (Nat.mod_eq_of_lt hc)
  · rw [State.campToIdle, State.key_of_sec (State.raise_sec _ _ _)]
    exact State.key_eraseKey_same _ _ (by omega)
  · rw [State.campToIdle, State.fld_routeCount_raise _ _ _ (by decide), State.fld_eraseKey]
    have hne : (routeCount 176).addr ≠ SEC_CAMPSTAT k := by simp only [routeCount]; omega
    refine congrArg (fun n => min (n + 1) 0xFFFFFFFF) ?_
    exact (State.fld_setFld_other_word _ (SEC_CAMPSTAT_CAUSE k) (routeCount 176) _ hne).trans
      (s.fld_setFld_other_word (SEC_CAMPSTAT_STATE k) (routeCount 176) 0 hne)

/-- What a campaign's return to IDLE leaves of the others. -/
theorem State.campToIdle_keeps (s : State) (k cause : Nat) :
    (∀ f : Fld, f.addr < 0x100000 → f.addr ≠ SEC_CAMPSTAT k → (s.campToIdle k cause).fld f = s.fld f)
    ∧ (∀ j, j ≠ 4 + k → (s.campToIdle k cause).key j = s.key j)
    ∧ ∀ n, n ≠ 176 → n ≠ 246 → SEC_CAMPSTAT k < 0x450000 → (s.campToIdle k cause).fld (routeCount n) = s.fld (routeCount n) := by
  have hset (f : Fld) (h : f.addr ≠ SEC_CAMPSTAT k) :
      ((s.setFld (SEC_CAMPSTAT_STATE k) 0).setFld (SEC_CAMPSTAT_CAUSE k) cause).fld f = s.fld f :=
    (State.fld_setFld_other_word _ (SEC_CAMPSTAT_CAUSE k) f _ h).trans (s.fld_setFld_other_word (SEC_CAMPSTAT_STATE k) f 0 h)
  refine ⟨fun f hlow hf => ?_, fun j hj => ?_, fun n hn hloss hplace => ?_⟩
  · rw [State.campToIdle, State.fld_raise_low _ _ _ _ hlow, State.fld_eraseKey]
    exact hset f hf
  · rw [State.campToIdle, State.key_of_sec (State.raise_sec _ _ _), State.key_eraseKey_other _ hj]
    exact State.key_of_sec rfl j
  · rw [State.campToIdle, State.fld_routeCount_raise_other _ _ _ _ hloss hn, State.fld_eraseKey]
    exact hset _ (by simp only [routeCount]; omega)

/-! ### TRNG_HEALTH_FAIL (R308, R314) -/

theorem State.dropPreparing_fld (s : State) (k : Nat) (f : Fld) (hlow : f.addr < 0x100000) (hf : f.addr ≠ SEC_CAMPSTAT k) :
    (s.dropPreparing k).fld f = s.fld f := by
  unfold State.dropPreparing
  split
  · exact (s.campToIdle_keeps k 2).1 f hlow hf
  · rfl

theorem State.dropPreparing_routeCount (s : State) (k n : Nat) (hn : n ≠ 176) (hloss : n ≠ 246) (hk : k < 4) :
    (s.dropPreparing k).fld (routeCount n) = s.fld (routeCount n) := by
  unfold State.dropPreparing
  split
  · exact (s.campToIdle_keeps k 2).2.2 n hn hloss (by simp only [SEC_CAMPSTAT]; omega)
  · rfl

/-- A campaign's state, cause and key change only with the campaign itself. -/
theorem State.dropPreparing_other (s : State) (j : Nat) (k : Fin 4) (h : j ≠ k) :
    (s.dropPreparing j).camp k = s.camp k ∧ (s.dropPreparing j).fld (SEC_CAMPSTAT_CAUSE k) = s.fld (SEC_CAMPSTAT_CAUSE k)
    ∧ (s.dropPreparing j).key (4 + k) = s.key (4 + k) := by
  have hne : SEC_CAMPSTAT k ≠ SEC_CAMPSTAT j := by simp only [SEC_CAMPSTAT]; omega
  refine ⟨s.dropPreparing_fld j _ (campStat_place k) hne, s.dropPreparing_fld j _ (campStat_place k) hne, ?_⟩
  unfold State.dropPreparing
  split
  · exact (s.campToIdle_keeps j 2).2.1 _ (by omega)
  · rfl

theorem State.lostEntropy_dropPreparing (s : State) (j : Nat) (k : Fin 4) (h : s.lostEntropy k) : (s.dropPreparing j).lostEntropy k := by
  by_cases hj : j = k
  · have hidle : s.camp k ≠ campPreparing := by rw [h.1]; decide
    rw [hj, State.dropPreparing, if_neg hidle]
    exact h
  · obtain ⟨hcamp, hcause, hkey⟩ := s.dropPreparing_other j k hj
    exact ⟨hcamp.trans h.1, hcause.trans h.2.1, hkey.trans h.2.2⟩

theorem State.lostEntropy_foldl (l : List Nat) (s : State) (k : Fin 4) (h : s.lostEntropy k) : (l.foldl State.dropPreparing s).lostEntropy k := by
  induction l generalizing s with
  | nil => exact h
  | cons j l ih => exact ih _ (s.lostEntropy_dropPreparing j k h)

/-- Each campaign of a list that was PREPARING has ended when the list is done. -/
theorem State.foldl_dropPreparing_ends (l : List Nat) (s : State) (k : Fin 4) (hk : k.val ∈ l) (hprep : s.camp k = campPreparing) :
    (l.foldl State.dropPreparing s).lostEntropy k := by
  induction l generalizing s with
  | nil => exact absurd hk List.not_mem_nil
  | cons j l ih =>
    by_cases hj : j = k
    · refine State.lostEntropy_foldl l _ k ?_
      obtain ⟨hidle, hcause, hkey, -⟩ := s.campToIdle_ends k 2 (by decide)
      rw [hj, State.dropPreparing, if_pos hprep]
      exact ⟨hidle, hcause, hkey⟩
    · refine ih _ ?_ ((s.dropPreparing_other j k hj).1.trans hprep)
      exact (List.mem_cons.mp hk).resolve_left fun h => hj h.symm

/-- HEALTHY falls, the failure counts, and event 172 is raised. -/
def State.sourceFails (s : State) : State := ((s.setFld SEC_TRNGSTAT_HEALTHY 0).count SEC_TRNGSTAT_FAILS).raise 172

theorem State.trngFail_eq (s : State) : s.trngFail = (List.range 4).foldl State.dropPreparing s.sourceFails := rfl

theorem State.trngFail_ends (s : State) : s.trngFail.fld SEC_TRNGSTAT_HEALTHY = 0
    ∧ s.trngFail.fld (routeCount 172) = min (s.fld (routeCount 172) + 1) 0xFFFFFFFF
    ∧ ∀ k : Fin 4, s.camp k = campPreparing → s.trngFail.lostEntropy k := by
  have hkeep (f : Fld) (hf : f.addr ≠ SEC_TRNGSTAT) : ((s.setFld SEC_TRNGSTAT_HEALTHY 0).count SEC_TRNGSTAT_FAILS).fld f = s.fld f :=
    (State.fld_of_get _ (State.get_count_other _ SEC_TRNGSTAT_FAILS _ hf)).trans (s.fld_setFld_other_word SEC_TRNGSTAT_HEALTHY f 0 hf)
  rw [s.trngFail_eq]
  refine ⟨?_, ?_, fun k hk => State.foldl_dropPreparing_ends _ _ k (List.mem_range.mpr k.isLt) ?_⟩
  · rw [foldl_keeps (State.fld · SEC_TRNGSTAT_HEALTHY) _ _ _ fun k _ t =>
      t.dropPreparing_fld k _ (by decide) (by simp only [SEC_TRNGSTAT_HEALTHY, SEC_TRNGSTAT, SEC_CAMPSTAT]; omega),
      State.sourceFails, State.fld_raise_low _ _ _ _ (by decide)]
    refine (State.fld_setFld_keeps _ SEC_TRNGSTAT_FAILS _ _ (by decide) (by decide)).trans ?_
    exact s.fld_setFld_same SEC_TRNGSTAT_HEALTHY 0 (by decide)
  · rw [foldl_keeps (State.fld · (routeCount 172)) _ _ _ fun k hk t =>
      t.dropPreparing_routeCount k 172 (by decide) (by decide) (List.mem_range.mp hk),
      State.sourceFails, State.fld_routeCount_raise _ _ _ (by decide), hkeep _ (by decide)]
  · rw [State.camp, State.sourceFails, State.fld_raise_low _ _ _ _ (campStat_place k),
      hkeep _ (by simp only [SEC_CAMPSTAT_STATE, SEC_CAMPSTAT, SEC_TRNGSTAT]; omega)]
    exact hk

/-! ### RETEST, and reads of the word (R308) -/

theorem regAt_trngStat : regAt SEC_TRNGSTAT = some ⟨"SEC_TRNGSTAT", 0xC0094, 0x0, 1, 0x0, 1, [⟨16, 16, .RO, 0, false, .any⟩,
    ⟨1, 1, .W1P, 0, false, .any⟩, ⟨0, 1, .RO, 0, false, .any⟩]⟩ := by
  decide +kernel

theorem State.pulse_trngRetest (s : State) (src : BusSrc) (h : s.takes SEC_TRNGSTAT (s.setWord SEC_TRNGSTAT [(SEC_TRNGSTAT_RETEST, 1)])) :
    s.pulse src SEC_TRNGSTAT_RETEST = (s.put SEC_TRNGSTAT (s.get SEC_TRNGSTAT)).trngRetest := by
  refine (s.pulse_sec src SEC_TRNGSTAT_RETEST _ (by decide) (by decide) (by decide) regAt_trngStat (by decide) (by decide +kernel) h).trans ?_
  exact if_pos (s.getFld_setWord SEC_TRNGSTAT_RETEST 1 (by decide))

theorem State.trngHeal_heals (s : State) : s.trngHeal.fld SEC_TRNGSTAT_HEALTHY = 1 ∧ ∀ a, a ≠ SEC_TRNGSTAT → s.trngHeal.get a = s.get a :=
  ⟨s.fld_setFld_same SEC_TRNGSTAT_HEALTHY 1 (by decide), fun a ha => s.get_setFld_other SEC_TRNGSTAT_HEALTHY 1 a ha⟩

theorem State.trngRetest_heals (s : State) :
    (s.trngRetest.fld SEC_TRNGSTAT_HEALTHY = 1 ∨ s.trngRetest.fld SEC_TRNGSTAT_HEALTHY = s.fld SEC_TRNGSTAT_HEALTHY)
    ∧ ∀ a, a ≠ SEC_TRNGSTAT → s.trngRetest.get a = s.get a := by
  unfold State.trngRetest
  dsimp only
  split
  · exact ⟨.inl (State.trngHeal_heals _).1, (State.trngHeal_heals _).2⟩
  · exact ⟨.inr rfl, fun _ _ => rfl⟩

theorem State.busRead_trng (s : State) (h : s.answering) : s.busRead SEC_TRNG = s.trngRead := by
  obtain ⟨hmode, hphase⟩ := h
  have haddr : SEC_TRNG / 4 * 4 = SEC_TRNG := by decide
  have hdorm : (s.mode == modeDormant && !dormantWindow SEC_TRNG) = false := by simp [hmode]
  have hstage : (s.sys.phase == .assay1Failed && !afterStage1 SEC_TRNG) = false := by simp [hphase]
  simp only [State.busRead, haddr, hdorm, hstage, Bool.false_eq_true, if_false, if_true]

/-- A read of the word changes nothing of the state but the reply and the free values drawn. -/
theorem State.trngRead_effect (s : State) : s.trngRead.2 = { s with free := s.trngRead.2.free }
    ∧ (s.trngOk = false → s.trngRead.1 = 0 ∧ s.trngRead.2.free = s.free) := by
  unfold State.trngRead
  split
  next h => exact ⟨rfl, fun hno => absurd (h.symm.trans hno) (by decide)⟩
  next h => exact ⟨rfl, fun _ => ⟨rfl, rfl⟩⟩

theorem State.hostRead_trng (s : State) (src : BusSrc) (part : ReadPart) (hon : s.sys.power = .on) (h : s.answering) :
    s.hostRead src part SEC_TRNG = { s with out := s.out ++ [readReply src s.trngRead.1 part], free := s.trngRead.2.free } := by
  obtain ⟨hkeep, -⟩ := s.trngRead_effect
  rw [State.hostRead, if_neg (not_not_intro hon), s.busRead_trng h]
  show s.trngRead.2.emit (readReply src s.trngRead.1 part) = _
  conv_lhs => rw [hkeep]
  rfl

/-! ### O39 -/

/-- What a push of a job does, whichever of the four commands brings it. -/
theorem State.jobCommand_pushes (s : State) (src : BusSrc) (h : s.takes SEC_JOBCTL (s.setWord SEC_JOBCTL [(SEC_JOBCTL_PUSH, 1)])) :
    (s.sec.jobs.length < 16 → (s.jobCommand src (s.fld SEC_JOBD0_OP)).sec = { s.sec with jobs := s.sec.jobs ++ [s.nextJob] })
    ∧ (16 ≤ s.sec.jobs.length → (s.jobCommand src (s.fld SEC_JOBD0_OP)).sec = s.sec
      ∧ (s.jobCommand src (s.fld SEC_JOBD0_OP)).fld SEC_JOBSTAT_REFUSED = min (s.fld SEC_JOBSTAT_REFUSED + 1) 255) := by
  rw [State.jobCommand, if_pos rfl, s.pulse_jobPush src h]
  refine ⟨fun hroom => ?_, fun hfull => ?_⟩
  · rw [State.jobPush_queues _ (by simpa using hroom), State.nextJob_put_self]
    rfl
  · rw [State.jobPush_full _ (by simpa using hfull), State.fld_count_same _ _ (by decide), State.fld_put_self]
    exact ⟨by simp, rfl⟩

/-- What an ended job leaves in its mailbox and in the key store, by its operation. -/
theorem State.runJob_effect (s : State) (j : Job) :
    (j.op = 1 → j.len ≤ 248 → (s.runJob j).1 = 0 ∧ (s.runJob j).2.mail j.mbox 0 32 = sha256 (s.mail j.mbox 0 j.len))
    ∧ (j.op = 2 → j.len ≤ 216 →
        (s.runJob j).1 = 0 ∧ (s.runJob j).2.mail j.mbox 0 32 = hmacSha256 (s.mail j.mbox 0 32) (s.mail j.mbox 32 j.len))
    ∧ (j.op = 4 → onCurve (s.jobNum j 0) (s.jobNum j 32) = false → (s.runJob j).1 = 2 ∧ (s.runJob j).2.sec.keys = s.sec.keys)
    ∧ (j.op = 4 → onCurve (s.jobNum j 0) (s.jobNum j 32) = true → s.trngOk = false →
        (s.runJob j).1 = 4 ∧ (s.runJob j).2.sec.keys = s.sec.keys)
    ∧ (j.op = 4 → onCurve (s.jobNum j 0) (s.jobNum j 32) = true → s.trngOk = true → 0 < j.slot → (s.runJob j).1 = 0
        ∧ (s.runJob j).2.key j.slot
          = some ((sha256 (ecdhX Config.touchmark.toNat (s.jobNum j 0) (s.jobNum j 32) ++ s.mail j.mbox 64 8)).take 16)) := by
  have hstands (d : List Byte) (hd : d.length = 32) : (s.putMail j.mbox d).mail j.mbox 0 32 = d := by
    rw [← hd]
    exact s.mail_putMail _ _ (by rw [hd])
  refine ⟨fun hop hlen => ?_, fun hop hlen => ?_, fun hop hcurve => ?_, fun hop hcurve hno => ?_, fun hop hcurve hok hslot => ?_⟩
  · rw [s.runJob_sha256 j hop hlen]
    exact ⟨rfl, hstands _ (length_sha256 _)⟩
  · rw [s.runJob_hmac j hop hlen]
    exact ⟨rfl, hstands _ (length_hmacSha256 _ _)⟩
  · rw [s.runJob_ecdh j hop, if_pos hcurve]
    exact ⟨rfl, rfl⟩
  · rw [s.runJob_ecdh j hop, hcurve, if_neg (by decide), if_pos hno]
    exact ⟨rfl, rfl⟩
  · rw [s.runJob_ecdh j hop, hcurve, hok, if_neg (by decide), if_neg (by decide)]
    exact ⟨rfl, s.key_setKey_same _ _ (by omega)⟩

/-- Settles O39. -/
theorem jobsAndEntropy : Obligations.JobsAndEntropy := by
  unfold Obligations.JobsAndEntropy
  intro s src
  refine ⟨fun c hc htake => ?push, fun j r hjobs hroom hlive hm => ?done, fun htake => ?pop, fun hon hmode hphase part => ?read,
    fun hok => ?fail, ⟨s.trngHeal, rfl, s.trngHeal_heals⟩, fun htake => ?retest⟩
  case push =>
    have hexec : exec c s = .next (s.jobCommand src (s.fld SEC_JOBD0_OP)) := by
      obtain ⟨hop, rfl⟩ | ⟨hop, rfl⟩ | ⟨hop, rfl⟩ | ⟨hop, rfl⟩ := hc <;> exact congrArg (fun n => Host.Outcome.next (s.jobCommand src n)) hop.symm
    obtain ⟨hqueued, hrefused⟩ := s.jobCommand_pushes src htake
    exact ⟨fun h => ⟨_, hexec, hqueued h⟩, fun h => ⟨_, hexec, hrefused h⟩⟩
  case done =>
    obtain ⟨hsec, hget, hcount⟩ := s.jobDone_effect j r hjobs hroom hlive hm
    obtain ⟨hsha, hhmac, hoff, hno, hkey⟩ := s.runJob_effect j
    have hmail (n : Nat) (hn : n ≤ 256) : s.jobDone.mail j.mbox 0 n = (s.runJob j).2.mail j.mbox 0 n :=
      State.mail_congr _ _ _ fun w hw => hget _ (by simp only [mailAddr]; omega)
    have hkeys : s.jobDone.sec.keys = (s.runJob j).2.sec.keys := by rw [hsec, State.endJob]
    have hresults : s.jobDone.sec.results = s.sec.results ++ [(j.tag, (s.runJob j).1)] :=
      (congrArg Sec.results hsec).trans (congrArg (· ++ [(j.tag, (s.runJob j).1)]) (s.runJob_keeps j hm).1)
    refine ⟨s.jobDone, (s.runJob j).1, rfl, congrArg Sec.jobs hsec, hresults, hcount, fun hop hlen => ?_, fun hop hlen => ?_,
      fun hop => ⟨fun n hn => ?_, ?_⟩, fun hop hcurve => ?_, fun hop hcurve hbad => ?_, fun hop hcurve hok hslot => ?_⟩
    · rw [hmail 32 (by decide)]
      exact hsha hop hlen
    · rw [hmail 32 (by decide)]
      exact hhmac hop hlen
    · rw [hmail n hn, s.runJob_ecdsa j hop]
    · rw [s.runJob_ecdsa j hop]
      rfl
    · rw [hkeys]
      exact hoff hop hcurve
    · rw [hkeys]
      exact hno hop hcurve hbad
    · rw [State.key_of_keys hkeys]
      exact hkey hop hcurve hok hslot
  case pop => exact ⟨_, congrArg Host.Outcome.next (s.pulse_jobPop src htake), rfl⟩
  case read =>
    obtain ⟨-, hzero⟩ := s.trngRead_effect
    exact ⟨_, s.trngRead.1, congrArg Host.Outcome.next (s.hostRead_trng src part hon ⟨hmode, hphase⟩), rfl, hzero⟩
  case fail =>
    have hexec : exec .trngHealthFail s = .next s.trngFail := congrArg Host.Outcome.next (if_pos hok)
    exact ⟨_, hexec, s.trngFail_ends⟩
  case retest =>
    obtain ⟨hheal, hget⟩ := (s.put SEC_TRNGSTAT (s.get SEC_TRNGSTAT)).trngRetest_heals
    rw [State.fld_put_self] at hheal
    exact ⟨_, congrArg Host.Outcome.next (s.pulse_trngRetest src htake), hheal, fun a ha => (hget a ha).trans (s.get_put_self _ a)⟩

end Sys2Proof.Machine

/-! What SEC's registers and keys are left by: squashes and ended requests, and reads and writes of the banks (R257 to R260, R265, R400). -/

namespace Sys2Proof.Machine

open Sys2Proof.Fields Sys2Proof.Laws

/-! ### Squashes and ended requests leave the registers beside SCH's -/

/-- The registers of the stations beside SCH, and the counts of the events that no squash raises. -/
def besideSch (a : Nat) : Prop :=
  (a < 0x100000 ∧ (a < 0xA0000 ∨ 0xB0000 ≤ a)) ∨ ∃ id, id ≠ 137 ∧ id ≠ 138 ∧ id ≠ 246 ∧ a = (routeCount id).addr

/-- `t` follows from `s` by SCH's work: the registers of the other stations stay. -/
structure State.Schedules (s t : State) : Prop where
  regs : ∀ a, besideSch a → t.get a = s.get a

theorem State.Schedules.refl (s : State) : s.Schedules s := ⟨fun _ _ => rfl⟩

theorem State.Schedules.trans {s t u : State} (h : s.Schedules t) (h' : t.Schedules u) : s.Schedules u :=
  ⟨fun a ha => (h'.regs a ha).trans (h.regs a ha)⟩

theorem State.Schedules.ite {c : Prop} [Decidable c] {s t u : State} (h : s.Schedules t) (h' : t.Schedules u) :
    s.Schedules (if c then t else u) := by
  split
  · exact h
  · exact h.trans h'

theorem State.Schedules.foldl {α : Type} (f : State → α → State) (hf : ∀ (u : State) (x : α), u.Schedules (f u x)) (l : List α) (s : State) :
    s.Schedules (l.foldl f s) := by
  induction l generalizing s with
  | nil => exact .refl s
  | cons x l ih => exact (hf s x).trans (ih _)

theorem State.Schedules.fld {s t : State} (h : s.Schedules t) (f : Fld) (hf : besideSch f.addr) : t.fld f = s.fld f :=
  State.fld_of_get f (h.regs f.addr hf)

theorem State.Schedules.camp {s t : State} (h : s.Schedules t) (k : Fin 4) : t.camp k = s.camp k :=
  h.fld _ (.inl (by simp only [SEC_CAMPSTAT_STATE, SEC_CAMPSTAT]; omega))

theorem State.Schedules.routeCount {s t : State} (h : s.Schedules t) (id : Nat) (hid : id ≠ 137 ∧ id ≠ 138 ∧ id ≠ 246) :
    t.fld (routeCount id) = s.fld (routeCount id) := h.fld _ (.inr ⟨id, hid.1, hid.2.1, hid.2.2, rfl⟩)

theorem State.schedules_of_regs {s t : State} (h : t.regs = s.regs) : s.Schedules t := ⟨fun a _ => State.get_of_regs h a⟩

theorem State.schedules_put (s : State) (a : Nat) (w : Word) (h : 0xA0000 ≤ a) (h' : a < 0xB0000) : s.Schedules (s.put a w) := by
  refine ⟨fun b hb => s.get_put_other a b w fun e => ?_⟩
  obtain ⟨-, hlow | hhigh⟩ | ⟨id, -, -, -, hcount⟩ := hb
  · omega
  · omega
  · simp only [Machine.routeCount] at hcount
    omega

theorem State.schedules_raise (s : State) (id : Nat) (h : id = 137 ∨ id = 138) : s.Schedules (s.raise id) := by
  refine ⟨fun a ha => ?_⟩
  obtain ⟨hlow, -⟩ | ⟨n, h137, h138, h246, rfl⟩ := ha
  · exact s.get_raise_low id 0 a hlow
  · refine ((s.signals_raise id 0).regs _ (besideSignals_routeCount n h246)).trans (s.get_count_other _ _ ?_)
    simp only [Machine.routeCount]
    omega

theorem State.schedules_oncePerBeat (s : State) (last : Option Nat) (id : Nat) (h : id = 137 ∨ id = 138) :
    s.Schedules (s.oncePerBeat last id) := by
  unfold State.oncePerBeat
  split
  · exact .refl s
  · exact s.schedules_raise id h

theorem State.schedules_unstall (s : State) : s.Schedules s.unstall := by
  unfold State.unstall
  split
  · exact s.schedules_put SCH_STAT _ (by decide) (by decide)
  · exact .refl s

theorem State.schedules_ungrant (s : State) (t : Ticket) : s.Schedules (s.ungrant t) := by
  unfold State.ungrant
  split
  · split <;> exact State.schedules_of_regs rfl
  · exact .refl s

theorem State.schedules_unplan (s : State) (r : Request) : s.Schedules (s.unplan r) := by
  unfold State.unplan
  split <;> exact State.schedules_of_regs rfl

theorem State.schedules_squashWith (s : State) (cause : Nat) (whole : Bool) (stays : Ticket → Bool) (scope : Nat → Ticket → Bool) :
    s.Schedules (s.squashWith cause whole stays scope) := by
  have hput (f : Fld) (hf : 0xA0000 ≤ f.addr ∧ f.addr < 0xB0000) (u : State) (v : Word) : u.Schedules (u.put f.addr v) :=
    u.schedules_put _ v hf.1 hf.2
  have hsch (u : State) (c : Sch) : u.Schedules { u with sch := c } := State.schedules_of_regs rfl
  unfold State.squashWith
  dsimp only
  refine State.Schedules.ite (.refl s) ?_
  refine State.Schedules.trans (State.Schedules.ite (State.Schedules.ite ?marks ?gone) ?stale)
    ((State.Schedules.foldl _ (fun u p => ?unplan) _ _).trans (State.schedules_unstall _))
  case marks =>
    refine (hsch s _).trans (State.Schedules.trans (State.Schedules.trans (State.Schedules.foldl _ (fun u p => hsch u _) _ _)
      (State.Schedules.foldl _ (fun u (p : Nat × Ticket) => (hsch u _).trans (State.schedules_ungrant _ p.2)) _ _))
      (State.Schedules.foldl _ (fun u p => hsch u _) _ _))
  case gone =>
    exact ((((((hput SCH_NSQUASH_COUNT (by decide) _ _).trans (hput SCH_NBURNED_COUNT (by decide) _ _)).trans
      (hput SCH_LASTSQ_CAUSE (by decide) _ _)).trans (hput SCH_LASTSQ_COUNT (by decide) _ _)).trans
      (hput SCH_LASTSQBEAT_BEAT (by decide) _ _)).trans (State.schedules_oncePerBeat _ _ 137 (.inl rfl))).trans (hsch _ _)
  case stale =>
    exact ((hput SCH_NSTALE_COUNT (by decide) _ _).trans (State.schedules_oncePerBeat _ _ 138 (.inr rfl))).trans (hsch _ _)
  case unplan =>
    split
    · exact u.schedules_unplan _
    · exact .refl u

theorem State.complete_regs (s : State) (q tag status detail tries : Nat) (ws : List Nat) :
    (s.complete q tag status detail tries ws).regs = s.regs := by
  unfold State.complete
  split <;> rfl

theorem State.endReq_regs (s : State) (r : Request) (status : Nat) (last : Option Nat) : (s.endReq r status last).regs = s.regs := by
  unfold State.endReq
  dsimp only
  split
  · exact State.complete_regs _ _ _ _ _ _ _
  · rfl

/-- The broadcasts of a campaign end. -/
theorem State.schedules_endBroadcasts (s : State) (k cause : Nat) : s.Schedules (s.endBroadcasts k cause) := by
  unfold State.endBroadcasts
  exact (State.Schedules.foldl _ (fun u r => State.schedules_of_regs (u.endReq_regs r _ _)) _ s).trans
    (State.schedules_squashWith _ _ _ _ _)

/-- The broadcasts of a campaign that has ended leave no planned ticket but as stale. -/
theorem State.endBroadcasts_frees (s : State) (k cause : Nat) (r : Request) (hr : r ∈ s.sch.reqs) (hkind : r.kind = .broadcast)
    (htarget : r.target = k) (hopen : r.state = .pending ∨ r.state = .placed) (e : Nat) : ((s.endBroadcasts k cause).ticket e).freeOf r.id := by
  have hmine : r ∈ s.sch.reqs.filter (fun r => r.kind == .broadcast && r.target == k && (r.state == .pending || r.state == .placed)) := by
    obtain hstate | hstate := hopen <;> exact List.mem_filter.mpr ⟨hr, by simp [hkind, htarget, hstate]⟩
  unfold State.endBroadcasts
  refine State.squashWith_frees _ _ _ _ r.id (fun _ t ht => ?_) e
  cases hreq : t.req with
  | none => simp [hreq] at ht
  | some q =>
    rw [hreq] at ht
    have hid : q.1 = r.id := Option.some.inj ht
    exact List.contains_iff_mem.mpr (hid ▸ List.mem_map_of_mem hmine)

/-! ### Reads and writes of the banks leave SEC, the Crucible and PLK (R400, R406) -/

/-- `t` has the state of SEC, of the Crucible and of PLK that `s` has. -/
structure State.Banks (s t : State) : Prop where
  sec : t.sec = s.sec
  cru : t.cru = s.cru
  plk : t.plk = s.plk

theorem State.Banks.refl (s : State) : s.Banks s := ⟨rfl, rfl, rfl⟩

theorem State.Banks.trans {s t u : State} (h : s.Banks t) (h' : t.Banks u) : s.Banks u :=
  ⟨h'.sec.trans h.sec, h'.cru.trans h.cru, h'.plk.trans h.plk⟩

theorem State.banks_raise (s : State) (id data : Nat) : s.Banks (s.raise id data) := ⟨s.raise_sec id data, s.raise_cru id data, s.raise_plk id data⟩

theorem State.banks_raiseLimited (s : State) (key id data : Nat) : s.Banks (s.raiseLimited key id data) := by
  unfold State.raiseLimited
  split
  · exact ⟨by simp [State.noteRaise], by simp [State.noteRaise], by simp [State.noteRaise]⟩
  · exact .refl s

theorem State.banks_readWord (s : State) (o : Nat) (sc : Bool) (w : Nat) : s.Banks (s.readWord o sc w).2 := by
  unfold State.readWord
  split
  · exact .refl s
  · exact State.Banks.trans ⟨by simp, by simp, by simp⟩ (State.banks_raiseLimited _ 233 233 0)
  · exact ⟨by simp [State.countUe], by simp [State.countUe], by simp [State.countUe]⟩

theorem State.banks_readWords (s : State) (o : Nat) (ws : List Nat) : s.Banks (s.readWords o ws).2 := by
  induction ws generalizing s with
  | nil => exact .refl s
  | cons w ws ih => exact (s.banks_readWord o false w).trans (ih _)

theorem State.banks_nonOwner (s : State) (o b off : Nat) (write : Bool) : s.Banks (s.nonOwner o b off write) := by
  have hcapture (x : NownIn) : s.Banks (s.captureNown [x] 1) :=
    ⟨by simp [State.captureNown], by simp [State.captureNown], by simp [State.captureNown]⟩
  have htick (u : State) (t : Tick) (h : s.Banks u) : s.Banks { u with tick := t } := ⟨h.sec, h.cru, h.plk⟩
  unfold State.nonOwner
  refine (htick _ _ ?_).trans (State.banks_raise _ 232 0)
  split
  · exact ⟨by simp, by simp, by simp⟩
  · exact hcapture _

theorem State.banks_writeWord (s : State) (o a : Nat) (bs : List Byte) (w : Nat) : s.Banks (s.writeWord o a bs w) := by
  have hpart (u : State) (lo : Nat) (part : List Byte) : u.Banks ((u.storeBlock lo part).setEcc w 0) := ⟨rfl, rfl, rfl⟩
  have hinject (u : State) : u.Banks (u.inject w) := by
    unfold State.inject
    split <;> exact ⟨rfl, rfl, rfl⟩
  have hread := s.banks_readWord o false w
  unfold State.writeWord
  dsimp only
  split
  · exact (hpart s _ _).trans (hinject _)
  · split
    · exact hread.trans (hpart _ _ _)
    · exact hread

theorem State.banks_bankWrite (s : State) (o a : Nat) (bs : List Byte) : s.Banks (s.bankWrite o a bs).2 := by
  unfold State.bankWrite
  split
  next => exact s.banks_nonOwner _ _ _ _
  next hserved =>
    clear hserved
    generalize wordsOf a bs.length = ws
    induction ws generalizing s with
    | nil => exact .refl s
    | cons w ws ih => exact (s.banks_writeWord o a bs w).trans (ih _)

end Sys2Proof.Machine

/-! Image slots and campaigns: what their pulses and ends leave (R309 to R314). -/

namespace Sys2Proof.Machine

open Sys2Proof.Fields Sys2Proof.Laws

/-! ### Pulses of a register with settings (R5) -/

/-- A write of the settings that a register has leaves its word. -/
theorem mergeWord_same (a : Nat) (old v : Word) (r : RSpec) (hr : regAt a = some r) (h : ∀ f ∈ r.flds, f.ty = .RO ∨ f.ty = .W1P
      ∨ (f.ty = .RW ∧ f.lo + f.len ≤ 32 ∧ getFld v ⟨a, f.lo, f.len⟩ = getFld old ⟨a, f.lo, f.len⟩)) :
    mergeWord a old v = old := by
  simp only [mergeWord, hr]
  generalize r.flds = l at h
  induction l with
  | nil => rfl
  | cons f l ih =>
    obtain ⟨hf, hl⟩ := List.forall_mem_cons.mp h
    have hstep : f.store a old v old = old := by
      obtain hty | hty | ⟨hty, hlen, hsame⟩ := hf
      · simp [FSpec.store, hty]
      · simp [FSpec.store, hty]
      · simp only [FSpec.store, hty, hsame]
        exact putFld_getFld old _ hlen
    rw [List.foldl_cons, hstep]
    exact ih hl

theorem regAt_imgCfg (k : Fin 4) : regAt (SEC_IMGCFG k) = some ⟨"SEC_IMGCFG", 0xC0200, 0x10, 4, 0x0, 1, [⟨31, 1, .W1P, 0, false, .any⟩,
    ⟨30, 1, .W1P, 0, false, .any⟩, ⟨0, 8, .RW, 0, false, .rng 0 183⟩]⟩ := by
  revert k
  decide +kernel

theorem regAt_campCtl (k : Fin 4) : regAt (SEC_CAMPCTL k) = some ⟨"SEC_CAMPCTL", 0xC0308, 0x40, 4, 0x0, 1, [⟨3, 1, .W1P, 0, false, .any⟩,
    ⟨2, 1, .W1P, 0, false, .any⟩, ⟨1, 1, .W1P, 0, false, .any⟩, ⟨0, 1, .W1P, 0, false, .any⟩]⟩ := by
  revert k
  decide +kernel

theorem notKept_sec : ∀ k : Fin 4, keptMask (SEC_IMGCFG k) = 0#32 ∧ keptMask (SEC_CAMPCTL k) = 0#32 ∧ rwMask (SEC_IMGCFG k) = 0xFF#32
    ∧ rwMask (SEC_CAMPCTL k) = 0#32 := by
  decide +kernel

theorem imgCfg_place (k : Fin 4) : SEC_IMGCFG k % 4 = 0 ∧ 0xC0200 ≤ SEC_IMGCFG k ∧ SEC_IMGCFG k < 0xC0240 ∧ (SEC_IMGCFG k - 0xC0200) / 16 = k := by
  simp only [SEC_IMGCFG]
  omega

theorem campCtl_place (k : Fin 4) : SEC_CAMPCTL k % 4 = 0 ∧ 0xC0300 ≤ SEC_CAMPCTL k ∧ SEC_CAMPCTL k < 0xC0400
    ∧ (SEC_CAMPCTL k - 0xC0300) / 0x40 = k := by
  simp only [SEC_CAMPCTL]
  omega

/-- The word that loads or drops an image keeps FIRSTBANK. -/
theorem State.setWord_imgCfg (s : State) (k : Fin 4) :
    getFld (s.setWord (SEC_IMGCFG k) [(SEC_IMGCFG_LOAD k, 1)]) (SEC_IMGCFG_FIRSTBANK k) = s.fld (SEC_IMGCFG_FIRSTBANK k)
    ∧ getFld (s.setWord (SEC_IMGCFG k) [(SEC_IMGCFG_DROP k, 1)]) (SEC_IMGCFG_FIRSTBANK k) = s.fld (SEC_IMGCFG_FIRSTBANK k)
    ∧ getFld (s.setWord (SEC_IMGCFG k) [(SEC_IMGCFG_LOAD k, 1)]) (SEC_IMGCFG_DROP k) = 0
    ∧ getFld (s.setWord (SEC_IMGCFG k) [(SEC_IMGCFG_DROP k, 1)]) (SEC_IMGCFG_LOAD k) = 0 := by
  obtain ⟨-, -, hmask, -⟩ := notKept_sec k
  have hset (f g : Fld) (hf : f.lo + f.len ≤ 32) (hapart : f.lo + f.len ≤ g.lo ∨ g.lo + g.len ≤ f.lo) :
      getFld (s.setWord (SEC_IMGCFG k) [(f, 1)]) g = getFld (s.get (SEC_IMGCFG k) &&& 0xFF#32) g := by
    rw [State.setWord, hmask]
    exact getFld_putFld_other _ f g 1 hf hapart
  have hpart (w : Word) (g : Fld) : getFld (w &&& 0xFF#32) g = (w.extractLsb' g.lo g.len &&& (0xFF#32).extractLsb' g.lo g.len).toNat :=
    congrArg BitVec.toNat BitVec.extractLsb'_and
  have hbank (w : Word) : getFld (w &&& 0xFF#32) (SEC_IMGCFG_FIRSTBANK k) = getFld w (SEC_IMGCFG_FIRSTBANK k) := by
    have hall : (0xFF#32).extractLsb' 0 8 = BitVec.allOnes 8 := by decide
    rw [hpart]
    exact congrArg BitVec.toNat ((congrArg (w.extractLsb' 0 8 &&& ·) hall).trans BitVec.and_allOnes)
  have hpulse (w : Word) (lo : Nat) (hlo : lo = 30 ∨ lo = 31) : getFld (w &&& 0xFF#32) ⟨SEC_IMGCFG k, lo, 1⟩ = 0 := by
    have hnone : (0xFF#32).extractLsb' lo 1 = 0#1 := by obtain rfl | rfl := hlo <;> decide
    rw [hpart]
    simp only [hnone, BitVec.and_zero, BitVec.toNat_ofNat, Nat.zero_mod]
  refine ⟨(hset (SEC_IMGCFG_LOAD k) (SEC_IMGCFG_FIRSTBANK k) ?_ ?_).trans (hbank _),
    (hset (SEC_IMGCFG_DROP k) (SEC_IMGCFG_FIRSTBANK k) ?_ ?_).trans (hbank _),
    (hset (SEC_IMGCFG_LOAD k) (SEC_IMGCFG_DROP k) ?_ ?_).trans (hpulse _ 30 (.inl rfl)),
    (hset (SEC_IMGCFG_DROP k) (SEC_IMGCFG_LOAD k) ?_ ?_).trans (hpulse _ 31 (.inr rfl))⟩
  all_goals simp [SEC_IMGCFG_LOAD, SEC_IMGCFG_DROP, SEC_IMGCFG_FIRSTBANK]

/-- A pulse of an image slot's register, whose settings stay. -/
theorem State.pulse_imgCfg (s : State) (src : BusSrc) (k : Fin 4) (f : Fld) (hf : f = SEC_IMGCFG_LOAD k ∨ f = SEC_IMGCFG_DROP k)
    (h : s.takes (SEC_IMGCFG k) (s.setWord (SEC_IMGCFG k) [(f, 1)])) :
    s.pulse src f = (s.put (SEC_IMGCFG k) (s.get (SEC_IMGCFG k))).wroteSec src (SEC_IMGCFG k) (s.setWord (SEC_IMGCFG k) [(f, 1)]) := by
  obtain ⟨h4, hlo, hhi, -⟩ := imgCfg_place k
  obtain ⟨hload, hdrop, -, -⟩ := s.setWord_imgCfg k
  have haddr : f.addr = SEC_IMGCFG k := by obtain rfl | rfl := hf <;> rfl
  have hbank : getFld (s.setWord (SEC_IMGCFG k) [(f, 1)]) (SEC_IMGCFG_FIRSTBANK k) = s.fld (SEC_IMGCFG_FIRSTBANK k) := by
    obtain rfl | rfl := hf
    · exact hload
    · exact hdrop
  have hmerge : mergeWord (SEC_IMGCFG k) (s.get (SEC_IMGCFG k)) (s.setWord (SEC_IMGCFG k) [(f, 1)]) = s.get (SEC_IMGCFG k) := by
    refine mergeWord_same _ _ _ _ (regAt_imgCfg k) (List.forall_mem_cons.mpr ⟨.inr (.inl rfl), List.forall_mem_cons.mpr ⟨.inr (.inl rfl),
      List.forall_mem_cons.mpr ⟨.inr (.inr ⟨rfl, by decide, hbank⟩), fun f hf => absurd hf List.not_mem_nil⟩⟩⟩)
  rw [← s.storeWord_keeps _ _ (by omega) (by omega) hmerge]
  refine (congrArg (fun a => s.write src a (s.setWord a [(f, 1)])) haddr).trans ?_
  exact s.write_sec src _ _ h4 (by omega) (by omega) (notKept_sec k).1 h

theorem State.wroteSec_imgCfg (s : State) (src : BusSrc) (k : Fin 4) (v : Word) :
    s.wroteSec src (SEC_IMGCFG k) v = if getFld v (SEC_IMGCFG_LOAD k) = 1 then
        (if getFld v (SEC_IMGCFG_DROP k) = 1 then s.imageDrop k else s).imageLoad k
      else if getFld v (SEC_IMGCFG_DROP k) = 1 then s.imageDrop k else s := by
  obtain ⟨-, hlo, hhi, hindex⟩ := imgCfg_place k
  unfold State.wroteSec
  rw [if_neg (by simp only [SEC_TRNGSTAT]; omega), if_neg (by simp only [SEC_KEYCMD]; omega), if_neg (by simp only [SEC_JOINCMD]; omega),
    if_neg (by simp only [SEC_JOBCTL]; omega), if_pos ⟨hlo, hhi⟩]
  simp only [hindex]
  exact if_pos trivial

theorem State.wroteSec_campCtl (s : State) (src : BusSrc) (k : Fin 4) (v : Word) :
    s.wroteSec src (SEC_CAMPCTL k) v = s.campCtl k (v.toNat % 16) := by
  obtain ⟨-, hlo, hhi, hindex⟩ := campCtl_place k
  unfold State.wroteSec
  rw [if_neg (by simp only [SEC_TRNGSTAT]; omega), if_neg (by simp only [SEC_KEYCMD]; omega), if_neg (by simp only [SEC_JOINCMD]; omega),
    if_neg (by simp only [SEC_JOBCTL]; omega), if_neg (by omega), if_pos ⟨hlo, hhi⟩]
  simp only [hindex]
  exact if_pos trivial

/-- A state in which a register holds the word that it holds. -/
def State.rewritten (s : State) (a : Nat) : State := s.put a (s.get a)

theorem State.fld_rewritten (s : State) (a : Nat) (f : Fld) : (s.rewritten a).fld f = s.fld f := s.fld_put_self a f

theorem State.pulse_imageLoad (s : State) (src : BusSrc) (k : Fin 4) (h : s.takes (SEC_IMGCFG k) (s.setWord (SEC_IMGCFG k) [(SEC_IMGCFG_LOAD k, 1)])) :
    s.pulse src (SEC_IMGCFG_LOAD k) = (s.rewritten (SEC_IMGCFG k)).imageLoad k := by
  obtain ⟨-, -, hdrop, -⟩ := s.setWord_imgCfg k
  have hload : getFld (s.setWord (SEC_IMGCFG k) [(SEC_IMGCFG_LOAD k, 1)]) (SEC_IMGCFG_LOAD k) = 1 :=
    s.getFld_setWord (SEC_IMGCFG_LOAD k) 1 (by simp [SEC_IMGCFG_LOAD])
  rw [s.pulse_imgCfg src k _ (.inl rfl) h, State.wroteSec_imgCfg, if_pos hload, if_neg (by rw [hdrop]; decide)]
  rfl

theorem State.pulse_imageDrop (s : State) (src : BusSrc) (k : Fin 4) (h : s.takes (SEC_IMGCFG k) (s.setWord (SEC_IMGCFG k) [(SEC_IMGCFG_DROP k, 1)])) :
    s.pulse src (SEC_IMGCFG_DROP k) = (s.rewritten (SEC_IMGCFG k)).imageDrop k := by
  obtain ⟨-, -, -, hload⟩ := s.setWord_imgCfg k
  have hdrop : getFld (s.setWord (SEC_IMGCFG k) [(SEC_IMGCFG_DROP k, 1)]) (SEC_IMGCFG_DROP k) = 1 :=
    s.getFld_setWord (SEC_IMGCFG_DROP k) 1 (by simp [SEC_IMGCFG_DROP])
  rw [s.pulse_imgCfg src k _ (.inr rfl) h, State.wroteSec_imgCfg, if_neg (by rw [hload]; decide), if_pos hdrop]
  rfl

/-- A pulse of a campaign's control register, by the place of its bit. -/
theorem State.pulse_campCtl (s : State) (src : BusSrc) (k : Fin 4) (n : Nat) (hn : n < 4)
    (h : s.takes (SEC_CAMPCTL k) (s.setWord (SEC_CAMPCTL k) [(⟨SEC_CAMPCTL k, n, 1⟩, 1)])) :
    s.pulse src ⟨SEC_CAMPCTL k, n, 1⟩ = (s.rewritten (SEC_CAMPCTL k)).campCtl k (2 ^ n) := by
  obtain ⟨h4, hlo, hhi, -⟩ := campCtl_place k
  obtain ⟨-, hkept, -, hmask⟩ := notKept_sec k
  have hword : (s.setWord (SEC_CAMPCTL k) [(⟨SEC_CAMPCTL k, n, 1⟩, 1)]).toNat % 16 = 2 ^ n := by
    have hput : ∀ m : Fin 4, (putFld 0#32 ⟨SEC_CAMPCTL k, m, 1⟩ 1).toNat % 16 = 2 ^ m.val := by
      simp only [putFld, fldMask]
      decide
    rw [State.setWord, hmask, BitVec.and_zero]
    exact hput ⟨n, hn⟩
  refine (s.pulse_sec src ⟨SEC_CAMPCTL k, n, 1⟩ _ h4 (by simp only; omega) (by simp only; omega) (regAt_campCtl k) (by decide) hkept h).trans ?_
  rw [State.wroteSec_campCtl, hword]
  rfl

/-! ### Image slots (R309, R310) -/

theorem imgStat_place (k : Fin 4) : SEC_IMGSTAT k < 0x100000 ∧ SEC_IMGLEN k < 0x100000 ∧ SEC_IMGVER k < 0x100000
    ∧ SEC_IMGLEN k ≠ SEC_IMGSTAT k ∧ SEC_IMGVER k ≠ SEC_IMGSTAT k ∧ SEC_IMGVER k ≠ SEC_IMGLEN k := by
  simp only [SEC_IMGSTAT, SEC_IMGLEN, SEC_IMGVER]
  omega

/-- An image slot shows a state and a cause. -/
def State.showImage (s : State) (k st cause : Nat) : State := (s.setFld (SEC_IMGSTAT_STATE k) st).setFld (SEC_IMGSTAT_CAUSE k) cause

theorem State.showImage_shows (s : State) (k st cause : Nat) (hst : st < 4) (hc : cause < 16) :
    (s.showImage k st cause).fld (SEC_IMGSTAT_STATE k) = st ∧ (s.showImage k st cause).fld (SEC_IMGSTAT_CAUSE k) = cause
    ∧ ∀ f : Fld, f.addr ≠ SEC_IMGSTAT k → (s.showImage k st cause).fld f = s.fld f := by
  refine ⟨?_, ?_, fun f hf => ?_⟩
  · refine (State.fld_setFld_keeps _ (SEC_IMGSTAT_CAUSE k) _ _ ?_ ?_).trans ((State.fld_setFld_same _ _ _ ?_).trans (Nat.mod_eq_of_lt hst)) <;>
      simp [SEC_IMGSTAT_CAUSE, SEC_IMGSTAT_STATE]
  · exact (State.fld_setFld_same _ (SEC_IMGSTAT_CAUSE k) _ (by simp [SEC_IMGSTAT_CAUSE])).trans (Nat.mod_eq_of_lt hc)
  · exact (State.fld_setFld_other_word _ (SEC_IMGSTAT_CAUSE k) f _ hf).trans (s.fld_setFld_other_word (SEC_IMGSTAT_STATE k) f _ hf)

theorem State.imageReject_ends (s : State) (k : Fin 4) (cause : Nat) (hc : cause < 16) :
    (s.imageReject k cause).fld (SEC_IMGSTAT_STATE k) = 3 ∧ (s.imageReject k cause).fld (SEC_IMGSTAT_CAUSE k) = cause
    ∧ (∀ f : Fld, f.addr < 0x100000 → f.addr ≠ SEC_IMGSTAT k → (s.imageReject k cause).fld f = s.fld f)
    ∧ (s.imageReject k cause).fld (routeCount 174) = min (s.fld (routeCount 174) + 1) 0xFFFFFFFF := by
  obtain ⟨hstat, -⟩ := imgStat_place k
  obtain ⟨hst, hcause, hkeep⟩ := s.showImage_shows k 3 cause (by decide) hc
  have hrun : s.imageReject k cause = (s.showImage k 3 cause).raise 174 := rfl
  rw [hrun]
  refine ⟨(State.fld_raise_low _ _ _ _ hstat).trans hst, (State.fld_raise_low _ _ _ _ hstat).trans hcause,
    fun f hlow hf => (State.fld_raise_low _ _ _ _ hlow).trans (hkeep f hf), ?_⟩
  rw [State.fld_routeCount_raise _ _ _ (by decide), hkeep _ (by simp only [routeCount]; omega)]

/-- The image of a slot is VALID, with its length and version. -/
def State.acceptImage (s : State) (k len ver : Nat) : State :=
  (((s.setFld (SEC_IMGLEN_LEN k) len).setFld (SEC_IMGVER_FWVER k) ver).setFld (SEC_IMGSTAT_STATE k) 2).raise 173

theorem State.acceptImage_ends (s : State) (k : Fin 4) (len ver : Nat) (hlen : len < 2 ^ 32) (hver : ver < 2 ^ 32) :
    (s.acceptImage k len ver).fld (SEC_IMGSTAT_STATE k) = 2
    ∧ (s.acceptImage k len ver).fld (SEC_IMGSTAT_CAUSE k) = s.fld (SEC_IMGSTAT_CAUSE k)
    ∧ (s.acceptImage k len ver).fld (SEC_IMGLEN_LEN k) = len ∧ (s.acceptImage k len ver).fld (SEC_IMGVER_FWVER k) = ver
    ∧ (s.acceptImage k len ver).fld (routeCount 173) = min (s.fld (routeCount 173) + 1) 0xFFFFFFFF := by
  obtain ⟨hstat, hl, hv, hne, hne', hne''⟩ := imgStat_place k
  have hset : ∀ t : State, ∀ f : Fld, f.addr ≠ SEC_IMGSTAT k → (t.setFld (SEC_IMGSTAT_STATE k) 2).fld f = t.fld f :=
    fun t f hf => t.fld_setFld_other_word (SEC_IMGSTAT_STATE k) f 2 hf
  have hdata (f : Fld) (hf : f.addr ≠ SEC_IMGLEN k ∧ f.addr ≠ SEC_IMGVER k) :
      ((s.setFld (SEC_IMGLEN_LEN k) len).setFld (SEC_IMGVER_FWVER k) ver).fld f = s.fld f :=
    (State.fld_setFld_other_word _ (SEC_IMGVER_FWVER k) f _ hf.2).trans (s.fld_setFld_other_word (SEC_IMGLEN_LEN k) f _ hf.1)
  refine ⟨?_, ?_, ?_, ?_, ?_⟩
  · refine (State.fld_raise_low _ _ _ (SEC_IMGSTAT_STATE k) hstat).trans ?_
    exact State.fld_setFld_same _ (SEC_IMGSTAT_STATE k) 2 (by simp [SEC_IMGSTAT_STATE])
  · refine (State.fld_raise_low _ _ _ (SEC_IMGSTAT_CAUSE k) hstat).trans ((State.fld_setFld_keeps _ _ _ _ ?_ ?_).trans
      (hdata (SEC_IMGSTAT_CAUSE k) ⟨hne.symm, hne'.symm⟩)) <;> simp [SEC_IMGSTAT_STATE, SEC_IMGSTAT_CAUSE]
  · refine (State.fld_raise_low _ _ _ (SEC_IMGLEN_LEN k) hl).trans ((hset _ (SEC_IMGLEN_LEN k) hne).trans
      ((State.fld_setFld_other_word _ (SEC_IMGVER_FWVER k) (SEC_IMGLEN_LEN k) _ hne''.symm).trans ?_))
    exact (State.fld_setFld_same _ _ _ (by simp [SEC_IMGLEN_LEN])).trans (Nat.mod_eq_of_lt hlen)
  · refine (State.fld_raise_low _ _ _ (SEC_IMGVER_FWVER k) hv).trans ((hset _ (SEC_IMGVER_FWVER k) hne').trans ?_)
    exact (State.fld_setFld_same _ _ _ (by simp [SEC_IMGVER_FWVER])).trans (Nat.mod_eq_of_lt hver)
  · rw [State.acceptImage, State.fld_routeCount_raise _ _ _ (by decide), hset _ _ (by simp only [routeCount]; omega),
      hdata _ ⟨by simp only [routeCount, SEC_IMGLEN]; omega, by simp only [routeCount, SEC_IMGVER]; omega⟩]

theorem imgWord_lt (bs : List Byte) (ofs : Nat) : imgWord bs ofs < 2 ^ 32 := by
  have h := ofLeBytes_lt ((bs.drop ofs).take 4)
  exact Nat.lt_of_lt_of_le h (Nat.pow_le_pow_right (by decide) (List.length_take_le 4 _))

theorem imageCause_lt (bs : List Byte) : imageCause bs < 16 := by
  unfold imageCause
  dsimp only
  split
  · decide
  · split
    · decide
    · split
      · decide
      · split <;> decide

/-- The image of a slot as SEC reads it: whether every word can be corrected, and what the read counts. -/
def State.imageSpan (s : State) (k : Nat) : Bool × State := s.readSpan ownSec (s.fld (SEC_IMGCFG_FIRSTBANK k) * bankSize) 0x100000

/-- The octets of a slot's image after that read. -/
def State.imageOctets (s : State) (k : Nat) : List Byte := (s.imageSpan k).2.cells (s.fld (SEC_IMGCFG_FIRSTBANK k) * bankSize) 0x100000

/-- SEC owns the nine banks of a slot. -/
def State.imageOwned (s : State) (k : Nat) : Bool := (List.range 9).all (fun n => s.mayAccess ownSec (s.fld (SEC_IMGCFG_FIRSTBANK k) + n))

/-- The cause that a verification finds. -/
def State.foundCause (s : State) (k : Nat) : Nat := if s.imageOwned k && (s.imageSpan k).1 then imageCause (s.imageOctets k) else 1

/-- What the read of an owned image counts leaves SEC's registers and the events of images. -/
theorem State.stores_imageSpan (s : State) (k : Nat) (h : s.imageOwned k = true) : s.Stores (s.imageSpan k).2 := by
  have hlast : s.fld (SEC_IMGCFG_FIRSTBANK k) + 8 < bankCount := by
    have haccess := List.all_eq_true.mp h 8 (List.mem_range.mpr (by decide))
    simp only [State.mayAccess, Bool.and_eq_true, decide_eq_true_eq] at haccess
    exact haccess.1.1
  refine s.stores_readWords ownSec _ fun w hw => ?_
  obtain ⟨-, hin⟩ := List.mem_filter.mp hw
  simp only [Bool.and_eq_true, decide_eq_true_eq] at hin
  simp only [bankCount, bankSize] at hin hlast ⊢
  omega

/-- A verification ends as its cause says. -/
theorem State.imageVerified_cases (s : State) (k : Nat) (h : s.fld (SEC_IMGSTAT_STATE k) = 1) :
    (s.imageOwned k = false → s.imageVerified k = s.imageReject k 1)
    ∧ (s.imageOwned k = true → s.foundCause k ≠ 0 → s.imageVerified k = (s.imageSpan k).2.imageReject k (s.foundCause k))
    ∧ (s.imageOwned k = true → s.foundCause k = 0 →
        s.imageVerified k = (s.imageSpan k).2.acceptImage k (imgWord (s.imageOctets k) 4) (imgWord (s.imageOctets k) 8)) := by
  have hcause (howned : s.imageOwned k = true) : s.foundCause k = if (s.imageSpan k).1 then imageCause (s.imageOctets k) else 1 := by
    rw [State.foundCause, howned, Bool.true_and]
  have hrun : s.imageVerified k = if (!s.imageOwned k) = true then s.imageReject k 1
      else if (if (s.imageSpan k).1 then imageCause (s.imageOctets k) else 1) ≠ 0 then
        (s.imageSpan k).2.imageReject k (if (s.imageSpan k).1 then imageCause (s.imageOctets k) else 1)
      else (s.imageSpan k).2.acceptImage k (imgWord (s.imageOctets k) 4) (imgWord (s.imageOctets k) 8) :=
    if_neg (not_not_intro h)
  rw [hrun]
  refine ⟨fun hno => if_pos (by rw [hno]; rfl), fun howned hbad => ?_, fun howned hgood => ?_⟩
  · rw [hcause howned] at hbad ⊢
    rw [if_neg (by rw [howned]; decide), if_pos hbad]
  · rw [hcause howned] at hgood
    rw [if_neg (by rw [howned]; decide), if_neg (not_not_intro hgood)]

theorem State.foundCause_lt (s : State) (k : Nat) : s.foundCause k < 16 := by
  unfold State.foundCause
  split
  · exact imageCause_lt _
  · decide

/-- What the end of a verification leaves. -/
theorem State.imageVerified_ends (s : State) (k : Fin 4) (h : s.fld (SEC_IMGSTAT_STATE k) = 1) :
    (s.foundCause k ≠ 0 → (s.imageVerified k).fld (SEC_IMGSTAT_STATE k) = 3
      ∧ (s.imageVerified k).fld (SEC_IMGSTAT_CAUSE k) = s.foundCause k
      ∧ (s.imageVerified k).fld (SEC_IMGLEN_LEN k) = s.fld (SEC_IMGLEN_LEN k)
      ∧ (s.imageVerified k).fld (SEC_IMGVER_FWVER k) = s.fld (SEC_IMGVER_FWVER k)
      ∧ (s.imageVerified k).fld (routeCount 174) = min (s.fld (routeCount 174) + 1) 0xFFFFFFFF)
    ∧ (s.foundCause k = 0 → (s.imageVerified k).fld (SEC_IMGSTAT_STATE k) = 2
      ∧ (s.imageVerified k).fld (SEC_IMGSTAT_CAUSE k) = s.fld (SEC_IMGSTAT_CAUSE k)
      ∧ (s.imageVerified k).fld (SEC_IMGLEN_LEN k) = imgWord (s.imageOctets k) 4
      ∧ (s.imageVerified k).fld (SEC_IMGVER_FWVER k) = imgWord (s.imageOctets k) 8
      ∧ (s.imageVerified k).fld (routeCount 173) = min (s.fld (routeCount 173) + 1) 0xFFFFFFFF) := by
  obtain ⟨hstat, hlen, hver, hne, hne', -⟩ := imgStat_place k
  obtain ⟨hforeign, hrejected, haccepted⟩ := s.imageVerified_cases k h
  have hplace : SEC_IMGSTAT k < 0xF0000 ∧ SEC_IMGLEN k < 0xF0000 ∧ SEC_IMGVER k < 0xF0000 := by
    simp only [SEC_IMGSTAT, SEC_IMGLEN, SEC_IMGVER]
    omega
  have hreject (u : State) (hu : s.Stores u) (hrun : s.imageVerified k = u.imageReject k (s.foundCause k)) :
      (s.imageVerified k).fld (SEC_IMGSTAT_STATE k) = 3 ∧ (s.imageVerified k).fld (SEC_IMGSTAT_CAUSE k) = s.foundCause k
      ∧ (s.imageVerified k).fld (SEC_IMGLEN_LEN k) = s.fld (SEC_IMGLEN_LEN k)
      ∧ (s.imageVerified k).fld (SEC_IMGVER_FWVER k) = s.fld (SEC_IMGVER_FWVER k)
      ∧ (s.imageVerified k).fld (routeCount 174) = min (s.fld (routeCount 174) + 1) 0xFFFFFFFF := by
    obtain ⟨hst, hcause, hkeep, hcount⟩ := u.imageReject_ends k _ (s.foundCause_lt k)
    rw [hrun, hcount, hu.fld (routeCount 174) (.inr ⟨174, by decide, rfl⟩)]
    exact ⟨hst, hcause, (hkeep (SEC_IMGLEN_LEN k) hlen hne).trans (hu.fld _ (.inl hplace.2.1)),
      (hkeep (SEC_IMGVER_FWVER k) hver hne').trans (hu.fld _ (.inl hplace.2.2)), rfl⟩
  cases howned : s.imageOwned k with
  | false =>
    have hcause : s.foundCause k = 1 := by rw [State.foundCause, howned]; rfl
    exact ⟨fun _ => hreject s (.refl s) (by rw [hcause]; exact hforeign howned), fun hzero => absurd (hcause.symm.trans hzero) (by decide)⟩
  | true =>
    have hspan := s.stores_imageSpan k howned
    refine ⟨fun hbad => hreject _ hspan (hrejected howned hbad), fun hgood => ?_⟩
    obtain ⟨hst, hcause, hl, hv, hcount⟩ := (s.imageSpan k).2.acceptImage_ends k _ _ (imgWord_lt (s.imageOctets k) 4)
      (imgWord_lt (s.imageOctets k) 8)
    rw [haccepted howned hgood, hcount, hspan.fld (routeCount 173) (.inr ⟨173, by decide, rfl⟩)]
    exact ⟨hst, hcause.trans (hspan.fld _ (.inl hplace.1)), hl, hv, rfl⟩

theorem State.imageDrop_empties (s : State) (k : Fin 4) : (s.imageDrop k).fld (SEC_IMGSTAT_STATE k) = 0
    ∧ (s.imageDrop k).fld (SEC_IMGSTAT_CAUSE k) = 0 ∧ (s.imageDrop k).fld (SEC_IMGLEN_LEN k) = 0
    ∧ (s.imageDrop k).fld (SEC_IMGVER_FWVER k) = 0 := by
  obtain ⟨-, -, -, hne, hne', hne''⟩ := imgStat_place k
  obtain ⟨hst, hcause, -⟩ := s.showImage_shows k 0 0 (by decide) (by decide)
  have hrun : s.imageDrop k = ((s.showImage k 0 0).setFld (SEC_IMGLEN_LEN k) 0).setFld (SEC_IMGVER_FWVER k) 0 := rfl
  have hdata (f : Fld) (hl : f.addr ≠ SEC_IMGLEN k) (hv : f.addr ≠ SEC_IMGVER k) : (s.imageDrop k).fld f = (s.showImage k 0 0).fld f := by
    rw [hrun]
    exact (State.fld_setFld_other_word _ (SEC_IMGVER_FWVER k) f _ hv).trans (State.fld_setFld_other_word _ (SEC_IMGLEN_LEN k) f _ hl)
  refine ⟨(hdata _ hne.symm hne'.symm).trans hst, (hdata _ hne.symm hne'.symm).trans hcause, ?_, ?_⟩
  · rw [hrun]
    exact (State.fld_setFld_other_word _ (SEC_IMGVER_FWVER k) (SEC_IMGLEN_LEN k) _ hne''.symm).trans
      (State.fld_setFld_same _ _ _ (by simp [SEC_IMGLEN_LEN]))
  · rw [hrun]
    exact State.fld_setFld_same _ _ _ (by simp [SEC_IMGVER_FWVER])

theorem State.imageUsed_rewritten (s : State) (a k : Nat) : (s.rewritten a).imageUsed k = s.imageUsed k := by
  simp only [State.imageUsed, State.fld_rewritten]

theorem State.imageLoad_begins (s : State) (k : Nat) :
    (s.imageUsed k = false → s.imageLoad k = s.showImage k 1 0) ∧ (s.imageUsed k = true → s.imageLoad k = s.imageReject k 6) :=
  ⟨fun h => if_neg (by rw [h]; decide), fun h => if_pos h⟩

end Sys2Proof.Machine

/-! Campaigns: how their state moves, what PREPARE sets up, and what PAUSE and END end (R311 to R314). -/

namespace Sys2Proof.Machine

open Sys2Proof.Fields Sys2Proof.Laws

/-! ### The state of a campaign (R313) -/

theorem State.setCamp_moves (s : State) (k : Fin 4) (st : Nat) (hst : st < 8) : (s.setCamp k st).camp k = st
    ∧ (∀ f : Fld, f.addr < 0x100000 → f.addr ≠ SEC_CAMPSTAT k → (s.setCamp k st).fld f = s.fld f)
    ∧ (s.setCamp k st).fld (SEC_CAMPSTAT_CAUSE k) = s.fld (SEC_CAMPSTAT_CAUSE k)
    ∧ (s.setCamp k st).fld (routeCount 176) = min (s.fld (routeCount 176) + 1) 0xFFFFFFFF
    ∧ (s.setCamp k st).sec = s.sec ∧ (s.setCamp k st).sch = s.sch := by
  have hplace := campStat_place k
  refine ⟨?_, fun f hlow hf => ?_, ?_, ?_, by simp [State.setCamp], by simp [State.setCamp]⟩
  · rw [State.camp, State.setCamp, State.fld_raise_low _ _ _ _ hplace]
    exact (State.fld_setFld_same _ _ _ (by simp [SEC_CAMPSTAT_STATE])).trans (Nat.mod_eq_of_lt hst)
  · rw [State.setCamp, State.fld_raise_low _ _ _ _ hlow]
    exact s.fld_setFld_other_word (SEC_CAMPSTAT_STATE k) f st hf
  · rw [State.setCamp, State.fld_raise_low _ _ _ _ hplace]
    exact State.fld_setFld_keeps _ _ _ _ (by simp [SEC_CAMPSTAT_STATE]) (by simp [SEC_CAMPSTAT_STATE, SEC_CAMPSTAT_CAUSE])
  · rw [State.setCamp, State.fld_routeCount_raise _ _ _ (by decide)]
    refine congrArg (fun n => min (n + 1) 0xFFFFFFFF) (s.fld_setFld_other_word (SEC_CAMPSTAT_STATE k) (routeCount 176) st ?_)
    simp only [routeCount, SEC_CAMPSTAT_STATE, SEC_CAMPSTAT]
    omega

theorem State.campEnd_ends (s : State) (k : Fin 4) (h : s.camp k ≠ stIdle) :
    (s.campEnd k).camp k = stIdle ∧ (s.campEnd k).key (4 + k) = none
    ∧ (s.campEnd k).fld (routeCount 176) = min (s.fld (routeCount 176) + 1) 0xFFFFFFFF := by
  obtain ⟨hcamp, -, -, hcount, hsec, -⟩ := ((s.endBroadcasts k cCancel).eraseKey (4 + k)).setCamp_moves k stIdle (by decide)
  rw [State.campEnd, if_neg h, hcamp, hcount, State.key_of_sec hsec, State.key_eraseKey_same _ _ (by omega), State.fld_eraseKey,
    (s.schedules_endBroadcasts k cCancel).routeCount 176 (by decide)]
  exact ⟨rfl, rfl, rfl⟩

theorem State.campPause_pauses (s : State) (k : Fin 4) : (s.campPause k).camp k = campPaused
    ∧ (s.campPause k).fld (routeCount 176) = min (s.fld (routeCount 176) + 1) 0xFFFFFFFF
    ∧ ∀ r ∈ s.sch.reqs, r.kind = .broadcast → r.target = k.val → (r.state = .pending ∨ r.state = .placed) →
      ∀ e, ((s.campPause k).ticket e).freeOf r.id := by
  obtain ⟨hcamp, -, -, hcount, -, hsch⟩ := s.setCamp_moves k campPaused (by decide)
  have hends := (s.setCamp k campPaused).schedules_endBroadcasts k cCancel
  refine ⟨(hends.camp k).trans hcamp, (hends.routeCount 176 (by decide)).trans hcount, fun r hr hkind htarget hopen e => ?_⟩
  exact (s.setCamp k campPaused).endBroadcasts_frees k cCancel r (hsch ▸ hr) hkind htarget hopen e

theorem State.campPrepared_ready (s : State) (k : Fin 4) (hcamp : s.camp k = campPreparing)
    (hqueue : ∀ q ∈ s.cru.queue, q.lease.map (·.1) ≠ some (LeaseKey.camp k)) :
    (s.campPrepared k).camp k = campReady ∧ (s.campPrepared k).fld (routeCount 175) = min (s.fld (routeCount 175) + 1) 0xFFFFFFFF
    ∧ (s.campPrepared k).fld (routeCount 176) = min (s.fld (routeCount 176) + 1) 0xFFFFFFFF := by
  obtain ⟨hst, -, -, hcount, -⟩ := s.setCamp_moves k campReady (by decide)
  have hrun : s.campPrepared k = (s.setCamp k campReady).raise 175 := by
    refine if_neg (not_or.mpr ⟨not_not_intro hcamp, ?_⟩)
    simp only [List.any_eq_true, beq_iff_eq, not_exists, not_and]
    exact hqueue
  have hother : (s.setCamp k campReady).fld (routeCount 175) = s.fld (routeCount 175) := by
    rw [State.setCamp, State.fld_routeCount_raise_other _ _ _ _ (by decide) (by decide)]
    refine s.fld_setFld_other_word (SEC_CAMPSTAT_STATE k) (routeCount 175) campReady ?_
    simp only [routeCount, SEC_CAMPSTAT_STATE, SEC_CAMPSTAT]
    omega
  rw [hrun]
  refine ⟨(State.fld_raise_low _ _ _ _ (campStat_place k)).trans hst, ?_, ?_⟩
  · rw [State.fld_routeCount_raise _ _ _ (by decide), hother]
  · rw [State.fld_routeCount_raise_other _ _ _ _ (by decide) (by decide), hcount]

/-! ### PREPARE (R311) -/

/-- Free octets come one for each that is asked, and change nothing but the free values. -/
theorem State.freshBytes_draws (s : State) (n : Nat) : (s.freshBytes n).1.length = n ∧ ∃ m, (s.freshBytes n).2 = { s with free := m } := by
  induction n generalizing s with
  | zero => exact ⟨rfl, s.free, rfl⟩
  | succ n ih =>
    obtain ⟨hlen, m, hstate⟩ := ih s.fresh.2
    exact ⟨congrArg (· + 1) hlen, m, hstate⟩

/-- A campaign draws its identity and its key. -/
def State.drawIdentity (s : State) (k : Nat) : State :=
  let (lo, s) := s.fresh
  let (hi, s) := s.fresh
  let (key, s) := s.freshBytes 16
  ((s.setFld (SEC_CAMPIDLO_ID k) lo).setFld (SEC_CAMPIDHI_ID k) hi).setKey (4 + k) key

theorem State.drawIdentity_keys (s : State) (k : Nat) : ∃ key, key.length = 16 ∧ (s.drawIdentity k).key (4 + k) = some key
    ∧ ∀ f : Fld, f.addr ≠ SEC_CAMPIDLO k → f.addr ≠ SEC_CAMPIDHI k → (s.drawIdentity k).fld f = s.fld f := by
  obtain ⟨hlen, m, hstate⟩ := s.fresh.2.fresh.2.freshBytes_draws 16
  refine ⟨_, hlen, State.key_setKey_same _ _ _ (by omega), fun f hlo hhi => ?_⟩
  have hregs (u : State) (x : List Byte) : (u.setKey (4 + k) x).fld f = u.fld f := rfl
  have hdrawn : (s.fresh.2.fresh.2.freshBytes 16).2.fld f = s.fld f := by rw [hstate]; rfl
  refine (hregs _ _).trans ((State.fld_setFld_other_word _ (SEC_CAMPIDHI_ID k) f _ hhi).trans ?_)
  exact (State.fld_setFld_other_word _ (SEC_CAMPIDLO_ID k) f _ hlo).trans hdrawn

/-- What the queues and the leases hold of a counter is forgotten. -/
def State.forgetCounter (s : State) (key : LeaseKey) : State :=
  State.setLeaseBase { s with
    cru := { s.cru with
      queue := s.cru.queue.filter (fun (q : QIngot) => (q.lease.map (fun (l : LeaseKey × Nat) => l.1)) != some key)
      waiting := s.cru.waiting.filter (fun (p : LeaseKey × Nat) => p.1 != key)
      written := s.cru.written.filter (fun (p : LeaseKey × Nat) => p.1 != key) }
    sch := { s.sch with exhausted := s.sch.exhausted.erase key.code } } key 0

/-- The counter of a campaign is at 0, and no update of it waits. -/
theorem State.resetCampCounter_resets (s : State) (k : Nat) :
    (s.resetCampCounter k).fld (SEC_CAMPSTAT_NEXTESI k) = 0 ∧ (∀ p ∈ (s.resetCampCounter k).cru.waiting, p.1 ≠ .camp k)
    ∧ (s.resetCampCounter k).sec = s.sec
    ∧ ∀ f : Fld, (f.addr ≠ SEC_CAMPSTAT k ∨ f.lo + f.len ≤ 3 ∨ (f.lo = 4 ∧ f.len = 4)) → (s.resetCampCounter k).fld f = s.fld f := by
  obtain ⟨u, hregs, hsec, hwaiting, hrun⟩ : ∃ u : State, u.regs = s.regs ∧ u.sec = s.sec
      ∧ u.cru.waiting = s.cru.waiting.filter (fun (p : LeaseKey × Nat) => p.1 != .camp k)
      ∧ s.resetCampCounter k = ((u.setFld (SEC_CAMPSTAT_NEXTESI k) 0).setFld (SEC_CAMPSTAT_EXHAUSTED k) 0).queueLease (.camp k) 0 :=
    ⟨s.forgetCounter (.camp k), rfl, rfl, rfl, rfl⟩
  have hqueue (t : State) (f : Fld) : (t.queueLease (.camp k) 0).fld f = t.fld f := rfl
  have hesi : (SEC_CAMPSTAT_NEXTESI k).lo + (SEC_CAMPSTAT_NEXTESI k).len ≤ 32 := by simp [SEC_CAMPSTAT_NEXTESI]
  have hexh : (SEC_CAMPSTAT_EXHAUSTED k).lo + (SEC_CAMPSTAT_EXHAUSTED k).len ≤ 32 := by simp [SEC_CAMPSTAT_EXHAUSTED]
  rw [hrun]
  refine ⟨?_, fun p hp => ?_, hsec, fun f hf => ?_⟩
  · refine (hqueue _ _).trans ((State.fld_setFld_keeps _ _ _ _ hexh ?_).trans (State.fld_setFld_same _ _ _ hesi))
    simp [SEC_CAMPSTAT_EXHAUSTED, SEC_CAMPSTAT_NEXTESI]
  · have hmem : p ∈ u.cru.waiting := hp
    rw [hwaiting] at hmem
    simpa using (List.mem_filter.mp hmem).2
  · refine (hqueue _ _).trans ((State.fld_setFld_keeps _ _ _ _ hexh ?_).trans ((State.fld_setFld_keeps _ _ _ _ hesi ?_).trans
      (State.fld_of_get f (State.get_of_regs hregs _))))
    · simp only [SEC_CAMPSTAT_EXHAUSTED]
      omega
    · simp only [SEC_CAMPSTAT_NEXTESI]
      omega

/-- The symbols reach the banks alone. -/
theorem State.putSymbols_stores (s : State) (i : Nat) : s.Stores (s.putSymbols i) ∧ s.Banks (s.putSymbols i) := by
  unfold State.putSymbols
  generalize List.range 5 = l
  induction l generalizing s with
  | nil => exact ⟨.refl s, .refl s⟩
  | cons n l ih =>
    have hstep (u : State) (hu : s.Stores u ∧ s.Banks u) : s.Stores (l.foldl _ u) ∧ s.Banks (l.foldl _ u) :=
      ⟨hu.1.trans (ih u).1, hu.2.trans (ih u).2⟩
    rw [List.foldl_cons]
    refine hstep _ ?_
    obtain ⟨-, m, hdrawn⟩ := s.freshBytes_draws bankSize
    generalize s.freshBytes bankSize = drawn at hdrawn ⊢
    obtain ⟨v, u⟩ := drawn
    have hu : s.Stores u ∧ s.Banks u := by
      obtain rfl : u = { s with free := m } := hdrawn
      exact ⟨⟨fun _ _ => rfl, rfl, rfl⟩, ⟨rfl, rfl, rfl⟩⟩
    dsimp only
    split
    · exact ⟨hu.1.trans (State.stores_bankWrite _ _ _ _), hu.2.trans (State.banks_bankWrite _ _ _ _)⟩
    · exact ⟨.refl s, .refl s⟩

/-- The image slot of a campaign, and K, the number of its symbols. -/
def State.campImage (s : State) (k : Nat) : Nat := s.fld (SEC_CAMPCFG_IMG k)
def State.symbolCount (s : State) (k : Nat) : Nat := (s.fld (SEC_IMGLEN_LEN (s.campImage k)) + s.symbolSize k - 1) / s.symbolSize k

/-- A campaign is PREPARING with no cause. -/
def State.beginPrepare (s : State) (k : Nat) : State := (s.setFld (SEC_CAMPSTAT_CAUSE k) 0).setCamp k campPreparing

theorem State.beginPrepare_begins (s : State) (k : Fin 4) : (s.beginPrepare k).camp k = campPreparing
    ∧ (s.beginPrepare k).fld (SEC_CAMPSTAT_CAUSE k) = 0 ∧ (s.beginPrepare k).trngOk = s.trngOk
    ∧ (s.beginPrepare k).fld (routeCount 176) = min (s.fld (routeCount 176) + 1) 0xFFFFFFFF := by
  obtain ⟨hcamp, hkeep, hcause, hcount, -⟩ := (s.setFld (SEC_CAMPSTAT_CAUSE k) 0).setCamp_moves k campPreparing (by decide)
  have hne (f : Fld) (hf : f.addr ≠ SEC_CAMPSTAT k) : (s.setFld (SEC_CAMPSTAT_CAUSE k) 0).fld f = s.fld f :=
    s.fld_setFld_other_word (SEC_CAMPSTAT_CAUSE k) f 0 hf
  refine ⟨hcamp, hcause.trans (s.fld_setFld_same (SEC_CAMPSTAT_CAUSE k) 0 (by simp [SEC_CAMPSTAT_CAUSE])), ?_, ?_⟩
  · have hother : SEC_TRNGSTAT_HEALTHY.addr ≠ SEC_CAMPSTAT k := by
      simp only [SEC_TRNGSTAT_HEALTHY, SEC_TRNGSTAT, SEC_CAMPSTAT]
      omega
    exact congrArg (· != 0) ((hkeep _ (by decide) hother).trans (hne _ hother))
  · rw [State.beginPrepare, hcount, hne _ (by simp only [routeCount, SEC_CAMPSTAT]; omega)]

theorem State.campPrepare_runs (s : State) (k : Fin 4) (himg : s.fld (SEC_IMGSTAT_STATE (s.campImage k)) = 2)
    (hn : s.symbolCount k ≤ 56403) (hok : s.trngOk = true) :
    s.campPrepare k = ((((s.beginPrepare k).drawIdentity k).resetCampCounter k).setFld (SEC_CAMPK_K k) (s.symbolCount k)).putSymbols
      (s.campImage k) := by
  obtain ⟨-, -, htrng, -⟩ := s.beginPrepare_begins k
  have hgo : (!(s.beginPrepare k).trngOk) = false := by rw [htrng, hok]; rfl
  exact (if_neg (not_not_intro himg)).trans ((if_neg (Nat.not_lt.mpr hn)).trans (if_neg (by rw [← State.beginPrepare, hgo]; decide)))

theorem campWords_place (k : Fin 4) : SEC_CAMPSTAT k < 0xF0000 ∧ SEC_CAMPK k < 0xF0000 ∧ SEC_CAMPSTAT k ≠ SEC_CAMPK k
    ∧ SEC_CAMPSTAT k ≠ SEC_CAMPIDLO k ∧ SEC_CAMPSTAT k ≠ SEC_CAMPIDHI k := by
  simp only [SEC_CAMPSTAT, SEC_CAMPK, SEC_CAMPIDLO, SEC_CAMPIDHI]
  omega

/-- A campaign that is prepared. -/
theorem State.campPrepare_prepares (s : State) (k : Fin 4) (himg : s.fld (SEC_IMGSTAT_STATE (s.campImage k)) = 2)
    (hn : s.symbolCount k ≤ 56403) (hok : s.trngOk = true) : ∃ key, (s.campPrepare k).camp k = campPreparing
      ∧ (s.campPrepare k).fld (SEC_CAMPSTAT_CAUSE k) = 0 ∧ (s.campPrepare k).fld (SEC_CAMPK_K k) = s.symbolCount k
      ∧ (s.campPrepare k).key (4 + k) = some key ∧ key.length = 16 ∧ (s.campPrepare k).nextValue (.camp k) = 0
      ∧ (s.campPrepare k).fld (routeCount 176) = min (s.fld (routeCount 176) + 1) 0xFFFFFFFF := by
  obtain ⟨hstat, hk, hkne, hlo, hhi⟩ := campWords_place k
  obtain ⟨hcamp, hcause, -, hcount⟩ := s.beginPrepare_begins k
  obtain ⟨key, hlen, hkey, hdrawn⟩ := (s.beginPrepare k).drawIdentity_keys k
  obtain ⟨hesi, hwaiting, hsec, hreset⟩ := ((s.beginPrepare k).drawIdentity k).resetCampCounter_resets k
  rw [s.campPrepare_runs k himg hn hok]
  generalize ((s.beginPrepare k).drawIdentity k).resetCampCounter k = u at hesi hwaiting hsec hreset ⊢
  obtain ⟨hstores, hbsec, hbcru, -⟩ := (u.setFld (SEC_CAMPK_K k) (s.symbolCount k)).putSymbols_stores (s.campImage k)
  generalize (u.setFld (SEC_CAMPK_K k) (s.symbolCount k)).putSymbols (s.campImage k) = t at hstores hbsec hbcru ⊢
  have hstay (f : Fld) (hf : besideStores f.addr) (hne : f.addr ≠ SEC_CAMPK k) : t.fld f = u.fld f :=
    (hstores.fld f hf).trans (u.fld_setFld_other_word (SEC_CAMPK_K k) f _ hne)
  have hcount176 : besideStores (routeCount 176).addr := .inr ⟨176, by decide, rfl⟩
  refine ⟨key, ?_, ?_, ?_, ?_, hlen, ?_, ?_⟩
  · exact (hstay _ (.inl hstat) hkne).trans ((hreset (SEC_CAMPSTAT_STATE k) (.inr (.inl (by simp [SEC_CAMPSTAT_STATE])))).trans
      ((hdrawn _ hlo hhi).trans hcamp))
  · exact (hstay _ (.inl hstat) hkne).trans ((hreset (SEC_CAMPSTAT_CAUSE k) (.inr (.inr ⟨rfl, rfl⟩))).trans ((hdrawn _ hlo hhi).trans hcause))
  · refine (hstores.fld (SEC_CAMPK_K k) (.inl hk)).trans ((u.fld_setFld_same _ _ (by simp [SEC_CAMPK_K])).trans (Nat.mod_eq_of_lt ?_))
    have hlen16 : (SEC_CAMPK_K k).len = 16 := rfl
    rw [hlen16]
    omega
  · rw [State.key_of_sec hbsec, State.key_of_sec (u.setFld_sec _ _), State.key_of_sec hsec, hkey]
  · have hnone : t.cru.waiting.filter (fun p => p.1 == LeaseKey.camp k) = [] := by
      rw [hbcru, State.setFld_cru]
      exact List.filter_eq_nil_iff.mpr fun p hp => by simpa using hwaiting p hp
    rw [State.nextValue, hnone]
    exact (hstay (SEC_CAMPSTAT_NEXTESI k) (.inl hstat) hkne).trans hesi
  · have hne : ∀ a < 0xF0000, (routeCount 176).addr ≠ a := fun a ha => by simp only [routeCount]; omega
    rw [hstay _ hcount176 (hne _ hk), hreset _ (.inl (hne _ hstat)), hdrawn _ (by simp only [routeCount, SEC_CAMPIDLO]; omega)
      (by simp only [routeCount, SEC_CAMPIDHI]; omega), hcount]

/-- PREPARE of a campaign whose image is not VALID. -/
theorem State.campPrepare_refuses (s : State) (k : Fin 4) (himg : s.fld (SEC_IMGSTAT_STATE (s.campImage k)) ≠ 2) :
    (s.campPrepare k).camp k = s.camp k ∧ (s.campPrepare k).fld (SEC_CAMPSTAT_CAUSE k) = 3 ∧ (s.campPrepare k).sec = s.sec := by
  have hrun : s.campPrepare k = s.setFld (SEC_CAMPSTAT_CAUSE k) 3 := if_pos himg
  rw [hrun]
  exact ⟨s.fld_setFld_keeps _ _ _ (by simp [SEC_CAMPSTAT_CAUSE]) (by simp [SEC_CAMPSTAT_CAUSE, SEC_CAMPSTAT_STATE]),
    s.fld_setFld_same (SEC_CAMPSTAT_CAUSE k) 3 (by simp [SEC_CAMPSTAT_CAUSE]), rfl⟩

/-! ### O40 -/

theorem State.campCtl_bits (s : State) (k : Nat) : s.campCtl k (2 ^ 0) = s.campPrepare k ∧ s.campCtl k (2 ^ 1) = (s.setCamp k campActive).plan
    ∧ s.campCtl k (2 ^ 2) = s.campPause k ∧ s.campCtl k (2 ^ 3) = s.campEnd k := ⟨rfl, rfl, rfl, rfl⟩

section
variable (s : State) (a : Nat)

theorem State.camp_rewritten (k : Nat) : (s.rewritten a).camp k = s.camp k := s.fld_rewritten a _

theorem State.trngOk_rewritten : (s.rewritten a).trngOk = s.trngOk := congrArg (· != 0) (s.fld_rewritten a SEC_TRNGSTAT_HEALTHY)

theorem State.campImage_rewritten (k : Nat) : (s.rewritten a).campImage k = s.campImage k := s.fld_rewritten a _

theorem State.symbolCount_rewritten (k : Nat) : (s.rewritten a).symbolCount k = s.symbolCount k := by
  simp only [State.symbolCount, State.symbolSize, State.campImage, State.fld_rewritten]

end

/-- Settles O40. -/
theorem imagesAndCampaigns : Obligations.ImagesAndCampaigns := by
  unfold Obligations.ImagesAndCampaigns
  intro s src k
  obtain ⟨hprepare, hstart, hpause, hend⟩ := (s.rewritten (SEC_CAMPCTL k)).campCtl_bits k
  refine ⟨fun htake => ⟨fun hfree => ?load, fun hused => ?busy⟩, fun hst => ?verify, fun htake => ?drop,
    fun htake => ⟨fun himg hn hok => ?prepare, fun himg => ?refuse⟩, fun hcamp hqueue => ⟨_, rfl, s.campPrepared_ready k hcamp hqueue⟩,
    fun htake => ?start, fun htake => ?pause, fun htake hcamp => ?stop⟩
  case load =>
    have hrun := ((s.rewritten (SEC_IMGCFG k)).imageLoad_begins k).1 ((s.imageUsed_rewritten _ k).trans hfree)
    obtain ⟨hst, hcause, -⟩ := (s.rewritten (SEC_IMGCFG k)).showImage_shows k 1 0 (by decide) (by decide)
    exact ⟨_, congrArg Host.Outcome.next ((s.pulse_imageLoad src k htake).trans hrun), hst, hcause⟩
  case busy =>
    have hrun := ((s.rewritten (SEC_IMGCFG k)).imageLoad_begins k).2 ((s.imageUsed_rewritten _ k).trans hused)
    obtain ⟨hst, hcause, -, hcount⟩ := (s.rewritten (SEC_IMGCFG k)).imageReject_ends k 6 (by decide)
    rw [s.fld_rewritten] at hcount
    exact ⟨_, congrArg Host.Outcome.next ((s.pulse_imageLoad src k htake).trans hrun), hst, hcause, hcount⟩
  case verify =>
    obtain ⟨hbad, hgood⟩ := s.imageVerified_ends k hst
    refine ⟨s.imageVerified k, rfl, ?_⟩
    show _ = (if s.foundCause k = 0 then 2 else 3) ∧ _ = (if s.foundCause k = 0 then s.fld (SEC_IMGSTAT_CAUSE k) else s.foundCause k)
      ∧ _ = (if s.foundCause k = 0 then imgWord (s.imageOctets k) 4 else s.fld (SEC_IMGLEN_LEN k))
      ∧ _ = (if s.foundCause k = 0 then imgWord (s.imageOctets k) 8 else s.fld (SEC_IMGVER_FWVER k))
      ∧ (s.imageVerified k).fld (routeCount (if s.foundCause k = 0 then 173 else 174))
        = min (s.fld (routeCount (if s.foundCause k = 0 then 173 else 174)) + 1) 0xFFFFFFFF
    by_cases hzero : s.foundCause k = 0
    · simp only [if_pos hzero]
      exact hgood hzero
    · simp only [if_neg hzero]
      exact hbad hzero
  case drop => exact ⟨_, congrArg Host.Outcome.next (s.pulse_imageDrop src k htake), (s.rewritten (SEC_IMGCFG k)).imageDrop_empties k⟩
  case prepare =>
    obtain ⟨key, hcamp, hcause, hcount, hkey, hlen, hnext, hevent⟩ := (s.rewritten (SEC_CAMPCTL k)).campPrepare_prepares k
      (by rw [s.campImage_rewritten, s.fld_rewritten]; exact himg) (by rw [s.symbolCount_rewritten]; exact hn)
      (by rw [s.trngOk_rewritten]; exact hok)
    rw [s.symbolCount_rewritten] at hcount
    rw [s.fld_rewritten] at hevent
    exact ⟨_, key, congrArg Host.Outcome.next ((s.pulse_campCtl src k 0 (by decide) htake).trans hprepare), hcamp, hcause, hcount, hkey,
      hlen, hnext, hevent⟩
  case refuse =>
    obtain ⟨hcamp, hcause, hsec⟩ := (s.rewritten (SEC_CAMPCTL k)).campPrepare_refuses k
      (by rw [s.campImage_rewritten, s.fld_rewritten]; exact himg)
    exact ⟨_, congrArg Host.Outcome.next ((s.pulse_campCtl src k 0 (by decide) htake).trans hprepare),
      hcamp.trans (s.camp_rewritten _ k), hcause, hsec⟩
  case start =>
    obtain ⟨hcamp, -, -, hcount, -, hsch⟩ := (s.rewritten (SEC_CAMPCTL k)).setCamp_moves k campActive (by decide)
    rw [s.fld_rewritten] at hcount
    exact ⟨_, congrArg Host.Outcome.next ((s.pulse_campCtl src k 1 (by decide) htake).trans hstart), hcamp, hcount, hsch⟩
  case pause =>
    obtain ⟨hcamp, hcount, hfree⟩ := (s.rewritten (SEC_CAMPCTL k)).campPause_pauses k
    rw [s.fld_rewritten] at hcount
    exact ⟨_, congrArg Host.Outcome.next ((s.pulse_campCtl src k 2 (by decide) htake).trans hpause), hcamp, hcount,
      fun r hr hkind htarget hopen e => hfree r hr hkind htarget hopen e⟩
  case stop =>
    obtain ⟨hcamp', hkey, hcount⟩ := (s.rewritten (SEC_CAMPCTL k)).campEnd_ends k (by rw [s.camp_rewritten]; exact hcamp)
    rw [s.fld_rewritten] at hcount
    exact ⟨_, congrArg Host.Outcome.next ((s.pulse_campCtl src k 3 (by decide) htake).trans hend), hcamp', hkey, hcount⟩

end Sys2Proof.Machine

/-! The peer link: what a read of a peer's entry returns after a write, what an accepted message changes, and what sending leaves (R321, R322,
R325). -/

namespace Sys2Proof.Machine

open Sys2Proof.Fields Sys2Proof.Laws

/-! ### Peer entries (R325) -/

@[simp] theorem State.peer_setPeer_same (s : State) (p : Nat) (x : Peer) : (s.setPeer p x).peer p = x := tabGet_set_same _ _ _ _

theorem State.peer_setPeer_other (s : State) (p r : Nat) (x : Peer) (h : r ≠ p) : (s.setPeer p x).peer r = s.peer r :=
  tabGet_set_other _ _ h _ _

theorem State.peer_of_plk {s t : State} (h : t.plk = s.plk) (p : Nat) : t.peer p = s.peer p := by rw [State.peer, State.peer, h]

/-! ### Ports (R318, R322) -/

/-- Whether a port carries messages hangs on three registers and on what is live. -/
theorem State.uplPort_congr {s t : State} (hsys : t.sys = s.sys) (q : Nat) (hget : ∀ a, a ≠ PLK_EPOCH → t.get a = s.get a)
    (hq : q < 2) : t.uplPort q = s.uplPort q := by
  have hmode : t.mode = s.mode := State.fld_of_get MGT_MODE_MODE (hget _ (by decide))
  have hlink : t.isSet (PLK_PSTAT_LINK q) = s.isSet (PLK_PSTAT_LINK q) :=
    congrArg (· != 0) (State.fld_of_get (PLK_PSTAT_LINK q) (hget _ (by simp only [PLK_PSTAT_LINK, PLK_PSTAT, PLK_EPOCH]; omega)))
  have hon : t.isSet PLK_CFG_UPLEN = s.isSet PLK_CFG_UPLEN := congrArg (· != 0) (State.fld_of_get PLK_CFG_UPLEN (hget _ (by decide)))
  simp only [State.uplPort, State.portUp, State.live, State.isCast, State.isHeld, State.beating, hsys, hmode, hlink, hon]

/-! ### Sending (R321) -/

/-- `t` follows from `s` by messages that leave: outputs are added, and of the peers the counters and the keying move. -/
structure State.Sends (s t : State) : Prop where
  sys : t.sys = s.sys
  tim : t.tim = s.tim
  out : s.out <+: t.out
  regs : ∀ a, a ≠ PLK_EPOCH → t.get a = s.get a
  cellid : ∀ p, (t.peer p).cellid = (s.peer p).cellid

theorem State.Sends.refl (s : State) : s.Sends s := ⟨rfl, rfl, List.prefix_rfl, fun _ _ => rfl, fun _ => rfl⟩

theorem State.Sends.trans {s t u : State} (h : s.Sends t) (h' : t.Sends u) : s.Sends u :=
  ⟨h'.sys.trans h.sys, h'.tim.trans h.tim, h.out.trans h'.out, fun a ha => (h'.regs a ha).trans (h.regs a ha),
    fun p => (h'.cellid p).trans (h.cellid p)⟩

theorem State.Sends.fld {s t : State} (h : s.Sends t) (f : Fld) (hf : f.addr ≠ PLK_EPOCH) : t.fld f = s.fld f :=
  State.fld_of_get f (h.regs f.addr hf)

theorem State.Sends.beat {s t : State} (h : s.Sends t) : t.beat = s.beat := h.fld TIM_BEATCNT_COUNT (by decide)

theorem tabGet_map {β : Type} (d : β) (g : Nat × β → β) (hd : ∀ k, g (k, d) = d) (l : List (Nat × β)) (a : Nat) :
    tabGet d (l.map (fun p => (p.1, g p))) a = g (a, tabGet d l a) := by
  induction l with
  | nil => exact (hd a).symm
  | cons p l ih =>
    obtain ⟨k, v⟩ := p
    rw [List.map_cons, tabGet, tabGet]
    split
    next h => rw [h]
    next => exact ih

/-- A peer that is keyed anew. -/
def Peer.rekeyed (x : Peer) : Peer := if x.keyed then { x with st := peerKeying } else x

theorem State.peer_drawEpoch (s : State) (p : Nat) : s.drawEpoch.peer p = (s.peer p).rekeyed := by
  have hmap : s.drawEpoch.plk.peers = s.plk.peers.map (fun q => (q.1, q.2.rekeyed)) := by
    refine List.map_congr_left fun q _ => ?_
    unfold Peer.rekeyed
    split <;> rfl
  rw [State.peer, hmap]
  exact tabGet_map Peer.cold (fun q => q.2.rekeyed) (fun _ => rfl) _ p

theorem State.sends_drawEpoch (s : State) : s.Sends s.drawEpoch := by
  refine ⟨rfl, rfl, List.prefix_rfl, fun a ha => State.get_setFld_other _ PLK_EPOCH_EPOCH _ _ ha, fun p => ?_⟩
  rw [s.peer_drawEpoch, Peer.rekeyed]
  split <;> rfl

/-- The message that leaves for a peer. -/
def State.message (s : State) (q p ty : Nat) (ws : List Nat) : Out :=
  .upl q p ty (s.fld MAC_CELLID_CELLID) (s.peer p).cellid (s.peer p).txCtr s.beat ws

/-- A message has left, and the peer's counter has moved. -/
def State.posted (s : State) (q p ty : Nat) (ws : List Nat) : State :=
  (s.uplDue.setPeer p { s.peer p with txCtr := (s.peer p).txCtr + 1 }).emit (s.message q p ty ws)

theorem State.sendOn_eq (s : State) (q p ty : Nat) (ws : List Nat) :
    s.sendOn q p ty ws = if (s.peer p).txCtr + 1 = 0xF0000000 then (s.posted q p ty ws).drawEpoch else s.posted q p ty ws := rfl

theorem State.sends_posted (s : State) (q p ty : Nat) (ws : List Nat) : s.Sends (s.posted q p ty ws) := by
  refine ⟨rfl, rfl, List.prefix_append _ _, fun _ _ => rfl, fun r => ?_⟩
  have hpeer : (s.posted q p ty ws).peer r = (s.uplDue.setPeer p { s.peer p with txCtr := (s.peer p).txCtr + 1 }).peer r := rfl
  rw [hpeer]
  by_cases h : r = p
  · rw [h, State.peer_setPeer_same]
  · rw [State.peer_setPeer_other _ _ _ _ h]
    rfl

/-- A message leaves, and nothing but the sender's side of the link changes. -/
theorem State.sendOn_sends (s : State) (q p ty : Nat) (ws : List Nat) :
    s.Sends (s.sendOn q p ty ws) ∧ s.message q p ty ws ∈ (s.sendOn q p ty ws).out := by
  have hpost := s.sends_posted q p ty ws
  have hmem : s.message q p ty ws ∈ (s.posted q p ty ws).out := List.mem_append_right _ (List.mem_singleton_self _)
  rw [s.sendOn_eq]
  split
  · have hdraw := (s.posted q p ty ws).sends_drawEpoch
    exact ⟨hpost.trans hdraw, hdraw.out.subset hmem⟩
  · exact ⟨hpost, hmem⟩

/-! ### Receiving (R321, R322) -/

theorem State.acceptUpl_accepts (s : State) (u : UplIn) (hport : s.uplPort u.port = true) (hmic : u.mic = true)
    (hkeyed : (s.peer u.peer).keyed = true) (hctr : (s.peer u.peer).rxCtr < u.ctr.toNat) :
    s.acceptUpl u = (true, s.setPeer u.peer { s.peer u.peer with rxCtr := u.ctr.toNat }) := by
  rw [State.acceptUpl, if_neg (by rw [hport]; decide), if_neg (by rw [hmic, hkeyed]; decide), if_neg (by omega)]

/-- A peer that is heard now has been heard within any time. -/
theorem State.within_now (s : State) (n : Nat) (h : 0 < n) : s.within (some s.tim.ts) n = true := by
  simp only [State.within, decide_eq_true_eq]
  omega

/-- A peer as it is after it has been heard. -/
def Peer.hears (x : Peer) (q now beat : Nat) : Peer :=
  if q = 0 then { x with heard0 := some now, lastHeard := beat } else { x with heard1 := some now, lastHeard := beat }

theorem State.noteHeard_eq (s : State) (p q : Nat) : s.noteHeard p q = s.setPeer p ((s.peer p).hears q s.tim.ts s.beat) := rfl

theorem Peer.hears_keeps (x : Peer) (q now beat : Nat) : (x.hears q now beat).st = x.st ∧ (x.hears q now beat).uid = x.uid
    ∧ (x.hears q now beat).cellid = x.cellid ∧ (x.hears q now beat).epoch = x.epoch ∧ (x.hears q now beat).pubX = x.pubX
    ∧ (x.hears q now beat).pubY = x.pubY ∧ (x.hears q now beat).rxCtr = x.rxCtr := by
  unfold Peer.hears
  split <;> exact ⟨rfl, rfl, rfl, rfl, rfl, rfl, rfl⟩

theorem State.heardOn_hears (s : State) (x : Peer) (q beat : Nat) : s.heardOn (x.hears q s.tim.ts beat) q = true := by
  unfold State.heardOn Peer.hears
  split <;> exact s.within_now _ (by decide)

/-! ### Writes of FWD's table for a peer (R326) -/

/-- `t` follows from `s` by work on the neighbour table: SEC, PLK and the counts of other events stay. -/
structure State.Neighbours (s t : State) : Prop where
  sec : t.sec = s.sec
  plk : t.plk = s.plk
  count : ∀ id, id < 232 → id ≠ 159 → t.fld (routeCount id) = s.fld (routeCount id)

theorem State.neighbours_bankWrite (s : State) (o a : Nat) (bs : List Byte) : s.Neighbours (s.bankWrite o a bs).2 := by
  obtain ⟨hsec, -, hplk⟩ := s.banks_bankWrite o a bs
  exact ⟨hsec, hplk, fun id hid _ => (s.stores_bankWrite o a bs).fld _ (.inr ⟨id, hid, rfl⟩)⟩

theorem State.Neighbours.refl (s : State) : s.Neighbours s := ⟨rfl, rfl, fun _ _ _ => rfl⟩

theorem State.neighbours_putEntry (s : State) (t i : Nat) (ws : List Nat) : s.Neighbours (s.putEntry t i ws) := s.neighbours_bankWrite _ _ _

theorem State.neighbours_putEntryWord (s : State) (t i w v : Nat) : s.Neighbours (s.putEntryWord t i w v) := s.neighbours_bankWrite _ _ _

theorem State.neighbours_learnDrop (s : State) : s.Neighbours s.learnDrop := by
  obtain ⟨hsec, -, hplk⟩ := (s.count FWD_LEARNDROP_COUNT).banks_raiseLimited 159 159 0
  refine ⟨hsec, hplk, fun id hid hne => State.fld_of_get _ ?_⟩
  have hcount : (s.count FWD_LEARNDROP_COUNT).get (routeCount id).addr = s.get (routeCount id).addr :=
    s.get_count_other _ _ (by simp only [routeCount, FWD_LEARNDROP_COUNT, FWD_LEARNDROP]; omega)
  refine (State.get_raiseLimited _ 159 159 0 _ fun u => ?_).trans hcount
  refine ((u.signals_raise 159 0).regs _ (besideSignals_routeCount id (by omega))).trans (u.get_count_other _ _ ?_)
  simp only [routeCount]
  omega

theorem State.neighbours_nbrLearn (s : State) (key port rec rssi : Nat) (hit : Bool) : s.Neighbours (s.nbrLearn key port rec rssi hit) := by
  unfold State.nbrLearn
  split
  · exact s.neighbours_learnDrop
  · split
    · exact s.neighbours_learnDrop
    · exact s.neighbours_putEntry _ _ _

theorem State.neighbours_peerNeighbour (s : State) (p : Nat) : s.Neighbours (s.peerNeighbour p) := by
  unfold State.peerNeighbour
  dsimp only
  split
  · exact s.neighbours_nbrLearn _ _ _ _ _
  · split
    · exact s.neighbours_learnDrop
    · exact s.neighbours_putEntry _ _ _

theorem State.neighbours_dropPeerNeighbour (s : State) (cellid : Nat) : s.Neighbours (s.dropPeerNeighbour cellid) := by
  unfold State.dropPeerNeighbour
  split
  · split
    · exact .refl s
    · rw [State.nbrRemove]
      exact s.neighbours_putEntryWord _ _ _ _
  · exact .refl s

end Sys2Proof.Machine

/-! Announcements, keying, hellos, ageing and links of the peer ports (R318, R321, R323, R324, R326, R333). -/

namespace Sys2Proof.Machine

open Sys2Proof.Fields Sys2Proof.Laws

/-! ### ANNOUNCE_SEND (R323) -/

/-- The ANNOUNCE that leaves by a port. -/
def State.announcement (s : State) (q : Nat) : Out := .upl q 64 uplAnnounce (s.fld MAC_CELLID_CELLID) 0xFFFF 0 s.beat s.announceValues

/-- Announcements leave on each port of a list, and only what is due changes beside. -/
theorem State.foldl_announce (l : List Nat) (s : State) : ∃ o d,
    l.foldl (fun s q => s.uplDue.emit (s.announcement q)) s = { s with out := o, plk := { s.plk with dueAt := d } }
    ∧ o = s.out ++ l.map s.announcement := by
  induction l generalizing s with
  | nil => exact ⟨s.out, s.plk.dueAt, rfl, (List.append_nil _).symm⟩
  | cons q l ih =>
    obtain ⟨o, d, hrun, hout⟩ := ih (s.uplDue.emit (s.announcement q))
    refine ⟨o, d, hrun, ?_⟩
    rw [hout, List.map_cons, ← List.singleton_append (l := List.map _ l), ← List.append_assoc]
    rfl

/-! ### ANNOUNCE_RECEIVED (R323, R324) -/

/-- What an ANNOUNCE makes of a peer's entry, before it is heard. -/
def Peer.told (x : Peer) (a : Announce) (geom : Bool) : Peer :=
  { x with
    uid := a.uid.toNat, cellid := a.cellid.toNat, role := a.role.val, serving := a.serving, addr := a.addr.map (·.toNat),
    epoch := a.epoch.toNat, pubX := a.pubX.toNat, pubY := a.pubY.toNat, took := a.took.map (·.toNat), geom := geom }

theorem State.takeAnnounce_tells (s : State) (p q : Nat) (a : Announce) : ∃ g,
    (s.takeAnnounce p q a).peer p = ((s.peer p).told a g).hears q s.tim.ts s.beat := by
  refine ⟨a.beatGeom == s.get TIM_BEATGEOM && a.sfPhase == s.get TIM_SFPHASE, ?_⟩
  rw [State.takeAnnounce, State.noteHeard_eq, State.peer_setPeer_same, State.peer_setPeer_same]
  rfl

theorem State.within_congr {s t : State} (h : t.tim = s.tim) (x : Option Nat) (n : Nat) : t.within x n = s.within x n := by
  cases x with
  | none => rfl
  | some a => simp only [State.within, h]

theorem State.heardOn_congr {s t : State} (h : t.tim = s.tim) (x : Peer) (q : Nat) : t.heardOn x q = s.heardOn x q := State.within_congr h _ _

/-- A peer that an ANNOUNCE has told of. -/
structure State.Told (s : State) (p q : Nat) (a : Announce) : Prop where
  uid : (s.peer p).uid = a.uid.toNat
  cellid : (s.peer p).cellid = a.cellid.toNat
  epoch : (s.peer p).epoch = a.epoch.toNat
  pubX : (s.peer p).pubX = a.pubX.toNat
  pubY : (s.peer p).pubY = a.pubY.toNat
  heard : s.heardOn (s.peer p) q = true

theorem State.told_takeAnnounce (s : State) (p q : Nat) (a : Announce) : (s.takeAnnounce p q a).Told p q a := by
  obtain ⟨g, hpeer⟩ := s.takeAnnounce_tells p q a
  obtain ⟨-, huid, hcell, hepoch, hx, hy, -⟩ := ((s.peer p).told a g).hears_keeps q s.tim.ts s.beat
  have hheard : (s.takeAnnounce p q a).heardOn (((s.peer p).told a g).hears q s.tim.ts s.beat) q = true :=
    s.heardOn_hears ((s.peer p).told a g) q s.beat
  rw [← hpeer] at huid hcell hepoch hx hy hheard
  exact ⟨huid, hcell, hepoch, hx, hy, hheard⟩

/-- A peer's state moves, and what it has told stays. -/
theorem State.Told.setPeer {s : State} {p q : Nat} {a : Announce} (h : s.Told p q a) (st since : Nat) :
    (s.setPeer p { s.peer p with st := st, since := since }).Told p q a := by
  constructor <;> rw [State.peer_setPeer_same]
  · exact h.uid
  · exact h.cellid
  · exact h.epoch
  · exact h.pubX
  · exact h.pubY
  · exact h.heard

theorem State.Told.raise {s : State} {p q : Nat} {a : Announce} (h : s.Told p q a) (id data : Nat) : (s.raise id data).Told p q a := by
  have hpeer : (s.raise id data).peer p = s.peer p := State.peer_of_plk (s.raise_plk id data) p
  have hheard : (s.raise id data).heardOn ((s.raise id data).peer p) q = s.heardOn (s.peer p) q := by
    rw [hpeer, State.heardOn_congr (s.raise_tim id data)]
  constructor
  · rw [hpeer]; exact h.uid
  · rw [hpeer]; exact h.cellid
  · rw [hpeer]; exact h.epoch
  · rw [hpeer]; exact h.pubX
  · rw [hpeer]; exact h.pubY
  · rw [hheard]; exact h.heard

/-- The entry of a new device holds what it has told. -/
def State.welcomed (s : State) (p q : Nat) (a : Announce) : State := (s.setPeer p { Peer.cold with st := peerSeen }).takeAnnounce p q a

/-- An ANNOUNCE's certificate, casting key or entropy does not serve. -/
def State.unfit (s : State) (a : Announce) : Bool :=
  !certOk a || (s.isSet PLK_CFG_SAMEKEY && a.castKey.toNat != s.fld MGT_CASTKEY_KEYID) || !s.isSet SEC_TRNGSTAT_HEALTHY

theorem State.unfit_iff (s : State) (a : Announce) : s.unfit a = true ↔
    certOk a = false ∨ (s.isSet PLK_CFG_SAMEKEY = true ∧ a.castKey.toNat ≠ s.fld MGT_CASTKEY_KEYID) ∨ s.trngOk = false := by
  simp only [State.unfit, State.trngOk, Bool.or_eq_true, Bool.not_eq_true', Bool.and_eq_true, bne_iff_ne, or_assoc]

theorem State.newPeer_eq (s : State) (p q : Nat) (a : Announce) :
    s.newPeer p q a = if s.unfit a = true then (s.welcomed p q a).rejectPeer p
      else (s.welcomed p q a).setPeer p { (s.welcomed p q a).peer p with st := peerKeying } := rfl

/-- A new device is entered, and keying begins, or it is rejected. -/
theorem State.newPeer_enters (s : State) (p q : Nat) (a : Announce) : (s.newPeer p q a).Told p q a
    ∧ (s.unfit a = true → ((s.newPeer p q a).peer p).st = peerRejected
      ∧ (s.newPeer p q a).fld (routeCount 188) = min (s.fld (routeCount 188) + 1) 0xFFFFFFFF)
    ∧ (s.unfit a = false → ((s.newPeer p q a).peer p).st = peerKeying) := by
  have htold : (s.welcomed p q a).Told p q a := State.told_takeAnnounce _ p q a
  have hfld : (s.welcomed p q a).fld (routeCount 188) = s.fld (routeCount 188) := State.fld_of_get _ rfl
  rw [s.newPeer_eq]
  cases hfit : s.unfit a with
  | true =>
    refine ⟨(htold.setPeer _ _).raise 188 0, fun _ => ⟨?_, ?_⟩, fun h => absurd h (by decide)⟩
    · rw [if_pos rfl, State.rejectPeer, State.peer_of_plk (State.raise_plk _ _ _), State.peer_setPeer_same]
    · rw [if_pos rfl, State.rejectPeer, State.fld_routeCount_raise _ _ _ (by decide)]
      exact congrArg (fun n => min (n + 1) 0xFFFFFFFF) hfld
  | false =>
    refine ⟨htold.setPeer _ ((s.welcomed p q a).peer p).since, fun h => absurd h (by decide), fun _ => ?_⟩
    rw [if_neg (by decide), State.peer_setPeer_same]

theorem State.announceReceived_new (s : State) (q p : Nat) (a : Announce) (hport : s.uplPort q = true) (huid : a.uid ≠ Config.uid)
    (hnone : s.peerOf a.uid.toNat = none) (hrefused : s.plk.refused = []) (hfree : s.peerFree = some p) :
    s.announceReceived q a = s.newPeer p q a := by
  have hours : (a.uid == Config.uid) = false := beq_eq_false_iff_ne.mpr huid
  simp [State.announceReceived, hport, hours, hnone, hrefused, hfree]

/-- A keyed device that announces another EPOCH is keyed again. -/
theorem State.announceReceived_again (s : State) (q p : Nat) (a : Announce) (hport : s.uplPort q = true) (huid : a.uid ≠ Config.uid)
    (hknown : s.peerOf a.uid.toNat = some p) (hkeyed : (s.peer p).keyed = true) (hepoch : a.epoch.toNat ≠ (s.peer p).epoch) :
    ((s.announceReceived q a).peer p).st = peerKeying ∧ ((s.announceReceived q a).peer p).epoch = a.epoch.toNat := by
  have hours : (a.uid == Config.uid) = false := beq_eq_false_iff_ne.mpr huid
  have hst : (s.peer p).st ≠ peerRejected := by
    rintro h
    rw [Peer.keyed, h] at hkeyed
    exact absurd hkeyed (by decide)
  have hnew : ((s.peer p).keyed && a.epoch.toNat != (s.peer p).epoch) = true := by rw [hkeyed, Bool.true_and, bne_iff_ne]; exact hepoch
  have hrun : s.announceReceived q a = (s.takeAnnounce p q a).setPeer p { (s.takeAnnounce p q a).peer p with st := peerKeying } := by
    simp only [State.announceReceived, hport, hours, hknown, Bool.not_true, Bool.or_self, Bool.false_eq_true, if_false, if_neg hst, hnew,
      if_true]
  rw [hrun, State.peer_setPeer_same]
  exact ⟨rfl, (s.told_takeAnnounce p q a).epoch⟩

/-! ### PEER_KEYING_DONE, PEER_AGE_OUT and PEER_REJECT_EXPIRY (R323, R324, R326) -/

/-- A pair's key stands in slot 8 + p, and the peer's counters start anew. -/
def State.pairKeyed (s : State) (p : Nat) : State :=
  (s.setKey (8 + p) ((sha256 (ecdhX Config.touchmark.toNat (s.peer p).pubX (s.peer p).pubY ++ s.pairLabel (s.peer p))).take 16)).setPeer p
    { s.peer p with st := if (s.peer p).geom then peerKeyed else peerMismatch, txCtr := 1, rxCtr := 0 }

theorem State.keyingDone_eq (s : State) (p : Nat) (hst : (s.peer p).st = peerKeying) (hok : s.trngOk = true) :
    s.keyingDone p = ((s.pairKeyed p).peerNeighbour p).raise 186 :=
  (if_neg (not_not_intro hst)).trans (if_neg (by rw [← State.trngOk, hok]; decide))

theorem State.keyingDone_keys (s : State) (p : Nat) (hst : (s.peer p).st = peerKeying) (hok : s.trngOk = true) :
    (s.keyingDone p).key (8 + p)
        = some ((sha256 (ecdhX Config.touchmark.toNat (s.peer p).pubX (s.peer p).pubY ++ s.pairLabel (s.peer p))).take 16)
      ∧ (s.keyingDone p).peer p
        = { s.peer p with st := if (s.peer p).geom then peerKeyed else peerMismatch, txCtr := 1, rxCtr := 0 }
      ∧ (s.keyingDone p).fld (routeCount 186) = min (s.fld (routeCount 186) + 1) 0xFFFFFFFF := by
  obtain ⟨hsec, hplk, hcount⟩ := (s.pairKeyed p).neighbours_peerNeighbour p
  have hfld : (s.pairKeyed p).fld (routeCount 186) = s.fld (routeCount 186) := State.fld_of_get _ rfl
  rw [s.keyingDone_eq p hst hok, State.fld_routeCount_raise _ _ _ (by decide), hcount 186 (by decide) (by decide), hfld,
    State.key_of_sec (State.raise_sec _ _ _), State.key_of_sec hsec, State.peer_of_plk (State.raise_plk _ _ _), State.peer_of_plk hplk,
    State.pairKeyed, State.peer_setPeer_same]
  exact ⟨State.key_setKey_same _ _ _ (by omega), rfl, rfl⟩

/-- `t` follows from `s` by the end of a handover: SEC, the peers, the waiting messages and the counts of events stay. -/
structure State.HandoverEnds (s t : State) : Prop where
  sec : t.sec = s.sec
  peers : t.plk.peers = s.plk.peers
  rel : t.plk.rel = s.plk.rel
  count : ∀ id, t.fld (routeCount id) = s.fld (routeCount id)

theorem State.HandoverEnds.refl (s : State) : s.HandoverEnds s := ⟨rfl, rfl, rfl, fun _ => rfl⟩

theorem State.HandoverEnds.trans {s t u : State} (h : s.HandoverEnds t) (h' : t.HandoverEnds u) : s.HandoverEnds u :=
  ⟨h'.sec.trans h.sec, h'.peers.trans h.peers, h'.rel.trans h.rel, fun id => (h'.count id).trans (h.count id)⟩

theorem State.handoverEnds_endPull (s : State) (status : Nat) : s.HandoverEnds (s.endPull status) := by
  have hset (t : State) (f : Fld) (v id : Nat) (hf : f.addr < 0x100000) : (t.setFld f v).fld (routeCount id) = t.fld (routeCount id) :=
    t.fld_setFld_other_word f _ v (by simp only [routeCount]; omega)
  have hcount (t : State) (id : Nat) : (t.count PLK_HOFAIL_COUNT).fld (routeCount id) = t.fld (routeCount id) :=
    State.fld_of_get _ (t.get_count_other _ _ (by simp only [routeCount, PLK_HOFAIL_COUNT, PLK_HOFAIL]; omega))
  have hends (id : Nat) : ∀ t : State, ((t.setFld PLK_HOCMD_BUSY 0).setFld PLK_HOCMD_STATUS status).fld (routeCount id) = t.fld (routeCount id) :=
    fun t => (hset _ PLK_HOCMD_STATUS _ id (by decide)).trans (hset t PLK_HOCMD_BUSY _ id (by decide))
  unfold State.endPull
  dsimp only
  split
  · exact ⟨by simp, by simp, by simp, fun id => hends id _⟩
  · exact ⟨by simp, by simp, by simp, fun id => (hcount _ id).trans (hends id _)⟩

theorem State.handoverEnds_failTransfer (s : State) : s.HandoverEnds s.failTransfer := by
  unfold State.failTransfer
  split
  · exact ⟨rfl, rfl, rfl, fun _ => rfl⟩
  · exact .refl s

/-- The entry, the key and the waiting messages of a peer go. -/
def State.peerGone (s : State) (p : Nat) : State :=
  { (s.setPeer p Peer.cold).eraseKey (8 + p) with plk := { (s.setPeer p Peer.cold).plk with
      rel := s.plk.rel.filter (fun r => r.peer != p), hoQueue := s.plk.hoQueue.filter (fun r => r.1 != p) } }

/-- A pull from a peer, and a transfer to it, fail. -/
def State.dropPull (s : State) (p : Nat) : State := if s.plk.pull.any (fun r => r.1 == p) then s.endPull 9 else s
def State.dropTransfer (s : State) (p : Nat) : State := if s.plk.transfer.any (fun r => r.peer == p) then s.failTransfer else s

theorem State.handoverEnds_drop (s : State) (p : Nat) : s.HandoverEnds ((s.dropPull p).dropTransfer p) := by
  have hpull : s.HandoverEnds (s.dropPull p) := by
    unfold State.dropPull
    split
    · exact s.handoverEnds_endPull 9
    · exact .refl s
  refine hpull.trans ?_
  unfold State.dropTransfer
  split
  · exact State.handoverEnds_failTransfer _
  · exact .refl _

theorem State.peerAgeOut_eq (s : State) (p : Nat) (hst : (s.peer p).st ≠ 0) (hrej : (s.peer p).st ≠ peerRejected)
    (h0 : s.heardOn (s.peer p) 0 = false) (h1 : s.heardOn (s.peer p) 1 = false) :
    s.peerAgeOut p = ((((s.peerGone p).dropPull p).dropTransfer p).dropPeerNeighbour (s.peer p).cellid).raise 187 :=
  if_neg (by simp [hst, hrej, h0, h1])

theorem State.peerAgeOut_frees (s : State) (p : Nat) (hst : (s.peer p).st ≠ 0) (hrej : (s.peer p).st ≠ peerRejected)
    (h0 : s.heardOn (s.peer p) 0 = false) (h1 : s.heardOn (s.peer p) 1 = false) :
    (s.peerAgeOut p).peer p = Peer.cold ∧ (s.peerAgeOut p).key (8 + p) = none
    ∧ (s.peerAgeOut p).fld (routeCount 187) = min (s.fld (routeCount 187) + 1) 0xFFFFFFFF
    ∧ ∀ r ∈ (s.peerAgeOut p).plk.rel, r.peer ≠ p := by
  have hrun := s.peerAgeOut_eq p hst hrej h0 h1
  have hends := (s.peerGone p).handoverEnds_drop p
  generalize ((s.peerGone p).dropPull p).dropTransfer p = t at hends hrun
  obtain ⟨hsec, hplk, hcount⟩ := t.neighbours_dropPeerNeighbour (s.peer p).cellid
  have hfld : (s.peerGone p).fld (routeCount 187) = s.fld (routeCount 187) := State.fld_of_get _ rfl
  have hpeer : t.peer p = Peer.cold := (congrArg (tabGet Peer.cold · p) hends.peers).trans (s.peer_setPeer_same p Peer.cold)
  have hkey : t.key (8 + p) = none := (State.key_of_sec hends.sec _).trans ((s.setPeer p Peer.cold).key_eraseKey_same (8 + p) (by omega))
  rw [hrun, State.peer_of_plk (State.raise_plk _ _ _), State.peer_of_plk hplk, hpeer, State.key_of_sec (State.raise_sec _ _ _),
    State.key_of_sec hsec, hkey, State.fld_routeCount_raise _ _ _ (by decide), hcount 187 (by decide) (by decide), hends.count, hfld,
    State.raise_plk, hplk, hends.rel]
  refine ⟨rfl, rfl, rfl, fun r hr => ?_⟩
  simpa using (List.mem_filter.mp hr).2

theorem State.rejectExpired_frees (s : State) (p : Nat) (h : (s.peer p).st = peerRejected) : (s.rejectExpired p).peer p = Peer.cold := by
  rw [State.rejectExpired, if_pos h, State.peer_setPeer_same]

/-! ### HELLO_SEND (R333) -/

theorem State.Sends.foldl {α : Type} (f : State → α → State) (hf : ∀ (u : State) (x : α), u.Sends (f u x)) (l : List α) (s : State) :
    s.Sends (l.foldl f s) := by
  induction l generalizing s with
  | nil => exact .refl s
  | cons x l ih => exact (hf s x).trans (ih _)

/-- Each of several sendings begins in a state that the ones before have led to, and the ones after follow. -/
theorem State.Sends.foldl_mem {α : Type} (f : State → α → State) (hf : ∀ (u : State) (x : α), u.Sends (f u x)) (l : List α) (s : State)
    (x : α) (hx : x ∈ l) : ∃ u, s.Sends u ∧ (f u x).Sends (l.foldl f s) := by
  induction l generalizing s with
  | nil => exact absurd hx List.not_mem_nil
  | cons y l ih =>
    obtain rfl | hx := List.mem_cons.mp hx
    · exact ⟨s, .refl s, .foldl f hf l _⟩
    · obtain ⟨u, hu, hlast⟩ := ih (f s y) hx
      exact ⟨u, (hf s y).trans hu, hlast⟩

/-- What a HELLO says. -/
def State.helloWords (s : State) : List Nat := [if s.cellServed then 1 else 0, s.fld PLK_SBSTAT_ROLE, s.fld TIM_STAT_TVALID]

/-- A HELLO to a peer on each port that carries messages. -/
def State.helloTo (s : State) (p : Nat) : State := ([0, 1].filter s.uplPort).foldl (fun s q => s.sendOn q p uplHello s.helloWords) s

theorem State.helloTo_sends (s : State) (p : Nat) : s.Sends (s.helloTo p) :=
  .foldl _ (fun u q => (u.sendOn_sends q p uplHello u.helloWords).1) _ s

theorem State.Sends.helloWords {s t : State} (h : s.Sends t) : t.helloWords = s.helloWords := by
  have hmode : t.mode = s.mode := h.fld MGT_MODE_MODE (by decide)
  have hrole := h.fld PLK_SBSTAT_ROLE (by decide)
  have hserved : t.cellServed = s.cellServed := by simp only [State.cellServed, State.serving, State.standby, hmode, hrole]
  simp only [State.helloWords, hserved, hrole, h.fld TIM_STAT_TVALID (by decide)]

/-- A HELLO leaves for each keyed peer on each port that carries messages. -/
theorem State.sendHellos_sends (s : State) (p q : Nat) (hp : p < 64) (hq : q < 2) (hkeyed : (s.peer p).keyed = true)
    (hport : s.uplPort q = true) : ∃ ctr,
      Out.upl q p uplHello (s.fld MAC_CELLID_CELLID) (s.peer p).cellid ctr s.beat s.helloWords ∈ s.sendHellos.out := by
  obtain ⟨u, hu, hlast⟩ := State.Sends.foldl_mem State.helloTo State.helloTo_sends ((List.range 64).filter (fun p => (s.peer p).keyed)) s p
    (List.mem_filter.mpr ⟨List.mem_range.mpr hp, hkeyed⟩)
  have hq' : q ∈ [0, 1].filter u.uplPort := by
    refine List.mem_filter.mpr ⟨?_, ?_⟩
    · obtain rfl | rfl : q = 0 ∨ q = 1 := by omega
      · decide
      · decide
    · rw [State.uplPort_congr hu.sys q hu.regs hq]
      exact hport
  obtain ⟨v, hv, hrest⟩ := State.Sends.foldl_mem (fun s q => s.sendOn q p uplHello s.helloWords)
    (fun u q => (u.sendOn_sends q p uplHello u.helloWords).1) ([0, 1].filter u.uplPort) u q hq'
  have hmem := hlast.out.subset (hrest.out.subset (v.sendOn_sends q p uplHello v.helloWords).2)
  have hsv := hu.trans hv
  rw [State.message, hsv.fld MAC_CELLID_CELLID (by decide), hsv.cellid, hsv.beat, hsv.helloWords] at hmem
  exact ⟨_, hmem⟩

/-! ### HELLO_RECEIVED (R333) -/

/-- What an accepted HELLO makes of its sender's entry. -/
def State.hailed (s : State) (u : UplIn) (serving : Bool) (role : Nat) : State :=
  s.setPeer u.peer { (({ s.peer u.peer with rxCtr := u.ctr.toNat } : Peer).hears u.port s.tim.ts s.beat) with
    serving := serving, role := role, hello := some s.tim.ts }

theorem tabErase_set {β : Type} [DecidableEq β] (d : β) (a : Nat) (v : β) (m : List (Nat × β)) : tabErase a (tabSet d a v m) = tabErase a m := by
  unfold tabSet
  split
  · exact tabErase_erase a m
  · rw [tabErase_insert, tabErase_erase]

theorem State.setPeer_setPeer (s : State) (p : Nat) (x y : Peer) : (s.setPeer p x).setPeer p y = s.setPeer p y := by
  have hset : tabSet Peer.cold p y (tabSet Peer.cold p x s.plk.peers) = tabSet Peer.cold p y s.plk.peers := by
    rw [tabSet, tabErase_set, ← tabSet]
  simp only [State.setPeer, hset]

theorem State.helloReceived_eq (s : State) (u : UplIn) (serving : Bool) (role : Nat) (hport : s.uplPort u.port = true) (hmic : u.mic = true)
    (hkeyed : (s.peer u.peer).keyed = true) (hctr : (s.peer u.peer).rxCtr < u.ctr.toNat) :
    s.helloReceived u serving role
      = if (!serving && (s.hailed u serving role).standby && (s.hailed u serving role).partner == some u.peer.val) = true then
          { s.hailed u serving role with plk := { (s.hailed u serving role).plk with due := true } } else s.hailed u serving role := by
  have hhail : ((s.setPeer u.peer { s.peer u.peer with rxCtr := u.ctr.toNat }).noteHeard u.peer u.port).setPeer u.peer
      { ((s.setPeer u.peer { s.peer u.peer with rxCtr := u.ctr.toNat }).noteHeard u.peer u.port).peer u.peer with
        serving := serving, role := role, hello := some s.tim.ts } = s.hailed u serving role := by
    rw [State.noteHeard_eq, State.peer_setPeer_same, State.peer_setPeer_same, State.setPeer_setPeer, State.setPeer_setPeer]
    rfl
  rw [← hhail]
  simp only [State.helloReceived, s.acceptUpl_accepts u hport hmic hkeyed hctr]
  rfl

theorem State.helloReceived_notes (s : State) (u : UplIn) (serving : Bool) (role : Nat) (hport : s.uplPort u.port = true) (hmic : u.mic = true)
    (hkeyed : (s.peer u.peer).keyed = true) (hctr : (s.peer u.peer).rxCtr < u.ctr.toNat) :
    (s.helloReceived u serving role).peer u.peer = (s.hailed u serving role).peer u.peer
    ∧ (s.helloReceived u serving role).tim = s.tim
    ∧ (serving = false → (s.helloReceived u serving role).standby = true → (s.helloReceived u serving role).partner = some u.peer.val →
        (s.helloReceived u serving role).plk.due = true) := by
  rw [s.helloReceived_eq u serving role hport hmic hkeyed hctr]
  split
  next => exact ⟨rfl, rfl, fun _ _ _ => rfl⟩
  next hstay =>
    refine ⟨rfl, rfl, fun hserve hstandby hpartner => absurd ?_ hstay⟩
    have hsilent : (!serving) = true := by rw [hserve]; rfl
    exact Bool.and_eq_true_iff.mpr ⟨Bool.and_eq_true_iff.mpr ⟨hsilent, hstandby⟩, beq_iff_eq.mpr hpartner⟩

/-! ### ETH_LINK_CHANGE (R318) -/

/-- A port shows whether it has link, and its speed. -/
def State.showLink (s : State) (q : Nat) (on : Bool) (speed : Nat) : State :=
  (s.setBit (PLK_PSTAT_LINK q) on).setFld (PLK_PSTAT_SPEED q) (if on then speed else 0)

theorem State.showLink_shows (s : State) (q : Fin 2) (on : Bool) (speed : Fin 4) : (s.showLink q on speed).isSet (PLK_PSTAT_LINK q) = on
    ∧ (s.showLink q on speed).fld (PLK_PSTAT_SPEED q) = (if on then speed.val else 0)
    ∧ (s.showLink q on speed).fld (routeCount 185) = s.fld (routeCount 185) := by
  have hlt : (if on then speed.val else 0) < 4 := by split <;> omega
  refine ⟨?_, ?_, ?_⟩
  · rw [State.isSet, State.showLink, State.fld_setFld_keeps _ _ _ _ (by simp [PLK_PSTAT_SPEED]) (by simp [PLK_PSTAT_SPEED, PLK_PSTAT_LINK]),
      State.setBit, State.fld_setFld_same _ _ _ (by simp [PLK_PSTAT_LINK])]
    cases on <;> rfl
  · exact (State.fld_setFld_same _ _ _ (by simp [PLK_PSTAT_SPEED])).trans (Nat.mod_eq_of_lt hlt)
  · have hne : (routeCount 185).addr ≠ PLK_PSTAT q := by simp only [routeCount, PLK_PSTAT]; omega
    exact (State.fld_setFld_other_word _ (PLK_PSTAT_SPEED q) (routeCount 185) _ hne).trans
      (State.fld_of_get _ (s.get_setBit_other (PLK_PSTAT_LINK q) on _ hne))

theorem State.ethLink_eq (s : State) (q : Nat) (up : Bool) (speed : Nat) :
    s.ethLink q up speed
      = if (s.isSet (PLK_PSTAT_LINK q) == (up && s.beating && s.live (0x11 + q) && s.isSet (PLK_PCFG_MODE q))) = true then
          s.showLink q (up && s.beating && s.live (0x11 + q) && s.isSet (PLK_PCFG_MODE q)) speed
        else (s.showLink q (up && s.beating && s.live (0x11 + q) && s.isSet (PLK_PCFG_MODE q)) speed).raise 185 := rfl

theorem State.ethLink_shows (s : State) (q : Fin 2) (up on : Bool) (speed : Fin 4)
    (hon : (up && s.beating && s.live (0x11 + q) && s.isSet (PLK_PCFG_MODE q)) = on) :
    (s.ethLink q up speed).isSet (PLK_PSTAT_LINK q) = on ∧ (s.ethLink q up speed).fld (PLK_PSTAT_SPEED q) = (if on then speed.val else 0)
    ∧ (s.isSet (PLK_PSTAT_LINK q) ≠ on → (s.ethLink q up speed).fld (routeCount 185) = min (s.fld (routeCount 185) + 1) 0xFFFFFFFF) := by
  obtain ⟨hlink, hspeed, hcount⟩ := s.showLink_shows q on speed
  have hplace : PLK_PSTAT q < 0x100000 := by simp only [PLK_PSTAT]; omega
  rw [s.ethLink_eq, hon]
  split
  next hsame => exact ⟨hlink, hspeed, fun hchange => absurd (beq_iff_eq.mp hsame) hchange⟩
  next =>
    refine ⟨(congrArg (· != 0) (State.fld_raise_low _ _ _ (PLK_PSTAT_LINK q) hplace)).trans hlink,
      (State.fld_raise_low _ _ _ (PLK_PSTAT_SPEED q) hplace).trans hspeed, fun _ => ?_⟩
    rw [State.fld_routeCount_raise _ _ _ (by decide), hcount]

/-! ### O41 -/

/-- Settles O41. -/
theorem peersAndKeying : Obligations.PeersAndKeying := by
  unfold Obligations.PeersAndKeying
  intro s
  refine ⟨?announce, fun q a p hport huid => ⟨fun hnone hrefused hfree => ?new, fun hknown hkeyed hepoch => ?again⟩,
    fun p => ⟨fun hst hok => ?keyed, fun hst hrej h0 h1 => ?aged, fun hst => ⟨_, rfl, s.rejectExpired_frees p hst⟩⟩,
    ⟨_, rfl, fun p hp q hq hkeyed hport => s.sendHellos_sends p q hp hq hkeyed hport⟩,
    fun u serving role tv hport hmic hkeyed hctr => ?hello, fun q up speed => ⟨_, rfl, s.ethLink_shows q up _ speed rfl⟩⟩
  case announce =>
    obtain ⟨o, d, hrun, hout⟩ := s.foldl_announce ([0, 1].filter s.uplPort)
    exact ⟨_, congrArg Host.Outcome.next hrun, rfl, hout⟩
  case new =>
    obtain ⟨htold, hunfit, hfit⟩ := s.newPeer_enters p q a
    refine ⟨_, congrArg Host.Outcome.next (s.announceReceived_new q p a hport huid hnone hrefused hfree), htold.uid, htold.cellid,
      htold.epoch, htold.pubX, htold.pubY, htold.heard, ?_, fun hrej => ?_⟩
    · split
      next hbad => exact (hunfit ((s.unfit_iff a).mpr hbad)).1
      next hgood => exact hfit (Bool.eq_false_iff.mpr fun h => hgood ((s.unfit_iff a).mp h))
    · cases hbad : s.unfit a with
      | true => exact (hunfit hbad).2
      | false => exact absurd (hrej.symm.trans (hfit hbad)) (by decide)
  case again => exact ⟨_, rfl, s.announceReceived_again q p a hport huid hknown hkeyed hepoch⟩
  case keyed =>
    obtain ⟨hkey, hpeer, hcount⟩ := s.keyingDone_keys p hst hok
    refine ⟨_, rfl, hkey, ?_, ?_, ?_, hcount⟩ <;> rw [hpeer]
  case aged => exact ⟨_, rfl, s.peerAgeOut_frees p hst hrej h0 h1⟩
  case hello =>
    obtain ⟨hpeer, htim, hdue⟩ := s.helloReceived_notes u serving role hport hmic hkeyed hctr
    obtain ⟨-, -, -, -, -, -, hrx⟩ := ({ s.peer u.peer with rxCtr := u.ctr.toNat } : Peer).hears_keeps u.port s.tim.ts s.beat
    have hheard := s.heardOn_hears { s.peer u.peer with rxCtr := u.ctr.toNat } u.port s.beat
    refine ⟨_, rfl, ?_, ?_, ?_, ?_, ?_, hdue⟩
    · rw [hpeer, State.hailed, State.peer_setPeer_same]
    · rw [hpeer, State.hailed, State.peer_setPeer_same]
    · rw [hpeer, State.hailed, State.peer_setPeer_same]
      exact hrx
    · rw [hpeer, State.hailed, State.peer_setPeer_same]
    · rw [State.heardOn_congr htim, hpeer, State.hailed, State.peer_setPeer_same]
      exact hheard

end Sys2Proof.Machine

/-! Leased counters that move (R334, R415): what a raise leaves alone, and the value that is given out after it. -/

namespace Sys2Proof.Machine

open Sys2Proof.Fields Sys2Proof.Laws

/-! ### What the mirror of records and counters leaves alone (R332) -/

/-- `t` follows from `s` by writes of node records and by counters that move under their leases. -/
structure State.Mirrors (s t : State) : Prop where
  tim : t.tim = s.tim
  out : t.out = s.out
  cast : t.sys.cast = s.sys.cast
  held : t.sys.held = s.sys.held
  keys : t.sec.keys = s.sec.keys
  peers : t.plk.peers = s.plk.peers
  regs : ∀ a, a ≠ MGT_CRU_LEASE → t.get a = s.get a

theorem State.Mirrors.refl (s : State) : s.Mirrors s := ⟨rfl, rfl, rfl, rfl, rfl, rfl, fun _ _ => rfl⟩

theorem State.Mirrors.trans {s t u : State} (h : s.Mirrors t) (h' : t.Mirrors u) : s.Mirrors u :=
  ⟨h'.tim.trans h.tim, h'.out.trans h.out, h'.cast.trans h.cast, h'.held.trans h.held, h'.keys.trans h.keys, h'.peers.trans h.peers,
    fun a ha => (h'.regs a ha).trans (h.regs a ha)⟩

theorem State.Mirrors.foldl {α : Type} (f : State → α → State) (hf : ∀ (u : State) (x : α), u.Mirrors (f u x)) (l : List α) (s : State) :
    s.Mirrors (l.foldl f s) := by
  induction l generalizing s with
  | nil => exact .refl s
  | cons x l ih => exact (hf s x).trans (ih _)

theorem State.Mirrors.fld {s t : State} (h : s.Mirrors t) (f : Fld) (hf : f.addr ≠ MGT_CRU_LEASE) : t.fld f = s.fld f :=
  State.fld_of_get f (h.regs f.addr hf)

theorem State.Mirrors.peer {s t : State} (h : s.Mirrors t) (p : Nat) : t.peer p = s.peer p := congrArg (tabGet Peer.cold · p) h.peers

theorem State.mirrors_setNodeWord (s : State) (i w : Nat) (v : Word) : s.Mirrors (s.setNodeWord i w v) :=
  ⟨rfl, rfl, rfl, rfl, rfl, rfl, fun _ _ => rfl⟩

theorem State.mirrors_noteMirror (s : State) (i : Nat) : s.Mirrors (s.noteMirror i) := by
  unfold State.noteMirror
  split
  · exact ⟨rfl, rfl, rfl, rfl, rfl, rfl, fun _ _ => rfl⟩
  · exact .refl s

theorem State.mirrors_setNr (s : State) (i : Nat) (f : Fld) (v : Nat) : s.Mirrors ((s.setNr i f v).noteMirror i) :=
  (s.mirrors_setNodeWord i _ _).trans (State.mirrors_noteMirror _ i)

/-- A counter that no register of a campaign holds. -/
def LeaseKey.mirrored : LeaseKey → Prop
  | .camp _ => False
  | _ => True

theorem State.mirrors_setHeld (s : State) (k : LeaseKey) (v : Nat) (hk : k.mirrored) : s.Mirrors (s.setHeld k v) := by
  cases k with
  | acc i => exact s.mirrors_setNr i NR_ACCCTR v
  | dn i => exact s.mirrors_setNr i NR_DNCTR v
  | join i => exact s.mirrors_setNr i NR_JOINCTR v
  | beacon n => exact ⟨rfl, rfl, rfl, rfl, rfl, rfl, fun _ _ => rfl⟩
  | camp c => exact hk.elim

/-! ### A raise of a counter (R415) -/

/-- A raise of a counter that has to wait. -/
def State.waitFor (s : State) (k : LeaseKey) (v : Nat) : State := { s with cru := { s.cru with waiting := s.cru.waiting ++ [(k, v)] } }

theorem State.raiseCounter_eq (s : State) (k : LeaseKey) (v : Nat) : s.raiseCounter k v =
    if s.cru.waiting.any (fun p => p.1 == k) then (s.count MGT_CRU_LEASE_WAITS).waitFor k v
    else if v ≤ s.leaseBase k + 256 then s.setHeld k v
    else ((s.count MGT_CRU_LEASE_WAITS).queueLease k (v - 1)).waitFor k v := rfl

theorem State.count_waits (s : State) : s.Mirrors (s.count MGT_CRU_LEASE_WAITS) :=
  ⟨rfl, rfl, rfl, rfl, rfl, rfl, fun a ha => s.get_count_other _ a ha⟩

/-- What the write queue leaves alone. -/
theorem State.queueLease_keeps (s : State) (k : LeaseKey) (l : Nat) : s.Mirrors (s.queueLease k l)
    ∧ (s.queueLease k l).cru.waiting = s.cru.waiting ∧ (s.queueLease k l).nodes = s.nodes ∧ (s.queueLease k l).sec = s.sec := by
  rw [State.queueLease]
  exact ⟨⟨rfl, rfl, rfl, rfl, rfl, rfl, fun _ _ => rfl⟩, rfl, rfl, rfl⟩

theorem State.mirrors_raiseCounter (s : State) (k : LeaseKey) (v : Nat) (hk : k.mirrored) : s.Mirrors (s.raiseCounter k v) := by
  have hwait (u : State) : u.Mirrors (u.waitFor k v) := ⟨rfl, rfl, rfl, rfl, rfl, rfl, fun _ _ => rfl⟩
  rw [s.raiseCounter_eq]
  split
  · exact s.count_waits.trans (hwait _)
  · split
    · exact s.mirrors_setHeld k v hk
    · exact (s.count_waits.trans (State.queueLease_keeps _ k (v - 1)).1).trans (hwait _)

theorem State.mirrors_liftCounter (s : State) (k : LeaseKey) (v : Nat) (hk : k.mirrored) : s.Mirrors (s.liftCounter k v) := by
  unfold State.liftCounter
  split
  · exact s.mirrors_raiseCounter k _ hk
  · exact .refl s

/-- The word of a record that a counter stands in; no word for the others. -/
def LeaseKey.word : LeaseKey → Nat
  | .acc _ => 6
  | .dn _ => 24
  | .join _ => 25
  | _ => 32

theorem State.nodes_noteMirror (s : State) (i : Nat) : (s.noteMirror i).nodes = s.nodes := by
  obtain ⟨p, h⟩ := s.noteMirror_eq i
  rw [h]

theorem State.nodes_setNr_other (s : State) (i : Nat) (f : Fld) (v a : Nat) (hf : f.addr / 4 < 32) (ha : a % 32 ≠ f.addr / 4) :
    tabGet 0 ((s.setNr i f v).noteMirror i).nodes a = tabGet 0 s.nodes a := by
  rw [State.nodes_noteMirror]
  exact tabGet_set_other 0 0 (by omega) _ s.nodes

theorem State.nodes_setHeld (s : State) (k : LeaseKey) (v a : Nat) (ha : a % 32 ≠ k.word) :
    tabGet 0 (s.setHeld k v).nodes a = tabGet 0 s.nodes a := by
  cases k with
  | acc i => exact s.nodes_setNr_other i NR_ACCCTR v a (by decide) ha
  | dn i => exact s.nodes_setNr_other i NR_DNCTR v a (by decide) ha
  | join i => exact s.nodes_setNr_other i NR_JOINCTR v a (by decide) ha
  | beacon n => rfl
  | camp c => rfl

theorem State.nodes_raiseCounter (s : State) (k : LeaseKey) (v a : Nat) (ha : a % 32 ≠ k.word) :
    tabGet 0 (s.raiseCounter k v).nodes a = tabGet 0 s.nodes a := by
  rw [s.raiseCounter_eq]
  split
  · rfl
  · split
    · exact s.nodes_setHeld k v a ha
    · exact congrArg (tabGet 0 · a) ((s.count MGT_CRU_LEASE_WAITS).queueLease_keeps k (v - 1)).2.2.1

theorem State.nodes_liftCounter (s : State) (k : LeaseKey) (v a : Nat) (ha : a % 32 ≠ k.word) :
    tabGet 0 (s.liftCounter k v).nodes a = tabGet 0 s.nodes a := by
  unfold State.liftCounter
  split
  · exact s.nodes_raiseCounter k _ a ha
  · rfl

/-! ### The value given out (R415) -/

theorem State.waiting_setHeld (s : State) (k : LeaseKey) (v : Nat) : (s.setHeld k v).cru.waiting = s.cru.waiting := by
  have hnote (t : State) (i : Nat) : (t.noteMirror i).cru.waiting = t.cru.waiting := by
    obtain ⟨p, h⟩ := t.noteMirror_eq i
    rw [h]
  cases k with
  | acc i => exact hnote (s.setNr i NR_ACCCTR v) i
  | dn i => exact hnote (s.setNr i NR_DNCTR v) i
  | join i => exact hnote (s.setNr i NR_JOINCTR v) i
  | beacon n => rfl
  | camp c => rfl

theorem State.nextValue_waitFor_same (s : State) (k : LeaseKey) (v : Nat) : (s.waitFor k v).nextValue k = v := by
  simp [State.nextValue, State.waitFor, List.filter_append]

theorem State.nextValue_waitFor_other (s : State) (k j : LeaseKey) (v : Nat) (h : k ≠ j) : (s.waitFor k v).nextValue j = s.nextValue j := by
  have hk : (k == j) = false := beq_eq_false_iff_ne.mpr h
  have hheld : (s.waitFor k v).held j = s.held j := by cases j <;> rfl
  have hlist : (s.waitFor k v).cru.waiting.filter (fun p => p.1 == j) = s.cru.waiting.filter (fun p => p.1 == j) := by
    simp [State.waitFor, List.filter_append, hk]
  rw [State.nextValue, State.nextValue, hlist, hheld]

/-- Where no update waits, the value given out last is the one held. -/
theorem State.nextValue_held (s : State) (k : LeaseKey) (h : s.cru.waiting.any (fun p => p.1 == k) = false) : s.nextValue k = s.held k := by
  have hnone : s.cru.waiting.filter (fun p => p.1 == k) = [] := List.filter_eq_nil_iff.mpr (by simpa using h)
  rw [State.nextValue, hnone]
  rfl

theorem State.nextValue_congr {s t : State} (k : LeaseKey) (hw : t.cru.waiting = s.cru.waiting) (hheld : t.held k = s.held k) :
    t.nextValue k = s.nextValue k := by
  rw [State.nextValue, State.nextValue, hw, hheld]

/-- The counter of a record, and the word that it fills. -/
def LeaseKey.ofRecord : LeaseKey → Prop
  | .acc _ | .dn _ | .join _ => True
  | _ => False

theorem State.nr_noteMirror (s : State) (i j : Nat) (f : Fld) : (s.noteMirror i).nr j f = s.nr j f := by
  simp only [State.nr, State.nodeWord, State.nodes_noteMirror]

theorem State.held_setHeld_same (s : State) (k : LeaseKey) (v : Nat) (hk : k.ofRecord) (hv : v < 2 ^ 32) : (s.setHeld k v).held k = v := by
  have hword (i : Nat) (f : Fld) (hlo : f.lo = 0) (hlen : f.len = 32) : ((s.setNr i f v).noteMirror i).nr i f = v := by
    rw [State.nr_noteMirror, State.nr_setNr_same _ _ _ _ (by omega), hlen, Nat.mod_eq_of_lt hv]
  cases k with
  | acc i => exact hword i NR_ACCCTR rfl rfl
  | dn i => exact hword i NR_DNCTR rfl rfl
  | join i => exact hword i NR_JOINCTR rfl rfl
  | beacon n => exact hk.elim
  | camp c => exact hk.elim

theorem State.nextValue_raiseCounter_same (s : State) (k : LeaseKey) (v : Nat) (hk : k.ofRecord) (hv : v < 2 ^ 32) :
    (s.raiseCounter k v).nextValue k = v := by
  rw [s.raiseCounter_eq]
  split
  next => exact State.nextValue_waitFor_same _ k v
  next hnone =>
    split
    · rw [State.nextValue_held _ _ (by rw [State.waiting_setHeld]; exact Bool.eq_false_iff.mpr hnone), s.held_setHeld_same k v hk hv]
    · exact State.nextValue_waitFor_same _ k v

/-- A lifted counter has given out at least the value it was lifted to. -/
theorem State.le_nextValue_liftCounter (s : State) (k : LeaseKey) (v : Word) (hk : k.ofRecord) :
    v.toNat ≤ (s.liftCounter k v.toNat).nextValue k := by
  have hmin : min v.toNat 0xFFFFFFFF = v.toNat := by have := v.isLt; omega
  unfold State.liftCounter
  split
  next => rw [hmin, s.nextValue_raiseCounter_same k _ hk v.isLt]
  next h => omega

/-- A counter of a record follows the record's words alone. -/
theorem State.held_congr {s t : State} (k : LeaseKey) (hk : k.ofRecord) (h : ∀ a, a % 32 = k.word → tabGet 0 t.nodes a = tabGet 0 s.nodes a) :
    t.held k = s.held k := by
  have hword (i w : Nat) (f : Fld) (hf : f.addr / 4 = w) (hw : tabGet 0 t.nodes (i * 32 + w) = tabGet 0 s.nodes (i * 32 + w)) :
      t.nr i f = s.nr i f := by
    rw [State.nr, State.nr, State.nodeWord, State.nodeWord, hf, hw]
  cases k with
  | acc i => exact hword i 6 NR_ACCCTR rfl (h _ (by rw [LeaseKey.word]; omega))
  | dn i => exact hword i 24 NR_DNCTR rfl (h _ (by rw [LeaseKey.word]; omega))
  | join i => exact hword i 25 NR_JOINCTR rfl (h _ (by rw [LeaseKey.word]; omega))
  | beacon n => exact hk.elim
  | camp c => exact hk.elim

/-- A counter of a record does not move with a counter that stands in another word. -/
theorem State.nextValue_liftCounter_other (s : State) (k j : LeaseKey) (v : Nat) (hj : j.ofRecord) (h : j.word ≠ k.word) :
    (s.liftCounter k v).nextValue j = s.nextValue j := by
  have hne : k ≠ j := fun e => h (by rw [e])
  unfold State.liftCounter
  split
  · rw [s.raiseCounter_eq]
    split
    · exact (State.nextValue_waitFor_other _ k j _ hne).trans
        (State.nextValue_congr j rfl (State.held_congr j hj fun a _ => rfl))
    · split
      · exact State.nextValue_congr j (s.waiting_setHeld k _)
          (State.held_congr j hj fun a ha => s.nodes_setHeld k _ a (by rw [ha]; exact h))
      · obtain ⟨-, hwait, hnodes, -⟩ := (s.count MGT_CRU_LEASE_WAITS).queueLease_keeps k (min v 0xFFFFFFFF - 1)
        exact (State.nextValue_waitFor_other _ k j _ hne).trans
          (State.nextValue_congr j hwait (State.held_congr j hj fun a _ => congrArg (tabGet 0 · a) hnodes))
  · rfl

end Sys2Proof.Machine

/-! Mirrors, their acknowledgements and lag, a silent partner, alarms and data between peers (R326, R331, R332, R333, R336). -/

namespace Sys2Proof.Machine

open Sys2Proof.Fields Sys2Proof.Laws

/-! ### Messages that leave by the first port (R322) -/

/-- A port that carries messages to a peer is found again where ports, clock and the peer's hearing are as before. -/
theorem State.portFor_congr {s t : State} (p : Nat) (hcast : t.sys.cast = s.sys.cast) (hheld : t.sys.held = s.sys.held) (htim : t.tim = s.tim)
    (hget : ∀ a, a = MGT_MODE ∨ a = PLK_CFG ∨ a = PLK_PSTAT 0 ∨ a = PLK_PSTAT 1 → t.get a = s.get a)
    (h0 : (t.peer p).heard0 = (s.peer p).heard0) (h1 : (t.peer p).heard1 = (s.peer p).heard1) : t.portFor p 0 = s.portFor p 0 := by
  have hmode : t.mode = s.mode := State.fld_of_get MGT_MODE_MODE (hget _ (.inl rfl))
  have hon : t.isSet PLK_CFG_UPLEN = s.isSet PLK_CFG_UPLEN :=
    congrArg (· != 0) (State.fld_of_get PLK_CFG_UPLEN (hget _ (.inr (.inl rfl))))
  have hlink (q : Nat) (hq : PLK_PSTAT q = PLK_PSTAT 0 ∨ PLK_PSTAT q = PLK_PSTAT 1) :
      t.isSet (PLK_PSTAT_LINK q) = s.isSet (PLK_PSTAT_LINK q) :=
    congrArg (· != 0) (State.fld_of_get (PLK_PSTAT_LINK q) (hget _ (.inr (.inr hq))))
  have hport (q : Nat) (hq : PLK_PSTAT q = PLK_PSTAT 0 ∨ PLK_PSTAT q = PLK_PSTAT 1) : t.uplPort q = s.uplPort q := by
    simp only [State.uplPort, State.portUp, State.live, State.isCast, State.isHeld, State.beating, hcast, hheld, hmode, hlink q hq, hon]
  have hheard0 : t.heardOn (t.peer p) 0 = s.heardOn (s.peer p) 0 := by
    rw [State.heardOn, State.heardOn, State.within_congr htim, if_pos rfl, if_pos rfl, h0]
  have hheard1 : t.heardOn (t.peer p) 1 = s.heardOn (s.peer p) 1 := by
    rw [State.heardOn, State.heardOn, State.within_congr htim, if_neg (by decide), if_neg (by decide), h1]
  simp only [State.portFor, List.find?, hport 0 (.inl rfl), hport 1 (.inr rfl), hheard0, hheard1, Nat.sub_zero]

/-- A message to a keyed peer leaves where a port serves. -/
theorem State.sendUpl_leaves (s : State) (p ty : Nat) (ws : List Nat) (hkeyed : (s.peer p).keyed = true) (hport : s.portFor p 0 ≠ none) :
    ∃ q c d ctr b, Out.upl q p ty c d ctr b ws ∈ (s.sendUpl p ty ws).out := by
  obtain ⟨q, hq⟩ := Option.ne_none_iff_exists'.mp hport
  refine ⟨q, s.fld MAC_CELLID_CELLID, (s.peer p).cellid, (s.peer p).txCtr, s.beat, ?_⟩
  rw [State.sendUpl, hkeyed, Bool.not_true, if_neg (by decide), hq]
  exact (s.sendOn_sends q p ty ws).2

/-- `t` follows from `s` by messages: records, counters, ledgers, keys and the link's own lists stay. -/
structure State.LinkSends (s t : State) : Prop where
  nodes : t.nodes = s.nodes
  cru : t.cru = s.cru
  mac : t.mac = s.mac
  sec : t.sec = s.sec
  mirror : t.plk.lastMirror = s.plk.lastMirror
  alarms : t.plk.alarms = s.plk.alarms

theorem State.linkSends_sendUpl (s : State) (p ty : Nat) (ws : List Nat) : s.LinkSends (s.sendUpl p ty ws) := by
  have hpost (q : Nat) : s.LinkSends (s.posted q p ty ws) := ⟨rfl, rfl, rfl, rfl, rfl, rfl⟩
  unfold State.sendUpl
  split
  · exact ⟨rfl, rfl, rfl, rfl, rfl, rfl⟩
  · split
    next q _ =>
      rw [s.sendOn_eq]
      split
      · obtain ⟨h1, h2, h3, h4, h5, h6⟩ := hpost q
        exact ⟨h1, h2, h3, h4, h5, h6⟩
      · exact hpost q
    next => exact ⟨rfl, rfl, rfl, rfl, rfl, rfl⟩

/-! ### MIRROR_RECEIVED (R332) -/

/-- Words written one after another: a place that is written holds its word, every other its former one. -/
theorem State.nodeWord_foldl_setNodeWord (i : Nat) (w : Nat → Nat) (hw : ∀ a b, w a = w b → a = b) (g : Nat → Word) (l : List Nat) (s : State)
    (x : Nat) : (l.foldl (fun s k => s.setNodeWord i (w k) (g k)) s).nodeWord i (w x) = if x ∈ l then g x else s.nodeWord i (w x) := by
  induction l generalizing s with
  | nil => rfl
  | cons k l ih =>
    rw [List.foldl_cons, ih]
    by_cases hl : x ∈ l
    · rw [if_pos hl, if_pos (List.mem_cons_of_mem k hl)]
    · rw [if_neg hl]
      by_cases hx : x = k
      · rw [hx, State.nodeWord_setNodeWord_same, if_pos List.mem_cons_self]
      · rw [State.nodeWord_setNodeWord_other _ _ _ _ _ (fun h => hx (hw _ _ h)), if_neg (by simp [hx, hl])]

/-- A place that no write names keeps its word. -/
theorem State.nodeWord_foldl_beside (i : Nat) (w : Nat → Nat) (g : Nat → Word) (l : List Nat) (s : State) (x : Nat)
    (hx : ∀ k ∈ l, x ≠ w k) :
    (l.foldl (fun s k => s.setNodeWord i (w k) (g k)) s).nodeWord i x = s.nodeWord i x :=
  foldl_keeps (State.nodeWord · i x) _ l s fun k hk c => State.nodeWord_setNodeWord_other c i (w k) x (g k) (hx k hk)

/-- The words of a mirrored record that no counter stands in, as they are written. -/
def State.mirrorWords (s : State) (r : MirrorRec) : State :=
  ([2, 3, 4, 5, 6] : List Nat).foldl (fun s k => s.setNodeWord r.idx.toNat (24 + k) (r.hi.getD k 0))
    (([0, 1, 2, 3, 4, 5, 7, 8, 9, 10, 11, 12, 13, 14, 15] : List Nat).foldl (fun s k => s.setNodeWord r.idx.toNat k (r.lo.getD k 0)) s)

theorem State.mirrorWords_lo (s : State) (r : MirrorRec) (k : Nat) (hk : k ∈ [0, 1, 2, 3, 4, 5, 7, 8, 9, 10, 11, 12, 13, 14, 15]) :
    (s.mirrorWords r).nodeWord r.idx.toNat k = r.lo.getD k 0 := by
  have hlt : k < 24 := by
    have hall : ∀ k ∈ [0, 1, 2, 3, 4, 5, 7, 8, 9, 10, 11, 12, 13, 14, 15], k < 24 := by decide
    exact hall k hk
  rw [State.mirrorWords, State.nodeWord_foldl_beside _ (24 + ·) _ _ _ _ (fun j _ => by omega),
    State.nodeWord_foldl_setNodeWord _ (fun k => k) (fun _ _ h => h), if_pos hk]

theorem State.mirrorWords_hi (s : State) (r : MirrorRec) (k : Nat) (hk : k ∈ [2, 3, 4, 5, 6]) :
    (s.mirrorWords r).nodeWord r.idx.toNat (24 + k) = r.hi.getD k 0 := by
  rw [State.mirrorWords, State.nodeWord_foldl_setNodeWord _ (24 + ·) (fun _ _ h => by omega), if_pos hk]

theorem State.mirrors_mirrorWords (s : State) (r : MirrorRec) : s.Mirrors (s.mirrorWords r) :=
  (State.Mirrors.foldl _ (fun u k => u.mirrors_setNodeWord _ k _) _ s).trans
    (State.Mirrors.foldl _ (fun u k => u.mirrors_setNodeWord _ (24 + k) _) _ _)

/-- A record's three counters are lifted to the mirrored ones. -/
def State.liftRecord (s : State) (r : MirrorRec) : State :=
  ((s.liftCounter (.acc r.idx.toNat) (r.lo.getD 6 0).toNat).liftCounter (.dn r.idx.toNat) (r.hi.getD 0 0).toNat).liftCounter
    (.join r.idx.toNat) (r.hi.getD 1 0).toNat

theorem State.mirrorWrite_eq (s : State) (p : Nat) (r : MirrorRec) (h : r.keys = none) : s.mirrorWrite p r = (s.mirrorWords r).liftRecord r := by
  rw [State.mirrorWrite, h]
  rfl

theorem State.mirrors_liftRecord (s : State) (r : MirrorRec) : s.Mirrors (s.liftRecord r) :=
  ((s.mirrors_liftCounter (.acc _) _ trivial).trans (State.mirrors_liftCounter _ (.dn _) _ trivial)).trans
    (State.mirrors_liftCounter _ (.join _) _ trivial)

theorem State.nodeWord_liftRecord (s : State) (r : MirrorRec) (i w : Nat) (hw : w < 32) (hne : w ≠ 6 ∧ w ≠ 24 ∧ w ≠ 25) :
    (s.liftRecord r).nodeWord i w = s.nodeWord i w := by
  obtain ⟨hacc, hdn, hjoin⟩ := hne
  rw [State.nodeWord, State.liftRecord, State.nodes_liftCounter _ _ _ _ (by simp only [LeaseKey.word]; omega),
    State.nodes_liftCounter _ _ _ _ (by simp only [LeaseKey.word]; omega), State.nodes_liftCounter _ _ _ _ (by simp only [LeaseKey.word]; omega)]
  rfl

theorem State.liftRecord_lifts (s : State) (r : MirrorRec) : (r.lo.getD 6 0).toNat ≤ (s.liftRecord r).nextValue (.acc r.idx.toNat)
    ∧ (r.hi.getD 0 0).toNat ≤ (s.liftRecord r).nextValue (.dn r.idx.toNat) := by
  constructor
  · rw [State.liftRecord, State.nextValue_liftCounter_other _ _ (.acc _) _ trivial (by simp [LeaseKey.word]),
      State.nextValue_liftCounter_other _ _ (.acc _) _ trivial (by simp [LeaseKey.word])]
    exact State.le_nextValue_liftCounter _ (.acc _) _ trivial
  · rw [State.liftRecord, State.nextValue_liftCounter_other _ _ (.dn _) _ trivial (by simp [LeaseKey.word])]
    exact State.le_nextValue_liftCounter _ (.dn _) _ trivial

/-- The beacon counters of the lanes are lifted to the mirrored ones. -/
def State.liftBeacons (s : State) (b : List Word) : State :=
  (List.range 4).foldl (fun s n => s.liftCounter (.beacon n) (b.getD n 0).toNat) s

theorem State.mirrors_liftBeacons (s : State) (b : List Word) : s.Mirrors (s.liftBeacons b) :=
  .foldl _ (fun u n => u.mirrors_liftCounter (.beacon n) _ trivial) _ s

theorem State.nodeWord_liftBeacons (s : State) (b : List Word) (i w : Nat) : (s.liftBeacons b).nodeWord i w = s.nodeWord i w :=
  foldl_keeps (State.nodeWord · i w) _ _ s fun _ _ c => c.nodes_liftCounter _ _ _ (by simp only [LeaseKey.word]; omega)

theorem State.nextValue_liftBeacons (s : State) (b : List Word) (k : LeaseKey) (hk : k.ofRecord) : (s.liftBeacons b).nextValue k = s.nextValue k := by
  refine foldl_keeps (State.nextValue · k) _ _ s fun _ _ c => c.nextValue_liftCounter_other _ k _ hk ?_
  cases k with
  | acc i => simp [LeaseKey.word]
  | dn i => simp [LeaseKey.word]
  | join i => simp [LeaseKey.word]
  | beacon n => exact hk.elim
  | camp n => exact hk.elim

/-- A mirrored ledger bucket is set. -/
def State.setBucket (s : State) (g : Fin 3) (e : Fin 17) (sec us : Word) : State :=
  s.setLedger (ledgerNo g e) { s.ledger (ledgerNo g e) with buckets := tabSet 0 sec.toNat us.toNat (s.ledger (ledgerNo g e)).buckets }

theorem State.bucket_setBucket (s : State) (g : Fin 3) (e : Fin 17) (sec us : Word) : (s.setBucket g e sec us).bucket g e sec.toNat = us.toNat := by
  rw [State.bucket, State.setBucket, State.ledger, State.setLedger, tabGet_set_same, tabGet_set_same]

/-- What one mirrored record with no keys, the beacon counters and one bucket make of the standby. -/
def State.mirrored (s : State) (r : MirrorRec) (b : List Word) (g : Fin 3) (e : Fin 17) (sec us : Word) : State :=
  (((s.mirrorWords r).liftRecord r).liftBeacons b).setBucket g e sec us

theorem State.mirrors_mirrored (s : State) (r : MirrorRec) (b : List Word) (g : Fin 3) (e : Fin 17) (sec us : Word) :
    s.Mirrors (s.mirrored r b g e sec us) :=
  (((s.mirrors_mirrorWords r).trans (State.mirrors_liftRecord _ r)).trans (State.mirrors_liftBeacons _ b)).trans
    ⟨rfl, rfl, rfl, rfl, rfl, rfl, fun _ _ => rfl⟩

/-- What stands in the records and ledgers of a standby after such a MIRROR. -/
structure State.HoldsMirror (t : State) (r : MirrorRec) (g : Fin 3) (e : Fin 17) (sec us : Word) : Prop where
  lo : ∀ k ∈ [0, 1, 2, 3, 4, 5, 7, 8, 9, 10, 11, 12, 13, 14, 15], t.nodeWord r.idx.toNat k = r.lo.getD k 0
  hi : ∀ k ∈ [2, 3, 4, 5, 6], t.nodeWord r.idx.toNat (24 + k) = r.hi.getD k 0
  acc : (r.lo.getD 6 0).toNat ≤ t.nextValue (.acc r.idx.toNat)
  dn : (r.hi.getD 0 0).toNat ≤ t.nextValue (.dn r.idx.toNat)
  bucket : t.bucket g e sec.toNat = us.toNat

theorem State.holdsMirror_mirrored (s : State) (r : MirrorRec) (b : List Word) (g : Fin 3) (e : Fin 17) (sec us : Word) :
    (s.mirrored r b g e sec us).HoldsMirror r g e sec us := by
  have hword (w : Nat) (hw : w < 32) (hne : w ≠ 6 ∧ w ≠ 24 ∧ w ≠ 25) :
      (s.mirrored r b g e sec us).nodeWord r.idx.toNat w = (s.mirrorWords r).nodeWord r.idx.toNat w :=
    (State.nodeWord_liftBeacons _ b _ w).trans (State.nodeWord_liftRecord _ r _ w hw hne)
  have hnext (k : LeaseKey) (hk : k.ofRecord) :
      (s.mirrored r b g e sec us).nextValue k = ((s.mirrorWords r).liftRecord r).nextValue k :=
    (State.nextValue_congr k rfl (State.held_congr k hk fun _ _ => rfl)).trans (State.nextValue_liftBeacons _ b k hk)
  obtain ⟨hacc, hdn⟩ := (s.mirrorWords r).liftRecord_lifts r
  constructor
  · intro k hk
    have hplace : ∀ k ∈ [0, 1, 2, 3, 4, 5, 7, 8, 9, 10, 11, 12, 13, 14, 15], k < 32 ∧ k ≠ 6 ∧ k ≠ 24 ∧ k ≠ 25 := by decide
    rw [hword k (hplace k hk).1 (hplace k hk).2, s.mirrorWords_lo r k hk]
  · intro k hk
    have hplace : ∀ k ∈ [2, 3, 4, 5, 6], 24 + k < 32 ∧ 24 + k ≠ 6 ∧ 24 + k ≠ 24 ∧ 24 + k ≠ 25 := by decide
    rw [hword (24 + k) (hplace k hk).1 (hplace k hk).2, s.mirrorWords_hi r k hk]
  · rw [hnext (.acc _) trivial]
    exact hacc
  · rw [hnext (.dn _) trivial]
    exact hdn
  · exact State.bucket_setBucket _ g e sec us

theorem State.LinkSends.holdsMirror {s t : State} (h : s.LinkSends t) {r : MirrorRec} {g : Fin 3} {e : Fin 17} {sec us : Word}
    (hs : s.HoldsMirror r g e sec us) : t.HoldsMirror r g e sec us := by
  have hword (i w : Nat) : t.nodeWord i w = s.nodeWord i w := congrArg (tabGet 0 · (i * 32 + w)) h.nodes
  have hnext (k : LeaseKey) (hk : k.ofRecord) : t.nextValue k = s.nextValue k :=
    State.nextValue_congr k (congrArg Cru.waiting h.cru) (State.held_congr k hk fun a _ => congrArg (tabGet 0 · a) h.nodes)
  have hbucket : t.bucket g e sec.toNat = s.bucket g e sec.toNat := by
    rw [State.bucket, State.bucket, State.ledger, State.ledger, h.mac]
  constructor
  · exact fun k hk => (hword _ _).trans (hs.lo k hk)
  · exact fun k hk => (hword _ _).trans (hs.hi k hk)
  · exact hs.acc.trans_eq (hnext (.acc _) trivial).symm
  · exact hs.dn.trans_eq (hnext (.dn _) trivial).symm
  · exact hbucket.trans hs.bucket

/-- The beat of a MIRROR is noted. -/
def State.noteBeat (s : State) : State := { s with plk := { s.plk with lastMirror := some s.beat } }

/-- A peer whose message has been accepted. -/
def State.accepting (s : State) (u : UplIn) : State := s.setPeer u.peer { s.peer u.peer with rxCtr := u.ctr.toNat }

theorem State.mirrorReceived_eq (s : State) (u : UplIn) (r : MirrorRec) (b : List Word) (g : Fin 3) (e : Fin 17) (sec us : Word)
    (haccept : s.acceptUpl u = (true, s.accepting u)) (hstandby : s.standby = true) (hpartner : (s.accepting u).partner = some u.peer.val)
    (hkeys : r.keys = none) :
    s.mirrorReceived u [r] ⟨none, b, [(g, e, sec, us)]⟩
      = (((s.accepting u).mirrored r b g e sec us).noteBeat).sendUpl u.peer uplMirrorAck [] := by
  have hstandby' : (s.accepting u).standby = true := hstandby
  have hwrite : ([r].foldl (fun s r => s.mirrorWrite u.peer r) (s.accepting u)).mirrorRest u.peer ⟨none, b, [(g, e, sec, us)]⟩
      = (s.accepting u).mirrored r b g e sec us := by
    rw [List.foldl_cons, List.foldl_nil, State.mirrorWrite_eq _ _ _ hkeys]
    rfl
  rw [State.mirrorReceived, haccept]
  dsimp only
  rw [hstandby', hpartner, if_neg (by simp), hwrite]
  rfl

theorem State.mirrorReceived_mirrors (s : State) (u : UplIn) (r : MirrorRec) (b : List Word) (g : Fin 3) (e : Fin 17) (sec us : Word)
    (haccept : s.acceptUpl u = (true, s.accepting u)) (hstandby : s.standby = true) (hpartner : (s.accepting u).partner = some u.peer.val)
    (hkeyed : (s.peer u.peer).keyed = true) (hkeys : r.keys = none) : ∃ t, exec (.mirrorReceived u [r] ⟨none, b, [(g, e, sec, us)]⟩) s = .next t
      ∧ t.HoldsMirror r g e sec us ∧ t.plk.lastMirror = some s.beat ∧ t.sec.keys = s.sec.keys
      ∧ (s.portFor u.peer 0 ≠ none → ∃ q c d ctr b, Out.upl q u.peer uplMirrorAck c d ctr b [] ∈ t.out) := by
  have hmirrors := (s.accepting u).mirrors_mirrored r b g e sec us
  have hholds := (s.accepting u).holdsMirror_mirrored r b g e sec us
  have hrun := s.mirrorReceived_eq u r b g e sec us haccept hstandby hpartner hkeys
  generalize (s.accepting u).mirrored r b g e sec us = m at hmirrors hholds hrun
  have hnoted : m.noteBeat.HoldsMirror r g e sec us := by
    obtain ⟨hlo, hhi, hacc, hdn, hbucket⟩ := hholds
    exact ⟨hlo, hhi, hacc, hdn, hbucket⟩
  have hsends := m.noteBeat.linkSends_sendUpl u.peer uplMirrorAck []
  have hbeat : m.beat = s.beat := hmirrors.fld TIM_BEATCNT_COUNT (by decide)
  have hpeer : m.noteBeat.peer u.peer = { s.peer u.peer with rxCtr := u.ctr.toNat } :=
    (hmirrors.peer u.peer).trans (s.peer_setPeer_same u.peer _)
  refine ⟨_, rfl, ?_⟩
  rw [hrun]
  refine ⟨hsends.holdsMirror hnoted, ?_, ?_, fun hport => ?_⟩
  · rw [hsends.mirror]
    exact congrArg some hbeat
  · rw [hsends.sec]
    exact hmirrors.keys
  · refine m.noteBeat.sendUpl_leaves u.peer uplMirrorAck [] (by rw [hpeer]; exact hkeyed) ?_
    rw [State.portFor_congr (s := s) (t := m.noteBeat) u.peer hmirrors.cast hmirrors.held hmirrors.tim ?_ (by rw [hpeer]) (by rw [hpeer])]
    · exact hport
    · intro a ha
      refine hmirrors.regs a ?_
      obtain rfl | rfl | rfl | rfl := ha <;> decide

/-! ### MIRROR_ACK_RECEIVED and MIRROR_LAG (R332) -/

theorem State.mirrorAckReceived_drops (s : State) (u : UplIn) (r : Rel) (haccept : s.acceptUpl u = (true, s.accepting u))
    (hr : s.plk.rel.find? (fun r => r.peer == u.peer.val && r.ty == uplMirror) = some r) :
    ∃ t, exec (.mirrorAckReceived u) s = .next t ∧ t.plk.rel = s.plk.rel.erase r
      ∧ ((∀ x ∈ t.plk.rel, x.ty ≠ uplMirror) → t.fld PLK_SBSTAT_LAG = 0) := by
  let d : State := { s.accepting u with plk := { (s.accepting u).plk with rel := s.plk.rel.erase r } }
  have hdrop : (s.accepting u).dropRel u.peer uplMirror = d := by
    have hfind : (s.accepting u).plk.rel.find? (fun r => r.peer == u.peer.val && r.ty == uplMirror) = some r := hr
    rw [State.dropRel, hfind]
    rfl
  have hrun : s.mirrorAck u = if d.plk.rel.any (fun r => r.ty == uplMirror) then d else d.setFld PLK_SBSTAT_LAG 0 := by
    rw [State.mirrorAck, haccept]
    dsimp only
    rw [hdrop]
    rfl
  refine ⟨_, rfl, ?_⟩
  rw [hrun]
  split
  next hany =>
    refine ⟨rfl, fun hnone => ?_⟩
    obtain ⟨x, hx, hty⟩ := List.any_eq_true.mp hany
    exact absurd (beq_iff_eq.mp hty) (hnone x hx)
  next => exact ⟨by simp [d], fun _ => State.fld_setFld_same _ PLK_SBSTAT_LAG 0 (by decide)⟩

theorem State.mirrorLag_raises (s : State) (hwait : ∃ r ∈ s.plk.rel, r.ty = uplMirror) (hlag : s.fld PLK_SBSTAT_LAG = 0) :
    ∃ t, exec .mirrorLag s = .next t ∧ t.fld PLK_SBSTAT_LAG = 1
      ∧ t.fld (routeCount 196) = min (s.fld (routeCount 196) + 1) 0xFFFFFFFF := by
  have hany : s.plk.rel.any (fun r => r.ty == uplMirror) = true := by simpa using hwait
  have hclear : s.isSet PLK_SBSTAT_LAG = false := by rw [State.isSet, hlag]; rfl
  have hrun : s.mirrorLag = (s.setFld PLK_SBSTAT_LAG 1).raise 196 := by
    rw [State.mirrorLag, hany, hclear]
    rfl
  refine ⟨_, rfl, ?_⟩
  rw [hrun]
  constructor
  · rw [State.fld_raise_low _ _ _ _ (by decide)]
    exact State.fld_setFld_same s PLK_SBSTAT_LAG 1 (by decide)
  · rw [State.fld_routeCount_raise _ _ _ (by decide), State.fld_setFld_other_word _ PLK_SBSTAT_LAG _ 1 (by decide)]

/-! ### Alarms (R336) -/

/-- The first copy of an alarm is posted. -/
theorem State.alarmReceived_posts (s : State) (u : UplIn) (a : AlarmIn) (haccept : s.acceptUpl u = (true, s.accepting u))
    (hroom : s.hst.xBuf.length < 16) (hnew : (u.peer.val, a.recidx.toNat, a.fcnt.toNat) ∉ s.plk.seen) :
    ∃ t x, exec (.alarmReceived u a) s = .next t ∧ t.hst.xBuf = s.hst.xBuf ++ [x] ∧ x.foreign = true ∧ x.fcnt = a.fcnt.toNat
      ∧ x.cellid = a.cellid.toNat ∧ x.rxTs = a.ts.toNat ∧ x.payload = a.payload ∧ x.seq = s.hst.xSeq
      ∧ t.fld (routeCount 197) = min (s.fld (routeCount 197) + 1) 0xFFFFFFFF := by
  let k := (u.peer.val, a.recidx.toNat, a.fcnt.toNat)
  let x : XRec := ⟨a.lane.val, a.tap.val, true, a.cellid.toNat, s.hst.xSeq, 0x3FFFF, a.fcnt.toNat, a.ts.toNat, s.tim.ts,
    a.rssi.toNat, a.again, a.payload⟩
  let v : State := { s.accepting u with plk := { (s.accepting u).plk with seen := k :: s.plk.seen } }
  have hseen : (s.accepting u).plk.seen.contains k = false := by
    rw [← Bool.not_eq_true, List.contains_iff_mem]
    exact hnew
  have hrun : s.alarmReceived u a = (v.posts x).raise 197 := by
    have hpost : v.postExpress { x with seq := 0, postTs := 0 } = v.posts x := State.postExpress_room v _ hroom
    rw [← hpost, State.alarmReceived, haccept]
    dsimp only
    rw [hseen]
    rfl
  refine ⟨_, x, rfl, ?_⟩
  rw [hrun, (State.holds_raise (v.posts x) 197 0).xBuf, State.fld_routeCount_raise _ _ _ (by decide)]
  exact ⟨rfl, rfl, rfl, rfl, rfl, rfl, rfl, rfl⟩

/-- A second copy of an alarm is dropped. -/
theorem State.alarmReceived_again (s : State) (u : UplIn) (a : AlarmIn) (haccept : s.acceptUpl u = (true, s.accepting u))
    (hseen : (u.peer.val, a.recidx.toNat, a.fcnt.toNat) ∈ s.plk.seen) :
    ∃ t, exec (.alarmReceived u a) s = .next t ∧ t.hst = s.hst
      ∧ t.plk.seen = s.plk.seen.erase (u.peer.val, a.recidx.toNat, a.fcnt.toNat) := by
  have hcontains : (s.accepting u).plk.seen.contains (u.peer.val, a.recidx.toNat, a.fcnt.toNat) = true := List.contains_iff_mem.mpr hseen
  have hrun : s.alarmReceived u a = { s.accepting u with plk := { (s.accepting u).plk with
      seen := s.plk.seen.erase (u.peer.val, a.recidx.toNat, a.fcnt.toNat) } } := by
    rw [State.alarmReceived, haccept]
    dsimp only
    rw [hcontains]
    rfl
  refine ⟨_, rfl, ?_⟩
  rw [hrun]
  exact ⟨rfl, rfl⟩

theorem State.alarmResend_leaves (s : State) (p : Nat) (a : Alarm) (r : List (Nat × Alarm)) (ha : s.plk.alarms = (p, a) :: r)
    (hkeyed : (s.peer p).keyed = true) (hport : s.portFor p 0 ≠ none) : ∃ t q c d ctr b, exec .alarmResend s = .next t ∧ t.plk.alarms = r
      ∧ Out.upl q p uplAlarm c d ctr b a.values ∈ t.out := by
  let d : State := { s with plk := { s.plk with alarms := r } }
  have hrun : s.alarmResend = d.sendUpl p uplAlarm a.values := by
    rw [State.alarmResend, ha]
  obtain ⟨q, c, e, ctr, b, hout⟩ := d.sendUpl_leaves p uplAlarm a.values hkeyed hport
  refine ⟨_, q, c, e, ctr, b, rfl, ?_⟩
  rw [hrun]
  exact ⟨(d.linkSends_sendUpl p uplAlarm a.values).alarms, hout⟩

/-! ### PARTNER_SILENCE and DATA_RECEIVED (R326, R333) -/

theorem State.partnerSilence_due (s : State) (q : Nat) (hstandby : s.standby = true) (hpartner : s.partner = some q)
    (hfence : s.silenceFenced q = false) : exec .partnerSilence s = .next { s with plk := { s.plk with due := true } } := by
  change Host.Outcome.next s.partnerSilent = _
  rw [State.partnerSilent, hpartner]
  dsimp only
  rw [hstandby, hfence]
  rfl

theorem State.dataReceived_enqueues (s : State) (u : UplIn) (rep : Bool) (body : List Byte) (haccept : s.acceptUpl u = (true, s.accepting u))
    (hroom : s.fwd.input.length < 1024) :
    ∃ t, exec (.dataReceived u rep body) s = .next t ∧ t.fwd = { s.fwd with input := s.fwd.input ++ [⟨body, 0, rep, s.beat⟩] } := by
  have hrun : exec (.dataReceived u rep body) s = .next ((s.accepting u).fwdEnqueue ⟨body, 0, rep, s.beat⟩) := by
    change execDataReceived u rep body s = _
    rw [execDataReceived, haccept]
    rfl
  refine ⟨_, hrun, ?_⟩
  rw [State.fwdEnqueue_room (s.accepting u) _ hroom]
  rfl

/-! ### O43 -/

/-- Settles O43: an accepted message changes its sender's counter alone, and each command then does what its rule says; the counters move
under their leases, so what has been given out last, and not the word held, is at least the mirrored value. -/
theorem standbyAndAlarms : Obligations.StandbyAndAlarms := by
  intro s u
  refine ⟨fun ⟨hport, hmic, hkeyed, hctr⟩ => ?_, s.mirrorLag_raises, s.partnerSilence_due, s.alarmResend_leaves u.peer⟩
  have haccept : s.acceptUpl u = (true, s.accepting u) := s.acceptUpl_accepts u hport hmic hkeyed hctr
  refine ⟨fun r b g e sec us hstandby hpartner hkeys => ?_, fun r hr => s.mirrorAckReceived_drops u r haccept hr,
    fun a hroom => ⟨s.alarmReceived_posts u a haccept hroom, s.alarmReceived_again u a haccept⟩,
    fun rep body hroom => s.dataReceived_enqueues u rep body haccept hroom⟩
  rw [haccept] at hpartner
  obtain ⟨t, hrun, ⟨hlo, hhi, hacc, hdn, hbucket⟩, hbeat, hkept, hout⟩ :=
    s.mirrorReceived_mirrors u r b g e sec us haccept hstandby hpartner hkeyed hkeys
  exact ⟨t, hrun, hlo, hhi, hacc, hdn, hbucket, hbeat, hkept, hout⟩

end Sys2Proof.Machine

/-! Brown-out warnings, trust in the backup domain, and the charger (R446, R448, R450, R455, R458, R459). -/

namespace Sys2Proof.Machine

open Sys2Proof.Fields Sys2Proof.Laws

/-! ### Commits that start (R85) -/

/-- A commit that starts, or is merged into the one that runs, shows its trigger and a pass, and no other register changes. -/
theorem State.startCommit_shows (s : State) (trigger : Nat) : (s.startCommit trigger).fld MGT_COMMIT_LASTTRIG = trigger % 4
    ∧ (s.startCommit trigger).isSet MGT_COMMIT_BUSY = true ∧ ∀ a, a ≠ MGT_COMMIT → (s.startCommit trigger).get a = s.get a := by
  let u := s.setFld MGT_COMMIT_LASTTRIG trigger
  have htrig : u.fld MGT_COMMIT_LASTTRIG = trigger % 4 := s.fld_setFld_same MGT_COMMIT_LASTTRIG trigger (by decide)
  have hget (a : Nat) (ha : a ≠ MGT_COMMIT) : u.get a = s.get a := s.get_setFld_other MGT_COMMIT_LASTTRIG _ _ ha
  have hrun : s.startCommit trigger = if u.isSet MGT_COMMIT_BUSY then { u with sys := { u.sys with merged := true } }
      else (u.setFld MGT_COMMIT_BUSY 1).queueAll u.commitList := rfl
  rw [hrun]
  split
  next hbusy => exact ⟨htrig, hbusy, hget⟩
  next =>
    have hsame : (u.setFld MGT_COMMIT_BUSY 1).isSet MGT_COMMIT_BUSY = true := by
      rw [State.isSet, u.fld_setFld_same MGT_COMMIT_BUSY 1 (by decide)]
      rfl
    exact ⟨(u.fld_setFld_keeps MGT_COMMIT_BUSY MGT_COMMIT_LASTTRIG 1 (by decide) (by decide)).trans htrig, hsame,
      fun a ha => (u.get_setFld_other MGT_COMMIT_BUSY _ _ ha).trans (hget a ha)⟩

/-! ### BROWNOUT_WARNING and BROWNOUT_END (R446, R448) -/

/-- What a warning's source shows on the pins and the monitors. -/
def State.undervolted (s : State) (source : Nat) : State :=
  if source = 0 then { s with pins := { s.pins with pfailN := false } }
  else { s with bkp := { s.bkp with low := insertNat (if source = 1 then 6 else 0) s.bkp.low } }

theorem State.undervolted_eq (s : State) (n : Nat) : s.undervolted n
    = { s with pins := (s.undervolted n).pins, bkp := { s.bkp with low := (s.undervolted n).bkp.low } } := by
  unfold State.undervolted
  split <;> rfl

theorem State.fld_undervolted (s : State) (n : Nat) (f : Fld) : (s.undervolted n).fld f = s.fld f := by rw [s.undervolted_eq]; rfl

theorem State.sys_undervolted (s : State) (n : Nat) : (s.undervolted n).sys = s.sys := by rw [s.undervolted_eq]

/-- A warning that begins. -/
def State.warned (s : State) : State := ((s.setFld MGT_PWRSTAT_BOWARN 1).count MGT_PWRSTAT_BOCNT).raise 11

theorem State.brownout_eq (s : State) (n : Nat) : s.brownout n =
    if (s.isSet MGT_PWRSTAT_BOWARN || (n = 0 && !s.isSet MGT_PWRCFG_PFAILEN) || s.sys.power != .on) = true then s.undervolted n
    else ((s.undervolted n).warned.startCommit 3).queueNodes := by
  rw [State.isSet, State.isSet, ← s.fld_undervolted n, ← s.fld_undervolted n, ← s.sys_undervolted n]
  rfl

theorem State.warned_shows (s : State) : s.warned.fld MGT_PWRSTAT_BOWARN = 1
    ∧ s.warned.fld MGT_PWRSTAT_BOCNT = min (s.fld MGT_PWRSTAT_BOCNT + 1) (2 ^ MGT_PWRSTAT_BOCNT.len - 1)
    ∧ s.warned.fld (routeCount 11) = min (s.fld (routeCount 11) + 1) 0xFFFFFFFF ∧ s.warned.mode = s.mode := by
  have hbeside (g : Fld) (hg : g.addr ≠ MGT_PWRSTAT) :
      ((s.setFld MGT_PWRSTAT_BOWARN 1).count MGT_PWRSTAT_BOCNT).fld g = s.fld g :=
    (State.fld_count_other_word _ MGT_PWRSTAT_BOCNT g hg).trans (s.fld_setFld_other_word MGT_PWRSTAT_BOWARN g 1 hg)
  refine ⟨?_, ?_, ?_, ?_⟩
  · rw [State.warned, State.fld_raise_low _ _ _ _ (by decide), State.count, State.addSat,
      State.fld_setFld_keeps _ MGT_PWRSTAT_BOCNT MGT_PWRSTAT_BOWARN _ (by decide) (by decide)]
    exact s.fld_setFld_same MGT_PWRSTAT_BOWARN 1 (by decide)
  · rw [State.warned, State.fld_raise_low _ _ _ _ (by decide), State.fld_count_same _ MGT_PWRSTAT_BOCNT (by decide),
      State.fld_setFld_keeps _ MGT_PWRSTAT_BOWARN MGT_PWRSTAT_BOCNT _ (by decide) (by decide)]
  · rw [State.warned, State.fld_routeCount_raise _ _ _ (by decide), hbeside _ (by decide)]
  · exact (State.fld_raise_low _ 11 0 MGT_MODE_MODE (by decide)).trans (hbeside MGT_MODE_MODE (by decide))

theorem State.brownout_warns (s : State) (n : Nat) (hon : s.sys.power = .on) (hwarn : s.isSet MGT_PWRSTAT_BOWARN = false)
    (hsource : n ≠ 0 ∨ s.isSet MGT_PWRCFG_PFAILEN = true) :
    (s.brownout n).fld MGT_PWRSTAT_BOWARN = 1
    ∧ (s.brownout n).fld MGT_PWRSTAT_BOCNT = min (s.fld MGT_PWRSTAT_BOCNT + 1) (2 ^ MGT_PWRSTAT_BOCNT.len - 1)
    ∧ (s.brownout n).fld (routeCount 11) = min (s.fld (routeCount 11) + 1) 0xFFFFFFFF ∧ (s.brownout n).fld MGT_COMMIT_LASTTRIG = 3
    ∧ (s.brownout n).isSet MGT_COMMIT_BUSY = true ∧ (s.brownout n).mode = s.mode := by
  have hrun : s.brownout n = ((s.undervolted n).warned.startCommit 3).queueNodes := by
    rw [s.brownout_eq]
    refine if_neg ?_
    obtain h | h := hsource
    · simp [hwarn, hon, h]
    · simp [hwarn, hon, h]
  obtain ⟨hbowarn, hbocnt, hcount, hmode⟩ := (s.undervolted n).warned_shows
  obtain ⟨htrig, hbusy, hget⟩ := (s.undervolted n).warned.startCommit_shows 3
  have hkeeps (f : Fld) (hf : f.addr ≠ MGT_COMMIT) :
      ((s.undervolted n).warned.startCommit 3).queueNodes.fld f = (s.undervolted n).warned.fld f := State.fld_of_get f (hget f.addr hf)
  rw [hrun]
  refine ⟨(hkeeps _ (by decide)).trans hbowarn, ?_, ?_, htrig, hbusy, ?_⟩
  · rw [hkeeps _ (by decide), hbocnt, s.fld_undervolted]
  · rw [hkeeps _ (by decide), hcount, s.fld_undervolted]
  · exact ((hkeeps MGT_MODE_MODE (by decide)).trans hmode).trans (s.fld_undervolted n MGT_MODE_MODE)

theorem State.brownout_again (s : State) (n : Nat)
    (h : s.isSet MGT_PWRSTAT_BOWARN = true ∨ (n = 0 ∧ s.isSet MGT_PWRCFG_PFAILEN = false)) : s.brownout n = s.undervolted n := by
  rw [s.brownout_eq]
  refine if_pos ?_
  obtain h | ⟨hn, hpfail⟩ := h
  · rw [h]
    rfl
  · simp [hn, hpfail]

/-- The pins and monitors of a warning that ends. -/
def State.restored (s : State) : State :=
  { s with pins := { s.pins with pfailN := s.pins.pfailN || s.isSet MGT_PWRCFG_PFAILEN }, bkp := { s.bkp with low := [] } }

theorem State.brownoutEnd_clears (s : State) : s.brownoutEnd.fld MGT_PWRSTAT_BOWARN = 0 ∧ s.brownoutEnd.bkp.low = []
    ∧ (∀ a, a ≠ MGT_PWRSTAT → s.brownoutEnd.get a = s.get a) ∧ s.brownoutEnd.cru = s.cru
    ∧ s.brownoutEnd.fld MGT_PWRSTAT_BOCNT = s.fld MGT_PWRSTAT_BOCNT := by
  have hrun : s.brownoutEnd = s.restored.setFld MGT_PWRSTAT_BOWARN 0 := rfl
  rw [hrun]
  exact ⟨State.fld_setFld_same _ MGT_PWRSTAT_BOWARN 0 (by decide), rfl, fun a ha => State.get_setFld_other _ MGT_PWRSTAT_BOWARN 0 a ha, rfl,
    State.fld_setFld_keeps _ MGT_PWRSTAT_BOWARN MGT_PWRSTAT_BOCNT 0 (by decide) (by decide)⟩

/-! ### Trust in the backup domain (R455, R459) -/

/-- A latched bit changes no field but its own. -/
theorem State.fld_latch_keeps (s : State) (f g : Fld) (hf : f.lo + f.len ≤ 32)
    (h : g.addr ≠ f.addr ∨ f.lo + f.len ≤ g.lo ∨ g.lo + g.len ≤ f.lo) : (s.latch f).fld g = s.fld g := s.fld_setFld_keeps f g 1 hf h

theorem State.isSet_latch_same (s : State) (n a : Nat) (hn : n < 32) : (s.latch ⟨a, n, 1⟩).isSet ⟨a, n, 1⟩ = true := by
  have hone : (s.latch ⟨a, n, 1⟩).fld ⟨a, n, 1⟩ = 1 := s.fld_setFld_same ⟨a, n, 1⟩ 1 (by dsimp only; omega)
  rw [State.isSet, hone]
  rfl

/-- An event of the backup domain is counted, or kept for the next start. -/
theorem State.bkpEvent_255 (s : State) :
    (∀ a, a < 0x100000 ∧ a ≠ 0x4507FC ∨ 0x110000 ≤ a ∧ a < 0x120000 → (s.bkpEvent 255).get a = s.get a)
    ∧ (s.sys.power = .on → (s.bkpEvent 255).fld (routeCount 255) = min (s.fld (routeCount 255) + 1) 0xFFFFFFFF)
    ∧ (s.sys.power ≠ .on → (s.bkpEvent 255).bkp.latched = s.bkp.latched ++ [255]) := by
  unfold State.bkpEvent
  split
  next hon =>
    refine ⟨fun a ha => ?_, fun _ => s.fld_routeCount_raise 255 0 (by decide), fun h => absurd hon h⟩
    refine ((s.signals_raise 255 0).regs a ?_).trans (s.get_count_other (routeCount 255) a ?_)
    · refine ⟨?_, ?_, ?_, ?_, fun c _ => ?_⟩ <;> simp only [routeCount, msixPending, HST_ERSTAT, HST_EVSEQ, CHB_CEVQ] <;> omega
    · simp only [routeCount]
      omega
  next hoff => exact ⟨fun _ _ => rfl, fun h => absurd h hoff, fun _ => rfl⟩

/-- A cause of R455 has been noted. -/
structure State.Dips (s t : State) : Prop where
  dips : t.fld BKP_STAT_DIPS = min (s.fld BKP_STAT_DIPS + 1) 255
  lowv : t.isSet BKP_STAT_LOWV = true
  counted : s.isSet BKP_STAT_LOWV = false → s.sys.power = .on → t.fld (routeCount 255) = min (s.fld (routeCount 255) + 1) 0xFFFFFFFF
  kept : s.isSet BKP_STAT_LOWV = false → s.sys.power ≠ .on → t.bkp.latched = s.bkp.latched ++ [255]
  again : s.isSet BKP_STAT_LOWV = true → t.bkp = s.bkp ∧ t.hst = s.hst

theorem State.dip_dips (s : State) : s.Dips s.dip := by
  let u := s.count BKP_STAT_DIPS
  let v := u.latch BKP_STAT_LOWV
  have hrun : s.dip = if s.isSet BKP_STAT_LOWV = true then v else v.bkpEvent 255 := by
    have hlowv : u.isSet BKP_STAT_LOWV = s.isSet BKP_STAT_LOWV :=
      congrArg (· != 0) (s.fld_setFld_keeps BKP_STAT_DIPS BKP_STAT_LOWV _ (by decide) (by decide))
    rw [← hlowv]
    rfl
  have hdips : v.fld BKP_STAT_DIPS = min (s.fld BKP_STAT_DIPS + 1) 255 :=
    (u.fld_latch_keeps BKP_STAT_LOWV BKP_STAT_DIPS (by decide) (by decide)).trans (s.fld_count_same BKP_STAT_DIPS (by decide))
  have hset : v.isSet BKP_STAT_LOWV = true := u.isSet_latch_same 3 BKP_STAT (by decide)
  have hroute : v.fld (routeCount 255) = s.fld (routeCount 255) :=
    (u.fld_latch_keeps BKP_STAT_LOWV (routeCount 255) (by decide) (.inl (by decide))).trans
      (s.fld_count_other_word BKP_STAT_DIPS (routeCount 255) (by decide))
  obtain ⟨hget, hon, hoff⟩ := v.bkpEvent_255
  have hstat : (v.bkpEvent 255).get BKP_STAT = v.get BKP_STAT := hget BKP_STAT (by decide)
  rw [hrun]
  split
  next hold =>
    exact ⟨hdips, hset, fun h => absurd hold (by rw [h]; decide), fun h => absurd hold (by rw [h]; decide), fun _ => ⟨rfl, rfl⟩⟩
  next hnew =>
    refine ⟨(State.fld_of_get BKP_STAT_DIPS hstat).trans hdips, ?_, fun _ hpower => (hon hpower).trans ?_, fun _ hpower => hoff hpower,
      fun h => absurd h hnew⟩
    · rw [State.isSet, State.fld_of_get BKP_STAT_LOWV hstat]
      exact hset
    · rw [hroute]

/-- Besides DIPS and LOWV no field of MGT or of the backup domain changes. -/
theorem State.fld_dip_keeps (s : State) (f : Fld) (hplace : f.addr < 0x100000 ∧ f.addr ≠ 0x4507FC ∨ 0x110000 ≤ f.addr ∧ f.addr < 0x120000)
    (h : f.addr ≠ BKP_STAT ∨ 4 ≤ f.lo ∧ f.lo + f.len ≤ 24) : s.dip.fld f = s.fld f := by
  let v := (s.count BKP_STAT_DIPS).latch BKP_STAT_LOWV
  have hv : v.fld f = s.fld f :=
    (State.fld_latch_keeps _ BKP_STAT_LOWV f (by decide) (h.imp_right fun h => .inl h.1)).trans
      (s.fld_setFld_keeps BKP_STAT_DIPS f _ (by decide) (h.imp_right fun h => .inr h.2))
  have hevent : (v.bkpEvent 255).fld f = s.fld f := (State.fld_of_get f (v.bkpEvent_255.1 f.addr hplace)).trans hv
  unfold State.dip State.setLowv
  split
  · exact hv
  · exact hevent

theorem State.xt32Stop_dips (s : State) : ∃ t, exec .xt32Stop s = .next t ∧ s.Dips t ∧ t.isSet BKP_STAT_OSCSTOP = true
    ∧ t.fld MGT_CLKSTAT_XT32 = 0 := by
  let v := (s.latch BKP_STAT_OSCSTOP).setFld MGT_CLKSTAT_XT32 0
  have hkeeps (g : Fld) (hg : g.addr ≠ MGT_CLKSTAT) (h : g.addr ≠ BKP_STAT ∨ 5 ≤ g.lo ∨ g.lo + g.len ≤ 4) : v.fld g = s.fld g :=
    (State.fld_setFld_other_word _ MGT_CLKSTAT_XT32 g 0 hg).trans (s.fld_latch_keeps BKP_STAT_OSCSTOP g (by decide) h)
  have hdips : v.fld BKP_STAT_DIPS = s.fld BKP_STAT_DIPS := hkeeps _ (by decide) (by decide)
  have hlowv : v.isSet BKP_STAT_LOWV = s.isSet BKP_STAT_LOWV := congrArg (· != 0) (hkeeps _ (by decide) (by decide))
  have hroute : v.fld (routeCount 255) = s.fld (routeCount 255) := hkeeps _ (by decide) (.inl (by decide))
  have hstop : v.isSet BKP_STAT_OSCSTOP = true := by
    rw [State.isSet, State.fld_setFld_other_word _ MGT_CLKSTAT_XT32 BKP_STAT_OSCSTOP 0 (by decide)]
    exact s.isSet_latch_same 4 BKP_STAT (by decide)
  obtain ⟨h1, h2, h3, h4, h5⟩ := v.dip_dips
  rw [hdips] at h1
  rw [hlowv] at h3 h4 h5
  rw [hroute] at h3
  refine ⟨v.dip, rfl, ⟨h1, h2, h3, h4, h5⟩, ?_, ?_⟩
  · rw [State.isSet, v.fld_dip_keeps BKP_STAT_OSCSTOP (by decide) (by decide)]
    exact hstop
  · rw [v.fld_dip_keeps MGT_CLKSTAT_XT32 (by decide) (by decide)]
    exact State.fld_setFld_same _ MGT_CLKSTAT_XT32 0 (by decide)

/-! ### The charger (R458) -/

theorem State.chargerTargetReached_ends (s : State) : ∃ t, exec .chargerTargetReached s = .next t ∧ t.fld BKP_TRICKLE_CHARGING = 0
    ∧ (∀ a, a ≠ BKP_TRICKLE → t.get a = s.get a) ∧ t.fld BKP_TRICKLE_EN = s.fld BKP_TRICKLE_EN :=
  ⟨_, rfl, s.fld_setFld_same BKP_TRICKLE_CHARGING 0 (by decide), s.get_setFld_other BKP_TRICKLE_CHARGING 0,
    s.fld_setFld_keeps BKP_TRICKLE_CHARGING BKP_TRICKLE_EN 0 (by decide) (by decide)⟩

theorem State.chargerResume_begins (s : State) : ∃ t, exec .chargerResume s = .next t
    ∧ ((s.isSet BKP_TRICKLE_EN && s.bkp.vddIo) = true → t.fld BKP_TRICKLE_CHARGING = 1)
    ∧ ((s.isSet BKP_TRICKLE_EN && s.bkp.vddIo) = false → t = s) ∧ ∀ a, a ≠ BKP_TRICKLE → t.get a = s.get a := by
  refine ⟨_, rfl, ?_⟩
  split
  next h =>
    exact ⟨fun _ => s.fld_setFld_same BKP_TRICKLE_CHARGING 1 (by decide), fun h' => absurd h (by rw [h']; decide),
      s.get_setFld_other BKP_TRICKLE_CHARGING 1⟩
  next h => exact ⟨fun h' => absurd h' h, fun _ => rfl, fun _ _ => rfl⟩

/-! ### BACKUP_DOMAIN_POWER_ON (R450) -/

theorem State.bkpCold_cold (s : State) : (∀ a, 0x110000 ≤ a → a < 0x120000 → s.bkpCold.get a = coldReg a) ∧ s.bkpCold.bkp.xfer = none
    ∧ s.bkpCold.bkp.heldDate = none ∧ s.bkpCold.mem = s.mem := by
  let u : State := { s.coldRange 0x110000 0x120000 with bkp := { s.bkp with heldDate := none, xfer := none } }
  have hrun : s.bkpCold = u.bkpEvent 255 := rfl
  have hget (a : Nat) (hlo : 0x110000 ≤ a) (hhi : a < 0x120000) : u.get a = coldReg a :=
    (s.get_coldRange 0x110000 0x120000 a).trans (if_pos ⟨hlo, hhi⟩)
  rw [hrun]
  refine ⟨fun a hlo hhi => (u.bkpEvent_255.1 a (.inr ⟨hlo, hhi⟩)).trans (hget a hlo hhi), ?_⟩
  unfold State.bkpEvent
  split
  · simp [u, State.coldRange]
  · exact ⟨rfl, rfl, rfl⟩

theorem dateOf_coldReg : dateOf (coldReg BKP_DATE) = some ⟨0, 1, 1⟩ := by decide +kernel

theorem timeOf_coldReg : timeOf (coldReg BKP_TIME) = some 0 := by decide +kernel

theorem lowv_coldReg : getFld (coldReg BKP_STAT) BKP_STAT_LOWV = 1 := by decide +kernel

theorem charging_coldReg : getFld (coldReg BKP_TRICKLE) BKP_TRICKLE_CHARGING = 0 := by decide +kernel

/-! ### O59 -/

/-- Settles O59: no event changes a register of the backup domain or one of MGT's, so what each command writes there stands, and LOWV's
event is counted or kept by the power of the main domain alone. -/
theorem supplyAndTrust : Obligations.SupplyAndTrust := by
  intro s
  refine ⟨fun n hon hwarn hsource => ⟨_, rfl, s.brownout_warns n hon hwarn hsource⟩, fun n h => ⟨_, rfl, ?_⟩,
    ⟨_, rfl, s.brownoutEnd_clears⟩, fun hio => ?_, fun hio => ⟨s.dip, ?_, ?_⟩, ?_, s.chargerTargetReached_ends, s.chargerResume_begins,
    ⟨_, rfl, ?_⟩⟩
  · rw [s.brownout_again n h]
    exact s.undervolted_eq n
  · exact congrArg Host.Outcome.next (if_pos hio)
  · exact congrArg Host.Outcome.next (if_neg (by rw [hio]; decide))
  · obtain ⟨h1, h2, h3, h4, h5⟩ := s.dip_dips
    exact ⟨h1, h2, h3, h4, h5⟩
  · obtain ⟨t, hrun, ⟨h1, h2, h3, h4, h5⟩, hstop, hclk⟩ := s.xt32Stop_dips
    exact ⟨t, hrun, ⟨h1, h2, h3, h4, h5⟩, hstop, hclk⟩
  · obtain ⟨hget, hxfer, hdate, hmem⟩ := s.bkpCold_cold
    have hcold (f : Fld) (hlo : 0x110000 ≤ f.addr) (hhi : f.addr < 0x120000) : s.bkpCold.fld f = getFld (coldReg f.addr) f := by
      rw [State.fld, hget f.addr hlo hhi]
    refine ⟨hget, ?_, ?_, ?_, ?_, hxfer, hdate, hmem⟩
    · rw [State.rtcDate, hget _ (by decide) (by decide), dateOf_coldReg]
      rfl
    · rw [State.rtcTime, hget _ (by decide) (by decide), timeOf_coldReg]
      rfl
    · rw [State.isSet, hcold BKP_STAT_LOWV (by decide) (by decide)]
      exact congrArg (· != 0) lowv_coldReg
    · rw [hcold BKP_TRICKLE_CHARGING (by decide) (by decide)]
      exact charging_coldReg

end Sys2Proof.Machine

/-! The performance counters and samples of a core, and the traps: what they leave alone (R357 to R360, R391 to R397). -/

namespace Sys2Proof.Machine

open Sys2Proof.Fields Sys2Proof.Laws

/-! ### Counters and samples (R391 to R397) -/

/-- `t` follows from `s` by counts of core c: the banks stay, the core but for its counters and its event FIFO, and the counts of events. -/
structure State.Tallies (c : Nat) (s t : State) : Prop where
  mem : t.mem = s.mem
  core : ∃ m q, t.core c = { s.core c with pmu := m, evq := q }
  event : ∀ id, id < 256 → t.fld (routeCount id) = s.fld (routeCount id)

theorem State.Tallies.refl (c : Nat) (s : State) : State.Tallies c s s := ⟨rfl, ⟨_, _, rfl⟩, fun _ _ => rfl⟩

theorem State.Tallies.trans {c : Nat} {s t u : State} (h : State.Tallies c s t) (h' : State.Tallies c t u) : State.Tallies c s u := by
  obtain ⟨hmem, ⟨m, q, hcore⟩, hevent⟩ := h
  obtain ⟨hmem', ⟨m', q', hcore'⟩, hevent'⟩ := h'
  exact ⟨hmem'.trans hmem, ⟨m', q', by rw [hcore', hcore]⟩, fun id hid => (hevent' id hid).trans (hevent id hid)⟩

theorem State.Tallies.ite {c : Nat} {s t u : State} {p : Prop} [Decidable p] (ht : State.Tallies c s t) (hu : State.Tallies c s u) :
    State.Tallies c s (if p then t else u) := by
  split
  · exact ht
  · exact hu

/-- A write of the core's counters and samples. -/
theorem State.tallies_setPmu (s : State) (c : Nat) (m : Pmu) : State.Tallies c s (s.setCore c { s.core c with pmu := m }) :=
  ⟨rfl, ⟨m, _, s.core_setCore_same c _⟩, fun _ _ => rfl⟩

theorem State.tallies_toCore (s : State) (c id data : Nat) (hc : c < 16) : State.Tallies c s (s.toCore c id data) := by
  obtain ⟨q, hq⟩ := s.toCore_core c id data c
  refine ⟨?_, ⟨_, q, hq⟩, fun n hn => ?_⟩
  · unfold State.toCore
    split
    · rfl
    · split <;> rfl
  · by_cases h246 : n = 246
    · subst h246
      unfold State.toCore
      split
      · rfl
      · split
        · rfl
        · exact State.fld_of_get _ (s.get_count_other (CHB_CEVQ_LOST c) _ (by simp only [routeCount, CHB_CEVQ_LOST, CHB_CEVQ]; omega))
    · exact State.fld_of_get _ ((s.signals_toCore c id data hc).regs _ (besideSignals_routeCount n h246))

theorem addr_pairBit (lo hi k : Nat) : (pairBit lo hi k).addr = lo ∨ (pairBit lo hi k).addr = hi := by
  unfold pairBit
  split
  · exact .inl rfl
  · exact .inr rfl

theorem State.tallies_latchOvf (s : State) (c k : Nat) : State.Tallies c s (s.latch (pairBit (PMU_OVF_LO c) (PMU_OVF_HI c) k)) := by
  refine ⟨rfl, ⟨_, _, rfl⟩, fun id hid => State.fld_of_get _ (s.get_setFld_other _ 1 _ ?_)⟩
  obtain h | h := addr_pairBit (PMU_OVF_LO c) (PMU_OVF_HI c) k
  · rw [h]
    simp only [routeCount, PMU_OVF_LO]
    omega
  · rw [h]
    simp only [routeCount, PMU_OVF_HI]
    omega

theorem State.tallies_pmuAdd (s : State) (c : Nat) (kn : Nat × Nat) (hc : c < 16) : State.Tallies c s (s.pmuAdd c kn) := by
  have hset : State.Tallies c s (s.setCore c ((s.core c).setCount kn.1 ((s.core c).count kn.1 + kn.2))) := s.tallies_setPmu c _
  unfold State.pmuAdd
  dsimp only
  split
  · exact hset
  · split
    · exact (hset.trans (State.tallies_latchOvf _ c kn.1)).trans (State.tallies_toCore _ c _ _ hc)
    · exact hset.trans (State.tallies_latchOvf _ c kn.1)

theorem State.tallies_pmuAddAll (s : State) (c : Nat) (l : List (Nat × Nat)) (hc : c < 16) : State.Tallies c s (s.pmuAddAll c l) := by
  unfold State.pmuAddAll
  induction l generalizing s with
  | nil => exact .refl c s
  | cons kn l ih => exact (s.tallies_pmuAdd c kn hc).trans (ih _)

theorem State.tallies_drawInterval (s : State) (c : Nat) : State.Tallies c s (s.drawInterval c).2 := by
  unfold State.drawInterval
  dsimp only
  split
  · exact .refl c s
  · exact ⟨rfl, ⟨_, _, rfl⟩, fun _ _ => rfl⟩

theorem State.tallies_writeSample (s : State) (c : Nat) (i : Issue) (hc : c < 16) : State.Tallies c s (s.writeSample c i) := by
  unfold State.writeSample
  exact .ite ((s.tallies_setPmu c _).trans (State.tallies_toCore _ c _ _ hc)) (s.tallies_setPmu c _)

theorem State.tallies_sampleRun (c : Nat) (i : Issue) (hc : c < 16) (fuel : Nat) (s : State) (n : Nat) :
    State.Tallies c s (s.sampleRun c i fuel n) := by
  induction fuel generalizing s n with
  | zero => exact .refl c s
  | succ fuel ih =>
    have hfrom (left : Nat) (u : State) (hu : State.Tallies c s u) :
        State.Tallies c s (if n < left then u.setCore c { u.core c with pmu := { (u.core c).pmu with left := some (left - n) } }
          else ((u.writeSample c i).setCore c { (u.writeSample c i).core c with
            pmu := { ((u.writeSample c i).core c).pmu with left := none } }).sampleRun c i fuel (n - left)) := by
      split
      · exact hu.trans (u.tallies_setPmu c _)
      · exact ((hu.trans (u.tallies_writeSample c i hc)).trans (State.tallies_setPmu _ c _)).trans (ih _ _)
    unfold State.sampleRun
    split
    · exact .refl c s
    · cases (s.core c).pmu.left with
      | some l => exact hfrom l s (.refl c s)
      | none => exact hfrom _ _ (s.tallies_drawInterval c)

theorem State.tallies_pmuBundle (s : State) (c : Nat) (i : Issue) (counts : List (Nat × Nat)) (hc : c < 16) :
    State.Tallies c s (s.pmuBundle c i counts) := by
  have hadd := s.tallies_pmuAddAll c counts hc
  unfold State.pmuBundle
  dsimp only
  split
  · exact hadd.trans (State.tallies_sampleRun c i hc _ _ _)
  · exact hadd

theorem State.tallies_countIssue (s : State) (c : Nat) (y : Cyc) (b : Bundle) (pred : Bool) (retired micro : Nat) (counts : List (Nat × Nat))
    (hc : c < 16) : State.Tallies c s (s.countIssue c y b pred retired micro counts) := s.tallies_pmuBundle c _ _ hc

/-! ### Traps (R359, R360) -/

/-- A trap changes its core as an entry does, or halts it, and its event counts where the core reports it. -/
theorem State.coreTrap_enters (s : State) (c : Nat) (tr : Trap) (tpc : BitVec 15) (hc : c < 16) :
    (s.coreTrap c tr tpc).mem = s.mem ∧ (∃ m q, (s.coreTrap c tr tpc).core c = { (s.core c).enterTrap tr tpc with pmu := m, evq := q })
    ∧ (s.coreTrap c tr tpc).fld (routeCount (201 + 2 * c))
      = if (s.core c).th || (s.core c).treport.getLsbD tr.1 then min (s.fld (routeCount (201 + 2 * c)) + 1) 0xFFFFFFFF
        else s.fld (routeCount (201 + 2 * c)) := by
  let e := s.setCore c ((s.core c).enterTrap tr tpc)
  obtain ⟨hmem, ⟨m, q, hcore⟩, hevent⟩ := e.tallies_pmuAdd c (37, 1) hc
  rw [State.core_setCore_same] at hcore
  have hfld : (e.pmuAdd c (37, 1)).fld (routeCount (201 + 2 * c)) = s.fld (routeCount (201 + 2 * c)) := hevent _ (by omega)
  unfold State.coreTrap
  dsimp only
  split
  next h =>
    obtain ⟨q', hq'⟩ := (e.pmuAdd c (37, 1)).raise_core (201 + 2 * c) 0 c
    refine ⟨(State.raise_mem _ _ _).trans hmem, ⟨m, q', by rw [hq', hcore]⟩, ?_⟩
    rw [State.fld_routeCount_raise _ _ _ (by omega), hfld]
  next => exact ⟨hmem, ⟨m, q, hcore⟩, hfld⟩

end Sys2Proof.Machine

/-! The issue of a bundle: the cases in which it traps, is predicated off and commits, and what a bundle that commits makes of its core
(R343 to R359). -/

namespace Sys2Proof.Machine

open Sys2Proof.Fields Sys2Proof.Laws

/-! ### Fetch and legality (R343, R344) -/

/-- A core at which a bundle issues: it runs, neither halted nor waiting, and no interrupt is due. -/
structure State.Ready (s : State) (c : Nat) : Prop where
  runs : s.coreRuns c = true
  halted : (s.core c).halted = false
  wait : (s.core c).wait = false
  due : s.intDue c = none

/-- The bundle of some words stands at the index, and is legal. -/
structure Core.Fetches (k : Core) (ws : List Word) : Prop where
  fetch : k.fetch 6 k.pc.toNat = .ok ws
  legal : k.firstBad ws none 0 ws = none

theorem Core.fetch_beyond (k : Core) (n i : Nat) (h : 0x8000 ≤ i) : k.fetch (n + 1) i = .error i := if_pos h

theorem Core.fetch_stop (k : Core) (n i : Nat) (h : i < 0x8000) (hstop : (k.syl i).msb = true) : k.fetch (n + 1) i = .ok [k.syl i] := by
  rw [Core.fetch, if_neg (by omega), if_pos hstop]

theorem Core.fetch_more (k : Core) (n i : Nat) (ws : List Word) (h : i < 0x8000) (hmore : (k.syl i).msb = false)
    (hrest : k.fetch n (i + 1) = .ok ws) : k.fetch (n + 1) i = .ok (k.syl i :: ws) := by
  rw [Core.fetch, if_neg (by omega), if_neg (by rw [hmore]; decide), hrest]
  rfl

theorem decodeSyl_encodeSyl (stop : Bool) (y : Syl) : decodeSyl (encodeSyl stop y) = some y := (syllableRoundTrip stop y).1

/-- Only a customer opcode, a CALL, a YIELD and a literal are illegal on conditions of their own. -/
def Syl.unconditional : Syl → Bool
  | .a (.cust _ _) | .c (.call _) | .c .yield | .lit _ => false
  | _ => true

theorem Core.badSyl_first (k : Core) (ws : List Word) (stop : Bool) (y : Syl) (h : y.unconditional = true) :
    k.badSyl ws none 0 (encodeSyl stop y) = false := by
  rw [Core.badSyl, decodeSyl_encodeSyl]
  cases y with
  | m m1 y => rfl
  | l y => rfl
  | a y =>
    cases y with
    | cust => exact absurd h Bool.false_ne_true
    | _ => rfl
  | c y =>
    cases y with
    | call | yield => exact absurd h Bool.false_ne_true
    | _ => rfl
  | lit i => exact absurd h Bool.false_ne_true

theorem Core.fetches_one (k : Core) (y : Syl) (hpc : k.pc.toNat < 0x8000) (hsyl : k.syl k.pc.toNat = encodeSyl true y)
    (hlegal : k.badSyl [encodeSyl true y] none 0 (encodeSyl true y) = false) : k.Fetches [encodeSyl true y] := by
  refine ⟨?_, ?_⟩
  · rw [← hsyl]
    exact k.fetch_stop 5 _ hpc (by rw [hsyl, msb_encodeSyl])
  · rw [Core.firstBad, hlegal]
    rfl

theorem Core.fetches_two (k : Core) (y z : Syl) (hpc : k.pc.toNat + 1 < 0x8000) (hy : k.syl k.pc.toNat = encodeSyl false y)
    (hz : k.syl (k.pc.toNat + 1) = encodeSyl true z)
    (hlegal : k.badSyl [encodeSyl false y, encodeSyl true z] none 0 (encodeSyl false y) = false)
    (hlegal' : k.badSyl [encodeSyl false y, encodeSyl true z] (some y.unit) 1 (encodeSyl true z) = false) :
    k.Fetches [encodeSyl false y, encodeSyl true z] := by
  refine ⟨?_, ?_⟩
  · rw [← hy, ← hz]
    exact k.fetch_more 5 _ _ (by omega) (by rw [hy, msb_encodeSyl]) (k.fetch_stop 4 _ hpc (by rw [hz, msb_encodeSyl]))
  · have hunit : unitOf (encodeSyl false y) = y.unit := unit_encodeSyl false y
    rw [Core.firstBad, hlegal, Core.firstBad, hunit, hlegal']
    rfl

/-! ### How a bundle issues (R357) -/

theorem State.issueBundle_idle (s : State) (c : Nat) (y : Cyc)
    (h : s.coreRuns c = false ∨ (s.core c).halted = true ∨ (s.core c).wait = true ∨ s.intDue c ≠ none) : s.issueBundle c y = s := by
  unfold State.issueBundle
  refine if_pos ?_
  obtain h | h | h | h := h
  · simp [h]
  · simp [h]
  · simp [h]
  · simp [Option.isSome_iff_ne_none, h]

/-- The condition under which no bundle issues is false at a ready core. -/
theorem State.Ready.issues {s : State} {c : Nat} (h : s.Ready c) :
    ¬ (!s.coreRuns c || (s.core c).halted || (s.core c).wait || (s.intDue c).isSome) = true := by
  rw [h.runs, h.halted, h.wait, h.due]
  decide

theorem State.issueBundle_beyond (s : State) (c : Nat) (y : Cyc) (h : s.Ready c) (hpc : 0x8000 ≤ (s.core c).pc.toNat) : ∃ b : Bundle,
    b.addr = (s.core c).pc.toNat ∧ s.issueBundle c y = s.bundleTrap c y b (tcFetch, BitVec.ofNat 32 (s.core c).pc.toNat) := by
  refine ⟨⟨(s.core c).pc.toNat, [], none, none, none, none, none, 0⟩, rfl, ?_⟩
  unfold State.issueBundle
  dsimp only
  rw [if_neg h.issues, Core.fetch_beyond _ 5 _ hpc]

theorem State.issueBundle_illegal (s : State) (c : Nat) (y : Cyc) (h : s.Ready c) (ws : List Word) (w : Word)
    (hfetch : (s.core c).fetch 6 (s.core c).pc.toNat = .ok ws) (hbad : (s.core c).firstBad ws none 0 ws = some w) :
    s.issueBundle c y = s.bundleTrap c y (Bundle.ofWords (s.core c).pc.toNat ws) (tcIllegal, w) := by
  unfold State.issueBundle
  dsimp only
  rw [if_neg h.issues, hfetch]
  dsimp only
  rw [hbad]

theorem State.issueBundle_off (s : State) (c : Nat) (y : Cyc) (h : s.Ready c) (ws : List Word) (hf : (s.core c).Fetches ws)
    (hoff : (Bundle.ofWords (s.core c).pc.toNat ws).predOff (s.core c).set.t = true) :
    s.issueBundle c y = s.bundleOff c y (Bundle.ofWords (s.core c).pc.toNat ws) := by
  unfold State.issueBundle
  dsimp only
  rw [if_neg h.issues, hf.fetch]
  dsimp only
  rw [hf.legal, hoff]
  rfl

theorem State.issueBundle_on (s : State) (c : Nat) (y : Cyc) (h : s.Ready c) (ws : List Word) (b : Bundle) (hf : (s.core c).Fetches ws)
    (hb : Bundle.ofWords (s.core c).pc.toNat ws = b) (hoff : b.predOff (s.core c).set.t = false) :
    s.issueBundle c y = match s.bundleFault c b with
      | (some tr, s) => s.bundleTrap c y b tr
      | (none, s) => s.bundleCommit c y b := by
  unfold State.issueBundle
  dsimp only
  rw [if_neg h.issues, hf.fetch]
  dsimp only
  rw [hf.legal, hb]
  dsimp only
  rw [hoff]
  rfl

/-- The first fault before any access is made traps. -/
theorem State.issueBundle_faults (s : State) (c : Nat) (y : Cyc) (h : s.Ready c) (ws : List Word) (b : Bundle) (tr : Trap)
    (hf : (s.core c).Fetches ws) (hb : Bundle.ofWords (s.core c).pc.toNat ws = b) (hoff : b.predOff (s.core c).set.t = false)
    (hfault : ((s.core c).faults b).findSome? id = some tr) : s.issueBundle c y = s.bundleTrap c y b tr := by
  rw [s.issueBundle_on c y h ws b hf hb hoff, State.bundleFault]
  dsimp only
  rw [hfault]

/-! ### Accesses of the core's own memories (R350) -/

theorem regionOf_own (a : Nat) (h : a < 0x20000) : regionOf a = .x ∨ regionOf a = .y := by
  by_cases hx : a < yBase
  · exact .inl (if_pos hx)
  · exact .inr ((if_neg hx).trans (if_pos h))

theorem State.busFault_own (s : State) (c size : Nat) (store : Bool) (a : Nat) (h : a < 0x20000) : s.busFault c size store a = false := by
  unfold State.busFault
  obtain h | h := regionOf_own a h
  · rw [h]
  · rw [h]

theorem State.bankLoads_own (s : State) (c n : Nat) (as : List Nat) (h : ∀ a ∈ as, a < 0x20000) : s.bankLoads c n as = (none, s) := by
  induction as with
  | nil => rfl
  | cons a as ih =>
    obtain ⟨ha, has⟩ := List.forall_mem_cons.mp h
    have hbank : regionOf a ≠ .bank := by
      obtain h | h := regionOf_own a ha
      · rw [h]; decide
      · rw [h]; decide
    rw [State.bankLoads, if_neg hbank, ih has]

theorem State.loadValues_own (s : State) (c n : Nat) (as : List Nat) (h : ∀ a ∈ as, a < 0x20000) :
    s.loadValues c n as = (as.map ((s.core c).load · n), s) := by
  induction as with
  | nil => rfl
  | cons a as ih =>
    obtain ⟨ha, has⟩ := List.forall_mem_cons.mp h
    have hload : s.loadValue c n a = ((s.core c).load a n, s) := by
      unfold State.loadValue
      obtain h | h := regionOf_own a ha
      · rw [h]
      · rw [h]
    rw [State.loadValues, hload]
    dsimp only
    rw [ih has]
    rfl

theorem State.outerStore_own (s : State) (c a : Nat) (bs : List Byte) (h : a < 0x20000) : s.outerStore c a bs = s := by
  unfold State.outerStore
  obtain h | h := regionOf_own a h
  · rw [h]
  · rw [h]

/-! ### A bundle that commits (R345) -/

/-- A bundle meets no fault, and accesses the core's own memories alone. -/
structure Core.Clear (k : Core) (b : Bundle) : Prop where
  faults : (k.faults b).findSome? id = none
  own : ∀ a ∈ (k.bundleAcc b).1, a < 0x20000
  stack : k.stackBus b = none

/-- The core after a bundle that has loaded some values, but for its counters. -/
def Core.issued (k : Core) (b : Bundle) (vs : List Nat) : Core :=
  let r := ((k.afterData b vs).afterControl k b).continue_ b
  r.core.transfer k b r.at_

/-- What a bundle loads from the core's own memories. -/
def Core.loaded (k : Core) (b : Bundle) : List Nat :=
  if (k.bundleAcc b).2.2 then [] else (k.bundleAcc b).1.map (k.load · (k.bundleAcc b).2.1)

theorem State.mem_recordYield (s : State) (c : Nat) : (s.recordYield c).mem = s.mem := rfl

/-- What a commit makes of the core, and that the bundle's TRAP, where it has one, traps after it. -/
theorem State.bundleCommit_core (s : State) (c : Nat) (y : Cyc) (b : Bundle) (hc : c < 16)
    (hown : ∀ a ∈ ((s.core c).bundleAcc b).1, a < 0x20000) : ∃ u : State, u.mem = s.mem
      ∧ (∃ m q l o z, u.core c = { (s.core c).issued b ((s.core c).loaded b) with pmu := m, evq := q, lastPc := l, owed := o, yielded := z })
      ∧ s.bundleCommit c y b = match b.cs with
        | .trap code => u.coreTrap c (tcSoft, code.setWidth 32) (BitVec.ofNat 15
            ((((s.core c).afterData b ((s.core c).loaded b)).afterControl (s.core c) b).continue_ b).at_)
        | _ => u := by
  have hload : (if ((s.core c).bundleAcc b).2.2 then (([], s) : List Nat × State)
      else s.loadValues c ((s.core c).bundleAcc b).2.1 ((s.core c).bundleAcc b).1) = ((s.core c).loaded b, s) := by
    unfold Core.loaded
    split
    · rfl
    · exact s.loadValues_own c _ _ hown
  unfold State.bundleCommit
  dsimp only
  rw [hload]
  dsimp only
  generalize hcounts : (s.setCore c { s.core c with lastPc := BitVec.ofNat 15 b.addr }).countIssue c y b false b.words.length
    ((s.core c).microOps b) _ = v
  have hv : v.mem = s.mem := hcounts ▸ (State.tallies_countIssue _ c y b _ _ _ _ hc).mem
  generalize hyield : (if b.cs = .yield ∧ !(s.core c).levels.isEmpty then v.recordYield c else v) = w
  have hw : w.mem = s.mem := by
    rw [← hyield]
    split
    · exact (v.mem_recordYield c).trans hv
    · exact hv
  generalize hdone : w.commitCore c _ = u
  have hlast (v : State) (hv : v = u) : (match b.cs with
      | .trap code => v.coreTrap c (tcSoft, code.setWidth 32) (BitVec.ofNat 15
          ((((s.core c).afterData b ((s.core c).loaded b)).afterControl (s.core c) b).continue_ b).at_)
      | _ => v) = match b.cs with
      | .trap code => u.coreTrap c (tcSoft, code.setWidth 32) (BitVec.ofNat 15
          ((((s.core c).afterData b ((s.core c).loaded b)).afterControl (s.core c) b).continue_ b).at_)
      | _ => u := by rw [hv]
  refine ⟨u, ?_, ?_, ?_⟩
  · rw [← hdone]
    exact hw
  · refine ⟨(w.core c).pmu, (w.core c).evq, BitVec.ofNat 15 b.addr, (w.core c).owed, (w.core c).yielded, ?_⟩
    rw [← hdone, State.commitCore, State.core_setCore_same]
    rfl
  · refine hlast _ ?_
    split
    next a h _ => exact u.outerStore_own c a _ (hown a (by rw [h]; exact List.mem_singleton_self a))
    next => rfl

theorem State.issueBundle_commits (s : State) (c : Nat) (y : Cyc) (h : s.Ready c) (ws : List Word) (b : Bundle)
    (hf : (s.core c).Fetches ws) (hb : Bundle.ofWords (s.core c).pc.toNat ws = b) (hoff : b.predOff (s.core c).set.t = false)
    (hclear : (s.core c).Clear b) : s.issueBundle c y = s.bundleCommit c y b := by
  have hbus : ((s.core c).bundleAcc b).1.find? (s.busFault c ((s.core c).bundleAcc b).2.1 ((s.core c).bundleAcc b).2.2) = none :=
    List.find?_eq_none.mpr fun a ha => by rw [s.busFault_own c _ _ a (hclear.own a ha)]; decide
  have hfault : s.bundleFault c b = (none, s) := by
    unfold State.bundleFault
    dsimp only
    rw [hclear.faults]
    dsimp only
    rw [hbus]
    dsimp only
    rw [s.bankLoads_own c _ _ hclear.own, ite_self]
    dsimp only
    rw [hclear.stack]
  rw [s.issueBundle_on c y h ws b hf hb hoff, hfault]

/-- A core is as another one, but for what counts and samples it. -/
def Core.Shows (k u : Core) : Prop := ∃ m q l o z, u = { k with pmu := m, evq := q, lastPc := l, owed := o, yielded := z }

/-- A bundle with no TRAP leaves its core as issued, and the banks as they are. -/
theorem State.bundleIssue_shows (s : State) (c : Fin 16) (y : Cyc) (h : s.Ready c) (ws : List Word) (b : Bundle)
    (hf : (s.core c).Fetches ws) (hb : Bundle.ofWords (s.core c).pc.toNat ws = b) (hoff : b.predOff (s.core c).set.t = false)
    (hclear : (s.core c).Clear b) (htrap : ∀ code, b.cs ≠ .trap code) : ∃ t, exec (.bundleIssue c y) s = .next t
      ∧ ((s.core c).issued b ((s.core c).loaded b)).Shows (t.core c) ∧ t.mem = s.mem := by
  obtain ⟨u, hmem, hcore, hrun⟩ := s.bundleCommit_core c y b c.isLt hclear.own
  refine ⟨_, rfl, ?_⟩
  rw [s.issueBundle_commits c y h ws b hf hb hoff hclear, hrun]
  split
  next code hcode => exact absurd hcode (htrap code)
  next => exact ⟨hcore, hmem⟩

/-! ### Faults that are not met (R339, R358) -/

theorem Cnt.le_iff (a b : Cnt) : a.le b = true ↔ a.x ≤ b.x ∧ a.y ≤ b.y ∧ a.a ≤ b.a ∧ a.f ≤ b.f := by
  simp only [Cnt.le, Bool.and_eq_true, decide_eq_true_eq, and_assoc]

theorem Core.stackFaults_none (k : Core) (b : Bundle) (need used push : Cnt) (h : wholeEffect .zero (k.effects b) = (need, used, push))
    (hneed : need.le k.stk.size = true) (hroom : (push.add (k.stk.drop used).size).le stackCap = true) : ∀ f ∈ k.stackFaults b, f = none := by
  have hchk (n u p d cap under ovf : Nat) (hn : n ≤ d) (hp : p + (d - u) ≤ cap) :
      ∀ f ∈ ([if d < n then some (under, 0) else none, if cap < d - u + p then some (ovf, 0) else none] : List (Option Trap)), f = none := by
    rw [if_neg (by omega), if_neg (by omega)]
    simp
  rw [Cnt.le_iff] at hneed hroom
  simp only [Cnt.add, Stk.size, Stk.drop, List.length_drop] at hneed hroom
  obtain ⟨hnx, hny, hna, hnf⟩ := hneed
  obtain ⟨hrx, hry, hra, hrf⟩ := hroom
  intro f hmem
  rw [Core.stackFaults, h] at hmem
  simp only [List.mem_append] at hmem
  obtain ((hm | hm) | hm) | hm := hmem
  · exact hchk _ _ _ _ _ _ _ hnx hrx f hm
  · exact hchk _ _ _ _ _ _ _ hny hry f hm
  · exact hchk _ _ _ _ _ _ _ hna hra f hm
  · exact hchk _ _ _ _ _ _ _ hnf hrf f hm

theorem Core.faults_none (k : Core) (b : Bundle) (hbrx : k.brxFault b = none) (hpriv : k.privFault b = none)
    (hstack : ∀ f ∈ k.stackFaults b, f = none) (hmicro : k.microFault b = none) (hcall : k.callOver b = none)
    (hreturn : k.returnUnder b = none) (halign : ∀ a ∈ (k.bundleAcc b).1, a % (k.bundleAcc b).2.1 = 0) :
    (k.faults b).findSome? id = none := by
  have hfind : (k.bundleAcc b).1.find? (fun a => a % (k.bundleAcc b).2.1 != 0) = none :=
    List.find?_eq_none.mpr fun a ha => by rw [halign a ha]; decide
  rw [List.findSome?_eq_none_iff]
  intro f hmem
  rw [Core.faults] at hmem
  simp only [List.mem_append, List.mem_cons, List.not_mem_nil, or_false] at hmem
  obtain ((hm | hm) | hm) | hm | hm | hm | hm := hmem
  · exact hm.trans hbrx
  · exact hm.trans hpriv
  · exact hstack f hm
  · exact hm.trans hmicro
  · exact hm.trans hcall
  · exact hm.trans hreturn
  · exact hm.trans (by rw [hfind]; rfl)

/-! ### The end of a bundle outside loops (R353) -/

/-- No loop of a core is active. -/
structure Core.Unlooped (k : Core) : Prop where
  loop0 : k.set.loop0.cnt = 0
  loop1 : k.set.loop1.cnt = 0

theorem Core.Unlooped.loop {k : Core} (h : k.Unlooped) (one : Bool) : (k.loop one).cnt = 0 := by
  cases one with
  | false => exact h.loop0
  | true => exact h.loop1

theorem Core.closeLoop_idle (k : Core) (one : Bool) (addr stop : Nat) (h : (k.loop one).cnt = 0) :
    k.closeLoop one addr stop = ⟨k, false, 0⟩ := by
  rw [Core.closeLoop]
  dsimp only
  rw [h]
  rfl

theorem Core.continue_idle (k : Core) (b : Bundle) (hstarts : b.cs.starts = none) (h : k.Unlooped) : k.continue_ b = ⟨k, b.stop, false, 0⟩ := by
  have hclose : k.closeLoops none b.addr b.stop = (k, none, 0) := by
    simp [Core.closeLoops, k.closeLoop_idle true _ _ (h.loop true), k.closeLoop_idle false _ _ (h.loop false)]
  rw [Core.continue_, hstarts, hclose]
  rfl

/-- A taken branch ends no loop where none is active. -/
theorem Core.branchLoops_idle (k : Core) (target : Nat) (h : k.Unlooped) : k.branchLoops target = k := by
  have hloop (l : Loop) (hl : l.cnt = 0) : ({ l with cnt := 0 } : Loop) = l := by rw [← hl]
  have hset (one : Bool) : k.setLoop one { k.loop one with cnt := 0 } = k := by
    rw [hloop _ (h.loop one)]
    cases one with
    | false => rfl
    | true => rfl
  simp only [Core.branchLoops, List.foldl_cons, List.foldl_nil, hset, ite_self]

end Sys2Proof.Machine

/-! Bundles that trap: what the trap commits and saves (R340, R344, R357 to R360), and bundles of one syllable of the A or the C unit. -/

namespace Sys2Proof.Machine

open Sys2Proof.Fields Sys2Proof.Laws

/-! ### Bundles of one syllable -/

/-- The bundle of one A syllable, and of a C syllable with no other one but a literal. -/
def Bundle.ofA (addr : Nat) (w : Word) (y : ASyl) : Bundle := ⟨addr, [w], none, none, some (w, y), none, none, 0⟩
def Bundle.ofC (addr : Nat) (w : Word) (y : CSyl) (more : List Word) (lit : BitVec 15) : Bundle :=
  ⟨addr, w :: more, none, none, none, none, some (w, y), lit⟩

theorem Bundle.ofWords_a (addr : Nat) (y : ASyl) :
    Bundle.ofWords addr [encodeSyl true (.a y)] = .ofA addr (encodeSyl true (.a y)) y := by
  simp only [Bundle.ofWords, List.foldl_cons, List.foldl_nil, Bundle.add, decodeSyl_encodeSyl, Bundle.ofA]

theorem Bundle.ofWords_c (addr : Nat) (y : CSyl) :
    Bundle.ofWords addr [encodeSyl true (.c y)] = .ofC addr (encodeSyl true (.c y)) y [] 0 := by
  simp only [Bundle.ofWords, List.foldl_cons, List.foldl_nil, Bundle.add, decodeSyl_encodeSyl, Bundle.ofC]

theorem Cnt.zero_add (a : Cnt) : Cnt.zero.add a = a := by simp [Cnt.add, Cnt.zero]

theorem Cnt.add_zero (a : Cnt) : a.add Cnt.zero = a := rfl

theorem Cnt.max_zero (a : Cnt) : a.max Cnt.zero = a := by simp [Cnt.max, Cnt.zero]

theorem Cnt.zero_max (a : Cnt) : Cnt.zero.max a = a := by simp [Cnt.max, Cnt.zero]

theorem Cnt.max_self (a : Cnt) : a.max a = a := by simp [Cnt.max]

theorem Core.wholeEffect_ofC (k : Core) (addr : Nat) (w : Word) (y : CSyl) (more : List Word) (lit : BitVec 15) :
    wholeEffect .zero (k.effects (.ofC addr w y more lit)) = (y.effect.1, y.effect.1, y.effect.2) := by
  have heffects : k.effects (.ofC addr w y more lit) = [(.zero, .zero, .zero), (.zero, .zero, .zero), (.zero, .zero, .zero),
    (.zero, .zero, .zero), (y.effect.1, y.effect.1, y.effect.2)] := rfl
  rw [heffects]
  simp only [wholeEffect, Cnt.zero_add, Cnt.add_zero, Cnt.max_zero, Cnt.zero_max]

/-- The entries that the C syllable of a bundle finds, where no other syllable stands before it. -/
theorem Core.usedBefore_ofC (k : Core) (addr : Nat) (w : Word) (y : CSyl) (more : List Word) (lit : BitVec 15) :
    k.usedBefore (.ofC addr w y more lit) 4 = .zero ∧ k.usedBefore (.ofC addr w y more lit) 5 = y.effect.1 :=
  ⟨rfl, Cnt.zero_add _⟩

/-- The stacks of a core after a bundle's C syllable has taken its entries. -/
def Core.taking (k : Core) (n : Cnt) : Core := k.setStk (k.stk.drop n)

/-- A bundle of one C syllable that leaves no entry takes its entries, and nothing else changes before its own effect. -/
theorem Core.afterData_ofC (k : Core) (addr : Nat) (w : Word) (y : CSyl) (more : List Word) (lit : BitVec 15) (hleave : ∀ r, y ≠ .movfc r) :
    k.afterData (.ofC addr w y more lit) [] = k.taking y.effect.1 := by
  have hresult : k.cResult (.ofC addr w y more lit) = Stk.none := by
    unfold Core.cResult
    split
    next r h => exact absurd h (hleave r)
    next => rfl
  have hstacks : k.stacksAfter (.ofC addr w y more lit) Stk.none Stk.none = k.stk.drop y.effect.1 := by
    rw [Core.stacksAfter, (k.usedBefore_ofC addr w y more lit).2]
    rfl
  have hflags : k.set.flags ||| BitVec.ofNat 5 0 = k.set.flags := BitVec.or_zero
  have hdata : k.afterData (.ofC addr w y more lit) []
      = { k.setStk (k.stacksAfter (.ofC addr w y more lit) Stk.none (k.cResult (.ofC addr w y more lit))) with
          set := { (k.setStk (k.stacksAfter (.ofC addr w y more lit) Stk.none (k.cResult (.ofC addr w y more lit)))).set with
            t := k.set.t, flags := k.set.flags ||| BitVec.ofNat 5 0, satf := k.set.satf || false } } := rfl
  rw [hdata, hresult, hstacks, hflags, Bool.or_false]
  rfl

/-- The stacks hold no more than they have room for (R339). -/
structure Core.Fits (k : Core) : Prop where
  x : k.set.x.length ≤ 16
  y : k.set.y.length ≤ 16
  a : k.set.a.length ≤ 8
  f : k.set.f.length ≤ 8

/-- A C syllable that leaves no entry meets no fault of the stacks where its entries are there. -/
theorem Core.stackFaults_ofC (k : Core) (addr : Nat) (w : Word) (y : CSyl) (more : List Word) (lit : BitVec 15) (h : k.Fits)
    (hx : y.effect.1.x ≤ k.set.x.length)
    (hleave : y.effect = (⟨y.effect.1.x, 0, 0, 0⟩, .zero)) : ∀ f ∈ k.stackFaults (.ofC addr w y more lit), f = none := by
  refine k.stackFaults_none _ _ _ _ (k.wholeEffect_ofC addr w y more lit) ?_ ?_
  · rw [hleave, Cnt.le_iff]
    exact ⟨hx, Nat.zero_le _, Nat.zero_le _, Nat.zero_le _⟩
  · rw [hleave, Cnt.zero_add, Cnt.le_iff]
    obtain ⟨h1, h2, h3, h4⟩ := h
    refine ⟨?_, h2, h3, h4⟩
    simp only [Stk.size, Stk.drop, Core.stk, List.length_drop, stackCap]
    omega

/-! ### What a trap saves (R359, R360) -/

/-- A trap of core c has been taken: what it leaves, what it saves, and the count of its event. -/
structure State.Trapped (s : State) (c : Nat) (cause : Nat) (tval : Word) (tpc : BitVec 15) (t : State) : Prop where
  banks : t.mem = s.mem
  mem : (t.core c).mem = (s.core c).mem
  rsp : (t.core c).rsp = (s.core c).rsp
  shadow : (t.core c).shadow = (s.core c).shadow
  levels : (t.core c).levels = (s.core c).levels
  entry : (s.core c).th = false → (s.core c).halted = false →
    (t.core c).set = { (s.core c).set with tpc := tpc, tcause := BitVec.ofNat 32 cause, tval := tval, u := false, ie := false }
    ∧ (t.core c).pu = (s.core c).set.u ∧ (t.core c).pie = (s.core c).set.ie ∧ (t.core c).th = true
    ∧ (t.core c).pc = (s.core c).tvec.setWidth 16 ∧ (t.core c).halted = false
    ∧ t.fld (routeCount (201 + 2 * c)) = (if (s.core c).treport.getLsbD cause then min (s.fld (routeCount (201 + 2 * c)) + 1) 0xFFFFFFFF
        else s.fld (routeCount (201 + 2 * c)))
  halt : (s.core c).th = true → (t.core c).halted = true ∧ (t.core c).set = (s.core c).set ∧ (t.core c).pu = (s.core c).pu
    ∧ (t.core c).pie = (s.core c).pie ∧ t.fld (routeCount (201 + 2 * c)) = min (s.fld (routeCount (201 + 2 * c)) + 1) 0xFFFFFFFF

theorem Core.enterTrap_of_th (k : Core) (tr : Trap) (tpc : BitVec 15) (h : k.th = true) : k.enterTrap tr tpc = { k with halted := true } :=
  if_pos h

theorem Core.enterTrap_of_not_th (k : Core) (tr : Trap) (tpc : BitVec 15) (h : k.th = false) : k.enterTrap tr tpc =
    { k with
      set := { k.set with tpc := tpc, tcause := BitVec.ofNat 32 tr.1, tval := tr.2, u := false, ie := false }
      pu := k.set.u, pie := k.set.ie, th := true, pc := k.tvec.setWidth 16 } := if_neg (by rw [h]; decide)

theorem State.coreTrap_trapped (s : State) (c : Nat) (cause : Nat) (tval : Word) (tpc : BitVec 15) (hc : c < 16) :
    s.Trapped c cause tval tpc (s.coreTrap c (cause, tval) tpc) := by
  obtain ⟨hmem, ⟨m, q, hcore⟩, hevent⟩ := s.coreTrap_enters c (cause, tval) tpc hc
  cases hth : (s.core c).th with
  | true =>
    rw [Core.enterTrap_of_th _ _ _ hth] at hcore
    rw [hth, Bool.true_or, if_pos rfl] at hevent
    refine ⟨hmem, ?_, ?_, ?_, ?_, fun h => absurd (hth.symm.trans h) (by decide), fun _ => ⟨?_, ?_, ?_, ?_, hevent⟩⟩ <;> rw [hcore]
  | false =>
    rw [Core.enterTrap_of_not_th _ _ _ hth] at hcore
    rw [hth, Bool.false_or] at hevent
    refine ⟨hmem, ?_, ?_, ?_, ?_, fun _ hrun => ⟨?_, ?_, ?_, ?_, ?_, ?_, hevent⟩, fun h => absurd (hth.symm.trans h) (by decide)⟩
      <;> rw [hcore]
    exact hrun

/-- What counts and samples leaves what a trap saves. -/
theorem State.Trapped.of_tallies {s u t : State} {c : Nat} {cause : Nat} {tval : Word} {tpc : BitVec 15} (hc : c < 16)
    (h : State.Tallies c s u) (ht : u.Trapped c cause tval tpc t) : s.Trapped c cause tval tpc t := by
  obtain ⟨hmem, ⟨m, q, hcore⟩, hevent⟩ := h
  obtain ⟨h1, h2, h3, h4, h5, h6, h7⟩ := ht
  rw [hcore] at h2 h3 h4 h5 h6 h7
  rw [hevent _ (by omega)] at h6 h7
  exact ⟨h1.trans hmem, h2, h3, h4, h5, h6, h7⟩

/-- A bundle that traps commits nothing but the trap's entry. -/
theorem State.bundleTrap_trapped (s : State) (c : Nat) (y : Cyc) (b : Bundle) (cause : Nat) (tval : Word) (hc : c < 16) :
    s.Trapped c cause tval (BitVec.ofNat 15 b.addr) (s.bundleTrap c y b (cause, tval)) :=
  .of_tallies hc (s.tallies_countIssue c y b false 0 0 [] hc) (State.coreTrap_trapped _ c cause tval _ hc)

/-! ### The faults that O56 names -/

theorem State.fetch_traps (s : State) (c : Fin 16) (y : Cyc) (h : s.Ready c) (hpc : 0x8000 ≤ (s.core c).pc.toNat) :
    s.Trapped c 1 ((s.core c).pc.setWidth 32) ((s.core c).pc.setWidth 15) (s.issueBundle c y) := by
  obtain ⟨b, haddr, hrun⟩ := s.issueBundle_beyond c y h hpc
  rw [hrun, ← BitVec.ofNat_toNat, ← BitVec.ofNat_toNat, ← haddr]
  exact s.bundleTrap_trapped c y b tcFetch _ c.isLt

theorem State.reserved_traps (s : State) (c : Fin 16) (y : Cyc) (h : s.Ready c) (hpc : (s.core c).pc.toNat < 0x8000)
    (hstop : ((s.core c).syl (s.core c).pc.toNat).msb = true) (hnone : decodeSyl ((s.core c).syl (s.core c).pc.toNat) = none) :
    s.Trapped c 2 ((s.core c).syl (s.core c).pc.toNat) ((s.core c).pc.setWidth 15) (s.issueBundle c y) := by
  have hbad : (s.core c).badSyl [(s.core c).syl (s.core c).pc.toNat] none 0 ((s.core c).syl (s.core c).pc.toNat) = true := by
    rw [Core.badSyl, hnone]
  rw [s.issueBundle_illegal c y h _ _ ((s.core c).fetch_stop 5 _ hpc hstop) (if_pos hbad), ← BitVec.ofNat_toNat]
  have haddr : (Bundle.ofWords (s.core c).pc.toNat [(s.core c).syl (s.core c).pc.toNat]).addr = (s.core c).pc.toNat := by
    simp only [Bundle.ofWords, List.foldl_cons, List.foldl_nil, Bundle.add, hnone]
  have ht := s.bundleTrap_trapped c y (Bundle.ofWords (s.core c).pc.toNat [(s.core c).syl (s.core c).pc.toNat]) tcIllegal
    ((s.core c).syl (s.core c).pc.toNat) c.isLt
  rw [haddr] at ht
  exact ht

theorem State.underflow_traps (s : State) (c : Fin 16) (y : Cyc) (h : s.Ready c) (hpc : (s.core c).pc.toNat < 0x8000)
    (hsyl : (s.core c).syl (s.core c).pc.toNat = encodeSyl true (.a (.plain .add))) (hfew : (s.core c).set.x.length < 2) :
    s.Trapped c 4 0 ((s.core c).pc.setWidth 15) (s.issueBundle c y) := by
  let b := Bundle.ofA (s.core c).pc.toNat (encodeSyl true (.a (.plain .add))) (.plain .add)
  have hpriv : (s.core c).privFault b = none := by
    rw [Core.privFault]
    split
    · rfl
    · rfl
  obtain ⟨l, hstack⟩ : ∃ l, (s.core c).stackFaults b = (if (s.core c).set.x.length < 2 then some (tcXunf, 0) else none) :: l := ⟨_, rfl⟩
  have hbrx : (s.core c).brxFault b = none := rfl
  have hfault : ((s.core c).faults b).findSome? id = some (tcXunf, 0) := by
    rw [Core.faults]
    dsimp only
    rw [hbrx, hpriv, hstack, if_pos hfew]
    rfl
  have hf := (s.core c).fetches_one _ hpc hsyl ((s.core c).badSyl_first _ true _ rfl)
  rw [s.issueBundle_faults c y h _ b _ hf (Bundle.ofWords_a _ _) rfl hfault, ← BitVec.ofNat_toNat]
  exact s.bundleTrap_trapped c y b tcXunf 0 c.isLt

theorem State.reti_traps (s : State) (c : Fin 16) (y : Cyc) (h : s.Ready c) (hpc : (s.core c).pc.toNat < 0x8000)
    (hsyl : (s.core c).syl (s.core c).pc.toNat = encodeSyl true (.c .reti)) (huser : (s.core c).set.u = true) :
    s.Trapped c 3 ((s.core c).syl (s.core c).pc.toNat) ((s.core c).pc.setWidth 15) (s.issueBundle c y) := by
  let b := Bundle.ofC (s.core c).pc.toNat (encodeSyl true (.c .reti)) .reti [] 0
  have hpriv : (s.core c).privFault b = some (tcPriv, encodeSyl true (.c .reti)) := if_neg (by rw [huser]; decide)
  have hbrx : (s.core c).brxFault b = none := rfl
  have hfault : ((s.core c).faults b).findSome? id = some (tcPriv, encodeSyl true (.c .reti)) := by
    rw [Core.faults]
    dsimp only
    rw [hbrx, hpriv]
    rfl
  have hf := (s.core c).fetches_one _ hpc hsyl ((s.core c).badSyl_first _ true _ rfl)
  rw [s.issueBundle_faults c y h _ b _ hf (Bundle.ofWords_c _ _) rfl hfault, ← BitVec.ofNat_toNat, hsyl]
  exact s.bundleTrap_trapped c y b tcPriv _ c.isLt

/-- A TRAP commits its bundle, and traps with the index of the next one. -/
theorem State.soft_traps (s : State) (c : Fin 16) (y : Cyc) (h : s.Ready c) (n : BitVec 8) (hpc : (s.core c).pc.toNat < 0x8000)
    (hsyl : (s.core c).syl (s.core c).pc.toNat = encodeSyl true (.c (.trap n))) (hloops : (s.core c).Unlooped) (hfits : (s.core c).Fits)
    (hth : (s.core c).th = false) : ∃ t, exec (.bundleIssue c y) s = .next t ∧ (t.core c).pc = (s.core c).tvec.setWidth 16
      ∧ (t.core c).th = true ∧ (t.core c).mem = (s.core c).mem
      ∧ (t.core c).set = { (s.core c).set with
          tpc := ((s.core c).pc + 1).setWidth 15, tcause := 18, tval := n.setWidth 32, u := false, ie := false } := by
  let k := s.core c
  let b := Bundle.ofC k.pc.toNat (encodeSyl true (.c (.trap n))) (.trap n) [] 0
  have hdata : k.afterData b [] = k := k.afterData_ofC _ _ _ _ _ (by intro r; exact nofun)
  have hcontinue : ((k.afterData b []).afterControl k b).continue_ b = ⟨k, k.pc.toNat + 1, false, 0⟩ := by
    rw [hdata]
    exact k.continue_idle b rfl hloops
  have hissued : k.issued b [] = { k with pc := BitVec.ofNat 16 (k.pc.toNat + 1) } := by
    rw [Core.issued, hcontinue]
    rfl
  have hpriv : k.privFault b = none := by
    rw [Core.privFault]
    split
    · rfl
    · rfl
  have hclear : k.Clear b :=
    ⟨k.faults_none b rfl hpriv (k.stackFaults_ofC _ _ _ _ _ hfits (Nat.zero_le _) rfl) rfl rfl rfl (fun a ha => absurd ha List.not_mem_nil),
      fun a ha => absurd ha List.not_mem_nil, rfl⟩
  have hf := k.fetches_one _ hpc hsyl (k.badSyl_first _ true _ rfl)
  obtain ⟨u, -, ⟨m, q, l, o, z, hcore⟩, hrun⟩ := s.bundleCommit_core c y b c.isLt hclear.own
  have hstop : BitVec.ofNat 15 (k.pc.toNat + 1) = (k.pc + 1).setWidth 15 := by
    refine BitVec.eq_of_toNat_eq ?_
    have hnext : (k.pc + 1).toNat = (k.pc.toNat + 1) % 2 ^ 16 := BitVec.toNat_add _ _
    rw [BitVec.toNat_ofNat, BitVec.toNat_setWidth, hnext]
    omega
  have hcommit : s.issueBundle c y = u.coreTrap c (18, n.setWidth 32) ((k.pc + 1).setWidth 15) := by
    rw [s.issueBundle_commits c y h _ b hf (Bundle.ofWords_c _ _) rfl hclear, hrun, ← hstop]
    have hat : (((k.afterData b (k.loaded b)).afterControl k b).continue_ b).at_ = k.pc.toNat + 1 := congrArg Continue.at_ hcontinue
    exact congrArg (fun i => u.coreTrap c (tcSoft, n.setWidth 32) (BitVec.ofNat 15 i)) hat
  have hshows : u.core c = { k with pc := BitVec.ofNat 16 (k.pc.toNat + 1), pmu := m, evq := q, lastPc := l, owed := o, yielded := z } :=
    hcore.trans (by rw [show ((s.core c).loaded b) = [] from rfl, hissued])
  obtain ⟨-, hmem, -, -, -, hentry, -⟩ := u.coreTrap_trapped c 18 (n.setWidth 32) ((k.pc + 1).setWidth 15) c.isLt
  rw [hshows] at hmem hentry
  obtain ⟨hset, -, -, hhandler, hvec, -, -⟩ := hentry hth h.halted
  refine ⟨_, rfl, ?_⟩
  rw [hcommit]
  exact ⟨hvec, hhandler, hmem, hset⟩

/-! ### O56 -/

/-- Settles O56: a fault is found before any register is written, so of a bundle that traps only the counters' changes stand beside what the
entry saves; TRAP commits first. -/
theorem bundleTraps : Obligations.BundleTraps := by
  intro s c y hruns hhalted hwait hdue
  have h : s.Ready c := ⟨hruns, hhalted, hwait, hdue⟩
  have htraps (cause : Nat) (tval : Word) (tpc : BitVec 15) (ht : s.Trapped c cause tval tpc (s.issueBundle c y)) :
      ∃ t, exec (.bundleIssue c y) s = .next t ∧ s.Trapped c cause tval tpc t := ⟨_, rfl, ht⟩
  refine ⟨fun hpc => ?_, fun hpc hstop hnone => ?_, fun ⟨hpc, hsyl⟩ hfew => ?_, fun ⟨hpc, hsyl⟩ huser => ?_,
    fun n ⟨hpc, hsyl⟩ h0 h1 hx hy ha hf hth => s.soft_traps c y h n hpc hsyl ⟨h0, h1⟩ ⟨hx, hy, ha, hf⟩ hth⟩
  · obtain ⟨t, hrun, ⟨h1, h2, h3, h4, h5, h6, h7⟩⟩ := htraps _ _ _ (s.fetch_traps c y h hpc)
    exact ⟨t, hrun, h1, h2, h3, h4, h5, fun hth => h6 hth hhalted, h7⟩
  · obtain ⟨t, hrun, ⟨h1, h2, h3, h4, h5, h6, h7⟩⟩ := htraps _ _ _ (s.reserved_traps c y h hpc hstop hnone)
    exact ⟨t, hrun, h1, h2, h3, h4, h5, fun hth => h6 hth hhalted, h7⟩
  · obtain ⟨t, hrun, ⟨h1, h2, h3, h4, h5, h6, h7⟩⟩ := htraps _ _ _ (s.underflow_traps c y h hpc hsyl hfew)
    exact ⟨t, hrun, h1, h2, h3, h4, h5, fun hth => h6 hth hhalted, h7⟩
  · obtain ⟨t, hrun, ⟨h1, h2, h3, h4, h5, h6, h7⟩⟩ := htraps _ _ _ (s.reti_traps c y h hpc hsyl huser)
    exact ⟨t, hrun, h1, h2, h3, h4, h5, fun hth => h6 hth hhalted, h7⟩

end Sys2Proof.Machine

/-! Bundles of an M, an A or an L syllable that commit, and the frames of the return stack (R345 to R349, R354, R372). -/

namespace Sys2Proof.Machine

open Sys2Proof.Fields Sys2Proof.Laws

/-! ### Indices (R340) -/

theorem nextIndex (p : BitVec 16) : BitVec.ofNat 16 (p.toNat + 1) = p + 1 := by
  rw [BitVec.ofNat_add, BitVec.ofNat_toNat, BitVec.setWidth_eq]
  rfl

theorem secondIndex (p : BitVec 16) : BitVec.ofNat 16 (p.toNat + 2) = p + 2 := by
  rw [BitVec.ofNat_add, BitVec.ofNat_toNat, BitVec.setWidth_eq]
  rfl

theorem offsetIndex (p off : BitVec 16) : BitVec.ofInt 16 ((p.toNat : Int) + off.toInt) = p + off := by
  rw [BitVec.ofInt_add, BitVec.ofInt_toInt, BitVec.ofInt_natCast, BitVec.ofNat_toNat, BitVec.setWidth_eq]

/-! ### What a bundle leaves of a core, as the obligation asks it -/

/-- BUNDLE_ISSUE completes, a property holds of its core afterwards, and the banks are as before. -/
def State.Issues (s : State) (c : Fin 16) (y : Cyc) (p : Core → Prop) : Prop :=
  ∃ t, exec (.bundleIssue c y) s = .next t ∧ p (t.core c) ∧ t.mem = s.mem

/-- What holds of the core as issued, whatever counts it, holds after BUNDLE_ISSUE. -/
theorem State.bundleIssue_issues (s : State) (c : Fin 16) (y : Cyc) (h : s.Ready c) (ws : List Word) (b : Bundle) (k : Core)
    (hf : (s.core c).Fetches ws) (hb : Bundle.ofWords (s.core c).pc.toNat ws = b) (hoff : b.predOff (s.core c).set.t = false)
    (hclear : (s.core c).Clear b) (htrap : ∀ code, b.cs ≠ .trap code) (hissued : (s.core c).issued b ((s.core c).loaded b) = k)
    (p : Core → Prop) (hp : ∀ m q l o z, p { k with pmu := m, evq := q, lastPc := l, owed := o, yielded := z }) :
    s.Issues c y p := by
  obtain ⟨t, hrun, ⟨m, q, l, o, z, hcore⟩, hmem⟩ := s.bundleIssue_shows c y h ws b hf hb hoff hclear htrap
  exact ⟨t, hrun, by rw [hcore, hissued]; exact hp m q l o z, hmem⟩

/-- Without a C syllable execution continues at the next bundle. -/
theorem Core.issued_nop (k : Core) (b : Bundle) (vs : List Nat) (hc : b.c = none) (h : (k.afterData b vs).Unlooped) :
    k.issued b vs = { k.afterData b vs with pc := BitVec.ofNat 16 b.stop } := by
  have hcs : b.cs = .nop := by rw [Bundle.cs, hc]; rfl
  have hbranch : k.branchTo b = none := by rw [Core.branchTo, hcs]
  have hcontrol : (k.afterData b vs).afterControl k b = k.afterData b vs := by
    rw [Core.afterControl, hcs, hbranch]
  have htransfer (u : Core) (n : Nat) : u.transfer k b n = { u with pc := BitVec.ofNat 16 n } := by
    rw [Core.transfer, hcs, hbranch]
  rw [Core.issued, hcontrol, Core.continue_idle _ b (by rw [hcs]; rfl) h]
  exact htransfer _ _

/-! ### A syllables (R348) -/

/-- A syllable that is no customer opcode. -/
def ASyl.ordinary (e : ASyl) : Prop := ∀ n a, e ≠ .cust n a

theorem ASyl.ordinary.aEffect {e : ASyl} (h : e.ordinary) (k : Core) : k.aEffect e = e.effect := by
  cases e with
  | cust n a => exact absurd rfl (h n a)
  | _ => rfl

theorem ASyl.ordinary.custom {e : ASyl} (h : e.ordinary) (k : Core) (addr : Nat) (w : Word) : k.custom (.ofA addr w e) = none := by
  cases e with
  | cust n a => exact absurd rfl (h n a)
  | _ => rfl

theorem ASyl.ordinary.unconditional {e : ASyl} (h : e.ordinary) : (Syl.a e).unconditional = true := by
  cases e with
  | cust n a => exact absurd rfl (h n a)
  | _ => rfl

theorem Core.wholeEffect_ofA (k : Core) (addr : Nat) (w : Word) (e : ASyl) (h : e.ordinary) :
    wholeEffect .zero (k.effects (.ofA addr w e)) = (e.effect.1, e.effect.1, e.effect.2) := by
  have heffects : k.effects (.ofA addr w e) = [(.zero, .zero, .zero), (.zero, .zero, .zero),
    ((k.aEffect e).1, (k.aEffect e).1, (k.aEffect e).2), (.zero, .zero, .zero), (.zero, .zero, .zero)] := rfl
  rw [heffects, h.aEffect]
  simp only [wholeEffect, Cnt.zero_add, Cnt.add_zero, Cnt.max_zero, Cnt.zero_max, Cnt.max_self]

theorem Core.privFault_ofA (k : Core) (addr : Nat) (w : Word) (e : ASyl) (h : e.ordinary) : k.privFault (.ofA addr w e) = none := by
  cases e with
  | cust n a => exact absurd rfl (h n a)
  | _ =>
    rw [Core.privFault]
    exact ite_self _

theorem Core.clear_ofA (k : Core) (addr : Nat) (w : Word) (e : ASyl) (h : e.ordinary) (hneed : e.effect.1.le k.stk.size = true)
    (hroom : (e.effect.2.add (k.stk.drop e.effect.1).size).le stackCap = true) : k.Clear (.ofA addr w e) := by
  have hmicro : k.microFault (.ofA addr w e) = none := by rw [Core.microFault, h.custom]
  exact ⟨k.faults_none _ rfl (k.privFault_ofA addr w e h) (k.stackFaults_none _ _ _ _ (k.wholeEffect_ofA addr w e h) hneed hroom) hmicro
    rfl rfl fun a ha => absurd ha List.not_mem_nil, fun a ha => absurd ha List.not_mem_nil, rfl⟩

/-- What an A syllable gives is what its operation gives on the entries it takes. -/
theorem Core.aResult_ofA (k : Core) (addr : Nat) (w : Word) (e : ASyl) (h : e.ordinary) :
    (k.aResult (.ofA addr w e)).stk = (e.eval k.set.frm.toNat (k.stk.take e.effect.1)).out
    ∧ (k.aResult (.ofA addr w e)).t = (e.eval k.set.frm.toNat (k.stk.take e.effect.1)).t
    ∧ (k.aResult (.ofA addr w e)).flags = (e.eval k.set.frm.toNat (k.stk.take e.effect.1)).flags
    ∧ (k.aResult (.ofA addr w e)).sats = if (e.eval k.set.frm.toNat (k.stk.take e.effect.1)).sat then 1 else 0 := by
  rw [Core.aResult, h.custom]
  exact ⟨rfl, rfl, rfl, rfl⟩

/-- What an A syllable leaves of the core's stacks and flags. -/
def CoreSet.computed (v : CoreSet) (stk : Stk) (r : ARes) : CoreSet :=
  { v with x := stk.x, y := stk.y, a := stk.a, f := stk.f, t := r.t.getD v.t, flags := v.flags ||| BitVec.ofNat 5 r.flags,
           satf := v.satf || r.sat }

theorem Core.issued_ofA (k : Core) (w : Word) (e : ASyl) (h : e.ordinary) (hloops : k.Unlooped) :
    k.issued (.ofA k.pc.toNat w e) [] = { k with
      set := k.set.computed ((e.eval k.set.frm.toNat (k.stk.take e.effect.1)).out.push (k.stk.drop e.effect.1))
        (e.eval k.set.frm.toNat (k.stk.take e.effect.1))
      pc := k.pc + 1 } := by
  let b := Bundle.ofA k.pc.toNat w e
  have hused : k.usedBefore b 5 = e.effect.1 := by
    have hfold : k.usedBefore b 5 = Cnt.zero.add (k.aEffect e).1 := rfl
    rw [hfold, Cnt.zero_add, h.aEffect]
  obtain ⟨hstk, ht, hflags, hsats⟩ := k.aResult_ofA k.pc.toNat w e h
  have hdata : k.afterData b [] = { k with
      set := k.set.computed ((e.eval k.set.frm.toNat (k.stk.take e.effect.1)).out.push (k.stk.drop e.effect.1))
        (e.eval k.set.frm.toNat (k.stk.take e.effect.1)) } := by
    generalize e.eval k.set.frm.toNat (k.stk.take e.effect.1) = r at hstk ht hflags hsats
    have hstacks : k.stacksAfter b Stk.none (k.cResult b) = r.out.push (k.stk.drop e.effect.1) := by
      rw [Core.stacksAfter, hstk, hused]
      rfl
    have hclamps : (k.clamps b != 0) = r.sat := by
      have hcount : k.clamps b = 0 + (k.aResult b).sats := rfl
      rw [hcount, hsats]
      cases r.sat with
      | false => rfl
      | true => rfl
    have hafter : k.afterData b [] = { k.setStk (k.stacksAfter b Stk.none (k.cResult b)) with
        set := { (k.setStk (k.stacksAfter b Stk.none (k.cResult b))).set with
          t := (k.aResult b).t.getD k.set.t, flags := k.set.flags ||| BitVec.ofNat 5 (k.aResult b).flags,
          satf := k.set.satf || k.clamps b != 0 } } := rfl
    rw [hafter, hstacks, hclamps, ht, hflags]
    rfl
  rw [k.issued_nop b [] rfl (by rw [hdata]; exact ⟨hloops.loop0, hloops.loop1⟩), hdata, ← nextIndex]
  rfl

/-- An A syllable takes its entries and leaves its results; nothing else changes but the index. -/
theorem State.issues_a (s : State) (c : Fin 16) (y : Cyc) (h : s.Ready c) (hloops : (s.core c).Unlooped) (e : ASyl) (he : e.ordinary)
    (hpc : (s.core c).pc.toNat < 0x8000) (hsyl : (s.core c).syl (s.core c).pc.toNat = encodeSyl true (.a e))
    (hneed : e.effect.1.le (s.core c).stk.size = true)
    (hroom : (e.effect.2.add ((s.core c).stk.drop e.effect.1).size).le stackCap = true) (p : Core → Prop)
    (hp : ∀ m q l o z, p { s.core c with
      set := (s.core c).set.computed
        ((e.eval (s.core c).set.frm.toNat ((s.core c).stk.take e.effect.1)).out.push ((s.core c).stk.drop e.effect.1))
        (e.eval (s.core c).set.frm.toNat ((s.core c).stk.take e.effect.1))
      pc := (s.core c).pc + 1, pmu := m, evq := q, lastPc := l, owed := o, yielded := z }) :
    s.Issues c y p :=
  s.bundleIssue_issues c y h _ _ _ ((s.core c).fetches_one _ hpc hsyl ((s.core c).badSyl_first _ true _ he.unconditional))
    (Bundle.ofWords_a _ e) rfl ((s.core c).clear_ofA _ _ e he hneed hroom) (fun _ => nofun) ((s.core c).issued_ofA _ e he hloops) p hp

/-! ### M syllables (R347, R372) -/

/-- A core with other stacks, all else as it was. -/
theorem Core.setStk_plain (k : Core) (stk : Stk) : { k.setStk stk with
      set := { (k.setStk stk).set with t := k.set.t, flags := k.set.flags ||| BitVec.ofNat 5 0, satf := k.set.satf || false } }
    = k.setStk stk := by
  rw [BitVec.or_zero, Bool.or_false]
  rfl

theorem Core.Unlooped.setStk {k : Core} (h : k.Unlooped) (stk : Stk) : (k.setStk stk).Unlooped := ⟨h.loop0, h.loop1⟩

/-- The bundle of one M0 syllable. -/
def Bundle.ofM (addr : Nat) (w : Word) (y : MSyl) : Bundle := ⟨addr, [w], some y, none, none, none, none, 0⟩

theorem Bundle.ofWords_m (addr : Nat) (y : MSyl) :
    Bundle.ofWords addr [encodeSyl true (.m false y)] = .ofM addr (encodeSyl true (.m false y)) y := by
  simp only [Bundle.ofWords, List.foldl_cons, List.foldl_nil, Bundle.add, decodeSyl_encodeSyl, Bundle.ofM]

/-- MAC of two low halves, without saturation. -/
abbrev macLow : MSyl := .bin .mac false false false false false false

/-- What MAC leaves in its accumulator. -/
def macValue (z : Acc) (v w : Word) : Acc := BitVec.ofInt 40 (z.toInt + 2 * ((v.extractLsb' 0 16).toInt * (w.extractLsb' 0 16).toInt))

theorem Core.afterData_mac (k : Core) (addr : Nat) (wd : Word) (v w : Word) (z : Acc) (x q : List Word) (l : List Acc)
    (hx : k.set.x = v :: x) (hy : k.set.y = w :: q) (ha : k.set.a = z :: l) :
    k.afterData (.ofM addr wd macLow) [] = k.setStk ⟨x, q, macValue z v w :: l, k.set.f⟩ := by
  have hresult : k.mResult (.ofM addr wd macLow) false = some (macValue z v w, false) := by
    have heval : k.mResult (.ofM addr wd macLow) false
        = some (macLow.result (k.set.a.getD 0 0) (k.set.x.getD 0 0) (k.set.y.getD 0 0)) := rfl
    rw [heval, hx, hy, ha]
    rfl
  have hstacks : k.stacksAfter (.ofM addr wd macLow) Stk.none (k.cResult (.ofM addr wd macLow)) = ⟨x, q, macValue z v w :: l, k.set.f⟩ := by
    rw [Core.stacksAfter, hresult]
    have hdrop : ({ k.stk with a := k.set.a.set 0 (macValue z v w) } : Stk).drop ⟨1, 1, 0, 0⟩ = ⟨x, q, macValue z v w :: l, k.set.f⟩ := by
      rw [Core.stk, hx, hy, ha]
      rfl
    exact hdrop
  have hclamps : (k.clamps (.ofM addr wd macLow) != 0) = false := by
    rw [Core.clamps, hresult]
    rfl
  have hafter : k.afterData (.ofM addr wd macLow) []
      = { k.setStk (k.stacksAfter (.ofM addr wd macLow) Stk.none (k.cResult (.ofM addr wd macLow))) with
          set := { (k.setStk (k.stacksAfter (.ofM addr wd macLow) Stk.none (k.cResult (.ofM addr wd macLow)))).set with
            t := k.set.t, flags := k.set.flags ||| BitVec.ofNat 5 0,
            satf := k.set.satf || k.clamps (.ofM addr wd macLow) != 0 } } := rfl
  rw [hafter, hstacks, hclamps]
  exact k.setStk_plain _

theorem Core.clear_mac (k : Core) (addr : Nat) (wd : Word) (hneed : (⟨1, 1, 1, 0⟩ : Cnt).le k.stk.size = true) (hfits : k.Fits) :
    k.Clear (.ofM addr wd macLow) := by
  have hpriv : k.privFault (.ofM addr wd macLow) = none := by
    rw [Core.privFault]
    exact ite_self _
  have hroom : ((⟨0, 0, 0, 0⟩ : Cnt).add (k.stk.drop ⟨1, 1, 0, 0⟩).size).le stackCap = true := by
    obtain ⟨h1, h2, h3, h4⟩ := hfits
    rw [Cnt.le_iff]
    simp only [Cnt.add, Stk.size, Stk.drop, Core.stk, List.length_drop, stackCap]
    omega
  exact ⟨k.faults_none _ rfl hpriv (k.stackFaults_none _ ⟨1, 1, 1, 0⟩ ⟨1, 1, 0, 0⟩ ⟨0, 0, 0, 0⟩ rfl hneed hroom) rfl rfl rfl
    fun a ha => absurd ha List.not_mem_nil, fun a ha => absurd ha List.not_mem_nil, rfl⟩

theorem State.issues_mac (s : State) (c : Fin 16) (y : Cyc) (h : s.Ready c) (hloops : (s.core c).Unlooped) (hfits : (s.core c).Fits)
    (v w : Word) (z : Acc) (x q : List Word) (l : List Acc) (hpc : (s.core c).pc.toNat < 0x8000)
    (hsyl : (s.core c).syl (s.core c).pc.toNat = encodeSyl true (.m false macLow))
    (hx : (s.core c).set.x = v :: x) (hy : (s.core c).set.y = w :: q) (ha : (s.core c).set.a = z :: l) (p : Core → Prop)
    (hp : ∀ m e i o d, p { (s.core c).setStk ⟨x, q, macValue z v w :: l, (s.core c).set.f⟩ with
      pc := (s.core c).pc + 1, pmu := m, evq := e, lastPc := i, owed := o, yielded := d }) :
    s.Issues c y p := by
  have hneed : (⟨1, 1, 1, 0⟩ : Cnt).le (s.core c).stk.size = true := by
    rw [Core.stk, hx, hy, ha, Cnt.le_iff]
    simp [Stk.size]
  have hdata := (s.core c).afterData_mac (s.core c).pc.toNat (encodeSyl true (.m false macLow)) v w z x q l hx hy ha
  refine s.bundleIssue_issues c y h _ _ { (s.core c).setStk ⟨x, q, macValue z v w :: l, (s.core c).set.f⟩ with pc := (s.core c).pc + 1 }
    ((s.core c).fetches_one _ hpc hsyl ((s.core c).badSyl_first _ true _ rfl))
    (Bundle.ofWords_m _ _) rfl ((s.core c).clear_mac _ _ hneed hfits) (fun _ => nofun) ?_ p hp
  have hissued := (s.core c).issued_nop (.ofM (s.core c).pc.toNat (encodeSyl true (.m false macLow)) macLow) [] rfl
    (by rw [hdata]; exact hloops.setStk _)
  rw [hdata] at hissued
  rw [← nextIndex]
  exact hissued

/-! ### L syllables (R349) -/

/-- The bundle of one L syllable. -/
def Bundle.ofL (addr : Nat) (w : Word) (y : LSyl) : Bundle := ⟨addr, [w], none, none, none, some (w, y), none, 0⟩

theorem Bundle.ofWords_l (addr : Nat) (y : LSyl) :
    Bundle.ofWords addr [encodeSyl true (.l y)] = .ofL addr (encodeSyl true (.l y)) y := by
  simp only [Bundle.ofWords, List.foldl_cons, List.foldl_nil, Bundle.add, decodeSyl_encodeSyl, Bundle.ofL]

/-- The core after STX.W of v at its pointer, which then moves by d words. -/
def Core.stored32 (k : Core) (p : Nat) (d : BitVec 15) (v : Word) : Core :=
  ((k.taking ⟨1, 0, 0, 0⟩).setPtr p (k.ptr p + BitVec.ofInt 32 (d.toInt * 4))).store (k.ptr p).toNat (leBytes 4 v.toNat)

theorem Core.afterData_stx (k : Core) (addr : Nat) (wd : Word) (p : BitVec 3) (d : BitVec 15) (v : Word) (x : List Word) (hx : k.set.x = v :: x)
    (hown : (k.ptr p.toNat).toNat < 0x20000) : k.afterData (.ofL addr wd (.acc .stxW p 1 d)) [] = k.stored32 p.toNat d v := by
  let b := Bundle.ofL addr wd (.acc .stxW p 1 d)
  have hstored : k.stored b = leBytes 4 v.toNat := by
    have heval : k.stored b = leBytes 4 (k.set.x.getD 0 0).toNat := rfl
    rw [heval, hx]
    rfl
  have hafter : k.afterData b [] = if regionOf (k.ptr p.toNat).toNat = .x ∨ regionOf (k.ptr p.toNat).toNat = .y then
      (({ k.taking ⟨1, 0, 0, 0⟩ with
          set := { (k.taking ⟨1, 0, 0, 0⟩).set with
            t := k.set.t, flags := k.set.flags ||| BitVec.ofNat 5 0, satf := k.set.satf || false } } : Core).setPtr p.toNat
        (k.ptr p.toNat + BitVec.ofInt 32 (d.toInt * 4))).store (k.ptr p.toNat).toNat (k.stored b)
      else ({ k.taking ⟨1, 0, 0, 0⟩ with
          set := { (k.taking ⟨1, 0, 0, 0⟩).set with
            t := k.set.t, flags := k.set.flags ||| BitVec.ofNat 5 0, satf := k.set.satf || false } } : Core).setPtr p.toNat
        (k.ptr p.toNat + BitVec.ofInt 32 (d.toInt * 4)) := rfl
  rw [hafter, if_pos (regionOf_own _ hown), hstored, Core.taking, k.setStk_plain]
  rfl

theorem Core.privFault_x (k : Core) (addr : Nat) (wd : Word) (e : LSyl) (h : ∀ a ∈ (k.accesses e).1, a < 0x20000) :
    k.privFault (.ofL addr wd e) = none := by
  have hinL : (k.accesses e).1.any (fun a => regionOf a == .prog || regionOf a == .bar0) = false := by
    refine List.any_eq_false.mpr fun a ha => ?_
    obtain h | h := regionOf_own a (h a ha)
    · rw [h]; decide
    · rw [h]; decide
  have hfault : k.privFault (.ofL addr wd e) = if !k.set.u then none else
      (if (k.accesses e).1.any (fun a => regionOf a == .prog || regionOf a == .bar0) then some wd else none).orElse (fun _ => none)
        |>.map (fun w => (tcPriv, w)) := by
    rw [Core.privFault]
    rfl
  rw [hfault, hinL]
  exact ite_self _

/-- An aligned access of a core's own memories meets no fault where the stacks have the entries and the room. -/
theorem Core.clear_ofL (k : Core) (addr : Nat) (wd : Word) (e : LSyl) (hown : ∀ a ∈ (k.accesses e).1, a < 0x20000)
    (halign : ∀ a ∈ (k.accesses e).1, a % (k.accesses e).2.1 = 0) (hneed : e.effect.1.le k.stk.size = true)
    (hroom : (e.effect.2.add (k.stk.drop e.effect.1).size).le stackCap = true) : k.Clear (.ofL addr wd e) := by
  have hwhole : wholeEffect .zero (k.effects (.ofL addr wd e)) = (e.effect.1, e.effect.1, e.effect.2) := by
    have heffects : k.effects (.ofL addr wd e) = [(.zero, .zero, .zero), (.zero, .zero, .zero), (.zero, .zero, .zero),
      (e.effect.1, e.effect.1, e.effect.2), (.zero, .zero, .zero)] := rfl
    rw [heffects]
    simp only [wholeEffect, Cnt.zero_add, Cnt.add_zero, Cnt.max_zero, Cnt.zero_max, Cnt.max_self]
  exact ⟨k.faults_none _ rfl (k.privFault_x addr wd e hown) (k.stackFaults_none _ _ _ _ hwhole hneed hroom) rfl rfl rfl halign, hown, rfl⟩

theorem State.issues_stx (s : State) (c : Fin 16) (y : Cyc) (h : s.Ready c) (hloops : (s.core c).Unlooped) (hfits : (s.core c).Fits)
    (p : BitVec 3) (d : BitVec 15) (v : Word) (x : List Word) (hpc : (s.core c).pc.toNat < 0x8000)
    (hsyl : (s.core c).syl (s.core c).pc.toNat = encodeSyl true (.l (.acc .stxW p 1 d))) (hx : (s.core c).set.x = v :: x)
    (hown : ((s.core c).ptr p.toNat).toNat < 0x20000) (halign : ((s.core c).ptr p.toNat).toNat % 4 = 0) (pr : Core → Prop)
    (hp : ∀ m q l o z, pr { (s.core c).stored32 p.toNat d v with
      pc := (s.core c).pc + 1, pmu := m, evq := q, lastPc := l, owed := o, yielded := z }) :
    s.Issues c y pr := by
  have hneed : (⟨1, 0, 0, 0⟩ : Cnt).le (s.core c).stk.size = true := by
    rw [Core.stk, hx, Cnt.le_iff]
    simp [Stk.size]
  have hroom : ((⟨0, 0, 0, 0⟩ : Cnt).add ((s.core c).stk.drop ⟨1, 0, 0, 0⟩).size).le stackCap = true := by
    obtain ⟨h1, h2, h3, h4⟩ := hfits
    rw [Cnt.le_iff]
    simp only [Cnt.add, Stk.size, Stk.drop, Core.stk, List.length_drop, stackCap]
    omega
  have hone (a : Nat) (ha : a ∈ ((s.core c).accesses (.acc .stxW p 1 d)).1) : a = ((s.core c).ptr p.toNat).toNat := List.mem_singleton.mp ha
  have hdata := (s.core c).afterData_stx (s.core c).pc.toNat (encodeSyl true (.l (.acc .stxW p 1 d))) p d v x hx hown
  refine s.bundleIssue_issues c y h _ _ { (s.core c).stored32 p.toNat d v with pc := (s.core c).pc + 1 }
    ((s.core c).fetches_one _ hpc hsyl ((s.core c).badSyl_first _ true _ rfl)) (Bundle.ofWords_l _ _) rfl
    ((s.core c).clear_ofL _ _ _ (fun a ha => by rw [hone a ha]; exact hown) (fun a ha => by rw [hone a ha]; exact halign) hneed hroom)
    (fun _ => nofun) ?_ pr hp
  have hissued := (s.core c).issued_nop (.ofL (s.core c).pc.toNat (encodeSyl true (.l (.acc .stxW p 1 d))) (.acc .stxW p 1 d)) [] rfl
    (by rw [hdata]; exact ⟨hloops.loop0, hloops.loop1⟩)
  rw [hdata] at hissued
  rw [← nextIndex]
  exact hissued

theorem Core.afterData_ldx (k : Core) (addr : Nat) (wd : Word) (p : BitVec 3) (n : Nat) :
    k.afterData (.ofL addr wd (.acc .ldxW p 0 0)) [n] = k.setStk { k.stk with x := BitVec.ofNat 32 n :: k.set.x } := by
  have hafter : k.afterData (.ofL addr wd (.acc .ldxW p 0 0)) [n]
      = { k.setStk { k.stk with x := BitVec.ofNat 32 n :: k.set.x } with
          set := { (k.setStk { k.stk with x := BitVec.ofNat 32 n :: k.set.x }).set with
            t := k.set.t, flags := k.set.flags ||| BitVec.ofNat 5 0, satf := k.set.satf || false } } := rfl
  rw [hafter]
  exact k.setStk_plain _

theorem State.issues_ldx (s : State) (c : Fin 16) (y : Cyc) (h : s.Ready c) (hloops : (s.core c).Unlooped) (p : BitVec 3)
    (hfits : (⟨1, 0, 0, 0⟩ : Cnt).add (s.core c).stk.size |>.le stackCap) (hpc : (s.core c).pc.toNat < 0x8000)
    (hsyl : (s.core c).syl (s.core c).pc.toNat = encodeSyl true (.l (.acc .ldxW p 0 0)))
    (hown : ((s.core c).ptr p.toNat).toNat < 0x20000) (halign : ((s.core c).ptr p.toNat).toNat % 4 = 0) (pr : Core → Prop)
    (hp : ∀ m q l o z, pr { s.core c with
      set := { (s.core c).set with x := BitVec.ofNat 32 ((s.core c).load ((s.core c).ptr p.toNat).toNat 4) :: (s.core c).set.x }
      pc := (s.core c).pc + 1, pmu := m, evq := q, lastPc := l, owed := o, yielded := z }) :
    s.Issues c y pr := by
  let n := (s.core c).load ((s.core c).ptr p.toNat).toNat 4
  have hneed : Cnt.zero.le (s.core c).stk.size = true := by
    rw [Cnt.le_iff]
    exact ⟨Nat.zero_le _, Nat.zero_le _, Nat.zero_le _, Nat.zero_le _⟩
  have hone (a : Nat) (ha : a ∈ ((s.core c).accesses (.acc .ldxW p 0 0)).1) : a = ((s.core c).ptr p.toNat).toNat := List.mem_singleton.mp ha
  have hdata := (s.core c).afterData_ldx (s.core c).pc.toNat (encodeSyl true (.l (.acc .ldxW p 0 0))) p n
  refine s.bundleIssue_issues c y h _ _
    { (s.core c).setStk { (s.core c).stk with x := BitVec.ofNat 32 n :: (s.core c).set.x } with pc := (s.core c).pc + 1 }
    ((s.core c).fetches_one _ hpc hsyl ((s.core c).badSyl_first _ true _ rfl)) (Bundle.ofWords_l _ _) rfl
    ((s.core c).clear_ofL _ _ _ (fun a ha => by rw [hone a ha]; exact hown) (fun a ha => by rw [hone a ha]; exact halign) hneed hfits)
    (fun _ => nofun) ?_ pr hp
  have hissued := (s.core c).issued_nop (.ofL (s.core c).pc.toNat (encodeSyl true (.l (.acc .ldxW p 0 0))) (.acc .ldxW p 0 0)) [n] rfl
    (by rw [hdata]; exact hloops.setStk _)
  rw [hdata] at hissued
  rw [← nextIndex]
  exact hissued

end Sys2Proof.Machine

/-! Bundles of a C syllable that commit, frames of the return stack, and what a bundle does, unit by unit (R351 to R356, R386). -/

namespace Sys2Proof.Machine

open Sys2Proof.Fields Sys2Proof.Laws

/-! ### A core's own octets (R350) -/

/-- Octets read back from a block that has been stored. -/
theorem Core.bytes_store_part (k : Core) (a i n : Nat) (bs : List Byte) (h : i + n ≤ bs.length) :
    (k.store a bs).bytes (a + i) n = (bs.drop i).take n := by
  refine List.ext_getElem (by simp [Core.bytes]; omega) fun j hj hj' => ?_
  have hjn : j < n := by simpa [Core.bytes] using hj
  have hcell : tabGet 0#8 (k.store a bs).mem (a + i + j) = bs.getD (i + j) 0#8 := by
    rw [Core.store, tabGet_putBlock, if_pos (by omega)]
    congr 1
    omega
  rw [List.getElem_take, List.getElem_drop, ← List.getD_eq_getElem bs 0#8 (by omega), ← hcell]
  simp [Core.bytes]

theorem Core.load_store_word (k : Core) (a i : Nat) (ws : List Nat) (hi : i < ws.length) (hw : ∀ w ∈ ws, w < 2 ^ 32) :
    (k.store a (wordsBytes ws)).load (a + 4 * i) 4 = ws.getD i 0 := by
  rw [Core.load, k.bytes_store_part a (4 * i) 4 _ (by rw [length_wordsBytes]; omega), ← getD_bytesWords _ i (wordsBytes ws) hi,
    bytesWords_wordsBytes ws hw]

theorem Core.bytes_store_other (k : Core) (a x : Nat) (bs : List Byte) (h : x < a ∨ a + bs.length ≤ x) :
    (k.store a bs).bytes x 1 = k.bytes x 1 := by
  have hcell : tabGet 0#8 (k.store a bs).mem (x + 0) = tabGet 0#8 k.mem (x + 0) := by
    rw [Core.store, tabGet_putBlock, if_neg (by omega)]
  exact congrArg (fun b => [b]) hcell

/-! ### Frames (R354) -/

/-- The parts of a frame have one length each. -/
theorem length_flatMap_if {α : Type} (p : Nat → Bool) (f : Nat → List α) (n : Nat) (hf : ∀ i, (f i).length = n) (l : List Nat) :
    (l.flatMap (fun i => if p i then f i else [])).length = n * (l.filter p).length := by
  induction l with
  | nil => rfl
  | cons i l ih =>
    rw [List.flatMap_cons, List.length_append, ih, List.filter_cons]
    cases hp : p i with
    | true =>
      rw [if_pos rfl, if_pos rfl, hf, List.length_cons, Nat.mul_succ]
      omega
    | false => rw [if_neg (by decide), if_neg (by decide), List.length_nil, Nat.zero_add]

theorem Core.length_frameWords (k : Core) (mask : Nat) : (k.frameWords mask).length = maskWords mask := by
  have hptr := length_flatMap_if mask.testBit (fun n => [k.ptr n]) 1 (fun _ => rfl) (List.range 8)
  have hbase := length_flatMap_if (fun g => mask.testBit (8 + g))
    (fun g => [k.base (2 * g), k.len (2 * g), k.base (2 * g + 1), k.len (2 * g + 1)]) 4 (fun _ => rfl) (List.range 4)
  have hloop (b : Bool) (o : Bool) : (if b then
      [(k.loop o).cnt, (k.loop o).start.setWidth 32, (k.loop o).stop.setWidth 32] else ([] : List Word)).length = if b then 3 else 0 := by
    cases b <;> rfl
  have hsr (b : Bool) : (if b then [k.sr] else ([] : List Word)).length = if b then 1 else 0 := by cases b <;> rfl
  rw [Core.frameWords, maskWords, List.length_append, List.length_append, List.length_append, hptr, hbase, hsr, List.flatMap_cons,
    List.flatMap_cons, List.flatMap_nil, List.append_nil, List.length_append, hloop, hloop]
  simp only [Bool.false_eq_true, if_false, if_true, Nat.one_mul]
  omega

/-- The link word of a call: the mask, and the index of the return. -/
def linkWord (mask link : Nat) : Nat := mask * 2 ^ 16 + link % 2 ^ 15

theorem linkWord_mask (mask link : Nat) : linkWord mask link / 2 ^ 16 = mask := by
  unfold linkWord
  omega

theorem linkWord_lt (mask : BitVec 15) (link : Nat) : linkWord mask.toNat link < 2 ^ 32 := by
  have := mask.isLt
  unfold linkWord
  omega

/-- A frame that has been pushed: its place, and what stands in it. -/
theorem Core.pushFrame_holds (k : Core) (ws : List Word) (m : BitVec 15) (link : Nat) (hlen : ws.length = maskWords m.toNat)
    (hroom : 4 * (maskWords m.toNat + 1) ≤ k.rsp.toNat) :
    (k.pushFrame ws (linkWord m.toNat link)).rsp.toNat + 4 * (maskWords m.toNat + 1) = k.rsp.toNat
      ∧ (k.pushFrame ws (linkWord m.toNat link)).link = linkWord m.toNat link ∧ (k.pushFrame ws (linkWord m.toNat link)).frameAt = ws := by
  let words := linkWord m.toNat link :: ws.reverse.map BitVec.toNat
  let a := k.rsp.toNat - 4 * (ws.length + 1)
  have hword : ∀ w ∈ words, w < 2 ^ 32 := by
    refine List.forall_mem_cons.mpr ⟨linkWord_lt m link, fun w hw => ?_⟩
    obtain ⟨v, -, rfl⟩ := List.mem_map.mp hw
    exact v.isLt
  have hrsp : (k.pushFrame ws (linkWord m.toNat link)).rsp.toNat = a := by
    have ha : a < 2 ^ 32 := by have := k.rsp.isLt; omega
    exact (BitVec.toNat_ofNat a 32).trans (Nat.mod_eq_of_lt ha)
  have hload (i : Nat) (hi : i < words.length) : (k.pushFrame ws (linkWord m.toNat link)).load (a + 4 * i) 4 = words.getD i 0 :=
    k.load_store_word a i words hi hword
  have hlink : (k.pushFrame ws (linkWord m.toNat link)).link = linkWord m.toNat link := by
    rw [Core.link, hrsp]
    exact hload 0 (Nat.succ_pos _)
  refine ⟨?_, hlink, ?_⟩
  · rw [hrsp, ← hlen]
    have : a = k.rsp.toNat - 4 * (ws.length + 1) := rfl
    omega
  · rw [Core.frameAt, hlink, linkWord_mask, ← hlen, List.reverse_eq_iff]
    refine List.ext_getElem (by simp) fun i hi hi' => ?_
    have hiw : i < ws.reverse.length := hi'
    have hread : (k.pushFrame ws (linkWord m.toNat link)).load (a + 4 + 4 * i) 4 = (ws.reverse[i]).toNat := by
      have hplace : a + 4 + 4 * i = a + 4 * (i + 1) := by omega
      rw [hplace, hload (i + 1) (by simpa [words] using hiw), List.getD_cons_succ, List.getD_eq_getElem _ _ (by simpa using hiw),
        List.getElem_map]
    rw [List.getElem_map, List.getElem_range, hrsp, hread, BitVec.ofNat_toNat, BitVec.setWidth_eq]

/-! ### C syllables (R351 to R356) -/

theorem Core.issued_ofC (k u : Core) (addr : Nat) (w : Word) (y : CSyl) (more : List Word) (lit : BitVec 15) (hleave : ∀ r, y ≠ .movfc r)
    (hstarts : y.starts = none) (hcontrol : (k.taking y.effect.1).afterControl k (.ofC addr w y more lit) = u) (hloops : u.Unlooped) :
    k.issued (.ofC addr w y more lit) [] = u.transfer k (.ofC addr w y more lit) (addr + (more.length + 1)) := by
  rw [Core.issued, k.afterData_ofC addr w y more lit hleave, hcontrol, u.continue_idle (.ofC addr w y more lit) hstarts hloops]
  rfl

/-- A C syllable that reads no entry from beyond the stacks, and meets none of its own faults. -/
theorem Core.clear_ofC (k : Core) (addr : Nat) (w : Word) (y : CSyl) (more : List Word) (lit : BitVec 15) (h : k.Fits)
    (hx : y.effect.1.x ≤ k.set.x.length) (hleave : y.effect = (⟨y.effect.1.x, 0, 0, 0⟩, .zero))
    (hbrx : k.brxFault (.ofC addr w y more lit) = none) (hpriv : k.privFault (.ofC addr w y more lit) = none)
    (hcall : k.callOver (.ofC addr w y more lit) = none) (hunder : k.returnUnder (.ofC addr w y more lit) = none)
    (hstack : k.stackBus (.ofC addr w y more lit) = none) : k.Clear (.ofC addr w y more lit) :=
  ⟨k.faults_none _ hbrx hpriv (k.stackFaults_ofC addr w y more lit h hx hleave) rfl hcall hunder fun _ ha => absurd ha List.not_mem_nil,
    fun _ ha => absurd ha List.not_mem_nil, hstack⟩

/-- A C syllable of no privilege. -/
theorem Core.privFault_none (k : Core) (addr : Nat) (w : Word) (y : CSyl) (more : List Word) (lit : BitVec 15) (hreti : y ≠ .reti)
    (hto : ∀ r, y = .movtc r → r.userWrite = true) (hfrom : ∀ r, y ≠ .movfc r) : k.privFault (.ofC addr w y more lit) = none := by
  rw [Core.privFault]
  split
  · rfl
  · cases y with
    | reti => exact absurd rfl hreti
    | movtc r =>
      have hr := hto r rfl
      dsimp only [Bundle.ofC]
      rw [hr]
      rfl
    | movfc r => exact absurd rfl (hfrom r)
    | _ => rfl

theorem State.issues_c (s : State) (c : Fin 16) (y : Cyc) (h : s.Ready c) (e : CSyl) (hpc : (s.core c).pc.toNat < 0x8000)
    (hsyl : (s.core c).syl (s.core c).pc.toNat = encodeSyl true (.c e))
    (hlegal : (s.core c).badSyl [encodeSyl true (.c e)] none 0 (encodeSyl true (.c e)) = false) (hguard : ∀ q, e ≠ .guard q)
    (hclear : (s.core c).Clear (.ofC (s.core c).pc.toNat (encodeSyl true (.c e)) e [] 0)) (htrap : ∀ code, e ≠ .trap code) (k : Core)
    (hissued : (s.core c).issued (.ofC (s.core c).pc.toNat (encodeSyl true (.c e)) e [] 0) [] = k) (p : Core → Prop)
    (hp : ∀ m q l o z, p { k with pmu := m, evq := q, lastPc := l, owed := o, yielded := z }) :
    s.Issues c y p := by
  refine s.bundleIssue_issues c y h _ _ k ((s.core c).fetches_one _ hpc hsyl hlegal) (Bundle.ofWords_c _ _) ?_ hclear htrap hissued p hp
  unfold Bundle.predOff
  split
  next q hq => exact absurd hq (hguard q)
  next => rfl

theorem Core.issued_br (k : Core) (w : Word) (q : Cond) (off : BitVec 16) (hloops : k.Unlooped) :
    k.issued (.ofC k.pc.toNat w (.br q off) [] 0) [] = { k with pc := if q.holds k.set.t then k.pc + off else k.pc + 1 } := by
  have hbranch : k.branchTo (.ofC k.pc.toNat w (.br q off) [] 0) = if q.holds k.set.t then some (k.pc + off) else none := by
    rw [← offsetIndex]
    rfl
  have hcontrol : (k.taking (CSyl.br q off).effect.1).afterControl k (.ofC k.pc.toNat w (.br q off) [] 0) = k := by
    have hrun : (k.taking (CSyl.br q off).effect.1).afterControl k (.ofC k.pc.toNat w (.br q off) [] 0)
        = match k.branchTo (.ofC k.pc.toNat w (.br q off) [] 0) with
          | some t => k.branchLoops t.toNat
          | none => k := rfl
    rw [hrun]
    split
    · exact k.branchLoops_idle _ hloops
    · rfl
  rw [k.issued_ofC k _ _ (.br q off) _ _ (fun _ => nofun) rfl hcontrol hloops]
  have htransfer (n : Nat) : k.transfer k (.ofC k.pc.toNat w (.br q off) [] 0) n
      = match k.branchTo (.ofC k.pc.toNat w (.br q off) [] 0) with
        | some t => { k with pc := t }
        | none => { k with pc := BitVec.ofNat 16 n } := rfl
  rw [htransfer, hbranch]
  cases q.holds k.set.t with
  | true => rfl
  | false => exact congrArg (fun i => { k with pc := i }) (nextIndex k.pc)

theorem maskWords_zero : maskWords 0 = 0 := by decide

/-- A frame of no words but its link leaves the core as it was, with RSP above it. -/
theorem Core.popFrame_empty (k old : Core) (h : old.link / 2 ^ 16 = 0) : k.popFrame old = { k with rsp := old.rsp + 4 } := by
  have htake (ws : List Word) : k.takeBack 0 ws = k := by simp [Core.takeBack]
  rw [Core.popFrame, h, htake, maskWords_zero]
  rfl

theorem Core.issued_ret (k : Core) (w : Word) (h : k.link / 2 ^ 16 = 0) (hloops : k.Unlooped) :
    k.issued (.ofC k.pc.toNat w .ret [] 0) [] = { k with rsp := k.rsp + 4, pc := BitVec.ofNat 16 (k.link % 2 ^ 15) } := by
  have hcontrol : (k.taking CSyl.ret.effect.1).afterControl k (.ofC k.pc.toNat w .ret [] 0) = { k with rsp := k.rsp + 4 } := k.popFrame_empty k h
  rw [k.issued_ofC { k with rsp := k.rsp + 4 } _ _ .ret _ _ (fun _ => nofun) rfl hcontrol ⟨hloops.loop0, hloops.loop1⟩]
  rfl

theorem Core.clear_ret (k : Core) (addr : Nat) (w : Word) (hfits : k.Fits) (hbad : k.badStack = none) (hrsp : k.rsp.toNat < k.rsb.toNat)
    (hlink : k.link / 2 ^ 16 = 0) (hown : k.rsp.toNat + 4 ≤ 0x20000) : k.Clear (.ofC addr w .ret [] 0) := by
  have hunder : k.retUnder = none := if_neg (by rw [BitVec.le_def]; omega)
  have hbus : k.retBus = none := by
    rw [Core.retBus, hbad, hlink, maskWords_zero]
    exact if_neg (by unfold progBase; omega)
  exact k.clear_ofC addr w .ret [] 0 hfits (Nat.zero_le _) rfl rfl (k.privFault_none addr w .ret [] 0 nofun (fun _ => nofun) (fun _ => nofun)) rfl
    hunder hbus

/-- SR as user mode writes it: T, FRM, FLAGS and SATF alone (R341). -/
theorem Core.issued_movtc (k : Core) (w v : Word) (x : List Word) (hx : k.set.x = v :: x) (huser : k.set.u = true) (hloops : k.Unlooped) :
    k.issued (.ofC k.pc.toNat w (.movtc .sr) [] 0) [] = { k with
      set := { k.set with x := x, t := v.getLsbD 0, frm := v.extractLsb' 6 2, flags := v.extractLsb' 8 5, satf := v.getLsbD 13 }
      pc := k.pc + 1 } := by
  have harg : k.cArg (.ofC k.pc.toNat w (.movtc .sr) [] 0) = v := by
    rw [Core.cArg, Core.seenBy, (k.usedBefore_ofC _ _ _ _ _).1]
    have hhead : (k.stk.drop .zero).x.getD 0 0 = k.set.x.getD 0 0 := rfl
    rw [hhead, hx]
    rfl
  have htaking : k.taking (CSyl.movtc .sr).effect.1 = { k with set := { k.set with x := x } } := by
    have hdrop : k.taking (CSyl.movtc .sr).effect.1 = { k with set := { k.set with x := k.set.x.drop 1 } } := rfl
    rw [hdrop, hx]
    rfl
  have hcontrol : (k.taking (CSyl.movtc .sr).effect.1).afterControl k (.ofC k.pc.toNat w (.movtc .sr) [] 0) = { k with
      set := { k.set with x := x, t := v.getLsbD 0, frm := v.extractLsb' 6 2, flags := v.extractLsb' 8 5, satf := v.getLsbD 13 } } := by
    have hrun : (k.taking (CSyl.movtc .sr).effect.1).afterControl k (.ofC k.pc.toNat w (.movtc .sr) [] 0)
        = (k.taking (CSyl.movtc .sr).effect.1).writeSr (k.cArg (.ofC k.pc.toNat w (.movtc .sr) [] 0)) := rfl
    rw [hrun, harg, htaking]
    exact if_pos huser
  rw [k.issued_ofC _ _ _ (.movtc .sr) _ _ (fun _ => nofun) rfl hcontrol ⟨hloops.loop0, hloops.loop1⟩, ← nextIndex]
  rfl

theorem Core.issued_yield (k : Core) (w : Word) (hlevels : k.levels = []) (hloops : k.Unlooped) :
    k.issued (.ofC k.pc.toNat w .yield [] 0) [] = { k with wait := true, pc := k.pc + 1 } := by
  have hcontrol : (k.taking CSyl.yield.effect.1).afterControl k (.ofC k.pc.toNat w .yield [] 0) = k := rfl
  rw [k.issued_ofC k _ _ .yield _ _ (fun _ => nofun) rfl hcontrol hloops]
  have htransfer (n : Nat) : k.transfer k (.ofC k.pc.toNat w .yield [] 0) n
      = if k.levels.isEmpty then { k with pc := BitVec.ofNat 16 n, wait := true } else { k with th := false }.leaveHandler k := rfl
  rw [htransfer, hlevels, ← nextIndex]
  rfl

theorem Core.clear_yield (k : Core) (addr : Nat) (w : Word) (hfits : k.Fits) (hlevels : k.levels = []) : k.Clear (.ofC addr w .yield [] 0) := by
  have hunder : k.returnUnder (.ofC addr w .yield [] 0) = none := by
    have hrun : k.returnUnder (.ofC addr w .yield [] 0)
        = if false || decide (k.levels.length < 2) then none else ({ k with th := false } : Core).retUnder := rfl
    rw [hrun, hlevels]
    rfl
  have hbus : k.stackBus (.ofC addr w .yield [] 0) = none := by
    have hrun : k.stackBus (.ofC addr w .yield [] 0)
        = if false || decide (k.levels.length < 2) then none else ({ k with th := false } : Core).retBus := rfl
    rw [hrun, hlevels]
    rfl
  exact k.clear_ofC addr w .yield [] 0 hfits (Nat.zero_le _) rfl rfl (k.privFault_none addr w .yield [] 0 nofun (fun _ => nofun) (fun _ => nofun))
    rfl hunder hbus

theorem Core.legal_yield (k : Core) (hlevels : k.levels = []) :
    k.badSyl [encodeSyl true (.c .yield)] none 0 (encodeSyl true (.c .yield)) = false := by
  have hmay : k.mayYield = true := by rw [Core.mayYield, hlevels]
  rw [Core.badSyl, decodeSyl_encodeSyl]
  dsimp only
  rw [hmay]
  rfl

/-! ### Bundles of two words: GUARD and CALL (R352, R354) -/

/-- An ADD under a GUARD. -/
def Bundle.guarded (addr : Nat) (q : Cond) : Bundle :=
  ⟨addr, [encodeSyl false (.a (.plain .add)), encodeSyl true (.c (.guard q))], none, none,
    some (encodeSyl false (.a (.plain .add)), .plain .add), none, some (encodeSyl true (.c (.guard q)), .guard q), 0⟩

theorem Bundle.add_a (b : Bundle) (stop : Bool) (y : ASyl) : b.add (encodeSyl stop (.a y)) = { b with a := some (encodeSyl stop (.a y), y) } := by
  rw [Bundle.add, decodeSyl_encodeSyl]

theorem Bundle.add_c (b : Bundle) (stop : Bool) (y : CSyl) : b.add (encodeSyl stop (.c y)) = { b with c := some (encodeSyl stop (.c y), y) } := by
  rw [Bundle.add, decodeSyl_encodeSyl]

theorem Bundle.add_lit (b : Bundle) (stop : Bool) (i : BitVec 15) : b.add (encodeSyl stop (.lit i)) = { b with lit := i } := by
  rw [Bundle.add, decodeSyl_encodeSyl]

theorem Bundle.ofWords_guarded (addr : Nat) (q : Cond) :
    Bundle.ofWords addr [encodeSyl false (.a (.plain .add)), encodeSyl true (.c (.guard q))] = .guarded addr q := by
  rw [Bundle.ofWords, List.foldl_cons, List.foldl_cons, List.foldl_nil, Bundle.add_a, Bundle.add_c, Bundle.guarded]

theorem Core.legal_guard (k : Core) (q : Cond) :
    k.badSyl [encodeSyl false (.a (.plain .add)), encodeSyl true (.c (.guard q))] (some (Syl.a (.plain .add)).unit) 1
      (encodeSyl true (.c (.guard q))) = false := by
  rw [Core.badSyl, decodeSyl_encodeSyl]
  rfl

theorem Bundle.ofWords_call (addr : Nat) (m i : BitVec 15) : Bundle.ofWords addr [encodeSyl false (.c (.call m)), encodeSyl true (.lit i)]
    = .ofC addr (encodeSyl false (.c (.call m))) (.call m) [encodeSyl true (.lit i)] i := by
  rw [Bundle.ofWords, List.foldl_cons, List.foldl_cons, List.foldl_nil, Bundle.add_c, Bundle.add_lit, Bundle.ofC]

/-- A CALL and its literal are legal together. -/
theorem Core.legal_call (k : Core) (m i : BitVec 15) :
    k.badSyl [encodeSyl false (.c (.call m)), encodeSyl true (.lit i)] none 0 (encodeSyl false (.c (.call m))) = false
    ∧ k.badSyl [encodeSyl false (.c (.call m)), encodeSyl true (.lit i)] (some (Syl.c (.call m)).unit) 1 (encodeSyl true (.lit i)) = false := by
  have hlit : [encodeSyl false (.c (.call m)), encodeSyl true (.lit i)].any (fun v => unitOf v == 5) = true :=
    List.any_eq_true.mpr ⟨_, List.mem_cons_of_mem _ (List.mem_singleton_self _), beq_iff_eq.mpr (unit_encodeSyl true (.lit i))⟩
  have hcall : [encodeSyl false (.c (.call m)), encodeSyl true (.lit i)].any isCall = true :=
    List.any_eq_true.mpr ⟨_, List.mem_cons_self, by rw [isCall, decodeSyl_encodeSyl]⟩
  constructor
  · rw [Core.badSyl, decodeSyl_encodeSyl]
    dsimp only
    rw [hlit]
    rfl
  · rw [Core.badSyl, decodeSyl_encodeSyl]
    dsimp only
    rw [hcall]
    rfl

/-- A bundle that is predicated off goes on to the next one, and nothing else changes. -/
theorem State.issues_guard (s : State) (c : Fin 16) (y : Cyc) (h : s.Ready c) (hloops : (s.core c).Unlooped) (q : Cond)
    (hpc : (s.core c).pc.toNat + 1 < 0x8000) (hfirst : (s.core c).syl (s.core c).pc.toNat = encodeSyl false (.a (.plain .add)))
    (hsecond : (s.core c).syl ((s.core c).pc.toNat + 1) = encodeSyl true (.c (.guard q))) (hoff : q.holds (s.core c).set.t = false)
    (p : Core → Prop) (hp : ∀ m e, p { s.core c with pc := (s.core c).pc + 2, pmu := m, evq := e }) :
    s.Issues c y p := by
  let b := Bundle.guarded (s.core c).pc.toNat q
  have hb := Bundle.ofWords_guarded (s.core c).pc.toNat q
  have hf := (s.core c).fetches_two _ _ hpc hfirst hsecond ((s.core c).badSyl_first _ false _ rfl) ((s.core c).legal_guard q)
  have hpred : b.predOff (s.core c).set.t = true := by
    have hguard : b.predOff (s.core c).set.t = !q.holds (s.core c).set.t := rfl
    rw [hguard, hoff]
    rfl
  have hrun : s.issueBundle c y = s.bundleOff c y b := by
    rw [s.issueBundle_off c y h _ hf (by rw [hb]; exact hpred), hb]
  refine ⟨_, rfl, ?_⟩
  rw [hrun, State.bundleOff]
  dsimp only
  rw [(s.core c).continue_idle b rfl hloops]
  refine ⟨?_, (s.tallies_countIssue c y b true 0 0 _ c.isLt).mem⟩
  rw [State.commitCore, State.core_setCore_same]
  have hstop : b.stop = (s.core c).pc.toNat + 2 := rfl
  rw [hstop, secondIndex]
  exact hp _ _

/-- The core after a call. -/
def Core.called (k : Core) (m i : BitVec 15) : Core :=
  { (({ k with pc := k.pc + 2 } : Core).pushFrame (k.frameWords m.toNat) (linkWord m.toNat (k.pc.toNat + 2))) with pc := i.setWidth 16 }

theorem State.issues_call (s : State) (c : Fin 16) (y : Cyc) (h : s.Ready c) (hloops : (s.core c).Unlooped) (hfits : (s.core c).Fits)
    (m i : BitVec 15) (hpc : (s.core c).pc.toNat + 1 < 0x8000) (hfirst : (s.core c).syl (s.core c).pc.toNat = encodeSyl false (.c (.call m)))
    (hsecond : (s.core c).syl ((s.core c).pc.toNat + 1) = encodeSyl true (.lit i)) (hbad : (s.core c).badStack = none)
    (hroom : (s.core c).rsl.toNat + 4 * (maskWords m.toNat + 1) ≤ (s.core c).rsp.toNat) (p : Core → Prop)
    (hp : ∀ n q l o z, p { (s.core c).called m i with pmu := n, evq := q, lastPc := l, owed := o, yielded := z }) :
    s.Issues c y p := by
  let k := s.core c
  let b := Bundle.ofC k.pc.toNat (encodeSyl false (.c (.call m))) (.call m) [encodeSyl true (.lit i)] i
  obtain ⟨hlegal, hlegal'⟩ := k.legal_call m i
  have hover : k.callOver b = none := by
    have hrun : k.callOver b = if k.overflows (maskWords m.toNat + 1) then some (tcRsovf, k.rsp) else none := rfl
    rw [hrun]
    refine if_neg ?_
    rw [Core.overflows, decide_eq_true_eq]
    exact Nat.not_lt.mpr hroom
  have hstack : k.stackBus b = none := by
    have hrun : k.stackBus b = k.badStack.map (fun v => (tcBus, v)) := rfl
    rw [hrun, hbad]
    rfl
  have hclear : k.Clear b := k.clear_ofC _ _ (.call m) _ _ hfits (Nat.zero_le _) rfl rfl
    (k.privFault_none _ _ (.call m) _ _ nofun (fun _ => nofun) (fun _ => nofun)) hover rfl hstack
  have hissued : k.issued b [] = k.called m i := by
    rw [k.issued_ofC k _ _ (.call m) _ _ (fun _ => nofun) rfl rfl hloops]
    have hgo (n : Nat) : k.transfer k b n = { (({ k with pc := BitVec.ofNat 16 n } : Core).pushFrame (k.frameWords m.toNat)
        (linkWord m.toNat n)) with pc := i.setWidth 16 } := rfl
    have hstop : k.pc.toNat + ([encodeSyl true (.lit i)].length + 1) = k.pc.toNat + 2 := rfl
    rw [hstop, hgo, secondIndex, Core.called]
  exact s.bundleIssue_issues c y h _ b _ (k.fetches_two _ _ hpc hfirst hsecond hlegal hlegal') (Bundle.ofWords_call _ m i)
    rfl hclear (fun _ => nofun) hissued p hp

end Sys2Proof.Machine

/-! What a bundle of a running core does, unit by unit (O55). -/

namespace Sys2Proof.Machine

open Sys2Proof.Fields Sys2Proof.Laws

/-! ### Operations on two X entries (R348) -/

/-- An operation that takes two X entries and leaves at most one has its entries and its room. -/
theorem Core.room_two (k : Core) (a b : Word) (x : List Word) (n : Nat) (hx : k.set.x = b :: a :: x) (hlen : x.length ≤ 14) (hn : n ≤ 1)
    (hy : k.set.y.length ≤ 16) (ha : k.set.a.length ≤ 8) (hf : k.set.f.length ≤ 8) :
    (⟨2, 0, 0, 0⟩ : Cnt).le k.stk.size = true ∧ ((⟨n, 0, 0, 0⟩ : Cnt).add (k.stk.drop ⟨2, 0, 0, 0⟩).size).le stackCap = true := by
  have hstk : k.stk = ⟨b :: a :: x, k.set.y, k.set.a, k.set.f⟩ := by rw [Core.stk, hx]
  rw [hstk, Cnt.le_iff, Cnt.le_iff]
  simp only [Cnt.add, Stk.size, Stk.drop, stackCap, List.length_cons, List.drop_succ_cons, List.drop_zero]
  omega

/-- Where X holds at most 15 entries, it has room for one. -/
theorem Core.room_one (k : Core) (hx : k.set.x.length ≤ 15) (hy : k.set.y.length ≤ 16) (ha : k.set.a.length ≤ 8) (hf : k.set.f.length ≤ 8) :
    ((⟨1, 0, 0, 0⟩ : Cnt).add k.stk.size).le stackCap = true := by
  rw [Cnt.le_iff]
  simp only [Cnt.add, Stk.size, Core.stk, stackCap]
  omega

/-- What an operation on two X entries leaves of X and of T. -/
theorem State.issues_two (s : State) (c : Fin 16) (y : Cyc) (h : s.Ready c) (hloops : (s.core c).Unlooped) (op : AOp) (n : Nat) (a b : Word)
    (x : List Word) (heffect : (ASyl.plain op).effect = (⟨2, 0, 0, 0⟩, ⟨n, 0, 0, 0⟩)) (hn : n ≤ 1)
    (hpc : (s.core c).pc.toNat < 0x8000) (hsyl : (s.core c).syl (s.core c).pc.toNat = encodeSyl true (.a (.plain op)))
    (hx : (s.core c).set.x = b :: a :: x) (hlen : x.length ≤ 14) (hy : (s.core c).set.y.length ≤ 16) (ha : (s.core c).set.a.length ≤ 8)
    (hf : (s.core c).set.f.length ≤ 8) :
    s.Issues c y (fun u => u.set.x = (op.eval (s.core c).set.frm.toNat ⟨[b, a], [], [], []⟩).out.x ++ x
      ∧ u.set.t = (op.eval (s.core c).set.frm.toNat ⟨[b, a], [], [], []⟩).t.getD (s.core c).set.t) := by
  obtain ⟨hneed, hroom⟩ := (s.core c).room_two a b x n hx hlen hn hy ha hf
  have hstk : (s.core c).stk = ⟨b :: a :: x, (s.core c).set.y, (s.core c).set.a, (s.core c).set.f⟩ := by rw [Core.stk, hx]
  refine s.issues_a c y h hloops (.plain op) (fun _ _ => nofun) hpc hsyl (by rw [heffect]; exact hneed) (by rw [heffect]; exact hroom)
    _ fun _ _ _ _ _ => ?_
  rw [heffect, hstk]
  exact ⟨rfl, rfl⟩

/-! ### STX.W (R349) -/

/-- After STX.W its word stands at the pointer, and every other octet as before. -/
theorem Core.stored32_holds (k : Core) (p : Nat) (d : BitVec 15) (v : Word) : (k.stored32 p d v).load (k.ptr p).toNat 4 = v.toNat
    ∧ (k.stored32 p d v).ptr p = k.ptr p + BitVec.ofInt 32 (4 * d.toInt)
    ∧ ∀ a, a < (k.ptr p).toNat ∨ (k.ptr p).toNat + 4 ≤ a → (k.stored32 p d v).bytes a 1 = k.bytes a 1 := by
  refine ⟨?_, ?_, fun a ha => ?_⟩
  · have hpart := ((k.taking ⟨1, 0, 0, 0⟩).setPtr p (k.ptr p + BitVec.ofInt 32 (d.toInt * 4))).bytes_store_part (k.ptr p).toNat 0 4
      (leBytes 4 v.toNat) (by rw [length_leBytes])
    have htake : (leBytes 4 v.toNat).take 4 = leBytes 4 v.toNat := List.take_of_length_le (by rw [length_leBytes])
    rw [Core.load, Core.stored32]
    refine (congrArg ofLeBytes (hpart.trans htake)).trans ((ofLeBytes_leBytes 4 _).trans (Nat.mod_eq_of_lt v.isLt))
  · rw [Int.mul_comm]
    exact tabGet_set_same 0 p _ k.set.p
  · exact Core.bytes_store_other _ _ _ _ (by rw [length_leBytes]; exact ha)

/-! ### O55 -/

/-- Settles O55: a bundle outside loops that meets no fault leaves its core as its one syllable's operation makes it, for counters and samples
change neither its registers nor any memory. -/
theorem bundleExecution : Obligations.BundleExecution := by
  intro s c y k one two issues rest same
  have hissues (p : Core → Prop) (hp : s.Issues c y p) : issues p := hp
  clear_value issues
  refine ⟨fun hidle => congrArg Host.Outcome.next (s.issueBundle_idle c y hidle), fun hruns hhalted hwait hdue h0 h1 => ?_⟩
  have h : s.Ready c := ⟨hruns, hhalted, hwait, hdue⟩
  have hloops : (s.core c).Unlooped := ⟨h0, h1⟩
  refine ⟨?_, ?_, ?_, ?_, ?_, ?_, ?_, ?_, ?_, ?_, ?_⟩
  case refine_1 =>
    rintro e he ⟨hpc, hsyl⟩ hneed hroom
    exact hissues _ <| s.issues_a c y h hloops e he hpc hsyl hneed hroom _ fun _ _ _ _ _ => ⟨rfl, rfl, rfl, rfl, rfl, rfl, rfl, rfl, rfl⟩
  case refine_2 =>
    intro a b x hx hlen hy ha hf
    exact ⟨fun ⟨hpc, hsyl⟩ => hissues _ <| s.issues_two c y h hloops .add 1 a b x rfl (by decide) hpc hsyl hx hlen hy ha hf,
      fun ⟨hpc, hsyl⟩ => hissues _ <| s.issues_two c y h hloops .sub 1 a b x rfl (by decide) hpc hsyl hx hlen hy ha hf,
      fun ⟨hpc, hsyl⟩ => hissues _ <| s.issues_two c y h hloops .cmplt 0 a b x rfl (by decide) hpc hsyl hx hlen hy ha hf⟩
  case refine_3 =>
    rintro v w z x q l ⟨hpc, hsyl⟩ hx hy ha hlx hlq hll hf
    have hfits : (s.core c).Fits := by
      constructor
      · rw [hx, List.length_cons]; omega
      · rw [hy, List.length_cons]; omega
      · rw [ha, List.length_cons]; omega
      · exact hf
    exact hissues _ <| s.issues_mac c y h hloops hfits v w z x q l hpc hsyl hx hy ha _
      fun _ _ _ _ _ => ⟨rfl, rfl, rfl, ⟨rfl, rfl, rfl, rfl, rfl, rfl⟩, rfl⟩
  case refine_4 =>
    rintro p d v x ⟨hpc, hsyl⟩ hx hlen hy ha hf hown halign
    have hfits : (s.core c).Fits := ⟨by rw [hx, List.length_cons]; omega, hy, ha, hf⟩
    obtain ⟨hload, hptr, hother⟩ := (s.core c).stored32_holds p.toNat d v
    refine hissues _ <| s.issues_stx c y h hloops hfits p d v x hpc hsyl hx (Nat.lt_trans hown (by decide)) halign _
      fun _ _ _ _ _ => ⟨?_, hload, rfl, ⟨rfl, rfl, rfl, rfl⟩, rfl, hptr, hother⟩
    exact congrArg (List.drop 1) hx
  case refine_5 =>
    rintro p ⟨hpc, hsyl⟩ hx hy ha hf hown halign
    exact hissues _ <| s.issues_ldx c y h hloops p ((s.core c).room_one hx hy ha hf) hpc hsyl hown halign _
      fun _ _ _ _ _ => ⟨rfl, rfl, rfl, rfl, rfl, rfl, rfl, rfl⟩
  case refine_6 =>
    rintro q off ⟨hpc, hsyl⟩ hx hy ha hf
    have hclear := (s.core c).clear_ofC (s.core c).pc.toNat (encodeSyl true (.c (.br q off))) (.br q off) [] 0 ⟨hx, hy, ha, hf⟩ (Nat.zero_le _)
      rfl rfl ((s.core c).privFault_none _ _ (.br q off) _ _ nofun (fun _ => nofun) (fun _ => nofun)) rfl rfl rfl
    exact hissues _ <| s.issues_c c y h (.br q off) hpc hsyl ((s.core c).badSyl_first _ true _ rfl) (fun _ => nofun) hclear (fun _ => nofun) _
      ((s.core c).issued_br _ q off hloops) _ fun _ _ _ _ _ => ⟨rfl, ⟨rfl, rfl, rfl, rfl, rfl, rfl⟩, rfl⟩
  case refine_7 =>
    rintro q ⟨hpc, hfirst, hsecond⟩ hoff
    exact hissues _ <| s.issues_guard c y h hloops q hpc hfirst hsecond hoff _ fun _ _ => ⟨rfl, ⟨rfl, rfl, rfl, rfl, rfl, rfl⟩, rfl⟩
  case refine_8 =>
    rintro m i ⟨hpc, hfirst, hsecond⟩ hbad hroom hx hy ha hf
    obtain ⟨hrsp, hlink, hframe⟩ := ({ s.core c with pc := (s.core c).pc + 2 } : Core).pushFrame_holds ((s.core c).frameWords m.toNat) m
      ((s.core c).pc.toNat + 2) ((s.core c).length_frameWords m.toNat) (Nat.le_trans (Nat.le_add_left _ _) hroom)
    exact hissues _ <| s.issues_call c y h hloops ⟨hx, hy, ha, hf⟩ m i hpc hfirst hsecond hbad hroom _
      fun _ _ _ _ _ => ⟨rfl, rfl, ⟨rfl, rfl, rfl, rfl⟩, hrsp, hlink, hframe⟩
  case refine_9 =>
    rintro ⟨hpc, hsyl⟩ hbad hrsp hlink hown hx hy ha hf
    have hindex : (BitVec.ofNat 16 ((s.core c).link % 2 ^ 15)).toNat = (s.core c).link % 2 ^ 15 := by
      rw [BitVec.toNat_ofNat]
      omega
    exact hissues _ <| s.issues_c c y h .ret hpc hsyl ((s.core c).badSyl_first _ true _ rfl) (fun _ => nofun)
      ((s.core c).clear_ret _ _ ⟨hx, hy, ha, hf⟩ hbad hrsp hlink hown) (fun _ => nofun) _ ((s.core c).issued_ret _ hlink hloops) _
      fun _ _ _ _ _ => ⟨hindex, rfl, rfl, rfl, ⟨rfl, rfl, rfl, rfl⟩⟩
  case refine_10 =>
    rintro v x ⟨hpc, hsyl⟩ huser hx hlen hy ha hf
    have hfits : (s.core c).Fits := ⟨by rw [hx, List.length_cons]; omega, hy, ha, hf⟩
    have hclear := (s.core c).clear_ofC (s.core c).pc.toNat (encodeSyl true (.c (.movtc .sr))) (.movtc .sr) [] 0 hfits
      (by rw [hx]; exact Nat.succ_pos _) rfl rfl
      ((s.core c).privFault_none _ _ (.movtc .sr) _ _ nofun (fun r hr => by cases hr; rfl) (fun _ => nofun)) rfl rfl rfl
    exact hissues _ <| s.issues_c c y h (.movtc .sr) hpc hsyl ((s.core c).badSyl_first _ true _ rfl) (fun _ => nofun) hclear (fun _ => nofun) _
      ((s.core c).issued_movtc _ v x hx huser hloops) _ fun _ _ _ _ _ => ⟨⟨rfl, rfl, rfl, rfl, rfl, rfl⟩, rfl, rfl, rfl⟩
  case refine_11 =>
    rintro ⟨hpc, hsyl⟩ hlevels hx hy ha hf
    exact hissues _ <| s.issues_c c y h .yield hpc hsyl ((s.core c).legal_yield hlevels) (fun _ => nofun)
      ((s.core c).clear_yield _ _ ⟨hx, hy, ha, hf⟩ hlevels) (fun _ => nofun) _ ((s.core c).issued_yield _ hlevels hloops) _
      fun _ _ _ _ _ => ⟨rfl, rfl, rfl, ⟨rfl, rfl, rfl, rfl, rfl, rfl⟩⟩

end Sys2Proof.Machine
